-- ==== Sys2Proof/Machine/Tab.lean ====
section
/-! DEFINITION. The one container of the state: a finite table from a number (an address, an index) to a value, held in
one canonical form: keys strictly rising, and no entry equal to what an unlisted key reads as. Equal tables are
then equal data, and nothing in the state has a function type. -/

namespace Sys2Proof.Machine

/-- A table of (key, value) pairs. -/
abbrev Tab (α : Type) := List (Nat × α)

/-- The value at key `k`; an unlisted key reads as `d`. -/
def Tab.get {α : Type} (d : α) (k : Nat) : Tab α → α
  | [] => d
  | (j, v) :: rest => if k = j then v else Tab.get d k rest

/-- The table with `v` placed at key `k`, whatever `v` is. -/
def Tab.put {α : Type} (k : Nat) (v : α) : Tab α → Tab α
  | [] => [(k, v)]
  | (j, w) :: rest =>
    if k < j then (k, v) :: (j, w) :: rest
    else if k = j then (k, v) :: rest
    else (j, w) :: Tab.put k v rest

/-- The table without any entry at key `k`. -/
def Tab.del {α : Type} (k : Nat) : Tab α → Tab α
  | [] => []
  | (j, w) :: rest => if k = j then Tab.del k rest else (j, w) :: Tab.del k rest

/-- Write `v` at key `k`: the value an unlisted key reads as removes the entry. -/
def Tab.set {α : Type} [DecidableEq α] (d : α) (k : Nat) (v : α) (t : Tab α) : Tab α :=
  if v = d then Tab.del k t else Tab.put k v t

/-- Every key of the table lies above `lo`, they rise strictly, and no entry equals `d`. -/
def Tab.wfFrom {α : Type} [DecidableEq α] (d : α) : Nat → Tab α → Bool
  | _, [] => true
  | lo, (j, v) :: rest => decide (lo ≤ j) && decide (v ≠ d) && Tab.wfFrom d (j + 1) rest

/-- The canonical form of a table whose unlisted keys read as `d`. -/
def Tab.wf {α : Type} [DecidableEq α] (d : α) (t : Tab α) : Bool := Tab.wfFrom d 0 t

/-- Update the entry at key `k` by `f`. -/
def Tab.upd {α : Type} [DecidableEq α] (d : α) (k : Nat) (f : α → α) (t : Tab α) : Tab α :=
  Tab.set d k (f (Tab.get d k t)) t

end Sys2Proof.Machine
end

