-- ==== Sys2Proof/Word.lean ====
section
/-! DEFINITION. The words the three parts compute with. -/

namespace Sys2Proof

/-- One byte of memory. -/
abbrev Byte := BitVec 8

/-- One register word, and one register of a Thimir core. -/
abbrev Word := BitVec 32

/-- One 128-bit command slot (R112). -/
abbrev CmdSlot := BitVec 128

/-- One 192-bit report slot (R113). -/
abbrev RepSlot := BitVec 192

end Sys2Proof
end

