-- ==== Sys2Proof/Machine/PartCas.lean ====
section
/-! DEFINITION. The state of duty, standby, castling and the ledger that no register field shows (R370 to R398). -/

namespace Sys2Proof.Machine

/-- Envelope of a castle message (R377): sequence and duty claim of its sender, and whether its MCRC passes and its fields hold no
reserved value. -/
structure Envelope where
  cseq : BitVec 16
  claim : Bool
  ok : Bool
deriving DecidableEq, Repr

/-- Content of a STATE message (R378). -/
structure StateMsg where
  tick : BitVec 48
  claim : Bool
  ready : Bool
  able : Bool
  cond : BitVec 8
  imgId : Word
  imgVer : Word
  mode : BitVec 2
  missed : Option (BitVec 48)
  /-- GEN and tick of the sender's latest state image (R489) -/
  gen : BitVec 64
  imgTick : BitVec 48
deriving DecidableEq, Repr

/-- One range of the ledger: system address and length (R323, R387), the item that marked it, and whether that item has ended. -/
structure Range where
  addr : Nat
  len : Nat
  task : Nat := 0
  tick : Nat := 0
  ended : Bool := true
deriving DecidableEq, Repr

/-- One entry of an epoch: where its bytes belong, and the bytes. Bytes of a declared variable name it by its VID and size, with `addr` their
offset in it; any others have a system address (R335, R378). (DESIGN CHOICE: log entry 164.) -/
structure Entry where
  addr : Nat
  bytes : List (BitVec 8)
  var : Option (Nat × Nat) := none
deriving DecidableEq, Repr

/-- An epoch that the sink has begun to receive: its entries so far, and whether its end has come. -/
structure EpochIn where
  n : Nat
  entries : List Entry
  ended : Bool
deriving DecidableEq, Repr

/-- Castle link protocol and ledger. -/
structure CasSt where
  /-- tick and sequence of the newest confirmation -/
  conf : Option (Nat × Nat) := none
  /-- a grant received: sequence, effective tick (none: at once), and the tick in which it came -/
  grant : Option (Nat × Option Nat × Nat) := none
  /-- a transfer away that the confirmations announce, effective at this tick -/
  away : Option Nat := none
  /-- boundary of the last planned castling, where duty and ledger source changed (R395) -/
  since : Option Nat := none
  /-- the last heartbeat reported RELEASE; whether the cause of the last castling is still to be confirmed by STAT (R397, R400) -/
  released : Bool := false
  causeOpen : Bool := false
  /-- counter of the messages sent (R377) -/
  msgs : Nat := 0
  /-- tick of the last valid supervisor link message, plus 1 -/
  svlTick : Nat := 0
  /-- last STATE message of the other chip, its sequence, and the tick it came in plus 1 -/
  other : Option StateMsg := none
  otherSeq : Nat := 0
  otherTick : Nat := 0
  /-- tick in which a message showed the other chip claiming duty under a higher sequence, plus 1 (R375) -/
  rival : Nat := 0
  /-- digests of the other chip, by string × 8 + target modulo 8: (target + 1) × 2^64 + digest (R381) -/
  digests : Tab Nat := []
  /-- strings endorsed for the last target tick judged -/
  wasEndorsed : Nat := 0
  /-- ticks in a row with every string endorsed; ticks since a path mismatch, since a missed epoch (R392), each stopping at 64 -/
  endrRun : Nat := 0
  pathRun : Nat := 64
  missRun : Nat := 64
  /-- planned castling: its tick, and whether it is an on-line change (R395, R396) -/
  ctick : Option Nat := none
  olc : Bool := false
  /-- the standby accepted; PSTATE ACCEPTED comes with the next boundary (R395) -/
  accepted : Bool := false
  /-- newest target tick whose endorsement is settled, plus 1 (R382) -/
  endJudged : Nat := 0
  /-- strings left unendorsed since the last capture, a bit each (R387) -/
  unend : Nat := 0
  /-- ledger source: ranges marked and not yet carried, ranges of a resync, and the ranges of the last epochs (R386 to R391) -/
  marks : List Range := []
  resync : List Range := []
  sent : List (Nat × List Range) := []
  /-- epoch in which the last range of a resync went out, plus 1 -/
  rsyEpoch : Nat := 0
  /-- ledger sink: epochs that have begun to come and are not applied yet, oldest first; newest epoch applied or missed, plus 1 -/
  epochs : List EpochIn := []
  epochDone : Nat := 0
  /-- an epoch was missed and is named in the next STATE (R389) -/
  missed : Option Nat := none
  /-- sweep: ticks into the round; whether a full round since the resync has finished (R390, R391) -/
  sweep : Nat := 0
  sweepRound : Bool := false
  /-- health period: ticks so far, and the accumulators of R403 -/
  period : Nat := 0
  nrdy : Nat := 0
  unt : Nat := 0
  pathN : Nat := 0
  unendN : Nat := 0
  amax : Nat := 0
  lagm : Nat := 0
  missN : Nat := 0
  bfail : Bool := false
deriving DecidableEq, Repr

/-- A health period begins: nothing is accumulated (R394, R403). (DEDUCED: log entry 177.) -/
def CasSt.newPeriod (c : CasSt) : CasSt :=
  { c with period := 0, nrdy := 0, unt := 0, pathN := 0, unendN := 0, amax := 0, lagm := 0, missN := 0, bfail := false }

end Sys2Proof.Machine
end

