-- ==== Sys2Proof/Machine/Formats.lean ====
section
/-! DEFINITION. The formats in which content reaches the parts: frame headers and trailers, hop ends, conversions. -/

namespace Sys2Proof.Machine

/-- The two KV-9400s, by role name (R2). -/
inductive Chip where
  | a | b
deriving DecidableEq, Repr

/-- The two optical ports of a KC-60: W faces the A end, E the B end (R60). -/
inductive Port where
  | w | e
deriving DecidableEq, Repr

/-- The other port. -/
def Port.other : Port → Port
  | .w => .e
  | .e => .w

/-- The register instance of a port: 0 for W, 1 for E (R164). -/
def Port.idx : Port → Nat
  | .w => 0
  | .e => 1

/-- One end of a hop: a string port or castle lane of a chip, or a port of the module at a place of a string (R60). -/
inductive HopEnd where
  | sp (chip : Chip) (n : BitVec 5)
  | cl (chip : Chip) (n : BitVec 3)
  | opt (cell : BitVec 13) (p : Port)
deriving DecidableEq, Repr

/-- The fields of a frame header (R103). -/
structure Header where
  str : BitVec 5
  origin : BitVec 3
  duty : Bool
  mode : BitVec 2
  layout : Bool
  carry : BitVec 2
  disc : Bool
  nmod : BitVec 9
  cseq : BitVec 16
  holdn : BitVec 4
  tickno : BitVec 48
  ticktime : BitVec 32
  sk : BitVec 4
  sph : BitVec 3
  spen : Bool
  tlen : BitVec 13
  lofs : BitVec 10
  pd : BitVec 20
  turn : BitVec 22
  asym : BitVec 16
  hop : BitVec 9
  lpos : BitVec 9
  lhop : BitVec 9
  lrx : Bool
  foldp : BitVec 9
  barm : Bool
  bfire : Bool
  treq : Bool
  tally : BitVec 16
  ttick : BitVec 11
  hcrc : BitVec 32
deriving DecidableEq, Repr

/-- The fields of a frame trailer (R110). -/
structure Trailer where
  cfire : Bool
  fpos : BitVec 9
  evtany : Bool
  nlive : BitVec 9
  tcrc : BitVec 24
deriving DecidableEq, Repr

/-- The codes that the inputs AIN0 to AIN7 would convert to at one instant (R193). -/
abbrev AinCodes := Vector (BitVec 16) 8

/-- The analogue inputs since the module last looked at them: from each offset on, in 1.25 ns, they stand at the codes given, until the
next offset. -/
abbrev AinRun := List (Nat × AinCodes)

/-- What a chip captured on castle lane CL0 for one tick, CL0 standing in for a hop (R37, R44): its own departure, the other chip's
arrival, the turnaround stamp that came with it, and the departure that the other chip states in its own time. Times count 1/16 ns. -/
structure ClStamps where
  sent : Nat
  recv : Nat
  turn : Int
  peer : Nat
deriving DecidableEq, Repr

/-- When a header arrived: whole and part of a recovered-clock cycle (R43, R44). -/
structure Arrival where
  cyc : Nat
  frac : Nat
deriving DecidableEq, Repr

/-- A trailer and when it arrives, in 1.25 ns after the module's boundary (R110, R212). -/
structure TrailerIn where
  tr : Trailer
  t : Nat
deriving DecidableEq, Repr

/-- A lock lost in the middle of a frame: the hop end, how many blocks of the frame had arrived, and the header, whole or cut short,
where the loss fell into it (R70). -/
structure FrameCut where
  hop : HopEnd
  blk : Nat
  part : Option Header
deriving DecidableEq, Repr

/-- Blocks received at a hop end in service mode: 66 bits each, the sync header in bits 65 and 64 (R62). -/
structure HopBlocks where
  hop : HopEnd
  l : List (BitVec 66)
deriving DecidableEq, Repr

/-- What adaptation measured over 1,024 blocks: 1 raises the peaking, 2 lowers it, and the bits received meanwhile (R67, R79). -/
structure Adapting where
  dir : BitVec 2
  rx : List Bool
deriving DecidableEq, Repr

/-- The lane number that a marker carries, and the lane's skew in blocks (R76). -/
structure Marker where
  lane : BitVec 3
  skew : Nat
deriving DecidableEq, Repr

/-- What a string port knows of its fibre and power unit: PWR_OK, and whether a region fault is decided (R84). -/
structure PowerCause where
  pwrok : Bool
  fault : Bool
deriving DecidableEq, Repr

/-- A trip input's change: at `t` × 1.25 ns after the boundary it has stood for TFILT (`now`), or is no longer active (R178). -/
structure TripChange where
  t : Nat
  now : Bool
deriving DecidableEq, Repr

/-- A request for one conversion of an input, at `t` × 1.25 ns after the boundary (R200). -/
structure InjRequest where
  inp : BitVec 3
  t : Nat
deriving DecidableEq, Repr

/-- The slot of an injected conversion is over at `t` × 1.25 ns after the boundary, the inputs since the last look standing as given
(R197, R200). -/
structure InjDone where
  inp : AinRun
  t : Nat
deriving DecidableEq, Repr

/-- The levels of the five trip inputs: bit 4 OVP, bits 3 to 0 DESAT3 to DESAT0 (R189). -/
abbrev TripIn := BitVec 5

end Sys2Proof.Machine
end

