-- ==== Sys2Proof/Machine/PartCmd.lean ====
section
/-! DEFINITION. Operands that name which part a command reaches, and who makes an access. -/

namespace Sys2Proof.Machine

/-- A part with a key store and a debug port (R543, R553): a KV-9400, or the module at a cell address. -/
inductive Part where
  | chip (c : Chip)
  | cell (a : BitVec 13)
deriving DecidableEq, Repr

/-- A receiver on the supervisor link (R532): a KV-9400, or the KF-120 on the link of a chip. -/
inductive SvlEnd where
  | chip (c : Chip)
  | companion (c : Chip)
deriving DecidableEq, Repr

/-- The masters of R468 that read memory on a KV-9400. -/
inductive Master where
  | core (n : BitVec 4)
  | sfe
  | record
  | other
  | host
  | crc
deriving DecidableEq, Repr

/-- Symbols of a codeword that are in error, a bit each: 0 to 15 of data, 16 to 19 of the check (R465, R467). -/
abbrev Symbols := BitVec 20

/-- Who meets an uncorrectable word, where, and its symbols in error: a master of a chip, or a cell core in its own SRAM (R468). -/
inductive ReadBy where
  | chip (c : Chip) (m : Master) (a : BitVec 36) (e : Symbols)
  | cell (p : BitVec 13) (a : BitVec 32) (e : Symbols)
deriving DecidableEq, Repr

/-- Whose memory a command reaches: a chip's, by system address, or a module's, by the address its core sees (R460, R619). -/
inductive MemOf where
  | chip (c : Chip)
  | cell (p : BitVec 13)
deriving DecidableEq, Repr

/-- A module, and an instant of its running tick in steps of 10 ns from the boundary. -/
structure CellInstant where
  cell : BitVec 13
  tofs : BitVec 13
deriving DecidableEq, Repr

/-- Who writes a register outside the side channel (R8, R554): software on a chip or its Probe, or the Probe on a module. -/
inductive RegBy where
  | chip (c : Chip) (probe : Bool)
  | cell (a : BitVec 13)
deriving DecidableEq, Repr

end Sys2Proof.Machine
end

