-- ==== Sys2Proof/Machine/PartCore.lean ====
section
/-! DEFINITION. The state of a Thimir core: one context, and what its contexts share (R287 to R291). -/

namespace Sys2Proof.Machine

/-- One hardware context. g0 is no entry of `g`: it reads 0 (R287). -/
structure Ctx where
  g : Tab Word := []
  acc : Tab (BitVec 72) := []
  z : Bool := false
  n : Bool := false
  c : Bool := false
  v : Bool := false
  q : Bool := false
  /-- PRIV: level S; TL: in a trap handler (R290) -/
  priv : Bool := true
  tl : Bool := false
  pc : BitVec 16 := 0
  tpc : Word := 0
  twhy : Word := 0
  taddr : Word := 0
  tstat : Word := 0
  /-- CR_ITEM, CR_ARG and the item's tick -/
  item : Word := 0
  arg : Word := 0
  tick : BitVec 48 := 0
  /-- the context runs an item (R319); it runs from CR_TBASE after a reset (R325) -/
  busy : Bool := false
  boot : Bool := false
  /-- a pending TICKWAIT: its mode and ra (R317) -/
  wait : Option (Bool × Word) := none
  /-- stopped by a double exception (R327) -/
  stopped : Bool := false
deriving DecidableEq, Repr

end Sys2Proof.Machine
end

