-- ==== Sys2Proof/Machine/PartSec.lean ====
section
/-! DEFINITION. The one-time key store and debug port of a KV-9400 or a KC-60, behind its registers (R543 to R555). -/

namespace Sys2Proof.Machine

/-- Key store and debug session. -/
structure SecSt where
  /-- the 384-bit hash held in each slot; slots programmed and slots revoked, a bit each -/
  keys : Tab Nat := []
  prog : Nat := 0
  rev : Nat := 0
  /-- SEAL fuse; a SEAL that takes effect at the next reset; RETIRE fuse -/
  sealed : Bool := false
  sealNext : Bool := false
  retired : Bool := false
  /-- security version count; a fault found in the key store -/
  svn : Nat := 0
  fault : Bool := false
  /-- security version of the running image -/
  imgSvn : Nat := 0
  /-- a nonce is issued, unexpired and unused; the path that holds the part (0 none, 1 host or side channel, 2 Probe) -/
  nonce : Bool := false
  holder : Nat := 0
  /-- a VERIFY under way: LEVEL, SVC, DSLOT; the path that asked for it -/
  verify : Option (Nat × Bool × Nat) := none
  verPath : Nat := 0
  /-- consecutive failures, and the lockout after eight (R553) -/
  fails : Nat := 0
  lockout : Bool := false
deriving DecidableEq, Repr

/-- What a boot ROM finds in an image (R549, R550): it is well formed in all but its signature, the hash of its public key, whether
its signature verifies, its security version, and what it sets: guard block, entry, register words (R624), code and data. -/
structure ImgChk where
  form : Bool
  keyHash : BitVec 384
  sig : Bool
  svn : BitVec 7
  ident : Word
  gcfg : Word
  gth : Word
  entry : BitVec 16
  regs : List (Nat × Word) := []
  code : List (BitVec 8) := []
  data : List (BitVec 8) := []
deriving DecidableEq, Repr

/-- What the boot ROM of a module finds beside the banks as the main domain starts: the slices whose calibration fails, a bit each, the level
of the BENCH strap, and whether the key store reads with a fault (R204, R548, R596). -/
structure CellStart where
  fail : BitVec 3
  bench : Bool := false
  kflt : Bool := false
deriving DecidableEq, Repr

/-- A slot is programmed and not revoked. (DESIGN CHOICE: log entry 14.) -/
def SecSt.usable (s : SecSt) (slot : Nat) : Bool := s.prog.testBit slot && !s.rev.testBit slot && !s.fault && !s.retired

/-- The usable slot among `slots` that holds this key hash. -/
def SecSt.slotOf (s : SecSt) (slots : List Nat) (h : BitVec 384) : Option Nat :=
  slots.find? (fun i => s.usable i && Tab.get 0 i s.keys == h.toNat)

/-- An image passes the checks of R549 under security state `st` (0 OPEN, 1 SEALED, 2 SERVICE, 3 RETIRED). In OPEN a failing
signature alone is let pass. (DEDUCED: log entry 120.) -/
def SecSt.imagePasses (s : SecSt) (st : Nat) (slots : List Nat) (i : ImgChk) : Bool :=
  i.form && decide (s.svn ≤ i.svn.toNat) && st != 3 && (s.slotOf slots i.keyHash).isSome && (st == 0 || i.sig)

/-- Its signature passes. -/
def SecSt.signed (s : SecSt) (slots : List Nat) (i : ImgChk) : Bool := (s.slotOf slots i.keyHash).isSome && i.sig

end Sys2Proof.Machine
end

