-- ==== Sys2Proof/Machine/PartDsp.lean ====
section
/-! DEFINITION. The state of the dispatcher and its cores that no register field shows (R315 to R359), and the valve program
image as its loader finds it (R334). -/

namespace Sys2Proof.Machine

/-- One item: one release of a task (R291, R315). -/
structure Item where
  task : Nat
  tick : Nat
  arg : Word
  entry : BitVec 16
  prio : Nat
  /-- the flow it belongs to -/
  flow : Option Nat
  bank : Bool
  /-- it continues an item after YIELD; it holds the flow that it kept then (R320, R345) -/
  cont : Bool
  held : Bool := false
  /-- its place in the order of releases -/
  order : Nat
deriving DecidableEq, Repr

/-- One core: both contexts with their items, what they share, and its stall. -/
structure CoreSt where
  c0 : Ctx := {}
  c1 : Ctx := {}
  tbase : Word := 0
  cyc : Word := 0
  scratch : Word := 0
  item0 : Option Item := none
  item1 : Option Item := none
  stall : Option Item := none
  /-- the dispatcher has asked for the other context (R288) -/
  swReq : Bool := false
  /-- one instruction may run although the core is halted (R556) -/
  stepOk : Bool := false
deriving DecidableEq, Repr

/-- A declared variable (R334): identity, system address, size, and whether it may be forced. -/
structure Var where
  vid : Nat
  addr : Nat
  size : Nat
  forceable : Bool
deriving DecidableEq, Repr

/-- One entry of the force table, and the system address it forces (R355). -/
structure Force where
  vid : Nat
  ofs : Nat
  size : Nat
  val : Nat
  addr : Nat
  active : Bool
  orphan : Bool
deriving DecidableEq, Repr

/-- A change of the force table that waits for its tick, and whether it reached the standby in time (R356). -/
structure FrcChange where
  tick : Nat
  entry : Nat
  set : Bool
  vid : Nat
  ofs : Nat
  size : Nat
  val : Nat
  arrived : Bool
deriving DecidableEq, Repr

/-- The sections of a valve program image, in their order (R334). -/
inductive SectionKind where
  | header | timing | map | code | data | tasks | counters | vars | settings | signature
deriving DecidableEq, Repr

/-- An entry of the section table: offset and length in bytes (R334), and the section's check value (R478). -/
structure Section where
  kind : SectionKind
  ofs : Nat
  len : Nat
  crc : Word
deriving DecidableEq, Repr

/-- A valve program image (R334): its bytes as they lie in an image slot, and what they say. -/
structure Image where
  raw : List Byte
  /-- header: the target part is KV-9400; total length; section table -/
  forKv : Bool
  length : Nat
  sections : List Section
  keyHash : BitVec 384
  sig : Bool
  svn : BitVec 7
  ident : Word
  version : Word
  /-- W_P in ns (R130) -/
  wp : Nat
  /-- register words, by offset -/
  regs : List (Nat × Word)
  /-- code sections: core mask and bytes -/
  code : List (BitVec 16 × List Byte)
  /-- initial contents by system address -/
  data : List (Nat × List Byte)
  /-- entry address of each task, in the encoding of R291 -/
  entries : List (Nat × BitVec 16)
  /-- the variable table (R335) -/
  vars : List Var
  /-- the cell map: the arm of each string, and CTL word 0 of every address, its ARM field apart (R19, R222) -/
  arms : List (Nat × Nat)
  cells : List (Nat × Word)
  /-- cell program image of each cell class, with its guard block (R550, R579) -/
  cellProgs : List ImgChk
deriving DecidableEq, Repr

/-- Identity of the cell program that the block settings name for a cell class (R579). -/
def Image.cellId (i : Image) (c : Nat) : Option Word := i.cellProgs[c]?.map ImgChk.ident

/-- The dispatcher. -/
structure DspSt where
  cores : Tab CoreSt := []
  /-- items ready, oldest release first, and the number of releases so far -/
  ready : List Item := []
  orders : Nat := 0
  /-- holder of each flow: task + 1 (R345) -/
  flows : Tab Nat := []
  /-- tick of a partial count of each counter, plus 1 (R347) -/
  cntTick : Tab Nat := []
  /-- releases of state-feedback loops: by counter × 8 + tick modulo 8, the tick plus 1 -/
  cntRel : Tab Nat := []
  /-- entry address of each task (R334) -/
  entries : Tab Nat := []
  /-- pending mode request: mode, tick (R337) -/
  modeReq : Option (Nat × Nat) := none
  /-- ticks whose T0 may be released as soon as nothing else holds it back (R338) -/
  t0Due : List Nat := []
  /-- tick of the T0 item ready or in service; newest tick whose T0 was released, and newest whose T0 ended, plus 1 each -/
  t0Run : Option Nat := none
  t0Rel : Nat := 0
  t0End : Nat := 0
  /-- newest tick judged at its latest point for arm references, plus 1 -/
  t0Judged : Nat := 0
  /-- an ending under R353 waits for the core to resume -/
  killWait : Bool := false
  forces : Tab (Option Force) := []
  changes : List FrcChange := []
  vars : List Var := []
  /-- program area blocks staged by PUB, and those taken at the end of T0: by block number, 256 bits (R493) -/
  pubs : Tab Nat := []
  pubsTaken : Tab Nat := []
  /-- the image that has passed its checks and runs; the image to return to while a change is under way (R358) -/
  img : Option Image := none
  oldImg : Option Image := none
  /-- on-line change: castling tick of a COMMIT; the old image is to be reloaded at the next boundary -/
  olcTick : Nat := 0
  olcReload : Bool := false
  /-- E-task releases due at the next boundary: task (R339) -/
  evrel : List Nat := []
deriving DecidableEq, Repr

end Sys2Proof.Machine
end

