-- ==== Sys2Proof/Machine/PartHost.lean ====
section
/-! DEFINITION. The state of the host interfaces that no register field shows: state image, mailbox, network time (R486 to R512). -/

namespace Sys2Proof.Machine

/-- A host message waiting for its delivery (R495). -/
structure Mail where
  mt : Nat
  words : List Nat
  een : Bool
  etask : Nat
deriving DecidableEq, Repr

/-- A PTP message as the engine finds it (R507): an Announce with the grandmaster it names and the port state the best master clock
algorithm decides, a Sync or Follow_Up with the offset measured from it, a peer delay message, a management message. -/
inductive PtpMsg where
  | announce (gmid : BitVec 64) (state : BitVec 3)
  | sync (twoStep : Bool) (ofs : Word)
  | followUp (ofs : Word)
  | pdelayReq
  | pdelayResp
  | management
deriving DecidableEq, Repr

/-- Start-up behind its registers (R572 to R584). -/
structure BootSt where
  /-- the phases run -/
  run : Bool := true
  /-- the first phase whose check failed, plus 1 -/
  fail : Nat := 0
  /-- discovery has ended; strings on which a report carried FLAGS.PLACE since it began, a bit each -/
  disc : Bool := false
  placed : Nat := 0
  /-- cells whose CC_ID has been checked in PHASE 6 (R579) -/
  idSeen : Tab Nat := []
  /-- image slot of the running image (R461) -/
  slot : Bool := false
  /-- the part is held in reset; the reset was a power-on reset -/
  inReset : Bool := false
  powerOn : Bool := false
deriving DecidableEq, Repr

/-- Host interfaces. -/
structure HostSt where
  /-- tick of the image published last (R489) -/
  pubTick : Nat := 0
  /-- tick of the cell buffer in use, once there is one (R490) -/
  cellTick : Option Nat := none
  /-- the next publication is the first as duty after an unplanned castling: the GEN named in the last STATE of the former duty, and the
  boundary at which that was sent -/
  jump : Option (Nat × Nat) := none
  /-- queued messages, oldest first, and the boundary of the last delivery -/
  mail : List Mail := []
  lastMail : Option Nat := none
  /-- Sync messages since the servo began to free-run (R512) -/
  syncs : Nat := 0
  /-- the request to the KF-120 under way is a read (R542) -/
  regRead : Bool := false
deriving DecidableEq, Repr

end Sys2Proof.Machine
end

