-- ==== Sys2Proof/Machine/PartIsa.lean ====
section
/-! DEFINITION. The Thimir instructions, with their operand fields (R293 to R324). Fields that an instruction does not use are left out. -/

namespace Sys2Proof.Machine

/-- A core that executes instructions: core `n` of a KV-9400, or the cell core of a KC-60. -/
inductive CoreRef where
  | kv (chip : Chip) (n : BitVec 4)
  | cell (addr : BitVec 13)
deriving DecidableEq, Repr

/-- A general register number. -/
abbrev Gpr := BitVec 5

/-- ALU functions (R297). -/
inductive AluFn where
  | add | sub | adds | subs | and | or | xor | andn | sll | srl | sra | ror | mul | mulh | mulhu
  | min | max | minu | maxu | abs | neg | clz | div | divu | rem | remu | cmp | slt | sltu
deriving DecidableEq, Repr

/-- Functions with an immediate (R296, R299). -/
inductive ImmFn where
  | add | and | or | xor
deriving DecidableEq, Repr

/-- Shifts by an immediate amount (R296). -/
inductive ShFn where
  | sll | srl | sra | ror
deriving DecidableEq, Repr

/-- Loads, with width and extension, and stores (R301). -/
inductive LoadFn where
  | w | h | hu | b | bu | d
deriving DecidableEq, Repr

inductive StoreFn where
  | w | h | b | d
deriving DecidableEq, Repr

/-- ATOM functions (R302). -/
inductive AtomFn where
  | swap | adda | anda | ora | cas
deriving DecidableEq, Repr

/-- Compare-and-branch forms (R300). -/
inductive CbFn where
  | eq | ne | lt | ltu
deriving DecidableEq, Repr

/-- MAC group (R310). -/
inductive MacFn where
  | mac | msu | mula | macu | macs
deriving DecidableEq, Repr

/-- Accumulator group (R312). -/
inductive AccFn where
  | extr | extrt | mova | mvlo | mvmi | mvhi | awlo | awmi | awhi | aclr | aadd | extrr
deriving DecidableEq, Repr

/-- One instruction. -/
inductive Op where
  | alu (fn : AluFn) (rd ra rb : Gpr) (f : Bool)
  | imm (fn : ImmFn) (rd ra : Gpr) (v : BitVec 16)
  | lui (rd : Gpr) (v : BitVec 16)
  | cmpi (ra : Gpr) (v : BitVec 16)
  | shi (fn : ShFn) (rd ra : Gpr) (amt : BitVec 5)
  | load (fn : LoadFn) (rd ra : Gpr) (v : BitVec 16)
  | store (fn : StoreFn) (rd ra : Gpr) (v : BitVec 16)
  | atom (fn : AtomFn) (rd ra rb : Gpr)
  | cfx (rd ra : Gpr) (lsb : BitVec 8) (w : BitVec 5) (sgn bank : Bool)
  | clw (rd ra : Gpr) (off : BitVec 8)
  | csw (rd ra : Gpr) (off : BitVec 8)
  | bcc (cond : BitVec 4) (off : BitVec 22)
  | jump (off : BitVec 26)
  | call (off : BitVec 26)
  | jr (ra : Gpr)
  | callr (rd ra : Gpr)
  | cb (fn : CbFn) (ra rb : Gpr) (off : BitVec 16)
  | mac (fn : MacFn) (ad : BitVec 3) (ra rb : Gpr) (sh : BitVec 6)
  | acc (fn : AccFn) (ad : BitVec 3) (ra rb : Gpr) (sh : BitVec 6)
  | dot4 (ad : BitVec 3) (ra rb : Gpr) (sh : BitVec 6)
  | dot4c (ad : BitVec 3) (ra rb : Gpr)
  | tickwait (ra : Gpr) (mode : Bool)
  | post (ra : Gpr)
  | take
  | yield (ra : Gpr)
  | flowend
  | pub (ra rb : Gpr)
  | ledg (ra rb : Gpr)
  | mfc (rd num : BitVec 5)
  | mtc (num ra : BitVec 5)
  | rtt (adv : Bool)
  | trap (code : BitVec 5)
  | brk
  | clrq
  | fence
  | li (rd : Gpr) (v : Word)
  | long (fn : ImmFn) (rd ra : Gpr) (v : Word)
  | cmpl (ra : Gpr) (v : Word)
  | jl (v : BitVec 16)
  | calll (v : BitVec 16)
deriving DecidableEq, Repr

/-- The instruction takes two words (R295). -/
def Op.isLong : Op → Bool
  | .li .. | .long .. | .cmpl .. | .jl .. | .calll .. => true
  | _ => false

end Sys2Proof.Machine
end

