-- ==== Sys2Proof/Config.lean ====
section
/-! DEFINITION. What the spec leaves open: each constant here has no body, so that nothing proved of the model can rest on
its value. They are applied to a counter that the state holds and each use advances. -/

namespace Sys2Proof

/-- The increment (8.32 ns) that a servo chooses at one steering; the spec gives the bound it aims at, not the value
(R37, R38). (DESIGN CHOICE: log entry 21.) -/
opaque Config.servoIncrement : Nat → BitVec 40

/-- One nonce word of a debug challenge (R553). (DESIGN CHOICE: log entry 19.) -/
opaque Config.nonceWord : Nat → BitVec 32

/-- Factory latency of a string port, transmit plus receive, 1/16 ns; number 32 stands for castle lane CL0 (R37, R44, R89). (DESIGN CHOICE: log entry 20.) -/
opaque Config.portLatency : Nat → Nat

/-- The transmit part of a string port's factory latency, 1/16 ns (R45, R89). (DESIGN CHOICE: log entry 20.) -/
opaque Config.portLaunch : Nat → Nat

/-- Calibrated transmit and receive latencies of the other end of a hop, as this end takes them off a round trip, 1/16 ns; by the place of
this end: 2 × cell address + port of a module, 2^14 + port of a chip (R44). (DESIGN CHOICE: log entry 20.) -/
opaque Config.farLatency : Nat → Int

/-- The last 58 line bits of a hop where blocks that the model is not told of have gone by (R62). (DESIGN CHOICE: log entry 148.) -/
opaque Config.lineReg : Nat → BitVec 58

/-- The last symbol, or running disparity, of a hop at that point (R63, R65). (DESIGN CHOICE: log entry 148.) -/
opaque Config.lineSym : Nat → Nat

/-- Delay of the crossing into a SerDes region at one measurement, 1/16 ns (R52). (DESIGN CHOICE: log entry 149.) -/
opaque Config.crossingDelay : Nat → Nat

/-- The result of a computation whose value the spec does not state for the operands at hand. (DESIGN CHOICE: log entry 24.) -/
opaque Config.unstated : Nat → Nat

/-- Factory serial number of a KV-9400 (R546): of A for 0, of B for 1. (DESIGN CHOICE: log entry 18.) -/
opaque Config.serial : Nat → BitVec 64

/-- Sign of the pseudo-random test signal for a content of the shift register: the spec names the polynomial and the seed, not the
stage that gives the output bit (R274). (DESIGN CHOICE: log entry 22.) -/
opaque Config.prbsSign : Nat → Bool

end Sys2Proof
end

