-- ==== Sys2Proof/Machine/PartAl.lean ====
section
/-! DEFINITION. The staging and state of the allocators and of the cell vector unit that no register field and no cell record shows
(R219, R223 to R249). -/

namespace Sys2Proof.Machine

/-- A reference record (R223). -/
structure Ref where
  tgt : Nat
  va : Int
  vb : Int
  ia : Int
  ib : Int
  vc : Nat
  amode : Nat
deriving DecidableEq, Repr

/-- One allocator. -/
structure Alloc where
  /-- the last record used, as used (R225) -/
  last : Option Ref := none
  /-- the newest target tick whose placement has started, plus 1 (R322) -/
  started : Nat := 0
  /-- the newest target tick whose placement is finished, plus 1 -/
  done : Nat := 0
  /-- the next in-turn zero state of a full-bridge arm is ZERO_UP (R241) -/
  zup : Bool := false
  /-- the last placement had NE at NMIN or above (R233) -/
  above : Bool := false
  /-- the last active placement inserted cells as NEG (R230) -/
  neg : Bool := false
deriving DecidableEq, Repr

/-- Allocators and CVU. -/
structure AlSt where
  arms : Tab Alloc := []
  /-- believed state of each cell (R228): 0 OFF to 4 ZERO_LO -/
  belief : Tab Nat := []
  /-- commands placed, by cell address × 8 + target modulo 8: (target + 1) × 2^128 + slot, the origin bits and the check left 0 -/
  cmds : Tab Nat := []
  /-- state in which each of those targets leaves the cell, by the same keys: (target + 1) × 8 + state (R228, R246) -/
  ends : Tab Nat := []
  /-- power-class members whose last valid report showed CSTATE SENSOR (R227) -/
  sensing : Tab Nat := []
  /-- last valid current of each arm, in A × 2^8 (R245) -/
  current : Tab (Option Int) := []
  /-- last TEMP used for each cell, plus 1 (R246) -/
  temp : Tab Nat := []
  /-- the newest tick whose CVU pass is complete, plus 1; the strings below this number are done in the pass under way; the CVU has begun
  a pass since EN was set (R249) -/
  passed : Nat := 0
  passStr : Nat := 0
  passRun : Bool := false
deriving DecidableEq, Repr

end Sys2Proof.Machine
end

