-- ==== Sys2Proof/Machine/PartSfe.lean ====
section
/-! DEFINITION. The state of one state-feedback engine that no register field and no window word shows (R264 to R278). -/

namespace Sys2Proof.Machine

/-- A loop that is to run for the samples of a tick: the bank active at B(n), and the switch that made it active: its tick plus 1, 0 for
none (R265, R271, R272). -/
structure SfeJob where
  tick : Nat
  loop : Nat
  bank : Nat
  since : Nat
deriving DecidableEq, Repr

/-- One engine. -/
structure SfeSt where
  /-- loops scheduled and neither executed nor skipped yet (R265, R266) -/
  queue : List SfeJob := []
  /-- low 16 bits of the tick of a pending switch, and the ticks of the last switches, newest first (R271) -/
  swAt : Option Nat := none
  switches : List Nat := []
  /-- the newest switch from whose bank each loop has run: its tick plus 1 (R272) -/
  ran : Tab Nat := []
  /-- injection: phase in units of 2^-16, shift register, executions towards its next step (R274) -/
  phi : Nat := 0
  lfsr : Nat := 32767
  hold : Nat := 0
  /-- trace: executions since the last record, words in the buffer, and executions since a capture began, plus 1 (R276) -/
  since : Nat := 0
  used : Nat := 0
  cap : Nat := 0
  /-- loops whose last execution gathered a stale measurement, a bit each (R278) -/
  staleY : Nat := 0
deriving DecidableEq, Repr

end Sys2Proof.Machine
end

