-- ==== Sys2Proof/Machine/LineCode.lean ====
section
/-! DEFINITION. The line codes: service mode (R62, R63), start-up mode (R65), the control blocks of the physical layer (R62, R66, R76), and
the test patterns (R79). -/

namespace Sys2Proof.Machine

/-- A block on its way to the line: its sync header, 0b01 for data and 0b10 for control, and its payload (R62). -/
structure LineBlock where
  control : Bool
  payload : BitVec 64
deriving DecidableEq, Repr

/-- An idle block: type byte 0x1E, the other 56 bits 0 (R62). -/
def idleBlock : LineBlock := ⟨true, 0x1E00000000000000#64⟩

/-- Type byte of a block: the first payload byte. -/
def LineBlock.kind (b : LineBlock) : BitVec 8 := b.payload.extractLsb' 56 8

/-- Type byte of training blocks (R66), and how it, data character D11.2, reads on an inverted
line. -/
def trainingKind : BitVec 8 := 0x4B#8
def invertedKind : BitVec 8 := 0xB4#8

/-- One bit through the scrambler x^58 + x^39 + 1, whose register holds the last 58 line bits, the newest in bit 0: the line bit
and the register after it (R62). -/
def scrambleBit (r : BitVec 58) (b : Bool) : Bool × BitVec 58 :=
  let o := (b ^^ r.getLsbD 38) ^^ r.getLsbD 57
  (o, (r <<< 1) ||| (if o then 1#58 else 0#58))

/-- The receiver's side: the same register of line bits gives the payload bit back. -/
def descrambleBit (r : BitVec 58) (l : Bool) : Bool × BitVec 58 :=
  ((l ^^ r.getLsbD 38) ^^ r.getLsbD 57, (r <<< 1) ||| (if l then 1#58 else 0#58))

/-- Payload bits in line order through the scrambler, and back. -/
def scramble : BitVec 58 → List Bool → List Bool
  | _, [] => []
  | r, b :: l => (scrambleBit r b).1 :: scramble (scrambleBit r b).2 l
def descramble : BitVec 58 → List Bool → List Bool
  | _, [] => []
  | r, b :: l => (descrambleBit r b).1 :: descramble (descrambleBit r b).2 l

/-- Gray value of two line bits, the first the more significant (R63). -/
def grayOf (hi lo : Bool) : Nat :=
  match hi, lo with
  | false, false => 0
  | false, true => 1
  | true, true => 2
  | true, false => 3

/-- The precoder: symbols P from Gray values, after symbol `p` (R63). -/
def precode : Nat → List Nat → List Nat
  | _, [] => []
  | p, g :: l => (g + 4 - p % 4) % 4 :: precode ((g + 4 - p % 4) % 4) l

/-- What the receiver recovers from its decisions (R63). -/
def unprecode : Nat → List Nat → List Nat
  | _, [] => []
  | p, q :: l => (q + p) % 4 :: unprecode q l

/-- Line level of a symbol: 2P − 3 (R63). -/
def lineLevel (p : Nat) : Int := 2 * (p : Int) - 3

/-- The two line bits of a Gray value, the first the more significant. -/
def grayBits (g : Nat) : List Bool := [decide (2 ≤ g), decide (g = 1 ∨ g = 2)]

/-- Pairs of line bits as Gray values. -/
def grays : List Bool → List Nat
  | a :: b :: l => grayOf a b :: grays l
  | _ => []

/-- Line bits two to a symbol as an inverted line gives them: with the level 2P − 3 inverted, only the more significant bit of each pair changes
(R63, R91). -/
def invertPairs : List Bool → List Bool
  | a :: b :: l => (!a) :: b :: invertPairs l
  | [a] => [!a]
  | [] => []

/-- Bits of a number, the most significant of `n` first. -/
def bitList (v : Nat) : Nat → List Bool
  | 0 => []
  | n + 1 => v.testBit n :: bitList v n

/-- The number whose bits a list gives, most significant first. -/
def ofBits (l : List Bool) : Nat := l.foldl (fun v b => 2 * v + (if b then 1 else 0)) 0

/-- Line bits as ten-bit codes, the first bit the most significant. -/
def tens (l : List Bool) : List Nat := (List.range (l.length / 10)).map (fun k => ofBits ((l.drop (10 * k)).take 10))

/-- The symbols of a received block of 33, the first the most significant. -/
def symList (v : Nat) : Nat → List Nat
  | 0 => []
  | n + 1 => v / 4 ^ n % 4 :: symList v n

/-- The 66 line bits of a block in service mode, after the scrambler register `r`, and the register after it, which holds the last 58 of
them (R62). -/
def serviceBits (r : BitVec 58) (b : LineBlock) : List Bool × BitVec 58 :=
  let body := scramble r (bitList b.payload.toNat 64)
  ((if b.control then [true, false] else [false, true]) ++ body, BitVec.ofNat 58 (ofBits body))

/-- The line bits of a received block of 33 symbols that follow the symbol `p` (R63). -/
def blockBits (p v : Nat) : List Bool := (unprecode p (symList v 33)).foldr (fun g l => grayBits g ++ l) []

/-- A received block: whether its sync header is valid, and the block (R62). -/
def takeBlock (r : BitVec 58) (p v : Nat) : Bool × LineBlock :=
  let l := blockBits p v
  let c := l.take 2
  (c == [false, true] || c == [true, false], ⟨c == [true, false], BitVec.ofNat 64 (ofBits (descramble r (l.drop 2)))⟩)

/-! ### The start-up mode's 8b/10b code (R65), after IEEE 802.3 Clause 36. (PRESUMED: log entry 157.) -/

/-- A character: control or data, and its byte. -/
structure LineChar where
  k : Bool
  byte : Nat
deriving DecidableEq, Repr

/-- The two control characters in use: K28.5 opens a control block, K27.7 a data block. -/
def k285 : LineChar := ⟨true, 0xBC⟩
def k277 : LineChar := ⟨true, 0xFB⟩

/-- The 6-bit groups of D.0 to D.31 under negative running disparity, and the 4-bit groups of .0 to .7. (PRESUMED: log entry 157.) -/
def code6 : List Nat :=
  [0b100111, 0b011101, 0b101101, 0b110001, 0b110101, 0b101001, 0b011001, 0b111000] ++
  [0b111001, 0b100101, 0b010101, 0b110100, 0b001101, 0b101100, 0b011100, 0b010111] ++
  [0b011011, 0b100011, 0b010011, 0b110010, 0b001011, 0b101010, 0b011010, 0b111010] ++
  [0b110011, 0b100110, 0b010110, 0b110110, 0b001110, 0b101110, 0b011110, 0b101011]
def code4 : List Nat := [0b1011, 0b1001, 0b0101, 0b1100, 0b1101, 0b1010, 0b0110, 0b1110]

/-- Ones among the low `n` bits. -/
def ones (v n : Nat) : Nat := ((List.range n).filter (fun i => v.testBit i)).length

/-- The 6-bit group of D.`x` under running disparity `rd` (true: positive). -/
def group6 (rd : Bool) (x : Nat) : Nat :=
  let v := code6.getD x 0
  if rd && (ones v 6 != 3 || x == 7) then 63 - v else v

/-- The 4-bit group of D.`x`.`y` under the disparity after its 6-bit group; seven has an alternate form. -/
def group4 (rd : Bool) (x y : Nat) : Nat :=
  if y = 7 ∧ ((!rd && [17, 18, 20].contains x) || (rd && [11, 13, 14].contains x)) then (if rd then 0b1000 else 0b0111)
  else
    let v := code4.getD y 0
    if rd && (ones v 4 != 2 || y == 3) then 15 - v else v

/-- The ten line bits of a character, bit a the most significant, and the running disparity after it. (PRESUMED: log entry 157.) -/
def encodeChar (rd : Bool) (c : LineChar) : Nat × Bool :=
  if c = k285 then (if rd then 0b1100000101 else 0b0011111010, !rd)
  else if c = k277 then (if rd then 0b0010010111 else 0b1101101000, rd)
  else
    let x := c.byte % 32
    let y := c.byte / 32 % 8
    let g := group6 rd x
    let rd1 := if ones g 6 = 3 then rd else !rd
    let h := group4 rd1 x y
    (g * 16 + h, if ones h 4 = 2 then rd1 else !rd1)

/-- The data character whose groups a code holds under a running disparity. -/
def decodeData (rd : Bool) (v : Nat) : Option LineChar :=
  match (List.range 32).find? (fun x => group6 rd x == v / 16) with
  | some x =>
    let rd1 := if ones (v / 16) 6 = 3 then rd else !rd
    match (List.range 8).find? (fun y => group4 rd1 x y == v % 16) with
    | some y => some ⟨false, y * 32 + x⟩
    | none => none
  | none => none

/-- The character of a code under a running disparity; none is a code violation or a disparity error. (PRESUMED: log entry 157.) -/
def decodeChar (rd : Bool) (v : Nat) : Option LineChar :=
  if v = (encodeChar rd k285).1 then some k285
  else if v = (encodeChar rd k277).1 then some k277
  else decodeData rd v

/-- The running disparity after a received code: an unbalanced one sets it. (PRESUMED: log entry 157.) -/
def codeDisparity (rd : Bool) (v : Nat) : Bool :=
  let n := ones v 10
  if n = 5 then rd else decide (5 < n)

/-- A block's nine characters: the marker, then its payload bytes in payload order (R65). -/
def LineBlock.chars (b : LineBlock) : List LineChar :=
  (if b.control then k285 else k277) :: (List.range 8).map (fun i => ⟨false, b.payload.toNat / 256 ^ (7 - i) % 256⟩)

/-- Characters as codes, and the disparity after them. -/
def encodeChars : Bool → List LineChar → List Nat × Bool
  | rd, [] => ([], rd)
  | rd, c :: l =>
    let e := encodeChar rd c
    let r := encodeChars e.2 l
    (e.1 :: r.1, r.2)

/-- The 90 line bits of a block in start-up mode, and the disparity after it (R65). -/
def startBits (rd : Bool) (b : LineBlock) : List Bool × Bool :=
  let e := encodeChars rd b.chars
  (e.1.foldr (fun v l => bitList v 10 ++ l) [], e.2)

/-- A data block, and a control block, with a payload. -/
def dataBlock (v : Nat) : LineBlock := ⟨false, BitVec.ofNat 64 v⟩
def controlBlock (v : Nat) : LineBlock := ⟨true, BitVec.ofNat 64 v⟩

/-- The block that nine right characters make. -/
def blockOf (l : List (Option LineChar)) : Option LineBlock :=
  let body := ofBits ((l.drop 1).foldr (fun c r => bitList (match c with | some c => c.byte | none => 0) 8 ++ r) [])
  let right := l.length == 9 && (l.drop 1).all (fun c => match c with | some c => !c.k | none => false)
  if right && l.head? == some (some k285) then some ⟨true, BitVec.ofNat 64 body⟩
  else if right && l.head? == some (some k277) then some ⟨false, BitVec.ofNat 64 body⟩
  else none

/-- A training block: signature, the sender's kind, its logical lane, the ready bit, the shift count, a byte each after the type byte
(R66). (DESIGN CHOICE: log entry 163.) -/
def trainingBlock (sig kind lane : Nat) (ready : Bool) (shift : Nat) : LineBlock :=
  ⟨true, BitVec.ofNat 64 (((((0x4B * 256 + sig % 256) * 256 + kind % 256) * 256 + lane % 256) * 256 + (if ready then 1 else 0)) * 256 +
    shift % 256) <<< 16⟩

/-- Byte `k` of a block's payload, byte 0 the first. -/
def LineBlock.byte (b : LineBlock) (k : Nat) : Nat := b.payload.toNat / 256 ^ (7 - k) % 256

/-- A lane marker carries its lane number in the byte after the type (R76). (DESIGN CHOICE: log entry 163.) -/
def laneMarker (lane : Nat) : LineBlock := ⟨true, BitVec.ofNat 64 (0x4E * 2 ^ 56 + lane % 256 * 2 ^ 48)⟩

/-! ### Test patterns (R79, R96). (PRESUMED: log entry 71.) -/

/-- The next bit of a pattern after the bits in `r`, the newest in bit 0: PRBS7, PRBS15, PRBS31, PRBS13Q, PRBS31Q, and the square wave of
8 UI (`wide`: two bits a UI). (PRESUMED: log entry 71.) -/
def patternBit (pat : Nat) (wide : Bool) (r : BitVec 31) : Bool :=
  match pat with
  | 1 => r.getLsbD 6 ^^ r.getLsbD 5
  | 2 => r.getLsbD 14 ^^ r.getLsbD 13
  | 3 | 5 => r.getLsbD 30 ^^ r.getLsbD 27
  | 4 => ((r.getLsbD 12 ^^ r.getLsbD 11) ^^ r.getLsbD 1) ^^ r.getLsbD 0
  | _ => if wide then r.getLsbD 15 else r.getLsbD 7

/-- A bit enters a pattern register. -/
def pushBit (r : BitVec 31) (b : Bool) : BitVec 31 := (r <<< 1) ||| (if b then 1#31 else 0#31)

/-- The register a generator starts with: all ones, and for the square wave half a period of them. (PRESUMED: log entry 71.) -/
def patternSeed (pat : Nat) (wide : Bool) : BitVec 31 :=
  if pat = 6 then (if wide then 0xAA#31 else 0xF#31) else 0x7FFFFFFF#31

/-- `n` bits of a pattern, and the register after them. -/
def patternBits (pat : Nat) (wide : Bool) (r : BitVec 31) : Nat → List Bool × BitVec 31
  | 0 => ([], r)
  | n + 1 =>
    let b := patternBit pat wide r
    let t := patternBits pat wide (pushBit r b) n
    (b :: t.1, t.2)

/-- A pattern checker: the last bits received, or predicted once it is synchronised; right predictions in a row until then; and bit errors
since (R79). -/
structure Checker where
  r : BitVec 31 := 0
  run : Nat := 0
  sync : Bool := false
  errs : Nat := 0
deriving DecidableEq, Repr

/-- One bit received. It is synchronised after 31 right predictions in a row. (DESIGN CHOICE: log entry 166.) -/
def Checker.take (pat : Nat) (wide : Bool) (c : Checker) (b : Bool) : Checker :=
  let p := patternBit pat wide c.r
  if c.sync then { c with r := pushBit c.r p, errs := if p == b then c.errs else c.errs + 1 }
  else
    let run := if p == b && c.r != 0 then c.run + 1 else 0
    { c with r := pushBit c.r b, run := run, sync := decide (31 ≤ run) }

end Sys2Proof.Machine
end

