-- ==== Sys2Proof/Machine/PartHop.lean ====
section
/-! DEFINITION. The state of one end of an optical hop that no register field shows (R60 to R80). -/

namespace Sys2Proof.Machine

/-- One end of a hop. -/
structure Hop where
  /-- consecutive received training blocks with the ready bit (R71) -/
  readyRun : Nat := 0
  /-- sender kind and logical lane number of the last training block (R66) -/
  peer : Nat := 0
  lane : Nat := 0
  /-- shift count, and the one the other end last sent (R66, R71) -/
  shift : Nat := 0
  farShift : Nat := 0
  /-- the HUNT in progress is a blind start (R73) -/
  blind : Bool := false
  /-- a blind start has failed and waits for its retry -/
  failed : Bool := false
  /-- the next start is automatic -/
  auto : Bool := false
  /-- the last start condition was a loss of lock or light -/
  afterLoss : Bool := false
  /-- saved settings: polarity and peaking (R73, R568) -/
  savedInv : Nat := 0
  savedPk : Nat := 8
  /-- an injection started and not yet sent: its mode; bits of a burst still to be inverted; line bits since the last bit that a repeated one
  inverted (R80) -/
  inject : Nat := 0
  burst : Nat := 0
  sinceInj : Nat := 0
  /-- the line mode is service mode (R61) -/
  service : Bool := false
  /-- sender: scrambler register, last symbol, running disparity, and blocks sent in the running tick (R62, R63, R65) -/
  scr : BitVec 58 := 0
  pre : Nat := 0
  txRd : Bool := false
  used : Nat := 0
  /-- stretches of blocks, sent or received, whose content the model is not told -/
  lines : Nat := 0
  /-- receiver in service mode: descrambler register, last symbol, the symbol position tested, valid headers in a row, the last 64
  headers (valid or not, newest first), unassigned control blocks in a row (R70, R72) -/
  rscr : BitVec 58 := 0
  rpre : Nat := 0
  huntPos : Nat := 0
  goodRun : Nat := 0
  hdrs : List Bool := []
  foreign : Nat := 0
  /-- receiver in start-up mode: running disparity, commas at one bit position, that position, the last 64 characters (wrong or not),
  and whether the last training block had the right signature (R65, R66) -/
  rxRd : Bool := false
  commas : Nat := 0
  charPos : Nat := 0
  chars : List Bool := []
  sigOk : Bool := false
  /-- pattern generator and checker (R79) -/
  gen : BitVec 31 := 0
  chk : Checker := {}
  /-- skew of a castle lane at its last marker, in blocks (R76) -/
  skew : Nat := 0
deriving DecidableEq, Repr

end Sys2Proof.Machine
end

