-- ==== Sys2Proof/Machine/PartSp.lean ====
section
/-! DEFINITION. The state of a string port, and of the collection of reports, that no register field shows (R44, R86, R113 to R141). -/

namespace Sys2Proof.Machine

/-- One string port. -/
structure SpPort where
  hop : Hop := {}
  /-- header launched at the last boundary, while its frame's commands are still to go out -/
  launched : Option Header := none
  /-- header of the frame in reception, when it was valid -/
  frame : Option Header := none
  /-- tick of the frame in reception, as its header gives it or the frames before tell; none before the first (R113, R140) -/
  rxTick : Option Nat := none
  /-- a header, valid or not, came in this tick -/
  came : Bool := false
  /-- the TXEN output (R87, R88) -/
  txOut : Bool := false
  /-- departure and arrival of this and the last tick's headers, 1/16 ns; round trips of the first hop, newest first, and discards in
  a row (R44) -/
  sent : Option Nat := none
  recv : Option Nat := none
  sentPrev : Option Nat := none
  recvPrev : Option Nat := none
  meas : List Int := []
  disc : Nat := 0
  /-- ASYM sent, and the sum and number of the measurements towards its next update (R47) -/
  asym : Int := 0
  asymSum : Int := 0
  asymN : Nat := 0
  /-- a fold frame came in this and in the last tick; a relayed report was entered in this tick (R139) -/
  fold : Bool := false
  foldLast : Bool := false
  relay : Bool := false
  /-- measured P lay beyond the limit of R130 in the last tick -/
  late : Bool := false
  /-- failed probes in a row (R86) -/
  fails : Nat := 0
  /-- valid headers from the far end: ticks since one carried MODE RUN or DUTY = 1 (R577), and whether any arrived since reset (R574) -/
  quietRun : Nat := 16
  farSeen : Bool := false
  /-- discovered count: its value plus 1, ticks it has held, and the count from a fold frame of the running tick (R577, R578) -/
  found : Nat := 0
  foundRun : Nat := 0
  /-- an NLIVE came in this tick -/
  liveSeen : Bool := false
  /-- largest P measured since PHASE 5 began (R580), and whether a header of another string number came in since discovery began (R17) -/
  pMax : Nat := 0
  misnumbered : Bool := false
deriving DecidableEq, Repr

/-- A report held in the receive staging (R349). -/
structure Held where
  addr : Nat
  tick : Nat
  slot : RepSlot
  relay : Bool
  /-- none entered by the report-arrival point: the record becomes invalid -/
  valid : Bool
deriving DecidableEq, Repr

/-- The collection of reports. -/
structure Collect where
  /-- by cell address × 4 + tick modulo 4: bit 0 entered from the own port, bit 1 by relay, bit 2 received at the own port -/
  got : Tab Nat := []
  /-- by string × 4 + tick modulo 4: the last slot of the string's report section has come, 1 in a frame of the far end, 2 in a fold frame (R25) -/
  ended : Tab Nat := []
  /-- the newest tick whose report-arrival point has passed, plus 1; 0 before the first -/
  closed : Nat := 0
  /-- the last valid report of each cell in its record: (tick + 1) × 2^192 + slot (R410) -/
  last : Tab Nat := []
  /-- reports in the receive staging (R349) -/
  held : List Held := []
  /-- what a bank held before its last write, by cell address × 2 + tick modulo 2: (low 32 bits of the tick + 1) × 2^192 + slot (R440) -/
  past : Tab Nat := []
  /-- cell messages raised from reports since the last boundary (R412) -/
  cellMsgs : Nat := 0
  /-- strings endorsed, by string × 8 + target modulo 8: the target plus 1 (R117, R382, R385) -/
  endorsed : Tab Nat := []
  /-- the tally under way: its number and latch tick, and its words by cell address × 32 + k, each plus 1 (R497, R501) -/
  tallyOf : Option (Nat × Nat) := none
  tally : Tab Nat := []
deriving DecidableEq, Repr

end Sys2Proof.Machine
end

