-- ==== Sys2Proof/Machine/PartKv.lean ====
section
/-! DEFINITION. The state of one KV-9400: its register fields, its memories, and the state that no register field shows. -/

namespace Sys2Proof.Machine

/-- What a part sends to the world around it. -/
inductive OutKind where
  | msix        -- one MSI-X message; port = vector (R426, R485)
  | heartbeat   -- HB to the KF-120 (R370)
  | svlCmd      -- CMD to the KF-120 (R535)
  | svlReg      -- REG to the KF-120 (R535)
  | svlReply    -- CONF, GRANT, STAT or RDATA from the KF-120; port = side
  | castle      -- one castle message; port = its type (R378)
  | header      -- a frame header, as it is before it is coded to the line; port = string port
  | slot        -- command or report slots, likewise; port = string port
  | trailer     -- a frame trailer, likewise; port = string port
  | ptp         -- a PTP message; port = Ethernet port
  | eth         -- an Ethernet frame; port = Ethernet port
  | pcie        -- a PCIe completion; data = its status and value
  | side        -- a side-channel answer
  | line        -- blocks or pattern bits on a hop's line; port = string port, 32 + physical castle lane, or a module's port (R61)
  | fill        -- blocks of one kind that filled a gap of the line (R62): payload and number; port as for a line
deriving DecidableEq, Repr

/-- One thing sent: its kind, the port or type it goes out by, and its content as numbers. -/
structure Out where
  kind : OutKind
  port : Nat
  data : List Nat
deriving DecidableEq, Repr

/-- A fault message (R405). -/
structure Msg where
  src : Nat
  kind : Nat
  addr : Nat
deriving DecidableEq, Repr

/-- The replica of the nanosecond counter in a SerDes region, and the delay of the crossing to it as last measured, 1/16 ns (R52). -/
structure Replica where
  ns : BitVec 64 := 0
  cross : Nat := 0
deriving DecidableEq, Repr

/-- The time unit TIM behind its registers (R30 to R42, R509). -/
structure Tim where
  /-- nanosecond counter, 32 integer and 32 fraction bits -/
  ns : BitVec 64
  /-- running increment, 8 integer and 32 fraction bits -/
  inc : BitVec 40
  /-- a committed increment waiting for the next REFCLK edge (R31) -/
  incNext : Option (BitVec 40)
  /-- tick counter -/
  tick : BitVec 48
  /-- B(n), the boundary time of the running tick -/
  bn : BitVec 32
  /-- tick length in force, 10 ns units (R36) -/
  len : Nat
  /-- spreading in force: K, and whether it runs (R42) -/
  sprdK : Nat
  sprdEn : Bool
  /-- consecutive ticks with an offset within 1.0 ns (R39) -/
  alignRun : Nat
  /-- the chip has stepped to the duty's time since it became standby (R38) -/
  stepped : Bool
  /-- the committed PTP mapping: BASE seconds and nanoseconds, and the counter value at BASE (R509) -/
  mapSec : Nat
  mapNs : Nat
  mapC : Nat
  /-- nanoseconds counted at the commit, of which the mapping's age is reckoned (R509) -/
  mapAt : Nat := 0
  /-- one-way delay of the castle link as last measured, 1/16 ns (R37) -/
  qc : Nat
  /-- CL0 as a hop: round trips kept, newest first, discards in a row, and the turnaround stamp for the other chip (R37, R44) -/
  clMeas : List Int := []
  clDisc : Nat := 0
  clTurn : Int := 0
  /-- what the nanosecond counter has counted since reset, whatever value it was stepped to and without wrap, in 2^-32 ns (R416) -/
  up : Nat := 0
  /-- REFCLK cycles since the crossings were last measured, measurements so far, and the replicas of the SerDes regions (R52) -/
  cycle : Nat := 0
  crossN : Nat := 0
  west : Replica := {}
  east : Replica := {}
deriving DecidableEq, Repr

/-- A row that an acquisition unit has written: slot, tick, whether it is a gap or closing row, and the channel values that its
measurements may still need, none where stale (R437, R451). -/
structure AcqRow where
  slot : Nat
  tick : Nat
  gap : Bool
  vals : List (Option Int)
deriving DecidableEq, Repr

/-- What the values of one channel of a record leave: extremes, sum, values used; entries into HIGH with the first and the last row of one, and the
level reached (R451). -/
structure Meas where
  lo : Int := 0
  hi : Int := 0
  sum : Int := 0
  used : Nat := 0
  entries : Nat := 0
  first : Nat := 0
  last : Nat := 0
  lvl : Nat := 0
deriving DecidableEq, Repr

/-- One acquisition unit behind its registers (R436 to R454). -/
structure AcqUnit where
  /-- an arm waiting for its tick (R441) -/
  armAt : Option Nat
  /-- the tick of the arm in force -/
  armTick : Nat
  /-- next slot -/
  wp : Nat
  /-- rows written since the arm that are still in the buffer, newest first -/
  rows : List AcqRow
  /-- fire tick decided, its row not yet written (R454) -/
  fireWait : Option Nat
  /-- slot of the fire row, which ACQn_FROW shows from the close on (R449) -/
  fireSlot : Nat := 0
  /-- first missed tick and ticks missed, of a gap not yet written (R448) -/
  gap : Option (Nat × Nat)
  /-- trigger state machine: 0 LOW, 1 MID, 2 HIGH (R445) -/
  trig : Nat
  /-- rows since the trigger channel entered HIGH; rows since it last changed between LOW and HIGH -/
  width : Nat
  quiet : Nat
  /-- trigger channel values of the last data rows, newest first; none where stale or across a gap -/
  hist : List (Option Int)
  /-- measurements by channel, and the data rows from the fire row on that they hold (R451) -/
  meas : List Meas := []
  measured : Nat := 0
  /-- a cell fire of the record stands in ACQn_FPOS (R444) -/
  cellFire : Bool := false
deriving DecidableEq, Repr

/-- An acquisition unit at reset. (DEDUCED: log entry 111.) -/
def AcqUnit.reset : AcqUnit :=
  { armAt := none, armTick := 0, wp := 0, rows := [], fireWait := none, gap := none, trig := 0, width := 0,
    quiet := 0, hist := [] }

/-- One KV-9400. -/
structure Kv where
  /-- register fields, by `Fld.key`, as differences from their reset values -/
  regs : Tab Nat
  /-- DRAM, cell arena, SRAMs and engine windows by system address (R460); unlisted bytes read 0 -/
  mem : Tab Byte
  /-- symbols in error that stand in 64-bit words, a bit each, by system address div 8 (R467) -/
  unc : Tab Nat
  tim : Tim
  /-- open fault windows by source: nanoseconds counted at opening, plus 1 (R416) -/
  winOpen : Tab Nat
  /-- next log sequence number (R423) -/
  logSeq : Nat
  /-- cells waiting for OVR = PARK: target tick + 1 by cell address (R420) -/
  ovrAt : Tab Nat
  /-- a level-4 reaction waits for the next boundary (R421) -/
  stopNext : Bool
  /-- event sources whose rising bit releases a task at the next boundary (R427) -/
  evRelease : List Nat
  /-- the tick after the last one in which a T0 ended; 0 before the first (R487, R534) -/
  t0Ended : Nat
  /-- tick of the last STAT, plus 1 (R542) -/
  svlLast : Nat
  /-- the next CMD carries SAFE, TCLR, RESUME (R542) -/
  svlSafe : Bool
  svlTclr : Bool
  svlResume : Bool
  /-- the running tick is no clean tick of an on-line change (R358) -/
  olcDirty : Bool
  acq : Tab AcqUnit
  /-- string ports, castle lanes, collection of reports -/
  sp : Tab SpPort
  cl : Tab Hop
  col : Collect
  /-- allocators and CVU -/
  al : AlSt
  /-- dispatcher and cores; castling and ledger; key store and debug session -/
  dsp : DspSt
  sfe : Tab SfeSt
  cas : CasSt
  sec : SecSt
  /-- host interfaces -/
  hst : HostSt
  /-- start-up -/
  boot : BootSt
  /-- START and LEN as written before the last GO of a check-value engine (R474) -/
  crcFrom : Tab Nat
  crcLen : Tab Nat
  /-- the active lane, by place in rising order, that carries the castle link's next block, and line time since the last lane markers in 0.1 ns
  (R76) -/
  lane : Nat := 0
  laneTime : Nat := 0
  /-- BFIRE is sent in the frame of this tick (R446); BCMD 2 goes out with the commands of this target tick (R442) -/
  bfireAt : Option Nat
  cellArm : Option Nat
  /-- uses of free values so far -/
  free : Nat
  /-- what the chip sent during the last command given to it -/
  out : List Out
deriving DecidableEq, Repr

end Sys2Proof.Machine
end

