-- ==== Sys2Proof/Machine/PartKf.lean ====
section
/-! DEFINITION. The state of the KF-120: its register fields, and what no register shows (R370 to R374, R516 to R541). -/

namespace Sys2Proof.Machine

/-- A heartbeat as its payload carries it (R533). -/
structure Hb where
  n : BitVec 16
  cseq : BitVec 16
  ctick : BitVec 16
  claim : Bool
  ready : Bool
  able : Bool
  release : Bool
  xreq : Bool
  mode : BitVec 2
deriving DecidableEq, Repr

/-- The KF-120. -/
structure Kf where
  /-- register fields, by `Fld.key` over register numbers, as differences from their reset values -/
  regs : Tab Nat := []
  /-- held in reset by its supply (R516) -/
  inReset : Bool := false
  /-- last valid heartbeat of A and of B -/
  hbA : Option Hb := none
  hbB : Option Hb := none
  /-- the chip that a heartbeat of B in READY waits for has not yet reported in that period (R22) -/
  readyB : Bool := false
  /-- a grant effective at a tick: to B or A, its low 16 bits, the sequence (R372) -/
  xfer : Option (Bool × Nat × Nat) := none
  /-- the next confirmation says that a RELEASE was refused, or that the transfer to this tick lapsed -/
  refused : Bool := false
  lapsed : Option Nat := none
  lapsedSaid : Bool := false
  /-- the silence timer runs; SIL is active (R525, R527) -/
  timer : Bool := false
  sil : Bool := false
  /-- SUPPLY, TEMP and OSC are present (R527) -/
  supply : Bool := false
  temp : Bool := false
  osc : Bool := false
  /-- levels of the last CMD accepted, and those in force when SAFE was entered (R523) -/
  cmdOut : Nat := 0
  heldOut : Nat := 0
  /-- outputs OUT0 to OUT15 (bits 0 to 15) and TRIP0 to TRIP3 (bits 16 to 19) that turned themselves off (R521) -/
  off : Nat := 0
  /-- integrating counters of the inputs, and runs of samples towards a change of wire break (R518, R519) -/
  cnt : Tab Nat := []
  wbRun : Tab Nat := []
  /-- last sample and counter of the station trip input (R528) -/
  stRaw : Bool := false
  stCnt : Nat := 0
  /-- what it sent during the last command given to it -/
  out : List Out := []
deriving DecidableEq, Repr

end Sys2Proof.Machine
end

