-- ==== Sys2Proof/Syntax.lean ====
section
/-! DEFINITION. The commands: one constructor per row of the opcode table. An event's operands are what it brings from outside;
an instruction's are the core that executes it and its decoded fields. -/

namespace Sys2Proof

open Sys2Proof.Machine

/-- A command. -/
inductive Instr where
  /-- TICK_BOUNDARY: The nanosecond counter reaches B(n+1), the tick counter increments and a new tick begins on the KV-9400.
  (R35) -/
  | tickBoundary (c : Chip) (meas : Option ClStamps)
  /-- ALIGNED_SET: After 64 consecutive ticks within ±1.0 ns the standby sets TIM_STAT.ALIGNED. (R39) -/
  | alignedSet (c : Chip)
  /-- TIM_INCI_WRITE: A write to TIM_INCI commits the staged increment, or is refused if outside ±500 ppm. (R31) -/
  | timInciWrite (c : Chip) (v : Word)
  /-- TIM_TICKL_READ: A read of TIM_TICKL latches TIM_TICKH and TIM_BNDRY. (R34) -/
  | timTicklRead (c : Chip)
  /-- TIM_TICKLEN_WRITE: A write of the tick length is checked against the string formula and spreading and applied from the next
  boundary. (R36) -/
  | timTicklenWrite (c : Chip) (v : Word)
  /-- TIM_SPRD_WRITE: A write of the spreading setting is checked for a permitted modulation frequency and applied at the next
  multiple of K. (R42) -/
  | timSprdWrite (c : Chip) (v : Word)
  /-- REFCLK_LOSS: TIM detects a missing REFCLK, holds both counters and raises TIM_REFCLK. (R54) -/
  | refclkLoss (c : Chip)
  /-- REGION_DIFFERENCE: A supply difference between neighbouring regions beyond ±50 mV sets REGDIFF and raises TIM_REGION. (R53)
  -/
  | regionDifference (c : Chip) (mv : BitVec 16)
  /-- TIM_CBASE_WRITE: A write to TIM_CBASE commits the PTP time mapping set. (R509) -/
  | timCbaseWrite (c : Chip) (v : Word)
  /-- MAPPING_STALE: The time mapping becomes older than 2^31 ns; STALE sets and Sync, Announce and servo stop. (R509) -/
  | mappingStale (c : Chip)
  /-- HEADER_RECEIVED: A KC-60 receives a frame header whole, checks it, forms candidates and time, and forwards it with its own
  fields updated. (R105) -/
  | headerReceived (a : BitVec 13) (p : Port) (h : Header) (arr : Arrival) (lat : Nat) (ppm : Int)
  /-- CELL_TICK_BOUNDARY: At the target boundary the KC-60 commits the staged command, or holds without one, and restarts its
  sample grid. (R172) -/
  | cellTickBoundary (a : BitVec 13) (act : TripIn)
  /-- COMMAND_SLOT_RECEIVED: A KC-60 receives its command slot and accepts it as a valid copy if it passes every check. (R112) -/
  | commandSlotReceived (a : BitVec 13) (p : Port) (slot : CmdSlot)
  /-- REPORT_SLOT_WRITE: A placed KC-60 writes its report into its report slot of a passing frame. (R116) -/
  | reportSlotWrite (a : BitVec 13) (p : Port)
  /-- TRAILER_FORWARD: A KC-60 forwards a trailer, writing NLIVE, CFIRE, FPOS and EVTANY and recomputing TCRC. (R110) -/
  | trailerForward (a : BitVec 13) (p : Port) (t : TrailerIn)
  /-- CELL_COMMAND_DEADLINE: At B(target) − 160 ns the KC-60 selects the copy it obeys and stages it. (R119) -/
  | cellCommandDeadline (a : BitVec 13)
  /-- HOLD_LIMIT: After HOLDN consecutive holding ticks the KC-60 applies PARK until it obeys a copy again. (R120) -/
  | holdLimit (a : BitVec 13)
  /-- MODE_PARK: An obeyed PARK commands OFF from the boundary and releases DIS and any arming. (R170) -/
  | modePark (a : BitVec 13)
  /-- MODE_ACTIVE: An obeyed ACTIVE commands ST0 at the boundary and schedules edges 1 and 2. (R170) -/
  | modeActive (a : BitVec 13) (slot : CmdSlot)
  /-- MODE_HOLDLAST: An obeyed HOLDLAST keeps the last commanded state for the tick. (R170) -/
  | modeHoldlast (a : BitVec 13)
  /-- MODE_BYPASS_FIRE: An obeyed BYPASS_FIRE with the arming code arms, fires or rejects the bypass. (R181) -/
  | modeBypassFire (a : BitVec 13) (side : Word)
  /-- MODE_DISCHARGE: An obeyed DISCHARGE commands OFF and turns DIS on. (R182) -/
  | modeDischarge (a : BitVec 13)
  /-- MODE_SENSOR: An obeyed SENSOR is applied as PARK, and in a power cell raises CFG. (R160) -/
  | modeSensor (a : BitVec 13)
  /-- BCMD_TALLY_LATCH: BCMD 1 makes the module latch its tally values at the target tick under the number in SIDE. (R499) -/
  | bcmdTallyLatch (a : BitVec 13) (no : BitVec 16)
  /-- BCMD_CAPTURE_ARM: BCMD 2 arms the capture buffer at the target boundary. (R211) -/
  | bcmdCaptureArm (a : BitVec 13)
  /-- BCMD_TRIP_CLEAR: BCMD 3 requests a trip clear of all latched sources at the target boundary. (R179) -/
  | bcmdTripClear (a : BitVec 13) (act : TripIn)
  /-- BCMD_CLEAR_SHDW: BCMD 4 clears the SHDW counter at the target boundary. (R384) -/
  | bcmdClearShdw (a : BitVec 13)
  /-- BCMD_ACKNOWLEDGE: BCMD 5 acknowledges the event source shown in the previous report. (R162) -/
  | bcmdAcknowledge (a : BitVec 13)
  /-- SIDE_RD: A side-channel RD request reads a KC-60 register and is answered with RDATA or ERR. (R134) -/
  | sideRd (a : BitVec 13) (p : Port)
  /-- SIDE_WA: A side-channel WA request holds the write address for the WD of the next target tick. (R134) -/
  | sideWa (a : BitVec 13) (p : Port)
  /-- SIDE_WD: A side-channel WD request writes the held address and is answered with WACK or ERR. (R134) -/
  | sideWd (a : BitVec 13) (p : Port)
  /-- POSITION_DROP: Candidates differing from its position in 2 consecutive ticks make a module park, drop its position and send
  one PLACE report. (R115) -/
  | positionDrop (a : BitVec 13)
  /-- FOLD_ONSET: A port becomes unusable and the module folds at it on each transmitter's next frame boundary. (R121) -/
  | foldOnset (a : BitVec 13) (p : Port)
  /-- FOLD_END: After 8 consecutive usable ticks the module stops folding at the port. (R121) -/
  | foldEnd (a : BitVec 13) (p : Port)
  /-- FOLD_FRAME_LAUNCH: A folded module launches a fold frame out of its other port at its boundary estimate. (R122) -/
  | foldFrameLaunch (a : BitVec 13) (p : Port) (lofs : BitVec 10)
  /-- MID_FRAME_LOCK_LOSS: A KC-60 loses block lock mid-frame and completes the forwarded frame with void blocks. (R70) -/
  | midFrameLockLoss (h : FrameCut)
  /-- REPORT_SLOT_ACCEPT: A string port receives a report slot, checks it and writes it into the cell record bank. (R113) -/
  | reportSlotAccept (c : Chip) (n : BitVec 5) (k : BitVec 9) (slot : RepSlot)
  /-- REPORT_STAGING_WRITE: Reports held in receive staging are written into the bank as soon as T0 of tick n ends. (R349) -/
  | reportStagingWrite (c : Chip)
  /-- REPORT_ARRIVAL_POINT: At B(n) + SP_RAP the chip closes the tick's reports and marks missing slots invalid. (R128) -/
  | reportArrivalPoint (c : Chip) (n : BitVec 48)
  /-- FOLD_FRAME_ARRIVAL: A fold frame arrives at a port after a tick without one and raises SP_FOLD. (R141) -/
  | foldFrameArrival (c : Chip) (n : BitVec 5) (h : Header)
  /-- SIGNAL_DETECT: Signal appears at a receiver in DARK and the hop enters TRAIN or starts blind. (R71) -/
  | signalDetect (h : HopEnd)
  /-- SIGNAL_LOSS: Loss of signal returns the hop to DARK. (R71) -/
  | signalLoss (h : HopEnd)
  /-- TRAINING_BLOCK_RECEIVED: A receiver decodes a training block and inverts polarity if the signature is wrong. (R66) -/
  | trainingBlockReceived (h : HopEnd) (pos : BitVec 4) (marker kind sig : BitVec 10) (rest : List (BitVec 10))
  /-- TRAIN_READY: Ready is seen in 16 consecutive training blocks and the hop enters SHIFT. (R71) -/
  | trainReady (h : HopEnd)
  /-- TRAIN_TIMEOUT: 10 ms in TRAIN without ready returns the hop to DARK. (R71) -/
  | trainTimeout (h : HopEnd)
  /-- SHIFT_END: The shift count reaches 0 and both ends switch to service mode in HUNT. (R71) -/
  | shiftEnd (h : HopEnd)
  /-- BLOCK_LOCK: 64 consecutive valid sync headers give block lock. (R70) -/
  | blockLock (h : HopBlocks)
  /-- BLOCK_LOCK_LOSS: 16 invalid of the last 64 headers lose lock, the hop hunts again and SP_LINK is raised. (R70) -/
  | blockLockLoss (h : HopBlocks)
  /-- HUNT_POLARITY_INVERT: 8 consecutive unassigned control blocks in HUNT invert the receive polarity. (R72) -/
  | huntPolarityInvert (h : HopBlocks)
  /-- HOP_UP: With lock held and a valid frame header or lane marker received, the hop enters UP. (R71) -/
  | hopUp (h : HopEnd)
  /-- HUNT_TIMEOUT: 2 ms after SHIFT without UP the hop returns to TRAIN. (R71) -/
  | huntTimeout (h : HopEnd)
  /-- BLIND_START_FAIL: A blind start not UP within 400 µs sets BLINDF and raises SP_BLIND. (R73) -/
  | blindStartFail (h : HopEnd)
  /-- BLIND_RETRY: With BRING 2 a failed blind start is retried every 1 ms. (R73) -/
  | blindRetry (h : HopEnd)
  /-- TEST_PATTERN_DESELECT: Deselecting the pattern returns a port from TEST to DARK. (R71) -/
  | testPatternDeselect (h : HopEnd)
  /-- ADAPTATION_FREEZE: 4,096 consecutive idle blocks freeze equaliser adaptation. (R68) -/
  | adaptationFreeze (h : HopEnd)
  /-- ADAPTATION_RESUME: 256 non-idle blocks since the freeze resume adaptation. (R68) -/
  | adaptationResume (h : HopEnd)
  /-- ADAPTATION_STEP: Each 1,024 blocks adaptation moves the peaking by at most 1 dB. (R67) -/
  | adaptationStep (h : HopEnd) (dir : Adapting)
  /-- LANE_MARKER_RECEIVED: A castle lane marker arrives; skew is removed and a recovered lane rejoins. (R76) -/
  | laneMarkerReceived (c : Chip) (n : BitVec 3) (lane : Marker)
  /-- CASTLE_LINK_DOWN: Loss of CL0 or fewer than four lanes takes the castle link down. (R78) -/
  | castleLinkDown (c : Chip)
  /-- CASTLE_LANE_LOST: A lane is lost while the link stays up and CL_LANE is raised. (R78) -/
  | castleLaneLost (c : Chip) (n : BitVec 3)
  /-- CASTLE_LINK_UP: The castle link comes up with at least four lanes including CL0. (R78) -/
  | castleLinkUp (c : Chip)
  /-- ERROR_INJECT_GO: EGO starts a once-only error injection, refused on the duty in RUN for live frames. (R80) -/
  | errorInjectGo (h : HopEnd)
  /-- PORT_EN_CLEAR: Clearing EN lets the port finish the frame and then carry only idle. (R88) -/
  | portEnClear (c : Chip) (n : BitVec 5)
  /-- PORT_EN_SET: Setting EN joins the port to frames at the next frame header. (R88) -/
  | portEnSet (c : Chip) (n : BitVec 5)
  /-- PORT_TXEN_CLEAR: Clearing TXEN first clears EN and then turns the transmitter off after the frame. (R88) -/
  | portTxenClear (c : Chip) (n : BitVec 5)
  /-- LASER_INTERLOCK_CUT: A port drives PWR_EN low within 500 µs of PWR_OK falling, a dark report, EN cleared or a region fault.
  (R84) -/
  | laserInterlockCut (c : Chip) (n : BitVec 5) (pwrok : PowerCause)
  /-- PROBE_OFF_TIME_END: The off time passes and the port raises PWR_EN for probe power. (R86) -/
  | probeOffTimeEnd (c : Chip) (n : BitVec 5)
  /-- PROBE_RESULT: PWR_OK and module light reports within their windows decide whether the probe passes or fails. (R86) -/
  | probeResult (c : Chip) (n : BitVec 5) (pwrok : Bool)
  /-- PASS_THROUGH_CLOSE: The guard closes the pass-through when the main domain fails or is reset. (R144) -/
  | passThroughClose (a : BitVec 13)
  /-- PASS_THROUGH_OPEN: After self-test with KEEP = 0 the module opens its pass-through. (R145) -/
  | passThroughOpen (a : BitVec 13)
  /-- PASS_THROUGH_OPEN_FAIL: No port UP within 50 ms of opening closes the pass-through again, or sets STUCK after 8 failures.
  (R145) -/
  | passThroughOpenFail (a : BitVec 13)
  /-- PASS_THROUGH_RETRY: 1 s after a failed opening the module tries again. (R145) -/
  | passThroughRetry (a : BitVec 13)
  /-- POWER_STATE_FALL: Available power falls below a threshold and the controller moves to a lower state within 50 µs. (R148) -/
  | powerStateFall (a : BitVec 13) (pvw pve : BitVec 8) (lpw lpe vaux : Bool)
  /-- POWER_STATE_RISE: Available power stays 0.05 W above a threshold for 10 ms and the controller moves up. (R148) -/
  | powerStateRise (a : BitVec 13) (pvw pve : BitVec 8) (lpw lpe vaux : Bool)
  /-- GUARD_POWER_ON: Available power rises through 0.15 W, resetting the whole module into GUARD-ONLY. (R159) -/
  | guardPowerOn (a : BitVec 13) (pvw pve : BitVec 8) (lpw lpe vaux : Bool)
  /-- GUARD_SAMPLE: Every 10 µs the guard converts the tap, filters it and evaluates its decisions. (R151) -/
  | guardSample (a : BitVec 13) (uv : Int) (t : Nat)
  /-- GUARD_BYP_FIRE: 2 µs after the inhibit the guard fires BYP. (R152) -/
  | guardBypFire (a : BitVec 13)
  /-- GUARD_CLEAR: A write of 1 to a GRD_STAT decision bit clears it, or is declined and raises GRD_CLR. (R154) -/
  | guardClear (a : BitVec 13) (ov md : Bool)
  /-- GUARD_MAIN_RETRY: After MDEAD the guard retries the main supply every 1 s, up to 8 attempts. (R156) -/
  | guardMainRetry (a : BitVec 13)
  /-- WATCHDOG_EXPIRY: The cell core watchdog expires and the cell core is reset. (R158) -/
  | watchdogExpiry (a : BitVec 13)
  /-- CELL_CORE_RESET: CC_RST.CORE from a duty copy resets the cell core alone. (R159) -/
  | cellCoreReset (a : BitVec 13)
  /-- MAIN_DOMAIN_RESET: CC_RST.MAIN from a duty copy, or supply loss, resets the main domain. (R159) -/
  | mainDomainReset (a : BitVec 13) (written : Bool)
  /-- MAIN_DOMAIN_START: The main domain starts, checks the cell image, calibrates slices and writes its first report. (R623) -/
  | mainDomainStart (a : BitVec 13) (b0 b1 : ImgChk) (fail : CellStart)
  /-- CELL_CORE_EXCEPTION: A TIS-C exception records CC_XC and makes a cell core reset. (R332) -/
  | cellCoreException (a : BitVec 13) (cause : BitVec 4) (pc : BitVec 16)
  /-- CELL_EVENT_RAISE: A KC-60 event source becomes pending and a new event sets EVTANY in the next trailer. (R162) -/
  | cellEventRaise (a : BitVec 13) (src : BitVec 5)
  /-- CC_EVP_WRITE: Writing 1 to CC_EVP acknowledges a pending source. (R162) -/
  | ccEvpWrite (a : BitVec 13) (v : Word)
  /-- CELL_TEMP_RESET: Die above 140 °C holds the main domain in reset until below 125 °C. (R606) -/
  | cellTempReset (a : BitVec 13)
  /-- GEN_EDGE: At its commanded instant GEN changes the commanded state, subject to the filter. (R171) -/
  | genEdge (a : BitVec 13)
  /-- GATE_TURN_ON: A pending turn-on takes effect at the partner's turn-off plus dead time. (R173) -/
  | gateTurnOn (a : BitVec 13) (i : BitVec 2)
  /-- STRETCH_END: A stretched dwell ends at t1 + MINP and GEN enters the state then commanded. (R175) -/
  | stretchEnd (a : BitVec 13)
  /-- TRIP_INPUT_ACTIVE: An enabled DESAT or OVP input stays asserted for TFILT and forces safe levels and latches LAT. (R178) -/
  | tripInputActive (a : BitVec 13) (i : BitVec 3) (t : TripChange)
  /-- BYPASS_ARMED_FIRE: 2 µs after an armed boundary GEN fires BYP with every output off. (R181) -/
  | bypassArmedFire (a : BitVec 13)
  /-- GEN_MINP_DT_WRITE: A write to GEN_MINP or GEN_DT is refused if MINP would not exceed the dead times. (R174) -/
  | genMinpDtWrite (a : BitVec 13) (dt : Bool) (v : Word)
  /-- GEN_SRC_SET: Setting SRC to LOCAL in TEST resets the committed local pair to OFF. (R177) -/
  | genSrcSet (a : BitVec 13)
  /-- GEN_LPA_WRITE: A write to GEN_LPA opens a local pair, or tears one already open. (R177) -/
  | genLpaWrite (a : BitVec 13) (v : Word)
  /-- GEN_LPB_WRITE: A write to GEN_LPB closes an open pair for commit at the next boundary, or tears. (R177) -/
  | genLpbWrite (a : BitVec 13) (v : Word)
  /-- LOCAL_PAIR_TORN: A pair open through 16 tick boundaries is torn and discarded. (R177) -/
  | localPairTorn (a : BitVec 13)
  /-- GEN_FREEZE: A debug freeze holds every output and stops GEN's pending changes. (R185) -/
  | genFreeze (a : BitVec 13)
  /-- GEN_FREEZE_RELEASE: At release GEN resumes at the next boundary with the staged command. (R185) -/
  | genFreezeRelease (a : BitVec 13)
  /-- PARK_HALT_TAKES_EFFECT: A park-first halt takes effect once every output has been 0 for 1 µs. (R185) -/
  | parkHaltTakesEffect (a : BitVec 13)
  /-- CELL_SAMPLE: At B(n) + CTM_SOFS × 1.25 ns the cell samples and restarts its conversion grid. (R51) -/
  | cellSample (a : BitVec 13) (s0 : AinCodes) (offs : List Nat) (codes : List AinCodes) (die : BitVec 10)
  /-- REPORT_FREEZE: At F(n) the module freezes the measurement fields of the tick's report. (R206) -/
  | reportFreeze (a : BitVec 13) (offs : List Nat) (codes : List AinCodes)
  /-- ADC_INJ_GO: A write of ADC_INJ.GO requests one conversion, or sets IOVR while one is pending. (R200) -/
  | adcInjGo (a : BitVec 13) (inp : InjRequest)
  /-- INJECTED_CONVERSION_DONE: The injected result reaches ADC_IRES and PEND clears. (R200) -/
  | injectedConversionDone (a : BitVec 13) (code : InjDone)
  /-- ADC_CAL_GO: A write of ADC_CAL.GO requests a calibration run, ignored while one runs or waits. (R202) -/
  | adcCalGo (a : BitVec 13)
  /-- CALIBRATION_RUN_START: A timed run falls due every ROT × 0.1 s, waiting while an injected conversion is pending. (R201) -/
  | calibrationRunStart (a : BitVec 13)
  /-- CALIBRATION_RUN_END: A run completes or fails; on success the spare joins the pair at the next boundary. (R201) -/
  | calibrationRunEnd (a : BitVec 13) (ofs gain : Int) (res : BitVec 16)
  /-- CAP_ARM: CAP_CTRL.ARM arms the capture buffer from IDLE or DONE. (R211) -/
  | capArm (a : CellInstant)
  /-- CAP_ABORT: CAP_CTRL.ABORT returns ARMED to IDLE or closes POST short. (R215) -/
  | capAbort (a : CellInstant)
  /-- CAP_TRIG: CAP_CTRL.TRIG fires the capture trigger at once with CAUSE 0. (R212) -/
  | capTrig (a tofs : BitVec 13)
  /-- CAP_TRIGGER: An enabled trigger source fires at a stored word, records position and enters POST. (R214) -/
  | capTrigger (a : BitVec 13) (src : BitVec 3) (tofs : BitVec 13)
  /-- CAP_POST_COMPLETE: The last post-trigger word is written and CAP enters DONE. (R211) -/
  | capPostComplete (a : BitVec 13)
  /-- ALLOCATOR_PLACE: Once the report-arrival point and arm reference are reached, ALk sorts and places the arm's commands.
  (R242) -/
  | allocatorPlace (c : Chip) (k : Fin 12) (n : BitVec 48)
  /-- ALLOCATOR_DEADLINE: An arm not finished by the latest point raises AL_LATE and its slots go void. (R242) -/
  | allocatorDeadline (c : Chip) (k : Fin 12) (n : BitVec 48)
  /-- ALLOCATOR_DISABLE: Clearing ALk_CFG.EN drains the placement in progress and then commands PARK. (R243) -/
  | allocatorDisable (c : Chip) (k : Fin 12)
  /-- CVU_STRING_PASS: The CVU updates observers, cycle bins and hold weights of a string's cells for tick n. (R249) -/
  | cvuStringPass (c : Chip) (str : BitVec 5) (n : BitVec 48)
  /-- CVU_PASS_DEADLINE: Cells not reached by SP_RAP + T are skipped and CVU_LATE is raised. (R249) -/
  | cvuPassDeadline (c : Chip) (n : BitVec 48)
  /-- CVU_DISABLE: Clearing CVU_CTRL.EN finishes the group of 64 records and stops. (R250) -/
  | cvuDisable (c : Chip)
  /-- CVU_BINE_WRITE: A write to CVU_BINE0 or CVU_BINE1 leaving the edges not rising is refused. (R254) -/
  | cvuBineWrite (c : Chip) (m : BitVec 1) (v : Word)
  /-- SFE_LOOP_EXECUTE: An SFE executes one loop for tick n once its start condition holds. (R257) -/
  | sfeLoopExecute (c : Chip) (e : BitVec 2) (j : BitVec 4) (n : BitVec 48)
  /-- SFE_LOOP_SKIP: A loop not started by B(n) + DL is skipped and decrements its counter. (R268) -/
  | sfeLoopSkip (c : Chip) (e : BitVec 2) (j : BitVec 4) (n : BitVec 48)
  /-- SFE_BANK_SW: A write of SFEn_BANK.SW requests a bank switch at STICK, or is refused. (R271) -/
  | sfeBankSw (c : Chip) (e : BitVec 2) (stick : BitVec 16)
  /-- SFE_LIVE_STATE_WRITE: A write to a loop's live x̂ is applied at once or after its write-back. (R272) -/
  | sfeLiveStateWrite (c : Chip) (e : BitVec 2) (j : BitVec 4) (i : BitVec 5) (v : Word)
  /-- SFE_INJ_ENABLE: Setting SFEn_INJ.EN starts an injection at tick START, or is refused. (R273) -/
  | sfeInjEnable (c : Chip) (e : BitVec 2) (v : Word)
  /-- SFE_INJ_DONE: After LEN executions the injection unit enters DONE. (R275) -/
  | sfeInjDone (c : Chip) (e : BitVec 2)
  /-- SFE_DISABLE: Clearing SFEn_CTRL.EN lets the running loop finish and skips the rest. (R277) -/
  | sfeDisable (c : Chip) (e : BitVec 2)
  /-- ADD: ADD writes ra + rb modulo 2^32. (R297) -/
  | add (r : CoreRef) (rd ra rb : Gpr) (f : Bool)
  /-- SUB: SUB writes ra − rb. (R297) -/
  | sub (r : CoreRef) (rd ra rb : Gpr) (f : Bool)
  /-- ADDS: ADDS writes the saturated sum and sets Q on saturation. (R297) -/
  | adds (r : CoreRef) (rd ra rb : Gpr) (f : Bool)
  /-- SUBS: SUBS writes the saturated difference and sets Q on saturation. (R297) -/
  | subs (r : CoreRef) (rd ra rb : Gpr) (f : Bool)
  /-- AND: AND writes ra AND rb. (R297) -/
  | and (r : CoreRef) (rd ra rb : Gpr) (f : Bool)
  /-- OR: OR writes ra OR rb. (R297) -/
  | or (r : CoreRef) (rd ra rb : Gpr) (f : Bool)
  /-- XOR: XOR writes ra XOR rb. (R297) -/
  | xor (r : CoreRef) (rd ra rb : Gpr) (f : Bool)
  /-- ANDN: ANDN writes ra AND NOT rb. (R297) -/
  | andn (r : CoreRef) (rd ra rb : Gpr) (f : Bool)
  /-- SLL: SLL shifts ra left by rb[4:0]. (R297) -/
  | sll (r : CoreRef) (rd ra rb : Gpr) (f : Bool)
  /-- SRL: SRL shifts ra right with zero fill. (R297) -/
  | srl (r : CoreRef) (rd ra rb : Gpr) (f : Bool)
  /-- SRA: SRA shifts ra right with sign fill. (R297) -/
  | sra (r : CoreRef) (rd ra rb : Gpr) (f : Bool)
  /-- ROR: ROR rotates ra right by rb[4:0]. (R297) -/
  | ror (r : CoreRef) (rd ra rb : Gpr) (f : Bool)
  /-- MUL: MUL writes the low 32 bits of the product. (R297) -/
  | mul (r : CoreRef) (rd ra rb : Gpr) (f : Bool)
  /-- MULH: MULH writes the high 32 bits of the signed product. (R297) -/
  | mulh (r : CoreRef) (rd ra rb : Gpr) (f : Bool)
  /-- MULHU: MULHU writes the high 32 bits of the unsigned product. (R297) -/
  | mulhu (r : CoreRef) (rd ra rb : Gpr) (f : Bool)
  /-- MIN: MIN writes the signed smaller operand. (R297) -/
  | min (r : CoreRef) (rd ra rb : Gpr) (f : Bool)
  /-- MAX: MAX writes the signed larger operand. (R297) -/
  | max (r : CoreRef) (rd ra rb : Gpr) (f : Bool)
  /-- MINU: MINU writes the unsigned smaller operand. (R297) -/
  | minu (r : CoreRef) (rd ra rb : Gpr) (f : Bool)
  /-- MAXU: MAXU writes the unsigned larger operand. (R297) -/
  | maxu (r : CoreRef) (rd ra rb : Gpr) (f : Bool)
  /-- ABS: ABS writes the saturated absolute value. (R297) -/
  | abs (r : CoreRef) (rd ra rb : Gpr) (f : Bool)
  /-- NEG: NEG writes the saturated negation. (R297) -/
  | neg (r : CoreRef) (rd ra rb : Gpr) (f : Bool)
  /-- CLZ: CLZ writes the leading zero count of ra. (R297) -/
  | clz (r : CoreRef) (rd ra rb : Gpr) (f : Bool)
  /-- DIV: DIV writes the signed quotient, saturating on zero divisor or overflow. (R297) -/
  | div (r : CoreRef) (rd ra rb : Gpr) (f : Bool)
  /-- DIVU: DIVU writes the unsigned quotient. (R297) -/
  | divu (r : CoreRef) (rd ra rb : Gpr) (f : Bool)
  /-- REM: REM writes the signed remainder. (R297) -/
  | rem (r : CoreRef) (rd ra rb : Gpr) (f : Bool)
  /-- REMU: REMU writes the unsigned remainder. (R297) -/
  | remu (r : CoreRef) (rd ra rb : Gpr) (f : Bool)
  /-- CMP: CMP sets flags from ra − rb. (R297) -/
  | cmp (r : CoreRef) (rd ra rb : Gpr) (f : Bool)
  /-- SLT: SLT writes 1 if ra < rb signed. (R297) -/
  | slt (r : CoreRef) (rd ra rb : Gpr) (f : Bool)
  /-- SLTU: SLTU writes 1 if ra < rb unsigned. (R297) -/
  | sltu (r : CoreRef) (rd ra rb : Gpr) (f : Bool)
  /-- ADDI: ADDI writes ra plus the sign-extended immediate. (R296) -/
  | addi (r : CoreRef) (rd ra : Gpr) (v : BitVec 16)
  /-- ANDI: ANDI writes ra AND the zero-extended immediate. (R296) -/
  | andi (r : CoreRef) (rd ra : Gpr) (v : BitVec 16)
  /-- ORI: ORI writes ra OR the zero-extended immediate. (R296) -/
  | ori (r : CoreRef) (rd ra : Gpr) (v : BitVec 16)
  /-- XORI: XORI writes ra XOR the zero-extended immediate. (R296) -/
  | xori (r : CoreRef) (rd ra : Gpr) (v : BitVec 16)
  /-- LUI: LUI loads the immediate into the upper half. (R296) -/
  | lui (r : CoreRef) (rd : Gpr) (v : BitVec 16)
  /-- CMPI: CMPI sets flags from ra minus the immediate. (R298) -/
  | cmpi (r : CoreRef) (ra : Gpr) (v : BitVec 16)
  /-- SLLI: SLLI shifts left by an immediate amount. (R296) -/
  | slli (r : CoreRef) (rd ra : Gpr) (amt : BitVec 5)
  /-- SRLI: SRLI shifts right with zero fill by an immediate amount. (R296) -/
  | srli (r : CoreRef) (rd ra : Gpr) (amt : BitVec 5)
  /-- SRAI: SRAI shifts right with sign fill by an immediate amount. (R296) -/
  | srai (r : CoreRef) (rd ra : Gpr) (amt : BitVec 5)
  /-- RORI: RORI rotates right by an immediate amount. (R296) -/
  | rori (r : CoreRef) (rd ra : Gpr) (amt : BitVec 5)
  /-- LDW: LDW loads an aligned word. (R301) -/
  | ldw (r : CoreRef) (rd ra : Gpr) (v : BitVec 16)
  /-- LDH: LDH loads a sign-extended halfword. (R301) -/
  | ldh (r : CoreRef) (rd ra : Gpr) (v : BitVec 16)
  /-- LDHU: LDHU loads a zero-extended halfword. (R301) -/
  | ldhu (r : CoreRef) (rd ra : Gpr) (v : BitVec 16)
  /-- LDB: LDB loads a sign-extended byte. (R301) -/
  | ldb (r : CoreRef) (rd ra : Gpr) (v : BitVec 16)
  /-- LDBU: LDBU loads a zero-extended byte. (R301) -/
  | ldbu (r : CoreRef) (rd ra : Gpr) (v : BitVec 16)
  /-- STW: STW stores a word through the force table. (R301) -/
  | stw (r : CoreRef) (rd ra : Gpr) (v : BitVec 16)
  /-- STH: STH stores a halfword through the force table. (R301) -/
  | sth (r : CoreRef) (rd ra : Gpr) (v : BitVec 16)
  /-- STB: STB stores a byte through the force table. (R301) -/
  | stb (r : CoreRef) (rd ra : Gpr) (v : BitVec 16)
  /-- LDD: LDD loads a register pair from an 8-byte-aligned address. (R301) -/
  | ldd (r : CoreRef) (rd ra : Gpr) (v : BitVec 16)
  /-- STD: STD stores a register pair. (R301) -/
  | std (r : CoreRef) (rd ra : Gpr) (v : BitVec 16)
  /-- SWAP: ATOM SWAP exchanges rb with a memory word indivisibly. (R302) -/
  | swap (r : CoreRef) (rd ra rb : Gpr)
  /-- ADDA: ATOM ADDA adds rb to a memory word indivisibly. (R302) -/
  | adda (r : CoreRef) (rd ra rb : Gpr)
  /-- ANDA: ATOM ANDA ANDs rb into a memory word indivisibly. (R302) -/
  | anda (r : CoreRef) (rd ra rb : Gpr)
  /-- ORA: ATOM ORA ORs rb into a memory word indivisibly. (R302) -/
  | ora (r : CoreRef) (rd ra rb : Gpr)
  /-- CAS: ATOM CAS compares and swaps a memory word and sets Z on success. (R302) -/
  | cas (r : CoreRef) (rd ra rb : Gpr)
  /-- CFX: CFX extracts a report slot field of a cell record and sets V when stale. (R306) -/
  | cfx (r : CoreRef) (rd ra : Gpr) (lsb : BitVec 8) (w : BitVec 5) (sgn bank : Bool)
  /-- CLW: CLW loads a word of a cell record with bank-relative offsets. (R305) -/
  | clw (r : CoreRef) (rd ra : Gpr) (off : BitVec 8)
  /-- CSW: CSW stores to the RW fields of CTL word 0 or the PRG bytes of a cell record. (R307) -/
  | csw (r : CoreRef) (rd ra : Gpr) (off : BitVec 8)
  /-- BCC: BCC branches when its flag predicate holds. (R300) -/
  | bcc (r : CoreRef) (cond : BitVec 4) (off : BitVec 22)
  /-- JUMP: J jumps to PC plus the offset. (R296) -/
  | jump (r : CoreRef) (off : BitVec 26)
  /-- CALL: CALL writes PC + 4 to g31 and jumps. (R300) -/
  | call (r : CoreRef) (off : BitVec 26)
  /-- JR: JR jumps to the address in ra. (R296) -/
  | jr (r : CoreRef) (ra : Gpr)
  /-- CALLR: CALLR writes PC + 4 to rd and jumps to ra. (R300) -/
  | callr (r : CoreRef) (rd ra : Gpr)
  /-- CBEQ: CBEQ branches when ra equals rb. (R300) -/
  | cbeq (r : CoreRef) (ra rb : Gpr) (off : BitVec 16)
  /-- CBNE: CBNE branches when ra differs from rb. (R300) -/
  | cbne (r : CoreRef) (ra rb : Gpr) (off : BitVec 16)
  /-- CBLT: CBLT branches when ra is signed less than rb. (R300) -/
  | cblt (r : CoreRef) (ra rb : Gpr) (off : BitVec 16)
  /-- CBLTU: CBLTU branches when ra is unsigned less than rb. (R300) -/
  | cbltu (r : CoreRef) (ra rb : Gpr) (off : BitVec 16)
  /-- MAC: MAC adds a signed product term to an accumulator. (R310) -/
  | mac (r : CoreRef) (ad : BitVec 3) (ra rb : Gpr) (sh : BitVec 6)
  /-- MSU: MSU subtracts a signed product term from an accumulator. (R310) -/
  | msu (r : CoreRef) (ad : BitVec 3) (ra rb : Gpr) (sh : BitVec 6)
  /-- MULA: MULA loads an accumulator with a product term. (R310) -/
  | mula (r : CoreRef) (ad : BitVec 3) (ra rb : Gpr) (sh : BitVec 6)
  /-- MACU: MACU adds an unsigned product term. (R310) -/
  | macu (r : CoreRef) (ad : BitVec 3) (ra rb : Gpr) (sh : BitVec 6)
  /-- MACS: MACS adds the product term of the signed low halves. (R310) -/
  | macs (r : CoreRef) (ad : BitVec 3) (ra rb : Gpr) (sh : BitVec 6)
  /-- EXTR: EXTR extracts a rounded, saturated, shifted accumulator value. (R312) -/
  | extr (r : CoreRef) (ad : BitVec 3) (ra rb : Gpr) (sh : BitVec 6)
  /-- EXTRT: EXTRT extracts with rounding towards minus infinity. (R312) -/
  | extrt (r : CoreRef) (ad : BitVec 3) (ra rb : Gpr) (sh : BitVec 6)
  /-- MOVA: MOVA loads an accumulator from a shifted register. (R312) -/
  | mova (r : CoreRef) (ad : BitVec 3) (ra rb : Gpr) (sh : BitVec 6)
  /-- MVLO: MVLO moves accumulator bits [31:0] to a register. (R312) -/
  | mvlo (r : CoreRef) (ad : BitVec 3) (ra rb : Gpr) (sh : BitVec 6)
  /-- MVMI: MVMI moves accumulator bits [63:32] to a register. (R312) -/
  | mvmi (r : CoreRef) (ad : BitVec 3) (ra rb : Gpr) (sh : BitVec 6)
  /-- MVHI: MVHI moves the sign-extended accumulator top byte to a register. (R312) -/
  | mvhi (r : CoreRef) (ad : BitVec 3) (ra rb : Gpr) (sh : BitVec 6)
  /-- AWLO: AWLO writes accumulator bits [31:0]. (R312) -/
  | awlo (r : CoreRef) (ad : BitVec 3) (ra rb : Gpr) (sh : BitVec 6)
  /-- AWMI: AWMI writes accumulator bits [63:32]. (R312) -/
  | awmi (r : CoreRef) (ad : BitVec 3) (ra rb : Gpr) (sh : BitVec 6)
  /-- AWHI: AWHI writes accumulator bits [71:64]. (R312) -/
  | awhi (r : CoreRef) (ad : BitVec 3) (ra rb : Gpr) (sh : BitVec 6)
  /-- ACLR: ACLR clears an accumulator. (R312) -/
  | aclr (r : CoreRef) (ad : BitVec 3) (ra rb : Gpr) (sh : BitVec 6)
  /-- AADD: AADD adds one accumulator to another. (R312) -/
  | aadd (r : CoreRef) (ad : BitVec 3) (ra rb : Gpr) (sh : BitVec 6)
  /-- EXTRR: EXTRR extracts with a shift taken from a register. (R312) -/
  | extrr (r : CoreRef) (ad : BitVec 3) (ra rb : Gpr) (sh : BitVec 6)
  /-- DOT4: DOT4 accumulates four products from data SRAM and advances the pointers. (R313) -/
  | dot4 (r : CoreRef) (ad : BitVec 3) (ra rb : Gpr) (sh : BitVec 6)
  /-- DOT4C: DOT4C accumulates four coefficient-entry products, each rounded once. (R313) -/
  | dot4c (r : CoreRef) (ad : BitVec 3) (ra rb : Gpr)
  /-- TICKWAIT: TICKWAIT suspends issue until a tick or time instant, completing at once if passed. (R317) -/
  | tickwait (r : CoreRef) (ra : Gpr) (mode : Bool)
  /-- TICKWAIT_COMPLETE: The awaited instant arrives and the waiting context resumes. (R317) -/
  | tickwaitComplete (r : CoreRef)
  /-- POST: POST decrements a dependence counter. (R318) -/
  | post (r : CoreRef) (ra : Gpr)
  /-- TAKE: TAKE ends the current item and starts the stall item. (R319) -/
  | takeItem (r : CoreRef)
  /-- YIELD: YIELD ends the item and makes ready a continuation that keeps the flow. (R320) -/
  | yieldItem (r : CoreRef) (ra : Gpr)
  /-- FLOWEND: FLOWEND releases the item's flow at once. (R321) -/
  | flowend (r : CoreRef)
  /-- PUB: PUB copies 32 bytes to an arm reference record or a state image block. (R322) -/
  | pub (r : CoreRef) (ra rb : Gpr)
  /-- LEDG: LEDG marks a byte range as changed for the ledger. (R323) -/
  | ledg (r : CoreRef) (ra rb : Gpr)
  /-- MFC: MFC reads a control register. (R324) -/
  | mfc (r : CoreRef) (rd num : BitVec 5)
  /-- MTC: MTC writes a control register at level S. (R324) -/
  | mtc (r : CoreRef) (num ra : BitVec 5)
  /-- RTT: RTT restores status from CR_TSTAT and returns from a trap. (R326) -/
  | rtt (r : CoreRef) (adv : Bool)
  /-- TRAP: TRAP raises the TRAP exception with a code. (R324) -/
  | trap (r : CoreRef) (code : BitVec 5)
  /-- BREAK: BREAK halts under a permitted debug session or raises BREAK. (R328) -/
  | brk (r : CoreRef)
  /-- CLRQ: CLRQ clears the sticky saturation flag. (R324) -/
  | clrq (r : CoreRef)
  /-- FENCE: FENCE waits until every earlier store is visible to every master. (R303) -/
  | fence (r : CoreRef)
  /-- LI: LI loads a 32-bit immediate. (R299) -/
  | li (r : CoreRef) (rd : Gpr) (v : Word)
  /-- ADDL: ADDL adds a 32-bit immediate. (R299) -/
  | addl (r : CoreRef) (rd ra : Gpr) (v : Word)
  /-- ANDL: ANDL ANDs a 32-bit immediate. (R299) -/
  | andl (r : CoreRef) (rd ra : Gpr) (v : Word)
  /-- ORL: ORL ORs a 32-bit immediate. (R299) -/
  | orl (r : CoreRef) (rd ra : Gpr) (v : Word)
  /-- XORL: XORL XORs a 32-bit immediate. (R299) -/
  | xorl (r : CoreRef) (rd ra : Gpr) (v : Word)
  /-- CMPL: CMPL sets flags from ra minus a 32-bit immediate. (R299) -/
  | cmpl (r : CoreRef) (ra : Gpr) (v : Word)
  /-- JL: JL jumps to an absolute 16-bit address. (R299) -/
  | jl (r : CoreRef) (v : BitVec 16)
  /-- CALLL: CALLL writes PC + 8 to g31 and jumps to an absolute address. (R299) -/
  | calll (r : CoreRef) (v : BitVec 16)
  /-- CONTEXT_SWITCH: The dispatcher switches a core's context at an instruction boundary. (R288) -/
  | contextSwitch (c : Chip) (n : BitVec 4)
  /-- MODE_REQUEST_RUN: DSP_CTRL.MREQ = RUN requests RUN at MTICK, or is refused. (R337) -/
  | modeRequestRun (c : Chip) (mtick : BitVec 16)
  /-- MODE_REQUEST_STOP: DSP_CTRL.MREQ = STOP requests STOP at MTICK. (R337) -/
  | modeRequestStop (c : Chip) (mtick : BitVec 16)
  /-- MODE_REQUEST_HOLD: DSP_CTRL.MREQ = HOLD requests HOLD at MTICK. (R337) -/
  | modeRequestHold (c : Chip) (mtick : BitVec 16)
  /-- T0_RELEASE: T0 of tick n is released by its counter or at SP_RAP, after T0 of n − 1 ends. (R338) -/
  | t0Release (c : Chip) (n : BitVec 48)
  /-- EVENT_TASK_RELEASE: Ek is released by a counter or at the boundary after a routed event. (R338) -/
  | eventTaskRelease (c : Chip) (k : BitVec 5) (n : BitVec 48)
  /-- STALL_FILL: The dispatcher places the best eligible item in an empty stall. (R342) -/
  | stallFill (c : Chip)
  /-- PREEMPTION: A ready T0 or preempting item takes a core's other context. (R343) -/
  | preemption (c : Chip)
  /-- ARM_REFERENCE_DEADLINE: At the latest point for arm references unfinished counts are discarded and a T0 overrun is counted.
  (R351) -/
  | armReferenceDeadline (c : Chip) (n : BitVec 48)
  /-- T0_KILL: A T0 still running at the next tick's latest point is ended by the dispatcher. (R353) -/
  | t0Kill (c : Chip) (n : BitVec 48)
  /-- CORE_RESET: Cn_CTRL.RST resets a core and returns both contexts to service. (R368) -/
  | coreReset (c : Chip) (n : BitVec 4)
  /-- CORE_DISABLE: Clearing Cn_CTRL.EN lets items end and withdraws the stall item. (R344) -/
  | coreDisable (c : Chip) (n : BitVec 4)
  /-- FORCE_READ_ENTRY: DSP_FRCC CMD 0 loads a force entry for reading. (R367) -/
  | forceReadEntry (c : Chip) (e : BitVec 6)
  /-- FORCE_SET: DSP_FRCC SET schedules a force for FTICK and sends it to the standby. (R356) -/
  | forceSet (c : Chip) (e : BitVec 6) (ftick : BitVec 16)
  /-- FORCE_DEL: DSP_FRCC DEL schedules deletion of a force entry at FTICK. (R356) -/
  | forceDel (c : Chip) (e : BitVec 6) (ftick : BitVec 16)
  /-- OLC_LOAD: LOAD on the standby starts an on-line change in LOADING. (R358) -/
  | olcLoad (c : Chip)
  /-- OLC_IMAGE_LOADED: At the next boundary the standby loads the new image and enters SHADOW, or FAILED. (R358) -/
  | olcImageLoaded (c : Chip) (i : Image)
  /-- OLC_CHECKED: DONE reaches NCHK clean ticks and the change enters CHECKED. (R358) -/
  | olcChecked (c : Chip)
  /-- OLC_COMMIT: COMMIT in CHECKED starts the castling at CTICK. (R358) -/
  | olcCommit (c : Chip) (ctick : BitVec 16)
  /-- OLC_ABORT: ABORT reloads the old image at the next boundary. (R358) -/
  | olcAbort (c : Chip)
  /-- KF_HEARTBEAT_RECEIVED: The KF-120 receives a heartbeat, evaluates the token cases and replies with CONF or GRANT and STAT.
  (R536) -/
  | kfHeartbeatReceived (c : Chip) (x : Hb)
  /-- HEARTBEAT_TIMEOUT: HBTO expires for a chip; HBLOST is raised and the token cases are evaluated. (R536) -/
  | heartbeatTimeout (c : Chip)
  /-- KF_RESTART_GRANT: At a KF-120 restart the token goes to the claiming chip or per R22. (R374) -/
  | kfRestartGrant
  /-- CONF_RECEIVED: The holder receives a confirmation that renews its lease. (R375) -/
  | confReceived (c : Chip) (n cseq : BitVec 16) (xfer lapsed : Bool) (ctick : BitVec 16)
  /-- GRANT_RECEIVED: A chip receives a grant; this is the decision instant of castling. (R376) -/
  | grantReceived (c : Chip) (cseq ctick : BitVec 16) (at_ : Bool)
  /-- STAT_RECEIVED: A KV-9400 receives the KF-120 STAT with inputs and source bits. (R520) -/
  | statReceived (c : Chip) (inputs : Word) (src : BitVec 16) (b6 b7 : BitVec 8)
  /-- STATE_MESSAGE: A STATE message arrives with tick, role, claim, readiness and GEN. (R378) -/
  | stateMessage (c : Chip) (e : Envelope) (m : StateMsg)
  /-- DIGEST_MESSAGE: A DIGEST arrives and the token holder compares it to decide endorsement. (R382) -/
  | digestMessage (c : Chip) (e : Envelope) (t : BitVec 48) (ds : List (BitVec 64)) (inTime : Bool)
  /-- ENDORSE_MESSAGE: An ENDORSE arrives and the standby sets END on the endorsed strings. (R382) -/
  | endorseMessage (c : Chip) (e : Envelope) (t : BitVec 48) (mask : Word) (seq : BitVec 16) (inTime : Bool)
  /-- RELAY_MESSAGE: A RELAY entry arrives and the report is entered if no own report is held. (R124) -/
  | relayMessage (c : Chip) (e : Envelope) (l : List (BitVec 13 × RepSlot))
  /-- CASTLE_OFFER: A CASTLE OFFER, with the READY bits of its sender, arrives at the standby, which answers ACCEPT or REFUSE by its own. (R378, R395) -/
  | castleOffer (c : Chip) (e : Envelope) (ctick : BitVec 16) (ready : BitVec 8)
  /-- CASTLE_ACCEPT: A CASTLE ACCEPT arrives and the duty adds the transfer request to its heartbeats. (R395) -/
  | castleAccept (c : Chip) (e : Envelope)
  /-- CASTLE_REFUSE: A CASTLE REFUSE arrives and the duty sets PSTATE REFUSED. (R395) -/
  | castleRefuse (c : Chip) (e : Envelope)
  /-- CASTLE_COMMITREQ: A CASTLE COMMITREQ arrives and the duty acts as for a REQ. (R396) -/
  | castleCommitreq (c : Chip) (e : Envelope) (ctick : BitVec 16)
  /-- EVREL_MESSAGE: An EVREL arrives and the standby releases the E tasks at that boundary. (R339) -/
  | evrelMessage (c : Chip) (e : Envelope) (b : BitVec 48) (tasks : List (BitVec 5))
  /-- FORCE_MESSAGE: A FORCE message delivers a force change to the standby. (R356) -/
  | forceMessage (c : Chip) (e : Envelope) (x : FrcChange)
  /-- LEDGER_MESSAGE: A LEDGER message delivers epoch entries to the standby. (R386) -/
  | ledgerMessage (c : Chip) (e : Envelope) (n : BitVec 48) (l : List Entry)
  /-- EPOCHEND_MESSAGE: EPOCHEND arrives; the standby checks the CRC and applies the epoch whole. (R386) -/
  | epochendMessage (c : Chip) (e : Envelope) (n : BitVec 48) (count bytes crc : BitVec 32)
  /-- SWEEP_MESSAGE: A SWEEP record of estimator state arrives and is applied before the cell's next CVU update. (R390) -/
  | sweepMessage (c : Chip) (e : Envelope) (a : BitVec 13) (n : BitVec 48) (l : List Byte)
  /-- HEALTH_MESSAGE: A HEALTH report arrives and is held in LDG_HLTH. (R394) -/
  | healthMessage (c : Chip) (e : Envelope) (w0 w1 w2 w3 : Word)
  /-- EPOCH_MISS: EPOCHEND not received in time discards the epoch and releases T0. (R389) -/
  | epochMiss (c : Chip) (n : BitVec 48)
  /-- LEDGER_RESYNC: LDG_CTRL.RESYNC marks every variable and PRG range for transfer. (R391) -/
  | ledgerResync (c : Chip)
  /-- CASTLE_REQ: CL_CAS.REQ on the duty starts a planned castling with an OFFER. (R395) -/
  | castleReq (c : Chip) (ctick : BitVec 16)
  /-- TRANSFER_LAPSE: No grant by the heartbeat of CTICK − 4 lapses the transfer. (R395) -/
  | transferLapse (c : Chip)
  /-- SELF_TEST_STEP: The standby tests a slice or idle context and sets FAIL on failure. (R393) -/
  | selfTestStep (c : Chip) (logic sram arena : Bool)
  /-- HEALTH_REPORT: Every HPER ticks the standby produces and sends its health report. (R394) -/
  | healthReport (c : Chip)
  /-- FAULT_OCCURRENCE: The collector accepts a fault message, decides its severity, logs, latches and reacts. (R414) -/
  | faultOccurrence (c : Chip) (src : BitVec 7) (kind : BitVec 5) (addr : Word)
  /-- FAULT_WINDOW_END: A source's window ends and LAST is kept or cleared. (R416) -/
  | faultWindowEnd (c : Chip) (src : BitVec 7)
  /-- FAULT_ACKNOWLEDGE: Writing 1 to FLT_PENDm or FLT_SSTn.PEND acknowledges a source. (R417) -/
  | faultAcknowledge (c : Chip) (m : BitVec 2) (mask : Word)
  /-- FLT_WIN_WRITE: A write to FLT_WINn restarts the source's window counting. (R416) -/
  | fltWinWrite (c : Chip) (src : BitVec 7) (v : Word)
  /-- FLT_INJ_GO: FLT_INJ.GO raises an injected message, or is refused outside PARKED or standby. (R434) -/
  | fltInjGo (c : Chip) (src : BitVec 7) (kind : BitVec 5)
  /-- FIRST_FAULT_CLEAR: Writing 1 to FLT_FF0.VALID clears the first-fault latch. (R433) -/
  | firstFaultClear (c : Chip)
  /-- LOG_READ_POINTER_WRITE: A host write of FLT_LOGP.RP marks entries read and clears LFULL. (R423) -/
  | logReadPointerWrite (c : Chip) (rp : BitVec 8)
  /-- EVENT_UNMASK: Unmasking a source whose pending bit is set sends one MSI-X message. (R426) -/
  | eventUnmask (c : Chip) (m : BitVec 2) (v : Word)
  /-- ACQ_ARM_GO: ACQ_ARM.GO arms the group at ATICK, or is refused. (R441) -/
  | acqArmGo (c : Chip) (atick : BitVec 16) (cells : Bool)
  /-- ACQ_ARM_FIRE: ACQ_ARM.FIRE fires the group with CAUSE 0. (R444) -/
  | acqArmFire (c : Chip)
  /-- ACQ_ENABLE: Setting ACQn_CFG.EN is checked against rate, region and measurement limits. (R439) -/
  | acqEnable (c : Chip) (n : BitVec 2) (v : Word)
  /-- ACQ_DISABLE: Clearing EN in ARMED or POST writes a closing row and enters DONE. (R450) -/
  | acqDisable (c : Chip) (n : BitVec 2) (v : Word)
  /-- ACQ_ROW_GATHER: From B(n) + SP_RAP a unit gathers and writes the row of tick n. (R438) -/
  | acqRowGather (c : Chip) (n : BitVec 2) (t : BitVec 48)
  /-- ACQ_ROW_MISSED: A row not in DRAM by its deadline is missed and a gap row is written. (R448) -/
  | acqRowMissed (c : Chip) (n : BitVec 2) (t : BitVec 48)
  /-- ACQ_CELL_FIRE: A trailer with CFIRE and valid TCRC fires the group with CAUSE 6. (R444) -/
  | acqCellFire (c : Chip) (n : BitVec 5) (f : BitVec 48) (t : Trailer)
  /-- ACQ_OTHER_CHIP_FIRE: A valid header with BFIRE from the other chip fires the group. (R444) -/
  | acqOtherChipFire (c : Chip) (n : BitVec 5) (h : Header)
  /-- ACQ_CROSS_ARM: With XARM, a header with BARM from the other chip arms the group. (R443) -/
  | acqCrossArm (c : Chip) (n : BitVec 5) (h : Header)
  /-- ACQ_RECORD_CLOSE: NPOST reaches POST; the unit closes, writes measurements and raises ACQ_DONE. (R449) -/
  | acqRecordClose (c : Chip) (n : BitVec 2)
  /-- MEMORY_READ_CORRECTED: A read with one symbol in error is corrected and written back. (R467) -/
  | memoryReadCorrected (w : MemOf) (addr : BitVec 36) (e : Symbols)
  /-- MEMORY_READ_UNCORRECTABLE: An uncorrectable read is handled according to the master that made it. (R468) -/
  | memoryReadUncorrectable (r : ReadBy)
  /-- PARTIAL_STORE_MERGE: A store of under 8 bytes reads, merges and writes back the word. (R469) -/
  | partialStoreMerge (w : MemOf) (addr : BitVec 36) (v : BitVec 64) (n : BitVec 3)
  /-- PATROL_SCRUB_READ: The DRAM and SRAM scrubs read words on their schedules. (R472) -/
  | patrolScrubRead (w : MemOf) (addr : BitVec 36) (e : Symbols) (detected : Bool)
  /-- MEM_INIT: MEM_CFG.INIT writes every DRAM codeword. (R465) -/
  | memInit (c : Chip)
  /-- MEM_INIT_DONE: Training and initialisation complete and MEM_STAT.READY sets. (R465) -/
  | memInitDone (c : Chip)
  /-- MEM_HWIN_WRITE: A write of the BAR2 window base is refused if beyond installed DRAM. (R464) -/
  | memHwinWrite (c : Chip) (v : Word)
  /-- CRC_GO: CRCn_CTRL.GO starts or resumes a check-value scan. (R474) -/
  | crcGo (c : Chip) (n : BitVec 2) (v : Word)
  /-- CRC_EN_CLEAR: Clearing EN stops a scan after its word and leaves it STOPPED. (R476) -/
  | crcEnClear (c : Chip) (n : BitVec 2) (k : Nat)
  /-- CRC_SCAN_DONE: LEN reaches 0; STATE becomes DONE and RES is compared. (R474) -/
  | crcScanDone (c : Chip) (n : BitVec 2)
  /-- CRC_REPEAT: After RPER ms a repeating scan restarts. (R474) -/
  | crcRepeat (c : Chip) (n : BitVec 2)
  /-- CRC_PREEMPT: The security engine suspends a host scan on CRC0 for an image check and restores it. (R478) -/
  | crcPreempt (c : Chip) (k : Nat)
  /-- BAR0_WRITE: A host BAR0 write is applied register by register, or discarded. (R484) -/
  | bar0Write (c : Chip) (off : Word) (data : List Byte) (whole : Bool)
  /-- BAR0_UNMAPPED_ACCESS: A BAR0 access to an unmapped offset completes with Unsupported Request. (R484) -/
  | bar0UnmappedAccess (c : Chip) (off : Word)
  /-- BAR2_ACCESS: A host BAR2 access reaches DRAM through the force table. (R484) -/
  | bar2Access (c : Chip) (off : Word) (n : Nat) (w : Option (List Byte))
  /-- PCIE_LINK_LOSS: The PCIe link goes down and PCI_ERR is raised. (R484) -/
  | pcieLinkLoss (c : Chip)
  /-- MSIX_VECTOR_UNMASK: Unmasking an MSI-X vector sends a held pending message. (R485) -/
  | msixVectorUnmask (c : Chip) (v : BitVec 7)
  /-- SYS_XD_ACCESS: A SYS_XD access performs an indirect system access at ADDR. (R615) -/
  | sysXdAccess (c : Chip) (w : Option Word)
  /-- IMG_CFG_WRITE: A write of IMG_CFG is refused if the image would exceed 2.0 GB/s. (R494) -/
  | imgCfgWrite (c : Chip) (v : Word)
  /-- MAILBOX_SEND: IMG_MBC.SEND queues the host message for delivery at MT. (R495) -/
  | mailboxSend (c : Chip) (mt : BitVec 16) (een : Bool) (etask : BitVec 5)
  /-- MAILBOX_DELIVERY: The oldest queued message is delivered at its boundary. (R496) -/
  | mailboxDelivery (c : Chip)
  /-- TALLY_REQUEST: A write of IMG_TLY requests a tally latched at TT. (R497) -/
  | tallyRequest (c : Chip) (no tt : BitVec 16)
  /-- TALLY_CLOSE: At B(TT + 32) + SP_RAP the chip writes the tally result and raises TALLY. (R502) -/
  | tallyClose (c : Chip)
  /-- ETH_FRAME_RECEIVED: An Ethernet port receives a frame and sorts it to PTP, ring or drop. (R504) -/
  | ethFrameReceived (c : Chip) (n : BitVec 1) (frame : List Byte) (fcs : Bool)
  /-- ETH_TX_DESCRIPTOR: The port processes a transmit descriptor at HEAD. (R505) -/
  | ethTxDescriptor (c : Chip) (n : BitVec 1)
  /-- ETH_TIMED_LAUNCH: A TIMED frame is sent at LT, at once or discarded if too late. (R506) -/
  | ethTimedLaunch (c : Chip) (n : BitVec 1)
  /-- PTP_SYNC_SEND: The engine sends a one-step Sync inserting originTimestamp. (R508) -/
  | ptpSyncSend (c : Chip)
  /-- PTP_MESSAGE_RECEIVED: A PTP message is received and used for BMCA, delay and offset. (R507) -/
  | ptpMessageReceived (c : Chip) (n : BitVec 1) (dom : BitVec 8) (m : PtpMsg)
  /-- ANNOUNCE_TIMEOUT: The announce receipt timeout expires and the servo free-runs. (R512) -/
  | announceTimeout (c : Chip)
  /-- FIELD_INPUT_SAMPLE: Every 100 µs each input is sampled into its integrating filter. (R518) -/
  | fieldInputSample (vs cs : List (BitVec 16))
  /-- STIN_SAMPLE: Every 10 µs the station trip input is sampled through its filter. (R528) -/
  | stinSample (v : BitVec 16)
  /-- TRIP_SOURCE_ACTIVE: An enabled trip source becomes active and latches the trip output. (R527) -/
  | tripSourceActive
  /-- OUTPUT_SELF_OFF: An output in current limit for 5 ms or in thermal shutdown turns itself off and sets FAULT. (R521) -/
  | outputSelfOff (i : Fin 20)
  /-- OUTPUT_RESTART: An output that turned itself off restarts after cooling by 15 K. (R521) -/
  | outputRestart (i : Fin 20)
  /-- KF_CMD_RECEIVED: The KF-120 accepts a CMD from the holder, setting outputs, refresh, resume, safe, trip and clear. (R535) -/
  | kfCmdReceived (c : Chip) (out : BitVec 16) (ref resume safe trip tclr : Bool)
  /-- KF_REG_RECEIVED: The KF-120 answers a REG read or write with RDATA. (R535) -/
  | kfRegReceived (c : Chip) (op num : BitVec 8) (data : Word) (tag : BitVec 8)
  /-- SVL_MESSAGE_DISCARD: A supervisor message with failing CRC or code violation is discarded and counted. (R532) -/
  | svlMessageDiscard (e : SvlEnd)
  /-- SILENCE_TIMER_EXPIRY: The silence timer expires; SILENCE is raised, SIL becomes active and the KF-120 enters SAFE. (R525) -/
  | silenceTimerExpiry
  /-- KF_SUPPLY_RESET: The 24 V supply falls below 16 V and the KF-120 resets with every output off. (R516) -/
  | kfSupplyReset
  /-- KF_RESET_RELEASE: The supply rises above 17 V and the KF-120 leaves reset in SAFE. (R516) -/
  | kfResetRelease (vsup : BitVec 8)
  /-- KF_REFCLK_FAIL: REFCLK absent for more than 1 µs moves the timeout to the oscillator and raises OSC. (R516) -/
  | kfRefclkFail
  /-- SVL_REQ_READ: SVL_REQ OP 1 sends a REG read to the KF-120. (R542) -/
  | svlReqRead (c : Chip) (num : BitVec 8)
  /-- SVL_REQ_WRITE: SVL_REQ OP 2 sends a REG write of SVL_WD to the KF-120. (R542) -/
  | svlReqWrite (c : Chip) (num : BitVec 8)
  /-- SVL_RDATA_RECEIVED: An RDATA reply arrives and clears BUSY. (R542) -/
  | svlRdataReceived (c : Chip) (status : BitVec 8) (data : Word)
  /-- SVL_CTRL_SAFE: SVL_CTRL.SAFE makes the next CMD carry SAFE = 1. (R542) -/
  | svlCtrlSafe (c : Chip)
  /-- SVL_CTRL_TCLR: SVL_CTRL.TCLR makes the next CMD carry TCLR = 1. (R542) -/
  | svlCtrlTclr (c : Chip)
  /-- SVL_CTRL_RESUME: SVL_CTRL.RESUME makes the next CMD carry RESUME = 1, refused while HELD. (R542) -/
  | svlCtrlResume (c : Chip)
  /-- SVL_LINK_LOSS: No STAT in the last 2 ticks clears UP and raises SVL_LINK. (R542) -/
  | svlLinkLoss (c : Chip)
  /-- KEY_PROG: PROG writes a key hash into an empty slot in OPEN. (R547) -/
  | keyProg (p : Part) (slot : BitVec 3) (code : BitVec 16)
  /-- KEY_REVOKE: REVOKE blows a slot's revoke fuse. (R547) -/
  | keyRevoke (p : Part) (slot : BitVec 3) (code : BitVec 16)
  /-- SEAL: SEAL blows the SEAL fuse, effective at the next reset. (R544) -/
  | sealPart (p : Part) (code : BitVec 16)
  /-- RETIRE: RETIRE destroys every key slot, blows the RETIRE fuse and restarts the part. (R545) -/
  | retire (p : Part) (code : BitVec 16)
  /-- SVUP: SVUP raises the security version count to the running image's version. (R547) -/
  | svup (p : Part) (code : BitVec 16)
  /-- DEBUG_CHAL: CHAL issues a fresh nonce and holds the part for the requester. (R553) -/
  | debugChal (p : Part) (probe : Bool)
  /-- DEBUG_VERIFY: VERIFY checks key, signature, nonce and tables and grants or refuses a session. (R553) -/
  | debugVerify (p : Part) (probe : Bool) (level : BitVec 2) (svc : Bool) (dslot : BitVec 1)
  /-- DEBUG_VERIFY_DONE: VERIFY completes within 10 ms or 50 ms and the session is granted or refused. (R553) -/
  | debugVerifyDone (p : Part) (hash : BitVec 384) (sig : Bool)
  /-- DEBUG_CLOSE: CLOSE ends the session, resuming halted cores. (R555) -/
  | debugClose (p : Part) (probe : Bool)
  /-- SESSION_IDLE_TIMEOUT: 600 s without a DBG access ends the session. (R555) -/
  | sessionIdleTimeout (p : Part)
  /-- PROBE_DISCONNECT: The Delfieg Probe disconnects and the session ends. (R555) -/
  | probeDisconnect (p : Part)
  /-- AUTH_LOCKOUT_END: 60 s after lockout, VERIFY is accepted again. (R553) -/
  | authLockoutEnd (p : Part)
  /-- CORE_HALT: DBG_CORE HALT stops the cores in CMASK at an instruction boundary. (R556) -/
  | coreHalt (c : Chip) (probe : Bool) (mask : BitVec 16)
  /-- CORE_RESUME: DBG_CORE RESUME restarts halted cores. (R556) -/
  | coreResume (c : Chip) (probe : Bool) (mask : BitVec 16)
  /-- CORE_STEP: DBG_CORE STEP executes one instruction on halted cores. (R556) -/
  | coreStep (c : Chip) (probe : Bool) (mask : BitVec 16)
  /-- CELL_HALT: CC_DREQ HALT halts the cell core by freeze or park first. (R557) -/
  | cellHalt (a : BitVec 13) (probe : Bool)
  /-- CELL_RESUME: CC_DREQ RESUME restarts the cell core. (R557) -/
  | cellResume (a : BitVec 13) (probe : Bool)
  /-- CELL_STEP: CC_DREQ STEP executes one cell core instruction. (R557) -/
  | cellStep (a : BitVec 13) (probe : Bool)
  /-- CC_BOOT_CHK: CC_BOOT.CHK checks the bank not running and reports in CRES. (R551) -/
  | ccBootChk (a : BitVec 13) (i : ImgChk)
  /-- CC_BOOT_SEL_WRITE: A write of CC_BOOT.SEL naming the other bank is accepted only if CRES is valid. (R551) -/
  | ccBootSelWrite (a : BitVec 13) (v : Word)
  /-- POWER_REQUEST_RUN: SYS_PWR.REQ = RUN rechecks timing and ports and moves PARKED to RUN. (R559) -/
  | powerRequestRun (c : Chip)
  /-- POWER_REQUEST_PARKED: SYS_PWR.REQ = PARKED moves RUN or STANDBY to PARKED. (R559) -/
  | powerRequestParked (c : Chip)
  /-- POWER_REQUEST_STANDBY: SYS_PWR.REQ = STANDBY powers down the chip with SRAM retained. (R559) -/
  | powerRequestStandby (c : Chip)
  /-- POWER_ON_RESET: A rail falls below its threshold and the power-on reset asserts. (R569) -/
  | powerOnReset (c : Chip)
  /-- RESET_RELEASE: The reset is released and the chip enters PHASE 0 and samples its straps. (R572) -/
  | resetRelease (c : Chip) (bench kflt : Bool)
  /-- RESETN_ASSERT: RESETn held low for 1 µs makes a chip reset. (R569) -/
  | resetnAssert (c : Chip)
  /-- CHIP_RESET: SYS_RST.CHIP with the code makes a chip reset. (R569) -/
  | chipReset (c : Chip) (code : BitVec 16)
  /-- SERDES_WEST_RESET: SYS_RST.SDW resets the west SerDes region in PARKED. (R569) -/
  | serdesWestReset (c : Chip) (code : BitVec 16)
  /-- SERDES_EAST_RESET: SYS_RST.SDE resets the east SerDes region in PARKED. (R569) -/
  | serdesEastReset (c : Chip) (code : BitVec 16)
  /-- OVER_TEMPERATURE_RESET: Die above 125 °C holds the chip in reset until below 115 °C. (R606) -/
  | overTemperatureReset (c : Chip)
  /-- PHASE_COMPLETE: A start-up phase completes or fails, advancing the chip or making it HELD. (R572) -/
  | phaseComplete (c : Chip) (mem : Bool) (primary secondary : Image)
  /-- PROBE_START_ROLE_A: A chip of role A begins the power handshake when its off time has passed. (R574) -/
  | probeStartRoleA (c : Chip) (n : BitVec 5)
  /-- PROBE_START_ROLE_B: A chip of role B begins the handshake after a far-end header or 2 s. (R574) -/
  | probeStartRoleB (c : Chip) (n : BitVec 5) (late : Bool)
  /-- DISCOVERY_STABLE: The discovered count holds for 64 ticks and discovery ends. (R577) -/
  | discoveryStable (c : Chip)
  /-- CELL_IDENTITY_CHECK: Each chip reads CC_ID of every placed module and overrides mismatches. (R579) -/
  | cellIdentityCheck (c : Chip) (a : BitVec 13) (ident : Option Word)
  /-- SYS_BOOT_LOAD: SYS_BOOT LOAD runs phases 2–7 on a host-loaded image. (R582) -/
  | sysBootLoad (c : Chip) (slot : Bool)
  /-- SYS_BOOT_RECHK: SYS_BOOT RECHK reruns from the first failed phase. (R582) -/
  | sysBootRechk (c : Chip)
  /-- REGISTER_WRITE: A write to a register without a row of its own sets fields per their access codes or is refused. (R8) -/
  | registerWrite (r : RegBy) (off v : Word)
  /-- STRING_PORT_HEADER_RECEIVED: A string port receives the header of the other chip's frame or a fold frame, checks it and
  takes from it P, the hop TURN and the ASYM measurement. (R47) -/
  | stringPortHeaderReceived (c : Chip) (n : BitVec 5) (h : Header) (arr lat : Nat)
  /-- STRING_PORT_TRAILER_RECEIVED: A string port receives a frame trailer, checks TCRC and records NLIVE as the discovered count.
  (R138) -/
  | stringPortTrailerReceived (c : Chip) (n : BitVec 5) (t : Trailer)
  /-- ILLEGAL_INSTRUCTION: A core fetches a word with a reserved OP, FN, SUB or COND value, such as blank memory, and raises
  ILLEGAL. (R294) -/
  | illegalInstruction (r : CoreRef) (w imm : Word)
  /-- DIE_TEMPERATURE_WARNING: The KV-9400 die temperature rises above 110 °C and SYS_TEMP is raised. (R605) -/
  | dieTemperatureWarning (c : Chip)
  /-- KF_SUPPLY_WARNING: The KF-120 24 V supply enters 16.0–19.2 V or 30–36 V and source SUPPLY is raised, which makes the INT
  trip source present. (R516) -/
  | kfSupplyWarning (vsup : BitVec 8)
  /-- KF_DIE_OVER_TEMPERATURE: The KF-120 die rises above 140 °C and source TEMP is raised, which makes the INT trip source
  present. (R537) -/
  | kfDieOverTemperature (die : BitVec 8)
  /-- PCIE_LINK_UP: The PCIe link comes up and the MSI-X messages held pending while it was down are sent once each. (R485) -/
  | pcieLinkUp (c : Chip) (speed width : BitVec 3)
  /-- ETH_LINK_CHANGE: An Ethernet port gains or loses PCS block lock, updating ETHn_CFG.LINK and raising ETH_LINK. (R409) -/
  | ethLinkChange (c : Chip) (n : BitVec 1) (up : Bool)
  /-- DEBUG_NONCE_EXPIRY: 10 s after a CHAL the nonce expires and the requester no longer holds the part. (R554) -/
  | debugNonceExpiry (p : Part)
deriving DecidableEq, Repr

end Sys2Proof
end

