-- ==== Sys2Proof/Decode.lean ====
section
/-! DEFINITION. Commands spelled by words. No row of the opcode table gives bits: its commands are events and register accesses, and an
instruction row stands for the execution of an instruction by a core, whose words `Machine.decodeOp` reads (R293, R294). -/

namespace Sys2Proof

/-- The command that a word spells by the table's bits: none, for any word. -/
def decodeTableWord (_nbits _w : Nat) : Option Instr := none

end Sys2Proof
end

