-- ==== Sys2Proof/Machine/Field.lean ====
section
/-! DEFINITION. What a register field is (access codes and locks, R8 to R10), and its place in a register table. -/

namespace Sys2Proof.Machine

/-- The access codes of R8: read only, read write, write only (reads 0), write 1 to clear, write 1 to set,
and writable while locked open; `sat` is W1C on a saturating counter (R12), which only its largest value,
written back, clears (each counter's Meaning entry). -/
inductive Access where
  | ro | rw | wo | w1c | w1s | rwl | sat
deriving DecidableEq, Repr

/-- The conditions under which a write changes a field of access RWL. Each is judged over the registers
by `Kv.lockOpen`, `Cell.lockOpen` and `Kf.lockOpen`. -/
inductive Lock where
  | always      -- no lock
  | parked      -- the chip's power state is PARKED
  | tim         -- the condition of the tick block (R55)
  | stop        -- RUN mode is STOP
  | acqUnit     -- the acquisition unit is idle
  | acqCtrl     -- the acquisition control condition
  | memDen      -- the memory encoder condition
  | kcOpen      -- KC-60: always open
  | kcRole      -- KC-60: role condition
  | kcTest      -- KC-60: the position is in a test pattern state
  | kcParked    -- KC-60: mode PARKED
  | kcCap       -- KC-60: the capture unit is idle
  | kcSel       -- KC-60: the selector condition
  | kcGuard     -- KC-60: the guard condition
  | kfSafe      -- KF-120: outputs in their safe state
deriving DecidableEq, Repr

/-- One register field: byte (or word) address of instance 0, up to two strides with their counts, least significant bit,
width, access code, reset value by first index, lock, and the values that are no reserved encoding. -/
structure Fld where
  base : Nat
  s1 : Nat := 0
  c1 : Nat := 1
  s2 : Nat := 0
  c2 : Nat := 1
  lo : Nat
  w : Nat
  acc : Access
  rst : Nat → Nat := fun _ => 0
  lock : Lock := .always
  ok : Nat → Bool := fun _ => true

/-- The address of instance `i`, `j` of the field's register. -/
def Fld.addr (f : Fld) (i j : Nat) : Nat := f.base + f.s1 * i + f.s2 * j

/-- The field's key in a register table: its address and its least significant bit. -/
def Fld.key (f : Fld) (i j : Nat) : Nat := f.addr i j * 32 + f.lo

/-- The instance numbers under which the field's register lies at address `a`, if it does. -/
def Fld.at? (f : Fld) (a : Nat) : Option (Nat × Nat) :=
  let off := a - f.base
  let i := off / f.s1
  let j := (off - f.s1 * i) / f.s2
  if f.base ≤ a ∧ f.addr i j = a ∧ i < f.c1 ∧ j < f.c2 then some (i, j) else none

/-- The largest value of the field. -/
def Fld.max (f : Fld) : Nat := 2 ^ f.w - 1

/-- A register table holds each field as the difference (bit by bit) from its reset value, so that reset is the empty table. -/
def Fld.get (f : Fld) (i j : Nat) (t : Tab Nat) : Nat :=
  (Tab.get 0 (f.key i j) t ^^^ f.rst i) % 2 ^ f.w

/-- Write a field; bits beyond its width are dropped. -/
def Fld.set (f : Fld) (i j v : Nat) (t : Tab Nat) : Tab Nat :=
  Tab.set 0 (f.key i j) ((v % 2 ^ f.w) ^^^ f.rst i) t

/-- The default severity of fault source `n` (R406 and the table of sources), which FLT_SEVn shows at reset. -/
def sevDefault (n : Nat) : Nat :=
  ([1, 0, 4, 2, 1, 2, 1, 2, 2, 2, 2, 2, 2, 1, 1, 2, 1, 2, 2, 1, 2, 0, 2, 1, 2, 1, 2, 4, 1, 3, 2, 1] ++
   [0, 2, 2, 1, 1, 4, 4, 4, 4, 2, 4, 1, 1, 2, 0, 1, 0, 1, 0, 4, 2, 0, 4, 2, 1, 1, 0, 1, 1, 1, 1, 1] ++
   [2, 4, 1, 2, 2, 0, 4, 1, 0, 0, 0, 0, 0, 0, 0, 0, 2, 2, 2, 2, 2, 2, 2, 2, 2, 2, 2, 2, 2, 2, 2, 2] ++
   [0, 1, 1, 1, 0, 1, 1, 2, 3, 3, 1, 1, 1, 3, 2, 3, 3, 1, 2, 2, 1, 2, 1, 2, 1, 0, 0, 3, 2, 1, 2, 2] : List Nat).getD n 0

end Sys2Proof.Machine
end

