-- ==== Sys2Proof/Machine/FieldsKc.lean ====
section
/-! DEFINITION. The register fields of the KC-60 (addresses: R619), one definition per row of the spec's field maps: byte address
of instance 0 and strides, least significant bit, width, access code (R8), write lock, reset value (R11, R616) and
the values that are no reserved encoding (R10). Each definition cites the rule of its field map. -/

namespace Sys2Proof.Machine.Kc

/-- CC_ROLE SENSOR [16:16] RWL (R167). -/
def CC_ROLE.SENSOR : Fld := { base := 0x2000000, lo := 16, w := 1, acc := .rwl, lock := .kcRole }
/-- CC_ROLE MEAN [15:12] RWL (R167). -/
def CC_ROLE.MEAN : Fld := { base := 0x2000000, lo := 12, w := 4, acc := .rwl, lock := .kcOpen }
/-- CC_ROLE SEL [11:0] RWL (R167). -/
def CC_ROLE.SEL : Fld := { base := 0x2000000, lo := 0, w := 12, acc := .rwl, lock := .kcOpen }
/-- CC_WDT PER [9:0] RWL (R167). -/
def CC_WDT.PER : Fld := { base := 0x2000004, lo := 0, w := 10, acc := .rwl, rst := (fun _ => 100), lock := .kcOpen, ok := fun v => 1 ≤ v && v ≤ 1000 }
/-- CC_RST MAIN [9:9] WO (R167). -/
def CC_RST.MAIN : Fld := { base := 0x2000008, lo := 9, w := 1, acc := .wo }
/-- CC_RST CORE [8:8] WO (R167). -/
def CC_RST.CORE : Fld := { base := 0x2000008, lo := 8, w := 1, acc := .wo }
/-- CC_RST CAUSE [2:0] RO (R167). -/
def CC_RST.CAUSE : Fld := { base := 0x2000008, lo := 0, w := 3, acc := .ro }
/-- CC_EVP PEND [31:0] W1C (R167). -/
def CC_EVP.PEND : Fld := { base := 0x200000C, lo := 0, w := 32, acc := .w1c, rst := (fun _ => 1) }
/-- CC_XC PC [31:16] RO (R332). -/
def CC_XC.PC : Fld := { base := 0x2000010, lo := 16, w := 16, acc := .ro }
/-- CC_XC CAUSE [3:0] RO (R332). -/
def CC_XC.CAUSE : Fld := { base := 0x2000010, lo := 0, w := 4, acc := .ro }
/-- CC_SEC STATE [31:30] RO (R566). -/
def CC_SEC.STATE : Fld := { base := 0x2000018, lo := 30, w := 2, acc := .ro }
/-- CC_SEC BENCH [29:29] RO (R566). -/
def CC_SEC.BENCH : Fld := { base := 0x2000018, lo := 29, w := 1, acc := .ro }
/-- CC_SEC UNSG [28:28] RO (R566). -/
def CC_SEC.UNSG : Fld := { base := 0x2000018, lo := 28, w := 1, acc := .ro }
/-- CC_SEC ISLOT [27:27] RO (R566). -/
def CC_SEC.ISLOT : Fld := { base := 0x2000018, lo := 27, w := 1, acc := .ro }
/-- CC_SEC SVN [5:0] RO (R566). -/
def CC_SEC.SVN : Fld := { base := 0x2000018, lo := 0, w := 6, acc := .ro }
/-- CC_BOOT CHK [31:31] WO (R566). -/
def CC_BOOT.CHK : Fld := { base := 0x2000020, lo := 31, w := 1, acc := .wo }
/-- CC_BOOT CRES [30:29] RO (R566). -/
def CC_BOOT.CRES : Fld := { base := 0x2000020, lo := 29, w := 2, acc := .ro }
/-- CC_BOOT SEL [28:28] RWL (R566). -/
def CC_BOOT.SEL : Fld := { base := 0x2000020, lo := 28, w := 1, acc := .rwl, lock := .kcSel }
/-- CC_BOOT RUN [27:27] RO (R566). -/
def CC_BOOT.RUN : Fld := { base := 0x2000020, lo := 27, w := 1, acc := .ro }
/-- CC_BWIN D [31:0] WO (R566). -/
def CC_BWIN.D : Fld := { base := 0x2010000, s1 := 0x4, c1 := 32768, lo := 0, w := 32, acc := .wo }
/-- CC_TBUF D [31:0] RO (R566). -/
def CC_TBUF.D : Fld := { base := 0x2000800, s1 := 0x4, c1 := 512, lo := 0, w := 32, acc := .ro }
/-- CC_ID IDENT [31:0] RO (R587). -/
def CC_ID.IDENT : Fld := { base := 0x2000014, lo := 0, w := 32, acc := .ro }
/-- CC_SECC CODE [31:16] WO (R566). -/
def CC_SECC.CODE : Fld := { base := 0x200001C, lo := 16, w := 16, acc := .wo }
/-- CC_SECC CMD [15:13] WO (R566). -/
def CC_SECC.CMD : Fld := { base := 0x200001C, lo := 13, w := 3, acc := .wo }
/-- CC_SECC SLOT [2:0] WO (R566). -/
def CC_SECC.SLOT : Fld := { base := 0x200001C, lo := 0, w := 3, acc := .wo }
/-- CC_KDATAk H [31:0] RW (R566). -/
def CC_KDATAk.H : Fld := { base := 0x2000040, s1 := 0x4, c1 := 12, lo := 0, w := 32, acc := .rw }
/-- CC_DCHk N [31:0] RO (R566). -/
def CC_DCHk.N : Fld := { base := 0x2000080, s1 := 0x4, c1 := 12, lo := 0, w := 32, acc := .ro }
/-- CC_DPUBk Q [31:0] RW (R566). -/
def CC_DPUBk.Q : Fld := { base := 0x2000100, s1 := 0x4, c1 := 24, lo := 0, w := 32, acc := .rw }
/-- CC_DSIGk S [31:0] RW (R566). -/
def CC_DSIGk.S : Fld := { base := 0x2000180, s1 := 0x4, c1 := 24, lo := 0, w := 32, acc := .rw }
/-- CC_DREQ CMD [31:29] WO (R566). -/
def CC_DREQ.CMD : Fld := { base := 0x2000024, lo := 29, w := 3, acc := .wo }
/-- CC_DREQ LEVEL [28:27] RW (R566). -/
def CC_DREQ.LEVEL : Fld := { base := 0x2000024, lo := 27, w := 2, acc := .rw, ok := fun v => v == 1 || v == 2 }
/-- CC_DREQ SVC [26:26] RW (R566). -/
def CC_DREQ.SVC : Fld := { base := 0x2000024, lo := 26, w := 1, acc := .rw }
/-- CC_DREQ CORE [1:0] WO (R566). -/
def CC_DREQ.CORE : Fld := { base := 0x2000024, lo := 0, w := 2, acc := .wo }
/-- CC_DSTAT LEVEL [31:30] RO (R566). -/
def CC_DSTAT.LEVEL : Fld := { base := 0x2000028, lo := 30, w := 2, acc := .ro }
/-- CC_DSTAT SVC [29:29] RO (R566). -/
def CC_DSTAT.SVC : Fld := { base := 0x2000028, lo := 29, w := 1, acc := .ro }
/-- CC_DSTAT PATH [28:27] RO (R566). -/
def CC_DSTAT.PATH : Fld := { base := 0x2000028, lo := 27, w := 2, acc := .ro }
/-- CC_DSTAT RES [26:24] RO (R566). -/
def CC_DSTAT.RES : Fld := { base := 0x2000028, lo := 24, w := 3, acc := .ro }
/-- CC_DSTAT HALTED [0:0] RO (R566). -/
def CC_DSTAT.HALTED : Fld := { base := 0x2000028, lo := 0, w := 1, acc := .ro }
/-- GEN_CTRL EDGE [15:12] RWL (R187). -/
def GEN_CTRL.EDGE : Fld := { base := 0x2001000, lo := 12, w := 4, acc := .rwl, rst := (fun _ => 4), lock := .kcOpen, ok := fun v => 2 ≤ v && v ≤ 12 }
/-- GEN_CTRL SAFE1 [9:9] RWL (R187). -/
def GEN_CTRL.SAFE1 : Fld := { base := 0x2001000, lo := 9, w := 1, acc := .rwl, lock := .kcOpen }
/-- GEN_CTRL SAFE0 [8:8] RWL (R187). -/
def GEN_CTRL.SAFE0 : Fld := { base := 0x2001000, lo := 8, w := 1, acc := .rwl, lock := .kcOpen }
/-- GEN_CTRL MPMODE [5:5] RWL (R187). -/
def GEN_CTRL.MPMODE : Fld := { base := 0x2001000, lo := 5, w := 1, acc := .rwl, rst := (fun _ => 1), lock := .kcOpen }
/-- GEN_CTRL SRC [4:4] RWL (R187). -/
def GEN_CTRL.SRC : Fld := { base := 0x2001000, lo := 4, w := 1, acc := .rwl, lock := .kcTest }
/-- GEN_CTRL TOPO [0:0] RWL (R187). -/
def GEN_CTRL.TOPO : Fld := { base := 0x2001000, lo := 0, w := 1, acc := .rwl, lock := .kcParked }
/-- GEN_DT DT1 [29:16] RWL (R188). -/
def GEN_DT.DT1 : Fld := { base := 0x2001004, lo := 16, w := 14, acc := .rwl, rst := (fun _ => 1600), lock := .kcOpen, ok := fun v => 80 ≤ v }
/-- GEN_DT DT0 [13:0] RWL (R188). -/
def GEN_DT.DT0 : Fld := { base := 0x2001004, lo := 0, w := 14, acc := .rwl, rst := (fun _ => 1600), lock := .kcOpen, ok := fun v => 80 ≤ v }
/-- GEN_MINP MINP [15:0] RWL (R188). -/
def GEN_MINP.MINP : Fld := { base := 0x2001008, lo := 0, w := 16, acc := .rwl, lock := .kcOpen }
/-- GEN_TRIP ACT [20:16] RO (R189). -/
def GEN_TRIP.ACT : Fld := { base := 0x200100C, lo := 16, w := 5, acc := .ro }
/-- GEN_TRIP LAT [12:8] RO (R189). -/
def GEN_TRIP.LAT : Fld := { base := 0x200100C, lo := 8, w := 5, acc := .ro }
/-- GEN_TRIP TFILT [7:5] RWL (R189). -/
def GEN_TRIP.TFILT : Fld := { base := 0x200100C, lo := 5, w := 3, acc := .rwl, rst := (fun _ => 2), lock := .kcOpen, ok := fun v => v ≤ 5 }
/-- GEN_TRIP TEN [4:0] RWL (R189). -/
def GEN_TRIP.TEN : Fld := { base := 0x200100C, lo := 0, w := 5, acc := .rwl, rst := (fun _ => 31), lock := .kcOpen }
/-- GEN_LPA ST0 [21:19] RWL (R190). -/
def GEN_LPA.ST0 : Fld := { base := 0x2001010, lo := 19, w := 3, acc := .rwl, lock := .kcOpen, ok := fun v => v ≤ 4 }
/-- GEN_LPA ST1 [18:16] RWL (R190). -/
def GEN_LPA.ST1 : Fld := { base := 0x2001010, lo := 16, w := 3, acc := .rwl, lock := .kcOpen, ok := fun v => v ≤ 4 }
/-- GEN_LPA T1 [15:0] RWL (R190). -/
def GEN_LPA.T1 : Fld := { base := 0x2001010, lo := 0, w := 16, acc := .rwl, lock := .kcOpen }
/-- GEN_LPB ST2 [18:16] RWL (R190). -/
def GEN_LPB.ST2 : Fld := { base := 0x2001014, lo := 16, w := 3, acc := .rwl, lock := .kcOpen, ok := fun v => v ≤ 4 }
/-- GEN_LPB T2 [15:0] RWL (R190). -/
def GEN_LPB.T2 : Fld := { base := 0x2001014, lo := 0, w := 16, acc := .rwl, lock := .kcOpen }
/-- GEN_STAT SAT [31:31] W1C (R191). -/
def GEN_STAT.SAT : Fld := { base := 0x2001018, lo := 31, w := 1, acc := .w1c }
/-- GEN_STAT VCNT [30:24] W1C (R191). -/
def GEN_STAT.VCNT : Fld := { base := 0x2001018, lo := 24, w := 7, acc := .sat }
/-- GEN_STAT PCNT [23:16] W1C (R191). -/
def GEN_STAT.PCNT : Fld := { base := 0x2001018, lo := 16, w := 8, acc := .sat }
/-- GEN_STAT TCNT [15:12] W1C (R191). -/
def GEN_STAT.TCNT : Fld := { base := 0x2001018, lo := 12, w := 4, acc := .sat }
/-- GEN_STAT OPEN [11:11] RO (R191). -/
def GEN_STAT.OPEN : Fld := { base := 0x2001018, lo := 11, w := 1, acc := .ro }
/-- GEN_STAT FROZEN [10:10] RO (R191). -/
def GEN_STAT.FROZEN : Fld := { base := 0x2001018, lo := 10, w := 1, acc := .ro }
/-- GEN_STAT ARMED [9:9] RO (R191). -/
def GEN_STAT.ARMED : Fld := { base := 0x2001018, lo := 9, w := 1, acc := .ro }
/-- GEN_STAT BADARM [8:8] W1C (R191). -/
def GEN_STAT.BADARM : Fld := { base := 0x2001018, lo := 8, w := 1, acc := .w1c }
/-- GEN_STAT DISON [7:7] RO (R191). -/
def GEN_STAT.DISON : Fld := { base := 0x2001018, lo := 7, w := 1, acc := .ro }
/-- GEN_STAT BYPF [6:6] RO (R191). -/
def GEN_STAT.BYPF : Fld := { base := 0x2001018, lo := 6, w := 1, acc := .ro }
/-- GEN_STAT TRIPL [5:5] RO (R191). -/
def GEN_STAT.TRIPL : Fld := { base := 0x2001018, lo := 5, w := 1, acc := .ro }
/-- GEN_STAT STATE [4:2] RO (R191). -/
def GEN_STAT.STATE : Fld := { base := 0x2001018, lo := 2, w := 3, acc := .ro }
/-- GEN_OUT DIS [5:5] RO (R192). -/
def GEN_OUT.DIS : Fld := { base := 0x200101C, lo := 5, w := 1, acc := .ro }
/-- GEN_OUT BYP [4:4] RO (R192). -/
def GEN_OUT.BYP : Fld := { base := 0x200101C, lo := 4, w := 1, acc := .ro }
/-- GEN_OUT G [3:0] RO (R192). -/
def GEN_OUT.G : Fld := { base := 0x200101C, lo := 0, w := 4, acc := .ro }
/-- ADC_CTRL SETL [15:11] RWL (R216). -/
def ADC_CTRL.SETL : Fld := { base := 0x2002000, lo := 11, w := 5, acc := .rwl, rst := (fun _ => 10), lock := .kcOpen }
/-- ADC_CTRL SREP [7:7] RWL (R216). -/
def ADC_CTRL.SREP : Fld := { base := 0x2002000, lo := 7, w := 1, acc := .rwl, lock := .kcOpen }
/-- ADC_CTRL FAST [6:4] RWL (R216). -/
def ADC_CTRL.FAST : Fld := { base := 0x2002000, lo := 4, w := 3, acc := .rwl, lock := .kcParked }
/-- ADC_CAL ROT [31:24] RWL (R216). -/
def ADC_CAL.ROT : Fld := { base := 0x2002004, lo := 24, w := 8, acc := .rwl, rst := (fun _ => 10), lock := .kcOpen }
/-- ADC_CAL GO [23:23] WO (R216). -/
def ADC_CAL.GO : Fld := { base := 0x2002004, lo := 23, w := 1, acc := .wo }
/-- ADC_CAL BUSY [22:22] RO (R216). -/
def ADC_CAL.BUSY : Fld := { base := 0x2002004, lo := 22, w := 1, acc := .ro }
/-- ADC_CAL WAIT [21:21] RO (R216). -/
def ADC_CAL.WAIT : Fld := { base := 0x2002004, lo := 21, w := 1, acc := .ro }
/-- ADC_CAL SPARE [20:19] RO (R216). -/
def ADC_CAL.SPARE : Fld := { base := 0x2002004, lo := 19, w := 2, acc := .ro }
/-- ADC_CAL FAIL [18:16] RO (R216). -/
def ADC_CAL.FAIL : Fld := { base := 0x2002004, lo := 16, w := 3, acc := .ro }
/-- ADC_CAL SAT [15:15] W1C (R216). -/
def ADC_CAL.SAT : Fld := { base := 0x2002004, lo := 15, w := 1, acc := .w1c }
/-- ADC_CAL RUNS [14:0] W1C (R216). -/
def ADC_CAL.RUNS : Fld := { base := 0x2002004, lo := 0, w := 15, acc := .sat }
/-- ADC_STAT DROP [17:17] RO (R216). -/
def ADC_STAT.DROP : Fld := { base := 0x2002008, lo := 17, w := 1, acc := .ro }
/-- ADC_STAT SHARED [16:16] RO (R216). -/
def ADC_STAT.SHARED : Fld := { base := 0x2002008, lo := 16, w := 1, acc := .ro }
/-- ADC_STAT SAT [15:15] W1C (R216). -/
def ADC_STAT.SAT : Fld := { base := 0x2002008, lo := 15, w := 1, acc := .w1c }
/-- ADC_STAT CCNT [14:0] W1C (R216). -/
def ADC_STAT.CCNT : Fld := { base := 0x2002008, lo := 0, w := 15, acc := .sat }
/-- ADC_DIE DIE [9:0] RO (R216). -/
def ADC_DIE.DIE : Fld := { base := 0x200200C, lo := 0, w := 10, acc := .ro }
/-- ADC_SEQn EN [7:7] RWL (R217). -/
def ADC_SEQn.EN : Fld := { base := 0x2002040, s1 := 0x4, c1 := 8, lo := 7, w := 1, acc := .rwl, rst := (fun i => if i < 3 then 1 else 0), lock := .kcOpen }
/-- ADC_SEQn GATE [6:5] RWL (R217). -/
def ADC_SEQn.GATE : Fld := { base := 0x2002040, s1 := 0x4, c1 := 8, lo := 5, w := 2, acc := .rwl, rst := (fun i => if i = 0 then 1 else if i = 1 then 2 else 0), lock := .kcOpen, ok := fun v => v != 3 }
/-- ADC_SEQn INP [2:0] RWL (R217). -/
def ADC_SEQn.INP : Fld := { base := 0x2002040, s1 := 0x4, c1 := 8, lo := 0, w := 3, acc := .rwl, rst := (fun i => if i < 3 then i + 1 else 0), lock := .kcOpen }
/-- ADC_RESn TK [31:24] RO (R217). -/
def ADC_RESn.TK : Fld := { base := 0x2002060, s1 := 0x4, c1 := 8, lo := 24, w := 8, acc := .ro }
/-- ADC_RESn CLIP [17:17] RO (R217). -/
def ADC_RESn.CLIP : Fld := { base := 0x2002060, s1 := 0x4, c1 := 8, lo := 17, w := 1, acc := .ro }
/-- ADC_RESn VALID [16:16] RO (R217). -/
def ADC_RESn.VALID : Fld := { base := 0x2002060, s1 := 0x4, c1 := 8, lo := 16, w := 1, acc := .ro }
/-- ADC_RESn CODE [15:0] RO (R217). -/
def ADC_RESn.CODE : Fld := { base := 0x2002060, s1 := 0x4, c1 := 8, lo := 0, w := 16, acc := .ro }
/-- ADC_INJ GO [3:3] WO (R217). -/
def ADC_INJ.GO : Fld := { base := 0x2002010, lo := 3, w := 1, acc := .wo }
/-- ADC_INJ INP [2:0] RW (R217). -/
def ADC_INJ.INP : Fld := { base := 0x2002010, lo := 0, w := 3, acc := .rw }
/-- ADC_IRES PEND [31:31] RO (R217). -/
def ADC_IRES.PEND : Fld := { base := 0x2002014, lo := 31, w := 1, acc := .ro }
/-- ADC_IRES IOVR [30:30] W1C (R217). -/
def ADC_IRES.IOVR : Fld := { base := 0x2002014, lo := 30, w := 1, acc := .w1c }
/-- ADC_IRES CLIP [17:17] RO (R217). -/
def ADC_IRES.CLIP : Fld := { base := 0x2002014, lo := 17, w := 1, acc := .ro }
/-- ADC_IRES VALID [16:16] RO (R217). -/
def ADC_IRES.VALID : Fld := { base := 0x2002014, lo := 16, w := 1, acc := .ro }
/-- ADC_IRES CODE [15:0] RO (R217). -/
def ADC_IRES.CODE : Fld := { base := 0x2002014, lo := 0, w := 16, acc := .ro }
/-- ADC_VSC CGAIN [31:16] RWL (R217). -/
def ADC_VSC.CGAIN : Fld := { base := 0x2002018, lo := 16, w := 16, acc := .rwl, rst := (fun _ => 20480), lock := .kcOpen }
/-- ADC_VSC COFS [15:0] RWL (R217). -/
def ADC_VSC.COFS : Fld := { base := 0x2002018, lo := 0, w := 16, acc := .rwl, lock := .kcOpen }
/-- ADC_ESC EGAIN [31:16] RWL (R217). -/
def ADC_ESC.EGAIN : Fld := { base := 0x200201C, lo := 16, w := 16, acc := .rwl, rst := (fun _ => 2048), lock := .kcOpen }
/-- ADC_ESC EOFS [15:0] RWL (R217). -/
def ADC_ESC.EOFS : Fld := { base := 0x200201C, lo := 0, w := 16, acc := .rwl, lock := .kcOpen }
/-- ADC_TSC TGAIN [31:16] RWL (R217). -/
def ADC_TSC.TGAIN : Fld := { base := 0x2002020, lo := 16, w := 16, acc := .rwl, rst := (fun _ => 410), lock := .kcOpen }
/-- ADC_TSC TOFS [15:0] RWL (R217). -/
def ADC_TSC.TOFS : Fld := { base := 0x2002020, lo := 0, w := 16, acc := .rwl, rst := (fun _ => 8000), lock := .kcOpen }
/-- GRD_CFG FILT [13:12] RWL (R167). -/
def GRD_CFG.FILT : Fld := { base := 0x2003000, lo := 12, w := 2, acc := .rwl, rst := (fun _ => 1), lock := .kcGuard, ok := fun v => v != 3 }
/-- GRD_CFG OVACT [11:10] RWL (R167). -/
def GRD_CFG.OVACT : Fld := { base := 0x2003000, lo := 10, w := 2, acc := .rwl, rst := (fun _ => 3), lock := .kcGuard }
/-- GRD_CFG MDACT [9:8] RWL (R167). -/
def GRD_CFG.MDACT : Fld := { base := 0x2003000, lo := 8, w := 2, acc := .rwl, rst := (fun _ => 3), lock := .kcGuard }
/-- GRD_CFG MDTO [7:1] RWL (R167). -/
def GRD_CFG.MDTO : Fld := { base := 0x2003000, lo := 1, w := 7, acc := .rwl, rst := (fun _ => 10), lock := .kcGuard, ok := fun v => 1 ≤ v && v ≤ 100 }
/-- GRD_CFG EN [0:0] RWL (R167). -/
def GRD_CFG.EN : Fld := { base := 0x2003000, lo := 0, w := 1, acc := .rwl, lock := .kcGuard }
/-- GRD_TH OVCNT [31:24] RWL (R167). -/
def GRD_TH.OVCNT : Fld := { base := 0x2003004, lo := 24, w := 8, acc := .rwl, rst := (fun _ => 8), lock := .kcGuard, ok := fun v => v != 0 }
/-- GRD_TH OVTH [23:12] RWL (R167). -/
def GRD_TH.OVTH : Fld := { base := 0x2003004, lo := 12, w := 12, acc := .rwl, rst := (fun _ => 4095), lock := .kcGuard }
/-- GRD_TH MDTH [11:0] RWL (R167). -/
def GRD_TH.MDTH : Fld := { base := 0x2003004, lo := 0, w := 12, acc := .rwl, rst := (fun _ => 4095), lock := .kcGuard }
/-- GRD_STAT LOCK [20:20] RO (R167). -/
def GRD_STAT.LOCK : Fld := { base := 0x2003008, lo := 20, w := 1, acc := .ro }
/-- GRD_STAT BYPF [19:19] RO (R167). -/
def GRD_STAT.BYPF : Fld := { base := 0x2003008, lo := 19, w := 1, acc := .ro }
/-- GRD_STAT INH [18:18] RO (R167). -/
def GRD_STAT.INH : Fld := { base := 0x2003008, lo := 18, w := 1, acc := .ro }
/-- GRD_STAT MDEAD [17:17] W1C (R167). -/
def GRD_STAT.MDEAD : Fld := { base := 0x2003008, lo := 17, w := 1, acc := .w1c }
/-- GRD_STAT OV [16:16] W1C (R167). -/
def GRD_STAT.OV : Fld := { base := 0x2003008, lo := 16, w := 1, acc := .w1c }
/-- GRD_STAT VF [11:0] RO (R167). -/
def GRD_STAT.VF : Fld := { base := 0x2003008, lo := 0, w := 12, acc := .ro }
/-- OPT_PWR PVW [31:24] RO (R165). -/
def OPT_PWR.PVW : Fld := { base := 0x2004200, lo := 24, w := 8, acc := .ro }
/-- OPT_PWR PVE [23:16] RO (R165). -/
def OPT_PWR.PVE : Fld := { base := 0x2004200, lo := 16, w := 8, acc := .ro }
/-- OPT_PWR LPW [9:9] RO (R165). -/
def OPT_PWR.LPW : Fld := { base := 0x2004200, lo := 9, w := 1, acc := .ro }
/-- OPT_PWR LPE [8:8] RO (R165). -/
def OPT_PWR.LPE : Fld := { base := 0x2004200, lo := 8, w := 1, acc := .ro }
/-- OPT_PWR VAUX [7:7] RO (R165). -/
def OPT_PWR.VAUX : Fld := { base := 0x2004200, lo := 7, w := 1, acc := .ro }
/-- OPT_PWR PSTATE [1:0] RO (R165). -/
def OPT_PWR.PSTATE : Fld := { base := 0x2004200, lo := 0, w := 2, acc := .ro }
/-- OPT_PT TRIES [7:4] RO (R166). -/
def OPT_PT.TRIES : Fld := { base := 0x2004204, lo := 4, w := 4, acc := .ro }
/-- OPT_PT STUCK [3:3] RO (R166). -/
def OPT_PT.STUCK : Fld := { base := 0x2004204, lo := 3, w := 1, acc := .ro }
/-- OPT_PT KEEP [2:2] RW (R166). -/
def OPT_PT.KEEP : Fld := { base := 0x2004204, lo := 2, w := 1, acc := .rw }
/-- OPT_PT OPEN [0:0] RO (R166). -/
def OPT_PT.OPEN : Fld := { base := 0x2004204, lo := 0, w := 1, acc := .ro }
/-- OPTn_STAT SAT [31:31] W1C (R164). -/
def OPTn_STAT.SAT : Fld := { base := 0x2004004, s1 := 0x100, c1 := 2, lo := 31, w := 1, acc := .w1c }
/-- OPTn_STAT ALOSS [23:16] W1C (R164). -/
def OPTn_STAT.ALOSS : Fld := { base := 0x2004004, s1 := 0x100, c1 := 2, lo := 16, w := 8, acc := .sat }
/-- OPTn_STAT BLINDF [9:9] W1C (R164). -/
def OPTn_STAT.BLINDF : Fld := { base := 0x2004004, s1 := 0x100, c1 := 2, lo := 9, w := 1, acc := .w1c }
/-- OPTn_STAT LOSTA [8:8] W1C (R164). -/
def OPTn_STAT.LOSTA : Fld := { base := 0x2004004, s1 := 0x100, c1 := 2, lo := 8, w := 1, acc := .w1c }
/-- OPTn_STAT RXINV [7:7] RO (R164). -/
def OPTn_STAT.RXINV : Fld := { base := 0x2004004, s1 := 0x100, c1 := 2, lo := 7, w := 1, acc := .ro }
/-- OPTn_STAT PKSAT [6:6] RO (R164). -/
def OPTn_STAT.PKSAT : Fld := { base := 0x2004004, s1 := 0x100, c1 := 2, lo := 6, w := 1, acc := .ro }
/-- OPTn_STAT FROZEN [5:5] RO (R164). -/
def OPTn_STAT.FROZEN : Fld := { base := 0x2004004, s1 := 0x100, c1 := 2, lo := 5, w := 1, acc := .ro }
/-- OPTn_STAT ALOCK [4:4] RO (R164). -/
def OPTn_STAT.ALOCK : Fld := { base := 0x2004004, s1 := 0x100, c1 := 2, lo := 4, w := 1, acc := .ro }
/-- OPTn_STAT LOS [3:3] RO (R164). -/
def OPTn_STAT.LOS : Fld := { base := 0x2004004, s1 := 0x100, c1 := 2, lo := 3, w := 1, acc := .ro }
/-- OPTn_STAT LSTATE [2:0] RO (R164). -/
def OPTn_STAT.LSTATE : Fld := { base := 0x2004004, s1 := 0x100, c1 := 2, lo := 0, w := 3, acc := .ro }
/-- OPTn_PEAK SAVED [12:12] RO (R164). -/
def OPTn_PEAK.SAVED : Fld := { base := 0x2004008, s1 := 0x100, c1 := 2, lo := 12, w := 1, acc := .ro }
/-- OPTn_PEAK MPK [11:8] RW (R164). -/
def OPTn_PEAK.MPK : Fld := { base := 0x2004008, s1 := 0x100, c1 := 2, lo := 8, w := 4, acc := .rw, rst := (fun _ => 8) }
/-- OPTn_PEAK MAN [4:4] RW (R164). -/
def OPTn_PEAK.MAN : Fld := { base := 0x2004008, s1 := 0x100, c1 := 2, lo := 4, w := 1, acc := .rw }
/-- OPTn_PEAK PK [3:0] RO (R164). -/
def OPTn_PEAK.PK : Fld := { base := 0x2004008, s1 := 0x100, c1 := 2, lo := 0, w := 4, acc := .ro, rst := (fun _ => 8) }
/-- OPTn_PCTL ELIVE [18:18] RW (R164). -/
def OPTn_PCTL.ELIVE : Fld := { base := 0x200400C, s1 := 0x100, c1 := 2, lo := 18, w := 1, acc := .rw }
/-- OPTn_PCTL EBURST [17:12] RW (R164). -/
def OPTn_PCTL.EBURST : Fld := { base := 0x200400C, s1 := 0x100, c1 := 2, lo := 12, w := 6, acc := .rw }
/-- OPTn_PCTL EGO [11:11] WO (R164). -/
def OPTn_PCTL.EGO : Fld := { base := 0x200400C, s1 := 0x100, c1 := 2, lo := 11, w := 1, acc := .wo }
/-- OPTn_PCTL EMODE [10:8] RW (R164). -/
def OPTn_PCTL.EMODE : Fld := { base := 0x200400C, s1 := 0x100, c1 := 2, lo := 8, w := 3, acc := .rw, ok := fun v => v ≤ 4 }
/-- OPTn_PCTL CSYNC [7:7] RO (R164). -/
def OPTn_PCTL.CSYNC : Fld := { base := 0x200400C, s1 := 0x100, c1 := 2, lo := 7, w := 1, acc := .ro }
/-- OPTn_PCTL CPAT [6:4] RW (R164). -/
def OPTn_PCTL.CPAT : Fld := { base := 0x200400C, s1 := 0x100, c1 := 2, lo := 4, w := 3, acc := .rw, ok := fun v => v ≤ 6 }
/-- OPTn_PCTL GPAT [2:0] RW (R164). -/
def OPTn_PCTL.GPAT : Fld := { base := 0x200400C, s1 := 0x100, c1 := 2, lo := 0, w := 3, acc := .rw, ok := fun v => v ≤ 6 }
/-- OPTn_EINT EINT [15:0] RW (R164). -/
def OPTn_EINT.EINT : Fld := { base := 0x2004010, s1 := 0x100, c1 := 2, lo := 0, w := 16, acc := .rw, rst := (fun _ => 1), ok := fun v => v != 0 }
/-- OPTn_PERR SAT [31:31] W1C (R164). -/
def OPTn_PERR.SAT : Fld := { base := 0x2004014, s1 := 0x100, c1 := 2, lo := 31, w := 1, acc := .w1c }
/-- OPTn_PERR ERR [30:0] W1C (R164). -/
def OPTn_PERR.ERR : Fld := { base := 0x2004014, s1 := 0x100, c1 := 2, lo := 0, w := 31, acc := .sat }
/-- OPTn_CTRL TEST [8:8] RWL (R91, R164). -/
def OPTn_CTRL.TEST : Fld := { base := 0x2004000, s1 := 0x100, c1 := 2, lo := 8, w := 1, acc := .rwl, lock := .kcParked }
/-- OPTn_CTRL PAUTO [7:7] RW (R164). -/
def OPTn_CTRL.PAUTO : Fld := { base := 0x2004000, s1 := 0x100, c1 := 2, lo := 7, w := 1, acc := .rw, rst := (fun _ => 1) }
/-- OPTn_CTRL NRZ [6:6] RO (R164). -/
def OPTn_CTRL.NRZ : Fld := { base := 0x2004000, s1 := 0x100, c1 := 2, lo := 6, w := 1, acc := .ro }
/-- OPTn_CTRL INVTX [5:5] RW (R164). -/
def OPTn_CTRL.INVTX : Fld := { base := 0x2004000, s1 := 0x100, c1 := 2, lo := 5, w := 1, acc := .rw }
/-- OPTn_CTRL INVRX [4:4] RW (R164). -/
def OPTn_CTRL.INVRX : Fld := { base := 0x2004000, s1 := 0x100, c1 := 2, lo := 4, w := 1, acc := .rw }
/-- OPTn_CTRL BRING [3:2] RW (R164). -/
def OPTn_CTRL.BRING : Fld := { base := 0x2004000, s1 := 0x100, c1 := 2, lo := 2, w := 2, acc := .rw, rst := (fun _ => 1), ok := fun v => v != 3 }
/-- OPTn_CTRL TXEN [1:1] RO (R164). -/
def OPTn_CTRL.TXEN : Fld := { base := 0x2004000, s1 := 0x100, c1 := 2, lo := 1, w := 1, acc := .ro, rst := (fun _ => 1) }
/-- OPTn_CTRL EN [0:0] RO (R164). -/
def OPTn_CTRL.EN : Fld := { base := 0x2004000, s1 := 0x100, c1 := 2, lo := 0, w := 1, acc := .ro, rst := (fun _ => 1) }
/-- CTM_SOFS SOFS [15:0] RW (R55). -/
def CTM_SOFS.SOFS : Fld := { base := 0x2005000, lo := 0, w := 16, acc := .rw }
/-- CTM_CAL CAL [15:0] RO (R55). -/
def CTM_CAL.CAL : Fld := { base := 0x2005004, lo := 0, w := 16, acc := .ro }
/-- CTM_STAT DSTEP [15:8] W1C (R59). -/
def CTM_STAT.DSTEP : Fld := { base := 0x2005008, lo := 8, w := 8, acc := .sat }
/-- CTM_STAT SAT [7:7] W1C (R59). -/
def CTM_STAT.SAT : Fld := { base := 0x2005008, lo := 7, w := 1, acc := .w1c }
/-- CTM_STAT FREE [4:4] W1C (R59). -/
def CTM_STAT.FREE : Fld := { base := 0x2005008, lo := 4, w := 1, acc := .w1c }
/-- CTM_STAT SLEW [3:3] RO (R59). -/
def CTM_STAT.SLEW : Fld := { base := 0x2005008, lo := 3, w := 1, acc := .ro }
/-- CTM_STAT RATE [2:2] RO (R59). -/
def CTM_STAT.RATE : Fld := { base := 0x2005008, lo := 2, w := 1, acc := .ro }
/-- CTM_STAT SRC [1:1] RO (R59). -/
def CTM_STAT.SRC : Fld := { base := 0x2005008, lo := 1, w := 1, acc := .ro }
/-- CTM_STAT LOCK [0:0] RO (R59). -/
def CTM_STAT.LOCK : Fld := { base := 0x2005008, lo := 0, w := 1, acc := .ro }
/-- CAP_CTRL ABORT [2:2] WO (R218). -/
def CAP_CTRL.ABORT : Fld := { base := 0x2006000, lo := 2, w := 1, acc := .wo }
/-- CAP_CTRL TRIG [1:1] WO (R218). -/
def CAP_CTRL.TRIG : Fld := { base := 0x2006000, lo := 1, w := 1, acc := .wo }
/-- CAP_CTRL ARM [0:0] WO (R218). -/
def CAP_CTRL.ARM : Fld := { base := 0x2006000, lo := 0, w := 1, acc := .wo }
/-- CAP_CFG POST [31:16] RWL (R218). -/
def CAP_CFG.POST : Fld := { base := 0x2006004, lo := 16, w := 16, acc := .rwl, rst := (fun _ => 16384), lock := .kcCap, ok := fun v => 1 ≤ v && v ≤ 32767 }
/-- CAP_CFG DEC [15:12] RWL (R218). -/
def CAP_CFG.DEC : Fld := { base := 0x2006004, lo := 12, w := 4, acc := .rwl, lock := .kcOpen, ok := fun v => v ≤ 8 }
/-- CAP_CFG TAG [11:11] RWL (R218). -/
def CAP_CFG.TAG : Fld := { base := 0x2006004, lo := 11, w := 1, acc := .rwl, lock := .kcOpen }
/-- CAP_CFG FIRE [10:10] RWL (R218). -/
def CAP_CFG.FIRE : Fld := { base := 0x2006004, lo := 10, w := 1, acc := .rwl, lock := .kcOpen }
/-- CAP_CFG SRC [7:0] RWL (R218). -/
def CAP_CFG.SRC : Fld := { base := 0x2006004, lo := 0, w := 8, acc := .rwl, lock := .kcOpen, ok := fun v => v % 2 == 0 }
/-- CAP_TLV HI [31:16] RWL (R218). -/
def CAP_TLV.HI : Fld := { base := 0x2006008, lo := 16, w := 16, acc := .rwl, rst := (fun _ => 32767), lock := .kcOpen }
/-- CAP_TLV LO [15:0] RWL (R218). -/
def CAP_TLV.LO : Fld := { base := 0x2006008, lo := 0, w := 16, acc := .rwl, rst := (fun _ => 32768), lock := .kcOpen }
/-- CAP_SLW STEP [31:16] RWL (R218). -/
def CAP_SLW.STEP : Fld := { base := 0x200600C, lo := 16, w := 16, acc := .rwl, rst := (fun _ => 65535), lock := .kcOpen }
/-- CAP_SLW WIN [7:0] RWL (R218). -/
def CAP_SLW.WIN : Fld := { base := 0x200600C, lo := 0, w := 8, acc := .rwl, rst := (fun _ => 1), lock := .kcOpen, ok := fun v => v != 0 }
/-- CAP_STAT CAUSE [27:24] RO (R218). -/
def CAP_STAT.CAUSE : Fld := { base := 0x2006010, lo := 24, w := 4, acc := .ro }
/-- CAP_STAT LOST [23:23] W1C (R218). -/
def CAP_STAT.LOST : Fld := { base := 0x2006010, lo := 23, w := 1, acc := .w1c }
/-- CAP_STAT SHORT [22:22] W1C (R218). -/
def CAP_STAT.SHORT : Fld := { base := 0x2006010, lo := 22, w := 1, acc := .w1c }
/-- CAP_STAT STATE [21:19] RO (R218). -/
def CAP_STAT.STATE : Fld := { base := 0x2006010, lo := 19, w := 3, acc := .ro }
/-- CAP_STAT PRE [14:0] RO (R218). -/
def CAP_STAT.PRE : Fld := { base := 0x2006010, lo := 0, w := 15, acc := .ro }
/-- CAP_NPOST NPOST [14:0] RO (R218). -/
def CAP_NPOST.NPOST : Fld := { base := 0x2006014, lo := 0, w := 15, acc := .ro }
/-- CAP_TTIK TT [31:0] RO (R218). -/
def CAP_TTIK.TT : Fld := { base := 0x2006018, lo := 0, w := 32, acc := .ro }
/-- CAP_TPOS TOFS [31:16] RO (R218). -/
def CAP_TPOS.TOFS : Fld := { base := 0x200601C, lo := 16, w := 16, acc := .ro }
/-- CAP_TPOS IDX [14:0] RO (R218). -/
def CAP_TPOS.IDX : Fld := { base := 0x200601C, lo := 0, w := 15, acc := .ro }
/-- CAP_DATA D [31:0] RO (R218). -/
def CAP_DATA.D : Fld := { base := 0x2040000, s1 := 0x4, c1 := 16384, lo := 0, w := 32, acc := .ro }

/-- Every field of block CC. -/
def fldsCC : List Fld :=
  [CC_ROLE.SENSOR, CC_ROLE.MEAN, CC_ROLE.SEL, CC_WDT.PER, CC_RST.MAIN, CC_RST.CORE, CC_RST.CAUSE, CC_EVP.PEND, CC_XC.PC, CC_XC.CAUSE, CC_SEC.STATE, CC_SEC.BENCH, CC_SEC.UNSG, CC_SEC.ISLOT, CC_SEC.SVN, CC_BOOT.CHK, CC_BOOT.CRES, CC_BOOT.SEL, CC_BOOT.RUN, CC_BWIN.D, CC_TBUF.D, CC_ID.IDENT, CC_SECC.CODE, CC_SECC.CMD, CC_SECC.SLOT, CC_KDATAk.H, CC_DCHk.N, CC_DPUBk.Q, CC_DSIGk.S, CC_DREQ.CMD, CC_DREQ.LEVEL, CC_DREQ.SVC, CC_DREQ.CORE, CC_DSTAT.LEVEL, CC_DSTAT.SVC, CC_DSTAT.PATH, CC_DSTAT.RES, CC_DSTAT.HALTED]

/-- Every field of block GEN. -/
def fldsGEN : List Fld :=
  [GEN_CTRL.EDGE, GEN_CTRL.SAFE1, GEN_CTRL.SAFE0, GEN_CTRL.MPMODE, GEN_CTRL.SRC, GEN_CTRL.TOPO, GEN_DT.DT1, GEN_DT.DT0, GEN_MINP.MINP, GEN_TRIP.ACT, GEN_TRIP.LAT, GEN_TRIP.TFILT, GEN_TRIP.TEN, GEN_LPA.ST0, GEN_LPA.ST1, GEN_LPA.T1, GEN_LPB.ST2, GEN_LPB.T2, GEN_STAT.SAT, GEN_STAT.VCNT, GEN_STAT.PCNT, GEN_STAT.TCNT, GEN_STAT.OPEN, GEN_STAT.FROZEN, GEN_STAT.ARMED, GEN_STAT.BADARM, GEN_STAT.DISON, GEN_STAT.BYPF, GEN_STAT.TRIPL, GEN_STAT.STATE, GEN_OUT.DIS, GEN_OUT.BYP, GEN_OUT.G]

/-- Every field of block ADC. -/
def fldsADC : List Fld :=
  [ADC_CTRL.SETL, ADC_CTRL.SREP, ADC_CTRL.FAST, ADC_CAL.ROT, ADC_CAL.GO, ADC_CAL.BUSY, ADC_CAL.WAIT, ADC_CAL.SPARE, ADC_CAL.FAIL, ADC_CAL.SAT, ADC_CAL.RUNS, ADC_STAT.DROP, ADC_STAT.SHARED, ADC_STAT.SAT, ADC_STAT.CCNT, ADC_DIE.DIE, ADC_SEQn.EN, ADC_SEQn.GATE, ADC_SEQn.INP, ADC_RESn.TK, ADC_RESn.CLIP, ADC_RESn.VALID, ADC_RESn.CODE, ADC_INJ.GO, ADC_INJ.INP, ADC_IRES.PEND, ADC_IRES.IOVR, ADC_IRES.CLIP, ADC_IRES.VALID, ADC_IRES.CODE, ADC_VSC.CGAIN, ADC_VSC.COFS, ADC_ESC.EGAIN, ADC_ESC.EOFS, ADC_TSC.TGAIN, ADC_TSC.TOFS]

/-- Every field of block GRD. -/
def fldsGRD : List Fld :=
  [GRD_CFG.FILT, GRD_CFG.OVACT, GRD_CFG.MDACT, GRD_CFG.MDTO, GRD_CFG.EN, GRD_TH.OVCNT, GRD_TH.OVTH, GRD_TH.MDTH, GRD_STAT.LOCK, GRD_STAT.BYPF, GRD_STAT.INH, GRD_STAT.MDEAD, GRD_STAT.OV, GRD_STAT.VF]

/-- Every field of block OPT. -/
def fldsOPT : List Fld :=
  [OPT_PWR.PVW, OPT_PWR.PVE, OPT_PWR.LPW, OPT_PWR.LPE, OPT_PWR.VAUX, OPT_PWR.PSTATE, OPT_PT.TRIES, OPT_PT.STUCK, OPT_PT.KEEP, OPT_PT.OPEN, OPTn_STAT.SAT, OPTn_STAT.ALOSS, OPTn_STAT.BLINDF, OPTn_STAT.LOSTA, OPTn_STAT.RXINV, OPTn_STAT.PKSAT, OPTn_STAT.FROZEN, OPTn_STAT.ALOCK, OPTn_STAT.LOS, OPTn_STAT.LSTATE, OPTn_PEAK.SAVED, OPTn_PEAK.MPK, OPTn_PEAK.MAN, OPTn_PEAK.PK, OPTn_PCTL.ELIVE, OPTn_PCTL.EBURST, OPTn_PCTL.EGO, OPTn_PCTL.EMODE, OPTn_PCTL.CSYNC, OPTn_PCTL.CPAT, OPTn_PCTL.GPAT, OPTn_EINT.EINT, OPTn_PERR.SAT, OPTn_PERR.ERR, OPTn_CTRL.PAUTO, OPTn_CTRL.NRZ, OPTn_CTRL.INVTX, OPTn_CTRL.INVRX, OPTn_CTRL.BRING, OPTn_CTRL.TXEN] ++
  [OPTn_CTRL.EN, OPTn_CTRL.TEST]

/-- Every field of block CTM. -/
def fldsCTM : List Fld :=
  [CTM_SOFS.SOFS, CTM_CAL.CAL, CTM_STAT.DSTEP, CTM_STAT.SAT, CTM_STAT.FREE, CTM_STAT.SLEW, CTM_STAT.RATE, CTM_STAT.SRC, CTM_STAT.LOCK]

/-- Every field of block CAP. -/
def fldsCAP : List Fld :=
  [CAP_CTRL.ABORT, CAP_CTRL.TRIG, CAP_CTRL.ARM, CAP_CFG.POST, CAP_CFG.DEC, CAP_CFG.TAG, CAP_CFG.FIRE, CAP_CFG.SRC, CAP_TLV.HI, CAP_TLV.LO, CAP_SLW.STEP, CAP_SLW.WIN, CAP_STAT.CAUSE, CAP_STAT.LOST, CAP_STAT.SHORT, CAP_STAT.STATE, CAP_STAT.PRE, CAP_NPOST.NPOST, CAP_TTIK.TT, CAP_TPOS.TOFS, CAP_TPOS.IDX, CAP_DATA.D]

/-- Every field of the part, block by block in rising base address. -/
def flds : List Fld := fldsCC ++ fldsGEN ++ fldsADC ++ fldsGRD ++ fldsOPT ++ fldsCTM ++ fldsCAP

end Sys2Proof.Machine.Kc
end

