-- ==== Sys2Proof/Machine/FieldsKv.lean ====
section
/-! DEFINITION. The register fields of the KV-9400 (addresses: R613), one definition per row of the spec's field maps: byte address
of instance 0 and strides, least significant bit, width, access code (R8), write lock, reset value (R11, R616) and
the values that are no reserved encoding (R10). Each definition cites the rule of its field map. -/

namespace Sys2Proof.Machine.Kv

/-- SYS_PWR REQ [17:16] WO (R565). -/
def SYS_PWR.REQ : Fld := { base := 0xC, lo := 16, w := 2, acc := .wo }
/-- SYS_PWR STATE [1:0] RO (R565). -/
def SYS_PWR.STATE : Fld := { base := 0xC, lo := 0, w := 2, acc := .ro, rst := (fun _ => 1) }
/-- SYS_STAT HELD [31:31] RO (R585). -/
def SYS_STAT.HELD : Fld := { base := 0x0, lo := 31, w := 1, acc := .ro }
/-- SYS_STAT REASON [23:16] RO (R585). -/
def SYS_STAT.REASON : Fld := { base := 0x0, lo := 16, w := 8, acc := .ro }
/-- SYS_STAT STR [15:11] RO (R585). -/
def SYS_STAT.STR : Fld := { base := 0x0, lo := 11, w := 5, acc := .ro }
/-- SYS_STAT PHASE [7:4] RO (R585). -/
def SYS_STAT.PHASE : Fld := { base := 0x0, lo := 4, w := 4, acc := .ro }
/-- SYS_STAT ROLEB [3:3] RO (R585). -/
def SYS_STAT.ROLEB : Fld := { base := 0x0, lo := 3, w := 1, acc := .ro }
/-- SYS_STAT BOOTSRC [1:0] RO (R585). -/
def SYS_STAT.BOOTSRC : Fld := { base := 0x0, lo := 0, w := 2, acc := .ro }
/-- SYS_BOOT CMD [31:30] WO (R586). -/
def SYS_BOOT.CMD : Fld := { base := 0x4, lo := 30, w := 2, acc := .wo }
/-- SYS_BOOT SLOT [29:29] RW (R586). -/
def SYS_BOOT.SLOT : Fld := { base := 0x4, lo := 29, w := 1, acc := .rw }
/-- SYS_RST CODE [31:16] WO (R586). -/
def SYS_RST.CODE : Fld := { base := 0x8, lo := 16, w := 16, acc := .wo }
/-- SYS_RST CAUSE [10:8] RO (R586). -/
def SYS_RST.CAUSE : Fld := { base := 0x8, lo := 8, w := 3, acc := .ro }
/-- SYS_RST SDE [2:2] WO (R586). -/
def SYS_RST.SDE : Fld := { base := 0x8, lo := 2, w := 1, acc := .wo }
/-- SYS_RST SDW [1:1] WO (R586). -/
def SYS_RST.SDW : Fld := { base := 0x8, lo := 1, w := 1, acc := .wo }
/-- SYS_RST CHIP [0:0] WO (R586). -/
def SYS_RST.CHIP : Fld := { base := 0x8, lo := 0, w := 1, acc := .wo }
/-- SYS_XAL ADDR [31:2] RW (R615). -/
def SYS_XAL.ADDR : Fld := { base := 0x10, lo := 2, w := 30, acc := .rw }
/-- SYS_XAH INC [4:4] RW (R615). -/
def SYS_XAH.INC : Fld := { base := 0x14, lo := 4, w := 1, acc := .rw }
/-- SYS_XAH ADDRH [3:0] RW (R615). -/
def SYS_XAH.ADDRH : Fld := { base := 0x14, lo := 0, w := 4, acc := .rw }
/-- SYS_XD D [31:0] RW (R615). -/
def SYS_XD.D : Fld := { base := 0x18, lo := 0, w := 32, acc := .rw }
/-- TIM_NS NS [31:0] RO (R55). -/
def TIM_NS.NS : Fld := { base := 0x2000, lo := 0, w := 32, acc := .ro }
/-- TIM_NSF NSF [31:0] RO (R55). -/
def TIM_NSF.NSF : Fld := { base := 0x2004, lo := 0, w := 32, acc := .ro }
/-- TIM_TICKL TL [31:0] RO (R55). -/
def TIM_TICKL.TL : Fld := { base := 0x2008, lo := 0, w := 32, acc := .ro }
/-- TIM_TICKH TH [15:0] RO (R55). -/
def TIM_TICKH.TH : Fld := { base := 0x200C, lo := 0, w := 16, acc := .ro }
/-- TIM_BNDRY B [31:0] RO (R55). -/
def TIM_BNDRY.B : Fld := { base := 0x2010, lo := 0, w := 32, acc := .ro }
/-- TIM_INCF INCF [31:0] RW (R55). -/
def TIM_INCF.INCF : Fld := { base := 0x2014, lo := 0, w := 32, acc := .rw }
/-- TIM_INCI INCI [7:0] RW (R55). -/
def TIM_INCI.INCI : Fld := { base := 0x2018, lo := 0, w := 8, acc := .rw, rst := (fun _ => 0xA) }
/-- TIM_ALIGN OFS [23:0] RO (R55). -/
def TIM_ALIGN.OFS : Fld := { base := 0x201C, lo := 0, w := 24, acc := .ro }
/-- TIM_TICKLEN LEN [12:0] RWL (R56). -/
def TIM_TICKLEN.LEN : Fld := { base := 0x2020, lo := 0, w := 13, acc := .rwl, rst := (fun _ => 0x3E8), lock := .tim }
/-- TIM_SPRD K [4:1] RWL (R57). -/
def TIM_SPRD.K : Fld := { base := 0x2024, lo := 1, w := 4, acc := .rwl, rst := (fun _ => 4), lock := .tim, ok := fun v => 1 ≤ v && v ≤ 8 }
/-- TIM_SPRD EN [0:0] RWL (R57). -/
def TIM_SPRD.EN : Fld := { base := 0x2024, lo := 0, w := 1, acc := .rwl, lock := .tim }
/-- TIM_STAT SPRFUSE [4:4] W1C (R58). -/
def TIM_STAT.SPRFUSE : Fld := { base := 0x2028, lo := 4, w := 1, acc := .w1c }
/-- TIM_STAT REFLOSS [3:3] W1C (R58). -/
def TIM_STAT.REFLOSS : Fld := { base := 0x2028, lo := 3, w := 1, acc := .w1c }
/-- TIM_STAT REGDIFF [2:2] W1C (R58). -/
def TIM_STAT.REGDIFF : Fld := { base := 0x2028, lo := 2, w := 1, acc := .w1c }
/-- TIM_STAT ALIGNED [1:1] RO (R58). -/
def TIM_STAT.ALIGNED : Fld := { base := 0x2028, lo := 1, w := 1, acc := .ro }
/-- TIM_STAT STBY [0:0] RO (R58). -/
def TIM_STAT.STBY : Fld := { base := 0x2028, lo := 0, w := 1, acc := .ro }
/-- TIM_BSECH SECH [15:0] RW (R515). -/
def TIM_BSECH.SECH : Fld := { base := 0x2040, lo := 0, w := 16, acc := .rw }
/-- TIM_BSECL SECL [31:0] RW (R515). -/
def TIM_BSECL.SECL : Fld := { base := 0x2044, lo := 0, w := 32, acc := .rw }
/-- TIM_BNS NS [29:0] RW (R515). -/
def TIM_BNS.NS : Fld := { base := 0x2048, lo := 0, w := 30, acc := .rw, ok := fun v => v ≤ 999999999 }
/-- TIM_CBASE CB [31:0] RW (R515). -/
def TIM_CBASE.CB : Fld := { base := 0x204C, lo := 0, w := 32, acc := .rw }
/-- SEC_STAT STATE [31:30] RO (R563). -/
def SEC_STAT.STATE : Fld := { base := 0x3000, lo := 30, w := 2, acc := .ro }
/-- SEC_STAT BENCH [29:29] RO (R563). -/
def SEC_STAT.BENCH : Fld := { base := 0x3000, lo := 29, w := 1, acc := .ro }
/-- SEC_STAT UNSG [28:28] RO (R563). -/
def SEC_STAT.UNSG : Fld := { base := 0x3000, lo := 28, w := 1, acc := .ro }
/-- SEC_STAT ISLOT [27:26] RO (R563). -/
def SEC_STAT.ISLOT : Fld := { base := 0x3000, lo := 26, w := 2, acc := .ro }
/-- SEC_STAT KFLT [25:25] W1C (R563). -/
def SEC_STAT.KFLT : Fld := { base := 0x3000, lo := 25, w := 1, acc := .w1c }
/-- SEC_STAT LOCK [24:24] RO (R563). -/
def SEC_STAT.LOCK : Fld := { base := 0x3000, lo := 24, w := 1, acc := .ro }
/-- SEC_STAT AFAIL [23:16] W1C (R563). -/
def SEC_STAT.AFAIL : Fld := { base := 0x3000, lo := 16, w := 8, acc := .sat }
/-- SEC_STAT SAT [15:15] W1C (R563). -/
def SEC_STAT.SAT : Fld := { base := 0x3000, lo := 15, w := 1, acc := .w1c }
/-- SEC_STAT SVN [6:0] RO (R563). -/
def SEC_STAT.SVN : Fld := { base := 0x3000, lo := 0, w := 7, acc := .ro }
/-- SEC_KEYS DREV [11:10] RO (R563). -/
def SEC_KEYS.DREV : Fld := { base := 0x3004, lo := 10, w := 2, acc := .ro }
/-- SEC_KEYS DPROG [9:8] RO (R563). -/
def SEC_KEYS.DPROG : Fld := { base := 0x3004, lo := 8, w := 2, acc := .ro }
/-- SEC_KEYS IREV [7:4] RO (R563). -/
def SEC_KEYS.IREV : Fld := { base := 0x3004, lo := 4, w := 4, acc := .ro }
/-- SEC_KEYS IPROG [3:0] RO (R563). -/
def SEC_KEYS.IPROG : Fld := { base := 0x3004, lo := 0, w := 4, acc := .ro }
/-- SEC_CTRL CODE [31:16] WO (R563). -/
def SEC_CTRL.CODE : Fld := { base := 0x3008, lo := 16, w := 16, acc := .wo }
/-- SEC_CTRL CMD [15:13] WO (R563). -/
def SEC_CTRL.CMD : Fld := { base := 0x3008, lo := 13, w := 3, acc := .wo }
/-- SEC_CTRL SLOT [2:0] WO (R563). -/
def SEC_CTRL.SLOT : Fld := { base := 0x3008, lo := 0, w := 3, acc := .wo }
/-- SEC_KDATAk H [31:0] RW (R563). -/
def SEC_KDATAk.H : Fld := { base := 0x3040, s1 := 0x4, c1 := 12, lo := 0, w := 32, acc := .rw }
/-- SEC_SERH SER [31:0] RO (R563). -/
def SEC_SERH.SER : Fld := { base := 0x300C, lo := 0, w := 32, acc := .ro }
/-- SEC_SERL SER [31:0] RO (R563). -/
def SEC_SERL.SER : Fld := { base := 0x3010, lo := 0, w := 32, acc := .ro }
/-- DBG_REQ CMD [31:29] WO (R564). -/
def DBG_REQ.CMD : Fld := { base := 0x4000, lo := 29, w := 3, acc := .wo }
/-- DBG_REQ LEVEL [28:27] RW (R564). -/
def DBG_REQ.LEVEL : Fld := { base := 0x4000, lo := 27, w := 2, acc := .rw, ok := fun v => v == 1 || v == 2 }
/-- DBG_REQ SVC [26:26] RW (R564). -/
def DBG_REQ.SVC : Fld := { base := 0x4000, lo := 26, w := 1, acc := .rw }
/-- DBG_REQ DSLOT [25:25] RW (R564). -/
def DBG_REQ.DSLOT : Fld := { base := 0x4000, lo := 25, w := 1, acc := .rw }
/-- DBG_STAT LEVEL [31:30] RO (R564). -/
def DBG_STAT.LEVEL : Fld := { base := 0x4004, lo := 30, w := 2, acc := .ro }
/-- DBG_STAT SVC [29:29] RO (R564). -/
def DBG_STAT.SVC : Fld := { base := 0x4004, lo := 29, w := 1, acc := .ro }
/-- DBG_STAT PATH [28:27] RO (R564). -/
def DBG_STAT.PATH : Fld := { base := 0x4004, lo := 27, w := 2, acc := .ro }
/-- DBG_STAT RES [26:24] RO (R564). -/
def DBG_STAT.RES : Fld := { base := 0x4004, lo := 24, w := 3, acc := .ro }
/-- DBG_STAT HALTED [15:0] RO (R564). -/
def DBG_STAT.HALTED : Fld := { base := 0x4004, lo := 0, w := 16, acc := .ro }
/-- DBG_CHALk N [31:0] RO (R564). -/
def DBG_CHALk.N : Fld := { base := 0x4100, s1 := 0x4, c1 := 12, lo := 0, w := 32, acc := .ro }
/-- DBG_PUBk Q [31:0] RW (R564). -/
def DBG_PUBk.Q : Fld := { base := 0x4200, s1 := 0x4, c1 := 24, lo := 0, w := 32, acc := .rw }
/-- DBG_SIGk S [31:0] RW (R564). -/
def DBG_SIGk.S : Fld := { base := 0x4300, s1 := 0x4, c1 := 24, lo := 0, w := 32, acc := .rw }
/-- DBG_CORE CMD [31:30] WO (R564). -/
def DBG_CORE.CMD : Fld := { base := 0x4008, lo := 30, w := 2, acc := .wo }
/-- DBG_CORE CMASK [15:0] RW (R564). -/
def DBG_CORE.CMASK : Fld := { base := 0x4008, lo := 0, w := 16, acc := .rw }
/-- DBG_TRC EN [31:31] RW (R564). -/
def DBG_TRC.EN : Fld := { base := 0x400C, lo := 31, w := 1, acc := .rw }
/-- DBG_TRC WRAP [30:30] RO (R564). -/
def DBG_TRC.WRAP : Fld := { base := 0x400C, lo := 30, w := 1, acc := .ro }
/-- DBG_TRC WP [29:16] RO (R564). -/
def DBG_TRC.WP : Fld := { base := 0x400C, lo := 16, w := 14, acc := .ro }
/-- DBG_TRC TMASK [15:0] RW (R564). -/
def DBG_TRC.TMASK : Fld := { base := 0x400C, lo := 0, w := 16, acc := .rw }
/-- DBG_TDATAk D [31:0] RO (R564). -/
def DBG_TDATAk.D : Fld := { base := 0x80000, s1 := 0x4, c1 := 16384, lo := 0, w := 32, acc := .ro }
/-- Cn_CTRL RST [1:1] WO (R368). -/
def Cn_CTRL.RST : Fld := { base := 0x5000, s1 := 0x100, c1 := 16, lo := 1, w := 1, acc := .wo }
/-- Cn_CTRL EN [0:0] RW (R368). -/
def Cn_CTRL.EN : Fld := { base := 0x5000, s1 := 0x100, c1 := 16, lo := 0, w := 1, acc := .rw, rst := (fun _ => 1) }
/-- Cn_STAT TASK0 [31:24] RO (R368). -/
def Cn_STAT.TASK0 : Fld := { base := 0x5004, s1 := 0x100, c1 := 16, lo := 24, w := 8, acc := .ro, rst := (fun _ => 0xFF) }
/-- Cn_STAT TASK1 [23:16] RO (R368). -/
def Cn_STAT.TASK1 : Fld := { base := 0x5004, s1 := 0x100, c1 := 16, lo := 16, w := 8, acc := .ro, rst := (fun _ => 0xFF) }
/-- Cn_STAT CTX [15:15] RO (R368). -/
def Cn_STAT.CTX : Fld := { base := 0x5004, s1 := 0x100, c1 := 16, lo := 15, w := 1, acc := .ro }
/-- Cn_STAT OFF0 [14:14] RO (R368). -/
def Cn_STAT.OFF0 : Fld := { base := 0x5004, s1 := 0x100, c1 := 16, lo := 14, w := 1, acc := .ro }
/-- Cn_STAT OFF1 [13:13] RO (R368). -/
def Cn_STAT.OFF1 : Fld := { base := 0x5004, s1 := 0x100, c1 := 16, lo := 13, w := 1, acc := .ro }
/-- Cn_STAT WAIT0 [12:12] RO (R368). -/
def Cn_STAT.WAIT0 : Fld := { base := 0x5004, s1 := 0x100, c1 := 16, lo := 12, w := 1, acc := .ro }
/-- Cn_STAT WAIT1 [11:11] RO (R368). -/
def Cn_STAT.WAIT1 : Fld := { base := 0x5004, s1 := 0x100, c1 := 16, lo := 11, w := 1, acc := .ro }
/-- Cn_STAT SUSP [10:10] RO (R368). -/
def Cn_STAT.SUSP : Fld := { base := 0x5004, s1 := 0x100, c1 := 16, lo := 10, w := 1, acc := .ro }
/-- Cn_STALL FULL [31:31] RO (R368). -/
def Cn_STALL.FULL : Fld := { base := 0x5008, s1 := 0x100, c1 := 16, lo := 31, w := 1, acc := .ro }
/-- Cn_STALL TASK [23:16] RO (R368). -/
def Cn_STALL.TASK : Fld := { base := 0x5008, s1 := 0x100, c1 := 16, lo := 16, w := 8, acc := .ro }
/-- Cn_STALL TICK [15:0] RO (R368). -/
def Cn_STALL.TICK : Fld := { base := 0x5008, s1 := 0x100, c1 := 16, lo := 0, w := 16, acc := .ro }
/-- Cn_XCNT SAT [31:31] W1C (R368). -/
def Cn_XCNT.SAT : Fld := { base := 0x500C, s1 := 0x100, c1 := 16, lo := 31, w := 1, acc := .w1c }
/-- Cn_XCNT EXC [30:16] W1C (R368). -/
def Cn_XCNT.EXC : Fld := { base := 0x500C, s1 := 0x100, c1 := 16, lo := 16, w := 15, acc := .sat }
/-- ALk_CFG EN [31:31] RW (R251). -/
def ALk_CFG.EN : Fld := { base := 0x6000, s1 := 0x100, c1 := 12, lo := 31, w := 1, acc := .rw }
/-- ALk_CFG TOPO [30:30] RWL (R251). -/
def ALk_CFG.TOPO : Fld := { base := 0x6000, s1 := 0x100, c1 := 12, lo := 30, w := 1, acc := .rwl, lock := .parked }
/-- ALk_CFG ZSEL [29:28] RWL (R251). -/
def ALk_CFG.ZSEL : Fld := { base := 0x6000, s1 := 0x100, c1 := 12, lo := 28, w := 2, acc := .rwl, lock := .parked, ok := fun v => v != 3 }
/-- ALk_CFG DTC [27:27] RWL (R251). -/
def ALk_CFG.DTC : Fld := { base := 0x6000, s1 := 0x100, c1 := 12, lo := 27, w := 1, acc := .rwl, rst := (fun _ => 1), lock := .parked }
/-- ALk_CFG LPC [26:26] RWL (R251). -/
def ALk_CFG.LPC : Fld := { base := 0x6000, s1 := 0x100, c1 := 12, lo := 26, w := 1, acc := .rwl, rst := (fun _ => 1), lock := .parked }
/-- ALk_CFG TSF [25:25] RWL (R251). -/
def ALk_CFG.TSF : Fld := { base := 0x6000, s1 := 0x100, c1 := 12, lo := 25, w := 1, acc := .rwl, lock := .parked }
/-- ALk_CFG LOSTN [23:16] RWL (R251). -/
def ALk_CFG.LOSTN : Fld := { base := 0x6000, s1 := 0x100, c1 := 12, lo := 16, w := 8, acc := .rwl, rst := (fun _ => 3), lock := .parked, ok := fun v => v != 0 }
/-- ALk_CFG SWMAX [15:8] RW (R251). -/
def ALk_CFG.SWMAX : Fld := { base := 0x6000, s1 := 0x100, c1 := 12, lo := 8, w := 8, acc := .rw, rst := (fun _ => 2), ok := fun v => v ≤ 64 }
/-- ALk_KEY WV [31:16] RW (R252). -/
def ALk_KEY.WV : Fld := { base := 0x6004, s1 := 0x100, c1 := 12, lo := 16, w := 16, acc := .rw, rst := (fun _ => 0x100) }
/-- ALk_KEY H [15:0] RW (R252). -/
def ALk_KEY.H : Fld := { base := 0x6004, s1 := 0x100, c1 := 12, lo := 0, w := 16, acc := .rw, rst := (fun _ => 0x64) }
/-- ALk_LIM IDZ [31:16] RW (R252). -/
def ALk_LIM.IDZ : Fld := { base := 0x6008, s1 := 0x100, c1 := 12, lo := 16, w := 16, acc := .rw, rst := (fun _ => 0x32) }
/-- ALk_LIM NMIN [10:0] RW (R252). -/
def ALk_LIM.NMIN : Fld := { base := 0x6008, s1 := 0x100, c1 := 12, lo := 0, w := 11, acc := .rw, ok := fun v => v ≤ 1024 }
/-- ALk_PLC TSW [31:16] RW (R252). -/
def ALk_PLC.TSW : Fld := { base := 0x600C, s1 := 0x100, c1 := 12, lo := 16, w := 16, acc := .rw, rst := (fun _ => 0xFA0) }
/-- ALk_PLC WMIN [15:0] RW (R252). -/
def ALk_PLC.WMIN : Fld := { base := 0x600C, s1 := 0x100, c1 := 12, lo := 0, w := 16, acc := .rw, rst := (fun _ => 8) }
/-- ALk_DT DT1 [29:16] RWL (R252). -/
def ALk_DT.DT1 : Fld := { base := 0x6010, s1 := 0x100, c1 := 12, lo := 16, w := 14, acc := .rwl, rst := (fun _ => 0x50), lock := .parked, ok := fun v => 80 ≤ v }
/-- ALk_DT DT0 [13:0] RWL (R252). -/
def ALk_DT.DT0 : Fld := { base := 0x6010, s1 := 0x100, c1 := 12, lo := 0, w := 14, acc := .rwl, rst := (fun _ => 0x50), lock := .parked, ok := fun v => 80 ≤ v }
/-- ALk_MINP MINP [15:0] RWL (R252). -/
def ALk_MINP.MINP : Fld := { base := 0x6014, s1 := 0x100, c1 := 12, lo := 0, w := 16, acc := .rwl, lock := .parked }
/-- ALk_STAT RSAT [31:31] W1C (R253). -/
def ALk_STAT.RSAT : Fld := { base := 0x6018, s1 := 0x100, c1 := 12, lo := 31, w := 1, acc := .w1c }
/-- ALk_STAT USAT [30:30] W1C (R253). -/
def ALk_STAT.USAT : Fld := { base := 0x6018, s1 := 0x100, c1 := 12, lo := 30, w := 1, acc := .w1c }
/-- ALk_STAT LATE [29:29] W1C (R253). -/
def ALk_STAT.LATE : Fld := { base := 0x6018, s1 := 0x100, c1 := 12, lo := 29, w := 1, acc := .w1c }
/-- ALk_STAT XCNT [28:27] RO (R253). -/
def ALk_STAT.XCNT : Fld := { base := 0x6018, s1 := 0x100, c1 := 12, lo := 27, w := 2, acc := .ro }
/-- ALk_STAT XTRP [26:26] RO (R253). -/
def ALk_STAT.XTRP : Fld := { base := 0x6018, s1 := 0x100, c1 := 12, lo := 26, w := 1, acc := .ro }
/-- ALk_STAT NE [21:11] RO (R253). -/
def ALk_STAT.NE : Fld := { base := 0x6018, s1 := 0x100, c1 := 12, lo := 11, w := 11, acc := .ro }
/-- ALk_STAT NX [10:0] RO (R253). -/
def ALk_STAT.NX : Fld := { base := 0x6018, s1 := 0x100, c1 := 12, lo := 0, w := 11, acc := .ro }
/-- ALk_CNT SAT [31:31] W1C (R253). -/
def ALk_CNT.SAT : Fld := { base := 0x601C, s1 := 0x100, c1 := 12, lo := 31, w := 1, acc := .w1c }
/-- ALk_CNT DEFER [30:16] W1C (R253). -/
def ALk_CNT.DEFER : Fld := { base := 0x601C, s1 := 0x100, c1 := 12, lo := 16, w := 15, acc := .sat }
/-- ALk_CNT DROP [14:0] W1C (R253). -/
def ALk_CNT.DROP : Fld := { base := 0x601C, s1 := 0x100, c1 := 12, lo := 0, w := 15, acc := .sat }
/-- ALk_RESID E [31:0] RO (R253). -/
def ALk_RESID.E : Fld := { base := 0x6020, s1 := 0x100, c1 := 12, lo := 0, w := 32, acc := .ro }
/-- CVU_CTRL EN [0:0] RW (R254). -/
def CVU_CTRL.EN : Fld := { base := 0x7000, lo := 0, w := 1, acc := .rw }
/-- CVU_KEY WT [31:24] RW (R254). -/
def CVU_KEY.WT : Fld := { base := 0x7004, lo := 24, w := 8, acc := .rw }
/-- CVU_KEY WW [23:16] RW (R254). -/
def CVU_KEY.WW : Fld := { base := 0x7004, lo := 16, w := 8, acc := .rw }
/-- CVU_KEY TREF [15:0] RW (R254). -/
def CVU_KEY.TREF : Fld := { base := 0x7004, lo := 0, w := 16, acc := .rw, rst := (fun _ => 0x12C0) }
/-- CVU_HYS HYS [15:0] RW (R254). -/
def CVU_HYS.HYS : Fld := { base := 0x7008, lo := 0, w := 16, acc := .rw, rst := (fun _ => 0x40) }
/-- CVU_BINE0 E [31:0] RW (R254). -/
def CVU_BINE0.E : Fld := { base := 0x700C, lo := 0, w := 32, acc := .rw, rst := (fun _ => 0x1E140A04) }
/-- CVU_BINE1 E [31:0] RW (R254). -/
def CVU_BINE1.E : Fld := { base := 0x7010, lo := 0, w := 32, acc := .rw, rst := (fun _ => 0x785A3C28) }
/-- CVU_WGTm WODD [31:16] RW (R254). -/
def CVU_WGTm.WODD : Fld := { base := 0x7020, s1 := 0x4, c1 := 4, lo := 16, w := 16, acc := .rw }
/-- CVU_WGTm WEVEN [15:0] RW (R254). -/
def CVU_WGTm.WEVEN : Fld := { base := 0x7020, s1 := 0x4, c1 := 4, lo := 0, w := 16, acc := .rw }
/-- CVU_ISRCk EN [31:31] RW (R254). -/
def CVU_ISRCk.EN : Fld := { base := 0x7040, s1 := 0x4, c1 := 12, lo := 31, w := 1, acc := .rw }
/-- CVU_ISRCk ADDR [28:16] RW (R254). -/
def CVU_ISRCk.ADDR : Fld := { base := 0x7040, s1 := 0x4, c1 := 12, lo := 16, w := 13, acc := .rw }
/-- CVU_ISRCk CH [15:14] RW (R254). -/
def CVU_ISRCk.CH : Fld := { base := 0x7040, s1 := 0x4, c1 := 12, lo := 14, w := 2, acc := .rw }
/-- CVU_ISCLk GAIN [31:16] RW (R254). -/
def CVU_ISCLk.GAIN : Fld := { base := 0x7080, s1 := 0x4, c1 := 12, lo := 16, w := 16, acc := .rw }
/-- CVU_ISCLk OFS [15:0] RW (R254). -/
def CVU_ISCLk.OFS : Fld := { base := 0x7080, s1 := 0x4, c1 := 12, lo := 0, w := 16, acc := .rw }
/-- CVU_STAT SAT [31:31] W1C (R254). -/
def CVU_STAT.SAT : Fld := { base := 0x7014, lo := 31, w := 1, acc := .w1c }
/-- CVU_STAT SKIP [30:16] W1C (R254). -/
def CVU_STAT.SKIP : Fld := { base := 0x7014, lo := 16, w := 15, acc := .sat }
/-- CVU_STAT LATE [15:15] W1C (R254). -/
def CVU_STAT.LATE : Fld := { base := 0x7014, lo := 15, w := 1, acc := .w1c }
/-- CVU_STAT PASS [14:0] RO (R254). -/
def CVU_STAT.PASS : Fld := { base := 0x7014, lo := 0, w := 15, acc := .ro }
/-- CVU_CSn_0 A1 [31:0] RW (R255). -/
def CVU_CSn_0.A1 : Fld := { base := 0x7200, s1 := 0x40, c1 := 8, lo := 0, w := 32, acc := .rw }
/-- CVU_CSn_1 B1 [31:0] RW (R255). -/
def CVU_CSn_1.B1 : Fld := { base := 0x7204, s1 := 0x40, c1 := 8, lo := 0, w := 32, acc := .rw }
/-- CVU_CSn_2 A2 [31:0] RW (R255). -/
def CVU_CSn_2.A2 : Fld := { base := 0x7208, s1 := 0x40, c1 := 8, lo := 0, w := 32, acc := .rw }
/-- CVU_CSn_3 B2 [31:0] RW (R255). -/
def CVU_CSn_3.B2 : Fld := { base := 0x720C, s1 := 0x40, c1 := 8, lo := 0, w := 32, acc := .rw }
/-- CVU_CSn_4 V0 [31:16] RW (R255). -/
def CVU_CSn_4.V0 : Fld := { base := 0x7210, s1 := 0x40, c1 := 8, lo := 16, w := 16, acc := .rw }
/-- CVU_CSn_4 RON [15:0] RW (R255). -/
def CVU_CSn_4.RON : Fld := { base := 0x7210, s1 := 0x40, c1 := 8, lo := 0, w := 16, acc := .rw }
/-- CVU_CSn_5 KSW [31:0] RW (R255). -/
def CVU_CSn_5.KSW : Fld := { base := 0x7214, s1 := 0x40, c1 := 8, lo := 0, w := 32, acc := .rw }
/-- CVU_CSn_6 KT [31:16] RW (R255). -/
def CVU_CSn_6.KT : Fld := { base := 0x7218, s1 := 0x40, c1 := 8, lo := 16, w := 16, acc := .rw }
/-- CVU_CSn_6 LT [15:0] RW (R255). -/
def CVU_CSn_6.LT : Fld := { base := 0x7218, s1 := 0x40, c1 := 8, lo := 0, w := 16, acc := .rw }
/-- CVU_CSn_7 IWL [31:16] RW (R255). -/
def CVU_CSn_7.IWL : Fld := { base := 0x721C, s1 := 0x40, c1 := 8, lo := 16, w := 16, acc := .rw }
/-- CVU_CSn_7 IWH [15:0] RW (R255). -/
def CVU_CSn_7.IWH : Fld := { base := 0x721C, s1 := 0x40, c1 := 8, lo := 0, w := 16, acc := .rw }
/-- CVU_CSn_8 TCAL [15:0] RW (R255). -/
def CVU_CSn_8.TCAL : Fld := { base := 0x7220, s1 := 0x40, c1 := 8, lo := 0, w := 16, acc := .rw }
/-- CVU_CSn_RSV RSV [31:0] RO (R255). -/
def CVU_CSn_RSV.RSV : Fld := { base := 0x7224, s1 := 0x40, c1 := 8, s2 := 0x4, c2 := 7, lo := 0, w := 32, acc := .ro }
/-- CL_CTRL PAUTO [4:4] RW (R98). -/
def CL_CTRL.PAUTO : Fld := { base := 0x8400, lo := 4, w := 1, acc := .rw, rst := (fun _ => 1) }
/-- CL_CTRL LAUTO [3:3] RW (R98). -/
def CL_CTRL.LAUTO : Fld := { base := 0x8400, lo := 3, w := 1, acc := .rw, rst := (fun _ => 1) }
/-- CL_CTRL BRING [2:1] RW (R98). -/
def CL_CTRL.BRING : Fld := { base := 0x8400, lo := 1, w := 2, acc := .rw, rst := (fun _ => 1), ok := fun v => v != 3 }
/-- CL_CTRL EN [0:0] RW (R98). -/
def CL_CTRL.EN : Fld := { base := 0x8400, lo := 0, w := 1, acc := .rw }
/-- CL_STAT DEG [9:9] RO (R98). -/
def CL_STAT.DEG : Fld := { base := 0x8404, lo := 9, w := 1, acc := .ro }
/-- CL_STAT UP [8:8] RO (R98). -/
def CL_STAT.UP : Fld := { base := 0x8404, lo := 8, w := 1, acc := .ro }
/-- CL_STAT ACT [7:0] RO (R98). -/
def CL_STAT.ACT : Fld := { base := 0x8404, lo := 0, w := 8, acc := .ro }
/-- CL_LMAP MAP [23:0] RW (R98). -/
def CL_LMAP.MAP : Fld := { base := 0x8408, lo := 0, w := 24, acc := .rw, rst := (fun _ => 0xFAC688) }
/-- CL_POL INVTX [15:8] RW (R98). -/
def CL_POL.INVTX : Fld := { base := 0x840C, lo := 8, w := 8, acc := .rw }
/-- CL_POL INVRX [7:0] RW (R98). -/
def CL_POL.INVRX : Fld := { base := 0x840C, lo := 0, w := 8, acc := .rw }
/-- CL_CAS CTICK [31:16] RW (R399). -/
def CL_CAS.CTICK : Fld := { base := 0x8410, lo := 16, w := 16, acc := .rw }
/-- CL_CAS REQ [15:15] WO (R399). -/
def CL_CAS.REQ : Fld := { base := 0x8410, lo := 15, w := 1, acc := .wo }
/-- CL_CAS RSEV [14:12] RWL (R399). -/
def CL_CAS.RSEV : Fld := { base := 0x8410, lo := 12, w := 3, acc := .rwl, rst := (fun _ => 4), lock := .parked, ok := fun v => v == 4 || v == 5 }
/-- CL_CAS RELEN [11:11] RWL (R399). -/
def CL_CAS.RELEN : Fld := { base := 0x8410, lo := 11, w := 1, acc := .rwl, rst := (fun _ => 1), lock := .parked }
/-- CL_CASST CSEQ [31:16] RO (R400). -/
def CL_CASST.CSEQ : Fld := { base := 0x8414, lo := 16, w := 16, acc := .ro }
/-- CL_CASST TOKEN [15:15] RO (R400). -/
def CL_CASST.TOKEN : Fld := { base := 0x8414, lo := 15, w := 1, acc := .ro }
/-- CL_CASST LEASE [14:14] RO (R400). -/
def CL_CASST.LEASE : Fld := { base := 0x8414, lo := 14, w := 1, acc := .ro }
/-- CL_CASST PSTATE [13:11] RO (R400). -/
def CL_CASST.PSTATE : Fld := { base := 0x8414, lo := 11, w := 3, acc := .ro }
/-- CL_CASST CAUSE [10:8] RO (R400). -/
def CL_CASST.CAUSE : Fld := { base := 0x8414, lo := 8, w := 3, acc := .ro }
/-- CL_CASST SAT [7:7] W1C (R400). -/
def CL_CASST.SAT : Fld := { base := 0x8414, lo := 7, w := 1, acc := .w1c }
/-- CL_CASST CCNT [6:0] W1C (R400). -/
def CL_CASST.CCNT : Fld := { base := 0x8414, lo := 0, w := 7, acc := .sat }
/-- CL_RDY ABLE [17:17] RO (R401). -/
def CL_RDY.ABLE : Fld := { base := 0x8418, lo := 17, w := 1, acc := .ro }
/-- CL_RDY READY [16:16] RO (R401). -/
def CL_RDY.READY : Fld := { base := 0x8418, lo := 16, w := 1, acc := .ro }
/-- CL_RDY COND [7:0] RO (R401). -/
def CL_RDY.COND : Fld := { base := 0x8418, lo := 0, w := 8, acc := .ro }
/-- CL_ENDR MASK [31:0] RO (R401). -/
def CL_ENDR.MASK : Fld := { base := 0x841C, lo := 0, w := 32, acc := .ro }
/-- CL_DCNT SAT [31:31] W1C (R401). -/
def CL_DCNT.SAT : Fld := { base := 0x8420, lo := 31, w := 1, acc := .w1c }
/-- CL_DCNT MIS [30:0] W1C (R401). -/
def CL_DCNT.MIS : Fld := { base := 0x8420, lo := 0, w := 31, acc := .sat }
/-- CL_SHDW SAT [31:31] W1C (R401). -/
def CL_SHDW.SAT : Fld := { base := 0x8424, lo := 31, w := 1, acc := .w1c }
/-- CL_SHDW PATH [30:16] W1C (R401). -/
def CL_SHDW.PATH : Fld := { base := 0x8424, lo := 16, w := 15, acc := .sat }
/-- CL_SHDW UNEND [14:0] W1C (R401). -/
def CL_SHDW.UNEND : Fld := { base := 0x8424, lo := 0, w := 15, acc := .sat }
/-- CL_MERR SAT [31:31] W1C (R401). -/
def CL_MERR.SAT : Fld := { base := 0x8428, lo := 31, w := 1, acc := .w1c }
/-- CL_MERR ERR [30:0] W1C (R401). -/
def CL_MERR.ERR : Fld := { base := 0x8428, lo := 0, w := 31, acc := .sat }
/-- CL_BIST EN [31:31] RW (R401). -/
def CL_BIST.EN : Fld := { base := 0x842C, lo := 31, w := 1, acc := .rw, rst := (fun _ => 1) }
/-- CL_BIST FAIL [30:30] W1C (R401). -/
def CL_BIST.FAIL : Fld := { base := 0x842C, lo := 30, w := 1, acc := .w1c }
/-- CL_BIST PER [23:16] RW (R401). -/
def CL_BIST.PER : Fld := { base := 0x842C, lo := 16, w := 8, acc := .rw, rst := (fun _ => 0x3C), ok := fun v => 10 ≤ v }
/-- CL_BIST POS [15:0] RO (R401). -/
def CL_BIST.POS : Fld := { base := 0x842C, lo := 0, w := 16, acc := .ro }
/-- CLn_STAT SAT [31:31] W1C (R98). -/
def CLn_STAT.SAT : Fld := { base := 0x8000, s1 := 0x40, c1 := 8, lo := 31, w := 1, acc := .w1c }
/-- CLn_STAT ALOSS [23:16] W1C (R98). -/
def CLn_STAT.ALOSS : Fld := { base := 0x8000, s1 := 0x40, c1 := 8, lo := 16, w := 8, acc := .sat }
/-- CLn_STAT BLINDF [9:9] W1C (R98). -/
def CLn_STAT.BLINDF : Fld := { base := 0x8000, s1 := 0x40, c1 := 8, lo := 9, w := 1, acc := .w1c }
/-- CLn_STAT LOSTA [8:8] W1C (R98). -/
def CLn_STAT.LOSTA : Fld := { base := 0x8000, s1 := 0x40, c1 := 8, lo := 8, w := 1, acc := .w1c }
/-- CLn_STAT RXINV [7:7] RO (R98). -/
def CLn_STAT.RXINV : Fld := { base := 0x8000, s1 := 0x40, c1 := 8, lo := 7, w := 1, acc := .ro }
/-- CLn_STAT PKSAT [6:6] RO (R98). -/
def CLn_STAT.PKSAT : Fld := { base := 0x8000, s1 := 0x40, c1 := 8, lo := 6, w := 1, acc := .ro }
/-- CLn_STAT FROZEN [5:5] RO (R98). -/
def CLn_STAT.FROZEN : Fld := { base := 0x8000, s1 := 0x40, c1 := 8, lo := 5, w := 1, acc := .ro }
/-- CLn_STAT ALOCK [4:4] RO (R98). -/
def CLn_STAT.ALOCK : Fld := { base := 0x8000, s1 := 0x40, c1 := 8, lo := 4, w := 1, acc := .ro }
/-- CLn_STAT LOS [3:3] RO (R98). -/
def CLn_STAT.LOS : Fld := { base := 0x8000, s1 := 0x40, c1 := 8, lo := 3, w := 1, acc := .ro }
/-- CLn_STAT LSTATE [2:0] RO (R98). -/
def CLn_STAT.LSTATE : Fld := { base := 0x8000, s1 := 0x40, c1 := 8, lo := 0, w := 3, acc := .ro }
/-- CLn_PEAK SAVED [12:12] RO (R98). -/
def CLn_PEAK.SAVED : Fld := { base := 0x8004, s1 := 0x40, c1 := 8, lo := 12, w := 1, acc := .ro }
/-- CLn_PEAK MPK [11:8] RW (R98). -/
def CLn_PEAK.MPK : Fld := { base := 0x8004, s1 := 0x40, c1 := 8, lo := 8, w := 4, acc := .rw, rst := (fun _ => 8) }
/-- CLn_PEAK MAN [4:4] RW (R98). -/
def CLn_PEAK.MAN : Fld := { base := 0x8004, s1 := 0x40, c1 := 8, lo := 4, w := 1, acc := .rw }
/-- CLn_PEAK PK [3:0] RO (R98). -/
def CLn_PEAK.PK : Fld := { base := 0x8004, s1 := 0x40, c1 := 8, lo := 0, w := 4, acc := .ro, rst := (fun _ => 8) }
/-- CLn_PCTL ELIVE [18:18] RW (R98). -/
def CLn_PCTL.ELIVE : Fld := { base := 0x8008, s1 := 0x40, c1 := 8, lo := 18, w := 1, acc := .rw }
/-- CLn_PCTL EBURST [17:12] RW (R98). -/
def CLn_PCTL.EBURST : Fld := { base := 0x8008, s1 := 0x40, c1 := 8, lo := 12, w := 6, acc := .rw }
/-- CLn_PCTL EGO [11:11] WO (R98). -/
def CLn_PCTL.EGO : Fld := { base := 0x8008, s1 := 0x40, c1 := 8, lo := 11, w := 1, acc := .wo }
/-- CLn_PCTL EMODE [10:8] RW (R98). -/
def CLn_PCTL.EMODE : Fld := { base := 0x8008, s1 := 0x40, c1 := 8, lo := 8, w := 3, acc := .rw, ok := fun v => v ≤ 4 }
/-- CLn_PCTL CSYNC [7:7] RO (R98). -/
def CLn_PCTL.CSYNC : Fld := { base := 0x8008, s1 := 0x40, c1 := 8, lo := 7, w := 1, acc := .ro }
/-- CLn_PCTL CPAT [6:4] RW (R98). -/
def CLn_PCTL.CPAT : Fld := { base := 0x8008, s1 := 0x40, c1 := 8, lo := 4, w := 3, acc := .rw, ok := fun v => v ≤ 6 }
/-- CLn_PCTL GPAT [2:0] RW (R98). -/
def CLn_PCTL.GPAT : Fld := { base := 0x8008, s1 := 0x40, c1 := 8, lo := 0, w := 3, acc := .rw, ok := fun v => v ≤ 6 }
/-- CLn_EINT EINT [15:0] RW (R98). -/
def CLn_EINT.EINT : Fld := { base := 0x800C, s1 := 0x40, c1 := 8, lo := 0, w := 16, acc := .rw, rst := (fun _ => 1), ok := fun v => v != 0 }
/-- CLn_PERR SAT [31:31] W1C (R98). -/
def CLn_PERR.SAT : Fld := { base := 0x8010, s1 := 0x40, c1 := 8, lo := 31, w := 1, acc := .w1c }
/-- CLn_PERR ERR [30:0] W1C (R98). -/
def CLn_PERR.ERR : Fld := { base := 0x8010, s1 := 0x40, c1 := 8, lo := 0, w := 31, acc := .sat }
/-- LDG_CTRL EN [31:31] RW (R402). -/
def LDG_CTRL.EN : Fld := { base := 0x9000, lo := 31, w := 1, acc := .rw }
/-- LDG_CTRL RESYNC [30:30] WO (R402). -/
def LDG_CTRL.RESYNC : Fld := { base := 0x9000, lo := 30, w := 1, acc := .wo }
/-- LDG_CTRL LAGMAX [23:16] RWL (R402). -/
def LDG_CTRL.LAGMAX : Fld := { base := 0x9000, lo := 16, w := 8, acc := .rwl, rst := (fun _ => 8), lock := .parked, ok := fun v => v != 0 }
/-- LDG_CTRL BUDGET [6:0] RWL (R402). -/
def LDG_CTRL.BUDGET : Fld := { base := 0x9000, lo := 0, w := 7, acc := .rwl, lock := .parked, ok := fun v => 1 ≤ v && v ≤ 64 }
/-- LDG_STAT ROLE [31:30] RO (R402). -/
def LDG_STAT.ROLE : Fld := { base := 0x9004, lo := 30, w := 2, acc := .ro }
/-- LDG_STAT SYNC [29:29] RO (R402). -/
def LDG_STAT.SYNC : Fld := { base := 0x9004, lo := 29, w := 1, acc := .ro }
/-- LDG_STAT RSY [28:28] RO (R402). -/
def LDG_STAT.RSY : Fld := { base := 0x9004, lo := 28, w := 1, acc := .ro }
/-- LDG_STAT LAG [23:16] RO (R402). -/
def LDG_STAT.LAG : Fld := { base := 0x9004, lo := 16, w := 8, acc := .ro }
/-- LDG_STAT EPOCH [15:0] RO (R402). -/
def LDG_STAT.EPOCH : Fld := { base := 0x9004, lo := 0, w := 16, acc := .ro }
/-- LDG_BYTES CARRY [31:16] RO (R402). -/
def LDG_BYTES.CARRY : Fld := { base := 0x9008, lo := 16, w := 16, acc := .ro }
/-- LDG_BYTES SENT [15:0] RO (R402). -/
def LDG_BYTES.SENT : Fld := { base := 0x9008, lo := 0, w := 16, acc := .ro }
/-- LDG_CNT SAT [31:31] W1C (R402). -/
def LDG_CNT.SAT : Fld := { base := 0x900C, lo := 31, w := 1, acc := .w1c }
/-- LDG_CNT MISS [30:16] W1C (R402). -/
def LDG_CNT.MISS : Fld := { base := 0x900C, lo := 16, w := 15, acc := .sat }
/-- LDG_CNT OVF [14:0] W1C (R402). -/
def LDG_CNT.OVF : Fld := { base := 0x900C, lo := 0, w := 15, acc := .sat }
/-- LDG_HLTH0 PNUM [31:16] RO (R403). -/
def LDG_HLTH0.PNUM : Fld := { base := 0x9010, lo := 16, w := 16, acc := .ro }
/-- LDG_HLTH0 RDY [15:8] RO (R403). -/
def LDG_HLTH0.RDY : Fld := { base := 0x9010, lo := 8, w := 8, acc := .ro }
/-- LDG_HLTH0 BFAIL [7:7] RO (R403). -/
def LDG_HLTH0.BFAIL : Fld := { base := 0x9010, lo := 7, w := 1, acc := .ro }
/-- LDG_HLTH0 SAT [0:0] RO (R403). -/
def LDG_HLTH0.SAT : Fld := { base := 0x9010, lo := 0, w := 1, acc := .ro }
/-- LDG_HLTH1 NRDY [31:16] RO (R403). -/
def LDG_HLTH1.NRDY : Fld := { base := 0x9014, lo := 16, w := 16, acc := .ro }
/-- LDG_HLTH1 UNT [15:0] RO (R403). -/
def LDG_HLTH1.UNT : Fld := { base := 0x9014, lo := 0, w := 16, acc := .ro }
/-- LDG_HLTH2 PATH [31:16] RO (R403). -/
def LDG_HLTH2.PATH : Fld := { base := 0x9018, lo := 16, w := 16, acc := .ro }
/-- LDG_HLTH2 UNEND [15:0] RO (R403). -/
def LDG_HLTH2.UNEND : Fld := { base := 0x9018, lo := 0, w := 16, acc := .ro }
/-- LDG_HLTH3 AMAX [31:16] RO (R403). -/
def LDG_HLTH3.AMAX : Fld := { base := 0x901C, lo := 16, w := 16, acc := .ro }
/-- LDG_HLTH3 LAGM [15:8] RO (R403). -/
def LDG_HLTH3.LAGM : Fld := { base := 0x901C, lo := 8, w := 8, acc := .ro }
/-- LDG_HLTH3 MISS [7:0] RO (R403). -/
def LDG_HLTH3.MISS : Fld := { base := 0x901C, lo := 0, w := 8, acc := .ro }
/-- CRCn_CTRL EN [31:31] RW (R482). -/
def CRCn_CTRL.EN : Fld := { base := 0xA000, s1 := 0x40, c1 := 4, lo := 31, w := 1, acc := .rw }
/-- CRCn_CTRL GO [30:30] WO (R482). -/
def CRCn_CTRL.GO : Fld := { base := 0xA000, s1 := 0x40, c1 := 4, lo := 30, w := 1, acc := .wo }
/-- CRCn_CTRL SEED [29:29] RW (R482). -/
def CRCn_CTRL.SEED : Fld := { base := 0xA000, s1 := 0x40, c1 := 4, lo := 29, w := 1, acc := .rw, rst := (fun _ => 1) }
/-- CRCn_CTRL FOLDA [28:28] RW (R482). -/
def CRCn_CTRL.FOLDA : Fld := { base := 0xA000, s1 := 0x40, c1 := 4, lo := 28, w := 1, acc := .rw }
/-- CRCn_CTRL CMP [27:27] RW (R482). -/
def CRCn_CTRL.CMP : Fld := { base := 0xA000, s1 := 0x40, c1 := 4, lo := 27, w := 1, acc := .rw }
/-- CRCn_CTRL REP [26:26] RW (R482). -/
def CRCn_CTRL.REP : Fld := { base := 0xA000, s1 := 0x40, c1 := 4, lo := 26, w := 1, acc := .rw }
/-- CRCn_CTRL SPACE [25:25] RW (R482). -/
def CRCn_CTRL.SPACE : Fld := { base := 0xA000, s1 := 0x40, c1 := 4, lo := 25, w := 1, acc := .rw }
/-- CRCn_CTRL RPER [23:16] RW (R482). -/
def CRCn_CTRL.RPER : Fld := { base := 0xA000, s1 := 0x40, c1 := 4, lo := 16, w := 8, acc := .rw }
/-- CRCn_START START [31:0] RW (R482). -/
def CRCn_START.START : Fld := { base := 0xA004, s1 := 0x40, c1 := 4, lo := 0, w := 32, acc := .rw }
/-- CRCn_LEN LEN [31:0] RW (R482). -/
def CRCn_LEN.LEN : Fld := { base := 0xA008, s1 := 0x40, c1 := 4, lo := 0, w := 32, acc := .rw }
/-- CRCn_SEQ SEQ [31:0] RW (R482). -/
def CRCn_SEQ.SEQ : Fld := { base := 0xA00C, s1 := 0x40, c1 := 4, lo := 0, w := 32, acc := .rw }
/-- CRCn_RUN RUN [31:0] RW (R482). -/
def CRCn_RUN.RUN : Fld := { base := 0xA010, s1 := 0x40, c1 := 4, lo := 0, w := 32, acc := .rw, rst := (fun _ => 0xFFFFFFFF) }
/-- CRCn_RES RES [31:0] RO (R482). -/
def CRCn_RES.RES : Fld := { base := 0xA014, s1 := 0x40, c1 := 4, lo := 0, w := 32, acc := .ro }
/-- CRCn_EXP EXP [31:0] RW (R482). -/
def CRCn_EXP.EXP : Fld := { base := 0xA018, s1 := 0x40, c1 := 4, lo := 0, w := 32, acc := .rw }
/-- CRCn_STAT STATE [31:30] RO (R482). -/
def CRCn_STAT.STATE : Fld := { base := 0xA01C, s1 := 0x40, c1 := 4, lo := 30, w := 2, acc := .ro }
/-- CRCn_STAT MIS [29:29] W1C (R482). -/
def CRCn_STAT.MIS : Fld := { base := 0xA01C, s1 := 0x40, c1 := 4, lo := 29, w := 1, acc := .w1c }
/-- CRCn_STAT UNC [28:28] W1C (R482). -/
def CRCn_STAT.UNC : Fld := { base := 0xA01C, s1 := 0x40, c1 := 4, lo := 28, w := 1, acc := .w1c }
/-- CRCn_STAT OWN [27:27] RO (R482). -/
def CRCn_STAT.OWN : Fld := { base := 0xA01C, s1 := 0x40, c1 := 4, lo := 27, w := 1, acc := .ro }
/-- CRCn_STAT PRE [26:26] W1C (R482). -/
def CRCn_STAT.PRE : Fld := { base := 0xA01C, s1 := 0x40, c1 := 4, lo := 26, w := 1, acc := .w1c }
/-- CRCn_STAT SAT [15:15] W1C (R482). -/
def CRCn_STAT.SAT : Fld := { base := 0xA01C, s1 := 0x40, c1 := 4, lo := 15, w := 1, acc := .w1c }
/-- CRCn_STAT PASS [14:0] W1C (R482). -/
def CRCn_STAT.PASS : Fld := { base := 0xA01C, s1 := 0x40, c1 := 4, lo := 0, w := 15, acc := .sat }
/-- MEM_CFG DEN [3:2] RWL (R481). -/
def MEM_CFG.DEN : Fld := { base := 0xB000, lo := 2, w := 2, acc := .rwl, lock := .memDen, ok := fun v => v ≤ 1 }
/-- MEM_CFG AUTOMARK [1:1] RW (R481). -/
def MEM_CFG.AUTOMARK : Fld := { base := 0xB000, lo := 1, w := 1, acc := .rw, rst := (fun _ => 1) }
/-- MEM_CFG INIT [0:0] WO (R481). -/
def MEM_CFG.INIT : Fld := { base := 0xB000, lo := 0, w := 1, acc := .wo }
/-- MEM_STAT UNCF [31:31] W1C (R481). -/
def MEM_STAT.UNCF : Fld := { base := 0xB004, lo := 31, w := 1, acc := .w1c }
/-- MEM_STAT CORF [30:30] W1C (R481). -/
def MEM_STAT.CORF : Fld := { base := 0xB004, lo := 30, w := 1, acc := .w1c }
/-- MEM_STAT MARK [29:25] RO (R481). -/
def MEM_STAT.MARK : Fld := { base := 0xB004, lo := 25, w := 5, acc := .ro, rst := (fun _ => 0x1F) }
/-- MEM_STAT DSAT [2:2] W1C (R481). -/
def MEM_STAT.DSAT : Fld := { base := 0xB004, lo := 2, w := 1, acc := .w1c }
/-- MEM_STAT READY [1:1] RO (R481). -/
def MEM_STAT.READY : Fld := { base := 0xB004, lo := 1, w := 1, acc := .ro }
/-- MEM_STAT INITB [0:0] RO (R481). -/
def MEM_STAT.INITB : Fld := { base := 0xB004, lo := 0, w := 1, acc := .ro }
/-- MEM_SCRUB PER [31:24] RW (R481). -/
def MEM_SCRUB.PER : Fld := { base := 0xB008, lo := 24, w := 8, acc := .rw, rst := (fun _ => 0x18) }
/-- MEM_SCRUB SPER [23:16] RW (R481). -/
def MEM_SCRUB.SPER : Fld := { base := 0xB008, lo := 16, w := 8, acc := .rw, rst := (fun _ => 0xA) }
/-- MEM_SCRUB DEVTH [15:0] RW (R481). -/
def MEM_SCRUB.DEVTH : Fld := { base := 0xB008, lo := 0, w := 16, acc := .rw, rst := (fun _ => 0x400), ok := fun v => v != 0 }
/-- MEM_DCNTm DODD [31:16] W1C (R481). -/
def MEM_DCNTm.DODD : Fld := { base := 0xB010, s1 := 0x4, c1 := 10, lo := 16, w := 16, acc := .sat }
/-- MEM_DCNTm DEVEN [15:0] W1C (R481). -/
def MEM_DCNTm.DEVEN : Fld := { base := 0xB010, s1 := 0x4, c1 := 10, lo := 0, w := 16, acc := .sat }
/-- MEM_ELOG0 CADDR [31:0] RO (R481). -/
def MEM_ELOG0.CADDR : Fld := { base := 0xB040, lo := 0, w := 32, acc := .ro }
/-- MEM_ELOG1 UADDR [31:0] RO (R481). -/
def MEM_ELOG1.UADDR : Fld := { base := 0xB044, lo := 0, w := 32, acc := .ro }
/-- MEM_ELOG2 SAT [31:31] W1C (R481). -/
def MEM_ELOG2.SAT : Fld := { base := 0xB048, lo := 31, w := 1, acc := .w1c }
/-- MEM_ELOG2 SCOR [30:16] W1C (R481). -/
def MEM_ELOG2.SCOR : Fld := { base := 0xB048, lo := 16, w := 15, acc := .sat }
/-- MEM_ELOG2 LDEV [4:0] RO (R481). -/
def MEM_ELOG2.LDEV : Fld := { base := 0xB048, lo := 0, w := 5, acc := .ro }
/-- MEM_HWIN BASE [31:24] RW (R481). -/
def MEM_HWIN.BASE : Fld := { base := 0xB00C, lo := 24, w := 8, acc := .rw }
/-- EVT_RTn MEN [31:31] RW (R435). -/
def EVT_RTn.MEN : Fld := { base := 0xC000, s1 := 0x4, c1 := 128, lo := 31, w := 1, acc := .rw }
/-- EVT_RTn VEC [30:24] RW (R435). -/
def EVT_RTn.VEC : Fld := { base := 0xC000, s1 := 0x4, c1 := 128, lo := 24, w := 7, acc := .rw }
/-- EVT_RTn EEN [23:23] RW (R435). -/
def EVT_RTn.EEN : Fld := { base := 0xC000, s1 := 0x4, c1 := 128, lo := 23, w := 1, acc := .rw }
/-- EVT_RTn ETASK [22:18] RW (R435). -/
def EVT_RTn.ETASK : Fld := { base := 0xC000, s1 := 0x4, c1 := 128, lo := 18, w := 5, acc := .rw }
/-- EVT_RTn MINSEV [17:15] RW (R435). -/
def EVT_RTn.MINSEV : Fld := { base := 0xC000, s1 := 0x4, c1 := 128, lo := 15, w := 3, acc := .rw, ok := fun v => v ≤ 5 }
/-- EVT_PENDm PEND [31:0] W1C (R435). -/
def EVT_PENDm.PEND : Fld := { base := 0xC200, s1 := 0x4, c1 := 4, lo := 0, w := 32, acc := .w1c }
/-- EVT_MSKm MSK [31:0] RW (R435). -/
def EVT_MSKm.MSK : Fld := { base := 0xC210, s1 := 0x4, c1 := 4, lo := 0, w := 32, acc := .rw, rst := (fun _ => 0xFFFFFFFF) }
/-- PCI_STAT DLUP [8:8] RO (R514). -/
def PCI_STAT.DLUP : Fld := { base := 0xDC00, lo := 8, w := 1, acc := .ro }
/-- PCI_STAT SPEED [6:4] RO (R514). -/
def PCI_STAT.SPEED : Fld := { base := 0xDC00, lo := 4, w := 3, acc := .ro }
/-- PCI_STAT WIDTH [3:0] RO (R514). -/
def PCI_STAT.WIDTH : Fld := { base := 0xDC00, lo := 0, w := 4, acc := .ro }
/-- PCI_ECNT SAT [31:31] W1C (R514). -/
def PCI_ECNT.SAT : Fld := { base := 0xDC04, lo := 31, w := 1, acc := .w1c }
/-- PCI_ECNT ERR [30:0] W1C (R514). -/
def PCI_ECNT.ERR : Fld := { base := 0xDC04, lo := 0, w := 31, acc := .sat }
/-- PCI_MSIX_ALO A [31:0] RW (R485). -/
def PCI_MSIX_ALO.A : Fld := { base := 0xD000, s1 := 0x10, c1 := 128, lo := 0, w := 32, acc := .rw }
/-- PCI_MSIX_AHI A [31:0] RW (R485). -/
def PCI_MSIX_AHI.A : Fld := { base := 0xD004, s1 := 0x10, c1 := 128, lo := 0, w := 32, acc := .rw }
/-- PCI_MSIX_DATA D [31:0] RW (R485). -/
def PCI_MSIX_DATA.D : Fld := { base := 0xD008, s1 := 0x10, c1 := 128, lo := 0, w := 32, acc := .rw }
/-- PCI_MSIX_VC MASK [0:0] RW (R485). -/
def PCI_MSIX_VC.MASK : Fld := { base := 0xD00C, s1 := 0x10, c1 := 128, lo := 0, w := 1, acc := .rw, rst := (fun _ => 1) }
/-- PCI_PBAm PEND [31:0] RO (R485). -/
def PCI_PBAm.PEND : Fld := { base := 0xD800, s1 := 0x4, c1 := 4, lo := 0, w := 32, acc := .ro }
/-- ETHn_CFG EN [31:31] RWL (R514). -/
def ETHn_CFG.EN : Fld := { base := 0xE000, s1 := 0x100, c1 := 2, lo := 31, w := 1, acc := .rwl, lock := .parked }
/-- ETHn_CFG MCAST [30:30] RW (R514). -/
def ETHn_CFG.MCAST : Fld := { base := 0xE000, s1 := 0x100, c1 := 2, lo := 30, w := 1, acc := .rw }
/-- ETHn_CFG LMAX [29:16] RW (R514). -/
def ETHn_CFG.LMAX : Fld := { base := 0xE000, s1 := 0x100, c1 := 2, lo := 16, w := 14, acc := .rw, rst := (fun _ => 0x3E8) }
/-- ETHn_CFG LINK [0:0] RO (R514). -/
def ETHn_CFG.LINK : Fld := { base := 0xE000, s1 := 0x100, c1 := 2, lo := 0, w := 1, acc := .ro }
/-- ETHn_MACH MAC [15:0] RWL (R514). -/
def ETHn_MACH.MAC : Fld := { base := 0xE004, s1 := 0x100, c1 := 2, lo := 0, w := 16, acc := .rwl, lock := .parked }
/-- ETHn_MACL MAC [31:0] RWL (R514). -/
def ETHn_MACL.MAC : Fld := { base := 0xE008, s1 := 0x100, c1 := 2, lo := 0, w := 32, acc := .rwl, lock := .parked }
/-- ETHn_LAT TXL [31:16] RW (R514). -/
def ETHn_LAT.TXL : Fld := { base := 0xE00C, s1 := 0x100, c1 := 2, lo := 16, w := 16, acc := .rw }
/-- ETHn_LAT RXL [15:0] RW (R514). -/
def ETHn_LAT.RXL : Fld := { base := 0xE00C, s1 := 0x100, c1 := 2, lo := 0, w := 16, acc := .rw }
/-- ETHn_TXB BASE [31:0] RWL (R514). -/
def ETHn_TXB.BASE : Fld := { base := 0xE010, s1 := 0x100, c1 := 2, lo := 0, w := 32, acc := .rwl, lock := .parked }
/-- ETHn_RXB BASE [31:0] RWL (R514). -/
def ETHn_RXB.BASE : Fld := { base := 0xE014, s1 := 0x100, c1 := 2, lo := 0, w := 32, acc := .rwl, lock := .parked }
/-- ETHn_RSZ TXN [31:16] RWL (R514). -/
def ETHn_RSZ.TXN : Fld := { base := 0xE018, s1 := 0x100, c1 := 2, lo := 16, w := 16, acc := .rwl, rst := (fun _ => 0x10), lock := .parked, ok := fun v => 16 ≤ v }
/-- ETHn_RSZ RXN [15:0] RWL (R514). -/
def ETHn_RSZ.RXN : Fld := { base := 0xE018, s1 := 0x100, c1 := 2, lo := 0, w := 16, acc := .rwl, rst := (fun _ => 0x10), lock := .parked, ok := fun v => 16 ≤ v }
/-- ETHn_HEAD TXH [31:16] RO (R514). -/
def ETHn_HEAD.TXH : Fld := { base := 0xE01C, s1 := 0x100, c1 := 2, lo := 16, w := 16, acc := .ro }
/-- ETHn_HEAD RXH [15:0] RO (R514). -/
def ETHn_HEAD.RXH : Fld := { base := 0xE01C, s1 := 0x100, c1 := 2, lo := 0, w := 16, acc := .ro }
/-- ETHn_CNT SAT [31:31] W1C (R514). -/
def ETHn_CNT.SAT : Fld := { base := 0xE020, s1 := 0x100, c1 := 2, lo := 31, w := 1, acc := .w1c }
/-- ETHn_CNT LATE [30:16] W1C (R514). -/
def ETHn_CNT.LATE : Fld := { base := 0xE020, s1 := 0x100, c1 := 2, lo := 16, w := 15, acc := .sat }
/-- ETHn_CNT DROP [14:0] W1C (R514). -/
def ETHn_CNT.DROP : Fld := { base := 0xE020, s1 := 0x100, c1 := 2, lo := 0, w := 15, acc := .sat }
/-- ETH_PTP EN [31:31] RWL (R515). -/
def ETH_PTP.EN : Fld := { base := 0xE800, lo := 31, w := 1, acc := .rwl, lock := .parked }
/-- ETH_PTP SERVO [30:30] RW (R515). -/
def ETH_PTP.SERVO : Fld := { base := 0xE800, lo := 30, w := 1, acc := .rw }
/-- ETH_PTP MCAP [29:29] RWL (R515). -/
def ETH_PTP.MCAP : Fld := { base := 0xE800, lo := 29, w := 1, acc := .rwl, lock := .parked }
/-- ETH_PTP PORT [28:28] RWL (R515). -/
def ETH_PTP.PORT : Fld := { base := 0xE800, lo := 28, w := 1, acc := .rwl, lock := .parked }
/-- ETH_PTP DOM [27:20] RWL (R515). -/
def ETH_PTP.DOM : Fld := { base := 0xE800, lo := 20, w := 8, acc := .rwl, lock := .parked }
/-- ETH_PTP SLEW [19:12] RW (R515). -/
def ETH_PTP.SLEW : Fld := { base := 0xE800, lo := 12, w := 8, acc := .rw, rst := (fun _ => 0x14), ok := fun v => 1 ≤ v && v ≤ 200 }
/-- ETH_PTP LSYNC [11:8] RWL (R515). -/
def ETH_PTP.LSYNC : Fld := { base := 0xE800, lo := 8, w := 4, acc := .rwl, lock := .parked, ok := fun v => v ≤ 1 || 12 ≤ v }
/-- ETH_PTPST PSTATE [31:29] RO (R515). -/
def ETH_PTPST.PSTATE : Fld := { base := 0xE804, lo := 29, w := 3, acc := .ro, rst := (fun _ => 6) }
/-- ETH_PTPST FREE [28:28] RO (R515). -/
def ETH_PTPST.FREE : Fld := { base := 0xE804, lo := 28, w := 1, acc := .ro }
/-- ETH_PTPST STALE [27:27] RO (R515). -/
def ETH_PTPST.STALE : Fld := { base := 0xE804, lo := 27, w := 1, acc := .ro }
/-- ETH_PTPST BIG [26:26] RO (R515). -/
def ETH_PTPST.BIG : Fld := { base := 0xE804, lo := 26, w := 1, acc := .ro }
/-- ETH_PTPOFS OFS [31:0] RO (R515). -/
def ETH_PTPOFS.OFS : Fld := { base := 0xE808, lo := 0, w := 32, acc := .ro }
/-- ETH_GMIDH GMID [31:0] RO (R515). -/
def ETH_GMIDH.GMID : Fld := { base := 0xE80C, lo := 0, w := 32, acc := .ro }
/-- ETH_GMIDL GMID [31:0] RO (R515). -/
def ETH_GMIDL.GMID : Fld := { base := 0xE810, lo := 0, w := 32, acc := .ro }
/-- SVL_CTRL OUT [31:16] RW (R542). -/
def SVL_CTRL.OUT : Fld := { base := 0xF000, lo := 16, w := 16, acc := .rw }
/-- SVL_CTRL SAFE [4:4] WO (R542). -/
def SVL_CTRL.SAFE : Fld := { base := 0xF000, lo := 4, w := 1, acc := .wo }
/-- SVL_CTRL STOPREF [3:3] RW (R542). -/
def SVL_CTRL.STOPREF : Fld := { base := 0xF000, lo := 3, w := 1, acc := .rw }
/-- SVL_CTRL TCLR [2:2] WO (R542). -/
def SVL_CTRL.TCLR : Fld := { base := 0xF000, lo := 2, w := 1, acc := .wo }
/-- SVL_CTRL RESUME [1:1] WO (R542). -/
def SVL_CTRL.RESUME : Fld := { base := 0xF000, lo := 1, w := 1, acc := .wo }
/-- SVL_CTRL EN [0:0] RW (R542). -/
def SVL_CTRL.EN : Fld := { base := 0xF000, lo := 0, w := 1, acc := .rw }
/-- SVL_REQ OP [31:30] WO (R542). -/
def SVL_REQ.OP : Fld := { base := 0xF004, lo := 30, w := 2, acc := .wo }
/-- SVL_REQ BUSY [29:29] RO (R542). -/
def SVL_REQ.BUSY : Fld := { base := 0xF004, lo := 29, w := 1, acc := .ro }
/-- SVL_REQ RSTAT [10:8] RO (R542). -/
def SVL_REQ.RSTAT : Fld := { base := 0xF004, lo := 8, w := 3, acc := .ro }
/-- SVL_REQ NUM [7:0] RW (R542). -/
def SVL_REQ.NUM : Fld := { base := 0xF004, lo := 0, w := 8, acc := .rw }
/-- SVL_WD D [31:0] RW (R542). -/
def SVL_WD.D : Fld := { base := 0xF008, lo := 0, w := 32, acc := .rw }
/-- SVL_RD D [31:0] RO (R542). -/
def SVL_RD.D : Fld := { base := 0xF00C, lo := 0, w := 32, acc := .ro }
/-- SVL_FIN IN [31:0] RO (R542). -/
def SVL_FIN.IN : Fld := { base := 0xF010, lo := 0, w := 32, acc := .ro }
/-- SVL_FST ST [31:0] RO (R542). -/
def SVL_FST.ST : Fld := { base := 0xF014, lo := 0, w := 32, acc := .ro }
/-- SVL_STAT SAT [31:31] W1C (R542). -/
def SVL_STAT.SAT : Fld := { base := 0xF018, lo := 31, w := 1, acc := .w1c }
/-- SVL_STAT ERR [30:16] W1C (R542). -/
def SVL_STAT.ERR : Fld := { base := 0xF018, lo := 16, w := 15, acc := .sat }
/-- SVL_STAT UP [0:0] RO (R542). -/
def SVL_STAT.UP : Fld := { base := 0xF018, lo := 0, w := 1, acc := .ro }
/-- SPn_CTRL TEST [8:8] RWL (R91). -/
def SPn_CTRL.TEST : Fld := { base := 0x10000, s1 := 0x100, c1 := 32, lo := 8, w := 1, acc := .rwl, lock := .parked }
/-- SPn_CTRL PAUTO [7:7] RW (R91). -/
def SPn_CTRL.PAUTO : Fld := { base := 0x10000, s1 := 0x100, c1 := 32, lo := 7, w := 1, acc := .rw, rst := (fun _ => 1) }
/-- SPn_CTRL NRZ [6:6] RWL (R91). -/
def SPn_CTRL.NRZ : Fld := { base := 0x10000, s1 := 0x100, c1 := 32, lo := 6, w := 1, acc := .rwl, lock := .parked }
/-- SPn_CTRL INVTX [5:5] RW (R91). -/
def SPn_CTRL.INVTX : Fld := { base := 0x10000, s1 := 0x100, c1 := 32, lo := 5, w := 1, acc := .rw }
/-- SPn_CTRL INVRX [4:4] RW (R91). -/
def SPn_CTRL.INVRX : Fld := { base := 0x10000, s1 := 0x100, c1 := 32, lo := 4, w := 1, acc := .rw }
/-- SPn_CTRL BRING [3:2] RW (R91). -/
def SPn_CTRL.BRING : Fld := { base := 0x10000, s1 := 0x100, c1 := 32, lo := 2, w := 2, acc := .rw, rst := (fun _ => 1), ok := fun v => v != 3 }
/-- SPn_CTRL TXEN [1:1] RW (R91). -/
def SPn_CTRL.TXEN : Fld := { base := 0x10000, s1 := 0x100, c1 := 32, lo := 1, w := 1, acc := .rw }
/-- SPn_CTRL EN [0:0] RW (R91). -/
def SPn_CTRL.EN : Fld := { base := 0x10000, s1 := 0x100, c1 := 32, lo := 0, w := 1, acc := .rw }
/-- SPn_STAT SAT [31:31] W1C (R92). -/
def SPn_STAT.SAT : Fld := { base := 0x10004, s1 := 0x100, c1 := 32, lo := 31, w := 1, acc := .w1c }
/-- SPn_STAT ALOSS [23:16] W1C (R92). -/
def SPn_STAT.ALOSS : Fld := { base := 0x10004, s1 := 0x100, c1 := 32, lo := 16, w := 8, acc := .sat }
/-- SPn_STAT BLINDF [9:9] W1C (R92). -/
def SPn_STAT.BLINDF : Fld := { base := 0x10004, s1 := 0x100, c1 := 32, lo := 9, w := 1, acc := .w1c }
/-- SPn_STAT LOSTA [8:8] W1C (R92). -/
def SPn_STAT.LOSTA : Fld := { base := 0x10004, s1 := 0x100, c1 := 32, lo := 8, w := 1, acc := .w1c }
/-- SPn_STAT RXINV [7:7] RO (R92). -/
def SPn_STAT.RXINV : Fld := { base := 0x10004, s1 := 0x100, c1 := 32, lo := 7, w := 1, acc := .ro }
/-- SPn_STAT PKSAT [6:6] RO (R92). -/
def SPn_STAT.PKSAT : Fld := { base := 0x10004, s1 := 0x100, c1 := 32, lo := 6, w := 1, acc := .ro }
/-- SPn_STAT FROZEN [5:5] RO (R92). -/
def SPn_STAT.FROZEN : Fld := { base := 0x10004, s1 := 0x100, c1 := 32, lo := 5, w := 1, acc := .ro }
/-- SPn_STAT ALOCK [4:4] RO (R92). -/
def SPn_STAT.ALOCK : Fld := { base := 0x10004, s1 := 0x100, c1 := 32, lo := 4, w := 1, acc := .ro }
/-- SPn_STAT LOS [3:3] RO (R92). -/
def SPn_STAT.LOS : Fld := { base := 0x10004, s1 := 0x100, c1 := 32, lo := 3, w := 1, acc := .ro }
/-- SPn_STAT LSTATE [2:0] RO (R92). -/
def SPn_STAT.LSTATE : Fld := { base := 0x10004, s1 := 0x100, c1 := 32, lo := 0, w := 3, acc := .ro }
/-- SPn_PEAK SAVED [12:12] RO (R93). -/
def SPn_PEAK.SAVED : Fld := { base := 0x10008, s1 := 0x100, c1 := 32, lo := 12, w := 1, acc := .ro }
/-- SPn_PEAK MPK [11:8] RW (R93). -/
def SPn_PEAK.MPK : Fld := { base := 0x10008, s1 := 0x100, c1 := 32, lo := 8, w := 4, acc := .rw, rst := (fun _ => 8) }
/-- SPn_PEAK MAN [4:4] RW (R93). -/
def SPn_PEAK.MAN : Fld := { base := 0x10008, s1 := 0x100, c1 := 32, lo := 4, w := 1, acc := .rw }
/-- SPn_PEAK PK [3:0] RO (R93). -/
def SPn_PEAK.PK : Fld := { base := 0x10008, s1 := 0x100, c1 := 32, lo := 0, w := 4, acc := .ro, rst := (fun _ => 8) }
/-- SPn_PWR TSAT [31:31] W1C (R94). -/
def SPn_PWR.TSAT : Fld := { base := 0x1000C, s1 := 0x100, c1 := 32, lo := 31, w := 1, acc := .w1c }
/-- SPn_PWR TRIES [30:24] W1C (R94). -/
def SPn_PWR.TRIES : Fld := { base := 0x1000C, s1 := 0x100, c1 := 32, lo := 24, w := 7, acc := .sat }
/-- SPn_PWR OFFT [23:16] RW (R94). -/
def SPn_PWR.OFFT : Fld := { base := 0x1000C, s1 := 0x100, c1 := 32, lo := 16, w := 8, acc := .rw, rst := (fun _ => 2), ok := fun v => 1 ≤ v && v ≤ 60 }
/-- SPn_PWR MAXT [15:8] RW (R94). -/
def SPn_PWR.MAXT : Fld := { base := 0x1000C, s1 := 0x100, c1 := 32, lo := 8, w := 8, acc := .rw, rst := (fun _ => 10) }
/-- SPn_PWR GIVEUP [7:7] RO (R94). -/
def SPn_PWR.GIVEUP : Fld := { base := 0x1000C, s1 := 0x100, c1 := 32, lo := 7, w := 1, acc := .ro }
/-- SPn_PWR CUT [6:6] W1C (R94). -/
def SPn_PWR.CUT : Fld := { base := 0x1000C, s1 := 0x100, c1 := 32, lo := 6, w := 1, acc := .w1c }
/-- SPn_PWR PSTATE [5:4] RO (R94). -/
def SPn_PWR.PSTATE : Fld := { base := 0x1000C, s1 := 0x100, c1 := 32, lo := 4, w := 2, acc := .ro }
/-- SPn_PWR PWROK [3:3] RO (R94). -/
def SPn_PWR.PWROK : Fld := { base := 0x1000C, s1 := 0x100, c1 := 32, lo := 3, w := 1, acc := .ro }
/-- SPn_PWR PWREN [2:2] RO (R94). -/
def SPn_PWR.PWREN : Fld := { base := 0x1000C, s1 := 0x100, c1 := 32, lo := 2, w := 1, acc := .ro }
/-- SPn_PWR EN [0:0] RW (R94). -/
def SPn_PWR.EN : Fld := { base := 0x1000C, s1 := 0x100, c1 := 32, lo := 0, w := 1, acc := .rw }
/-- SPn_XLAT TXL [27:16] RW (R95). -/
def SPn_XLAT.TXL : Fld := { base := 0x10010, s1 := 0x100, c1 := 32, lo := 16, w := 12, acc := .rw }
/-- SPn_XLAT RXL [11:0] RW (R95). -/
def SPn_XLAT.RXL : Fld := { base := 0x10010, s1 := 0x100, c1 := 32, lo := 0, w := 12, acc := .rw }
/-- SPn_PCTL ELIVE [18:18] RW (R96). -/
def SPn_PCTL.ELIVE : Fld := { base := 0x10014, s1 := 0x100, c1 := 32, lo := 18, w := 1, acc := .rw }
/-- SPn_PCTL EBURST [17:12] RW (R96). -/
def SPn_PCTL.EBURST : Fld := { base := 0x10014, s1 := 0x100, c1 := 32, lo := 12, w := 6, acc := .rw }
/-- SPn_PCTL EGO [11:11] WO (R96). -/
def SPn_PCTL.EGO : Fld := { base := 0x10014, s1 := 0x100, c1 := 32, lo := 11, w := 1, acc := .wo }
/-- SPn_PCTL EMODE [10:8] RW (R96). -/
def SPn_PCTL.EMODE : Fld := { base := 0x10014, s1 := 0x100, c1 := 32, lo := 8, w := 3, acc := .rw, ok := fun v => v ≤ 4 }
/-- SPn_PCTL CSYNC [7:7] RO (R96). -/
def SPn_PCTL.CSYNC : Fld := { base := 0x10014, s1 := 0x100, c1 := 32, lo := 7, w := 1, acc := .ro }
/-- SPn_PCTL CPAT [6:4] RW (R96). -/
def SPn_PCTL.CPAT : Fld := { base := 0x10014, s1 := 0x100, c1 := 32, lo := 4, w := 3, acc := .rw, ok := fun v => v ≤ 6 }
/-- SPn_PCTL GPAT [2:0] RW (R96). -/
def SPn_PCTL.GPAT : Fld := { base := 0x10014, s1 := 0x100, c1 := 32, lo := 0, w := 3, acc := .rw, ok := fun v => v ≤ 6 }
/-- SP_LEAD HOLDN [9:6] RWL (R136). -/
def SP_LEAD.HOLDN : Fld := { base := 0x12000, lo := 6, w := 4, acc := .rwl, rst := (fun _ => 2), lock := .parked, ok := fun v => 1 ≤ v && v ≤ 8 }
/-- SP_LEAD LAYOUT [5:5] RWL (R136). -/
def SP_LEAD.LAYOUT : Fld := { base := 0x12000, lo := 5, w := 1, acc := .rwl, lock := .parked }
/-- SP_LEAD CARRY [4:3] RWL (R136). -/
def SP_LEAD.CARRY : Fld := { base := 0x12000, lo := 3, w := 2, acc := .rwl, rst := (fun _ => 1), lock := .parked, ok := fun v => v == 1 || v == 2 }
/-- SP_LEAD TA [2:1] RWL (R136). -/
def SP_LEAD.TA : Fld := { base := 0x12000, lo := 1, w := 2, acc := .rwl, rst := (fun _ => 1), lock := .parked, ok := fun v => v != 0 }
/-- SP_RAP RAP [15:0] RWL (R137). -/
def SP_RAP.RAP : Fld := { base := 0x12004, lo := 0, w := 16, acc := .rwl, rst := (fun _ => 0x3E8), lock := .parked }
/-- SPn_GEOM NMOD [24:16] RWL (R138). -/
def SPn_GEOM.NMOD : Fld := { base := 0x10020, s1 := 0x100, c1 := 32, lo := 16, w := 9, acc := .rwl, lock := .parked, ok := fun v => v ≤ 256 }
/-- SPn_GEOM NLIVE [8:0] RO (R138). -/
def SPn_GEOM.NLIVE : Fld := { base := 0x10020, s1 := 0x100, c1 := 32, lo := 0, w := 9, acc := .ro }
/-- SPn_PDLY P [19:0] RO (R138). -/
def SPn_PDLY.P : Fld := { base := 0x10024, s1 := 0x100, c1 := 32, lo := 0, w := 20, acc := .ro }
/-- SPn_FOLD FOLDED [31:31] RO (R139). -/
def SPn_FOLD.FOLDED : Fld := { base := 0x10028, s1 := 0x100, c1 := 32, lo := 31, w := 1, acc := .ro }
/-- SPn_FOLD RELAY [30:30] RO (R139). -/
def SPn_FOLD.RELAY : Fld := { base := 0x10028, s1 := 0x100, c1 := 32, lo := 30, w := 1, acc := .ro }
/-- SPn_FOLD FPOS [24:16] RO (R139). -/
def SPn_FOLD.FPOS : Fld := { base := 0x10028, s1 := 0x100, c1 := 32, lo := 16, w := 9, acc := .ro }
/-- SPn_FOLD SAT [8:8] W1C (R139). -/
def SPn_FOLD.SAT : Fld := { base := 0x10028, s1 := 0x100, c1 := 32, lo := 8, w := 1, acc := .w1c }
/-- SPn_FOLD FCNT [7:0] W1C (R139). -/
def SPn_FOLD.FCNT : Fld := { base := 0x10028, s1 := 0x100, c1 := 32, lo := 0, w := 8, acc := .sat }
/-- SPn_SERR SAT [31:31] W1C (R140). -/
def SPn_SERR.SAT : Fld := { base := 0x1002C, s1 := 0x100, c1 := 32, lo := 31, w := 1, acc := .w1c }
/-- SPn_SERR MISS [30:16] W1C (R140). -/
def SPn_SERR.MISS : Fld := { base := 0x1002C, s1 := 0x100, c1 := 32, lo := 16, w := 15, acc := .sat }
/-- SPn_SERR BAD [14:0] W1C (R140). -/
def SPn_SERR.BAD : Fld := { base := 0x1002C, s1 := 0x100, c1 := 32, lo := 0, w := 15, acc := .sat }
/-- SPn_EINT EINT [15:0] RW (R97). -/
def SPn_EINT.EINT : Fld := { base := 0x10018, s1 := 0x100, c1 := 32, lo := 0, w := 16, acc := .rw, rst := (fun _ => 1), ok := fun v => v != 0 }
/-- SPn_PERR SAT [31:31] W1C (R97). -/
def SPn_PERR.SAT : Fld := { base := 0x1001C, s1 := 0x100, c1 := 32, lo := 31, w := 1, acc := .w1c }
/-- SPn_PERR ERR [30:0] W1C (R97). -/
def SPn_PERR.ERR : Fld := { base := 0x1001C, s1 := 0x100, c1 := 32, lo := 0, w := 31, acc := .sat }
/-- DSP_CTRL MTICK [31:16] RW (R360). -/
def DSP_CTRL.MTICK : Fld := { base := 0x20000, lo := 16, w := 16, acc := .rw }
/-- DSP_CTRL MREQ [1:0] WO (R360). -/
def DSP_CTRL.MREQ : Fld := { base := 0x20000, lo := 0, w := 2, acc := .wo }
/-- DSP_STAT MODE [31:30] RO (R361). -/
def DSP_STAT.MODE : Fld := { base := 0x20004, lo := 30, w := 2, acc := .ro }
/-- DSP_STAT PEND [29:29] RO (R361). -/
def DSP_STAT.PEND : Fld := { base := 0x20004, lo := 29, w := 1, acc := .ro }
/-- DSP_STAT T0RUN [28:28] RO (R361). -/
def DSP_STAT.T0RUN : Fld := { base := 0x20004, lo := 28, w := 1, acc := .ro }
/-- DSP_STAT T0CONS [27:26] RO (R361). -/
def DSP_STAT.T0CONS : Fld := { base := 0x20004, lo := 26, w := 2, acc := .ro }
/-- DSP_STAT CTXOFF [15:0] RO (R361). -/
def DSP_STAT.CTXOFF : Fld := { base := 0x20004, lo := 0, w := 16, acc := .ro }
/-- DSP_T0CFG CMASK [31:16] RWL (R362). -/
def DSP_T0CFG.CMASK : Fld := { base := 0x20008, lo := 16, w := 16, acc := .rwl, lock := .stop }
/-- DSP_T0CFG CNT [15:8] RWL (R362). -/
def DSP_T0CFG.CNT : Fld := { base := 0x20008, lo := 8, w := 8, acc := .rwl, lock := .stop }
/-- DSP_T0CFG CEN [7:7] RWL (R362). -/
def DSP_T0CFG.CEN : Fld := { base := 0x20008, lo := 7, w := 1, acc := .rwl, lock := .stop }
/-- DSP_T0STAT SAT [31:31] W1C (R362). -/
def DSP_T0STAT.SAT : Fld := { base := 0x2000C, lo := 31, w := 1, acc := .w1c }
/-- DSP_T0STAT OVR [30:20] W1C (R362). -/
def DSP_T0STAT.OVR : Fld := { base := 0x2000C, lo := 20, w := 11, acc := .sat }
/-- DSP_T0STAT KILL [19:15] W1C (R362). -/
def DSP_T0STAT.KILL : Fld := { base := 0x2000C, lo := 15, w := 5, acc := .sat }
/-- DSP_T0STAT QCNT [14:0] W1C (R362). -/
def DSP_T0STAT.QCNT : Fld := { base := 0x2000C, lo := 0, w := 15, acc := .sat }
/-- DSP_PCFGk PERIOD [31:16] RWL (R363). -/
def DSP_PCFGk.PERIOD : Fld := { base := 0x20100, s1 := 0x4, c1 := 64, lo := 16, w := 16, acc := .rwl, lock := .stop, ok := fun v => v != 0 }
/-- DSP_PCFGk PRIO [15:12] RWL (R363). -/
def DSP_PCFGk.PRIO : Fld := { base := 0x20100, s1 := 0x4, c1 := 64, lo := 12, w := 4, acc := .rwl, lock := .stop }
/-- DSP_PCFGk EN [11:11] RW (R363). -/
def DSP_PCFGk.EN : Fld := { base := 0x20100, s1 := 0x4, c1 := 64, lo := 11, w := 1, acc := .rw }
/-- DSP_PCFGk HOLDRUN [10:10] RWL (R363). -/
def DSP_PCFGk.HOLDRUN : Fld := { base := 0x20100, s1 := 0x4, c1 := 64, lo := 10, w := 1, acc := .rwl, lock := .stop }
/-- DSP_PCFGk PREEMPT [9:9] RWL (R363). -/
def DSP_PCFGk.PREEMPT : Fld := { base := 0x20100, s1 := 0x4, c1 := 64, lo := 9, w := 1, acc := .rwl, lock := .stop }
/-- DSP_PCFGk FL [8:8] RWL (R363). -/
def DSP_PCFGk.FL : Fld := { base := 0x20100, s1 := 0x4, c1 := 64, lo := 8, w := 1, acc := .rwl, lock := .stop }
/-- DSP_PCFGk FLOW [5:0] RWL (R363). -/
def DSP_PCFGk.FLOW : Fld := { base := 0x20100, s1 := 0x4, c1 := 64, lo := 0, w := 6, acc := .rwl, lock := .stop }
/-- DSP_ECFGk CMASK [31:16] RWL (R363). -/
def DSP_ECFGk.CMASK : Fld := { base := 0x20400, s1 := 0x4, c1 := 32, lo := 16, w := 16, acc := .rwl, lock := .stop }
/-- DSP_ECFGk PRIO [15:12] RWL (R363). -/
def DSP_ECFGk.PRIO : Fld := { base := 0x20400, s1 := 0x4, c1 := 32, lo := 12, w := 4, acc := .rwl, lock := .stop }
/-- DSP_ECFGk EN [11:11] RW (R363). -/
def DSP_ECFGk.EN : Fld := { base := 0x20400, s1 := 0x4, c1 := 32, lo := 11, w := 1, acc := .rw }
/-- DSP_ECFGk HOLDRUN [10:10] RWL (R363). -/
def DSP_ECFGk.HOLDRUN : Fld := { base := 0x20400, s1 := 0x4, c1 := 32, lo := 10, w := 1, acc := .rwl, lock := .stop }
/-- DSP_ECFGk PREEMPT [9:9] RWL (R363). -/
def DSP_ECFGk.PREEMPT : Fld := { base := 0x20400, s1 := 0x4, c1 := 32, lo := 9, w := 1, acc := .rwl, lock := .stop }
/-- DSP_ECFGk FL [8:8] RWL (R363). -/
def DSP_ECFGk.FL : Fld := { base := 0x20400, s1 := 0x4, c1 := 32, lo := 8, w := 1, acc := .rwl, lock := .stop }
/-- DSP_ECFGk FLOW [5:0] RWL (R363). -/
def DSP_ECFGk.FLOW : Fld := { base := 0x20400, s1 := 0x4, c1 := 32, lo := 0, w := 6, acc := .rwl, lock := .stop }
/-- DSP_PMSKk PHASE [31:16] RWL (R363). -/
def DSP_PMSKk.PHASE : Fld := { base := 0x20200, s1 := 0x4, c1 := 64, lo := 16, w := 16, acc := .rwl, lock := .stop }
/-- DSP_PMSKk CMASK [15:0] RWL (R363). -/
def DSP_PMSKk.CMASK : Fld := { base := 0x20200, s1 := 0x4, c1 := 64, lo := 0, w := 16, acc := .rwl, lock := .stop }
/-- DSP_PSTATk SAT [31:31] W1C (R364). -/
def DSP_PSTATk.SAT : Fld := { base := 0x20300, s1 := 0x4, c1 := 64, lo := 31, w := 1, acc := .w1c }
/-- DSP_PSTATk SKIP [30:16] W1C (R364). -/
def DSP_PSTATk.SKIP : Fld := { base := 0x20300, s1 := 0x4, c1 := 64, lo := 16, w := 15, acc := .sat }
/-- DSP_PSTATk QCNT [14:0] W1C (R364). -/
def DSP_PSTATk.QCNT : Fld := { base := 0x20300, s1 := 0x4, c1 := 64, lo := 0, w := 15, acc := .sat }
/-- DSP_ESTATk SAT [31:31] W1C (R364). -/
def DSP_ESTATk.SAT : Fld := { base := 0x20480, s1 := 0x4, c1 := 32, lo := 31, w := 1, acc := .w1c }
/-- DSP_ESTATk LOST [30:16] W1C (R364). -/
def DSP_ESTATk.LOST : Fld := { base := 0x20480, s1 := 0x4, c1 := 32, lo := 16, w := 15, acc := .sat }
/-- DSP_ESTATk QCNT [14:0] W1C (R364). -/
def DSP_ESTATk.QCNT : Fld := { base := 0x20480, s1 := 0x4, c1 := 32, lo := 0, w := 15, acc := .sat }
/-- DSP_CNTj EN [31:31] RWL (R365). -/
def DSP_CNTj.EN : Fld := { base := 0x20800, s1 := 0x4, c1 := 256, lo := 31, w := 1, acc := .rwl, lock := .stop }
/-- DSP_CNTj MIS [30:30] W1C (R365). -/
def DSP_CNTj.MIS : Fld := { base := 0x20800, s1 := 0x4, c1 := 256, lo := 30, w := 1, acc := .w1c }
/-- DSP_CNTj TGT [23:16] RWL (R365). -/
def DSP_CNTj.TGT : Fld := { base := 0x20800, s1 := 0x4, c1 := 256, lo := 16, w := 8, acc := .rwl, lock := .stop, ok := fun v => v ≤ 95 || v == 255 }
/-- DSP_CNTj INIT [15:8] RWL (R365). -/
def DSP_CNTj.INIT : Fld := { base := 0x20800, s1 := 0x4, c1 := 256, lo := 8, w := 8, acc := .rwl, lock := .stop, ok := fun v => v != 0 }
/-- DSP_CNTj VAL [7:0] RO (R365). -/
def DSP_CNTj.VAL : Fld := { base := 0x20800, s1 := 0x4, c1 := 256, lo := 0, w := 8, acc := .ro }
/-- DSP_OLC STATE [31:28] RO (R366). -/
def DSP_OLC.STATE : Fld := { base := 0x20C00, lo := 28, w := 4, acc := .ro }
/-- DSP_OLC CMD [27:26] WO (R366). -/
def DSP_OLC.CMD : Fld := { base := 0x20C00, lo := 26, w := 2, acc := .wo }
/-- DSP_OLC CTICK [15:0] RW (R366). -/
def DSP_OLC.CTICK : Fld := { base := 0x20C00, lo := 0, w := 16, acc := .rw }
/-- DSP_OLCN DONE [31:16] RO (R366). -/
def DSP_OLCN.DONE : Fld := { base := 0x20C04, lo := 16, w := 16, acc := .ro }
/-- DSP_OLCN NCHK [15:0] RW (R366). -/
def DSP_OLCN.NCHK : Fld := { base := 0x20C04, lo := 0, w := 16, acc := .rw, rst := (fun _ => 0x2710), ok := fun v => v != 0 }
/-- DSP_FRCS VID [31:16] RW (R367). -/
def DSP_FRCS.VID : Fld := { base := 0x20C08, lo := 16, w := 16, acc := .rw }
/-- DSP_FRCS OFS [15:4] RW (R367). -/
def DSP_FRCS.OFS : Fld := { base := 0x20C08, lo := 4, w := 12, acc := .rw }
/-- DSP_FRCS SIZE [3:2] RW (R367). -/
def DSP_FRCS.SIZE : Fld := { base := 0x20C08, lo := 2, w := 2, acc := .rw }
/-- DSP_FRCV VLO [31:0] RW (R367). -/
def DSP_FRCV.VLO : Fld := { base := 0x20C0C, lo := 0, w := 32, acc := .rw }
/-- DSP_FRCH VHI [31:0] RW (R367). -/
def DSP_FRCH.VHI : Fld := { base := 0x20C10, lo := 0, w := 32, acc := .rw }
/-- DSP_FRCC CMD [31:30] WO (R367). -/
def DSP_FRCC.CMD : Fld := { base := 0x20C14, lo := 30, w := 2, acc := .wo }
/-- DSP_FRCC ENTRY [29:24] RW (R367). -/
def DSP_FRCC.ENTRY : Fld := { base := 0x20C14, lo := 24, w := 6, acc := .rw }
/-- DSP_FRCC FTICK [15:0] RW (R367). -/
def DSP_FRCC.FTICK : Fld := { base := 0x20C14, lo := 0, w := 16, acc := .rw }
/-- DSP_FSTAT LATE [0:0] W1C (R367). -/
def DSP_FSTAT.LATE : Fld := { base := 0x20C18, lo := 0, w := 1, acc := .w1c }
/-- DSP_FUSE0 USE [31:0] RO (R367). -/
def DSP_FUSE0.USE : Fld := { base := 0x20C1C, lo := 0, w := 32, acc := .ro }
/-- DSP_FUSE1 USE [31:0] RO (R367). -/
def DSP_FUSE1.USE : Fld := { base := 0x20C20, lo := 0, w := 32, acc := .ro }
/-- DSP_FORPH0 ORPH [31:0] RO (R367). -/
def DSP_FORPH0.ORPH : Fld := { base := 0x20C24, lo := 0, w := 32, acc := .ro }
/-- DSP_FORPH1 ORPH [31:0] RO (R367). -/
def DSP_FORPH1.ORPH : Fld := { base := 0x20C28, lo := 0, w := 32, acc := .ro }
/-- SFEn_CTRL EN [0:0] RW (R283). -/
def SFEn_CTRL.EN : Fld := { base := 0x30000, s1 := 0x1000, c1 := 4, lo := 0, w := 1, acc := .rw }
/-- SFEn_STAT SAT [31:31] W1C (R283). -/
def SFEn_STAT.SAT : Fld := { base := 0x30004, s1 := 0x1000, c1 := 4, lo := 31, w := 1, acc := .w1c }
/-- SFEn_STAT SKCNT [30:16] W1C (R283). -/
def SFEn_STAT.SKCNT : Fld := { base := 0x30004, s1 := 0x1000, c1 := 4, lo := 16, w := 15, acc := .sat }
/-- SFEn_STAT CUR [15:12] RO (R283). -/
def SFEn_STAT.CUR : Fld := { base := 0x30004, s1 := 0x1000, c1 := 4, lo := 12, w := 4, acc := .ro }
/-- SFEn_STAT RUN [11:11] RO (R283). -/
def SFEn_STAT.RUN : Fld := { base := 0x30004, s1 := 0x1000, c1 := 4, lo := 11, w := 1, acc := .ro }
/-- SFEn_STAT LATEF [10:10] W1C (R283). -/
def SFEn_STAT.LATEF : Fld := { base := 0x30004, s1 := 0x1000, c1 := 4, lo := 10, w := 1, acc := .w1c }
/-- SFEn_STAT CFGF [9:9] W1C (R283). -/
def SFEn_STAT.CFGF : Fld := { base := 0x30004, s1 := 0x1000, c1 := 4, lo := 9, w := 1, acc := .w1c }
/-- SFEn_DL DL [15:0] RW (R283). -/
def SFEn_DL.DL : Fld := { base := 0x30008, s1 := 0x1000, c1 := 4, lo := 0, w := 16, acc := .rw }
/-- SFEn_BANK SW [31:31] WO (R283). -/
def SFEn_BANK.SW : Fld := { base := 0x3000C, s1 := 0x1000, c1 := 4, lo := 31, w := 1, acc := .wo }
/-- SFEn_BANK ACT [30:30] RO (R283). -/
def SFEn_BANK.ACT : Fld := { base := 0x3000C, s1 := 0x1000, c1 := 4, lo := 30, w := 1, acc := .ro }
/-- SFEn_BANK PEND [29:29] RO (R283). -/
def SFEn_BANK.PEND : Fld := { base := 0x3000C, s1 := 0x1000, c1 := 4, lo := 29, w := 1, acc := .ro }
/-- SFEn_BANK BUSY [28:28] RO (R283). -/
def SFEn_BANK.BUSY : Fld := { base := 0x3000C, s1 := 0x1000, c1 := 4, lo := 28, w := 1, acc := .ro }
/-- SFEn_BANK STICK [15:0] RW (R283). -/
def SFEn_BANK.STICK : Fld := { base := 0x3000C, s1 := 0x1000, c1 := 4, lo := 0, w := 16, acc := .rw }
/-- SFEn_OSEL SEL [15:0] RO (R283). -/
def SFEn_OSEL.SEL : Fld := { base := 0x30010, s1 := 0x1000, c1 := 4, lo := 0, w := 16, acc := .ro }
/-- SFEn_LSTATj SAT [31:31] W1C (R284). -/
def SFEn_LSTATj.SAT : Fld := { base := 0x30080, s1 := 0x1000, c1 := 4, s2 := 0x4, c2 := 16, lo := 31, w := 1, acc := .w1c }
/-- SFEn_LSTATj SCNT [30:16] W1C (R284). -/
def SFEn_LSTATj.SCNT : Fld := { base := 0x30080, s1 := 0x1000, c1 := 4, s2 := 0x4, c2 := 16, lo := 16, w := 15, acc := .sat }
/-- SFEn_LSTATj SEEN [15:15] W1C (R284). -/
def SFEn_LSTATj.SEEN : Fld := { base := 0x30080, s1 := 0x1000, c1 := 4, s2 := 0x4, c2 := 16, lo := 15, w := 1, acc := .w1c }
/-- SFEn_LSTATj SKIP [7:7] RO (R284). -/
def SFEn_LSTATj.SKIP : Fld := { base := 0x30080, s1 := 0x1000, c1 := 4, s2 := 0x4, c2 := 16, lo := 7, w := 1, acc := .ro }
/-- SFEn_LSTATj STALE [6:6] RO (R284). -/
def SFEn_LSTATj.STALE : Fld := { base := 0x30080, s1 := 0x1000, c1 := 4, s2 := 0x4, c2 := 16, lo := 6, w := 1, acc := .ro }
/-- SFEn_LSTATj CLMP [5:5] RO (R284). -/
def SFEn_LSTATj.CLMP : Fld := { base := 0x30080, s1 := 0x1000, c1 := 4, s2 := 0x4, c2 := 16, lo := 5, w := 1, acc := .ro }
/-- SFEn_LSTATj SATL [4:4] RO (R284). -/
def SFEn_LSTATj.SATL : Fld := { base := 0x30080, s1 := 0x1000, c1 := 4, s2 := 0x4, c2 := 16, lo := 4, w := 1, acc := .ro }
/-- SFEn_LSTATj LATE [3:3] RO (R284). -/
def SFEn_LSTATj.LATE : Fld := { base := 0x30080, s1 := 0x1000, c1 := 4, s2 := 0x4, c2 := 16, lo := 3, w := 1, acc := .ro }
/-- SFEn_INJ EN [31:31] RW (R285). -/
def SFEn_INJ.EN : Fld := { base := 0x30020, s1 := 0x1000, c1 := 4, lo := 31, w := 1, acc := .rw }
/-- SFEn_INJ SIG [29:28] RW (R285). -/
def SFEn_INJ.SIG : Fld := { base := 0x30020, s1 := 0x1000, c1 := 4, lo := 28, w := 2, acc := .rw }
/-- SFEn_INJ LOOP [27:24] RW (R285). -/
def SFEn_INJ.LOOP : Fld := { base := 0x30020, s1 := 0x1000, c1 := 4, lo := 24, w := 4, acc := .rw }
/-- SFEn_INJ NODE [23:21] RW (R285). -/
def SFEn_INJ.NODE : Fld := { base := 0x30020, s1 := 0x1000, c1 := 4, lo := 21, w := 3, acc := .rw, ok := fun v => v ≤ 4 }
/-- SFEn_INJ IDX [20:16] RW (R285). -/
def SFEn_INJ.IDX : Fld := { base := 0x30020, s1 := 0x1000, c1 := 4, lo := 16, w := 5, acc := .rw }
/-- SFEn_INJ START [15:0] RW (R285). -/
def SFEn_INJ.START : Fld := { base := 0x30020, s1 := 0x1000, c1 := 4, lo := 0, w := 16, acc := .rw }
/-- SFEn_IAMP AMP [31:0] RW (R285). -/
def SFEn_IAMP.AMP : Fld := { base := 0x30024, s1 := 0x1000, c1 := 4, lo := 0, w := 32, acc := .rw }
/-- SFEn_ILEN HOLD [31:24] RW (R285). -/
def SFEn_ILEN.HOLD : Fld := { base := 0x30028, s1 := 0x1000, c1 := 4, lo := 24, w := 8, acc := .rw, rst := (fun _ => 1), ok := fun v => v != 0 }
/-- SFEn_ILEN LEN [23:0] RW (R285). -/
def SFEn_ILEN.LEN : Fld := { base := 0x30028, s1 := 0x1000, c1 := 4, lo := 0, w := 24, acc := .rw, rst := (fun _ => 1), ok := fun v => v != 0 }
/-- SFEn_IF0 F0 [31:0] RW (R285). -/
def SFEn_IF0.F0 : Fld := { base := 0x3002C, s1 := 0x1000, c1 := 4, lo := 0, w := 32, acc := .rw }
/-- SFEn_IF1 F1 [31:0] RW (R285). -/
def SFEn_IF1.F1 : Fld := { base := 0x30030, s1 := 0x1000, c1 := 4, lo := 0, w := 32, acc := .rw }
/-- SFEn_ISTAT STATE [31:30] RO (R285). -/
def SFEn_ISTAT.STATE : Fld := { base := 0x30034, s1 := 0x1000, c1 := 4, lo := 30, w := 2, acc := .ro }
/-- SFEn_ISTAT K [23:0] RO (R285). -/
def SFEn_ISTAT.K : Fld := { base := 0x30034, s1 := 0x1000, c1 := 4, lo := 0, w := 24, acc := .ro }
/-- SFEn_TRC EN [31:31] RW (R286). -/
def SFEn_TRC.EN : Fld := { base := 0x30040, s1 := 0x1000, c1 := 4, lo := 31, w := 1, acc := .rw }
/-- SFEn_TRC MODE [30:29] RW (R286). -/
def SFEn_TRC.MODE : Fld := { base := 0x30040, s1 := 0x1000, c1 := 4, lo := 29, w := 2, acc := .rw, ok := fun v => v != 3 }
/-- SFEn_TRC LOOP [27:24] RW (R286). -/
def SFEn_TRC.LOOP : Fld := { base := 0x30040, s1 := 0x1000, c1 := 4, lo := 24, w := 4, acc := .rw }
/-- SFEn_TRC VEC [22:16] RW (R286). -/
def SFEn_TRC.VEC : Fld := { base := 0x30040, s1 := 0x1000, c1 := 4, lo := 16, w := 7, acc := .rw }
/-- SFEn_TRC DEC [15:8] RW (R286). -/
def SFEn_TRC.DEC : Fld := { base := 0x30040, s1 := 0x1000, c1 := 4, lo := 8, w := 8, acc := .rw }
/-- SFEn_TPOST TPOST [23:0] RW (R286). -/
def SFEn_TPOST.TPOST : Fld := { base := 0x30044, s1 := 0x1000, c1 := 4, lo := 0, w := 24, acc := .rw }
/-- SFEn_TWP FULL [31:31] RO (R286). -/
def SFEn_TWP.FULL : Fld := { base := 0x30048, s1 := 0x1000, c1 := 4, lo := 31, w := 1, acc := .ro }
/-- SFEn_TWP DONE [30:30] RO (R286). -/
def SFEn_TWP.DONE : Fld := { base := 0x30048, s1 := 0x1000, c1 := 4, lo := 30, w := 1, acc := .ro }
/-- SFEn_TWP WRAP [29:29] RO (R286). -/
def SFEn_TWP.WRAP : Fld := { base := 0x30048, s1 := 0x1000, c1 := 4, lo := 29, w := 1, acc := .ro }
/-- SFEn_TWP WP [13:0] RO (R286). -/
def SFEn_TWP.WP : Fld := { base := 0x30048, s1 := 0x1000, c1 := 4, lo := 0, w := 14, acc := .ro }
/-- ACQ_CTRL NARM [29:16] RO (R455). -/
def ACQ_CTRL.NARM : Fld := { base := 0x44000, lo := 16, w := 14, acc := .ro }
/-- ACQ_CTRL XARM [10:10] RWL (R455). -/
def ACQ_CTRL.XARM : Fld := { base := 0x44000, lo := 10, w := 1, acc := .rwl, lock := .acqCtrl }
/-- ACQ_CTRL XLAG [9:8] RWL (R455). -/
def ACQ_CTRL.XLAG : Fld := { base := 0x44000, lo := 8, w := 2, acc := .rwl, rst := (fun _ => 2), lock := .acqCtrl, ok := fun v => v != 0 }
/-- ACQ_CTRL GRP [7:4] RWL (R455). -/
def ACQ_CTRL.GRP : Fld := { base := 0x44000, lo := 4, w := 4, acc := .rwl, rst := (fun _ => 1), lock := .acqCtrl }
/-- ACQ_CTRL MSTR [1:0] RWL (R455). -/
def ACQ_CTRL.MSTR : Fld := { base := 0x44000, lo := 0, w := 2, acc := .rwl, lock := .acqCtrl }
/-- ACQ_ARM GO [31:31] WO (R455). -/
def ACQ_ARM.GO : Fld := { base := 0x44004, lo := 31, w := 1, acc := .wo }
/-- ACQ_ARM CELLARM [30:30] RW (R455). -/
def ACQ_ARM.CELLARM : Fld := { base := 0x44004, lo := 30, w := 1, acc := .rw }
/-- ACQ_ARM FIRE [29:29] WO (R455). -/
def ACQ_ARM.FIRE : Fld := { base := 0x44004, lo := 29, w := 1, acc := .wo }
/-- ACQ_ARM ATICK [15:0] RW (R455). -/
def ACQ_ARM.ATICK : Fld := { base := 0x44004, lo := 0, w := 16, acc := .rw }
/-- ACQn_CFG EN [31:31] RW (R456). -/
def ACQn_CFG.EN : Fld := { base := 0x40000, s1 := 0x1000, c1 := 4, lo := 31, w := 1, acc := .rw }
/-- ACQn_CFG MEAS [30:30] RWL (R456). -/
def ACQn_CFG.MEAS : Fld := { base := 0x40000, s1 := 0x1000, c1 := 4, lo := 30, w := 1, acc := .rwl, lock := .acqUnit }
/-- ACQn_CFG MACT [29:28] RWL (R456). -/
def ACQn_CFG.MACT : Fld := { base := 0x40000, s1 := 0x1000, c1 := 4, lo := 28, w := 2, acc := .rwl, lock := .acqUnit }
/-- ACQn_CFG DESKEW [27:27] RWL (R456). -/
def ACQn_CFG.DESKEW : Fld := { base := 0x40000, s1 := 0x1000, c1 := 4, lo := 27, w := 1, acc := .rwl, lock := .acqUnit }
/-- ACQn_CFG MPOL [26:26] RWL (R456). -/
def ACQn_CFG.MPOL : Fld := { base := 0x40000, s1 := 0x1000, c1 := 4, lo := 26, w := 1, acc := .rwl, lock := .acqUnit }
/-- ACQn_CFG FSRC [21:18] RWL (R456). -/
def ACQn_CFG.FSRC : Fld := { base := 0x40000, s1 := 0x1000, c1 := 4, lo := 18, w := 4, acc := .rwl, lock := .acqUnit }
/-- ACQn_CFG DEC [15:8] RWL (R456). -/
def ACQn_CFG.DEC : Fld := { base := 0x40000, s1 := 0x1000, c1 := 4, lo := 8, w := 8, acc := .rwl, lock := .acqUnit }
/-- ACQn_CFG FEVT [6:0] RWL (R456). -/
def ACQn_CFG.FEVT : Fld := { base := 0x40000, s1 := 0x1000, c1 := 4, lo := 0, w := 7, acc := .rwl, lock := .acqUnit }
/-- ACQn_SMSK SMSK [31:0] RWL (R456). -/
def ACQn_SMSK.SMSK : Fld := { base := 0x40004, s1 := 0x1000, c1 := 4, lo := 0, w := 32, acc := .rwl, lock := .acqUnit }
/-- ACQn_BASE BASE [31:0] RWL (R456). -/
def ACQn_BASE.BASE : Fld := { base := 0x40008, s1 := 0x1000, c1 := 4, lo := 0, w := 32, acc := .rwl, lock := .acqUnit }
/-- ACQn_ROWS ROWS [27:0] RWL (R456). -/
def ACQn_ROWS.ROWS : Fld := { base := 0x4000C, s1 := 0x1000, c1 := 4, lo := 0, w := 28, acc := .rwl, rst := (fun _ => 0x10), lock := .acqUnit, ok := fun v => 16 ≤ v }
/-- ACQn_PTRIG POST [27:0] RWL (R456). -/
def ACQn_PTRIG.POST : Fld := { base := 0x40010, s1 := 0x1000, c1 := 4, lo := 0, w := 28, acc := .rwl, rst := (fun _ => 1), lock := .acqUnit }
/-- ACQn_MBASE MBASE [31:0] RWL (R456). -/
def ACQn_MBASE.MBASE : Fld := { base := 0x40014, s1 := 0x1000, c1 := 4, lo := 0, w := 32, acc := .rwl, lock := .acqUnit }
/-- ACQn_XBASE XBASE [31:0] RWL (R456). -/
def ACQn_XBASE.XBASE : Fld := { base := 0x40018, s1 := 0x1000, c1 := 4, lo := 0, w := 32, acc := .rwl, lock := .acqUnit }
/-- ACQn_REF SOFS [15:0] RWL (R456). -/
def ACQn_REF.SOFS : Fld := { base := 0x4001C, s1 := 0x1000, c1 := 4, lo := 0, w := 16, acc := .rwl, lock := .acqUnit }
/-- ACQn_GDk EN [31:31] RWL (R457). -/
def ACQn_GDk.EN : Fld := { base := 0x40100, s1 := 0x1000, c1 := 4, s2 := 0x4, c2 := 16, lo := 31, w := 1, acc := .rwl, lock := .acqUnit }
/-- ACQn_GDk KIND [30:30] RWL (R457). -/
def ACQn_GDk.KIND : Fld := { base := 0x40100, s1 := 0x1000, c1 := 4, s2 := 0x4, c2 := 16, lo := 30, w := 1, acc := .rwl, lock := .acqUnit }
/-- ACQn_GDk SGN [29:29] RWL (R457). -/
def ACQn_GDk.SGN : Fld := { base := 0x40100, s1 := 0x1000, c1 := 4, s2 := 0x4, c2 := 16, lo := 29, w := 1, acc := .rwl, lock := .acqUnit }
/-- ACQn_GDk CLASS [28:27] RWL (R457). -/
def ACQn_GDk.CLASS : Fld := { base := 0x40100, s1 := 0x1000, c1 := 4, s2 := 0x4, c2 := 16, lo := 27, w := 2, acc := .rwl, lock := .acqUnit }
/-- ACQn_GDk SEL [25:0] RWL (R457). -/
def ACQn_GDk.SEL : Fld := { base := 0x40100, s1 := 0x1000, c1 := 4, s2 := 0x4, c2 := 16, lo := 0, w := 26, acc := .rwl, lock := .acqUnit }
/-- ACQn_GXk SKEW [31:16] RWL (R457). -/
def ACQn_GXk.SKEW : Fld := { base := 0x40180, s1 := 0x1000, c1 := 4, s2 := 0x4, c2 := 16, lo := 16, w := 16, acc := .rwl, lock := .acqUnit }
/-- ACQn_GXk LSB [15:8] RWL (R457). -/
def ACQn_GXk.LSB : Fld := { base := 0x40180, s1 := 0x1000, c1 := 4, s2 := 0x4, c2 := 16, lo := 8, w := 8, acc := .rwl, lock := .acqUnit }
/-- ACQn_GXk W [7:4] RWL (R457). -/
def ACQn_GXk.W : Fld := { base := 0x40180, s1 := 0x1000, c1 := 4, s2 := 0x4, c2 := 16, lo := 4, w := 4, acc := .rwl, lock := .acqUnit }
/-- ACQn_TRG KIND [31:29] RWL (R458). -/
def ACQn_TRG.KIND : Fld := { base := 0x40020, s1 := 0x1000, c1 := 4, lo := 29, w := 3, acc := .rwl, lock := .acqUnit, ok := fun v => v ≤ 4 }
/-- ACQn_TRG POL [28:28] RWL (R458). -/
def ACQn_TRG.POL : Fld := { base := 0x40020, s1 := 0x1000, c1 := 4, lo := 28, w := 1, acc := .rwl, lock := .acqUnit }
/-- ACQn_TRG OUT [27:27] RWL (R458). -/
def ACQn_TRG.OUT : Fld := { base := 0x40020, s1 := 0x1000, c1 := 4, lo := 27, w := 1, acc := .rwl, lock := .acqUnit }
/-- ACQn_TRG TCH [25:13] RWL (R458). -/
def ACQn_TRG.TCH : Fld := { base := 0x40020, s1 := 0x1000, c1 := 4, lo := 13, w := 13, acc := .rwl, lock := .acqUnit }
/-- ACQn_TLV HI [31:16] RWL (R458). -/
def ACQn_TLV.HI : Fld := { base := 0x40024, s1 := 0x1000, c1 := 4, lo := 16, w := 16, acc := .rwl, lock := .acqUnit }
/-- ACQn_TLV LO [15:0] RWL (R458). -/
def ACQn_TLV.LO : Fld := { base := 0x40024, s1 := 0x1000, c1 := 4, lo := 0, w := 16, acc := .rwl, lock := .acqUnit }
/-- ACQn_TWID WHI [31:16] RWL (R458). -/
def ACQn_TWID.WHI : Fld := { base := 0x40028, s1 := 0x1000, c1 := 4, lo := 16, w := 16, acc := .rwl, lock := .acqUnit }
/-- ACQn_TWID WLO [15:0] RWL (R458). -/
def ACQn_TWID.WLO : Fld := { base := 0x40028, s1 := 0x1000, c1 := 4, lo := 0, w := 16, acc := .rwl, lock := .acqUnit }
/-- ACQn_MLV MHI [31:16] RWL (R458). -/
def ACQn_MLV.MHI : Fld := { base := 0x4002C, s1 := 0x1000, c1 := 4, lo := 16, w := 16, acc := .rwl, lock := .acqUnit }
/-- ACQn_MLV MLO [15:0] RWL (R458). -/
def ACQn_MLV.MLO : Fld := { base := 0x4002C, s1 := 0x1000, c1 := 4, lo := 0, w := 16, acc := .rwl, lock := .acqUnit }
/-- ACQn_STAT STATE [31:29] RO (R459). -/
def ACQn_STAT.STATE : Fld := { base := 0x40040, s1 := 0x1000, c1 := 4, lo := 29, w := 3, acc := .ro }
/-- ACQn_STAT CAUSE [28:25] RO (R459). -/
def ACQn_STAT.CAUSE : Fld := { base := 0x40040, s1 := 0x1000, c1 := 4, lo := 25, w := 4, acc := .ro, rst := (fun _ => 0xF) }
/-- ACQn_STAT SHORT [24:24] W1C (R459). -/
def ACQn_STAT.SHORT : Fld := { base := 0x40040, s1 := 0x1000, c1 := 4, lo := 24, w := 1, acc := .w1c }
/-- ACQn_STAT STOP [23:23] W1C (R459). -/
def ACQn_STAT.STOP : Fld := { base := 0x40040, s1 := 0x1000, c1 := 4, lo := 23, w := 1, acc := .w1c }
/-- ACQn_STAT REFIRE [22:22] W1C (R459). -/
def ACQn_STAT.REFIRE : Fld := { base := 0x40040, s1 := 0x1000, c1 := 4, lo := 22, w := 1, acc := .w1c }
/-- ACQn_STAT CFGF [21:21] W1C (R459). -/
def ACQn_STAT.CFGF : Fld := { base := 0x40040, s1 := 0x1000, c1 := 4, lo := 21, w := 1, acc := .w1c }
/-- ACQn_STAT XLATE [20:20] W1C (R459). -/
def ACQn_STAT.XLATE : Fld := { base := 0x40040, s1 := 0x1000, c1 := 4, lo := 20, w := 1, acc := .w1c }
/-- ACQn_STAT C [13:0] RO (R459). -/
def ACQn_STAT.C : Fld := { base := 0x40040, s1 := 0x1000, c1 := 4, lo := 0, w := 14, acc := .ro }
/-- ACQn_FTIK F [31:0] RO (R459). -/
def ACQn_FTIK.F : Fld := { base := 0x40044, s1 := 0x1000, c1 := 4, lo := 0, w := 32, acc := .ro }
/-- ACQn_FROW FROW [27:0] RO (R459). -/
def ACQn_FROW.FROW : Fld := { base := 0x40048, s1 := 0x1000, c1 := 4, lo := 0, w := 28, acc := .ro }
/-- ACQn_PRE PRE [27:0] RO (R459). -/
def ACQn_PRE.PRE : Fld := { base := 0x4004C, s1 := 0x1000, c1 := 4, lo := 0, w := 28, acc := .ro }
/-- ACQn_NPOST NPOST [27:0] RO (R459). -/
def ACQn_NPOST.NPOST : Fld := { base := 0x40050, s1 := 0x1000, c1 := 4, lo := 0, w := 28, acc := .ro }
/-- ACQn_FPOS FSTR [20:16] RO (R459). -/
def ACQn_FPOS.FSTR : Fld := { base := 0x40054, s1 := 0x1000, c1 := 4, lo := 16, w := 5, acc := .ro }
/-- ACQn_FPOS FPOS [8:0] RO (R459). -/
def ACQn_FPOS.FPOS : Fld := { base := 0x40054, s1 := 0x1000, c1 := 4, lo := 0, w := 9, acc := .ro }
/-- ACQn_GAPC SAT [31:31] W1C (R459). -/
def ACQn_GAPC.SAT : Fld := { base := 0x40058, s1 := 0x1000, c1 := 4, lo := 31, w := 1, acc := .w1c }
/-- ACQn_GAPC GAPS [30:0] W1C (R459). -/
def ACQn_GAPC.GAPS : Fld := { base := 0x40058, s1 := 0x1000, c1 := 4, lo := 0, w := 31, acc := .sat }
/-- ACQn_MCNT SAT [31:31] W1C (R459). -/
def ACQn_MCNT.SAT : Fld := { base := 0x4005C, s1 := 0x1000, c1 := 4, lo := 31, w := 1, acc := .w1c }
/-- ACQn_MCNT MCNT [30:16] W1C (R459). -/
def ACQn_MCNT.MCNT : Fld := { base := 0x4005C, s1 := 0x1000, c1 := 4, lo := 16, w := 15, acc := .sat }
/-- ACQn_MCNT MCH [12:0] RO (R459). -/
def ACQn_MCNT.MCH : Fld := { base := 0x4005C, s1 := 0x1000, c1 := 4, lo := 0, w := 13, acc := .ro }
/-- FLT_CFG LOGMIN [9:7] RWL (R429). -/
def FLT_CFG.LOGMIN : Fld := { base := 0x50000, lo := 7, w := 3, acc := .rwl, rst := (fun _ => 1), lock := .parked, ok := fun v => v ≤ 5 }
/-- FLT_CFG FFMIN [6:4] RWL (R429). -/
def FLT_CFG.FFMIN : Fld := { base := 0x50000, lo := 4, w := 3, acc := .rwl, rst := (fun _ => 2), lock := .parked, ok := fun v => v ≤ 5 }
/-- FLT_CFG MERGE [0:0] RWL (R429). -/
def FLT_CFG.MERGE : Fld := { base := 0x50000, lo := 0, w := 1, acc := .rwl, lock := .parked }
/-- FLT_STAT LFULL [8:8] RO (R430). -/
def FLT_STAT.LFULL : Fld := { base := 0x50004, lo := 8, w := 1, acc := .ro }
/-- FLT_STAT HOLDQ [7:7] W1C (R430). -/
def FLT_STAT.HOLDQ : Fld := { base := 0x50004, lo := 7, w := 1, acc := .w1c }
/-- FLT_STAT TRIPR [6:6] W1C (R430). -/
def FLT_STAT.TRIPR : Fld := { base := 0x50004, lo := 6, w := 1, acc := .w1c }
/-- FLT_STAT STOPR [5:5] W1C (R430). -/
def FLT_STAT.STOPR : Fld := { base := 0x50004, lo := 5, w := 1, acc := .w1c }
/-- FLT_STAT CBLK [4:4] W1C (R430). -/
def FLT_STAT.CBLK : Fld := { base := 0x50004, lo := 4, w := 1, acc := .w1c }
/-- FLT_STAT DEG [3:3] RO (R430). -/
def FLT_STAT.DEG : Fld := { base := 0x50004, lo := 3, w := 1, acc := .ro }
/-- FLT_STAT MAXP [2:0] RO (R430). -/
def FLT_STAT.MAXP : Fld := { base := 0x50004, lo := 0, w := 3, acc := .ro }
/-- FLT_PENDm PEND [31:0] W1C (R430). -/
def FLT_PENDm.PEND : Fld := { base := 0x50020, s1 := 0x4, c1 := 4, lo := 0, w := 32, acc := .w1c }
/-- FLT_SEVn ESC [11:11] RW (R431). -/
def FLT_SEVn.ESC : Fld := { base := 0x50200, s1 := 0x4, c1 := 128, lo := 11, w := 1, acc := .rw, rst := (fun i => if i = 41 then 0 else 1) }
/-- FLT_SEVn ESCMAX [10:8] RW (R431). -/
def FLT_SEVn.ESCMAX : Fld := { base := 0x50200, s1 := 0x4, c1 := 128, lo := 8, w := 3, acc := .rw, rst := (fun _ => 4), ok := fun v => v ≤ 5 }
/-- FLT_SEVn LSEV [6:4] RW (R431). -/
def FLT_SEVn.LSEV : Fld := { base := 0x50200, s1 := 0x4, c1 := 128, lo := 4, w := 3, acc := .rw, rst := (fun i => if i = 41 then 4 else sevDefault i), ok := fun v => v ≤ 5 }
/-- FLT_SEVn SEV [2:0] RW (R431). -/
def FLT_SEVn.SEV : Fld := { base := 0x50200, s1 := 0x4, c1 := 128, lo := 0, w := 3, acc := .rw, rst := sevDefault, ok := fun v => v ≤ 5 }
/-- FLT_WINn WLEN [31:16] RW (R431). -/
def FLT_WINn.WLEN : Fld := { base := 0x50400, s1 := 0x4, c1 := 128, lo := 16, w := 16, acc := .rw, rst := (fun _ => 0x3E8), ok := fun v => 1 ≤ v && v ≤ 60000 }
/-- FLT_WINn THR [15:8] RW (R431). -/
def FLT_WINn.THR : Fld := { base := 0x50400, s1 := 0x4, c1 := 128, lo := 8, w := 8, acc := .rw, rst := (fun _ => 3), ok := fun v => v != 0 }
/-- FLT_WINn EN [0:0] RW (R431). -/
def FLT_WINn.EN : Fld := { base := 0x50400, s1 := 0x4, c1 := 128, lo := 0, w := 1, acc := .rw, rst := (fun i => if i = 41 then 1 else 0) }
/-- FLT_SSTn PEND [31:31] W1C (R432). -/
def FLT_SSTn.PEND : Fld := { base := 0x50600, s1 := 0x4, c1 := 128, lo := 31, w := 1, acc := .w1c }
/-- FLT_SSTn CSEV [30:28] RO (R432). -/
def FLT_SSTn.CSEV : Fld := { base := 0x50600, s1 := 0x4, c1 := 128, lo := 28, w := 3, acc := .ro }
/-- FLT_SSTn LAST [27:27] RO (R432). -/
def FLT_SSTn.LAST : Fld := { base := 0x50600, s1 := 0x4, c1 := 128, lo := 27, w := 1, acc := .ro }
/-- FLT_SSTn SAT [26:26] W1C (R432). -/
def FLT_SSTn.SAT : Fld := { base := 0x50600, s1 := 0x4, c1 := 128, lo := 26, w := 1, acc := .w1c }
/-- FLT_SSTn WCNT [23:16] RO (R432). -/
def FLT_SSTn.WCNT : Fld := { base := 0x50600, s1 := 0x4, c1 := 128, lo := 16, w := 8, acc := .ro }
/-- FLT_SSTn OCC [15:0] W1C (R432). -/
def FLT_SSTn.OCC : Fld := { base := 0x50600, s1 := 0x4, c1 := 128, lo := 0, w := 16, acc := .sat }
/-- FLT_FF0 VALID [31:31] W1C (R433). -/
def FLT_FF0.VALID : Fld := { base := 0x50040, lo := 31, w := 1, acc := .w1c }
/-- FLT_FF0 OVF [30:30] RO (R433). -/
def FLT_FF0.OVF : Fld := { base := 0x50040, lo := 30, w := 1, acc := .ro }
/-- FLT_FF0 TIE [29:29] RO (R433). -/
def FLT_FF0.TIE : Fld := { base := 0x50040, lo := 29, w := 1, acc := .ro }
/-- FLT_FF0 SRC [28:22] RO (R433). -/
def FLT_FF0.SRC : Fld := { base := 0x50040, lo := 22, w := 7, acc := .ro }
/-- FLT_FF0 KIND [21:17] RO (R433). -/
def FLT_FF0.KIND : Fld := { base := 0x50040, lo := 17, w := 5, acc := .ro }
/-- FLT_FF0 SEV [16:14] RO (R433). -/
def FLT_FF0.SEV : Fld := { base := 0x50040, lo := 14, w := 3, acc := .ro }
/-- FLT_FF1 ADDR [31:0] RO (R433). -/
def FLT_FF1.ADDR : Fld := { base := 0x50044, lo := 0, w := 32, acc := .ro }
/-- FLT_FF2 TICK [31:0] RO (R433). -/
def FLT_FF2.TICK : Fld := { base := 0x50048, lo := 0, w := 32, acc := .ro }
/-- FLT_FF3 NS [31:0] RO (R433). -/
def FLT_FF3.NS : Fld := { base := 0x5004C, lo := 0, w := 32, acc := .ro }
/-- FLT_LOGP SAT [31:31] W1C (R434). -/
def FLT_LOGP.SAT : Fld := { base := 0x50008, lo := 31, w := 1, acc := .w1c }
/-- FLT_LOGP LOST [30:16] W1C (R434). -/
def FLT_LOGP.LOST : Fld := { base := 0x50008, lo := 16, w := 15, acc := .sat }
/-- FLT_LOGP RP [15:8] RW (R434). -/
def FLT_LOGP.RP : Fld := { base := 0x50008, lo := 8, w := 8, acc := .rw }
/-- FLT_LOGP WP [7:0] RO (R434). -/
def FLT_LOGP.WP : Fld := { base := 0x50008, lo := 0, w := 8, acc := .ro }
/-- FLT_LOGWk W [31:0] RO (R434). -/
def FLT_LOGWk.W : Fld := { base := 0x51000, s1 := 0x4, c1 := 1024, lo := 0, w := 32, acc := .ro }
/-- FLT_INJA ADDR [31:0] RW (R434). -/
def FLT_INJA.ADDR : Fld := { base := 0x5000C, lo := 0, w := 32, acc := .rw }
/-- FLT_INJ SRC [31:25] RW (R434). -/
def FLT_INJ.SRC : Fld := { base := 0x50010, lo := 25, w := 7, acc := .rw }
/-- FLT_INJ KIND [24:20] RW (R434). -/
def FLT_INJ.KIND : Fld := { base := 0x50010, lo := 20, w := 5, acc := .rw }
/-- FLT_INJ GO [19:19] WO (R434). -/
def FLT_INJ.GO : Fld := { base := 0x50010, lo := 19, w := 1, acc := .wo }
/-- IMG_CFG EN [31:31] RWL (R513). -/
def IMG_CFG.EN : Fld := { base := 0x60000, lo := 31, w := 1, acc := .rwl, lock := .parked }
/-- IMG_CFG PEN [30:30] RW (R513). -/
def IMG_CFG.PEN : Fld := { base := 0x60000, lo := 30, w := 1, acc := .rw }
/-- IMG_CFG PVEC [29:23] RW (R513). -/
def IMG_CFG.PVEC : Fld := { base := 0x60000, lo := 23, w := 7, acc := .rw }
/-- IMG_CFG CPER [22:15] RWL (R513). -/
def IMG_CFG.CPER : Fld := { base := 0x60000, lo := 15, w := 8, acc := .rwl, rst := (fun _ => 0x10), lock := .parked, ok := fun v => v != 0 }
/-- IMG_CFG NBLK [12:0] RWL (R513). -/
def IMG_CFG.NBLK : Fld := { base := 0x60000, lo := 0, w := 13, acc := .rwl, lock := .parked, ok := fun v => 1 ≤ v && v ≤ 4096 }
/-- IMG_STAT SAT [31:31] W1C (R513). -/
def IMG_STAT.SAT : Fld := { base := 0x60004, lo := 31, w := 1, acc := .w1c }
/-- IMG_STAT LATE [30:16] W1C (R513). -/
def IMG_STAT.LATE : Fld := { base := 0x60004, lo := 16, w := 15, acc := .sat }
/-- IMG_STAT CBUF [1:1] RO (R513). -/
def IMG_STAT.CBUF : Fld := { base := 0x60004, lo := 1, w := 1, acc := .ro }
/-- IMG_STAT CUR [0:0] RO (R513). -/
def IMG_STAT.CUR : Fld := { base := 0x60004, lo := 0, w := 1, acc := .ro }
/-- IMG_GENL GEN [31:0] RO (R513). -/
def IMG_GENL.GEN : Fld := { base := 0x60008, lo := 0, w := 32, acc := .ro }
/-- IMG_GENH GEN [31:0] RO (R513). -/
def IMG_GENH.GEN : Fld := { base := 0x6000C, lo := 0, w := 32, acc := .ro }
/-- IMG_TLY TALLY [31:16] RW (R513). -/
def IMG_TLY.TALLY : Fld := { base := 0x60010, lo := 16, w := 16, acc := .rw }
/-- IMG_TLY TT [15:0] RW (R513). -/
def IMG_TLY.TT : Fld := { base := 0x60010, lo := 0, w := 16, acc := .rw }
/-- IMG_TSTAT STATE [31:30] RO (R513). -/
def IMG_TSTAT.STATE : Fld := { base := 0x60014, lo := 30, w := 2, acc := .ro }
/-- IMG_TSTAT INC [29:29] RO (R513). -/
def IMG_TSTAT.INC : Fld := { base := 0x60014, lo := 29, w := 1, acc := .ro }
/-- IMG_TSTAT LAST [15:0] RO (R513). -/
def IMG_TSTAT.LAST : Fld := { base := 0x60014, lo := 0, w := 16, acc := .ro }
/-- IMG_MBHk D [31:0] RW (R513). -/
def IMG_MBHk.D : Fld := { base := 0x60040, s1 := 0x4, c1 := 16, lo := 0, w := 32, acc := .rw }
/-- IMG_MBC MT [31:16] RW (R513). -/
def IMG_MBC.MT : Fld := { base := 0x60018, lo := 16, w := 16, acc := .rw }
/-- IMG_MBC SEND [15:15] WO (R513). -/
def IMG_MBC.SEND : Fld := { base := 0x60018, lo := 15, w := 1, acc := .wo }
/-- IMG_MBC EEN [13:13] RW (R513). -/
def IMG_MBC.EEN : Fld := { base := 0x60018, lo := 13, w := 1, acc := .rw }
/-- IMG_MBC ETASK [12:8] RW (R513). -/
def IMG_MBC.ETASK : Fld := { base := 0x60018, lo := 8, w := 5, acc := .rw }
/-- IMG_MBC QN [3:0] RO (R513). -/
def IMG_MBC.QN : Fld := { base := 0x60018, lo := 0, w := 4, acc := .ro }
/-- IMG_MBRk D [31:0] RO (R513). -/
def IMG_MBRk.D : Fld := { base := 0x60080, s1 := 0x4, c1 := 16, lo := 0, w := 32, acc := .ro }
/-- IMG_MBS SEQ [31:16] RO (R513). -/
def IMG_MBS.SEQ : Fld := { base := 0x6001C, lo := 16, w := 16, acc := .ro }
/-- IMG_MBS DTICK [15:0] RO (R513). -/
def IMG_MBS.DTICK : Fld := { base := 0x6001C, lo := 0, w := 16, acc := .ro }

/-- Every field of block SYS. -/
def fldsSYS : List Fld :=
  [SYS_PWR.REQ, SYS_PWR.STATE, SYS_STAT.HELD, SYS_STAT.REASON, SYS_STAT.STR, SYS_STAT.PHASE, SYS_STAT.ROLEB, SYS_STAT.BOOTSRC, SYS_BOOT.CMD, SYS_BOOT.SLOT, SYS_RST.CODE, SYS_RST.CAUSE, SYS_RST.SDE, SYS_RST.SDW, SYS_RST.CHIP, SYS_XAL.ADDR, SYS_XAH.INC, SYS_XAH.ADDRH, SYS_XD.D]

/-- Every field of block TIM. -/
def fldsTIM : List Fld :=
  [TIM_NS.NS, TIM_NSF.NSF, TIM_TICKL.TL, TIM_TICKH.TH, TIM_BNDRY.B, TIM_INCF.INCF, TIM_INCI.INCI, TIM_ALIGN.OFS, TIM_TICKLEN.LEN, TIM_SPRD.K, TIM_SPRD.EN, TIM_STAT.SPRFUSE, TIM_STAT.REFLOSS, TIM_STAT.REGDIFF, TIM_STAT.ALIGNED, TIM_STAT.STBY, TIM_BSECH.SECH, TIM_BSECL.SECL, TIM_BNS.NS, TIM_CBASE.CB]

/-- Every field of block SEC. -/
def fldsSEC : List Fld :=
  [SEC_STAT.STATE, SEC_STAT.BENCH, SEC_STAT.UNSG, SEC_STAT.ISLOT, SEC_STAT.KFLT, SEC_STAT.LOCK, SEC_STAT.AFAIL, SEC_STAT.SAT, SEC_STAT.SVN, SEC_KEYS.DREV, SEC_KEYS.DPROG, SEC_KEYS.IREV, SEC_KEYS.IPROG, SEC_CTRL.CODE, SEC_CTRL.CMD, SEC_CTRL.SLOT, SEC_KDATAk.H, SEC_SERH.SER, SEC_SERL.SER]

/-- Every field of block DBG. -/
def fldsDBG : List Fld :=
  [DBG_REQ.CMD, DBG_REQ.LEVEL, DBG_REQ.SVC, DBG_REQ.DSLOT, DBG_STAT.LEVEL, DBG_STAT.SVC, DBG_STAT.PATH, DBG_STAT.RES, DBG_STAT.HALTED, DBG_CHALk.N, DBG_PUBk.Q, DBG_SIGk.S, DBG_CORE.CMD, DBG_CORE.CMASK, DBG_TRC.EN, DBG_TRC.WRAP, DBG_TRC.WP, DBG_TRC.TMASK, DBG_TDATAk.D]

/-- Every field of block CORE. -/
def fldsCORE : List Fld :=
  [Cn_CTRL.RST, Cn_CTRL.EN, Cn_STAT.TASK0, Cn_STAT.TASK1, Cn_STAT.CTX, Cn_STAT.OFF0, Cn_STAT.OFF1, Cn_STAT.WAIT0, Cn_STAT.WAIT1, Cn_STAT.SUSP, Cn_STALL.FULL, Cn_STALL.TASK, Cn_STALL.TICK, Cn_XCNT.SAT, Cn_XCNT.EXC]

/-- Every field of block AL. -/
def fldsAL : List Fld :=
  [ALk_CFG.EN, ALk_CFG.TOPO, ALk_CFG.ZSEL, ALk_CFG.DTC, ALk_CFG.LPC, ALk_CFG.TSF, ALk_CFG.LOSTN, ALk_CFG.SWMAX, ALk_KEY.WV, ALk_KEY.H, ALk_LIM.IDZ, ALk_LIM.NMIN, ALk_PLC.TSW, ALk_PLC.WMIN, ALk_DT.DT1, ALk_DT.DT0, ALk_MINP.MINP, ALk_STAT.RSAT, ALk_STAT.USAT, ALk_STAT.LATE, ALk_STAT.XCNT, ALk_STAT.XTRP, ALk_STAT.NE, ALk_STAT.NX, ALk_CNT.SAT, ALk_CNT.DEFER, ALk_CNT.DROP, ALk_RESID.E]

/-- Every field of block CVU. -/
def fldsCVU : List Fld :=
  [CVU_CTRL.EN, CVU_KEY.WT, CVU_KEY.WW, CVU_KEY.TREF, CVU_HYS.HYS, CVU_BINE0.E, CVU_BINE1.E, CVU_WGTm.WODD, CVU_WGTm.WEVEN, CVU_ISRCk.EN, CVU_ISRCk.ADDR, CVU_ISRCk.CH, CVU_ISCLk.GAIN, CVU_ISCLk.OFS, CVU_STAT.SAT, CVU_STAT.SKIP, CVU_STAT.LATE, CVU_STAT.PASS, CVU_CSn_0.A1, CVU_CSn_1.B1, CVU_CSn_2.A2, CVU_CSn_3.B2, CVU_CSn_4.V0, CVU_CSn_4.RON, CVU_CSn_5.KSW, CVU_CSn_6.KT, CVU_CSn_6.LT, CVU_CSn_7.IWL, CVU_CSn_7.IWH, CVU_CSn_8.TCAL, CVU_CSn_RSV.RSV]

/-- Every field of block CL. -/
def fldsCL : List Fld :=
  [CL_CTRL.PAUTO, CL_CTRL.LAUTO, CL_CTRL.BRING, CL_CTRL.EN, CL_STAT.DEG, CL_STAT.UP, CL_STAT.ACT, CL_LMAP.MAP, CL_POL.INVTX, CL_POL.INVRX, CL_CAS.CTICK, CL_CAS.REQ, CL_CAS.RSEV, CL_CAS.RELEN, CL_CASST.CSEQ, CL_CASST.TOKEN, CL_CASST.LEASE, CL_CASST.PSTATE, CL_CASST.CAUSE, CL_CASST.SAT, CL_CASST.CCNT, CL_RDY.ABLE, CL_RDY.READY, CL_RDY.COND, CL_ENDR.MASK, CL_DCNT.SAT, CL_DCNT.MIS, CL_SHDW.SAT, CL_SHDW.PATH, CL_SHDW.UNEND, CL_MERR.SAT, CL_MERR.ERR, CL_BIST.EN, CL_BIST.FAIL, CL_BIST.PER, CL_BIST.POS, CLn_STAT.SAT, CLn_STAT.ALOSS, CLn_STAT.BLINDF, CLn_STAT.LOSTA] ++
  [CLn_STAT.RXINV, CLn_STAT.PKSAT, CLn_STAT.FROZEN, CLn_STAT.ALOCK, CLn_STAT.LOS, CLn_STAT.LSTATE, CLn_PEAK.SAVED, CLn_PEAK.MPK, CLn_PEAK.MAN, CLn_PEAK.PK, CLn_PCTL.ELIVE, CLn_PCTL.EBURST, CLn_PCTL.EGO, CLn_PCTL.EMODE, CLn_PCTL.CSYNC, CLn_PCTL.CPAT, CLn_PCTL.GPAT, CLn_EINT.EINT, CLn_PERR.SAT, CLn_PERR.ERR]

/-- Every field of block LDG. -/
def fldsLDG : List Fld :=
  [LDG_CTRL.EN, LDG_CTRL.RESYNC, LDG_CTRL.LAGMAX, LDG_CTRL.BUDGET, LDG_STAT.ROLE, LDG_STAT.SYNC, LDG_STAT.RSY, LDG_STAT.LAG, LDG_STAT.EPOCH, LDG_BYTES.CARRY, LDG_BYTES.SENT, LDG_CNT.SAT, LDG_CNT.MISS, LDG_CNT.OVF, LDG_HLTH0.PNUM, LDG_HLTH0.RDY, LDG_HLTH0.BFAIL, LDG_HLTH0.SAT, LDG_HLTH1.NRDY, LDG_HLTH1.UNT, LDG_HLTH2.PATH, LDG_HLTH2.UNEND, LDG_HLTH3.AMAX, LDG_HLTH3.LAGM, LDG_HLTH3.MISS]

/-- Every field of block CRC. -/
def fldsCRC : List Fld :=
  [CRCn_CTRL.EN, CRCn_CTRL.GO, CRCn_CTRL.SEED, CRCn_CTRL.FOLDA, CRCn_CTRL.CMP, CRCn_CTRL.REP, CRCn_CTRL.SPACE, CRCn_CTRL.RPER, CRCn_START.START, CRCn_LEN.LEN, CRCn_SEQ.SEQ, CRCn_RUN.RUN, CRCn_RES.RES, CRCn_EXP.EXP, CRCn_STAT.STATE, CRCn_STAT.MIS, CRCn_STAT.UNC, CRCn_STAT.OWN, CRCn_STAT.PRE, CRCn_STAT.SAT, CRCn_STAT.PASS]

/-- Every field of block MEM. -/
def fldsMEM : List Fld :=
  [MEM_CFG.DEN, MEM_CFG.AUTOMARK, MEM_CFG.INIT, MEM_STAT.UNCF, MEM_STAT.CORF, MEM_STAT.MARK, MEM_STAT.DSAT, MEM_STAT.READY, MEM_STAT.INITB, MEM_SCRUB.PER, MEM_SCRUB.SPER, MEM_SCRUB.DEVTH, MEM_DCNTm.DODD, MEM_DCNTm.DEVEN, MEM_ELOG0.CADDR, MEM_ELOG1.UADDR, MEM_ELOG2.SAT, MEM_ELOG2.SCOR, MEM_ELOG2.LDEV, MEM_HWIN.BASE]

/-- Every field of block EVT. -/
def fldsEVT : List Fld :=
  [EVT_RTn.MEN, EVT_RTn.VEC, EVT_RTn.EEN, EVT_RTn.ETASK, EVT_RTn.MINSEV, EVT_PENDm.PEND, EVT_MSKm.MSK]

/-- Every field of block PCI. -/
def fldsPCI : List Fld :=
  [PCI_STAT.DLUP, PCI_STAT.SPEED, PCI_STAT.WIDTH, PCI_ECNT.SAT, PCI_ECNT.ERR, PCI_MSIX_ALO.A, PCI_MSIX_AHI.A, PCI_MSIX_DATA.D, PCI_MSIX_VC.MASK, PCI_PBAm.PEND]

/-- Every field of block ETH. -/
def fldsETH : List Fld :=
  [ETHn_CFG.EN, ETHn_CFG.MCAST, ETHn_CFG.LMAX, ETHn_CFG.LINK, ETHn_MACH.MAC, ETHn_MACL.MAC, ETHn_LAT.TXL, ETHn_LAT.RXL, ETHn_TXB.BASE, ETHn_RXB.BASE, ETHn_RSZ.TXN, ETHn_RSZ.RXN, ETHn_HEAD.TXH, ETHn_HEAD.RXH, ETHn_CNT.SAT, ETHn_CNT.LATE, ETHn_CNT.DROP, ETH_PTP.EN, ETH_PTP.SERVO, ETH_PTP.MCAP, ETH_PTP.PORT, ETH_PTP.DOM, ETH_PTP.SLEW, ETH_PTP.LSYNC, ETH_PTPST.PSTATE, ETH_PTPST.FREE, ETH_PTPST.STALE, ETH_PTPST.BIG, ETH_PTPOFS.OFS, ETH_GMIDH.GMID, ETH_GMIDL.GMID]

/-- Every field of block SVL. -/
def fldsSVL : List Fld :=
  [SVL_CTRL.OUT, SVL_CTRL.SAFE, SVL_CTRL.STOPREF, SVL_CTRL.TCLR, SVL_CTRL.RESUME, SVL_CTRL.EN, SVL_REQ.OP, SVL_REQ.BUSY, SVL_REQ.RSTAT, SVL_REQ.NUM, SVL_WD.D, SVL_RD.D, SVL_FIN.IN, SVL_FST.ST, SVL_STAT.SAT, SVL_STAT.ERR, SVL_STAT.UP]

/-- Every field of block SP. -/
def fldsSP : List Fld :=
  [SPn_CTRL.TEST, SPn_CTRL.PAUTO, SPn_CTRL.NRZ, SPn_CTRL.INVTX, SPn_CTRL.INVRX, SPn_CTRL.BRING, SPn_CTRL.TXEN, SPn_CTRL.EN, SPn_STAT.SAT, SPn_STAT.ALOSS, SPn_STAT.BLINDF, SPn_STAT.LOSTA, SPn_STAT.RXINV, SPn_STAT.PKSAT, SPn_STAT.FROZEN, SPn_STAT.ALOCK, SPn_STAT.LOS, SPn_STAT.LSTATE, SPn_PEAK.SAVED, SPn_PEAK.MPK, SPn_PEAK.MAN, SPn_PEAK.PK, SPn_PWR.TSAT, SPn_PWR.TRIES, SPn_PWR.OFFT, SPn_PWR.MAXT, SPn_PWR.GIVEUP, SPn_PWR.CUT, SPn_PWR.PSTATE, SPn_PWR.PWROK, SPn_PWR.PWREN, SPn_PWR.EN, SPn_XLAT.TXL, SPn_XLAT.RXL, SPn_PCTL.ELIVE, SPn_PCTL.EBURST, SPn_PCTL.EGO, SPn_PCTL.EMODE, SPn_PCTL.CSYNC, SPn_PCTL.CPAT] ++
  [SPn_PCTL.GPAT, SP_LEAD.HOLDN, SP_LEAD.LAYOUT, SP_LEAD.CARRY, SP_LEAD.TA, SP_RAP.RAP, SPn_GEOM.NMOD, SPn_GEOM.NLIVE, SPn_PDLY.P, SPn_FOLD.FOLDED, SPn_FOLD.RELAY, SPn_FOLD.FPOS, SPn_FOLD.SAT, SPn_FOLD.FCNT, SPn_SERR.SAT, SPn_SERR.MISS, SPn_SERR.BAD, SPn_EINT.EINT, SPn_PERR.SAT, SPn_PERR.ERR]

/-- Every field of block DSP. -/
def fldsDSP : List Fld :=
  [DSP_CTRL.MTICK, DSP_CTRL.MREQ, DSP_STAT.MODE, DSP_STAT.PEND, DSP_STAT.T0RUN, DSP_STAT.T0CONS, DSP_STAT.CTXOFF, DSP_T0CFG.CMASK, DSP_T0CFG.CNT, DSP_T0CFG.CEN, DSP_T0STAT.SAT, DSP_T0STAT.OVR, DSP_T0STAT.KILL, DSP_T0STAT.QCNT, DSP_PCFGk.PERIOD, DSP_PCFGk.PRIO, DSP_PCFGk.EN, DSP_PCFGk.HOLDRUN, DSP_PCFGk.PREEMPT, DSP_PCFGk.FL, DSP_PCFGk.FLOW, DSP_ECFGk.CMASK, DSP_ECFGk.PRIO, DSP_ECFGk.EN, DSP_ECFGk.HOLDRUN, DSP_ECFGk.PREEMPT, DSP_ECFGk.FL, DSP_ECFGk.FLOW, DSP_PMSKk.PHASE, DSP_PMSKk.CMASK, DSP_PSTATk.SAT, DSP_PSTATk.SKIP, DSP_PSTATk.QCNT, DSP_ESTATk.SAT, DSP_ESTATk.LOST, DSP_ESTATk.QCNT, DSP_CNTj.EN, DSP_CNTj.MIS, DSP_CNTj.TGT, DSP_CNTj.INIT] ++
  [DSP_CNTj.VAL, DSP_OLC.STATE, DSP_OLC.CMD, DSP_OLC.CTICK, DSP_OLCN.DONE, DSP_OLCN.NCHK, DSP_FRCS.VID, DSP_FRCS.OFS, DSP_FRCS.SIZE, DSP_FRCV.VLO, DSP_FRCH.VHI, DSP_FRCC.CMD, DSP_FRCC.ENTRY, DSP_FRCC.FTICK, DSP_FSTAT.LATE, DSP_FUSE0.USE, DSP_FUSE1.USE, DSP_FORPH0.ORPH, DSP_FORPH1.ORPH]

/-- Every field of block SFE. -/
def fldsSFE : List Fld :=
  [SFEn_CTRL.EN, SFEn_STAT.SAT, SFEn_STAT.SKCNT, SFEn_STAT.CUR, SFEn_STAT.RUN, SFEn_STAT.LATEF, SFEn_STAT.CFGF, SFEn_DL.DL, SFEn_BANK.SW, SFEn_BANK.ACT, SFEn_BANK.PEND, SFEn_BANK.BUSY, SFEn_BANK.STICK, SFEn_OSEL.SEL, SFEn_LSTATj.SAT, SFEn_LSTATj.SCNT, SFEn_LSTATj.SEEN, SFEn_LSTATj.SKIP, SFEn_LSTATj.STALE, SFEn_LSTATj.CLMP, SFEn_LSTATj.SATL, SFEn_LSTATj.LATE, SFEn_INJ.EN, SFEn_INJ.SIG, SFEn_INJ.LOOP, SFEn_INJ.NODE, SFEn_INJ.IDX, SFEn_INJ.START, SFEn_IAMP.AMP, SFEn_ILEN.HOLD, SFEn_ILEN.LEN, SFEn_IF0.F0, SFEn_IF1.F1, SFEn_ISTAT.STATE, SFEn_ISTAT.K, SFEn_TRC.EN, SFEn_TRC.MODE, SFEn_TRC.LOOP, SFEn_TRC.VEC, SFEn_TRC.DEC] ++
  [SFEn_TPOST.TPOST, SFEn_TWP.FULL, SFEn_TWP.DONE, SFEn_TWP.WRAP, SFEn_TWP.WP]

/-- Every field of block ACQ. -/
def fldsACQ : List Fld :=
  [ACQ_CTRL.NARM, ACQ_CTRL.XARM, ACQ_CTRL.XLAG, ACQ_CTRL.GRP, ACQ_CTRL.MSTR, ACQ_ARM.GO, ACQ_ARM.CELLARM, ACQ_ARM.FIRE, ACQ_ARM.ATICK, ACQn_CFG.EN, ACQn_CFG.MEAS, ACQn_CFG.MACT, ACQn_CFG.DESKEW, ACQn_CFG.MPOL, ACQn_CFG.FSRC, ACQn_CFG.DEC, ACQn_CFG.FEVT, ACQn_SMSK.SMSK, ACQn_BASE.BASE, ACQn_ROWS.ROWS, ACQn_PTRIG.POST, ACQn_MBASE.MBASE, ACQn_XBASE.XBASE, ACQn_REF.SOFS, ACQn_GDk.EN, ACQn_GDk.KIND, ACQn_GDk.SGN, ACQn_GDk.CLASS, ACQn_GDk.SEL, ACQn_GXk.SKEW, ACQn_GXk.LSB, ACQn_GXk.W, ACQn_TRG.KIND, ACQn_TRG.POL, ACQn_TRG.OUT, ACQn_TRG.TCH, ACQn_TLV.HI, ACQn_TLV.LO, ACQn_TWID.WHI, ACQn_TWID.WLO] ++
  [ACQn_MLV.MHI, ACQn_MLV.MLO, ACQn_STAT.STATE, ACQn_STAT.CAUSE, ACQn_STAT.SHORT, ACQn_STAT.STOP, ACQn_STAT.REFIRE, ACQn_STAT.CFGF, ACQn_STAT.XLATE, ACQn_STAT.C, ACQn_FTIK.F, ACQn_FROW.FROW, ACQn_PRE.PRE, ACQn_NPOST.NPOST, ACQn_FPOS.FSTR, ACQn_FPOS.FPOS, ACQn_GAPC.SAT, ACQn_GAPC.GAPS, ACQn_MCNT.SAT, ACQn_MCNT.MCNT, ACQn_MCNT.MCH]

/-- Every field of block FLT. -/
def fldsFLT : List Fld :=
  [FLT_CFG.LOGMIN, FLT_CFG.FFMIN, FLT_CFG.MERGE, FLT_STAT.LFULL, FLT_STAT.HOLDQ, FLT_STAT.TRIPR, FLT_STAT.STOPR, FLT_STAT.CBLK, FLT_STAT.DEG, FLT_STAT.MAXP, FLT_PENDm.PEND, FLT_SEVn.ESC, FLT_SEVn.ESCMAX, FLT_SEVn.LSEV, FLT_SEVn.SEV, FLT_WINn.WLEN, FLT_WINn.THR, FLT_WINn.EN, FLT_SSTn.PEND, FLT_SSTn.CSEV, FLT_SSTn.LAST, FLT_SSTn.SAT, FLT_SSTn.WCNT, FLT_SSTn.OCC, FLT_FF0.VALID, FLT_FF0.OVF, FLT_FF0.TIE, FLT_FF0.SRC, FLT_FF0.KIND, FLT_FF0.SEV, FLT_FF1.ADDR, FLT_FF2.TICK, FLT_FF3.NS, FLT_LOGP.SAT, FLT_LOGP.LOST, FLT_LOGP.RP, FLT_LOGP.WP, FLT_LOGWk.W, FLT_INJA.ADDR, FLT_INJ.SRC] ++
  [FLT_INJ.KIND, FLT_INJ.GO]

/-- Every field of block IMG. -/
def fldsIMG : List Fld :=
  [IMG_CFG.EN, IMG_CFG.PEN, IMG_CFG.PVEC, IMG_CFG.CPER, IMG_CFG.NBLK, IMG_STAT.SAT, IMG_STAT.LATE, IMG_STAT.CBUF, IMG_STAT.CUR, IMG_GENL.GEN, IMG_GENH.GEN, IMG_TLY.TALLY, IMG_TLY.TT, IMG_TSTAT.STATE, IMG_TSTAT.INC, IMG_TSTAT.LAST, IMG_MBHk.D, IMG_MBC.MT, IMG_MBC.SEND, IMG_MBC.EEN, IMG_MBC.ETASK, IMG_MBC.QN, IMG_MBRk.D, IMG_MBS.SEQ, IMG_MBS.DTICK]

/-- Every field of the part, block by block in rising base address. -/
def flds : List Fld := fldsSYS ++ fldsTIM ++ fldsSEC ++ fldsDBG ++ fldsCORE ++ fldsAL ++ fldsCVU ++ fldsCL ++ fldsLDG ++ fldsCRC ++ fldsMEM ++ fldsEVT ++ fldsPCI ++ fldsETH ++ fldsSVL ++ fldsSP ++ fldsDSP ++ fldsSFE ++ fldsACQ ++ fldsFLT ++ fldsIMG

end Sys2Proof.Machine.Kv
end

