-- ==== Sys2Proof/Machine/Ops.lean ====
section
/-! DEFINITION. The named operations over the registers and memories of a KV-9400. -/

namespace Sys2Proof.Machine

/-! ### Numbers -/

/-- A number of `w` bits read as two's complement. -/
def sx (w v : Nat) : Int := if v % 2 ^ w < 2 ^ (w - 1) then (v % 2 ^ w : Nat) else (v % 2 ^ w : Nat) - (2 ^ w : Nat)

/-- The `w`-bit pattern of an integer. -/
def toBits (w : Nat) (v : Int) : Nat := (v % (2 ^ w : Nat)).toNat

/-- Saturate an integer into `w` bits signed. -/
def satS (w : Nat) (v : Int) : Int := max (-(2 ^ (w - 1) : Nat)) (min v ((2 ^ (w - 1) : Nat) - 1))

/-- Saturate an integer into `w` bits unsigned. -/
def satU (w : Nat) (v : Int) : Nat := (max 0 (min v ((2 ^ w : Nat) - 1))).toNat

/-- Bits `lo` upwards, `w` of them, of a number. -/
def bits (v lo w : Nat) : Nat := v / 2 ^ lo % 2 ^ w

/-- One bit of a number. -/
def bit (v i : Nat) : Bool := v.testBit i

/-- Write `w` bits at `lo` of a number. -/
def putBits (v lo w x : Nat) : Nat := v - bits v lo w * 2 ^ lo + x % 2 ^ w * 2 ^ lo

/-- `true` as 1. -/
def b2n (b : Bool) : Nat := if b then 1 else 0

/-- Symbols of a codeword in error, by their mask (R467). -/
def symbols (m : Nat) : Nat := (List.range 20).countP (fun i => m.testBit i)

/-- Integer division rounded to nearest, halves away from zero; 0 where the divisor is 0. -/
def divNear (a : Int) (b : Nat) : Int :=
  if 0 ≤ a then (2 * a + b) / (2 * b) else -((2 * (-a) + b) / (2 * b))

/-- `a` is later than `b` in 16-bit serial comparison (R119). -/
def later16 (a b : Nat) : Bool := let d := (a + 65536 - b % 65536) % 65536; decide (1 ≤ d ∧ d ≤ 32767)

/-- The first tick from `now` on whose low 16 bits are `lo`. -/
def tickFrom (now lo : Nat) : Nat := (now + (lo + 65536 - now % 65536) % 65536) % 2 ^ 48

/-- Bit `i` of a number set to `b`. -/
def setBit (v i : Nat) (b : Bool) : Nat := putBits v i 1 (b2n b)

/-- Ticks from tick `a` on to tick `b`, the tick counter wrapping at 2^48 (R33). -/
def ticksTo (a b : Nat) : Nat := (b % 2 ^ 48 + 2 ^ 48 - a % 2 ^ 48) % 2 ^ 48

/-- Tick `b` lies ahead of tick `a` (R33). -/
def tickAhead (a b : Nat) : Bool := decide (0 < ticksTo a b ∧ ticksTo a b < 2 ^ 47)

/-- The tick `k` ticks after tick `n`, and the one before it (R33). -/
def tickPlus (n k : Nat) : Nat := (n + k) % 2 ^ 48
def tickPrev (n : Nat) : Nat := (n + (2 ^ 48 - 1)) % 2 ^ 48

/-- The later of two ticks (R33). -/
def tickMax (a b : Nat) : Nat := if tickAhead a b then b else a

/-- With the newest tick kept plus 1, 0 standing for none: tick `n` is that tick or lies before it, and the mark once tick `n` has come
(R33). -/
def tickDone (m n : Nat) : Bool := m != 0 && decide (ticksTo n (m - 1) < 2 ^ 47)
def tickMark (m n : Nat) : Nat := if tickDone m n then m else n % 2 ^ 48 + 1

/-- The tick so kept is `n`. -/
def tickIs (m n : Nat) : Bool := m == n % 2 ^ 48 + 1

/-- The round trips kept for a hop after a new one, newest first, the discards in a row, and whether it was discarded: the mean is of
the last 8, and a measurement more than 1.0 ns from it is discarded, until 8 in a row restart the mean (R44). -/
def hopMean (l : List Int) (disc : Nat) (rt : Int) : List Int × Nat × Bool :=
  let n : Nat := l.length
  let away := decide (32 * n < (rt * n - l.foldl (· + ·) 0).natAbs)
  if n = 0 then ([rt], 0, false)
  else if away then (if disc + 1 = 8 then ([rt], 0, true) else (l, disc + 1, true))
  else ((rt :: l).take 8, 0, false)

/-- Half the mean round trip, in whole 1/16 ns rounded down (R44). (DESIGN CHOICE: log entry 150.) -/
def hopHalf (l : List Int) : Int := let n : Nat := l.length; if n = 0 then 0 else l.foldl (· + ·) 0 / (2 * n)

/-! ### Register fields -/

/-- Read a register field of instance `i`, `j`. -/
def Kv.rd (s : Kv) (f : Fld) (i : Nat := 0) (j : Nat := 0) : Nat := f.get i j s.regs

/-- Write a register field of instance `i`, `j`. -/
def Kv.wr (s : Kv) (f : Fld) (v : Nat) (i : Nat := 0) (j : Nat := 0) : Kv := { s with regs := f.set i j v s.regs }

/-- A one-bit field is 1. -/
def Kv.on (s : Kv) (f : Fld) (i : Nat := 0) (j : Nat := 0) : Bool := s.rd f i j == 1

/-- Set a one-bit field. -/
def Kv.mark (s : Kv) (f : Fld) (i : Nat := 0) (j : Nat := 0) : Kv := s.wr f 1 i j

/-! ### Time -/

/-- The tick number. -/
def Kv.tick (s : Kv) : Nat := s.tim.tick.toNat

/-- The integer part of the nanosecond counter. -/
def Kv.nowNs (s : Kv) : Nat := s.tim.ns.toNat / 2 ^ 32

/-- The nanoseconds counted since reset, without wrap. -/
def Kv.upNs (s : Kv) : Nat := s.tim.up / 2 ^ 32

/-- The tick length in ns. -/
def Kv.tickNs (s : Kv) : Nat := 10 * s.tim.len

/-- B(n) of a tick that is not in the future, low 32 bits. (DESIGN CHOICE: log entry 113.) -/
def Kv.boundaryBefore (s : Kv) (n : Nat) : Nat := (s.tim.bn.toNat + 2 ^ 32 * ticksTo n s.tick - ticksTo n s.tick * s.tickNs) % 2 ^ 32

/-- The nanosecond counter has reached B(n) + `ns`, in 32-bit serial comparison (R118). -/
def Kv.nsPast (s : Kv) (n ns : Nat) : Bool :=
  decide ((s.nowNs + 2 * 2 ^ 32 - (s.boundaryBefore n + ns) % 2 ^ 32) % 2 ^ 32 < 2 ^ 31)

/-! ### Sending -/

/-- Send something. -/
def Kv.send (s : Kv) (o : Out) : Kv := { s with out := s.out ++ [o] }

/-- A free value: the number of its use, and the state that remembers the use. (DESIGN CHOICE: log entry 24.) -/
def Kv.fresh (s : Kv) : Nat × Kv := (s.free, { s with free := s.free + 1 })

/-! ### Memory, by system address (R460), least significant byte first unless said otherwise -/

/-- Read one byte. (DESIGN CHOICE: log entry 7.) -/
def Kv.rdByte (s : Kv) (a : Nat) : Byte := Tab.get 0 a s.mem

/-- Write one byte. -/
def Kv.wrByte (s : Kv) (a : Nat) (v : Byte) : Kv := { s with mem := Tab.set 0 a v s.mem }

/-- Read `n` bytes from `a`, the byte at `a` least significant. (DEDUCED: log entry 90.) -/
def Kv.rdLe (s : Kv) (a : Nat) : Nat → Nat
  | 0 => 0
  | n + 1 => (s.rdByte a).toNat + 256 * s.rdLe (a + 1) n

/-- Write the low `n` bytes of `v` from `a`, least significant first. -/
def Kv.wrLe (s : Kv) (a v : Nat) : Nat → Kv
  | 0 => s
  | n + 1 => (s.wrByte a (BitVec.ofNat 8 v)).wrLe (a + 1) (v / 256) n

/-- Read `n` bytes from `a`, the byte at `a` most significant. (DEDUCED: log entry 90.) -/
def Kv.rdBe (s : Kv) (a : Nat) : Nat → Nat
  | 0 => 0
  | n + 1 => (s.rdByte a).toNat * 256 ^ n + s.rdBe (a + 1) n

/-- Write the low `n` bytes of `v` from `a`, most significant first. -/
def Kv.wrBe (s : Kv) (a v : Nat) : Nat → Kv
  | 0 => s
  | n + 1 => (s.wrByte a (BitVec.ofNat 8 (v / 256 ^ n))).wrBe (a + 1) v n

/-- Fill `n` bytes from `a` with 0. -/
def Kv.zero (s : Kv) (a : Nat) : Nat → Kv
  | 0 => s
  | n + 1 => (s.wrByte a 0).zero (a + 1) n

/-- Apply `f` for each of a list of numbers in order. -/
def Kv.each (s : Kv) (l : List Nat) (f : Kv → Nat → Kv) : Kv := l.foldl f s

/-- `f` where the condition holds, else nothing. -/
def Kv.when (s : Kv) (c : Bool) (f : Kv → Kv) : Kv := if c then f s else s

end Sys2Proof.Machine
end

