-- ==== Sys2Proof/Machine/Checks.lean ====
section
/-! DEFINITION. Check values: the cyclic codes of the links, the slots, the headers and the check-value engines. -/

namespace Sys2Proof.Machine

/-- One bit into a cyclic check register of width `w`, most significant bit first, without reflection. -/
def crcBit (w poly r : Nat) (b : Bool) : Nat :=
  let shifted := r * 2 % 2 ^ w
  if bit r (w - 1) != b then shifted ^^^ poly else shifted

/-- `f` at `r`, where `r` is computed first. -/
def computed {α : Type} (r : Nat) (f : Nat → α) : α :=
  match r with
  | 0 => f 0
  | k + 1 => f (k + 1)

/-- The low `n` bits of `v`, most significant first, into a register that stands at `r`. -/
def crcBits (w poly : Nat) : Nat → Nat → Nat → Nat
  | 0, _, r => r
  | n + 1, v, r => computed (crcBit w poly r (bit v n)) (fun r => crcBits w poly n v r)

/-- A list of bytes into a register that stands at `r`. -/
def crcBytes (w poly r : Nat) (bs : List Nat) : Nat := bs.foldl (fun r b => crcBits w poly 8 b r) r

/-- CRC-16 of the supervisor link: generator 0x1021, start 0xFFFF (R532). -/
def crc16 (bs : List Nat) : Nat := crcBytes 16 0x1021 0xFFFF bs

/-- The bytes of `v`, `n` of them, most significant first. -/
def beBytes : Nat → Nat → List Nat
  | 0, _ => []
  | n + 1, v => v / 256 ^ n % 256 :: beBytes n v

/-- The number whose bytes, most significant first, are given. -/
def ofBe (bs : List Nat) : Nat := bs.foldl (fun a b => a * 256 + b % 256) 0

/-- A supervisor message from its type and payload: type, 8 payload bytes, CRC-16 most significant byte first (R532). -/
def svlMessage (type : Nat) (payload : List Nat) : List Nat :=
  let body := type :: payload
  body ++ beBytes 2 (crc16 body)

end Sys2Proof.Machine
end

