-- ==== Sys2Proof/Machine/PartCell.lean ====
section
/-! DEFINITION. The state of one KC-60 Cell Controller Module: its register fields, its memories, and the state that no register
field shows. -/

namespace Sys2Proof.Machine

/-- What one port of a module holds beside its hop (R44, R114, R121). -/
structure CellPort where
  hop : Hop := {}
  /-- last valid header received, and whether one came in the running tick -/
  last : Option Header := none
  seen : Bool := false
  /-- candidate position of the running tick -/
  cand : Option Int := none
  /-- the header of the frame in reception was valid; its target tick and origin bear on its slots -/
  inFrame : Option Header := none
  /-- the header of the frame in passage as it was sent on; the frame is being forwarded; it arrived with a failing header; its blocks
  stopped arriving, and its void slots have been sent (R70) -/
  pass : Option Header := none
  passing : Bool := false
  badFrame : Bool := false
  voided : Bool := false
  filled : Bool := false
  /-- HOP as sent on in the header of the frame in passage (R110) -/
  sentHop : Nat := 0
  /-- consecutive ticks without a valid header, consecutive valid headers with LRX = 0, consecutive usable ticks (R121) -/
  noHdr : Nat := 0
  noLrx : Nat := 0
  okRun : Nat := 0
  /-- the module folds at this port -/
  folded : Bool := false
  /-- departure and arrival times of the headers of the running and of the previous tick, 1/16 ns (R44) -/
  sent : Option Nat := none
  recv : Option Nat := none
  sentPrev : Option Nat := none
  recvPrev : Option Nat := none
  /-- the last hop measurements, newest first, and consecutive discards (R44) -/
  meas : List Int := []
  disc : Nat := 0
  /-- a new event or a capture fire waits for the next trailer forwarded on this port (R162, R213) -/
  evAny : Bool := false
  fire : Bool := false
deriving DecidableEq, Repr

/-- A valid copy of a command held for its target tick (R112). -/
structure Copy where
  port : Port
  target : Nat
  cseq : Nat
  slot : CmdSlot
  /-- it arrived after the deadline of its target tick (R118) -/
  late : Bool := false
deriving DecidableEq, Repr

/-- The switching generator behind its registers (R168 to R191). Times count 1.25 ns from an origin of the cell's own. -/
structure Gen where
  /-- the boundary of the running tick -/
  bT : Nat := 0
  /-- the commanded timeline: the state commanded now, and the changes still to come in the running tick -/
  want : Nat := 0
  edges : List (Nat × Nat) := []
  /-- when the state in force was entered, its dwell counted, and the end of a stretch under way (R175) -/
  entered : Option Nat := none
  stretch : Option Nat := none
  /-- last turn-off of G0 to G3, and turn-ons pending (R173) -/
  off : Tab Nat := []
  on : Tab Nat := []
  /-- the bypass fires 2 µs after the boundary (R181) -/
  fireDue : Bool := false
  /-- a freeze was released and lasts to the next boundary (R185) -/
  resume : Bool := false
  /-- the committed local pair, a closed pair waiting, and the boundaries an open pair has seen (R177) -/
  lp0 : Nat := 0
  lp1 : Nat := 0
  lpT1 : Nat := 0
  lp2 : Nat := 0
  lpT2 : Nat := 0
  lpWait : Option (Nat × Nat × Nat × Nat × Nat) := none
  lpAge : Nat := 0
deriving DecidableEq, Repr

/-- What measurement and capture are set to: register fields, usable slices and power state SINGLE. -/
structure MeasConfig where
  regs : Tab Nat := []
  slices : Nat := 3
  single : Bool := false
deriving DecidableEq, Repr

/-- Measurement and capture behind their registers (R193 to R215). Times count 1.25 ns, as in `Gen`. -/
structure CellMeas where
  /-- the codes of the inputs, from an instant on, oldest first; the instant of the last look at them -/
  ain : List (Nat × AinCodes) := []
  lookT : Nat := 0
  /-- the gate outputs: the instant at which each of G0 to G3 came on (plus 1; 0 while off) as far as conversions have been formed, and the
  levels of all four from an instant on, oldest first (R199, R210) -/
  gOn : Tab Nat := []
  gLog : List (Nat × Nat) := []
  /-- the fast-input code at the last sample instant S(n), that instant, its tick, and the freeze instant F(n) (R206) -/
  sample : Int := 0
  sT : Nat := 0
  sTick : Nat := 0
  fT : Nat := 0
  /-- the next point of the fast grid (0: no grid runs), and the next slot of the spare or of the shared grid (R195, R197) -/
  fastT : Nat := 0
  slotT : Nat := 0
  /-- the fast-input conversions since that instant, and of the interval before it: sums and numbers -/
  sum : Int := 0
  cnt : Nat := 0
  mSum : Int := 0
  mCnt : Nat := 0
  /-- sensor channels 1 to 3: the first code of the tick, and sums and numbers as above (R208) -/
  chVal : Tab Int := []
  chSum : Tab Int := []
  chCnt : Tab Nat := []
  chMSum : Tab Int := []
  chMCnt : Tab Nat := []
  /-- the spare's work: ungated entries still to convert, the last conversion of each gated entry (plus 1), the next place in
  the rotation of repeats, and the last slot held a repeat; an injected conversion requested, by instant and input, and its code once it
  has had its slot (R197, R200) -/
  todo : List Nat := []
  gated : Tab Nat := []
  rot : Nat := 0
  wasRep : Bool := false
  inj : Option (Nat × Nat) := none
  injCode : Option (BitVec 16) := none
  /-- entries 0 to 2 converted since the last freeze, a bit each -/
  newConv : Nat := 0
  /-- on-state voltages and temperature as last formed (R207) -/
  vceA : Nat := 0xFFF
  vceB : Nat := 0xFFF
  temp : Nat := 0x3FF
  /-- report bits [179:114] frozen at F(n), and the tick they belong to, plus 1 (R206) -/
  frozen : Nat := 0
  frozenTick : Nat := 0
  /-- the last ticks in which a conversion clipped, newest first, and the last sample tick in which a sensor channel did, plus 1
  (R161, R209) -/
  clipTicks : List Nat := []
  chClip : Nat := 0
  /-- age rank of each slice's calibration (larger is newer), and the calibration clock -/
  age : Tab Nat := []
  clock : Nat := 0
  /-- the spare joins the pair at the next boundary (R203) -/
  handover : Bool := false
  /-- usable slices and power state in force since B(n) (R148, R205) -/
  slices : Nat := 3
  single : Bool := false
  /-- what measurement and capture were set to until an instant, for the changes of it that conversions still to be formed go back before,
  oldest first -/
  configs : List (Nat × MeasConfig) := []
  /-- capture: buffer words, next index, words since the arm, triggers whose word is still to be stored, by source and instant, partial
  averages -/
  words : Tab Nat := []
  wp : Nat := 0
  capN : Nat := 0
  trigs : List (Nat × Nat) := []
  acc : Int := 0
  accN : Nat := 0
  /-- the instant of the last arm; an abort that conversions still to be formed go back before: its instant, the state of CAP until then, and the
  triggers whose word was still to be stored (R211, R215) -/
  armT : Nat := 0
  stop : Option (Nat × Nat × List (Nat × Nat)) := none
  /-- CFIRE was set for this record (R213) -/
  fired : Bool := false
  /-- uses of free values so far -/
  free : Nat := 0
deriving DecidableEq, Repr

/-- The guard domain behind its registers (R150 to R156). -/
structure Guard where
  /-- samples in the filter window, newest first -/
  win : List Nat := []
  /-- consecutive samples above OVTH -/
  ovRun : Nat := 0
  /-- the time at the last sample since the later of guard power-on and the last heartbeat toggle, 1.25 ns; none before the first sample;
  a decision MDEAD taken since the main domain last ran -/
  quiet : Option Nat := none
  mdNew : Bool := false
  /-- BYP fires 2 µs after the inhibit -/
  bypDue : Bool := false
  /-- BYP fired by the guard; DIS driven by the guard -/
  byp : Bool := false
  dis : Bool := false
  /-- the inhibit releases at the next boundary -/
  releaseInh : Bool := false
  /-- attempts to restart the main supply, and whether they ended (R156) -/
  tries : Nat := 0
  gaveUp : Bool := false
deriving DecidableEq, Repr

/-- One KC-60. -/
structure Cell where
  regs : Tab Nat := []
  /-- code SRAM and data SRAM of the cell core by core address -/
  mem : Tab Byte := []
  /-- symbols in error that stand in their words, a bit each, by address div 8 (R467) -/
  unc : Tab Nat := []
  /-- the two 128 KiB image banks, bank 1 from 0x20000 on -/
  banks : Tab Byte := []
  /-- power: 0 unpowered, 1 GUARD-ONLY, 2 SINGLE, 3 FULL (R147) -/
  power : Nat := 0
  /-- the main domain runs; it is held in reset -/
  mainOn : Bool := false
  held : Bool := false
  /-- the cell program runs; tick boundaries until it runs again after a cell core reset; the cell core and uses of free values by it -/
  progOn : Bool := false
  restart : Option Nat := none
  core : Ctx := {}
  /-- instant that a TICKWAIT of mode 1 waits for, in quarters of a ns from the origin of `Gen` (R331) -/
  waitT : Int := 0
  free : Nat := 0
  /-- the pass-through switch is latched open (R143, R144) -/
  ptOpen : Bool := false
  /-- CR_CYC as last written (R330) -/
  cyc : Word := 0
  /-- next word of the trace ring CC_TBUF (R552); one instruction may run although the core is halted (R557) -/
  tbuf : Nat := 0
  stepOk : Bool := false
  /-- key store and debug session (R543 to R555) -/
  sec : SecSt := {}
  /-- a park-first halt is asked for and waits for outputs at 0; GEN applies every tick as PARK until resume (R557) -/
  haltReq : Bool := false
  haltPark : Bool := false
  /-- entry point of the running cell program image -/
  entry : BitVec 16 := 0
  /-- what CC_RST.CAUSE will read after the next main domain start -/
  cause : Nat := 0
  /-- ports W and E -/
  w : CellPort := {}
  e : CellPort := {}
  /-- time base: tick number and B(n) of the last boundary, the correction made to the counter since it in 1/16 ns, the header that last
  gave the time and whether the running tick has had its correction, ticks without a valid header, ticks of the other stream at or below
  150 ppm (R43 to R53) -/
  tick : Nat := 0
  bns : Nat := 0
  ofs : Int := 0
  timed : Bool := false
  tsrc : Option Header := none
  freeRun : Nat := 0
  rateRun : Nat := 0
  /-- position and string number (R115); consecutive ticks in which the candidates differ from it -/
  pos : Option Nat := none
  str : Nat := 0
  posRun : Nat := 0
  /-- the one PLACE report: address dropped, and its tick -/
  place : Option (Nat × Nat) := none
  /-- header mode last announced: 0 PARKED, 1 RUN, 2 TEST (R107) -/
  hmode : Nat := 0
  /-- last valid header taken, for TLEN, HOLDN and the fold frame -/
  hdr : Option Header := none
  copies : List Copy := []
  /-- the command staged at the deadline for the next boundary, the port and kind of its copy (R119, R172) -/
  staged : Option Copy := none
  stagedFor : Nat := 0
  /-- copy obeyed in the running tick: 0 none, 1 duty, 2 endorsed; its port -/
  obey : Nat := 0
  oport : Port := .w
  /-- consecutive holding ticks, and whether the running tick was held, parked or sensor-applied (R120, R183) -/
  hold : Nat := 0
  holding : Bool := false
  parkApplied : Bool := true
  torn : Bool := false
  /-- mismatches of the standby copies (R384) -/
  shdw : Nat := 0
  /-- last acknowledged source (R162) -/
  lastAck : Nat := 0
  /-- write addresses held: TID, address, target tick (R134) -/
  wa : List (Nat × Nat × Nat) := []
  /-- side-channel answers, SIDE_TAG above SIDE, by 2 × tick of the report + 1 where it travels towards B (R134) -/
  replies : Tab Nat := []
  /-- the reports of the last ticks as fixed: bits [191:64] by tick (R116) -/
  reports : Tab Nat := []
  /-- tally: low 11 bits of the requested latch tick and the number; the latch tick; the latched words (R135, R498 to R501) -/
  tallyReq : Option (Nat × Nat) := none
  tallyAt : Option Nat := none
  tally : Tab Nat := []
  gen : Gen := {}
  meas : CellMeas := {}
  grd : Guard := {}
  out : List Out := []
deriving DecidableEq, Repr

end Sys2Proof.Machine
end

