-- ==== Sys2Proof/Machine/Slots.lean ====
section
/-! DEFINITION. Headers, slots and trailers bit by bit, and their checks (R103 to R112). -/

namespace Sys2Proof.Machine

/-! ### Headers -/

/-- Payload of header block `k` (R103), the HCRC field of block 31 left 0. -/
def Header.block (h : Header) : Nat → Nat
  | 0 => 0x78 * 2 ^ 56 + h.str.toNat * 2 ^ 51 + h.origin.toNat * 2 ^ 48 + b2n h.duty * 2 ^ 47 + h.mode.toNat * 2 ^ 45 +
      b2n h.layout * 2 ^ 44 + h.carry.toNat * 2 ^ 42 + b2n h.disc * 2 ^ 41 + h.nmod.toNat * 2 ^ 32 +
      h.cseq.toNat * 2 ^ 16 + h.holdn.toNat * 2 ^ 12
  | 1 => h.tickno.toNat * 2 ^ 16
  | 2 => h.ticktime.toNat * 2 ^ 32 + h.sk.toNat * 2 ^ 28 + h.sph.toNat * 2 ^ 25 + b2n h.spen * 2 ^ 24 + h.tlen.toNat * 2 ^ 11
  | 3 => h.lofs.toNat * 2 ^ 54 + h.pd.toNat * 2 ^ 34 + h.turn.toNat * 2 ^ 12
  | 4 => h.asym.toNat * 2 ^ 48 + h.hop.toNat * 2 ^ 39 + h.lpos.toNat * 2 ^ 30 + h.lhop.toNat * 2 ^ 21 + b2n h.lrx * 2 ^ 20 +
      h.foldp.toNat * 2 ^ 11
  | 5 => b2n h.barm * 2 ^ 63 + b2n h.bfire * 2 ^ 62 + b2n h.treq * 2 ^ 61 + h.tally.toNat * 2 ^ 45 + h.ttick.toNat * 2 ^ 34
  | _ => 0

/-- The correct HCRC of a header under string number `s` (R104). -/
def Header.check (h : Header) (s : Nat) : Nat :=
  let r := (List.range 31).foldl (fun r k => crcBits 32 0x04C11DB7 64 (h.block k) r) (0xFFFFFFFF ^^^ s)
  crcBits 32 0x04C11DB7 32 0 r ^^^ 0xFFFFFFFF

/-- No field holds a reserved value (R105). -/
def Header.fieldsOk (h : Header) : Bool :=
  decide (h.origin.toNat ≤ 3 ∧ h.mode.toNat ≠ 3 ∧ (h.carry.toNat = 1 ∨ h.carry.toNat = 2) ∧
    1 ≤ h.holdn.toNat ∧ h.holdn.toNat ≤ 8 ∧ h.nmod.toNat ≤ 256 ∧ 500 ≤ h.tlen.toNat ∧ h.tlen.toNat ≤ 8000 ∧
    (h.lpos.toNat ≤ 0x100 ∨ 0x1FE ≤ h.lpos.toNat) ∧ (h.foldp.toNat < 0x100 ∨ h.foldp.toNat = 0x1FF) ∧
    (h.spen → 1 ≤ h.sk.toNat ∧ h.sk.toNat ≤ 8 ∧ h.sph.toNat < h.sk.toNat))

/-- The header is valid for a receiver that takes the string number to be `s` (R105). -/
def Header.valid (h : Header) (s : Nat) : Bool := h.fieldsOk && h.hcrc.toNat == h.check s

/-- The header as sent: its HCRC correct, or complemented where the frame is to stay invalid (R104, R106). -/
def Header.seal (h : Header) (s : Nat) (good : Bool) : Header :=
  let c := h.check s
  { h with hcrc := BitVec.ofNat 32 (if good then c else c ^^^ 0xFFFFFFFF) }

/-- What goes out on the line: the six used blocks and HCRC. -/
def Header.wire (h : Header) : List Nat := (List.range 6).map h.block ++ [h.hcrc.toNat]

/-- A fold frame (ORIGIN 2 or 3). -/
def Header.isFold (h : Header) : Bool := decide (2 ≤ h.origin.toNat)

/-- The frame comes from the A end: ORIGIN 0 or 3 (R100). -/
def Header.fromA (h : Header) : Bool := h.origin.toNat == 0 || h.origin.toNat == 3

/-- Target tick of the frame's command slots (R112, R127). -/
def Header.target (h : Header) : Nat := (h.tickno.toNat + h.carry.toNat) % 2 ^ 48

/-- LPOS as a number: 0x1FF is −1; none at 0x1FE (R114). -/
def Header.lposInt (h : Header) : Option Int :=
  if h.lpos.toNat = 0x1FE then none else if h.lpos.toNat = 0x1FF then some (-1) else some h.lpos.toNat

/-! ### Frame layout (R99, R100) -/

/-- First block of the report section and of the command section. -/
def Header.repStart (h : Header) : Nat := if h.layout then 32 + 2 * h.nmod.toNat else 32
def Header.cmdStart (h : Header) : Nat := if h.layout then 32 else 32 + 3 * h.nmod.toNat

/-- Position of report slot `k`, of command slot `k` in a frame of `n` positions (R100). -/
def Header.reportPos (h : Header) (n k : Nat) : Nat := if h.fromA then k else n - 1 - k
def Header.commandPos (h : Header) (n k : Nat) : Nat := if h.fromA then n - 1 - k else k

/-- The slots of a frame in line order, of which `blk` blocks have gone by, each with its number of blocks still to come: `rep` and `cmd` give the slot of a
position, none where another sends it (R99, R100). -/
def Header.sections (h : Header) (blk : Nat) (rep cmd : Nat → Option Nat) : List (Nat × Nat) :=
  let n := h.nmod.toNat
  let ks := List.range n
  let r := (ks.filter (fun k => decide (blk < h.repStart + 3 * k + 3))).filterMap (fun k => (rep (h.reportPos n k)).map (fun v => (min 3 (h.repStart + 3 * k + 3 - blk), v)))
  let c := (ks.filter (fun k => decide (blk < h.cmdStart + 2 * k + 2))).filterMap (fun k => (cmd (h.commandPos n k)).map (fun v => (min 2 (h.cmdStart + 2 * k + 2 - blk), v)))
  if h.layout then c ++ r else r ++ c

/-- Blocks of the whole frame (R99). -/
def Header.frameLen (h : Header) : Nat := 36 + 5 * h.nmod.toNat

/-- A header of which only the first `blk` blocks were received: the others are 0 (R70). -/
def Header.cut (h : Header) (blk : Nat) : Header :=
  let h := if blk ≤ 1 then { h with tickno := 0 } else h
  let h := if blk ≤ 2 then { h with ticktime := 0, sk := 0, sph := 0, spen := false, tlen := 0 } else h
  let h := if blk ≤ 3 then { h with lofs := 0, pd := 0, turn := 0 } else h
  let h := if blk ≤ 4 then { h with asym := 0, hop := 0, lpos := 0, lhop := 0, lrx := false, foldp := 0 } else h
  if blk ≤ 5 then { h with barm := false, bfire := false, treq := false, tally := 0, ttick := 0 } else h

/-- The control block types assigned by R101. -/
def assignedTypes : List (BitVec 8) := [0x1E, 0x4B, 0x4E, 0x78, 0xE1, 0x2D, 0xD2]

/-! ### Slot checks -/

/-- The seed of a slot check: cell address and low 11 bits of the tick (R111). -/
def slotSeed (addr t : Nat) : Nat := addr % 2 ^ 13 * 2 ^ 11 + t % 2 ^ 11

/-- CRC-24 of the `n` bits above the check field of slot `v` (R111). -/
def slotCrc (n v addr t : Nat) : Nat := crcBits 24 0x864CFB n (v / 2 ^ 24) (slotSeed addr t)

/-- The check field of a command slot is correct for the cell and target tick. -/
def cmdCrcOk (c : CmdSlot) (addr t : Nat) : Bool := bits c.toNat 0 24 == slotCrc 104 c.toNat addr t

/-- The check field of a report slot is correct for the cell and tick. -/
def repCrcOk (r : RepSlot) (addr t : Nat) : Bool := bits r.toNat 0 24 == slotCrc 168 r.toNat addr t

/-- A slot of `n` + 24 bits with its correct check in place. -/
def sealSlot (n body addr t : Nat) : Nat := body % 2 ^ n * 2 ^ 24 + slotCrc n (body % 2 ^ n * 2 ^ 24) addr t

/-- A void slot: all fields 0 and the check complemented (R102). -/
def voidSlot (n addr t : Nat) : Nat := slotCrc n 0 addr t ^^^ 0xFFFFFF

/-! ### Command slot fields (R108) -/

def cSeq (c : Nat) : Nat := bits c 120 8
def cMode (c : Nat) : Nat := bits c 116 4
def cSt0 (c : Nat) : Nat := bits c 113 3
def cSt1 (c : Nat) : Nat := bits c 110 3
def cT1 (c : Nat) : Nat := bits c 94 16
def cSt2 (c : Nat) : Nat := bits c 91 3
def cT2 (c : Nat) : Nat := bits c 75 16
def cDuty (c : Nat) : Bool := bit c 74
def cEnd (c : Nat) : Bool := bit c 73
def cCpar (c : Nat) : Bool := bit c 72
def cBcmd (c : Nat) : Nat := bits c 68 4
def cOp (c : Nat) : Nat := bits c 60 4
def cTid (c : Nat) : Nat := bits c 56 4
def cSide (c : Nat) : Nat := bits c 24 32

/-- No field of the slot holds a reserved encoding (R108, R112). -/
def cFieldsOk (c : Nat) : Bool :=
  decide (cMode c ≤ 5 ∧ cSt0 c ≤ 4 ∧ cSt1 c ≤ 4 ∧ cSt2 c ≤ 4 ∧ cBcmd c ≤ 5) && !(cDuty c && cEnd c)

/-- A command slot is a valid copy for a cell under a valid header of ORIGIN 0 or 1 (R112). -/
def copyValid (h : Header) (addr : Nat) (c : CmdSlot) : Bool :=
  let t := h.target
  decide (h.origin.toNat ≤ 1) && cmdCrcOk c addr t && cSeq c.toNat == t % 256 && cDuty c.toNat == h.duty &&
    cCpar c.toNat == bit h.cseq.toNat 0 && cFieldsOk c.toNat

/-- The bits of a command slot that a digest covers and a standby comparison compares: [127:75] and [71:64] (R117). -/
def cDigestBits (c : Nat) : Nat := bits c 75 53 * 256 + bits c 64 8

/-! ### Report slot fields (R109) -/

def rSeq (r : Nat) : Nat := bits r 184 8
def rCstate (r : Nat) : Nat := bits r 180 4
def rVcapS (r : Nat) : Nat := bits r 164 16
def rVcapM (r : Nat) : Nat := bits r 148 16
def rVceA (r : Nat) : Nat := bits r 136 12
def rVceB (r : Nat) : Nat := bits r 124 12
def rTemp (r : Nat) : Nat := bits r 114 10
def rEvt (r : Nat) : Nat := bits r 106 8
def rPend (r : Nat) : Bool := bit r 113
def rSrc (r : Nat) : Nat := bits r 108 5
def rDarkW (r : Nat) : Bool := bit r 107
def rDarkE (r : Nat) : Bool := bit r 106
def rStale (r : Nat) : Bool := bit r 105
def rPlace (r : Nat) : Bool := bit r 99
def rSat (r : Nat) : Bool := bit r 98
def rShdw (r : Nat) : Nat := bits r 90 8
def rObey (r : Nat) : Nat := bits r 88 2
def rOport (r : Nat) : Bool := bit r 87
def rOp (r : Nat) : Nat := bits r 60 4
def rTid (r : Nat) : Nat := bits r 56 4
def rSide (r : Nat) : Nat := bits r 24 32

/-! ### Trailers (R110) -/

/-- Trailer block 0. -/
def Trailer.block0 (t : Trailer) : Nat :=
  b2n t.cfire * 2 ^ 63 + t.fpos.toNat * 2 ^ 54 + b2n t.evtany * 2 ^ 53 + t.nlive.toNat * 2 ^ 44

/-- The correct TCRC of a trailer on string `s` in tick `n` (R110). -/
def Trailer.check (t : Trailer) (s n : Nat) : Nat :=
  let r := crcBits 24 0x864CFB 64 t.block0 (s % 32 * 2 ^ 11 + n % 2 ^ 11)
  let r := crcBits 24 0x864CFB 64 0 (crcBits 24 0x864CFB 64 0 r)
  crcBits 24 0x864CFB 32 0 r

/-- The trailer's check passes. -/
def Trailer.valid (t : Trailer) (s n : Nat) : Bool := t.tcrc.toNat == t.check s n

/-- The trailer as sent: TCRC correct, or complemented (R110). -/
def Trailer.seal (t : Trailer) (s n : Nat) (good : Bool) : Trailer :=
  let c := t.check s n
  { t with tcrc := BitVec.ofNat 24 (if good then c else c ^^^ 0xFFFFFF) }

/-- The four blocks that go out on the line; block 3 is the control block of type 0xE1 with TCRC (R101, R110). -/
def Trailer.wire (t : Trailer) : List Nat := [t.block0, 0, 0, 0xE1 * 2 ^ 56 + t.tcrc.toNat]

/-- `a` is higher than `b` in the serial comparison of castle sequences (R119). -/
def higher16 (a b : Nat) : Bool := later16 a b

end Sys2Proof.Machine
end

