-- ==== Sys2Proof/Machine/CellOps.lean ====
section
/-! DEFINITION. The named operations of a KC-60: registers, events, counters, and its gate outputs. -/

namespace Sys2Proof.Machine

/-- Read a register field. -/
def Cell.rd (s : Cell) (f : Fld) (i : Nat := 0) : Nat := f.get i 0 s.regs

/-- Write a register field. -/
def Cell.wr (s : Cell) (f : Fld) (v : Nat) (i : Nat := 0) : Cell := { s with regs := f.set i 0 v s.regs }

/-- A one-bit field is 1. -/
def Cell.on (s : Cell) (f : Fld) (i : Nat := 0) : Bool := s.rd f i == 1

/-- Set a one-bit field. -/
def Cell.mark (s : Cell) (f : Fld) (i : Nat := 0) : Cell := s.wr f 1 i

/-- `f` where the condition holds, else nothing. -/
def Cell.when (s : Cell) (c : Bool) (f : Cell → Cell) : Cell := if c then f s else s

/-- Send something. -/
def Cell.send (s : Cell) (o : Out) : Cell := { s with out := s.out ++ [o] }

/-- One port. -/
def Cell.port (s : Cell) : Port → CellPort
  | .w => s.w
  | .e => s.e

/-- Change one port. -/
def Cell.onPort (s : Cell) (p : Port) (f : CellPort → CellPort) : Cell :=
  match p with
  | .w => { s with w := f s.w }
  | .e => { s with e := f s.e }

/-- The cell address under the string number and position held (R6, R115). -/
def Cell.addr (s : Cell) : Nat := s.str * 256 + s.pos.getD 0

/-- The module is in sensor role (R160). -/
def Cell.sensor (s : Cell) : Bool := s.on Kc.CC_ROLE.SENSOR

/-- The main domain runs, out of reset. -/
def Cell.runs (s : Cell) : Bool := s.mainOn && !s.held

/-- The register table with only the given fields kept. -/
def Cell.keepRegs (s : Cell) (l : List (Fld × Nat)) : Tab Nat := l.foldl (fun t e => e.1.set e.2 0 (s.rd e.1 e.2) t) []

/-! ### Events (R162, R163) -/

namespace Ev
abbrev RESET : Nat := 0
abbrev LIGHT_W : Nat := 1
abbrev LIGHT_E : Nat := 2
abbrev PSTATE : Nat := 3
abbrev VAUX : Nat := 4
abbrev LINK_W : Nat := 5
abbrev LINK_E : Nat := 6
abbrev PT : Nat := 7
abbrev DESAT : Nat := 8
abbrev OVP : Nat := 9
abbrev TRCLR : Nat := 10
abbrev TORN : Nat := 11
abbrev PULSE : Nat := 12
abbrev BYP : Nat := 13
abbrev DIS : Nat := 14
abbrev GRD_OV : Nat := 15
abbrev GRD_MD : Nat := 16
abbrev GRD_CLR : Nat := 17
abbrev CFG : Nat := 18
abbrev DCONF : Nat := 19
abbrev HOLD : Nat := 20
abbrev PLACE : Nat := 21
abbrev SHDW : Nat := 22
abbrev ADCCAL : Nat := 23
abbrev ADCRNG : Nat := 24
abbrev CAPTRG : Nat := 25
abbrev MEMCOR : Nat := 26
abbrev MEMUNC : Nat := 27
abbrev TEMP : Nat := 28
abbrev RATE : Nat := 29
abbrev SEC : Nat := 30
abbrev CC_EXC : Nat := 31
end Ev

/-- The pending sources, a bit each. -/
def Cell.pend (s : Cell) : Nat := s.rd Kc.CC_EVP.PEND

/-- Raise an event source: its bit is set, and a bit that rises while no other source is pending is a new event, which both
ports announce in their next trailer (R162). (DESIGN CHOICE: log entry 139.) -/
def Cell.event (s : Cell) (src : Nat) : Cell :=
  let fresh := s.pend == 0
  let s := s.wr Kc.CC_EVP.PEND (setBit s.pend src true)
  s.when fresh (fun s => { s with w := { s.w with evAny := true }, e := { s.e with evAny := true } })

/-- Acknowledge a source that is pending (R162). -/
def Cell.ack (s : Cell) (src : Nat) : Cell :=
  s.when (bit s.pend src) (fun s => { (s.wr Kc.CC_EVP.PEND (setBit s.pend src false)) with lastAck := src })

/-- The lowest-numbered pending source, none if none is pending. -/
def Cell.lowest (s : Cell) : Option Nat := (List.range 32).find? (fun i => bit s.pend i)

/-- Count up a saturating counter of the module and set its SAT bit on reaching the largest value (R12). -/
def Cell.count (s : Cell) (f sat : Fld) (i : Nat := 0) : Cell :=
  let v := s.rd f i
  if v = f.max then s
  else if v + 1 = f.max then (s.wr f (v + 1) i).mark sat i
  else s.wr f (v + 1) i

/-- A counter of the module stands saturated: FLAGS.SAT (R109). -/
def Cell.anySat (s : Cell) : Bool :=
  s.on Kc.CTM_STAT.SAT || s.on Kc.GEN_STAT.SAT || s.on Kc.ADC_CAL.SAT || s.on Kc.ADC_STAT.SAT ||
  s.on Kc.OPTn_STAT.SAT 0 || s.on Kc.OPTn_STAT.SAT 1 || s.on Kc.OPTn_PERR.SAT 0 || s.on Kc.OPTn_PERR.SAT 1 || s.shdw == 255

/-- Length of the running tick in 1.25 ns units: 10 ns × TLEN of the last valid header (R171). -/
def Cell.tickUnits (s : Cell) : Nat := 8 * (match s.hdr with | some h => h.tlen.toNat | none => 1000)

/-- The power state is SINGLE in the running tick (R148). -/
def Cell.single (s : Cell) : Bool := s.meas.single

/-- The module takes part in frames: its main domain runs, out of reset, with the pass-through open. -/
def Cell.live (s : Cell) : Bool := s.runs && s.on Kc.OPT_PT.OPEN

end Sys2Proof.Machine
end

