-- ==== Sys2Proof/Machine/HopLink.lean ====
section
/-! DEFINITION. The link state machine of one end of a hop (R66 to R73), once for string ports, castle lanes and the ports
of a KC-60. It works on a register table through the fields of the port it serves. -/

namespace Sys2Proof.Machine

/-- The register fields of one kind of hop end (R92, R93, R98, R164). -/
structure HopFlds where
  lstate : Fld
  los : Fld
  alock : Fld
  frozen : Fld
  pksat : Fld
  rxinv : Fld
  losta : Fld
  blindf : Fld
  saved : Fld
  mpk : Fld
  man : Fld
  pk : Fld
  gpat : Fld
  cpat : Fld
  elive : Fld
  emode : Fld
  eburst : Fld
  csync : Fld
  eint : Fld

/-- String ports. -/
def spFlds : HopFlds :=
  { lstate := Kv.SPn_STAT.LSTATE, los := Kv.SPn_STAT.LOS, alock := Kv.SPn_STAT.ALOCK, frozen := Kv.SPn_STAT.FROZEN
    pksat := Kv.SPn_STAT.PKSAT, rxinv := Kv.SPn_STAT.RXINV, losta := Kv.SPn_STAT.LOSTA, blindf := Kv.SPn_STAT.BLINDF
    saved := Kv.SPn_PEAK.SAVED, mpk := Kv.SPn_PEAK.MPK, man := Kv.SPn_PEAK.MAN, pk := Kv.SPn_PEAK.PK
    gpat := Kv.SPn_PCTL.GPAT, cpat := Kv.SPn_PCTL.CPAT, elive := Kv.SPn_PCTL.ELIVE, emode := Kv.SPn_PCTL.EMODE
    eburst := Kv.SPn_PCTL.EBURST, csync := Kv.SPn_PCTL.CSYNC, eint := Kv.SPn_EINT.EINT }

/-- Castle lanes. -/
def clFlds : HopFlds :=
  { lstate := Kv.CLn_STAT.LSTATE, los := Kv.CLn_STAT.LOS, alock := Kv.CLn_STAT.ALOCK, frozen := Kv.CLn_STAT.FROZEN
    pksat := Kv.CLn_STAT.PKSAT, rxinv := Kv.CLn_STAT.RXINV, losta := Kv.CLn_STAT.LOSTA, blindf := Kv.CLn_STAT.BLINDF
    saved := Kv.CLn_PEAK.SAVED, mpk := Kv.CLn_PEAK.MPK, man := Kv.CLn_PEAK.MAN, pk := Kv.CLn_PEAK.PK
    gpat := Kv.CLn_PCTL.GPAT, cpat := Kv.CLn_PCTL.CPAT, elive := Kv.CLn_PCTL.ELIVE, emode := Kv.CLn_PCTL.EMODE
    eburst := Kv.CLn_PCTL.EBURST, csync := Kv.CLn_PCTL.CSYNC, eint := Kv.CLn_EINT.EINT }

/-- The ports of a KC-60. -/
def optFlds : HopFlds :=
  { lstate := Kc.OPTn_STAT.LSTATE, los := Kc.OPTn_STAT.LOS, alock := Kc.OPTn_STAT.ALOCK, frozen := Kc.OPTn_STAT.FROZEN
    pksat := Kc.OPTn_STAT.PKSAT, rxinv := Kc.OPTn_STAT.RXINV, losta := Kc.OPTn_STAT.LOSTA, blindf := Kc.OPTn_STAT.BLINDF
    saved := Kc.OPTn_PEAK.SAVED, mpk := Kc.OPTn_PEAK.MPK, man := Kc.OPTn_PEAK.MAN, pk := Kc.OPTn_PEAK.PK
    gpat := Kc.OPTn_PCTL.GPAT, cpat := Kc.OPTn_PCTL.CPAT, elive := Kc.OPTn_PCTL.ELIVE, emode := Kc.OPTn_PCTL.EMODE
    eburst := Kc.OPTn_PCTL.EBURST, csync := Kc.OPTn_PCTL.CSYNC, eint := Kc.OPTn_EINT.EINT }

/-- LSTATE values (R92). -/
abbrev lDark : Nat := 0
abbrev lTrain : Nat := 1
abbrev lShift : Nat := 2
abbrev lHunt : Nat := 3
abbrev lUp : Nat := 4
abbrev lTest : Nat := 5

/-- What governs a hop end from outside it: PAUTO, INVRX, INVTX, BRING. -/
structure HopCfg where
  pauto : Bool
  invrx : Nat
  invtx : Bool
  bring : Nat
  /-- the header mode announces RUN (R74) -/
  run : Bool
  /-- the port is held in start-up mode (R91) -/
  nrz : Bool := false
  /-- the transmitter is on (R87, R98) -/
  tx : Bool := true
  /-- what this end sends of itself: 0 string port, 1 and 2 port W and E of a module, 3 castle lane; its logical lane (R66) -/
  kind : Nat
  lane : Nat := 0

/-- A hop end at work: its hidden state, the register table it lives in, and what happened to it. -/
structure HopSt where
  h : Hop
  r : Tab Nat
  /-- block lock was lost -/
  lost : Bool := false
  /-- the port left UP -/
  leftUp : Bool := false
  /-- a blind start failed -/
  blindFail : Bool := false
  /-- the logical lane that a right training block named -/
  learn : Option Nat := none
  /-- what went out on the line: the codes or symbols of a block, or the bits of a pattern -/
  out : List (List Nat) := []
  /-- blocks of one kind that filled a gap: payload and number -/
  fill : List (List Nat) := []
  /-- bit errors that the checker counted -/
  errs : Nat := 0

/-- Read a field of port `i`. -/
def HopSt.rd (s : HopSt) (f : Fld) (i : Nat) : Nat := f.get i 0 s.r

/-- Write a field of port `i`. -/
def HopSt.wr (s : HopSt) (f : Fld) (i v : Nat) : HopSt := { s with r := f.set i 0 v s.r }

/-! ### What goes out on the line -/

/-- Symbols or codes of `n` bits each with the transmit polarity applied (R91): a symbol P becomes 3 − P. -/
def HopCfg.polar (c : HopCfg) (n : Nat) (l : List Nat) : List Nat := if c.invtx then l.map (fun v => 2 ^ n - 1 - v % 2 ^ n) else l

/-- The line bits of a block in the line mode in use, and the coder after it (R61, R62, R65). -/
def Hop.coded (h : Hop) (b : LineBlock) : List Bool × Hop :=
  if h.service then let e := serviceBits h.scr b; (e.1, { h with scr := e.2 })
  else let e := startBits h.txRd b; (e.1, { h with txRd := e.2 })

/-- Line bits as they go out: symbols through Gray map and precoder in service mode, codes of ten bits in start-up mode (R63, R65). -/
def Hop.toLine (h : Hop) (l : List Bool) : List Nat × Hop :=
  if h.service then let p := precode h.pre (grays l); (p, { h with pre := p.getLastD h.pre }) else (tens l, h)

/-- Line bits of a block in the line mode in use (R61). -/
def Hop.blockLen (h : Hop) : Nat := if h.service then 66 else 90

/-- Block time in 0.1 ns (R61). -/
def Hop.blockTime (h : Hop) : Nat := if h.service then 66 else 360

/-- Which bits of a stretch an injection of a once-only mode inverts, by their number from its start: one payload bit, the sync header of
service mode, or a burst (R80, R96). -/
def injected (mode burst k : Nat) (service : Bool) : Bool :=
  let first := if service then 2 else 10
  match mode with
  | 1 => k == first
  | 3 => service && decide (k < 2)
  | 4 => decide (first ≤ k ∧ k < first + (if burst = 0 then 64 else burst))
  | _ => false

/-- Line bits with the injection that is under way: a once-only one is spent, its burst going on into the bits that follow; a repeated one
inverts a bit every EINT blocks (R80). -/
def hopErrors (F : HopFlds) (i : Nat) (l : List Bool) (s : HopSt) : HopSt × List Bool :=
  let n := l.length
  let first := if s.h.service then 2 else 10
  let every := if s.rd F.emode i = 2 then s.h.blockLen * s.rd F.eint i else 0
  let once := if first < n then s.h.inject else 0
  let burst := s.rd F.eburst i
  let left := if once = 4 then first + (if burst = 0 then 64 else burst) - n else 0
  let bits := l.mapIdx (fun k b => b ^^ (decide (k < s.h.burst) || injected once burst k s.h.service ||
    (every != 0 && (s.h.sinceInj + k + 1) % every == 0)))
  ({ s with h := { s.h with
      inject := if first < n then 0 else s.h.inject, burst := max left (s.h.burst - n)
      sinceInj := if every = 0 then 0 else (s.h.sinceInj + n) % every } }, bits)

/-- A block goes out by a transmitter that is on, with the errors injected into a live frame where `live` (R61 to R65, R80). -/
def hopEmit (F : HopFlds) (c : HopCfg) (i : Nat) (live : Bool) (s : HopSt) (b : LineBlock) : HopSt :=
  if c.tx then
    let r := s.h.coded b
    let s := { s with h := r.2 }
    let e := if live && s.rd F.elive i == 1 && s.rd F.lstate i != 5 then hopErrors F i r.1 s else (s, r.1)
    let o := e.1.h.toLine e.2
    { e.1 with h := o.2, out := e.1.out ++ [c.polar (if e.1.h.service then 2 else 10) o.1] }
  else s

/-- Line time of `n` blocks is taken. -/
def Hop.spend (h : Hop) (n : Nat) : Hop := { h with used := h.used + n }

/-- One block that is no part of a frame goes out. -/
def hopOne (F : HopFlds) (c : HopCfg) (i : Nat) (s : HopSt) (b : LineBlock) : HopSt :=
  hopEmit F c i false (if c.tx then { s with h := s.h.spend 1 } else s) b

/-- The blocks of a frame, or of a part of it, go out (R99, R101). -/
def hopFrame (F : HopFlds) (c : HopCfg) (i : Nat) (l : List LineBlock) (s : HopSt) : HopSt := l.foldl (hopEmit F c i true) s

/-- Blocks that the model is not told of go by on the transmitter; what they leave in its coder is open. (DESIGN CHOICE: log entry 148.) -/
def Hop.unknownTx (h : Hop) : Hop :=
  { h with
    scr := Config.lineReg h.lines, pre := Config.lineSym h.lines % 4, txRd := Config.lineSym h.lines / 4 % 2 == 1, lines := h.lines + 1 }

/-- Blocks whose content comes as a message or a part of a frame go by on the receiver; what their line bits leave in the descrambler and as
last symbol is open. (DESIGN CHOICE: log entry 148.) -/
def Hop.unknownRx (h : Hop) : Hop :=
  { h with
    rscr := Config.lineReg h.lines, rpre := Config.lineSym h.lines % 4, rxRd := Config.lineSym h.lines / 4 % 2 == 1, lines := h.lines + 1 }

/-- A training block of this end: kind, lane, the ready bit once the receive path is aligned, and the shift count (R66, R71). -/
def hopTrainBlock (F : HopFlds) (c : HopCfg) (i : Nat) (s : HopSt) : LineBlock :=
  trainingBlock 0xC5 c.kind c.lane (s.rd F.alock i == 1 && s.h.sigOk) s.h.shift

/-- A training block goes out. -/
def hopSend (F : HopFlds) (c : HopCfg) (i : Nat) (s : HopSt) : HopSt := hopOne F c i s (hopTrainBlock F c i s)

/-- The shift count down to 0, a training block each (R71). -/
def hopCountDown (F : HopFlds) (c : HopCfg) (i : Nat) : Nat → HopSt → HopSt
  | 0, s => hopSend F c i { s with h := { s.h with shift := 0 } }
  | n + 1, s => hopCountDown F c i n (hopSend F c i { s with h := { s.h with shift := n + 1 } })

/-- The line goes over to service mode, and idle goes out (R62, R71). -/
def hopToService (F : HopFlds) (c : HopCfg) (i : Nat) (s : HopSt) : HopSt :=
  hopOne F c i { s with h := { s.h with service := true, goodRun := 0, hdrs := [], foreign := 0 } } idleBlock

/-- A gap is filled with blocks of one kind, about `n` of them: how many, and so what they leave in the coder, is open. (DESIGN CHOICE: log entry
181.) -/
def hopRepeat (c : HopCfg) (b : LineBlock) (n : Nat) (s : HopSt) : HopSt :=
  if c.tx && n != 0 then { s with h := s.h.unknownTx, fill := s.fill ++ [[b.payload.toNat, n]] } else s

/-! ### The state machine -/

/-- The receive polarity a start begins with: INVRX without PAUTO (R91). -/
def HopCfg.startInv (c : HopCfg) (saved : Nat) : Nat := if c.pauto then saved else c.invrx

/-- The polarity in use follows INVRX while PAUTO is 0 (R91, R92). -/
def hopPolarity (F : HopFlds) (c : HopCfg) (i : Nat) (s : HopSt) : HopSt := s.wr F.rxinv i (c.startInv (s.rd F.rxinv i))

/-- The peaking is set; PKSAT shows 0 dB and 15 dB (R67). -/
def hopPeak (F : HopFlds) (i pk : Nat) (s : HopSt) : HopSt := (s.wr F.pk i pk).wr F.pksat i (if pk = 0 ∨ pk = 15 then 1 else 0)

/-- Enter HUNT as a blind start from the saved settings, with idle going out; a KC-60 port without any starts at 8 dB (R71, R73). (DESIGN CHOICE: log entry 158.) -/
def hopBlind (F : HopFlds) (c : HopCfg) (i : Nat) (s : HopSt) : HopSt :=
  let pk := if s.rd F.saved i = 1 then s.h.savedPk else 8
  let s := ((s.wr F.lstate i lHunt).wr F.alock i 0).wr F.rxinv i (c.startInv s.h.savedInv)
  let s := hopPeak F i pk s
  hopToService F c i { s with h := { s.h with blind := true, failed := false } }

/-- Enter TRAIN, in start-up mode, with training blocks going out (R71). -/
def hopTrain (F : HopFlds) (c : HopCfg) (i : Nat) (s : HopSt) : HopSt :=
  let s := ((s.wr F.lstate i lTrain).wr F.alock i 0).wr F.rxinv i (c.startInv (s.rd F.rxinv i))
  hopSend F c i { s with h := { s.h with
    readyRun := 0, blind := false, failed := false, service := false, commas := 0, chars := [], sigOk := false, shift := 0 } }

/-- BRING as it acts: in RUN encoding 1 is treated as encoding 2 (R74). -/
def HopCfg.start (c : HopCfg) : Nat := if c.run && c.bring == 1 then 2 else c.bring

/-- A start in this condition is blind (R71, R73, R74): with encoding 1 or 2 where settings are saved and, with 1, no failed blind start asks for
the automatic one; never where the port is held in start-up mode. -/
def hopGoesBlind (F : HopFlds) (c : HopCfg) (i : Nat) (s : HopSt) : Bool :=
  !c.nrz && (c.start == 1 || c.start == 2) && s.rd F.saved i == 1 && !(s.h.auto && c.start == 1)

/-- What the transmitter sends in DARK: training blocks before an automatic start, idle of service mode before a blind one, and in RUN, where no
automatic start runs (R71, R74). (DEDUCED: log entry 180.) -/
def hopDarkService (F : HopFlds) (c : HopCfg) (i : Nat) (s : HopSt) : Bool := hopGoesBlind F c i s || (c.run && !c.nrz)
def hopDark (F : HopFlds) (c : HopCfg) (i : Nat) (s : HopSt) : HopSt :=
  if s.rd F.lstate i = lDark then
    if hopDarkService F c i s then hopToService F c i s else hopSend F c i { s with h := { s.h with service := false, shift := 0 } }
  else s

/-- Signal appears in DARK: a blind start, or the automatic one, which does not run in RUN: such a hop stays down (R71, R73, R74). -/
def hopSignal (F : HopFlds) (c : HopCfg) (i : Nat) (s : HopSt) : HopSt :=
  let s := s.wr F.los i 0
  if s.rd F.lstate i = lDark then
    if hopGoesBlind F c i s then hopBlind F c i s else if c.run then s else hopTrain F c i s
  else s

/-- The blocks that fill the line up to `n` in the tick that ends: idle in UP, HUNT and TEST without a pattern, in DARK and TRAIN what they send
(R62, R71). (DESIGN CHOICE: log entry 181.) -/
def hopFill (F : HopFlds) (c : HopCfg) (i n : Nat) (s : HopSt) : HopSt :=
  let st := s.rd F.lstate i
  let k := n - s.h.used
  let s := { s with h := { s.h with used := s.h.used + k - n } }
  if st = lShift ∨ (st = lTest ∧ s.rd F.gpat i ≠ 0) then s
  else if st = lTrain ∨ (st = lDark ∧ hopDarkService F c i s = false) then hopRepeat c (hopTrainBlock F c i s) k s
  else hopRepeat c idleBlock k s

/-- The lock is lost: LOSTA, and the receiver holds its peaking (R68, R70). -/
def hopUnlock (F : HopFlds) (i : Nat) (s : HopSt) : HopSt :=
  { ((s.wr F.alock i 0).wr F.losta i 1) with
    lost := true, h := { s.h with goodRun := 0, hdrs := [], foreign := 0, commas := 0, chars := [], sigOk := false } }

/-- Signal is lost: back to DARK (R71). A block lock held is lost with it. (DEDUCED: log entry 48.) -/
def hopLoss (F : HopFlds) (c : HopCfg) (i : Nat) (s : HopSt) : HopSt :=
  let st := s.rd F.lstate i
  let locked := (st == lUp || st == lHunt) && s.rd F.alock i == 1
  let s := if locked then hopUnlock F i s else s.wr F.alock i 0
  let s := (s.wr F.los i 1).wr F.lstate i (if st = lTest then lTest else lDark)
  hopDark F c i { s with
    leftUp := s.leftUp || st == lUp
    h := { s.h with afterLoss := true, auto := false, blind := false, failed := false, readyRun := 0, goodRun := 0,
                    commas := 0, chars := [], sigOk := false } }

/-- One character of start-up mode, received at bit position `pos`: three commas at one position align the receiver, and 8 wrong
characters among any 64 end that (R65). -/
def hopChar (F : HopFlds) (i pos : Nat) (s : HopSt) (v : Nat) : HopSt × Option LineChar :=
  let v := if s.rd F.rxinv i = 1 then 1023 - v % 1024 else v % 1024
  let ch := decodeChar s.h.rxRd v
  let comma := ch == some k285
  let n := if comma then (if s.h.commas ≠ 0 ∧ pos = s.h.charPos then min 3 (s.h.commas + 1) else 1) else s.h.commas
  let seen := (ch.isNone :: s.h.chars).take 64
  let bad := decide (8 ≤ (seen.filter id).length)
  let t := { s with h := { s.h with
    rxRd := codeDisparity s.h.rxRd v, commas := if bad then 0 else n, charPos := if comma then pos else s.h.charPos,
    chars := if bad then [] else seen, sigOk := s.h.sigOk && !bad } }
  (if bad then t.wr F.alock i 0 else if comma ∧ 3 ≤ n then t.wr F.alock i 1 else t, ch)

/-- The characters of a block. -/
def hopChars (F : HopFlds) (i pos : Nat) : List Nat → HopSt → HopSt × List (Option LineChar)
  | [], s => (s, [])
  | v :: l, s =>
    let r := hopChar F i pos s v
    let t := hopChars F i pos l r.1
    (t.1, r.2 :: t.2)

/-- A training block received whole and aligned: a wrong signature inverts the receive polarity, a right one tells of the other end, and
ready blocks in a row are counted (R66, R71). -/
def hopTrained (F : HopFlds) (c : HopCfg) (i : Nat) (b : LineBlock) (s : HopSt) : HopSt :=
  if b.byte 1 = 0xC5 then
    { s with learn := some (b.byte 3)
             h := { s.h with sigOk := true, peer := b.byte 2, lane := b.byte 3, farShift := b.byte 5
                             readyRun := if b.byte 4 = 1 then s.h.readyRun + 1 else 0 } }
  else
    let s := if c.pauto then s.wr F.rxinv i (1 - s.rd F.rxinv i) else s
    { s with h := { s.h with readyRun := 0, sigOk := false } }

/-- Nine characters of start-up mode, received at bit position `pos`. In TRAIN and SHIFT, where automatic bring-up runs (R74), a training block
of this end goes out with each, in SHIFT with the count falling; a port that works in start-up mode loses its lock with the alignment. -/
def hopTraining (F : HopFlds) (c : HopCfg) (i pos : Nat) (codes : List (BitVec 10)) (s : HopSt) : HopSt :=
  let st := s.rd F.lstate i
  if (st = lTrain ∨ st = lShift) ∧ !c.run then
    let r := hopChars F i pos (codes.map BitVec.toNat) s
    let s := match blockOf r.2 with
      | some b => if r.1.rd F.alock i = 1 ∧ b.control ∧ (b.kind = trainingKind ∨ b.kind = invertedKind) then hopTrained F c i b r.1
        else { r.1 with h := { r.1.h with readyRun := 0 } }
      | none => { r.1 with h := { r.1.h with readyRun := 0 } }
    let s := hopSend F c i s
    if st = lShift then { s with h := { s.h with shift := s.h.shift - 1 } } else s
  else if st = lUp ∧ !s.h.service then
    let t := (hopChars F i pos (codes.map BitVec.toNat) s).1
    if t.rd F.alock i = 1 then t else { hopTrain F c i (hopUnlock F i t) with leftUp := true }
  else s

/-- Ready seen in 16 consecutive training blocks: SHIFT, its count at 63 (R71); not where the port is held in start-up mode, nor where
automatic bring-up does not run (R74, R91). -/
def hopReady (F : HopFlds) (c : HopCfg) (i : Nat) (s : HopSt) : HopSt :=
  if s.rd F.lstate i = lTrain ∧ 16 ≤ s.h.readyRun ∧ !c.run ∧ !c.nrz then
    { (s.wr F.lstate i lShift) with h := { s.h with shift := 63 } }
  else s

/-- 10 ms in TRAIN without ready: DARK, whence the hop starts again, as often as it takes (R71, R622). -/
def hopTrainTimeout (F : HopFlds) (c : HopCfg) (i : Nat) (s : HopSt) : HopSt :=
  if s.rd F.lstate i = lTrain then
    hopDark F c i { ((s.wr F.lstate i lDark).wr F.alock i 0) with
      h := { s.h with readyRun := 0, auto := true, commas := 0, chars := [], sigOk := false } }
  else s

/-- The shift count runs out: service mode with precoder state 0, in HUNT (R71, R74). -/
def hopShiftEnd (F : HopFlds) (c : HopCfg) (i : Nat) (s : HopSt) : HopSt :=
  if s.rd F.lstate i = lShift ∧ !c.run then
    let s := hopCountDown F c i s.h.shift s
    let s := (s.wr F.lstate i lHunt).wr F.alock i 0
    hopToService F c i { s with h := { s.h with blind := false, failed := false, pre := 0, rpre := 0 } }
  else s

/-- One block of service mode, its 33 symbols as one number: whether its sync header is valid, and the block (R62, R63). -/
def hopBlock (F : HopFlds) (i v : Nat) (s : HopSt) : HopSt × Bool × LineBlock :=
  let v := if s.rd F.rxinv i = 1 then 2 ^ 66 - 1 - v % 2 ^ 66 else v % 2 ^ 66
  let r := takeBlock s.h.rscr s.h.rpre v
  let t := { s with h := { s.h with
    rscr := BitVec.ofNat 58 (ofBits ((blockBits s.h.rpre v).drop 2)), rpre := v % 4 } }
  (t, r.1, r.2)

/-- A block in the hunt: a valid header counts, and the 64th in a row gives block lock; an invalid one moves on to the next of the 33 positions
and starts the count anew (R70). -/
def hopHunt (F : HopFlds) (i : Nat) (valid : Bool) (s : HopSt) : HopSt :=
  if !valid then { s with h := { s.h with goodRun := 0, huntPos := (s.h.huntPos + 1) % 33 } }
  else if s.h.goodRun + 1 < 64 then { s with h := { s.h with goodRun := s.h.goodRun + 1 } }
  else { (s.wr F.alock i 1) with h := { s.h with goodRun := 0, hdrs := List.replicate 64 true, foreign := 0 } }

/-- 16 of the last 64 headers are invalid. -/
def Hop.badHeaders (h : Hop) : Bool := decide (16 ≤ (h.hdrs.filter (fun b => !b)).length)

/-- Lock is lost: the hop hunts again, from UP as BRING says (R70, R71, R73, R74). -/
def hopRehunt (F : HopFlds) (c : HopCfg) (i : Nat) (s : HopSt) : HopSt :=
  let st := s.rd F.lstate i
  let s := (hopUnlock F i s).wr F.lstate i lHunt
  if st = lUp then
    let blind := (c.start == 1 || c.start == 2) && s.rd F.saved i == 1
    { s with leftUp := true, h := { s.h with blind := blind, afterLoss := true, auto := false, failed := false } }
  else s

/-- A block under lock: its header joins the last 64, of which 16 invalid ones lose the lock. In HUNT, where PAUTO lets R72 act, the 8th control
block in a row of a type that is not assigned inverts the polarity, and the receiver hunts again (R70, R72, R101). -/
def hopHeld (F : HopFlds) (c : HopCfg) (i : Nat) (valid : Bool) (b : LineBlock) (s : HopSt) : HopSt :=
  let odd := valid && b.control && !assignedTypes.contains b.kind
  let s := { s with h := { s.h with
    hdrs := (valid :: s.h.hdrs).take 64, foreign := if odd && s.rd F.lstate i == lHunt then s.h.foreign + 1 else 0 } }
  if s.h.badHeaders then hopRehunt F c i s
  else if c.pauto ∧ 8 ≤ s.h.foreign then
    { ((s.wr F.rxinv i (1 - s.rd F.rxinv i)).wr F.alock i 0) with h := { s.h with foreign := 0, goodRun := 0, hdrs := [] } }
  else s

/-- A block received in service mode, in HUNT or UP (R70, R72). -/
def hopTake (F : HopFlds) (c : HopCfg) (i : Nat) (s : HopSt) (v : BitVec 66) : HopSt :=
  if s.rd F.lstate i = lHunt ∨ (s.rd F.lstate i = lUp ∧ s.h.service) then
    let r := hopBlock F i v.toNat s
    if r.1.rd F.alock i = 0 then hopHunt F i r.2.1 r.1 else hopHeld F c i r.2.1 r.2.2 r.1
  else s

/-- Blocks received one after the other. -/
def hopReceive (F : HopFlds) (c : HopCfg) (i : Nat) (l : List (BitVec 66)) (s : HopSt) : HopSt := l.foldl (hopTake F c i) s

/-- Lock held and a valid header or lane marker received: UP, and the settings in use at that moment are saved (R71, R93). A port held in
start-up mode, and a module's port that a header reaches in that mode, comes up from TRAIN (R61). (DESIGN CHOICE: log entries 158, 168.) -/
def hopUp (F : HopFlds) (c : HopCfg) (i : Nat) (s : HopSt) : HopSt :=
  let st := s.rd F.lstate i
  if (st = lHunt ∨ (st = lTrain ∧ (c.nrz ∨ c.kind = 1 ∨ c.kind = 2) ∧ 16 ≤ s.h.readyRun)) ∧ s.rd F.alock i = 1 then
    let s := (s.wr F.lstate i lUp).wr F.saved i 1
    let pk := if s.rd F.man i = 1 then s.rd F.mpk i else s.rd F.pk i
    { s with h := { s.h with savedInv := s.rd F.rxinv i, savedPk := pk, blind := false, failed := false, auto := false,
                             afterLoss := false } }
  else s

/-- 2 ms after SHIFT without UP: TRAIN (R71), where automatic bring-up runs (R74), as often as it takes (R622). -/
def hopHuntTimeout (F : HopFlds) (c : HopCfg) (i : Nat) (s : HopSt) : HopSt :=
  if s.rd F.lstate i = lHunt ∧ !s.h.blind ∧ !c.run then hopTrain F c i s else s

/-- A blind start failed: BLINDF; with encoding 1 the automatic start follows, with 2 a retry (R73). -/
def hopBlindFail (F : HopFlds) (c : HopCfg) (i : Nat) (s : HopSt) : HopSt :=
  if s.rd F.lstate i = lHunt ∧ s.h.blind then
    let s := { (s.wr F.blindf i 1) with blindFail := true }
    if c.run ∨ c.start = 2 then { s with h := { s.h with failed := true } }
    else hopTrain F c i { s with h := { s.h with auto := true } }
  else s

/-- 1 ms after a failed blind start, with encoding 2 in force: start again (R73). -/
def hopBlindRetry (F : HopFlds) (c : HopCfg) (i : Nat) (s : HopSt) : HopSt :=
  if s.rd F.lstate i = lHunt ∧ s.h.blind ∧ s.h.failed ∧ c.start = 2 then hopBlind F c i s else s

/-- TEST ends: DARK, with the checker out of step (R71). -/
def hopTestEnd (F : HopFlds) (c : HopCfg) (i : Nat) (s : HopSt) : HopSt :=
  if s.rd F.lstate i = lTest then
    hopDark F c i { ((s.wr F.lstate i lDark).wr F.csync i 0) with h := { s.h with chk := {} } }
  else s

/-- The pattern is deselected: from TEST to DARK (R71). -/
def hopDeselect (F : HopFlds) (c : HopCfg) (i : Nat) (s : HopSt) : HopSt := hopTestEnd F c i ((s.wr F.gpat i 0).wr F.cpat i 0)

/-- The line mode in use is service mode: in DARK where a blind start would follow, else as the port last switched (R61, R71). -/
def hopService (F : HopFlds) (c : HopCfg) (i : Nat) (s : HopSt) : Bool :=
  if s.rd F.lstate i = lDark then hopDarkService F c i s else s.h.service

/-- A port out of frame service with a pattern selected is in TEST, its generator and checker starting anew (R71, R79). -/
def hopTest (F : HopFlds) (c : HopCfg) (i : Nat) (inService : Bool) (s : HopSt) : HopSt :=
  if !inService ∧ (s.rd F.gpat i ≠ 0 ∨ s.rd F.cpat i ≠ 0) then
    let wide := hopService F c i s
    { ((s.wr F.lstate i lTest).wr F.csync i 0) with
      leftUp := s.rd F.lstate i == lUp
      h := { s.h with service := wide, gen := patternSeed (s.rd F.gpat i) wide, chk := {}, burst := 0, sinceInj := 0 } }
  else s

/-- The port is enabled: out of TEST, and its next start is one after port enable (R71, R73). -/
def hopEnable (F : HopFlds) (c : HopCfg) (i : Nat) (s : HopSt) : HopSt :=
  let s := if s.rd F.lstate i = lTest then { ((s.wr F.lstate i lDark).wr F.csync i 0) with h := { s.h with chk := {} } } else s
  if s.rd F.lstate i = lDark then hopDark F c i { s with h := { s.h with auto := false, afterLoss := false } } else s

/-- NRZ has changed: a port in the other line mode trains anew (R61, R91). (DESIGN CHOICE: log entry 168.) -/
def hopHold (F : HopFlds) (c : HopCfg) (i : Nat) (s : HopSt) : HopSt :=
  let st := s.rd F.lstate i
  if (c.nrz ∧ (st = lShift ∨ st = lHunt ∨ (st = lUp ∧ s.h.service))) ∨ (!c.nrz ∧ st = lUp ∧ !s.h.service) then
    { hopTrain F c i s with leftUp := st == lUp }
  else s

/-- 4,096 idle blocks freeze adaptation; 256 others since resume it (R68). -/
def hopFreeze (F : HopFlds) (i : Nat) (on : Bool) (s : HopSt) : HopSt := s.wr F.frozen i (if on then 1 else 0)

/-- One adaptation step: `dir` 1 raises, 2 lowers the peaking by 1 dB, within 0 to 15 dB, where PKSAT is set. With MAN, while
frozen and without block alignment the peaking stays (R67, R68). -/
def hopAdapt (F : HopFlds) (i dir : Nat) (s : HopSt) : HopSt :=
  if s.rd F.man i = 1 ∨ s.rd F.frozen i = 1 ∨ s.rd F.alock i = 0 then s
  else
    let pk := s.rd F.pk i
    hopPeak F i (if dir = 1 then min 15 (pk + 1) else if dir = 2 then pk - 1 else pk) s

/-- Pattern bits under a polarity: on an inverted line of start-up mode each bit is inverted, of service mode the more significant of each pair,
which form a symbol (R63, R91). Patterns are Gray-mapped and not precoded. (DEDUCED: log entry 182.) -/
def patternPolar (service inv : Bool) (l : List Bool) : List Bool :=
  if !inv then l else if service then invertPairs l else l.map (!·)

/-- A stretch of line time in TEST in which the bits `rx` were received: as many bits of the pattern go out, and the checker counts
(R79, R80). -/
def hopPattern (F : HopFlds) (c : HopCfg) (i : Nat) (rx : List Bool) (s : HopSt) : HopSt :=
  if s.rd F.lstate i = lTest then
    let gp := s.rd F.gpat i
    let s := if gp = 0 ∨ !c.tx then s
      else
        let g := patternBits gp s.h.service s.h.gen rx.length
        let e := hopErrors F i g.1 { s with h := { s.h with gen := g.2 } }
        { e.1 with out := e.1.out ++ [(patternPolar s.h.service c.invtx e.2).map (fun b => if b then 1 else 0)] }
    let cp := s.rd F.cpat i
    if cp = 0 then s
    else
      let k := (patternPolar s.h.service (s.rd F.rxinv i == 1) rx).foldl (Checker.take cp s.h.service) s.h.chk
      { (s.wr F.csync i (if k.sync then 1 else 0)) with h := { s.h with chk := { k with errs := 0 } }, errs := k.errs }
  else s

/-- EGO: one injection of a once-only mode, into a running pattern or, with ELIVE = 1, into live frames (R80, R96). -/
def hopInject (F : HopFlds) (i : Nat) (s : HopSt) : HopSt :=
  let m := s.rd F.emode i
  if (m = 1 ∨ m = 3 ∨ m = 4) ∧ (s.rd F.lstate i = lTest ∨ s.rd F.elive i = 1) then { s with h := { s.h with inject := m } }
  else s

/-! ### Frames as blocks (R99 to R103, R108 to R110) -/

/-- The 32 blocks of a header. -/
def Header.blocks (h : Header) : List LineBlock :=
  controlBlock (h.block 0) :: (List.range 30).map (fun k => dataBlock (h.block (k + 1))) ++ [dataBlock h.hcrc.toNat]

/-- A slot of `k` blocks, and slots one after the other. -/
def slotBlocks (k v : Nat) : List LineBlock := (List.range k).map (fun i => dataBlock (v / 2 ^ (64 * (k - 1 - i))))
def slotsBlocks (l : List (Nat × Nat)) : List LineBlock := l.flatMap (fun e => slotBlocks e.1 e.2)

/-- The four blocks of a trailer. -/
def Trailer.blocks (t : Trailer) : List LineBlock :=
  (t.wire.take 3).map dataBlock ++ [controlBlock (0xE1 * 2 ^ 56 + t.tcrc.toNat)]

end Sys2Proof.Machine
end

