-- ==== Sys2Proof/Machine/CellLine.lean ====
section
/-! DEFINITION. The line of a KC-60's ports: the link state machine on them, and frames as they go out (R60 to R73, R99). -/

namespace Sys2Proof.Machine

/-- One step of a hop's state machine, as far as the hop kind leaves it open: field map, port number, surroundings. -/
abbrev HopStep : Type := HopFlds → HopCfg → Nat → HopSt → HopSt

/-- Blocks of a frame go out (R62, R63, R65). -/
def frameStep (l : List LineBlock) : HopStep := fun F c i s => hopFrame F c i l s

/-- Line time of `t` × 0.1 ns ends: what was not sent in it is filled (R62). -/
def fillStep (t : Nat) : HopStep := fun F c i s => hopFill F c i (t / s.h.blockTime) s

/-- What a hop end put on the line goes out by port `n`. -/
def lineOuts (n : Nat) (r : HopSt) : List Out := r.out.map (fun d => ⟨.line, n, d⟩) ++ r.fill.map (fun d => ⟨.fill, n, d⟩)

/-- What governs a module's port. -/
def Cell.optCfg (s : Cell) (i : Nat) : HopCfg :=
  { pauto := s.on Kc.OPTn_CTRL.PAUTO i, invrx := s.rd Kc.OPTn_CTRL.INVRX i, invtx := s.on Kc.OPTn_CTRL.INVTX i,
    bring := s.rd Kc.OPTn_CTRL.BRING i, run := s.hmode == 1, kind := 1 + i }

/-- The receiver of a port is UP. -/
def Cell.rxUp (s : Cell) (p : Port) : Bool := s.rd Kc.OPTn_STAT.LSTATE p.idx == 4

/-- One step on port `p` of a module with its pass-through open: leaving UP raises LINK_W or LINK_E, a lost lock counts and voids
the frame in passage (R70, R163). An UP ends the run of failed openings (R145). -/
def Cell.optStep (s : Cell) (p : Port) (f : HopStep) : Cell :=
  if !s.live then s
  else
    let i := p.idx
    let r := f optFlds (s.optCfg i) i { h := (s.port p).hop, r := s.regs }
    let s := ({ s with regs := r.r, out := s.out ++ lineOuts i r }).onPort p (fun q => { q with hop := r.h })
    let s := (List.range r.errs).foldl (fun s _ => s.count Kc.OPTn_PERR.ERR Kc.OPTn_PERR.SAT i) s
    let s := s.when r.lost (fun s => (s.count Kc.OPTn_STAT.ALOSS Kc.OPTn_STAT.SAT i).onPort p
      (fun q => { q with inFrame := none, voided := q.passing }))
    let s := s.when r.leftUp (fun s => s.event (if p == .w then Ev.LINK_W else Ev.LINK_E))
    s.when (s.rxUp p) (fun s => s.wr Kc.OPT_PT.TRIES 0)

/-- Line time of a whole tick ends at both ports, in 0.1 ns (R62). -/
def Cell.fillLines (s : Cell) (t : Nat) : Cell := (s.optStep .w (fillStep t)).optStep .e (fillStep t)

/-- A header, slots and a trailer leave by port `q`, coded to the line (R62, R63, R65, R99). The whole frame's line time is taken with its header. -/
def Cell.putHeader (s : Cell) (q : Port) (h : Header) : Cell :=
  ((s.send ⟨.header, q.idx, h.wire⟩).onPort q (fun p => { p with hop := p.hop.spend h.frameLen })).optStep q (frameStep h.blocks)
def Cell.putSlots (s : Cell) (q : Port) (l : List (Nat × Nat)) : Cell :=
  (s.send ⟨.slot, q.idx, l.map Prod.snd⟩).optStep q (frameStep (slotsBlocks l))
def Cell.putTrailer (s : Cell) (q : Port) (t : Trailer) : Cell := (s.send ⟨.trailer, q.idx, t.wire⟩).optStep q (frameStep t.blocks)

/-- Slots of other modules go by on port `q`; what they leave in its coder is open. (DESIGN CHOICE: log entry 148.) -/
def Cell.gapped (s : Cell) (q : Port) : Cell := s.onPort q (fun p => { p with hop := p.hop.unknownTx })

/-- Both hops are in one line mode: frames of one go on over the other (R61). (DEDUCED: log entry 189.) -/
def Cell.sameMode (s : Cell) : Bool := s.w.hop.service == s.e.hop.service

end Sys2Proof.Machine
end

