-- ==== Sys2Proof/Machine/CellCap.lean ====
section
/-! DEFINITION. The capture buffer of a KC-60 (R210 to R215), and the record of its gate outputs that measurement and capture read.
Instants count 1.25 ns from an origin of the cell's own. -/

namespace Sys2Proof.Machine

/-- Change the measurement state. -/
def Cell.onMeas (s : Cell) (f : CellMeas → CellMeas) : Cell := { s with meas := f s.meas }

/-- Ticks from the running one to the one an instant lies in, by the running tick's length. -/
def Cell.tickDist (s : Cell) (t : Nat) : Int := ((t : Int) - s.gen.bT) / s.tickUnits

/-- The tick an instant lies in. -/
def Cell.tickAt (s : Cell) (t : Nat) : Nat := (((s.tick : Int) + s.tickDist t) % 2 ^ 48).toNat

/-- The offset of an instant from the boundary of the tick it lies in, in 10 ns. -/
def Cell.ofsAt (s : Cell) (t : Nat) : Nat := (((t : Int) - s.gen.bT) % s.tickUnits / 8).toNat

/-! ### The gate outputs as conversions see them -/

/-- Drive the outputs to the levels `g` at `t`. -/
def Cell.setG (s : Cell) (t g : Nat) : Cell := (s.wr Kc.GEN_OUT.G g).onMeas (fun m => { m with gLog := m.gLog ++ [(t, g)] })

/-- One change of the gate outputs in the table of turn-on instants. -/
def gateLogStep (on : Tab Nat) (e : Nat × Nat) : Tab Nat :=
  [0, 1, 2, 3].foldl (fun on i =>
    if bit e.2 i then (if Tab.get 0 i on = 0 then Tab.set 0 i (e.1 + 1) on else on) else Tab.set 0 i 0 on) on

/-- The instants at which G0 to G3 came on, as they stand at `t` (plus 1; 0 while off). -/
def Cell.gatesAt (s : Cell) (t : Nat) : Tab Nat := (s.meas.gLog.filter (fun e => decide (e.1 ≤ t))).foldl gateLogStep s.meas.gOn

/-- The levels of G3 to G0 at `t` (R210). -/
def Cell.levelsAt (s : Cell) (t : Nat) : Nat :=
  let on := s.gatesAt t
  [0, 1, 2, 3].foldl (fun v i => v + (if Tab.get 0 i on = 0 then 0 else 2 ^ i)) 0

/-- Gate output `i` has been on at `t` for at least `d` (R199). -/
def Cell.gateOnFor (s : Cell) (i d t : Nat) : Bool :=
  let o := Tab.get 0 i (s.gatesAt t)
  o != 0 && decide (o - 1 + d ≤ t)

/-- Changes of the gate outputs before `t` go into the table of turn-on instants. -/
def Cell.trimGates (s : Cell) (t : Nat) : Cell :=
  s.onMeas (fun m => { m with gOn := s.gatesAt t, gLog := m.gLog.filter (fun e => decide (t < e.1)) })

/-! ### The fast grid (R195, R205) -/

/-- No spare: conversions are shared (R205). -/
def Cell.sharedRow (s : Cell) : Bool := s.meas.single || s.meas.slices != 3

/-- The interval of the fast grid, in 1.25 ns: 20, 40 or 160 ns (R195, R205). -/
def Cell.grid (s : Cell) : Nat := if s.meas.single then 128 else if 2 ≤ s.meas.slices then 16 else 32

/-- The first point at or after `t` of a grid of interval `len` that began at `b`. -/
def gridFrom (b len t : Nat) : Nat := b + (t - b + len - 1) / len * len

/-! ### What measurement and capture are set to -/

/-- The register fields that bear on conversions and words. -/
def measFlds : List (Fld × Nat) :=
  [(Kc.CC_ROLE.SENSOR, 0), (Kc.CC_ROLE.SEL, 0), (Kc.ADC_CTRL.SETL, 0), (Kc.ADC_CTRL.SREP, 0), (Kc.ADC_CTRL.FAST, 0)] ++
  (List.range 8).flatMap (fun i => [(Kc.ADC_SEQn.EN, i), (Kc.ADC_SEQn.GATE, i), (Kc.ADC_SEQn.INP, i)]) ++
  [(Kc.CAP_CFG.POST, 0), (Kc.CAP_CFG.DEC, 0), (Kc.CAP_CFG.TAG, 0), (Kc.CAP_CFG.FIRE, 0), (Kc.CAP_CFG.SRC, 0), (Kc.CAP_TLV.HI, 0),
   (Kc.CAP_TLV.LO, 0), (Kc.CAP_SLW.STEP, 0), (Kc.CAP_SLW.WIN, 0)]

/-- What they are set to now. -/
def Cell.config (s : Cell) : MeasConfig := ⟨s.keepRegs measFlds, s.meas.slices, s.meas.single⟩

/-- The module set to `c`. -/
def Cell.configured (s : Cell) (c : MeasConfig) : Cell :=
  (measFlds.foldl (fun s e => s.wr e.1 (e.1.get e.2 0 c.regs) e.2) s).onMeas (fun m => { m with slices := c.slices, single := c.single })

/-- The module set to `c` from `t` on: a change of row moves its grids on to their points from then. (DESIGN CHOICE: log entry 198.) -/
def Cell.configuredFrom (s : Cell) (t : Nat) (c : MeasConfig) : Cell :=
  let row := decide (c.slices ≠ s.meas.slices) || (c.single != s.meas.single)
  let s := s.configured c
  let b := s.meas.sT
  if row && s.meas.fastT != 0 then
    s.onMeas (fun m => { m with
      fastT := gridFrom b s.grid (max (b + 1) t), slotT := gridFrom b (if s.sharedRow then s.grid else 32) (max (b + 1) t) })
  else s

/-- What was set before a change at `t` is kept for the conversions before it (R194, R198, R205). (DESIGN CHOICE: log entry 198.) -/
def Cell.logConfig (s old : Cell) (t : Nat) : Cell :=
  if s.config = old.config then s else s.onMeas (fun m => { m with configs := m.configs ++ [(t, old.config)] })

/-! ### Capture (R210 to R215) -/

/-- CAP stores and triggers: FULL with at least two usable slices (R210). -/
def Cell.capOk (s : Cell) : Bool := !s.meas.single && decide (2 ≤ s.meas.slices)

/-- CAP states. -/
abbrev capIdle : Nat := 0
abbrev capArmed : Nat := 1
abbrev capPost : Nat := 2
abbrev capDone : Nat := 3

/-- The state of CAP. -/
def Cell.capState (s : Cell) : Nat := s.rd Kc.CAP_STAT.STATE

/-- Arm CAP at `t`: ignored in ARMED, in POST and while CAP cannot store; conversions before it make no word (R211, R215). -/
def Cell.capArm (s : Cell) (t : Nat) : Cell :=
  if (s.capState = capIdle ∨ s.capState = capDone) ∧ s.capOk then
    let s := ((s.wr Kc.CAP_STAT.STATE capArmed).wr Kc.CAP_STAT.PRE 0).wr Kc.CAP_NPOST.NPOST 0
    s.onMeas (fun m => { m with fired := false, acc := 0, accN := 0, capN := 0, trigs := [], armT := t, stop := none })
  else s

/-- Abort: IDLE from ARMED, DONE from POST with SHORT set (R211, R215). -/
def Cell.capStop (s : Cell) : Cell :=
  if s.capState = capArmed then s.wr Kc.CAP_STAT.STATE capIdle
  else if s.capState = capPost then
    ((s.wr Kc.CAP_STAT.STATE capDone).mark Kc.CAP_STAT.SHORT).onMeas (fun m => { m with trigs := [] })
  else s

/-- Abort at `t`: words of conversions before it are still to come. (DESIGN CHOICE: log entry 197.) -/
def Cell.capAbort (s : Cell) (t : Nat) : Cell :=
  if s.capState = capArmed ∨ s.capState = capPost then
    s.capStop.onMeas (fun m => { m with stop := some (t, s.capState, s.meas.trigs) })
  else s

/-- A trigger by a source 0 to 5 fires the other cells, once per record (R213). -/
def Cell.capFire (s : Cell) (src : Nat) : Cell :=
  if s.on Kc.CAP_CFG.FIRE && decide (src ≤ 5) && !s.meas.fired then
    ((s.onMeas (fun m => { m with fired := true })).onPort .w (fun p => { p with fire := true })).onPort .e
      (fun p => { p with fire := true })
  else s

/-- The trigger word has index `idx` and instant `t`, and its lowest source is `src` (R212, R214). -/
def Cell.capPlace (s : Cell) (src idx t : Nat) : Cell :=
  let s := s.wr Kc.CAP_STAT.CAUSE src
  let s := ((s.wr Kc.CAP_TTIK.TT (s.tickAt t % 2 ^ 32)).wr Kc.CAP_TPOS.TOFS (s.ofsAt t)).wr Kc.CAP_TPOS.IDX idx
  s.capFire src

/-- ARMED ends: POST, with CAPTRG raised. -/
def Cell.capEnterPost (s : Cell) : Cell := ((s.wr Kc.CAP_STAT.STATE capPost).wr Kc.CAP_NPOST.NPOST 0).event Ev.CAPTRG

/-- The value of a stored word that triggers compare: bits [3:0] taken as 0 under TAG (R210). -/
def Cell.capVal (s : Cell) (i : Nat) : Int :=
  let w := Tab.get 0 (i % 32768) s.meas.words
  sx 16 (if s.on Kc.CAP_CFG.TAG then w / 16 * 16 else w)

/-- Sources 1 to 3 at the word just stored at `i`, the lowest first (R212). -/
def Cell.capSource (s : Cell) (i : Nat) : Option Nat :=
  let v := s.capVal i
  let win := s.rd Kc.CAP_SLW.WIN
  let old := s.capVal (i + 32768 - win)
  let en := s.rd Kc.CAP_CFG.SRC
  if bit en 1 ∧ sx 16 (s.rd Kc.CAP_TLV.HI) < v then some 1
  else if bit en 2 ∧ v < sx 16 (s.rd Kc.CAP_TLV.LO) then some 2
  else if bit en 3 ∧ win ≤ s.meas.capN ∧ (s.rd Kc.CAP_SLW.STEP : Int) < (v - old).natAbs then some 3
  else none

/-- The lowest source that fires at the word just stored at `i` with instant `t`: of the word's own sources, and of those that fired at or
before it (R212, R215). -/
def Cell.capCause (s : Cell) (i t : Nat) : Option Nat :=
  ((s.meas.trigs.filter (fun e => decide (e.2 ≤ t))).map Prod.fst).foldl
    (fun b x => match b with | some y => some (min x y) | none => some x) (s.capSource i)

/-- A word before the trigger word: PRE counts it (R211). -/
def Cell.capPre (s : Cell) : Cell := s.wr Kc.CAP_STAT.PRE (min (s.rd Kc.CAP_STAT.PRE + 1) (32767 - s.rd Kc.CAP_CFG.POST))

/-- A word goes into the buffer. -/
def Cell.capPut (s : Cell) (w : Nat) : Cell :=
  s.onMeas (fun m => { m with words := Tab.set 0 m.wp w m.words, wp := (m.wp + 1) % 32768 })

/-- A word is complete at `t` (R210, R211, R214). A trigger taken before its word was stored gets its place from that word. -/
def Cell.capWord (s : Cell) (w t : Nat) : Cell :=
  let i := s.meas.wp
  let armed := decide (s.capState = capArmed)
  if armed ∨ (s.capState = capPost ∧ s.meas.trigs ≠ []) then
    let s := s.capPut w
    match s.capCause i t with
    | some src => ((s.when armed Cell.capEnterPost).capPlace src i t).onMeas (fun m => { m with trigs := [] })
    | none => s.capPre.onMeas (fun m => { m with capN := m.capN + 1 })
  else if s.capState = capPost ∧ s.rd Kc.CAP_NPOST.NPOST < s.rd Kc.CAP_CFG.POST then
    (s.capPut w).wr Kc.CAP_NPOST.NPOST (s.rd Kc.CAP_NPOST.NPOST + 1)
  else s

/-- The instants at which the next word will be complete, and the interval of words after it. -/
def Cell.capNext (s : Cell) : Nat × Nat :=
  let n := 2 ^ s.rd Kc.CAP_CFG.DEC
  let next := if s.sharedRow then s.meas.slotT else s.meas.fastT
  (gridFrom s.meas.sT s.grid (max next s.meas.armT) + (n - 1 - s.meas.accN) * s.grid, s.grid * n)

/-- The words still to come before the first one at or after `t`. -/
def Cell.capAhead (s : Cell) (t : Nat) : Nat :=
  let n := s.capNext
  if t ≤ n.1 then 0 else (t - n.1 + n.2 - 1) / n.2

/-- A source other than a word fires at `t`: at once in ARMED, and until the trigger word is stored a further source bears on the cause
(R212, R214, R215). The trigger's place is entered as the grid gives it, and again from the word itself once that is stored. -/
def Cell.capTrigger (s : Cell) (src t : Nat) : Cell :=
  if s.capOk ∧ (src = 0 ∨ bit (s.rd Kc.CAP_CFG.SRC) src) then
    let k := s.capAhead t
    let u := s.capNext.1 + k * s.capNext.2
    let idx := (s.meas.wp + k) % 32768
    if s.capState = capArmed then
      (s.capEnterPost.capPlace src idx u).onMeas (fun m => { m with trigs := [(src, t)] })
    else if s.capState = capPost ∧ s.meas.trigs ≠ [] then
      let s := s.onMeas (fun m => { m with trigs := m.trigs ++ [(src, t)] })
      if idx = s.rd Kc.CAP_TPOS.IDX ∧ src < s.rd Kc.CAP_STAT.CAUSE then s.capPlace src idx u else s
    else s
  else s

/-- The mean of 2^DEC codes. The spec states no rounding of it: a mean that is no whole number takes either neighbour. (DESIGN CHOICE: log entry 25.) -/
def Cell.capMean (s : Cell) (sum : Int) (dec : Nat) : Int × Cell :=
  let q := sum / (2 ^ dec : Nat)
  if sum % (2 ^ dec : Nat) = 0 then (q, s)
  else (q + (Config.unstated s.meas.free % 2 : Nat), s.onMeas (fun m => { m with free := m.free + 1 }))

/-- A fast-input conversion at `t` goes towards a word of the buffer, where CAP was armed by then (R210, R211). -/
def Cell.capConv (s : Cell) (t : Nat) (v : Int) : Cell :=
  if s.capOk ∧ s.meas.armT ≤ t ∧ (s.capState = capArmed ∨ s.capState = capPost) then
    let dec := s.rd Kc.CAP_CFG.DEC
    if s.meas.accN + 1 < 2 ^ dec then s.onMeas (fun m => { m with acc := m.acc + v, accN := m.accN + 1 })
    else
      let r := s.capMean (s.meas.acc + v) dec
      let s := r.2.onMeas (fun m => { m with acc := 0, accN := 0 })
      let w := toBits 16 r.1
      s.capWord (if s.on Kc.CAP_CFG.TAG then w / 16 * 16 + s.levelsAt t else w) t
  else s

/-- The part of a tick boundary that concerns CAP: without FULL and two slices the contents are lost (R215). -/
def Cell.capBoundary (s : Cell) : Cell :=
  if s.capOk then s
  else if s.capState = capIdle ∧ s.meas.words = [] then s
  else
    let s := (s.wr Kc.CAP_STAT.STATE capIdle).mark Kc.CAP_STAT.LOST
    s.onMeas (fun m => { m with words := [], wp := 0, acc := 0, accN := 0, trigs := [], stop := none })

end Sys2Proof.Machine
end

