-- ==== Sys2Proof/Machine/CellSwitch.lean ====
section
/-! DEFINITION. The cell switching generator GEN (R168 to R192): states and levels, edges, dead time, the minimum-pulse filter,
trips, bypass and discharge, local pairs. Times count 1.25 ns. -/

namespace Sys2Proof.Machine

/-! ### Levels (R168) -/

/-- Gate levels of a cell state, bit i for Gi. -/
def stateLevels (fullBridge : Bool) (st : Nat) : Nat :=
  if fullBridge then
    match st with
    | 1 => 0b1001
    | 2 => 0b0110
    | 3 => 0b0101
    | 4 => 0b1010
    | _ => 0
  else
    match st with
    | 1 => 0b0001
    | 4 => 0b0010
    | _ => 0

/-- The safe levels of GEN_CTRL.SAFE1 and SAFE0; in a half-bridge cell pair 1 stays at 0 (R168, R187). -/
def Cell.safeLevels (s : Cell) : Nat :=
  (if s.on Kc.GEN_CTRL.SAFE0 then 0b0010 else 0) +
  (if s.on Kc.GEN_CTRL.SAFE1 && s.on Kc.GEN_CTRL.TOPO then 0b1000 else 0)

/-- A trip is latched. -/
def Cell.tripped (s : Cell) : Bool := s.rd Kc.GEN_TRIP.LAT != 0

/-- The bypass has fired, from either domain (R153, R181, R183). -/
def Cell.bypassed (s : Cell) : Bool := s.on Kc.GRD_STAT.BYPF || s.on Kc.GEN_STAT.BYPF

/-- A trip latched, the inhibit asserted or the bypass fired forces the outputs (R178, R180, R181). (DEDUCED: log entry 58.) -/
def Cell.genForced (s : Cell) : Bool := s.tripped || s.on Kc.GRD_STAT.INH || s.bypassed

/-- Commanded changes stop: frozen, or released and waiting for the next boundary (R185). -/
def Cell.genStopped (s : Cell) : Bool := s.on Kc.GEN_STAT.FROZEN || s.gen.resume

/-- The levels the outputs are to have now: an arming turns every output off, a latched trip or not (R181, R184). (DEDUCED: log entries
58, 62.) A trip before the first command applied as ACTIVE turns an output of safe level 1 on as any other does. (DEDUCED: log entries 58, 62; DESIGN CHOICE: log entry 196.) -/
def Cell.genTarget (s : Cell) : Nat :=
  if s.on Kc.GRD_STAT.INH || s.bypassed || s.sensor || s.on Kc.GEN_STAT.ARMED then 0
  else if s.tripped then s.safeLevels
  else stateLevels (s.on Kc.GEN_CTRL.TOPO) (s.rd Kc.GEN_STAT.STATE)

/-- Dead time of the pair of output `i`. -/
def Cell.deadTime (s : Cell) (i : Nat) : Nat := if i < 2 then s.rd Kc.GEN_DT.DT0 else s.rd Kc.GEN_DT.DT1

/-- The other output of the pair of output `i`. -/
def partner (i : Nat) : Nat := if i % 2 = 0 then i + 1 else i - 1

/-- Turn output `i` off at `t` where the target asks for it, and cancel its pending turn-on (R173). -/
def Cell.gateOff (t target : Nat) (s : Cell) (i : Nat) : Cell :=
  if bit target i then s
  else
    let g := s.rd Kc.GEN_OUT.G
    let s := { s with gen := { s.gen with on := Tab.set 0 i 0 s.gen.on } }
    if bit g i then
      { (s.setG t (setBit g i false)) with gen := { s.gen with off := Tab.set 0 i (t + 1) s.gen.off } }
    else s

/-- Turn output `i` on at the later of `t` and its partner's last turn-off plus the dead time; later than `t` it is pending (R173). -/
def Cell.gateOn (t target : Nat) (s : Cell) (i : Nat) : Cell :=
  let g := s.rd Kc.GEN_OUT.G
  if !bit target i || bit g i then s
  else
    let o := Tab.get 0 (partner i) s.gen.off
    let due := if o = 0 then t else max t (o - 1 + s.deadTime i)
    if due ≤ t then
      { (s.setG t (setBit g i true)) with gen := { s.gen with on := Tab.set 0 i 0 s.gen.on } }
    else { s with gen := { s.gen with on := Tab.set 0 i (due + 1) s.gen.on } }

/-- Drive the outputs to `target` from `t` on: turn-offs first, then turn-ons. -/
def Cell.drive (s : Cell) (t target : Nat) : Cell :=
  let s := [0, 1, 2, 3].foldl (Cell.gateOff t target) s
  [0, 1, 2, 3].foldl (Cell.gateOn t target) s

/-- Bring GEN_OUT.BYP and DIS in line with both domains (R153, R192). -/
def Cell.syncJ3 (s : Cell) : Cell :=
  let s := s.wr Kc.GEN_OUT.BYP (s.rd Kc.GRD_STAT.BYPF)
  s.wr Kc.GEN_OUT.DIS (b2n (s.on Kc.GEN_STAT.DISON || s.grd.dis))

/-! ### The minimum-pulse filter (R175, R176) -/

/-- A dropped or stretched dwell counts once and raises PULSE. -/
def Cell.pulse (s : Cell) : Cell := (s.count Kc.GEN_STAT.PCNT Kc.GEN_STAT.SAT).event Ev.PULSE

/-- Enter commanded state `st` at `t`: a new dwell begins and the outputs follow. A state already in force makes no edge. -/
def Cell.genEnter (s : Cell) (t st : Nat) : Cell :=
  if st = s.rd Kc.GEN_STAT.STATE then s
  else
    let s := { (s.wr Kc.GEN_STAT.STATE st) with gen := { s.gen with entered := some t } }
    s.drive t s.genTarget

/-- The state a half-bridge cell applies for a named state: OFF for NEG and ZERO_UP (R169). -/
def Cell.subst (s : Cell) (st : Nat) : Nat := if !s.on Kc.GEN_CTRL.TOPO && (st == 2 || st == 3) then 0 else st

/-- The commanded changes of a tick with the given states and offsets that begins at `b` and lasts `len` units: at the boundary,
at edge 1 and at edge 2, void edges left out; of changes at one instant the last stands, so that with T1 = 0 ST0 is never entered
(R171). (DESIGN CHOICE: log entry 192.) -/
def edgePlan (b len st0 st1 t1 st2 t2 : Nat) : List (Nat × Nat) :=
  let first := if t1 = 0 ∧ 0 < len then [] else [(b, st0)]
  first ++
  (if len ≤ t1 then []
   else if len ≤ t2 then [(b + t1, st1)]
   else if t2 ≤ t1 then [(b + t1, st2)]
   else [(b + t1, st1), (b + t2, st2)])

/-- Void edges of a tick: edge 2 is void with edge 1 (R171). -/
def voidEdges (len t1 t2 : Nat) : Nat := if len ≤ t1 then 2 else if len ≤ t2 then 1 else 0

/-- The local pair of a tick: the committed one, or, for the tick to come, a closed pair that commits at its boundary (R177). -/
def Gen.pair (g : Gen) (coming : Bool) : Nat × Nat × Nat × Nat × Nat :=
  match g.lpWait with
  | some p => if coming then p else (g.lp0, g.lp1, g.lpT1, g.lp2, g.lpT2)
  | none => (g.lp0, g.lp1, g.lpT1, g.lp2, g.lpT2)

/-- The commanded changes of a command for the tick that begins at `b`: its own states, or the local pair under SRC (R170, R177). -/
def Cell.plan (s : Cell) (b mode c : Nat) : List (Nat × Nat) :=
  let p := s.gen.pair (b != s.gen.bT)
  if s.on Kc.GEN_CTRL.SRC && (mode == 1 || mode == 2) then
    edgePlan b s.tickUnits (s.subst p.1) (s.subst p.2.1) p.2.2.1 (s.subst p.2.2.2.1) p.2.2.2.2
  else
    match mode with
    | 1 => edgePlan b s.tickUnits (s.subst (cSt0 c)) (s.subst (cSt1 c)) (cT1 c) (s.subst (cSt2 c)) (cT2 c)
    | 2 => []
    | _ => [(b, 0)]

/-- The first commanded change away from state `st` after `t`, as far as it is known: in the running tick's edges, then in the
command staged for the next boundary. -/
def Cell.nextChange (s : Cell) (t st : Nat) : Option Nat :=
  let nb := s.gen.bT + s.tickUnits
  let later := match s.staged with
    | some c => s.plan nb (cMode c.slot.toNat) c.slot.toNat
    | none => []
  ((s.gen.edges ++ later).find? (fun e => decide (t < e.1) && e.2 != st)).map Prod.fst

/-- DROP does not make an edge to `st` at `t`: the next change is known and lies before `t` + MINP, whether or not the window also reaches past a
boundary with nothing staged yet (R175). (DESIGN CHOICE: log entry 193.) -/
def Cell.dropsEdge (s : Cell) (t st : Nat) : Bool :=
  !s.on Kc.GEN_CTRL.MPMODE && (match s.nextChange t st with | some n => decide (n < t + s.rd Kc.GEN_MINP.MINP) | none => false)

/-- An edge to `st` at `t` for which the state in force has lasted long enough: dropped, or made (R175). -/
def Cell.genEdge (s : Cell) (t st : Nat) : Cell :=
  if st = s.rd Kc.GEN_STAT.STATE then s
  else if s.dropsEdge t st then s.pulse
  else s.genEnter t st

/-- A commanded change to `st` at `t`, through the filter (R175). While the outputs are forced the commanded state is kept in mind
without the filter, and shows at no output (R178, R180). (DEDUCED: log entry 59.) -/
def Cell.genChange (s : Cell) (t st : Nat) : Cell :=
  if s.genStopped then s
  else if s.genForced then
    { (s.wr Kc.GEN_STAT.STATE st) with gen := { s.gen with want := st, stretch := none, entered := none } }
  else if st = s.gen.want then s
  else
    let u := { s with gen := { s.gen with want := st } }
    if s.gen.stretch.isSome ∨ st = s.rd Kc.GEN_STAT.STATE then u
    else
      match s.gen.entered with
      | some t1 =>
        if t < t1 + s.rd Kc.GEN_MINP.MINP then
          { u with gen := { u.gen with stretch := some (t1 + s.rd Kc.GEN_MINP.MINP) } }.pulse
        else u.genEdge t st
      | none => u.genEdge t st

/-- A stretched dwell ends: GEN enters the state then commanded, and that is a new dwell, which the filter checks in turn (R175). -/
def Cell.genStretchEnd (s : Cell) : Cell :=
  match s.gen.stretch with
  | some e =>
    let s := { s with gen := { s.gen with stretch := none } }
    if s.genStopped then s else s.genEdge e s.gen.want
  | none => s

/-- A pending turn-on of output `i` waits for its instant alone: a freeze stops those of commanded states, and not that of a trip's safe
level (R178, R185). -/
def Cell.turnOnRuns (s : Cell) (i : Nat) : Bool := !s.on Kc.GEN_STAT.FROZEN || (s.tripped && bit s.genTarget i)

/-- A pending turn-on of output `i` takes effect (R173). -/
def Cell.genTurnOn (s : Cell) (i : Nat) : Cell :=
  let due := Tab.get 0 i s.gen.on
  if due = 0 ∨ s.turnOnRuns i = false then s
  else
    let g := s.rd Kc.GEN_OUT.G
    let s := { s with gen := { s.gen with on := Tab.set 0 i 0 s.gen.on } }
    if bit g (partner i) then s else s.setG (due - 1) (setBit g i true)

/-- The earliest of GEN's own pending happenings: its instant, and what it is (0 edge, 1 stretch end, 2 + i turn-on of Gi). A freeze stops
edges and stretches (R185). -/
def Cell.genNext (s : Cell) : Option (Nat × Nat) :=
  let run := !s.on Kc.GEN_STAT.FROZEN
  let cands := (match s.gen.edges with | e :: _ => if run then [(e.1, 0)] else [] | [] => []) ++
    (match s.gen.stretch with | some e => if run then [(e, 1)] else [] | none => []) ++
    ([0, 1, 2, 3].filterMap (fun i =>
      let d := Tab.get 0 i s.gen.on
      if d = 0 ∨ s.turnOnRuns i = false then none else some (d - 1, 2 + i)))
  cands.foldl (fun best c => match best with
    | none => some c
    | some b => if c.1 < b.1 then some c else some b) none

/-- One pending happening takes place. -/
def Cell.genFire (s : Cell) (what : Nat) : Cell :=
  match what with
  | 0 => match s.gen.edges with
    | e :: rest => { s with gen := { s.gen with edges := rest } }.genChange e.1 e.2
    | [] => s
  | 1 => s.genStretchEnd
  | i + 2 => s.genTurnOn i

/-- Let every pending happening before `t` take place, in order. -/
def Cell.genAdvance (t : Nat) : Nat → Cell → Cell
  | 0, s => s
  | n + 1, s =>
    match s.genNext with
    | some (at_, what) => if at_ < t then Cell.genAdvance t n (s.genFire what) else s
    | none => s

/-- Let GEN run up to `t`. -/
def Cell.genTo (s : Cell) (t : Nat) : Cell := Cell.genAdvance t 16 s

/-! ### Applying a tick (R170, R181, R182) -/

/-- Count the substitutions that are applied and the void edges of an ACTIVE command or a local pair (R169, R171). -/
def Cell.countVoid (s : Cell) (st0 st1 t1 st2 t2 : Nat) : Cell :=
  let v := voidEdges s.tickUnits t1 t2
  let n := (if s.subst st0 ≠ st0 then 1 else 0) + (if v < 2 ∧ s.subst st1 ≠ st1 then 1 else 0) +
    (if v < 1 ∧ s.subst st2 ≠ st2 then 1 else 0) + v
  (List.range n).foldl (fun s _ => s.count Kc.GEN_STAT.VCNT Kc.GEN_STAT.SAT) s

/-- Command the changes of a plan: the one at the boundary now, the others as pending edges. -/
def Cell.genPlan (s : Cell) (p : List (Nat × Nat)) : Cell :=
  match p with
  | e :: rest =>
    if e.1 = s.gen.bT then { s with gen := { s.gen with edges := rest } }.genChange e.1 e.2
    else { s with gen := { s.gen with edges := p } }
  | [] => { s with gen := { s.gen with edges := [] } }

/-- Release DIS by the main domain. -/
def Cell.disOff (s : Cell) : Cell := (s.wr Kc.GEN_STAT.DISON 0).syncJ3

/-- Cancel an arming. -/
def Cell.disarm (s : Cell) : Cell := { (s.wr Kc.GEN_STAT.ARMED 0) with gen := { s.gen with fireDue := false } }

/-- The tick is applied as PARK: OFF from the boundary, no edges, DIS released, an arming cancelled. -/
def Cell.applyPark (s : Cell) : Cell :=
  let s := s.disarm.disOff
  { (s.genPlan [(s.gen.bT, 0)]) with parkApplied := true }

/-- The local pair, in place of the copy's states (R177). -/
def Cell.applyLocal (s : Cell) : Cell :=
  let g := s.gen
  let s := s.countVoid g.lp0 g.lp1 g.lpT1 g.lp2 g.lpT2
  { (s.genPlan (s.plan g.bT 1 0)) with parkApplied := false }

/-- The tick is applied as ACTIVE with the states and offsets of `c`. -/
def Cell.applyActive (s : Cell) (c : Nat) : Cell :=
  let s := s.disarm.disOff
  if s.on Kc.GEN_CTRL.SRC then s.applyLocal
  else
    let s := s.countVoid (cSt0 c) (cSt1 c) (cT1 c) (cSt2 c) (cT2 c)
    { (s.genPlan (s.plan s.gen.bT 1 c)) with parkApplied := false }

/-- The tick is applied as HOLDLAST: the last commanded state for the whole tick; DIS keeps its level. (DEDUCED: log entry 60.) -/
def Cell.applyHold (s : Cell) : Cell :=
  let s := s.disarm
  if s.on Kc.GEN_CTRL.SRC then s.applyLocal
  else { (s.genPlan []) with parkApplied := false }

/-- The arming code of a cell address (R181). -/
def armingCode (addr : Nat) : Nat := 0xB7F1 * 2 ^ 16 + addr % 8192

/-- The tick is applied as BYPASS_FIRE with `side` as its code (R181). An arming lasts through a debug freeze: a correct code at the first boundary
after its release fires. (DESIGN CHOICE: log entry 195.) -/
def Cell.applyBypass (s : Cell) (side : Nat) : Cell :=
  if side = armingCode s.addr then
    if s.on Kc.GEN_STAT.ARMED then { s with gen := { s.gen with fireDue := true, edges := [] } }
    else
      let s := { s with gen := { s.gen with edges := [], stretch := none, want := 0, entered := none }, parkApplied := true }
      if s.on Kc.GEN_STAT.FROZEN then s
      else
        let s := (s.mark Kc.GEN_STAT.ARMED).wr Kc.GEN_STAT.STATE 0
        s.drive s.gen.bT s.genTarget
  else (s.mark Kc.GEN_STAT.BADARM).applyPark

/-- The tick is applied as DISCHARGE: OFF under the filter, DIS on, with event DIS when it turns on (R182). -/
def Cell.applyDischarge (s : Cell) : Cell :=
  let s := s.disarm
  let was := s.on Kc.GEN_STAT.DISON
  let s := (s.mark Kc.GEN_STAT.DISON).syncJ3
  let s := s.when (!was) (fun s => s.event Ev.DIS)
  { (s.genPlan [(s.gen.bT, 0)]) with parkApplied := true }

/-- The tick is applied as SENSOR: as PARK, and a power cell raises CFG (R160, R170). -/
def Cell.applySensor (s : Cell) : Cell :=
  let s := s.applyPark
  s.when (!s.sensor) (fun s => s.event Ev.CFG)

/-- GEN obeys nothing: the bypass has fired, or a freeze stops commits (R181, R185). -/
def Cell.genDeaf (s : Cell) : Bool := s.bypassed || s.on Kc.GEN_STAT.FROZEN

/-- An obeyed mode in sensor role: PARK and SENSOR have one outcome, any other is PARK with CFG (R160). (DEDUCED: log entry 62.) -/
def Cell.applySensorRole (s : Cell) (mode : Nat) : Cell :=
  let s := s.applyPark
  s.when (mode != 0 && mode != 5) (fun s => s.event Ev.CFG)

/-- Apply an obeyed command at the boundary (R170). -/
def Cell.applyMode (s : Cell) (c : Nat) : Cell :=
  if s.genDeaf then s
  else if s.sensor then s.applySensorRole (cMode c)
  else
    match cMode c with
    | 0 => s.applyPark
    | 1 => s.applyActive c
    | 2 => s.applyHold
    | 3 => s.applyBypass (cSide c)
    | 4 => s.applyDischarge
    | _ => s.applySensor

/-! ### Trips (R178, R179) -/

/-- The outputs take the levels that trip, inhibit or bypass now force, at `t`; a stretch is abandoned (R178, R184), and the commanded
changes of the tick go on unseen. (DEDUCED: log entries 58, 59.) -/
def Cell.force (s : Cell) (t : Nat) : Cell :=
  let s := { s with gen := { s.gen with stretch := none, entered := none } }
  let s := s.when (!s.genStopped) (fun s => s.wr Kc.GEN_STAT.STATE s.gen.want)
  s.drive t s.genTarget

/-- Input `i` has been active for the filter time at `t` (R178, R189). Enabled, it latches, raises its source once, and triggers a capture
that waits for a trip (R212). -/
def Cell.trip (s : Cell) (i t : Nat) : Cell :=
  let s := s.wr Kc.GEN_TRIP.ACT (setBit (s.rd Kc.GEN_TRIP.ACT) i true)
  if bit (s.rd Kc.GEN_TRIP.TEN) i && !bit (s.rd Kc.GEN_TRIP.LAT) i then
    let s := (s.genTo t).wr Kc.GEN_TRIP.LAT (setBit (s.rd Kc.GEN_TRIP.LAT) i true)
    let s := (s.mark Kc.GEN_STAT.TRIPL).force t
    (s.event (if i = 4 then Ev.OVP else Ev.DESAT)).capTrigger 4 t
  else s

/-- The trip-clear request of BCMD 3 at a boundary where the inputs `act` are active: answers whether the tick is applied as
PARK (R179). -/
def Cell.tripClear (s : Cell) (act : Nat) : Cell × Bool :=
  let s := s.wr Kc.GEN_TRIP.ACT act
  let lat := s.rd Kc.GEN_TRIP.LAT
  if lat = 0 ∨ s.genDeaf then (s, false)
  else if lat &&& act % 32 = 0 then ((s.wr Kc.GEN_TRIP.LAT 0).wr Kc.GEN_STAT.TRIPL 0, true)
  else (s.event Ev.TRCLR, false)

/-- CSTATE (R183). (DEDUCED: log entry 60.) -/
def Cell.cstate (s : Cell) : Nat :=
  if s.bypassed then 2
  else if s.on Kc.GRD_STAT.INH then 3
  else if s.sensor then 4
  else if s.tripped || s.on Kc.GEN_STAT.ARMED || s.parkApplied then 0
  else 1

/-- Inputs that are active and enabled latch at `t`: what a write to GEN_TRIP can bring about (R178, R595). (DEDUCED: log entry 61.) -/
def Cell.tripEnabled (t : Nat) (s : Cell) : Cell :=
  [0, 1, 2, 3, 4].foldl (fun s i => if bit (s.rd Kc.GEN_TRIP.ACT) i then s.trip i t else s) s

/-- Bring the outputs in line with what GEN now is to drive, once the tick has been applied: an inhibit released, a trip cleared or a
freeze ended lets the commanded state through again. (DEDUCED: log entry 59.) -/
def Cell.redrive (s : Cell) : Cell := if s.on Kc.GEN_STAT.FROZEN then s else s.drive s.gen.bT s.genTarget

/-! ### Local pairs (R177) -/

/-- A tear: the open pair is discarded, FLAGS.TORN goes into the next report, and it is counted and reported. -/
def Cell.tear (s : Cell) : Cell :=
  let s := { (s.wr Kc.GEN_STAT.OPEN 0) with torn := true, gen := { s.gen with lpAge := 0 } }
  (s.count Kc.GEN_STAT.TCNT Kc.GEN_STAT.SAT).event Ev.TORN

/-- The committed pair becomes OFF, OFF, 0, OFF, 0; a closed pair still commits at the next boundary. -/
def Cell.localOff (s : Cell) : Cell :=
  { s with gen := { s.gen with lp0 := 0, lp1 := 0, lpT1 := 0, lp2 := 0, lpT2 := 0 } }

/-- SRC returns to 0: the committed pair is discarded, with one that waits, and GEN_LPA and GEN_LPB read 0. Edges of the running tick
go on, and copies apply from the next boundary. (DESIGN CHOICE: log entry 194.) -/
def Cell.srcReturn (s : Cell) : Cell :=
  if s.on Kc.GEN_CTRL.SRC then
    let s := ((s.wr Kc.GEN_CTRL.SRC 0).wr Kc.GEN_LPA.ST0 0).wr Kc.GEN_LPA.ST1 0
    let s := ((s.wr Kc.GEN_LPA.T1 0).wr Kc.GEN_LPB.ST2 0).wr Kc.GEN_LPB.T2 0
    let s := (s.wr Kc.GEN_STAT.OPEN 0).localOff
    { s with gen := { s.gen with lpWait := none } }
  else s

/-- The part of a tick boundary that concerns local pairs: a closed pair commits, an open pair grows older. -/
def Cell.localBoundary (s : Cell) : Cell :=
  let p := s.gen.pair true
  let s := { s with gen := { s.gen with
    lp0 := p.1, lp1 := p.2.1, lpT1 := p.2.2.1, lp2 := p.2.2.2.1, lpT2 := p.2.2.2.2, lpWait := none } }
  if s.on Kc.GEN_STAT.OPEN then { s with gen := { s.gen with lpAge := s.gen.lpAge + 1 } } else s

/-- The module's security state lets an RWL field of the KC-60 change: OPEN or SERVICE (R164 and the convention of its chapter). -/
def Cell.rwlOpen (s : Cell) : Bool := s.rd Kc.CC_SEC.STATE == 0 || s.rd Kc.CC_SEC.STATE == 2

/-! ### The commands -/

/-- GEN obeys a command: its domain runs, and nothing keeps it deaf. -/
def Cell.obeys (s : Cell) : Bool := s.runs && !s.genDeaf

/-- MODE_PARK: an obeyed PARK at the boundary. -/
def modeParkCell (s : Cell) : Cell := s.when s.obeys Cell.applyPark

/-- MODE_ACTIVE: an obeyed ACTIVE with its states and offsets. -/
def modeActiveCell (c : Nat) (s : Cell) : Cell :=
  s.when s.obeys (fun s => if s.sensor then s.applySensorRole 1 else s.applyActive c)

/-- MODE_HOLDLAST: an obeyed HOLDLAST. -/
def modeHoldlastCell (s : Cell) : Cell :=
  s.when s.obeys (fun s => if s.sensor then s.applySensorRole 2 else s.applyHold)

/-- MODE_BYPASS_FIRE: an obeyed BYPASS_FIRE with the code in SIDE. -/
def modeBypassFireCell (side : Nat) (s : Cell) : Cell :=
  s.when s.obeys (fun s => if s.sensor then s.applySensorRole 3 else s.applyBypass side)

/-- MODE_DISCHARGE: an obeyed DISCHARGE. -/
def modeDischargeCell (s : Cell) : Cell :=
  s.when s.obeys (fun s => if s.sensor then s.applySensorRole 4 else s.applyDischarge)

/-- MODE_SENSOR: an obeyed SENSOR. -/
def modeSensorCell (s : Cell) : Cell := s.when s.obeys Cell.applySensor

/-- GEN_EDGE: the next commanded change of the running tick takes place at its instant (R171). -/
def genEdgeCell (s : Cell) : Cell :=
  match s.gen.edges with
  | e :: _ => if s.on Kc.GEN_STAT.FROZEN then s else (s.genTo e.1).genFire 0
  | [] => s

/-- GATE_TURN_ON: the pending turn-on of Gi takes effect (R173). -/
def gateTurnOnCell (i : Nat) (s : Cell) : Cell :=
  let due := Tab.get 0 i s.gen.on
  if due = 0 ∨ s.turnOnRuns i = false then s else (s.genTo (due - 1)).genTurnOn i

/-- STRETCH_END: a stretched dwell ends (R175). -/
def stretchEndCell (s : Cell) : Cell :=
  match s.gen.stretch with
  | some e => if s.on Kc.GEN_STAT.FROZEN then s else (s.genTo e).genStretchEnd
  | none => s

/-- BYPASS_ARMED_FIRE: 2 µs after the boundary of the second arming copy GEN fires BYP with every output off; a freeze stops it for good
(R181, R185). (DEDUCED: log entry 58.) -/
def bypassArmedFireCell (s : Cell) : Cell :=
  if s.gen.fireDue && !s.genStopped then
    let s := (s.mark Kc.GEN_STAT.BYPF).mark Kc.GRD_STAT.BYPF
    let s := { s with gen := { s.gen with fireDue := false } }
    ((s.force (s.gen.bT + 1600)).syncJ3).event Ev.BYP
  else s

/-- The write would leave MINP non-zero and not greater than the dead times in use (R174). -/
def Cell.minpBad (s : Cell) (minp dt0 dt1 : Nat) : Bool :=
  minp != 0 && (decide (minp ≤ dt0) || (s.on Kc.GEN_CTRL.TOPO && decide (minp ≤ dt1)))

/-- Write GEN_MINP; answers whether the write was taken whole (R174). -/
def Cell.writeMinp (s : Cell) (v : Nat) : Cell × Bool :=
  let m := v % 2 ^ 16
  if m = s.rd Kc.GEN_MINP.MINP then (s, true)
  else if !s.rwlOpen ∨ s.minpBad m (s.rd Kc.GEN_DT.DT0) (s.rd Kc.GEN_DT.DT1) then (s, false)
  else (s.wr Kc.GEN_MINP.MINP m, true)

/-- Write GEN_DT: a reserved dead time keeps its value; answers whether the write was taken whole (R10, R174, R188). -/
def Cell.writeDt (s : Cell) (v : Nat) : Cell × Bool :=
  let ok0 := Kc.GEN_DT.DT0.ok (bits v 0 14)
  let ok1 := Kc.GEN_DT.DT1.ok (bits v 16 14)
  let d0 := if ok0 then bits v 0 14 else s.rd Kc.GEN_DT.DT0
  let d1 := if ok1 then bits v 16 14 else s.rd Kc.GEN_DT.DT1
  if d0 = s.rd Kc.GEN_DT.DT0 ∧ d1 = s.rd Kc.GEN_DT.DT1 then (s, ok0 && ok1)
  else if !s.rwlOpen ∨ s.minpBad (s.rd Kc.GEN_MINP.MINP) d0 d1 then (s, false)
  else ((s.wr Kc.GEN_DT.DT0 d0).wr Kc.GEN_DT.DT1 d1, ok0 && ok1)

/-- GEN_MINP_DT_WRITE: a write to GEN_DT (`dt`) or to GEN_MINP (R174). -/
def genMinpDtWriteCell (dt : Bool) (v : Nat) (s : Cell) : Cell :=
  s.when s.runs (fun s => if dt then (s.writeDt v).1 else (s.writeMinp v).1)

/-- Write GEN_CTRL.SRC; answers whether the write was taken (R177, R187). -/
def Cell.writeSrc (s : Cell) (v : Nat) : Cell × Bool :=
  let v := v % 2
  if v = s.rd Kc.GEN_CTRL.SRC then (s, true)
  else if !s.rwlOpen ∨ s.hmode ≠ 2 then (s, false)
  else if v = 1 then ((s.wr Kc.GEN_CTRL.SRC 1).localOff, true)
  else (s.srcReturn, true)

/-- GEN_SRC_SET: SRC is set to LOCAL in TEST, and the committed pair becomes OFF (R177); where it is LOCAL already nothing changes (R8). -/
def genSrcSetCell (s : Cell) : Cell := s.when s.runs (fun s => (s.writeSrc 1).1)

/-- Write GEN_LPA; answers whether the write was taken whole (R177, R190). Where the fields are locked it changes nothing, and is refused only
with other values than theirs (R8). -/
def Cell.writeLpa (s : Cell) (v : Nat) : Cell × Bool :=
  if !s.rwlOpen then
    (s, s.rd Kc.GEN_LPA.ST0 == bits v 19 3 && s.rd Kc.GEN_LPA.ST1 == bits v 16 3 && s.rd Kc.GEN_LPA.T1 == bits v 0 16)
  else if s.on Kc.GEN_STAT.OPEN then (s.tear, true)
  else
    let ok0 := Kc.GEN_LPA.ST0.ok (bits v 19 3)
    let ok1 := Kc.GEN_LPA.ST1.ok (bits v 16 3)
    let s := if ok0 then s.wr Kc.GEN_LPA.ST0 (bits v 19 3) else s
    let s := if ok1 then s.wr Kc.GEN_LPA.ST1 (bits v 16 3) else s
    let s := (s.wr Kc.GEN_LPA.T1 (bits v 0 16)).mark Kc.GEN_STAT.OPEN
    ({ s with gen := { s.gen with lpAge := 0 } }, ok0 && ok1)

/-- GEN_LPA_WRITE. -/
def genLpaWriteCell (v : Nat) (s : Cell) : Cell := s.when s.runs (fun s => (s.writeLpa v).1)

/-- Write GEN_LPB; answers whether the write was taken whole (R177, R190). Closing a pair fixes what commits, whatever is staged later; where
the fields are locked, as for GEN_LPA. -/
def Cell.writeLpb (s : Cell) (v : Nat) : Cell × Bool :=
  if !s.rwlOpen then (s, s.rd Kc.GEN_LPB.ST2 == bits v 16 3 && s.rd Kc.GEN_LPB.T2 == bits v 0 16)
  else if !s.on Kc.GEN_STAT.OPEN then (s.tear, true)
  else
    let ok2 := Kc.GEN_LPB.ST2.ok (bits v 16 3)
    let s := if ok2 then s.wr Kc.GEN_LPB.ST2 (bits v 16 3) else s
    let s := (s.wr Kc.GEN_LPB.T2 (bits v 0 16)).wr Kc.GEN_STAT.OPEN 0
    let p := (s.rd Kc.GEN_LPA.ST0, s.rd Kc.GEN_LPA.ST1, s.rd Kc.GEN_LPA.T1, s.rd Kc.GEN_LPB.ST2, s.rd Kc.GEN_LPB.T2)
    ({ s with gen := { s.gen with lpWait := some p, lpAge := 0 } }, ok2)

/-- GEN_LPB_WRITE. -/
def genLpbWriteCell (v : Nat) (s : Cell) : Cell := s.when s.runs (fun s => (s.writeLpb v).1)

/-- LOCAL_PAIR_TORN: a pair that stayed open through 16 boundaries is torn (R177). -/
def localPairTornCell (s : Cell) : Cell := if s.on Kc.GEN_STAT.OPEN && decide (16 ≤ s.gen.lpAge) then s.tear else s

/-- GEN_FREEZE: every output keeps its level, and pending changes stop (R185). -/
def genFreezeCell (s : Cell) : Cell :=
  if s.runs then { (s.mark Kc.GEN_STAT.FROZEN) with gen := { s.gen with resume := false } } else s

/-- GEN_FREEZE_RELEASE: GEN resumes at the next boundary with that tick's staged command; the state in force is then the last commanded
one, and a trip's own turn-ons go on (R178, R185). -/
def genFreezeReleaseCell (s : Cell) : Cell :=
  if s.on Kc.GEN_STAT.FROZEN then
    { (s.wr Kc.GEN_STAT.FROZEN 0) with gen := { s.gen with
      resume := true, edges := [], stretch := none, want := s.rd Kc.GEN_STAT.STATE, fireDue := false
      on := if s.tripped then s.gen.on else [] } }
  else s

end Sys2Proof.Machine
end

