-- ==== Sys2Proof/Machine/CellMeas.lean ====
section
/-! DEFINITION. Cell measurement (R193 to R209): the conversion grid, the spare's work, calibration runs, and the frozen report fields; and
the commands of capture (R211 to R214). Instants count 1.25 ns. -/

namespace Sys2Proof.Machine

/-! ### Slices (R204, R205) -/

/-- Slices that have not failed. -/
def Cell.usable (s : Cell) : Nat := 3 - ((List.range 3).filter (fun i => bit (s.rd Kc.ADC_CAL.FAIL) i)).length

/-- The slots work is counted in: the spare's 40 ns, or the points of the fast grid (R197). -/
def Cell.slotLen (s : Cell) : Nat := if s.sharedRow then s.grid else 32

/-- The usable slice with the oldest calibration among those not `skip`; 3 if none. -/
def Cell.oldest (s : Cell) (skip : Nat) : Nat :=
  (List.range 3).foldl (fun best i =>
    if i = skip ∨ bit (s.rd Kc.ADC_CAL.FAIL) i then best
    else if best = 3 ∨ Tab.get 0 i s.meas.age < Tab.get 0 best s.meas.age then i else best) 3

/-- The row of R205 and a handover of R203 take effect at a tick boundary, for conversions from it on (R148). (DESIGN CHOICE: log entries 63, 198.) -/
def Cell.slicesBoundary (s : Cell) : Cell :=
  let spare := s.rd Kc.ADC_CAL.SPARE
  let s := (s.onMeas (fun m => { m with slices := s.usable, single := s.power == 2 })).logConfig s s.gen.bT
  let s := s.wr Kc.ADC_STAT.SHARED (b2n s.sharedRow)
  let s := s.wr Kc.ADC_STAT.DROP (b2n (s.tickUnits % s.grid != 0))
  let s := if s.sharedRow then ((s.wr Kc.ADC_CAL.SPARE 3).wr Kc.ADC_CAL.BUSY 0).wr Kc.ADC_CAL.WAIT 0
    else if spare = 3 then s.wr Kc.ADC_CAL.SPARE (s.oldest 3)
    else if s.meas.handover then s.wr Kc.ADC_CAL.SPARE (s.oldest spare)
    else s
  s.onMeas (fun m => { m with handover := false })

/-! ### The sequence (R197 to R199, R208) -/

/-- In sensor role entries 0 to 2 always convert, ungated. -/
def Cell.entryOn (s : Cell) (i : Nat) : Bool := (s.sensor && decide (i ≤ 2)) || s.on Kc.ADC_SEQn.EN i

/-- The gate of an entry: 0 ungated. -/
def Cell.entryGate (s : Cell) (i : Nat) : Nat := if s.sensor ∧ i ≤ 2 then 0 else s.rd Kc.ADC_SEQn.GATE i

/-- Enabled entries without a gate, in rising number. -/
def Cell.ungated (s : Cell) : List Nat := (List.range 8).filter (fun i => s.entryOn i && s.entryGate i == 0)

/-- The gate condition of an entry holds at `t`: its switch has been on for ADC_CTRL.SETL (R199). -/
def Cell.gateReady (s : Cell) (gate t : Nat) : Bool :=
  (gate == 1 || gate == 2) && s.gateOnFor (gate - 1) (80 * s.rd Kc.ADC_CTRL.SETL) t

/-- The gate output of an entry is on at the conversion instant (R199). -/
def Cell.gateStill (s : Cell) (gate t : Nat) : Bool := (gate == 1 || gate == 2) && bit (s.levelsAt t) (gate - 1)

/-- The input of channel `i` of a sensor (R160, R167). -/
def Cell.selInput (s : Cell) (i : Nat) : Nat := bits (s.rd Kc.CC_ROLE.SEL) (3 * i) 3

/-- The fast input (R194). -/
def Cell.fastInput (s : Cell) : Nat := if s.sensor then s.selInput 0 else s.rd Kc.ADC_CTRL.FAST

/-- The input of a sequence entry (R198, R208). -/
def Cell.entryInput (s : Cell) (i : Nat) : Nat := if s.sensor ∧ i ≤ 2 then s.selInput (i + 1) else s.rd Kc.ADC_SEQn.INP i

/-- The code of an input at `t`: the last one given from then or before. (DESIGN CHOICE: log entry 165.) -/
def Cell.codeAt (s : Cell) (inp t : Nat) : Nat :=
  match (s.meas.ain.filter (fun e => decide (e.1 ≤ t))).getLast? with
  | some e => (e.2.toList.getD inp 0).toNat
  | none => 0

/-- What the module sees of its inputs since the last look. (DESIGN CHOICE: log entry 165.) -/
def Cell.seeInputs (s : Cell) (run : AinRun) : Cell :=
  s.onMeas (fun m => { m with ain := m.ain ++ run.map (fun e => (m.lookT + e.1, e.2)) })

/-- Codes given for instants before the newest one given at or before `t`. -/
def dropCodes (t : Nat) : List (Nat × AinCodes) → List (Nat × AinCodes)
  | a :: b :: r => if b.1 ≤ t then dropCodes t (b :: r) else a :: b :: r
  | l => l

/-- The look ends at `t`, conversions before `done` being formed. -/
def Cell.looked (s : Cell) (t done : Nat) : Cell :=
  (s.trimGates done).onMeas (fun m => { m with lookT := t, ain := dropCodes done m.ain })

/-- What a slot is given to. -/
inductive Work where
  | inject (inp : Nat)
  | entry (n : Nat) (rep : Bool)
  | none
deriving DecidableEq, Repr

/-- The work of a slot that begins at `t` (R197). -/
def Cell.work (s : Cell) (t : Nat) : Work :=
  let inj := match s.meas.inj with | some e => if e.1 < t then some e.2 else none | none => none
  match inj with
  | some inp => .inject inp
  | none =>
    match s.meas.todo with
    | n :: _ => .entry n false
    | [] =>
      let gated := (List.range 8).find? (fun i =>
        let last := Tab.get 0 i s.meas.gated
        s.entryOn i && s.gateReady (s.entryGate i) t && (last == 0 || decide (last - 1 + 800 ≤ t)))
      match gated with
      | some n => .entry n false
      | none =>
        let u := s.ungated
        if (s.sensor || s.on Kc.ADC_CTRL.SREP) && !s.meas.wasRep && !u.isEmpty then
          .entry (u.getD (s.meas.rot % u.length) 0) true
        else .none

/-- A conversion clips (R193). -/
def clips (c : Nat) : Bool := c == 0x8000 || c == 0x7FFF

/-- A clipped conversion at `t` raises ADCRNG once per tick and counts the tick (R209); one of a sensor channel shows in OVR (R161). -/
def Cell.clip (s : Cell) (t c : Nat) (chan : Bool) : Cell :=
  if clips c then
    let n := s.tickAt t
    let s := if chan then s.onMeas (fun m => { m with chClip := m.sTick + 1 }) else s
    if s.meas.clipTicks.contains n then s
    else ((s.onMeas (fun m => { m with clipTicks := (n :: m.clipTicks).take 3 })).count Kc.ADC_STAT.CCNT Kc.ADC_STAT.SAT).event Ev.ADCRNG
  else s

/-- The conversion of an entry at `t` is written to its result register, with its tick (R198, R208). -/
def Cell.result (s : Cell) (n t c : Nat) : Cell :=
  let s := ((s.wr Kc.ADC_RESn.CODE c n).wr Kc.ADC_RESn.TK (s.tickAt t % 256) n).mark Kc.ADC_RESn.VALID n
  let s := s.wr Kc.ADC_RESn.CLIP (b2n (clips c)) n
  let s := s.onMeas (fun m => { m with newConv := if n ≤ 2 then setBit m.newConv n true else m.newConv })
  let s := if s.sensor ∧ n ≤ 2 then s.onMeas (fun m => { m with
      chSum := Tab.upd 0 (n + 1) (· + sx 16 c) m.chSum, chCnt := Tab.upd 0 (n + 1) (· + 1) m.chCnt }) else s
  s.clip t c (s.sensor && decide (n ≤ 2))

/-! ### Points and slots -/

/-- A fast-input conversion at `t` joins the tick's mean and the capture buffer. -/
def Cell.fastConv (s : Cell) (t : Nat) : Cell :=
  let c := s.codeAt s.fastInput t
  let s := s.onMeas (fun m => { m with sum := m.sum + sx 16 c, cnt := m.cnt + 1 })
  (s.clip t c s.sensor).capConv t (sx 16 c)

/-- A sequence entry converts at `t`; a gated one is written only with its gate output still on (R199). -/
def Cell.doEntry (s : Cell) (n t : Nat) (rep : Bool) : Cell :=
  let gate := s.entryGate n
  let c := s.codeAt (s.entryInput n) t
  let s := s.onMeas (fun m => { m with
    todo := if gate = 0 ∧ !rep then m.todo.drop 1 else m.todo
    chVal := if gate = 0 ∧ !rep then Tab.set 0 (n + 1) (sx 16 c) m.chVal else m.chVal
    gated := if gate = 0 then m.gated else Tab.set 0 n (t + 1) m.gated
    rot := if rep then m.rot + 1 else m.rot
    wasRep := rep })
  if gate = 0 ∨ s.gateStill gate t then s.result n t c else s

/-- One point of the pair's grid (R195). -/
def Cell.fastStep (s : Cell) : Cell :=
  (s.fastConv s.meas.fastT).onMeas (fun m => { m with fastT := m.fastT + s.grid })

/-- One slot of the spare, or one point of the shared grid (R197, R205). -/
def Cell.slotStep (s : Cell) : Cell :=
  let t := s.meas.slotT
  let w := s.work t
  let s := s.onMeas (fun m => { m with slotT := t + s.slotLen, wasRep := false })
  match w with
  | .inject inp => s.onMeas (fun m => { m with inj := none, injCode := some (BitVec.ofNat 16 (s.codeAt inp t)) })
  | .entry n rep => s.doEntry n t rep
  | .none => s.when s.sharedRow (fun s => s.fastConv t)

/-- How many steps of length `len` from `next` on begin before `t` and end by the next sample instant (R195). -/
def Cell.stepsBefore (s : Cell) (next len t : Nat) : Nat := (min t (s.meas.sT + s.tickUnits + 1 - len) - next + len - 1) / len

/-- The conversions before `t` that are not formed yet, as things are set: fast ones beside the spare's, or all on one grid where they are
shared; none before the first sample instant and without a usable slice (R195, R197, R205). (DESIGN CHOICE: log entry 63.) -/
def Cell.formTo (s : Cell) (t : Nat) : Cell :=
  if s.meas.slices = 0 ∨ s.meas.fastT = 0 then s
  else
    let s := if s.sharedRow then s
      else (List.range (s.stepsBefore s.meas.fastT s.grid t)).foldl (fun s _ => s.fastStep) s
    (List.range (s.stepsBefore s.meas.slotT s.slotLen t)).foldl (fun s _ => s.slotStep) s

/-- The same, an abort of CAP taking effect at its instant. (DESIGN CHOICE: log entry 197.) -/
def Cell.stopTo (s : Cell) (t : Nat) : Cell :=
  match s.meas.stop with
  | some (u, st, trigs) =>
    let s := ((s.wr Kc.CAP_STAT.STATE st).onMeas (fun m => { m with trigs := trigs })).formTo (min u t)
    let rest := if t < u then some (u, s.capState, s.meas.trigs) else none
    let s := s.capStop.onMeas (fun m => { m with stop := rest })
    if t < u then s else s.formTo t
  | none => s.formTo t

/-- The same for a module set to the first of the settings `l` kept, or without one to `now`, and moving on from each at its instant. -/
def Cell.formUnder (t : Nat) (now : MeasConfig) : List (Nat × MeasConfig) → Cell → Cell
  | [], s => (s.stopTo t).onMeas (fun m => { m with configs := [] })
  | e :: rest, s =>
    let s := s.stopTo (min e.1 t)
    if t < e.1 then (s.configured now).onMeas (fun m => { m with configs := e :: rest })
    else Cell.formUnder t now rest (s.configuredFrom e.1 (match rest with | n :: _ => n.2 | [] => now))

/-- The conversions before `t` that are not formed yet, each under what was set at its instant (R194, R198, R205). (DESIGN CHOICE: log entry 198.) -/
def Cell.convertTo (s : Cell) (t : Nat) : Cell :=
  match s.meas.configs with
  | e :: rest => (s.configured e.2).formUnder t s.config (e :: rest)
  | [] => s.stopTo t

/-! ### Report fields (R206, R207, R161) -/

/-- (code sum − offset × number) × gain / 2^14 / number plus `add`, rounded and clamped to 0 – `top` (R207). -/
def scaleField (sum : Int) (cnt : Nat) (ofs gain : Int) (add top : Nat) : Nat :=
  (max 0 (min (divNear ((sum - ofs * cnt) * gain + add * (2 ^ 14 * cnt)) (2 ^ 14 * cnt)) (top : Int))).toNat

/-- VCAP of a code sum past a number of conversions. -/
def Cell.vcap (s : Cell) (sum : Int) (cnt : Nat) : Nat :=
  scaleField sum cnt (sx 16 (s.rd Kc.ADC_VSC.COFS)) (s.rd Kc.ADC_VSC.CGAIN) 0 65535

/-- The newest result of entry 0 or 1 as an on-state voltage. -/
def Cell.vce (s : Cell) (i : Nat) : Nat :=
  scaleField (sx 16 (s.rd Kc.ADC_RESn.CODE i)) 1 (sx 16 (s.rd Kc.ADC_ESC.EOFS)) (s.rd Kc.ADC_ESC.EGAIN) 0 4095

/-- The newest result of entry 2 as a temperature. -/
def Cell.tempField (s : Cell) : Nat :=
  scaleField (sx 16 (s.rd Kc.ADC_RESn.CODE 2)) 1 (sx 16 (s.rd Kc.ADC_TSC.TOFS)) (sx 16 (s.rd Kc.ADC_TSC.TGAIN)) 160 1022

/-- A sensor channel: the mean of the previous tick where MEAN asks for it, else the value at the sample instant (R161). The mean of no
conversion is free. (DESIGN CHOICE: log entry 25.) -/
def Cell.channel (s : Cell) (i : Nat) : Nat :=
  let m := s.meas
  let v : Int := if i = 0 then m.sample else Tab.get 0 i m.chVal
  let sum := if i = 0 then m.mSum else Tab.get 0 i m.chMSum
  let cnt := if i = 0 then m.mCnt else Tab.get 0 i m.chMCnt
  toBits 16 (if bit (s.rd Kc.CC_ROLE.MEAN) i then
    (if cnt = 0 then (Config.unstated (m.free + i) : Int) else divNear sum cnt) else v)

/-- Bits [179:114] of the report, as they are frozen at F(n). The mean of an interval without a conversion is free. (DESIGN CHOICE: log entries 25, 41.) -/
def Cell.fields (s : Cell) : Nat :=
  let m := s.meas
  if m.slices = 0 then 0
  else if s.sensor then
    (((s.channel 0 * 2 ^ 16 + s.channel 1) * 2 ^ 16 + s.channel 2) * 2 ^ 16 + s.channel 3) * 4 + 2 * b2n (m.chClip == m.sTick + 1)
  else
    (((s.vcap m.sample 1 * 2 ^ 16 + (if m.mCnt = 0 then Config.unstated m.free % 2 ^ 16 else s.vcap m.mSum m.mCnt)) * 2 ^ 12 + m.vceA) * 2 ^ 12 + m.vceB) *
      2 ^ 10 + m.temp

/-- Freeze the measurement fields of the tick of the last sample instant: a report of that tick that is fixed and not yet written
anywhere takes them in place of the older ones (R206). (DEDUCED: log entry 72.) -/
def Cell.freeze (s : Cell) : Cell :=
  let nc := s.meas.newConv
  let a := if bit nc 0 then s.vce 0 else s.meas.vceA
  let b := if bit nc 1 then s.vce 1 else s.meas.vceB
  let t := if bit nc 2 then s.tempField else s.meas.temp
  let s := s.onMeas (fun m => { m with vceA := a, vceB := b, temp := t, newConv := 0 })
  let s := s.onMeas (fun m => { m with frozen := s.fields, frozenTick := m.sTick + 1, free := m.free + 4 })
  let n := s.meas.sTick
  let r := Tab.get 0 n s.reports
  if bit r 128 && !bit r 129 then
    { s with reports := Tab.set 0 n (putBits (putBits r 50 66 s.meas.frozen) 41 1 (b2n (s.meas.slices == 0))) s.reports }
  else s

/-! ### The commands -/

/-- The sample instant in the running tick, and the tick it samples: CTM_SOFS may reach past the tick's end (R51). -/
def Cell.sampleAt (s : Cell) : Nat × Nat :=
  let o := s.rd Kc.CTM_SOFS.SOFS
  (s.gen.bT + o % s.tickUnits, (s.tick + 2 ^ 48 - o / s.tickUnits) % 2 ^ 48)

/-- CELL_SAMPLE: the sample instant S(n), with the analogue inputs since the last look and the die temperature. The grid and the slots
restart, and F(n) is fixed (R51, R195, R197, R206). -/
def cellSampleCell (inp : AinRun) (die : Nat) (s : Cell) : Cell :=
  if !s.runs then s
  else
    let a := s.sampleAt
    let s := (s.seeInputs inp).convertTo a.1
    let past := decide (660 < die % 1024) && !decide (660 < s.rd Kc.ADC_DIE.DIE)
    let s := (s.wr Kc.ADC_DIE.DIE die).when past (fun s => s.event Ev.TEMP)
    let s := s.onMeas (fun m => { m with
      mSum := m.sum, mCnt := m.cnt, sum := 0, cnt := 0, chMSum := m.chSum, chMCnt := m.chCnt, chSum := [], chCnt := [],
      sample := sx 16 (s.codeAt s.fastInput a.1), sT := a.1, sTick := a.2, fT := a.1 + (if m.single || decide (m.slices < 2) then 640 else 192),
      fastT := if m.slices = 0 then 0 else a.1 + s.grid, slotT := if s.sharedRow then a.1 + s.grid else a.1,
      todo := s.ungated, rot := 0, wasRep := false })
    (s.when (s.meas.slices != 0) (fun s => s.fastConv a.1)).looked a.1 a.1

/-- REPORT_FREEZE: the freeze instant F(n), with the analogue inputs since S(n); a conversion counts that is complete before then, its code being
available 140 ns after its instant (R196, R206, R207). -/
def reportFreezeCell (inp : AinRun) (s : Cell) : Cell :=
  if !s.runs then s
  else
    let f := s.meas.fT
    (((s.seeInputs inp).convertTo (f - 112)).freeze).looked f (f - 112)

/-- ADC_INJ_GO: ADC_INJ is written with GO at `t` × 1.25 ns after the boundary: INP takes the input, and one conversion of it is requested; while one is
pending the request is ignored and IOVR is set (R8, R200, R217). -/
def adcInjGoCell (inp t : Nat) (s : Cell) : Cell :=
  if !s.runs then s
  else if s.on Kc.ADC_IRES.PEND then (s.wr Kc.ADC_INJ.INP inp).mark Kc.ADC_IRES.IOVR
  else ((s.wr Kc.ADC_INJ.INP inp).mark Kc.ADC_IRES.PEND).onMeas (fun m => { m with inj := some (s.gen.bT + t, inp % 8), injCode := none })

/-- The result of an injected conversion reaches ADC_IRES, PEND clears, and a run held for it starts (R200, R202). -/
def Cell.injected (s : Cell) (code : Nat) : Cell :=
  let s := ((s.wr Kc.ADC_IRES.PEND 0).wr Kc.ADC_IRES.CODE code).mark Kc.ADC_IRES.VALID
  let s := (s.wr Kc.ADC_IRES.CLIP (b2n (clips code))).onMeas (fun m => { m with injCode := none })
  if s.on Kc.ADC_CAL.WAIT then (s.wr Kc.ADC_CAL.WAIT 0).mark Kc.ADC_CAL.BUSY else s

/-- INJECTED_CONVERSION_DONE: at `t` × 1.25 ns after the boundary, with the analogue inputs since the last look, the conversion that was
asked for has had its slot, and its result is written (R197, R200). -/
def injectedConversionDoneCell (inp : AinRun) (t : Nat) (s : Cell) : Cell :=
  if s.runs && s.on Kc.ADC_IRES.PEND then
    let u := s.gen.bT + t
    let s := (s.seeInputs inp).convertTo (u - 111)
    let s := match s.meas.injCode with | some c => s.injected c.toNat | none => s
    s.looked u (u - 111)
  else s

/-- A calibration run is due: it starts on the spare, or waits for a pending injected conversion; ignored while a run is in
progress or waiting, and without a spare (R201, R202, R205). -/
def Cell.calStart (s : Cell) : Cell :=
  if !s.runs ∨ s.on Kc.ADC_CAL.BUSY ∨ s.on Kc.ADC_CAL.WAIT ∨ s.sharedRow then s
  else if s.on Kc.ADC_IRES.PEND then s.mark Kc.ADC_CAL.WAIT
  else s.mark Kc.ADC_CAL.BUSY

/-- ADC_CAL_GO. -/
def adcCalGoCell (s : Cell) : Cell := s.calStart

/-- CALIBRATION_RUN_START: the interval of ADC_CAL.ROT has passed; 0 times no runs (R201). -/
def calibrationRunStartCell (s : Cell) : Cell := if s.rd Kc.ADC_CAL.ROT = 0 then s else s.calStart

/-- The limits of a run: offset within 64 codes, gain within 1 % (given in 0.01 %), residual within 8 codes RMS (given in 1/16
code) (R201). -/
def calPasses (ofs gain : Int) (res : Nat) : Bool := decide (ofs.natAbs ≤ 64 ∧ gain.natAbs ≤ 100 ∧ res ≤ 128)

/-- CALIBRATION_RUN_END: the run ends with what it measured. A failed slice keeps its coefficients and leaves service; a good
one joins the pair at the next boundary (R201, R203). -/
def calibrationRunEndCell (ofs gain : Int) (res : Nat) (s : Cell) : Cell :=
  if s.runs && s.on Kc.ADC_CAL.BUSY then
    let spare := s.rd Kc.ADC_CAL.SPARE
    let s := (s.wr Kc.ADC_CAL.BUSY 0).count Kc.ADC_CAL.RUNS Kc.ADC_CAL.SAT
    if calPasses ofs gain res then
      s.onMeas (fun m => { m with handover := true, age := Tab.set 0 spare (m.clock + 1) m.age, clock := m.clock + 1 })
    else (s.wr Kc.ADC_CAL.FAIL (setBit (s.rd Kc.ADC_CAL.FAIL) spare true)).event Ev.ADCCAL
  else s

/-- CAP_ARM: a write of 1 to CAP_CTRL.ARM, `tofs` × 10 ns into the tick (R211). -/
def capArmCell (tofs : Nat) (s : Cell) : Cell := s.when s.runs (fun s => s.capArm (s.gen.bT + 8 * tofs))

/-- CAP_ABORT. -/
def capAbortCell (tofs : Nat) (s : Cell) : Cell := s.when s.runs (fun s => s.capAbort (s.gen.bT + 8 * tofs))

/-- CAP_TRIG: a write of 1 to CAP_CTRL.TRIG fires at once, with CAUSE 0 (R212). -/
def capTrigCell (tofs : Nat) (s : Cell) : Cell := s.when s.runs (fun s => s.capTrigger 0 (s.gen.bT + 8 * tofs))

/-- CAP_TRIGGER: an enabled source fires (R212, R214). -/
def capTriggerCell (src tofs : Nat) (s : Cell) : Cell :=
  s.when (s.runs && decide (1 ≤ src ∧ src ≤ 7)) (fun s => s.capTrigger src (s.gen.bT + 8 * tofs))

/-- CAP_POST_COMPLETE: the last post-trigger word is written: DONE (R211). -/
def capPostCompleteCell (s : Cell) : Cell :=
  if s.runs ∧ s.capState = capPost ∧ s.meas.trigs = [] ∧ s.rd Kc.CAP_NPOST.NPOST = s.rd Kc.CAP_CFG.POST then
    s.wr Kc.CAP_STAT.STATE capDone
  else s

end Sys2Proof.Machine
end

