-- ==== Sys2Proof/Machine/CellFrames.lean ====
section
/-! DEFINITION. Frames at a KC-60 (R44 to R53, R99 to R135): headers, time, positions, copies, reports, trailers, folding, and what
a tick boundary does to the whole module. Times of arrival and departure count 1/16 ns. -/

namespace Sys2Proof.Machine

/-! ### Headers -/

/-- The string number the module checks a header with (R104). -/
def Cell.checkStr (s : Cell) (h : Header) : Nat := if s.pos.isSome then s.str else h.str.toNat

/-- Both ports are out of a fold: frames are forwarded (R122). -/
def Cell.forwards (s : Cell) : Bool := !s.w.folded && !s.e.folded

/-- The candidate position of a valid header (R114). -/
def candidate (p : Port) (h : Header) : Option Int :=
  let d : Int := (h.hop.toNat : Int) - h.lhop.toNat
  match h.lposInt, p with
  | none, _ => none
  | some l, .w => some (l + d + 1)
  | some l, .e => some (l - d - 1)

/-- A candidate that is a position of a string; one outside 0 to 255 forms no placement. (DESIGN CHOICE: log entry 155.) -/
def candPos (c : Option Int) : Option Nat :=
  match c with
  | some v => if 0 ≤ v ∧ v ≤ 255 then some v.toNat else none
  | none => none

/-- A valid header has come on a port that is not folded: one on a folded port is read for copies only (R122). -/
def Cell.heard (s : Cell) (p : Port) : Bool := (s.port p).seen && !(s.port p).folded

/-- Drop the position, and the string number with it. -/
def Cell.unplace (s : Cell) : Cell := { s with pos := none, str := 0, posRun := 0 }

/-- Take position `k` on string `n`. -/
def Cell.place_ (s : Cell) (k n : Nat) : Cell := { s with pos := some k, str := n, posRun := 0 }

/-- What a valid header does to the position (R115). -/
def Cell.positionStep (s : Cell) (h : Header) : Cell :=
  if h.disc then
    let s := s.unplace
    match h.mode.toNat, candPos s.w.cand, s.w.last with
    | 0, some k, some hw => if s.heard .w && hw.disc then s.place_ k hw.str.toNat else s
    | _, _, _ => s
  else if s.pos.isSome then s
  else
    match candPos s.w.cand, candPos s.e.cand, s.w.last, s.e.last with
    | some a, some b, some hw, some he =>
      if s.heard .w && s.heard .e && a == b && hw.str == he.str then s.place_ a hw.str.toNat else s
    | _, _, _, _ => s

/-- What one cycle of the recovered clock adds to the counter, in 2^-32 ns: 10 ns / (1 + s), the deviation s falling from 0 to −0.30 %
and rising back over K ticks; `x` counts the cycles since a period began (R41, R43). (DESIGN CHOICE: log entry 153.) -/
def spreadStep (h : Header) (x : Nat) : Nat :=
  let n := h.sk.toNat * h.tlen.toNat
  let y := x % n
  let tri := if 2 * y ≤ n then 2 * y else 2 * (n - y)
  if h.spen then 10 * 2 ^ 32 * (1000 * n) / (1000 * n - 3 * tri) else 10 * 2 ^ 32

/-- What `k` cycles from cycle `x` of a period on add. (DESIGN CHOICE: log entry 153.) -/
def spreadSum (h : Header) (x : Nat) : Nat → Nat
  | 0 => 0
  | k + 1 => spreadSum h x k + spreadStep h (x + k)

/-- The counter since the last boundary, in 1/16 ns, after `cyc` cycles of the clock recovered from the time source (R43): the spreading
of the header that last gave the time, at the phase of the running tick. (DESIGN CHOICE: log entry 153.) -/
def Cell.elapsed (s : Cell) (cyc : Nat) : Nat :=
  match s.tsrc with
  | some h => spreadSum h ((h.sph.toNat + ticksTo h.tickno.toNat s.tick) % max 1 h.sk.toNat * h.tlen.toNat) cyc / 2 ^ 28
  | none => 160 * cyc

/-- The instant `cyc` cycles and `frac` × 1/16 ns after the last boundary on the module's own counter, 1/16 ns (R43, R46). -/
def Cell.instant (s : Cell) (cyc frac : Nat) : Int := 20 * (s.gen.bT : Int) + s.elapsed cyc + frac + s.ofs

/-- The stream in use as time source, by the end it comes from (CTM_STAT.SRC). -/
def Cell.curSource (s : Cell) : Port := if s.on Kc.CTM_STAT.LOCK && s.on Kc.CTM_STAT.SRC then .e else .w

/-- The stream to take the time from, of those with a valid header `a` on W and `b` on E; a rate-faulted stream gives none (R49, R53). -/
def Cell.timeChoice (s : Cell) (a b : Option Header) : Option Port :=
  let cur := s.curSource
  let barred := fun (p : Port) => s.on Kc.CTM_STAT.RATE && p != cur
  match a, b with
  | none, none => none
  | some _, none => if barred .w then none else some .w
  | none, some _ => if barred .e then none else some .e
  | some a, some b =>
    if s.on Kc.CTM_STAT.RATE then some cur
    else if a.duty && !b.duty then some .w
    else if b.duty && !a.duty then some .e
    else if a.duty && b.duty then
      (if higher16 a.cseq.toNat b.cseq.toNat then some .w
       else if higher16 b.cseq.toNat a.cseq.toNat then some .e else some cur)
    else some .w

/-- A port's stream as it stands in the running tick: its valid header of this tick, or, that not having come yet, of the tick before;
no fold frame, and none of a folded port (R49, R122, R123). (DEDUCED: log entry 56.) -/
def Cell.streamHeader (s : Cell) (p : Port) : Option Header :=
  match (s.port p).last with
  | some h => if (s.port p).noHdr = 0 ∧ !h.isFold ∧ !(s.port p).folded then some h else none
  | none => none

/-- The time source while the headers of a tick come in. -/
def Cell.timeSource (s : Cell) : Option Port := s.timeChoice (s.streamHeader .w) (s.streamHeader .e)

/-- The time source once the headers of a tick have come: only those count. -/
def Cell.endSource (s : Cell) : Option Port :=
  s.timeChoice (if s.w.seen then s.streamHeader .w else none) (if s.e.seen then s.streamHeader .e else none)

/-- The boundary estimate of a header that arrived at `arr`, against the module's own boundary of that tick, in 1/16 ns (R46). -/
def Cell.boundaryError (s : Cell) (h : Header) (arr : Int) : Int :=
  arr - h.pd.toNat - h.lofs.toNat - 20 * (s.gen.bT : Int) - sx 48 (ticksTo s.tick h.tickno.toNat) * (160 * h.tlen.toNat : Nat)

/-- Correct the counter from a header of the time source: by at most 2.0 ns, or in one step at the first lock and after more than 8 ticks
without a valid header, be the source a new one or not (R50). LOCK stays set until a reset. (DESIGN CHOICE: log entries 154, 173.) -/
def Cell.takeTime (s : Cell) (p : Port) (h : Header) (arr : Int) : Cell :=
  let whole := !s.on Kc.CTM_STAT.LOCK || decide (8 < s.freeRun)
  let s := if whole then
      { s with tick := h.tickno.toNat, bns := h.ticktime.toNat, staged := none, stagedFor := h.tickno.toNat }
    else s
  let err := s.boundaryError h arr
  let step := if whole then err else max (-32) (min err 32)
  let s := ((s.mark Kc.CTM_STAT.LOCK).wr Kc.CTM_STAT.SRC p.idx).wr Kc.CTM_STAT.SLEW (b2n (decide (step ≠ err)))
  { s with ofs := s.ofs - step, freeRun := 0, timed := true, tsrc := some h }

/-- The clock offset of the non-source stream, in ppm: beyond 200 it is rate-faulted, and 16 ticks within 150 end that (R53). -/
def Cell.rateStep (s : Cell) (ppm : Int) : Cell :=
  if 200 < ppm.natAbs then
    let s := { s with rateRun := 0 }
    if s.on Kc.CTM_STAT.RATE then s else (s.mark Kc.CTM_STAT.RATE).event Ev.RATE
  else if s.on Kc.CTM_STAT.RATE then
    let run := if ppm.natAbs ≤ 150 then s.rateRun + 1 else 0
    if 16 ≤ run then { (s.wr Kc.CTM_STAT.RATE 0) with rateRun := 0 } else { s with rateRun := run }
  else s

/-- The hop measurement from the stamp of a header received on `p`, less the latencies of both ends (R44). (DESIGN CHOICE: log entry 20; DEDUCED: log entry 137.) -/
def Cell.measureHop (s : Cell) (p : Port) (h : Header) : Cell :=
  match (s.port p).sentPrev, (s.port p).recvPrev with
  | some sent, some recv =>
    let rt : Int := sx 36 (toBits 36 ((recv : Int) - sent)) - sx 22 h.turn.toNat - sx 16 (s.rd Kc.CTM_CAL.CAL) -
      Config.farLatency (2 * s.addr + p.idx)
    let r := hopMean (s.port p).meas (s.port p).disc rt
    let s := s.onPort p (fun q => { q with meas := r.1, disc := r.2.1 })
    s.when r.2.2 (fun s => s.count Kc.CTM_STAT.DSTEP Kc.CTM_STAT.SAT)
  | _, _ => s

/-- The delay of the hop at a port: half the mean round trip (R44). (DESIGN CHOICE: log entry 150.) -/
def CellPort.hopDelay (p : CellPort) : Int := hopHalf p.meas

/-- TURN towards the neighbour at a port (R44). (DEDUCED: log entry 137.) -/
def CellPort.turn (p : CellPort) : Int :=
  match p.sentPrev, p.recvPrev with
  | some a, some b => sx 36 (toBits 36 ((a : Int) - b))
  | _, _ => 0

/-- The header as this module sends it on through port `q` (R45, R106). The scaled delay is rounded down, and PD stays within its range. (DESIGN CHOICE: log entry 150.) -/
def Cell.forwardHeader (s : Cell) (q : Port) (h : Header) (lat : Nat) : Header :=
  let hop := (s.port q).hopDelay
  let pd : Int := (h.pd.toNat : Int) + lat + hop + hop * sx 16 h.asym.toNat / 16777216
  let n := h.hop.toNat + 1
  { h with
    pd := BitVec.ofNat 20 (max 0 (min pd 1048575)).toNat
    turn := BitVec.ofInt 22 (s.port q).turn
    hop := BitVec.ofNat 9 n
    lpos := match s.pos with | some k => BitVec.ofNat 9 k | none => h.lpos
    lhop := if s.pos.isSome then BitVec.ofNat 9 n else h.lhop
    lrx := s.rxUp q }

/-- What a valid header gives the module, BFIRE among it (R212): on a folded port copies only, and the port's way out of the fold (R121,
R122). -/
def Cell.takeHeader (s : Cell) (p : Port) (h : Header) (arr : Int) (ppm : Int) : Cell :=
  let s := s.onPort p (fun q => { q with
    last := some h, seen := true, noHdr := 0, noLrx := if h.lrx then 0 else q.noLrx + 1, inFrame := some h, badFrame := false,
    cand := candidate p h, recv := some (toBits 64 arr) })
  if (s.port p).folded then s
  else
    let s := { s with hdr := some h, hmode := h.mode.toNat }
    let s := s.when h.bfire (fun s => s.capTrigger 6 ((arr + 19) / 20).toNat)
    let s := s.when (h.mode.toNat != 2) Cell.srcReturn
    let s := s.positionStep h
    let s := s.measureHop p h
    let src := s.timeSource
    let s := s.when (src == some p && !s.timed) (fun s => s.takeTime p h arr)
    let s := s.when (src != some p) (fun s => s.rateStep ppm)
    if h.treq && s.pos.isSome && s.tallyReq.isNone && s.tallyAt.isNone then
      { s with tallyReq := some (h.ttick.toNat, h.tally.toNat) }
    else s

/-- HEADER_RECEIVED: a header whose first bit arrived on port `p`, `cyc` cycles of the recovered clock and `frac` × 1/16 ns after the
module's last boundary; the module's latency being `lat` (1/16 ns) and the two streams' clocks `ppm` apart. It is checked, used, and sent
on with the module's own fields (R43, R46, R105, R106). -/
def headerReceivedCell (p : Port) (h : Header) (cyc frac lat : Nat) (ppm : Int) (s : Cell) : Cell :=
  if !s.live then s
  else
    let str := s.checkStr h
    let good := h.valid str
    let s := if good then s.takeHeader p h (s.instant cyc frac) ppm
      else s.onPort p (fun q => { q with inFrame := none, badFrame := true, seen := false })
    let q := p.other
    let s := s.onPort p (fun r => { r with hop := r.hop.unknownRx })
    if s.forwards && s.sameMode then
      let out := s.forwardHeader q h lat
      let s := s.onPort q (fun r => { r with sent := some (toBits 64 (s.instant cyc frac + lat)) })
      let s := s.onPort p (fun r => { r with pass := some out, passing := true, voided := false, filled := false, sentHop := out.hop.toNat })
      (s.putHeader q (out.seal str good)).gapped q
    else s.onPort p (fun r => { r with pass := none, passing := false, voided := false, filled := false })

/-! ### Commands: copies and the deadline (R112, R118, R119) -/

/-- COMMAND_SLOT_RECEIVED: the module's own slot of the frame in passage; a valid copy is held for its target tick. A module folded at both ports
receives nothing (R122). (DEDUCED: log entry 57.) -/
def commandSlotReceivedCell (p : Port) (c : CmdSlot) (s : Cell) : Cell :=
  match (s.port p).inFrame with
  | some h =>
    if s.live && s.pos.isSome && !(s.w.folded && s.e.folded) && !(s.port p).voided && copyValid h s.addr c then
      { s with copies := s.copies ++ [⟨p, h.target, h.cseq.toNat, c, !tickAhead s.stagedFor h.target⟩] }
    else s
  | none => s

/-- The valid copy held from port `p` for target `t` that satisfies `f`. -/
def Cell.copyOf (s : Cell) (p : Port) (t : Nat) (f : Nat → Bool) : Option Copy :=
  s.copies.find? (fun c => c.port == p && c.target == t && f c.slot.toNat)

/-- The same, arrived before the deadline. (DEDUCED: log entry 57.) -/
def Cell.inTime (s : Cell) (p : Port) (t : Nat) (f : Nat → Bool) : Option Copy :=
  s.copies.find? (fun c => c.port == p && c.target == t && !c.late && f c.slot.toNat)

/-- The copy obeyed for target `t`, and whether duty copies conflict (R119). Of two endorsed copies whose sequences are 32,768 apart, neither higher
nor equal, the one on port W is taken. (DESIGN CHOICE: log entry 185.) -/
def Cell.select (s : Cell) (t : Nat) : Option Copy × Bool :=
  match s.inTime .w t cDuty, s.inTime .e t cDuty with
  | some a, none => (some a, false)
  | none, some b => (some b, false)
  | some a, some b =>
    if higher16 a.cseq b.cseq then (some a, false)
    else if higher16 b.cseq a.cseq then (some b, false)
    else (some a, true)
  | none, none =>
    match s.inTime .w t cEnd, s.inTime .e t cEnd with
    | some a, none => (some a, false)
    | none, some b => (some b, false)
    | some a, some b => if higher16 b.cseq a.cseq then (some b, false) else (some a, false)
    | none, none => (none, false)

/-- The cell command deadline of the next tick: 160 ns before its boundary (R119). -/
def Cell.deadline (s : Cell) : Nat := s.gen.bT + s.tickUnits - 128

/-- CELL_COMMAND_DEADLINE: at B(target) − 160 ns the module selects the copy it obeys for the next tick and stages it; what GEN does before that
instant knows nothing of it (R175). -/
def cellCommandDeadlineCell (s : Cell) : Cell :=
  if s.runs then
    let t := (s.tick + 1) % 2 ^ 48
    let r := s.select t
    let s := s.genTo s.deadline
    let s := { s with staged := r.1, stagedFor := t }
    s.when r.2 (fun s => s.event Ev.DCONF)
  else s

/-! ### Reports (R109, R116) -/

/-- A port is usable (R121). -/
def Cell.usablePort (s : Cell) (p : Port) : Bool :=
  s.rxUp p && (match (s.port p).last with | some h => h.lrx | none => false)

/-- Bits [191:64] of the report of tick `n` as the module would write it now. -/
def Cell.reportBody (s : Cell) (n : Nat) : Nat :=
  let stale := s.meas.frozenTick != n + 1 || s.meas.slices == 0
  let evt := b2n (s.pend != 0) * 128 + (match s.lowest with | some i => i | none => s.lastAck) * 4 +
    (1 - s.rd Kc.OPT_PWR.LPW) * 2 + (1 - s.rd Kc.OPT_PWR.LPE)
  let flags := b2n stale * 128 + b2n s.tripped * 64 + b2n s.torn * 32 + b2n s.holding * 16 + b2n s.single * 8 +
    s.rd Kc.OPT_PWR.VAUX * 4 + b2n s.anySat
  let link := s.obey * 64 + s.oport.idx * 32 + b2n (s.usablePort .w) * 16 + b2n (s.usablePort .e) * 8 + s.rd Kc.CTM_STAT.SRC * 4 +
    s.rd Kc.CTM_STAT.RATE * 2 + s.rd Kc.CTM_STAT.FREE
  n % 256 * 2 ^ 120 + s.cstate * 2 ^ 116 + s.meas.frozen * 2 ^ 50 + evt * 2 ^ 42 + flags * 2 ^ 34 + s.shdw * 2 ^ 26 + link * 2 ^ 18

/-- Fix the report of tick `n` if it is not fixed yet (bit 128 marks it, and bit 129 that a copy of it has been written): both copies of it
carry the same fields (R116). FLAGS.TORN goes into one report. (DEDUCED: log entry 72.) -/
def Cell.fixReport (s : Cell) (n : Nat) : Cell :=
  if Tab.get 0 n s.reports ≠ 0 then s
  else
    let body := s.reportBody n
    { s with reports := Tab.put n (2 ^ 128 + body) (s.reports.filter (fun e => decide (ticksTo e.1 n < 3))), torn := false }

/-- SIDE_TAG and SIDE of the report of tick `n` that travels towards B (`toB`) or A: a tally word, or the answer to a request
(R134, R501); 0 while the cell program does not run (R159). (DEDUCED: log entry 72.) -/
def Cell.sideFields (s : Cell) (n : Nat) (toB : Bool) : Nat :=
  let reply := Tab.get 0 (2 * n + b2n toB) s.replies
  if !s.progOn then 0
  else
    match s.tallyAt with
    | some t =>
      let k := ticksTo t n
      if 1 ≤ k ∧ k ≤ 32 then (3 * 16 + (k - 1) % 16) * 2 ^ 32 + Tab.get 0 (k - 1) s.tally else reply
    | none => reply

/-- The report slot of tick `n` towards one end. -/
def Cell.reportSlot (s : Cell) (n : Nat) (toB : Bool) : Nat :=
  sealSlot 168 (bits (Tab.get 0 n s.reports) 0 128 * 2 ^ 40 + s.sideFields n toB) s.addr n

/-- A copy of the report of tick `n` has been written. -/
def Cell.wrote (s : Cell) (n : Nat) : Cell := { s with reports := Tab.set 0 n (setBit (Tab.get 0 n s.reports) 129 true) s.reports }

/-- The one report after a position was dropped (R115). -/
def Cell.placeSlot (s : Cell) (addr n : Nat) : Nat :=
  let body := s.reportBody n
  let body := putBits (putBits body 116 4 0) 35 1 1
  sealSlot 168 (body * 2 ^ 40) addr n

/-- The tick of the frame in passage from a port: its TICKNO, as it was sent on. -/
def Cell.passTick (s : Cell) (p : Port) : Nat := match (s.port p).pass with | some h => h.tickno.toNat | none => s.tick

/-- The module's report of tick `n`, and the one report after a position was dropped, go into the frame passing from port `p`. -/
def Cell.writeOwn (s : Cell) (p : Port) (n : Nat) : Cell :=
  if s.pos.isSome then
    let s := s.fixReport n
    ((s.putSlots p.other [(3, s.reportSlot n (p == .w))]).gapped p.other).wrote n
  else s
def Cell.writePlace (s : Cell) (p : Port) (addr n : Nat) : Cell := (s.putSlots p.other [(3, s.placeSlot addr n)]).gapped p.other

/-- In the frame passing from port `p` the slot of address `addr` comes before the module's own (R100). -/
def Cell.slotBefore (s : Cell) (p : Port) (addr : Nat) : Bool :=
  if p == .w then decide (addr % 256 < s.addr % 256) else decide (s.addr % 256 < addr % 256)

/-- REPORT_SLOT_WRITE: the module's report slot of the frame passing from port `p` (R116). A module that dropped its position writes its one
further report in the frames of the next tick (R115), beside its own where it has been placed anew at another address. -/
def reportSlotWriteCell (p : Port) (s : Cell) : Cell :=
  if s.live && (s.port p).passing then
    let n := s.passTick p
    match s.place with
    | some (addr, t) =>
      if n ≠ t then s.writeOwn p n
      else if s.pos.isNone || s.addr == addr then s.writePlace p addr n
      else if s.slotBefore p addr then (s.writePlace p addr n).writeOwn p n
      else (s.writeOwn p n).writePlace p addr n
    | none => s.writeOwn p n
  else s

/-! ### Trailers (R110, R162, R213) -/

/-- The trailer with what the module has to tell through port `q`. -/
def Cell.markTrailer (s : Cell) (q : Port) (nlive : Nat) (t : Trailer) : Trailer :=
  let r := s.port q
  { t with
    nlive := BitVec.ofNat 9 nlive
    cfire := t.cfire || r.fire
    fpos := if r.fire && !t.cfire then (match s.pos with | some k => BitVec.ofNat 9 k | none => t.fpos) else t.fpos
    evtany := t.evtany || r.evAny }

/-- The frame in reception on port `p` ends. -/
def Cell.frameEnd (s : Cell) (p : Port) : Cell :=
  s.onPort p (fun r => { r with passing := false, inFrame := none, badFrame := false, voided := false, filled := false })

/-- TRAILER_FORWARD: the trailer of the frame in passage from port `p`, `t` × 1.25 ns after the boundary. One that arrived failing its
check goes on failing it, and so does a void one in place of a trailer that was not received (R70). A valid one with CFIRE passing triggers
a capture (R212). -/
def trailerForwardCell (p : Port) (tr : Trailer) (t : Nat) (s : Cell) : Cell :=
  let r := s.port p
  if s.live && r.passing then
    let q := p.other
    let n := s.passTick p
    let str := if s.pos.isSome then s.str else match r.pass with | some h => h.str.toNat | none => 0
    let tr := if r.voided then { cfire := false, fpos := 0, evtany := false, nlive := 0, tcrc := 0 } else tr
    let good := tr.valid str n && !r.voided
    let out := (s.markTrailer q r.sentHop tr).seal str n good
    let s := (s.frameEnd p).onPort q (fun r => { r with evAny := false, fire := false })
    (s.putTrailer q out).when (good && tr.cfire) (fun s => s.capTrigger 7 (s.gen.bT + t))
  else s.frameEnd p

/-- The void slots of a frame on the module's string in tick `n`, of which `blk` blocks have gone by: `own` in place of the module's own
report slot (R102); of a slot that is partly gone only the blocks left go out. -/
def Cell.voidSlots (s : Cell) (h : Header) (str n blk : Nat) (own : Option Nat) : List (Nat × Nat) :=
  let addr := fun k => str * 256 + k
  h.sections blk (fun k => if s.pos = some k then own else some (voidSlot 168 (addr k) n))
    (fun k => some (voidSlot 104 (addr k) ((n + h.carry.toNat) % 2 ^ 48)))

/-- Lock is lost within a frame of which `blk` blocks were received whole: nothing more is taken from it, and it is completed on the other
transmitter with void blocks, the module's own report slot apart. Lost within the header `part`, the header goes on with 0 for the blocks
that are missing, and fails its check (R70). (DEDUCED: log entry 56.) -/
def Cell.voidFrame (s : Cell) (p : Port) (blk : Nat) (part : Option Header) : Cell :=
  let q := p.other
  let r := s.port p
  let s := s.onPort p (fun r => { r with inFrame := none })
  if r.passing then
    match r.pass with
    | some h =>
      if r.filled then s
      else
        let s := s.onPort p (fun r => { r with voided := true, filled := true })
        s.putSlots q (s.voidSlots h h.str.toNat h.tickno.toNat (max 32 blk) none)
    | none => s
  else
    match part with
    | some h =>
      if 1 ≤ blk ∧ s.forwards then
        let out := ((s.forwardHeader q (h.cut blk) 0).cut blk).seal (s.checkStr h) false
        let n := if 2 ≤ blk then h.tickno.toNat else s.tick
        let s := s.onPort p (fun r => { r with
          pass := some { out with tickno := BitVec.ofNat 48 n }, passing := true, voided := true, filled := true, sentHop := out.hop.toNat })
        (s.putHeader q out).putSlots q (s.voidSlots h h.str.toNat n 32 none)
      else s
    | none => s

/-! ### Folding (R121, R122) -/

/-- A fold condition holds at a port. -/
def Cell.foldCause (s : Cell) (p : Port) : Bool :=
  !s.rxUp p || decide (2 ≤ (s.port p).noHdr) || decide (2 ≤ (s.port p).noLrx)

/-- FOLD_ONSET: the module folds at port `p` at its frame boundary. -/
def foldOnsetCell (p : Port) (s : Cell) : Cell :=
  if s.live && s.foldCause p then s.onPort p (fun r => { r with folded := true, okRun := 0 }) else s

/-- FOLD_END: after 8 usable ticks the fold at port `p` ends at the module's first frame boundary. -/
def foldEndCell (p : Port) (s : Cell) : Cell :=
  if (s.port p).folded && decide (8 ≤ (s.port p).okRun) then s.onPort p (fun r => { r with folded := false }) else s

/-- The fold frame's header out of port `y` (R122); FOLDP and LPOS need a position, so an unplaced module launches none. (DESIGN CHOICE: log entry 155.)
R122 gives no ASYM and no DISC: both are 0. (DESIGN CHOICE: log entries 171, 184.) -/
def Cell.foldHeader (s : Cell) (y : Port) (lofs : Nat) : Option Header :=
  match (s.port y).last, s.pos with
  | some h, some k => some { h with
      str := BitVec.ofNat 5 s.str, origin := if y == .w then 2 else 3, duty := false, disc := false, tickno := BitVec.ofNat 48 s.tick,
      ticktime := BitVec.ofNat 32 s.bns, sph := BitVec.ofNat 3 (s.tick % max 1 h.sk.toNat), lofs := BitVec.ofNat 10 lofs,
      pd := BitVec.ofNat 20 (max 0 (s.port y).hopDelay).toNat, turn := BitVec.ofInt 22 (s.port y).turn, asym := 0, hop := 1,
      lpos := BitVec.ofNat 9 k, lhop := 1, lrx := s.rxUp y, foldp := BitVec.ofNat 9 k, barm := false, bfire := false, treq := false,
      tally := 0, ttick := 0 }
  | _, _ => none

/-- FOLD_FRAME_LAUNCH: folded at the other port X, and with no frame in passage on its transmitter any more, the module launches a fold frame
out of port `y` at its estimate of the boundary: header, void slots in the frame's layout with its own report among them, and a trailer
(R121, R122). -/
def foldFrameLaunchCell (y : Port) (lofs : Nat) (s : Cell) : Cell :=
  if s.live && (s.port y.other).folded && !(s.port y).folded && !(s.port y.other).passing then
    match s.foldHeader y lofs with
    | some h =>
      let n := s.tick
      let s := s.fixReport n
      let s := s.putHeader y (h.seal s.str true)
      let s := (s.putSlots y (s.voidSlots h s.str n 32 (some (s.reportSlot n (y == .e))))).wrote n
      let t := (s.markTrailer y 1 { cfire := false, fpos := 0, evtany := false, nlive := 0, tcrc := 0 }).seal s.str n true
      let s := s.onPort y (fun r => { r with evAny := false, fire := false, sent := some (20 * s.gen.bT + lofs) })
      s.putTrailer y t
    | none => s
  else s

/-! ### Holding and the BCMD requests -/

/-- HOLDN of the last valid header (R120); before the first one 2, the default of SP_LEAD. (DESIGN CHOICE: log entry 186.) -/
def Cell.holdLimit (s : Cell) : Nat := match s.hdr with | some h => h.holdn.toNat | none => 2

/-- A tick without an obeyed copy: HOLDLAST, and beyond HOLDN holding ticks, or under a park-first halt, PARK; the first holding tick and the
parking raise HOLD (R120, R185). -/
def Cell.holdTick (s : Cell) : Cell :=
  let s := { s with hold := s.hold + 1, holding := true, obey := 0 }
  let s := s.when (s.hold == 1 || s.hold == s.holdLimit + 1) (fun s => s.event Ev.HOLD)
  if s.genDeaf then s
  else if s.sensor ∨ s.haltPark ∨ s.holdLimit < s.hold then s.applyPark
  else s.applyHold

/-- HOLD_LIMIT: HOLDN ticks of holding have passed; PARK applies until a copy is obeyed again. -/
def holdLimitCell (s : Cell) : Cell :=
  if s.holding && decide (s.holdLimit < s.hold) && !s.genDeaf then s.applyPark else s

/-- Latch the tally words under number `no` at the running tick (R498 to R500). (DEDUCED: log entry 73.) -/
def Cell.latchTally (s : Cell) (no : Nat) : Cell :=
  let w := fun (fs : List Fld) (i : Nat) => (fs.foldl (fun v f => v + s.rd f i * 2 ^ f.lo) 0 : Nat)
  let body : List Nat :=
    [no % 65536 * 65536 + s.addr, s.rd Kc.CC_EVP.PEND,
     w [Kc.GEN_STAT.SAT, Kc.GEN_STAT.VCNT, Kc.GEN_STAT.PCNT, Kc.GEN_STAT.TCNT, Kc.GEN_STAT.OPEN, Kc.GEN_STAT.FROZEN, Kc.GEN_STAT.ARMED,
        Kc.GEN_STAT.BADARM, Kc.GEN_STAT.DISON, Kc.GEN_STAT.BYPF, Kc.GEN_STAT.TRIPL, Kc.GEN_STAT.STATE] 0,
     w [Kc.GEN_TRIP.ACT, Kc.GEN_TRIP.LAT, Kc.GEN_TRIP.TFILT, Kc.GEN_TRIP.TEN] 0,
     w [Kc.ADC_CAL.ROT, Kc.ADC_CAL.BUSY, Kc.ADC_CAL.WAIT, Kc.ADC_CAL.SPARE, Kc.ADC_CAL.FAIL, Kc.ADC_CAL.SAT, Kc.ADC_CAL.RUNS] 0,
     w [Kc.ADC_STAT.DROP, Kc.ADC_STAT.SHARED, Kc.ADC_STAT.SAT, Kc.ADC_STAT.CCNT] 0,
     w [Kc.CTM_STAT.DSTEP, Kc.CTM_STAT.SAT, Kc.CTM_STAT.FREE, Kc.CTM_STAT.SLEW, Kc.CTM_STAT.RATE, Kc.CTM_STAT.SRC, Kc.CTM_STAT.LOCK] 0] ++
    [0, 1].map (w [Kc.OPTn_STAT.SAT, Kc.OPTn_STAT.ALOSS, Kc.OPTn_STAT.BLINDF, Kc.OPTn_STAT.LOSTA, Kc.OPTn_STAT.RXINV, Kc.OPTn_STAT.PKSAT,
        Kc.OPTn_STAT.FROZEN, Kc.OPTn_STAT.ALOCK, Kc.OPTn_STAT.LOS, Kc.OPTn_STAT.LSTATE]) ++
    [0, 1].map (w [Kc.OPTn_PERR.SAT, Kc.OPTn_PERR.ERR]) ++
    [w [Kc.OPT_PT.TRIES, Kc.OPT_PT.STUCK, Kc.OPT_PT.KEEP, Kc.OPT_PT.OPEN] 0,
     w [Kc.OPT_PWR.PVW, Kc.OPT_PWR.PVE, Kc.OPT_PWR.LPW, Kc.OPT_PWR.LPE, Kc.OPT_PWR.VAUX, Kc.OPT_PWR.PSTATE] 0,
     w [Kc.GRD_STAT.LOCK, Kc.GRD_STAT.BYPF, Kc.GRD_STAT.INH, Kc.GRD_STAT.MDEAD, Kc.GRD_STAT.OV, Kc.GRD_STAT.VF] 0,
     s.rd Kc.CC_RST.CAUSE, w [Kc.CC_XC.PC, Kc.CC_XC.CAUSE] 0, s.shdw * 2 ^ 24,
     w [Kc.CAP_STAT.CAUSE, Kc.CAP_STAT.LOST, Kc.CAP_STAT.SHORT, Kc.CAP_STAT.STATE, Kc.CAP_STAT.PRE] 0] ++ List.replicate 13 0
  let r := body.foldl (fun r v => crcBits 32 0x04C11DB7 32 v r) (0xFFFFFFFF ^^^ (no % 65536))
  let all := body ++ [r ^^^ 0xFFFFFFFF]
  { s with
    tallyReq := none
    tallyAt := some s.tick
    tally := (List.range 32).foldl (fun t k => Tab.set 0 k (all.getD k 0) t) [] }

/-- BCMD 1 with tally number `no` (R499): ignored by a module that has latched already. -/
def Cell.bcmdTally (s : Cell) (no : Nat) : Cell :=
  if s.tallyAt.isSome ∨ s.pos.isNone then s else s.latchTally no

/-- The source that the report of tick `n` shows. -/
def Cell.shownSrc (s : Cell) (n : Nat) : Nat := bits (Tab.get 0 n s.reports) 44 5

/-- BCMD 5: acknowledge the source that the report of the tick before the target showed (R162). -/
def Cell.bcmdAck (s : Cell) : Cell := s.ack (s.shownSrc ((s.tick + 2 ^ 48 - 1) % 2 ^ 48))

/-- The two copies of target `t` that a standby comparison takes (R384). (DEDUCED: log entry 57.) -/
def Cell.shadowPair (s : Cell) (staged : Option Copy) (t : Nat) : Option (Copy × Copy) :=
  let duty := match staged.filter (fun c => cDuty c.slot.toNat) with
    | some c => some c
    | none => match s.copyOf .w t cDuty with
      | some c => some c
      | none => s.copyOf .e t cDuty
  match duty with
  | some d => match s.copyOf d.port.other t (fun c => !cDuty c) with
    | some o => some (d, o)
    | none => none
  | none => none

/-- SHADOW_COMPARE (R384). -/
def Cell.shadowCompare (s : Cell) (staged : Option Copy) (t : Nat) : Cell :=
  match s.shadowPair staged t with
  | some (d, o) =>
    if s.pos.isSome ∧ s.shdw < 255 ∧ cDigestBits d.slot.toNat ≠ cDigestBits o.slot.toNat then
      { s with shdw := s.shdw + 1 }.event Ev.SHDW
    else s
  | none => s

/-! ### The tick boundary -/

/-- One port at a boundary: hop stamps move to the previous tick, and the runs of R121 advance; a tick without a valid header ends a run of
usable ticks. (DESIGN CHOICE: log entry 172.) -/
def Cell.portBoundary (s : Cell) (p : Port) : Cell :=
  let ok := s.usablePort p
  s.onPort p (fun r => { r with
    sentPrev := r.sent, recvPrev := r.recv, sent := none, recv := none
    noHdr := if r.seen then r.noHdr else min 3 (r.noHdr + 1)
    okRun := if ok && r.seen then min 8 (r.okRun + 1) else 0
    seen := false })

/-- The positions of the tick that ends: two ticks in which both candidates agree on another position drop it (R115). -/
def Cell.positionRun (s : Cell) : Cell :=
  match s.pos with
  | some k =>
    let diff := s.heard .w && s.heard .e && s.w.cand.isSome && s.w.cand == s.e.cand && s.w.cand != some (k : Int)
    { s with posRun := if diff then s.posRun + 1 else 0 }
  | none => s

/-- The end of a tick in which no header gave the time as it came: of the headers that did come the choice is made anew, and without one the
module runs free (R49, R53). (DEDUCED: log entry 56.) -/
def Cell.freeTick (s : Cell) : Cell :=
  if s.timed then s
  else
    let free := { ((s.mark Kc.CTM_STAT.FREE).wr Kc.CTM_STAT.SLEW 0) with freeRun := s.freeRun + 1 }
    match s.endSource with
    | some p =>
      match (s.port p).last, (s.port p).recv with
      | some h, some arr => s.takeTime p h (sx 64 arr)
      | _, _ => free
    | none => free

/-- The requests of BCMD `b` of an obeyed copy at the boundary, the trip inputs `act` being active; answers whether the tick is
applied as PARK (R108, R179). -/
def Cell.bcmd (s : Cell) (c act : Nat) : Cell × Bool :=
  match cBcmd c with
  | 1 => (s.bcmdTally (cSide c % 65536), false)
  | 2 => (s.capArm s.gen.bT, false)
  | 3 => s.tripClear act
  | 4 => ({ s with shdw := 0 }, false)
  | 5 => (s.bcmdAck, false)
  | _ => (s, false)

/-- The tick is applied: the staged copy, or a hold (R120, R172); under a park-first halt every tick is PARK (R557). -/
def Cell.applyTick (s : Cell) (staged : Option Copy) (act : Nat) : Cell :=
  match staged with
  | some c =>
    let v := c.slot.toNat
    let s := { s with hold := 0, holding := false, obey := if cDuty v then 1 else 2, oport := c.port }
    let r := s.bcmd v act
    if r.2 || r.1.haltPark then (if r.1.genDeaf then r.1 else r.1.applyPark) else r.1.applyMode v
  | none => s.holdTick

/-- The inhibit that a cleared guard decision releases, and a freeze that ended (R154, R185). -/
def Cell.releases (s : Cell) : Cell :=
  let s := { s with gen := { s.gen with resume := false } }
  if s.grd.releaseInh then
    let s := { (s.wr Kc.GRD_STAT.INH 0) with grd := { s.grd with releaseInh := false, dis := false, bypDue := false } }
    s.syncJ3
  else s

/-- The module's time moves on to the next boundary (R41, R43). -/
def Cell.nextTick (s : Cell) : Cell :=
  let len := s.tickUnits
  { s with
    tick := (s.tick + 1) % 2 ^ 48, bns := (s.bns + len * 5 / 4) % 2 ^ 32, ofs := 0, timed := false
    gen := { s.gen with bT := s.gen.bT + len } }

/-- A boundary without the cell program: its restart within 20 ms draws nearer (R159). (DESIGN CHOICE: log entry 156.) -/
def Cell.restartStep (s : Cell) : Cell :=
  match s.restart with
  | some 0 => { s with restart := none, progOn := true, core := { pc := s.entry } }
  | some (k + 1) => { s with restart := some k }
  | none => s

/-- The heartbeat toggles: the guard's count begins anew, and a decision taken without it is reported (R151, R163). -/
def Cell.heartbeat (s : Cell) : Cell :=
  ({ s with grd := { s.grd with quiet := none, mdNew := false } }).when s.grd.mdNew (fun s => s.event Ev.GRD_MD)

/-- What a tally that was asked for, or is being sent, becomes at a boundary (R135, R498, R501). -/
def Cell.tallyBoundary (s : Cell) : Cell :=
  let s := match s.tallyReq with
    | some (t, no) => if s.tick % 2048 = t then s.latchTally no else s
    | none => s
  match s.tallyAt with
  | some t => if 34 < ticksTo t s.tick then { s with tallyAt := none, tally := [] } else s
  | none => s

/-- What is held for ticks that have come is let go. -/
def Cell.forget (s : Cell) : Cell :=
  { s with
    copies := s.copies.filter (fun c => tickAhead s.tick c.target), staged := none
    wa := s.wa.filter (fun a => !tickAhead a.2.2 s.tick), replies := s.replies.filter (fun e => !tickAhead ((e.1 / 2 + 2) % 2 ^ 48) s.tick) }

/-- CELL_TICK_BOUNDARY: the tick that ends is accounted for, and the new one is applied, the trip inputs `act` being active. -/
def cellTickBoundaryCell (act : Nat) (s : Cell) : Cell :=
  if !s.runs then s
  else
    let s := s.when s.pos.isSome (fun s => s.fixReport s.tick)
    let s := s.positionRun.freeTick
    let s := ((s.fillLines (s.tickUnits * 25 / 2)).portBoundary .w).portBoundary .e
    let s := (s.genTo (s.gen.bT + s.tickUnits)).nextTick
    let s := s.heartbeat.restartStep
    let s := s.slicesBoundary.capBoundary
    let s := s.localBoundary.releases
    let staged := if s.stagedFor = s.tick then s.staged else none
    let s := { (s.wr Kc.GEN_TRIP.ACT act) with staged := none }
    let s := ((s.tripEnabled s.gen.bT).applyTick staged act).redrive
    (s.shadowCompare staged s.tick).tallyBoundary.forget

/-- BCMD_TALLY_LATCH: an obeyed BCMD 1. -/
def bcmdTallyLatchCell (no : Nat) (s : Cell) : Cell := s.when s.runs (fun s => s.bcmdTally no)

/-- BCMD_CAPTURE_ARM: an obeyed BCMD 2. -/
def bcmdCaptureArmCell (s : Cell) : Cell := s.when s.runs (fun s => s.capArm s.gen.bT)

/-- BCMD_TRIP_CLEAR: an obeyed BCMD 3 with the trip inputs `act` active. -/
def bcmdTripClearCell (act : Nat) (s : Cell) : Cell :=
  let r := s.tripClear act
  if !s.runs then s else if r.2 then r.1.applyPark.redrive else r.1

/-- BCMD_CLEAR_SHDW: an obeyed BCMD 4. -/
def bcmdClearShdwCell (s : Cell) : Cell := s.when s.runs (fun s => { s with shdw := 0 })

/-- BCMD_ACKNOWLEDGE: an obeyed BCMD 5. -/
def bcmdAcknowledgeCell (s : Cell) : Cell := s.when s.runs Cell.bcmdAck

/-- POSITION_DROP: two ticks with agreeing other candidates; the module applies PARK, drops its position and writes one more
report (R115). -/
def positionDropCell (s : Cell) : Cell :=
  if s.pos.isSome ∧ 2 ≤ s.posRun then
    let s := { s with place := some (s.addr, (s.tick + 1) % 2 ^ 48) }
    let s := if s.genDeaf then s else s.applyPark
    s.unplace.event Ev.PLACE
  else s

/-- TRIP_INPUT_ACTIVE: input `i` has been active for the filter time, `t` × 1.25 ns after the boundary, or (`now` false) is active no longer
(R178, R189). -/
def tripInputActiveCell (i t : Nat) (now : Bool) (s : Cell) : Cell :=
  if s.runs then
    if now then s.trip i (s.gen.bT + t) else s.wr Kc.GEN_TRIP.ACT (setBit (s.rd Kc.GEN_TRIP.ACT) i false)
  else s

end Sys2Proof.Machine
end

