-- ==== Sys2Proof/Machine/CellModule.lean ====
section
/-! DEFINITION. The module around the cell: pass-through, power, guard domain, resets and starts, events (R142 to R167, R332, R550,
R606, R623). -/

namespace Sys2Proof.Machine

/-- Change the guard. -/
def Cell.onGrd (s : Cell) (f : Guard → Guard) : Cell := { s with grd := f s.grd }

/-- An event of the main domain, where it runs. -/
def Cell.eventIf (s : Cell) (src : Nat) : Cell := s.when s.runs (fun s => s.event src)

/-! ### Resets (R159, R185) -/

/-- The fields that a main domain reset leaves: the guard's, what its store and the bank store hold, the key store's, and the power
monitor's; of OPT_PT STUCK and KEEP alone (R166, R616). (DESIGN CHOICE: log entry 67.) -/
def keepMain : List (Fld × Nat) :=
  Kc.fldsGRD.map (fun f => (f, 0)) ++
  [(Kc.OPT_PT.STUCK, 0), (Kc.OPT_PT.KEEP, 0), (Kc.OPTn_PEAK.SAVED, 0), (Kc.OPTn_PEAK.SAVED, 1), (Kc.CC_SEC.STATE, 0), (Kc.CC_SEC.BENCH, 0), (Kc.CC_SEC.SVN, 0), (Kc.CC_BOOT.SEL, 0),
   (Kc.CTM_CAL.CAL, 0), (Kc.OPT_PWR.PVW, 0), (Kc.OPT_PWR.PVE, 0), (Kc.OPT_PWR.LPW, 0), (Kc.OPT_PWR.LPE, 0),
   (Kc.OPT_PWR.VAUX, 0), (Kc.OPT_PWR.PSTATE, 0)]

/-- The fields that the loss of guard power leaves: what is held in non-volatile stores and straps. (DESIGN CHOICE: log entry 67.) -/
def keepStore : List (Fld × Nat) :=
  [(Kc.GRD_CFG.FILT, 0), (Kc.GRD_CFG.OVACT, 0), (Kc.GRD_CFG.MDACT, 0), (Kc.GRD_CFG.MDTO, 0), (Kc.GRD_CFG.EN, 0), (Kc.GRD_TH.OVCNT, 0),
   (Kc.GRD_TH.OVTH, 0), (Kc.GRD_TH.MDTH, 0), (Kc.OPTn_PEAK.SAVED, 0), (Kc.OPTn_PEAK.SAVED, 1), (Kc.CC_SEC.STATE, 0),
   (Kc.CC_SEC.BENCH, 0), (Kc.CC_SEC.SVN, 0), (Kc.CC_BOOT.SEL, 0), (Kc.CTM_CAL.CAL, 0)]

/-- The saved settings of a port's hop: the guard's store keeps them across main domain resets (R164). -/
def Hop.saved (h : Hop) : Hop := { savedInv := h.savedInv, savedPk := h.savedPk }

/-- SEAL takes effect at a reset of the part; a session ends with it, and SERVICE returns to SEALED (R544, R555). -/
def SecSt.restart (s : SecSt) : SecSt :=
  { s with sealed := s.sealed || s.sealNext, sealNext := false, nonce := false, holder := 0, verify := none, fails := 0, lockout := false }

/-- CC_SEC.STATE of a key store without a session. -/
def SecSt.state (s : SecSt) : Nat := if s.retired then 3 else if s.sealed || s.fault then 1 else 0

/-- What every reset of the main domain leaves of the module. (DESIGN CHOICE: log entry 67.) -/
def Cell.cleared (s : Cell) (keep : List (Fld × Nat)) (grd : Guard) : Cell :=
  let sec := s.sec.restart
  let t : Cell :=
    { regs := s.keepRegs keep, banks := s.banks, power := s.power, sec := sec, free := s.free, grd := grd, cause := s.cause,
      w := { hop := s.w.hop.saved }, e := { hop := s.e.hop.saved }, ptOpen := s.ptOpen }
  (t.wr Kc.CC_SEC.STATE sec.state).syncJ3

/-- Main domain reset: CC, GEN, ADC, CAP, CTM and OPT lose their state, the guard runs on (R159); of the pending events RESET alone is
kept (R162). -/
def Cell.mainReset (s : Cell) (cause : Nat) : Cell :=
  { ((s.cleared keepMain s.grd).wr Kc.CC_EVP.PEND (s.pend % 2)) with held := true, mainOn := false, cause := cause }

/-- Guard power-on or its loss: the whole module resets, with nothing pending (R159, R162). -/
def Cell.powerReset (s : Cell) : Cell :=
  { ((s.cleared keepStore {}).wr Kc.CC_EVP.PEND 0) with held := true, mainOn := false, cause := 0 }

/-- Cell core reset: CC alone. A cell program runs again at a boundary within 20 ms; where none was started there is none to run
(R159, R550). (DESIGN CHOICE: log entry 156.) -/
def Cell.coreReset (s : Cell) : Cell :=
  let s := s.wr Kc.CC_DSTAT.HALTED 0
  let again := s.progOn || s.restart.isSome
  let k := Config.unstated s.free % max 1 (16000000 / s.tickUnits)
  { (s.event Ev.CC_EXC) with
    core := { pc := s.entry }, wa := [], replies := [], haltReq := false, haltPark := false, progOn := false, restart := if again then some k else none,
    free := s.free + 1 }

/-! ### Pass-through (R143 to R146) -/

/-- The pass-through switch joins the fibres past the module, and its receivers see no signal (R71, R143). -/
def Cell.shut (s : Cell) : Cell :=
  let s := { (s.wr Kc.OPT_PT.OPEN 0) with ptOpen := false }
  [0, 1].foldl (fun s i => ((s.wr Kc.OPTn_STAT.LSTATE 0 i).wr Kc.OPTn_STAT.ALOCK 0 i).mark Kc.OPTn_STAT.LOS i)
    { s with w := { s.w with hop := s.w.hop.saved, inFrame := none, passing := false },
             e := { s.e with hop := s.e.hop.saved, inFrame := none, passing := false } }

/-- The pass-through switch puts both engines on the line. -/
def Cell.unshut (s : Cell) : Cell := { (s.mark Kc.OPT_PT.OPEN) with ptOpen := true }

/-- PASS_THROUGH_CLOSE: within 8 ms the guard closes the switch while the main domain is unpowered or held in reset (R144). -/
def passThroughCloseCell (s : Cell) : Cell := if s.runs then s else { (s.wr Kc.OPT_PT.OPEN 0) with ptOpen := false }

/-- The conditions of R145 for opening. -/
def Cell.mayOpen (s : Cell) : Bool :=
  s.runs && s.progOn && !s.on Kc.OPT_PT.KEEP && !s.on Kc.OPT_PT.STUCK && !s.on Kc.OPT_PT.OPEN

/-- PASS_THROUGH_OPEN. -/
def passThroughOpenCell (s : Cell) : Cell := if s.mayOpen then s.unshut else s

/-- PASS_THROUGH_OPEN_FAIL: neither port reached UP within 50 ms: it closes again; the eighth failure in a row sets STUCK. -/
def passThroughOpenFailCell (s : Cell) : Cell :=
  if s.on Kc.OPT_PT.OPEN && !s.rxUp .w && !s.rxUp .e then
    let n := s.rd Kc.OPT_PT.TRIES + 1
    let s := s.shut.wr Kc.OPT_PT.TRIES (min 8 n)
    (s.when (decide (8 ≤ n)) (fun s => s.mark Kc.OPT_PT.STUCK)).event Ev.PT
  else s

/-- PASS_THROUGH_RETRY: 1 s after a failed opening. -/
def passThroughRetryCell (s : Cell) : Cell := if s.mayOpen ∧ s.rd Kc.OPT_PT.TRIES ≠ 0 then s.unshut else s

/-! ### Power (R147 to R149) -/

/-- The power available, 10 mW units: both converters, and 2.0 W from VAUX. -/
def available (pvw pve : Nat) (vaux : Bool) : Nat := pvw + pve + (if vaux then 200 else 0)

/-- The state that an available power supports. -/
def powerFor (p : Nat) : Nat := if 170 ≤ p then 3 else if 105 ≤ p then 2 else if 15 ≤ p then 1 else 0

/-- The state that a risen power supports: SINGLE and FULL 0.05 W above their thresholds (R148). -/
def powerRisen (p : Nat) : Nat := if 175 ≤ p then 3 else if 110 ≤ p then 2 else if 15 ≤ p then 1 else 0

/-- The power monitor: OPT_PWR and its events (R149, R163, R165). -/
def Cell.monitor (s : Cell) (pvw pve : Nat) (lpw lpe vaux : Bool) : Cell :=
  let darkW := s.on Kc.OPT_PWR.LPW && !lpw
  let darkE := s.on Kc.OPT_PWR.LPE && !lpe
  let vx := s.on Kc.OPT_PWR.VAUX != vaux
  let s := (s.wr Kc.OPT_PWR.PVW pvw).wr Kc.OPT_PWR.PVE pve
  let s := ((s.wr Kc.OPT_PWR.LPW (b2n lpw)).wr Kc.OPT_PWR.LPE (b2n lpe)).wr Kc.OPT_PWR.VAUX (b2n vaux)
  let s := s.when darkW (fun s => s.eventIf Ev.LIGHT_W)
  let s := s.when darkE (fun s => s.eventIf Ev.LIGHT_E)
  s.when vx (fun s => s.eventIf Ev.VAUX)

/-- PSTATE, and event PSTATE on a change. -/
def Cell.setPower (s : Cell) (p : Nat) : Cell :=
  let change := p != s.power
  let s := ({ s with power := p }).wr Kc.OPT_PWR.PSTATE (if p = 3 then 0 else 1)
  s.when change (fun s => s.eventIf Ev.PSTATE)

/-- POWER_STATE_FALL: within 50 µs the module takes the lower state that the power supports. Below SINGLE the main domain loses its
supply; below 0.15 W the guard does too, and with it decisions, a fired BYP, STUCK and KEEP. -/
def powerStateFallCell (pvw pve : Nat) (lpw lpe vaux : Bool) (s : Cell) : Cell :=
  let p := powerFor (available pvw pve vaux)
  let s := s.monitor pvw pve lpw lpe vaux
  if p < s.power then
    if p = 0 then { s.powerReset with power := 0 }
    else if p = 1 then { (s.setPower 1).mainReset 1 with power := 1 }
    else s.setPower p
  else s

/-- POWER_STATE_RISE: after 10 ms of enough power the module takes the higher state. From the unpowered condition it takes
GUARD-ONLY, by GUARD_POWER_ON. -/
def powerStateRiseCell (pvw pve : Nat) (lpw lpe vaux : Bool) (s : Cell) : Cell :=
  let p := powerRisen (available pvw pve vaux)
  let s := s.monitor pvw pve lpw lpe vaux
  if s.power < p ∧ s.power ≠ 0 then s.setPower p else s

/-! ### Guard (R150 to R156) -/

/-- GUARD_POWER_ON: available power rises through 0.15 W; the whole module resets, its pass-through closed. -/
def guardPowerOnCell (pvw pve : Nat) (lpw lpe vaux : Bool) (s : Cell) : Cell :=
  if s.power = 0 ∧ 15 ≤ available pvw pve vaux then
    ({ s.powerReset with power := 1 }).monitor pvw pve lpw lpe vaux
  else s

/-- The converter's count for a tap voltage in µV (R150). -/
def guardCount (uv : Int) : Nat := (max 0 (min (uv / 500) 4095)).toNat

/-- Samples in the filter's window. -/
def Cell.guardWindow (s : Cell) : Nat := match s.rd Kc.GRD_CFG.FILT with | 0 => 1 | 1 => 4 | _ => 16

/-- No heartbeat toggle for MDTO, at the last sample (R151). -/
def Cell.silent (s : Cell) : Bool :=
  match s.grd.quiet with | some q => decide (80000 * s.rd Kc.GRD_CFG.MDTO ≤ q) | none => false

/-- The guard's condition for MDEAD: no heartbeat toggle for MDTO, and the capacitor charged. -/
def Cell.mainDead (s : Cell) : Bool := s.silent && decide (s.rd Kc.GRD_TH.MDTH < s.rd Kc.GRD_STAT.VF)

/-- The actions of a decision: inhibit first, which triggers a capture as it asserts, then DIS at once and BYP 2 µs later; `act` bit 1 BYP,
bit 0 DIS (R152, R212). -/
def Cell.guardAct (s : Cell) (act t : Nat) : Cell :=
  let byp := s.on Kc.GRD_STAT.BYPF
  let wasDis := s.on Kc.GEN_OUT.DIS
  let rises := s.runs && !s.on Kc.GRD_STAT.INH
  let s := s.when s.runs (fun s => s.genTo (s.gen.bT + t))
  let s := (s.mark Kc.GRD_STAT.INH).onGrd (fun g => { g with
    releaseInh := false, dis := g.dis || bit act 0, bypDue := g.bypDue || (bit act 1 && !byp) })
  let s := (s.when s.runs (fun s => s.force (s.gen.bT + t))).syncJ3
  let s := s.when rises (fun s => s.capTrigger 5 (s.gen.bT + t))
  s.when (!wasDis && s.on Kc.GEN_OUT.DIS) (fun s => s.eventIf Ev.DIS)

/-- GUARD_SAMPLE: one sample of the tap, 10 µs after the last, `t` × 1.25 ns after the boundary (before the main domain has run: after guard
power-on). Filter, compare, decide (R150, R151). With the main domain off or in reset CC_ROLE stands at its reset value, and the guard
takes the module for a power cell. (DESIGN CHOICE: log entry 191.) -/
def guardSampleCell (uv : Int) (t : Nat) (s : Cell) : Cell :=
  if s.power = 0 then s
  else
    let win := (guardCount uv :: s.grd.win).take s.guardWindow
    let vf := win.foldl (· + ·) 0 / win.length
    let s := (s.wr Kc.GRD_STAT.VF vf).onGrd (fun g => { g with
      win := win, quiet := some (match g.quiet with | some q => q + 8000 | none => t) })
    if !s.on Kc.GRD_CFG.EN || s.sensor then s.onGrd (fun g => { g with ovRun := 0 })
    else
      let run := if s.rd Kc.GRD_TH.OVTH < vf then s.grd.ovRun + 1 else 0
      let s := s.onGrd (fun g => { g with ovRun := min 255 run })
      let ov := decide (s.rd Kc.GRD_TH.OVCNT ≤ run) && !s.on Kc.GRD_STAT.OV
      let md := s.mainDead && !s.on Kc.GRD_STAT.MDEAD
      if !ov && !md then s
      else
        let act := (if ov then s.rd Kc.GRD_CFG.OVACT else 0) ||| (if md then s.rd Kc.GRD_CFG.MDACT else 0)
        let s := s.when ov (fun s => (s.mark Kc.GRD_STAT.OV).eventIf Ev.GRD_OV)
        let s := s.when md (fun s => (s.mark Kc.GRD_STAT.MDEAD).onGrd (fun g => { g with mdNew := true }))
        s.guardAct act t

/-- GUARD_BYP_FIRE: 2 µs after the inhibit the guard fires BYP (R152). -/
def guardBypFireCell (s : Cell) : Cell :=
  if s.grd.bypDue && !s.on Kc.GRD_STAT.BYPF then
    let s := (s.mark Kc.GRD_STAT.BYPF).onGrd (fun g => { g with bypDue := false, byp := true })
    s.syncJ3.eventIf Ev.BYP
  else s

/-- The guard declines to clear a decision while its condition is present or BYP has fired (R154). The condition of OV is present where the
filtered value at the last sample exceeds OVTH. (DESIGN CHOICE: log entry 190.) -/
def Cell.declines (s : Cell) (md : Bool) : Bool :=
  s.on Kc.GRD_STAT.BYPF || (if md then s.mainDead else decide (s.rd Kc.GRD_TH.OVTH < s.rd Kc.GRD_STAT.VF))

/-- Clear the decisions asked for; a refusal raises GRD_CLR, a success releases the inhibit at the next boundary. -/
def Cell.guardClear (s : Cell) (ov md : Bool) : Cell :=
  let askOv := ov && s.on Kc.GRD_STAT.OV
  let askMd := md && s.on Kc.GRD_STAT.MDEAD
  let noOv := askOv && s.declines false
  let noMd := askMd && s.declines true
  let s := s.when (askOv && !noOv) (fun s => s.wr Kc.GRD_STAT.OV 0)
  let s := s.when (askMd && !noMd) (fun s => s.wr Kc.GRD_STAT.MDEAD 0)
  let s := s.when (noOv || noMd) (fun s => s.eventIf Ev.GRD_CLR)
  if (askOv || askMd) && !s.on Kc.GRD_STAT.OV && !s.on Kc.GRD_STAT.MDEAD then s.onGrd (fun g => { g with releaseInh := true }) else s

/-- GUARD_CLEAR. -/
def guardClearCell (ov md : Bool) (s : Cell) : Cell := if s.runs then s.guardClear ov md else s

/-- GUARD_MAIN_RETRY: after MDEAD, once a second, at most 8 times, the guard switches the main supply off and on, as long as the main
domain is dead (R156). -/
def guardMainRetryCell (s : Cell) : Cell :=
  if s.on Kc.GRD_STAT.MDEAD && !s.grd.gaveUp && (!s.runs || s.silent) then
    if s.grd.tries < 8 then (s.mainReset 3).onGrd (fun g => { g with tries := g.tries + 1 })
    else (s.mainReset 3).onGrd (fun g => { g with gaveUp := true })
  else s

/-! ### Resets, starts and events -/

/-- WATCHDOG_EXPIRY: cause 11 (R158, R332). -/
def watchdogExpiryCell (s : Cell) : Cell :=
  if s.runs && s.progOn && !s.on Kc.CC_DSTAT.HALTED then ((s.wr Kc.CC_XC.CAUSE 11).wr Kc.CC_XC.PC 0).coreReset else s

/-- CELL_CORE_RESET: CC_RST.CORE written. -/
def cellCoreResetCell (s : Cell) : Cell := if s.runs then s.coreReset else s

/-- CELL_CORE_EXCEPTION: a condition of R325 on the cell core: its cause and address are kept, and the core resets (R332). (DEDUCED: log entry 97.) -/
def cellCoreExceptionCell (cause pc : Nat) (s : Cell) : Cell :=
  if s.runs && s.progOn then ((s.wr Kc.CC_XC.CAUSE cause).wr Kc.CC_XC.PC pc).coreReset else s

/-- MAIN_DOMAIN_RESET: the main supply fails, or CC_RST.MAIN is written. -/
def mainDomainResetCell (written : Bool) (s : Cell) : Cell := if s.power = 0 then s else s.mainReset (if written then 2 else 1)

/-- CELL_TEMP_RESET: above 140 °C the main domain is reset until below 125 °C (R605). The cause read afterwards is not stated. (DESIGN CHOICE: log entry 38.) -/
def cellTempResetCell (s : Cell) : Cell :=
  if s.power = 0 then s else { s with free := s.free + 1 }.mainReset (Config.unstated s.free % 4)

/-- The bank that the boot ROM runs: the one SEL names, else the other (R550). (DEDUCED: log entry 68.) -/
def Cell.bootBank (s : Cell) (b0 b1 : ImgChk) : Option Nat :=
  let st := s.rd Kc.CC_SEC.STATE
  let sel := s.rd Kc.CC_BOOT.SEL
  let pass := fun (i : Nat) => s.sec.imagePasses st [0, 1] (if i = 0 then b0 else b1)
  if pass sel then some sel else if pass (1 - sel) then some (1 - sel) else none

/-- A field of the guard takes its bits of a word; a reserved value leaves it (R10). -/
def Cell.guardField (v : Nat) (s : Cell) (f : Fld) : Cell := s.when (f.ok (bits v f.lo f.w)) (fun s => s.wr f (bits v f.lo f.w))

/-- The guard block of a sealed module's image goes into the guard, and LOCK is set; in RETIRED LOCK is set alone (R155). -/
def Cell.guardBlock (s : Cell) (i : ImgChk) : Cell :=
  let st := s.rd Kc.CC_SEC.STATE
  if st = 1 ∨ st = 2 then
    let t := [Kc.GRD_CFG.FILT, Kc.GRD_CFG.OVACT, Kc.GRD_CFG.MDACT, Kc.GRD_CFG.MDTO, Kc.GRD_CFG.EN].foldl (Cell.guardField i.gcfg.toNat) s
    let t := [Kc.GRD_TH.OVCNT, Kc.GRD_TH.OVTH, Kc.GRD_TH.MDTH].foldl (Cell.guardField i.gth.toNat) t
    (t.when (t.rd Kc.GRD_CFG.FILT != s.rd Kc.GRD_CFG.FILT) (Cell.onGrd · (fun g => { g with win := [] }))).mark Kc.GRD_STAT.LOCK
  else s

/-- The fields whose reset value the running image sets, those of the guard's store and the bank store apart (R624). -/
def Kc.imageFlds : List Fld :=
  [Kc.GEN_CTRL.EDGE, Kc.GEN_CTRL.SAFE1, Kc.GEN_CTRL.SAFE0, Kc.GEN_CTRL.MPMODE, Kc.GEN_CTRL.TOPO, Kc.GEN_DT.DT1, Kc.GEN_DT.DT0,
   Kc.GEN_MINP.MINP, Kc.GEN_TRIP.TFILT, Kc.GEN_TRIP.TEN, Kc.ADC_CTRL.SETL, Kc.ADC_CTRL.SREP, Kc.ADC_CTRL.FAST, Kc.ADC_CAL.ROT,
   Kc.ADC_SEQn.EN, Kc.ADC_SEQn.GATE, Kc.ADC_SEQn.INP, Kc.ADC_VSC.CGAIN, Kc.ADC_VSC.COFS, Kc.ADC_ESC.EGAIN, Kc.ADC_ESC.EOFS,
   Kc.ADC_TSC.TGAIN, Kc.ADC_TSC.TOFS, Kc.CAP_CFG.POST, Kc.CAP_CFG.DEC, Kc.CAP_CFG.TAG, Kc.CAP_CFG.FIRE, Kc.CAP_CFG.SRC,
   Kc.CAP_TLV.HI, Kc.CAP_TLV.LO, Kc.CAP_SLW.STEP, Kc.CAP_SLW.WIN, Kc.CC_WDT.PER, Kc.CC_ROLE.SENSOR]

/-- What a field takes of its bits of a word: the reserved bit 0 of CAP_CFG.SRC is ignored (R9, R218). -/
def Fld.clean (f : Fld) (v : Nat) : Nat := if f.base = Kc.CAP_CFG.SRC.base ∧ f.lo = 0 then v - v % 2 else v

/-- A register word of the image: the fields of R624 at its address take its bits, none a reserved value. -/
def Cell.imageReg (s : Cell) (p : Nat × Word) : Cell :=
  Kc.imageFlds.foldl (fun s f =>
    match f.at? p.1 with
    | some (n, _) =>
      let v := f.clean (bits p.2.toNat f.lo f.w)
      s.when (f.ok v) (fun s => s.wr f v n)
    | none => s) s

/-- Bytes from a core address on. -/
def Cell.putBytes (s : Cell) (a : Nat) (l : List (BitVec 8)) : Cell :=
  (l.foldl (fun (p : Cell × Nat) b => ({ p.1 with mem := Tab.set 0 p.2 b p.1.mem }, p.2 + 1)) (s, a)).1

/-- What the running image sets: register fields, code from the start of the code SRAM, data from that of the data SRAM (R550, R624). -/
def Cell.loadImage (s : Cell) (i : ImgChk) : Cell :=
  ((i.regs.foldl Cell.imageReg s).putBytes 0 (i.code.take 65536)).putBytes 0x100000 (i.data.take 32768)

/-- The key store and the BENCH strap as read at a main domain start: behind a faulty key store the module is SEALED and no slot is
usable (R548, R596). (DEDUCED: log entry 210.) -/
def Cell.sampled (s : Cell) (i : CellStart) : Cell :=
  let sec := { s.sec with fault := i.kflt }
  ({ s with sec := sec }.wr Kc.CC_SEC.STATE sec.state).wr Kc.CC_SEC.BENCH (b2n i.bench)

/-- MAIN_DOMAIN_START: the boot ROM checks the banks, SEC being raised where that of CC_BOOT.SEL fails, the slices calibrate, and the cell program starts; by then the guard has closed the pass-through (R144, R155, R163, R204, R550, R623). (DEDUCED: log entries 10, 68; DESIGN CHOICE: log entry 63.) -/
def mainDomainStartCell (b0 b1 : ImgChk) (i : CellStart) (s : Cell) : Cell :=
  if s.power < 2 ∨ s.mainOn ∨ s.grd.gaveUp then s
  else
    let s := s.sampled i
    let boot := s.bootBank b0 b1
    let s := { s with mainOn := true, held := false, ptOpen := false }
    let s := (s.onGrd (fun g => { g with tries := 0, mdNew := false })).wr Kc.CC_RST.CAUSE s.cause
    let s := s.event Ev.RESET
    let s := s.when (boot != some (s.rd Kc.CC_BOOT.SEL)) (fun s => s.event Ev.SEC)
    let s := s.when (s.rd Kc.CC_SEC.STATE == 3) (fun s => s.mark Kc.GRD_STAT.LOCK)
    let s := s.when (s.on Kc.GRD_STAT.MDEAD) (fun s => s.event Ev.GRD_MD)
    let s := (s.wr Kc.ADC_CAL.FAIL i.fail.toNat).when (i.fail != 0) (fun s => s.event Ev.ADCCAL)
    let s := s.onMeas (fun m => { m with
      slices := s.usable, single := s.power == 2, age := [(0, 1), (1, 2), (2, 3)], clock := 3 })
    let s := (s.wr Kc.ADC_STAT.SHARED (b2n s.sharedRow)).wr Kc.ADC_CAL.SPARE (if s.sharedRow then 3 else 0)
    match boot with
    | some k =>
      let i := if k = 0 then b0 else b1
      let s := (s.wr Kc.CC_BOOT.RUN k).wr Kc.CC_ID.IDENT i.ident.toNat
      let s := s.wr Kc.CC_SEC.UNSG (b2n (!s.sec.signed [0, 1] i))
      let s := s.wr Kc.CC_SEC.ISLOT ((s.sec.slotOf [0, 1] i.keyHash).getD 0)
      let s := { s with progOn := true, entry := i.entry, core := { pc := i.entry }, sec := { s.sec with imgSvn := i.svn.toNat } }
      (s.loadImage i).guardBlock i
    | none => s

/-- CELL_EVENT_RAISE: what the source stands for came about (R162, R163). (DESIGN CHOICE: log entry 139.) -/
def cellEventRaiseCell (src : Nat) (s : Cell) : Cell := s.eventIf src

/-- CC_EVP_WRITE: writing 1 acknowledges a source as BCMD 5 does (R167). -/
def ccEvpWriteCell (m : Nat) (s : Cell) : Cell :=
  (List.range 32).foldl (fun s i => if bit m i then s.ack i else s) s

/-- PARK_HALT_TAKES_EFFECT: every output has been 0 (or, with a trip latched, at its safe level) for 1 µs: the halt asked for takes
effect (R185, R557). (DEDUCED: log entry 95.) -/
def parkHaltTakesEffectCell (s : Cell) : Cell :=
  if s.haltReq ∧ (s.rd Kc.GEN_OUT.G = 0 ∨ (s.tripped ∧ s.rd Kc.GEN_OUT.G = s.safeLevels)) then
    { (s.mark Kc.CC_DSTAT.HALTED) with haltReq := false }
  else s

end Sys2Proof.Machine
end

