-- ==== Sys2Proof/Machine/AcqFire.lean ====
section
/-! DEFINITION. Arming and firing the acquisition units (R441 to R446, R454). -/

namespace Sys2Proof.Machine

/-- The state of unit `n` behind its registers. -/
def Kv.acqU (s : Kv) (n : Nat) : AcqUnit := Tab.get AcqUnit.reset n s.acq

/-- Replace the state of unit `n` behind its registers. -/
def Kv.setAcq (s : Kv) (n : Nat) (u : AcqUnit) : Kv := { s with acq := Tab.set AcqUnit.reset n u s.acq }

/-- Row size in bytes for `c` channels (R437). -/
def acqRowSize (c : Nat) : Nat := 32 * ((16 + 2 * c + 31) / 32)

/-- DRAM address of slot `r` of unit `n` (R437). -/
def Kv.acqSlot (s : Kv) (n r : Nat) : Nat :=
  s.rd Kv.ACQn_BASE.BASE n * 4096 + r * acqRowSize (s.rd Kv.ACQn_STAT.C n)

/-- The members of the group: the units of GRP, and the master always (R441). -/
def Kv.acqMembers (s : Kv) : List Nat :=
  (List.range 4).filter (fun i => bit (s.rd Kv.ACQ_CTRL.GRP) i || i == s.rd Kv.ACQ_CTRL.MSTR)

/-- Bring unit `n` into ARMED with a fresh record from tick `t` on (R447). (DEDUCED: log entry 108.) -/
def Kv.acqArmUnit (s : Kv) (n t : Nat) : Kv :=
  let s := s.setAcq n { AcqUnit.reset with armTick := t }
  let s := s.wr Kv.ACQn_STAT.STATE 1 n
  let s := s.wr Kv.ACQn_STAT.CAUSE 15 n
  s.wr Kv.ACQn_NPOST.NPOST 0 n

/-- Mark the row in `slot` as the fire row: bit 30 of its word 1 (R437). -/
def Kv.acqMarkFire (s : Kv) (n slot : Nat) : Kv :=
  let a := s.acqSlot n slot + 7
  s.wrByte a (s.rdByte a ||| 0x40#8)

/-- A fire of unit `n` for tick `f` with cause `c` (R444, R454). A unit in ARMED enters POST. Its fire row is the oldest data
row of tick `f` or later, so a row that falls in a gap passes the mark to the first data row after it (R448). A fire
before the arm tick is ignored; one in POST for the same tick keeps the lowest cause; any other in POST or DONE sets REFIRE. (DEDUCED: log entry 109.) -/
def Kv.acqFireUnit (s : Kv) (n f c : Nat) : Kv :=
  let u := s.acqU n
  let st := s.rd Kv.ACQn_STAT.STATE n
  if st = 1 then
    if tickAhead f u.armTick then s
    else
      let s := s.wr Kv.ACQn_STAT.STATE 2 n
      let s := s.wr Kv.ACQn_STAT.CAUSE c n
      let s := s.wr Kv.ACQn_FTIK.F f n
      let data := u.rows.filter (fun r => !r.gap)
      match (data.filter (fun r => !tickAhead r.tick f)).getLast? with
      | some r =>
        let s := s.acqMarkFire n r.slot
        let s := s.setAcq n { u with fireSlot := r.slot }
        s.wr Kv.ACQn_NPOST.NPOST ((data.filter (fun q => tickAhead r.tick q.tick)).length) n
      | none => s.setAcq n { u with fireWait := some f }
  else if st = 2 then
    if s.rd Kv.ACQn_FTIK.F n = f % 2 ^ 32 then s.wr Kv.ACQn_STAT.CAUSE (min c (s.rd Kv.ACQn_STAT.CAUSE n)) n
    else s.mark Kv.ACQn_STAT.REFIRE n
  else if st = 3 then s.mark Kv.ACQn_STAT.REFIRE n
  else s

/-- A source fires for tick `f` with cause `c` at the members that `src` enables. If one of them is ARMED and was armed by
`f`, every other member fires with CAUSE 5, and BFIRE goes out with the frame of tick `f` + XLAG, or late with the next frame
(R444, R446). -/
def Kv.acqFire (s : Kv) (src : Nat → Bool) (f c : Nat) : Kv :=
  let members := s.acqMembers
  let own := members.filter src
  let live := own.filter (fun n => s.rd Kv.ACQn_STAT.STATE n == 1 && !tickAhead f (s.acqU n).armTick)
  let others := members.filter (fun n => !src n)
  let t := s.each own (fun s n => s.acqFireUnit n f c)
  if live.isEmpty then t
  else
    let t := t.each others (fun s n => s.acqFireUnit n f 5)
    let due := tickPlus f (s.rd Kv.ACQ_CTRL.XLAG)
    if !tickAhead s.tick due then
      { t.each live (fun s n => s.mark Kv.ACQn_STAT.XLATE n) with bfireAt := some (tickPlus s.tick 1) }
    else { t with bfireAt := some due }

/-- A unit's fire source bit: 0 own trigger, 1 cell fire, 2 other chip, 3 fault event (ACQn_CFG.FSRC). -/
def Kv.acqSrcOn (s : Kv) (k n : Nat) : Bool := bit (s.rd Kv.ACQn_CFG.FSRC n) k

/-- An event bit of source `e` rises in tick `f`: units whose FEVT names it fire with CAUSE 8 (R444). -/
def Kv.acqEventFire (s : Kv) (e f : Nat) : Kv :=
  s.acqFire (fun n => s.acqSrcOn 3 n && s.rd Kv.ACQn_CFG.FEVT n == e) f 8

end Sys2Proof.Machine
end

