-- ==== Sys2Proof/Machine/Faults.lean ====
section
/-! DEFINITION. The fault collector and the event controller (R405 to R435): what one occurrence does. -/

namespace Sys2Proof.Machine

/-! ### Source numbers (R408, R409) -/

namespace Src
abbrev REGACC : Nat := 0
abbrev SYS_SAT : Nat := 1
abbrev TIM_REFCLK : Nat := 2
abbrev TIM_REGION : Nat := 3
abbrev SP_LINK : Nat := 4
abbrev SP_BLIND : Nat := 5
abbrev SP_PWR : Nat := 6
abbrev SP_GIVEUP : Nat := 7
abbrev SP_FOLD : Nat := 8
abbrev SP_LATE : Nat := 9
abbrev SP_PLACE : Nat := 10
abbrev CL_LANE : Nat := 11
abbrev CL_DOWN : Nat := 12
abbrev CL_CASTLE : Nat := 13
abbrev CL_REFUSE : Nat := 14
abbrev CL_NOTRDY : Nat := 15
abbrev CL_DIGEST : Nat := 16
abbrev CL_PATH : Nat := 17
abbrev CL_DCONF : Nat := 18
abbrev CL_MERR : Nat := 19
abbrev CL_BIST : Nat := 20
abbrev CL_HEALTH : Nat := 21
abbrev LDG_LAG : Nat := 22
abbrev LDG_MISS : Nat := 23
abbrev AL_LATE : Nat := 24
abbrev AL_XTRP : Nat := 25
abbrev AL_SAT : Nat := 26
abbrev AL_NMIN : Nat := 27
abbrev AL_LOST : Nat := 28
abbrev AL_LPARK : Nat := 29
abbrev AL_CLASS : Nat := 30
abbrev CVU_LATE : Nat := 31
abbrev CVU_SAT : Nat := 32
abbrev SFE_LATE : Nat := 33
abbrev SFE_SKIP : Nat := 34
abbrev SFE_SAT : Nat := 35
abbrev SFE_STALE : Nat := 36
abbrev SFE_CFG : Nat := 37
abbrev SFE_MEM : Nat := 38
abbrev CORE_DBL : Nat := 39
abbrev CORE_MEM : Nat := 40
abbrev DSP_T0OVR : Nat := 41
abbrev DSP_T0BLK : Nat := 42
abbrev DSP_POVR : Nat := 43
abbrev DSP_ELOST : Nat := 44
abbrev DSP_CNT : Nat := 45
abbrev DSP_QSAT : Nat := 46
abbrev DSP_FRC : Nat := 47
abbrev DSP_ORPH : Nat := 48
abbrev DSP_OLC : Nat := 49
abbrev MEM_COR : Nat := 50
abbrev MEM_UNC : Nat := 51
abbrev MEM_DEV : Nat := 52
abbrev SRAM_COR : Nat := 53
abbrev SRAM_UNC : Nat := 54
abbrev CRC_MIS : Nat := 55
abbrev ACQ_GAP : Nat := 56
abbrev ACQ_MASK : Nat := 57
abbrev ACQ_DONE : Nat := 58
abbrev PCI_ERR : Nat := 59
abbrev ETH_LINK : Nat := 60
abbrev PTP_MASTER : Nat := 61
abbrev IMG_LATE : Nat := 62
abbrev TALLY : Nat := 63
abbrev SEC_AUTH : Nat := 64
abbrev SEC_KEY : Nat := 65
abbrev DBG_SESS : Nat := 66
abbrev SVL_LINK : Nat := 67
abbrev SYS_TEMP : Nat := 68
abbrev SYS_RST : Nat := 69
abbrev SYS_CFG : Nat := 70
abbrev FLT_LOG : Nat := 71
/-- KF-120 source `i`. -/
abbrev KF (i : Nat) : Nat := 80 + i
/-- KC-60 source `i`. -/
abbrev KC (i : Nat) : Nat := 96 + i
end Src

/-- ADDR is a cell address: that of a source which carries one, of 13 bits (R6, R407 and the chapters it names). (DEDUCED: log entry 145.) -/
def addrIsCell (m : Msg) : Bool :=
  decide (m.addr < 8192) && (decide (96 ≤ m.src) || (m.src == Src.SYS_SAT && m.kind == 16) ||
  ([Src.SP_PLACE, Src.CL_PATH, Src.CL_DCONF, Src.AL_LOST, Src.AL_LPARK, Src.AL_CLASS, Src.CVU_SAT].contains m.src
    && m.kind != 1))

/-- The chip holds the castle token: it is duty (R21). -/
def Kv.duty (s : Kv) : Bool := s.on Kv.CL_CASST.TOKEN

/-- The chip is PARKED. -/
def Kv.parked (s : Kv) : Bool := s.rd Kv.SYS_PWR.STATE == 1

/-- The program mode: 0 STOP, 1 RUN, 2 HOLD (R361). -/
def Kv.mode (s : Kv) : Nat := s.rd Kv.DSP_STAT.MODE

/-! ### Supervisor CMD (R533, R534) -/

/-- The CMD the chip sends now: its output levels and its flags. REF goes with a T0 of the previous tick that ended, or with
STOP under STOPREF. A HELD chip asks for SAFE, refreshes and does not resume (R581). (DEDUCED: log entry 84.) -/
def Kv.svlCmd (s : Kv) (trip : Bool) : List Nat :=
  let held := s.on Kv.SYS_STAT.HELD
  let ref := held || tickIs s.t0Ended (tickPrev s.tick) || (s.mode == 0 && s.on Kv.SVL_CTRL.STOPREF)
  let flags := 128 * b2n ref + 64 * b2n (s.svlResume && !held) + 32 * b2n (s.svlSafe || held) + 16 * b2n trip + 8 * b2n s.svlTclr
  svlMessage 0x02 (beBytes 2 (s.rd Kv.SVL_CTRL.OUT) ++ [flags, 0, 0, 0, 0, 0])

/-- Send a CMD, only while TOKEN = 1 and the link is enabled; the one-shot flags go with it. (DEDUCED: log entry 84.) -/
def Kv.sendCmd (s : Kv) (trip : Bool) : Kv :=
  if s.duty && s.on Kv.SVL_CTRL.EN then
    { (s.send ⟨.svlCmd, 0, s.svlCmd trip⟩) with svlSafe := false, svlTclr := false, svlResume := false }
  else s

/-! ### MSI-X (R426, R485) -/

/-- Send MSI-X vector `v`: at once where it is unmasked and the link is up, else its pending bit is set. (DESIGN CHOICE: log entry 118.) -/
def Kv.msix (s : Kv) (v : Nat) : Kv :=
  if s.on Kv.PCI_MSIX_VC.MASK v || !s.on Kv.PCI_STAT.DLUP then
    s.wr Kv.PCI_PBAm.PEND (setBit (s.rd Kv.PCI_PBAm.PEND (v / 32)) (v % 32) true) (v / 32)
  else s.send ⟨.msix, v, [s.rd Kv.PCI_MSIX_ALO.A v, s.rd Kv.PCI_MSIX_AHI.A v, s.rd Kv.PCI_MSIX_DATA.D v]⟩

/-! ### One occurrence -/

/-- Count up a saturating counter (R12): the field, its sticky SAT bit, and whether this step reached the largest value. -/
def Kv.bump (s : Kv) (f sat : Fld) (i : Nat := 0) (j : Nat := 0) : Kv × Bool :=
  let v := s.rd f i j
  if v = f.max then (s, false)
  else if v + 1 = f.max then ((s.wr f (v + 1) i j).mark sat i j, true)
  else (s.wr f (v + 1) i j, false)

/-- Add 1 to the source's occurrence count; its saturation is an occurrence of SYS_SAT, but not that of SYS_SAT's own
count (R428). -/
def Kv.fltCount (s : Kv) (src : Nat) : Kv × List Msg :=
  let r := s.bump Kv.FLT_SSTn.OCC Kv.FLT_SSTn.SAT src
  (r.1, if r.2 && src != Src.SYS_SAT then [⟨Src.SYS_SAT, 1, Kv.FLT_SSTn.OCC.addr src 0⟩] else [])

/-- The open window of a source ends where its WLEN ms have passed, `early` ns sooner at the most: with LAST set and THR reached a new one opens
at that end, which ends in its turn; else LAST clears and none stays open (R416). -/
def Kv.winEnd (s : Kv) (src early : Nat) : Kv :=
  let o := Tab.get 0 src s.winOpen
  let len := 1000000 * s.rd Kv.FLT_WINn.WLEN src
  let now := s.upNs + 1 + early
  if o = 0 ∨ now < o + len then s
  else if s.on Kv.FLT_SSTn.LAST src && decide (s.rd Kv.FLT_WINn.THR src ≤ s.rd Kv.FLT_SSTn.WCNT src ∧ now < o + 2 * len) then
    { (s.wr Kv.FLT_SSTn.WCNT 0 src) with winOpen := Tab.set 0 src (o + len) s.winOpen }
  else { ((s.wr Kv.FLT_SSTn.LAST 0 src).wr Kv.FLT_SSTn.WCNT 0 src) with winOpen := Tab.set 0 src 0 s.winOpen }

/-- The window of an occurrence (R416): one that is over ends first (R418), then open one, or count in the open one; the occurrence that brings
WCNT to THR sets LAST. -/
def Kv.fltWindow (s : Kv) (src : Nat) : Kv :=
  if s.on Kv.FLT_WINn.EN src then
    let s := s.winEnd src 0
    let isOpen := Tab.get 0 src s.winOpen != 0
    let c := if isOpen then min 255 (s.rd Kv.FLT_SSTn.WCNT src + 1) else 1
    let s := if isOpen then s else { s with winOpen := Tab.set 0 src (s.upNs + 1) s.winOpen }
    let s := s.wr Kv.FLT_SSTn.WCNT c src
    s.when (c == s.rd Kv.FLT_WINn.THR src) (fun s => s.mark Kv.FLT_SSTn.LAST src)
  else s

/-- The base severity after the window was brought up to date: LSEV while window counting is on and LAST is set. -/
def Kv.fltBase (s : Kv) (src : Nat) : Nat :=
  if s.on Kv.FLT_WINn.EN src && s.on Kv.FLT_SSTn.LAST src then s.rd Kv.FLT_SEVn.LSEV src else s.rd Kv.FLT_SEVn.SEV src

/-- The occurrence is merged into the pending fault (R415). -/
def Kv.fltMerged (s : Kv) (src : Nat) : Bool :=
  s.on Kv.FLT_SSTn.PEND src && s.on Kv.FLT_CFG.MERGE && decide (s.fltBase src ≤ s.rd Kv.FLT_SSTn.CSEV src)

/-- The occurrence escalates by repeat (R414). -/
def Kv.fltRepeat (s : Kv) (src : Nat) : Bool :=
  s.on Kv.FLT_SSTn.PEND src && !s.on Kv.FLT_CFG.MERGE && s.on Kv.FLT_SEVn.ESC src

/-- The effective severity (R414). -/
def Kv.fltSev (s : Kv) (src : Nat) : Nat :=
  let base := s.fltBase src
  if s.fltRepeat src then max base (min (s.rd Kv.FLT_SSTn.CSEV src + 1) (s.rd Kv.FLT_SEVn.ESCMAX src)) else base

/-- Write one entry of 16 bytes into the log ring (R423). A full ring loses its oldest entry; FLT_LOG is raised when LOST
leaves 0, and the saturation of LOST is an occurrence of SYS_SAT. -/
def Kv.fltLog (s : Kv) (m : Msg) (sev : Nat) (esc first : Bool) : Kv × List Msg :=
  if s.rd Kv.FLT_CFG.LOGMIN ≤ sev then
    let wp := s.rd Kv.FLT_LOGP.WP
    let w0 := m.src % 128 * 2 ^ 25 + m.kind % 32 * 2 ^ 20 + sev % 8 * 2 ^ 17 +
      b2n (s.on Kv.FLT_SSTn.LAST m.src) * 2 ^ 16 + b2n esc * 2 ^ 15 + b2n first * 2 ^ 14 + s.logSeq % 2 ^ 14
    let full := s.on Kv.FLT_STAT.LFULL
    let was := s.rd Kv.FLT_LOGP.LOST
    let r := if full then (s.wr Kv.FLT_LOGP.RP (wp + 1)).bump Kv.FLT_LOGP.LOST Kv.FLT_LOGP.SAT else (s, false)
    let t := r.1
    let t := t.wr Kv.FLT_LOGWk.W w0 (4 * wp)
    let t := t.wr Kv.FLT_LOGWk.W m.addr (4 * wp + 1)
    let t := t.wr Kv.FLT_LOGWk.W s.tick (4 * wp + 2)
    let t := t.wr Kv.FLT_LOGWk.W s.nowNs (4 * wp + 3)
    let t := t.wr Kv.FLT_LOGP.WP (wp + 1)
    let t := t.when (t.rd Kv.FLT_LOGP.WP == t.rd Kv.FLT_LOGP.RP) (fun t => t.mark Kv.FLT_STAT.LFULL)
    ({ t with logSeq := (s.logSeq + 1) % 2 ^ 14 },
      (if full && was == 0 then [⟨Src.FLT_LOG, 0, 0⟩] else []) ++
      (if r.2 then [⟨Src.SYS_SAT, 1, Kv.FLT_LOGP.LOST.base⟩] else []))
  else (s, [])

/-- The first-fault latch takes this occurrence (R424). -/
def Kv.fltFirst (s : Kv) (sev : Nat) : Bool :=
  decide (s.rd Kv.FLT_CFG.FFMIN ≤ sev) && !s.on Kv.FLT_FF0.VALID

/-- The first-fault latch: take the occurrence, or set OVF, and TIE with it in the same REFCLK period (R424). (DEDUCED: log entry 42.) -/
def Kv.fltLatch (s : Kv) (m : Msg) (sev : Nat) : Kv :=
  if s.fltFirst sev then
    let s := s.mark Kv.FLT_FF0.VALID
    let s := s.wr Kv.FLT_FF0.SRC m.src
    let s := s.wr Kv.FLT_FF0.KIND m.kind
    let s := s.wr Kv.FLT_FF0.SEV sev
    let s := s.wr Kv.FLT_FF1.ADDR m.addr
    let s := s.wr Kv.FLT_FF2.TICK s.tick
    s.wr Kv.FLT_FF3.NS s.nowNs
  else if s.rd Kv.FLT_CFG.FFMIN ≤ sev then
    let same := s.rd Kv.FLT_FF2.TICK == s.tick % 2 ^ 32 && s.rd Kv.FLT_FF3.NS == s.nowNs
    (s.mark Kv.FLT_FF0.OVF).when same (fun s => s.mark Kv.FLT_FF0.TIE)
  else s

/-- The command lead L in ticks, from SP_LEAD (R127): TA + CARRY. -/
def Kv.lead (s : Kv) : Nat := s.rd Kv.SP_LEAD.TA + s.rd Kv.SP_LEAD.CARRY

/-- A level 4 or 5 on the standby fails an on-line change that stands in `st` (R418). -/
def Kv.olcFails (s : Kv) (st : Nat) : Bool := !s.duty && decide (1 ≤ st ∧ st ≤ 4)

/-- Cell `a` is to be parked with the placement of target tick `t`; one that waits for an earlier target keeps it (R418, R420). (DEDUCED: log entry 43.) -/
def Kv.parkAt (s : Kv) (a t : Nat) : Kv :=
  let o := Tab.get 0 a s.ovrAt
  if o != 0 && !tickAhead t (o - 1) then s else { s with ovrAt := Tab.set 0 a (t + 1) s.ovrAt }

/-- The reactions of a severity to a message of tick `n` (R419 to R422). Severity 3 reacts as 2 where ADDR is no cell address; level 5 acts as
level 4 on the standby. On the standby, level 4 or 5 fails an on-line change first, and the old image is reloaded (R358, R418). (DEDUCED: log entry 145.) -/
def Kv.fltReact (s : Kv) (m : Msg) (n sev : Nat) : Kv :=
  let s := s.when (4 ≤ sev || (3 ≤ sev && addrIsCell m)) (fun s => s.mark Kv.FLT_STAT.CBLK)
  let s := s.when (3 ≤ sev && addrIsCell m) (fun s => s.parkAt m.addr (tickPlus n (s.lead + 1)))
  let olc := s.rd Kv.DSP_OLC.STATE
  let s := s.when (4 ≤ sev) (fun s =>
    let s := s.when (s.olcFails olc) (fun s => { s.wr Kv.DSP_OLC.STATE 5 with dsp := { s.dsp with olcReload := true } })
    { ((s.mark Kv.FLT_STAT.STOPR).wr Kv.DSP_STAT.PEND 0) with stopNext := true, dsp := { s.dsp with modeReq := none } })
  s.when (5 ≤ sev && s.duty) (fun s => (s.mark Kv.FLT_STAT.TRIPR).sendCmd true)

/-- The event bit of a source is set. -/
def Kv.evPend (s : Kv) (e : Nat) : Bool := bit (s.rd Kv.EVT_PENDm.PEND (e / 32)) (e % 32)

/-- Write the event bit of a source. -/
def Kv.setEvPend (s : Kv) (e : Nat) (b : Bool) : Kv :=
  s.wr Kv.EVT_PENDm.PEND (setBit (s.rd Kv.EVT_PENDm.PEND (e / 32)) (e % 32) b) (e / 32)

/-- Set the event bit where the severity reaches MINSEV; a rising bit sends MSI-X, releases an event task at the next
boundary and fires acquisition units (R425 to R427, R444). -/
def Kv.fltEvent (s : Kv) (src sev : Nat) : Kv :=
  if s.rd Kv.EVT_RTn.MINSEV src ≤ sev && !s.evPend src then
    let s := s.setEvPend src true
    let masked := bit (s.rd Kv.EVT_MSKm.MSK (src / 32)) (src % 32)
    let s := s.when (s.on Kv.EVT_RTn.MEN src && !masked) (fun s => s.msix (s.rd Kv.EVT_RTn.VEC src))
    let s := s.when (s.on Kv.EVT_RTn.EEN src) (fun s => { s with evRelease := s.evRelease ++ [src] })
    s.acqEventFire src s.tick
  else s

/-- The sources of a standby's program blocks: allocators, CVU, SFE, cores and dispatcher (R358). (DESIGN CHOICE: log entry 107.) -/
def programSource (src : Nat) : Bool := decide (24 ≤ src ∧ src ≤ 49)

/-- The collector accepts one message of tick `n`: R414 in full. Answers the occurrences it raises in turn, a change that it fails among them (R369). (DEDUCED: log entry 42.) -/
def Kv.accept (s : Kv) (n : Nat) (m : Msg) : Kv × List Msg :=
  let r := s.fltCount m.src
  let s := r.1.fltWindow m.src
  if s.fltMerged m.src then (s, r.2)
  else
    let sev := s.fltSev m.src
    let esc := s.fltRepeat m.src && decide (s.fltBase m.src < sev)
    let s := s.when (1 ≤ sev) (fun s =>
      (s.mark Kv.FLT_SSTn.PEND m.src).wr Kv.FLT_SSTn.CSEV (max (s.rd Kv.FLT_SSTn.CSEV m.src) sev) m.src)
    let s := s.when (2 ≤ sev && programSource m.src) (fun s => { s with olcDirty := true })
    let olc := if 4 ≤ sev ∧ s.olcFails (s.rd Kv.DSP_OLC.STATE) = true then [(⟨Src.DSP_OLC, 0, 0⟩ : Msg)] else []
    let first := s.fltFirst sev
    let l := s.fltLog m sev esc first
    let s := l.1.fltLatch m sev
    let s := s.fltReact m n sev
    (s.fltEvent m.src sev, r.2 ++ l.2 ++ olc)

/-- Accept messages of tick `n` in order, each before those it raises in turn. (DEDUCED: log entry 42.) -/
def Kv.acceptAll (n : Nat) : Nat → Kv → List Msg → Kv
  | 0, s, _ => s
  | _ + 1, s, [] => s
  | k + 1, s, m :: rest => let r := s.accept n m; Kv.acceptAll n k r.1 (rest ++ r.2)

/-- Raise a fault message: one occurrence of its source (R405). (DESIGN CHOICE: log entry 207.) -/
def Kv.raise (s : Kv) (src kind addr : Nat) : Kv := Kv.acceptAll s.tick 16 s [⟨src, kind, addr % 2 ^ 32⟩]

/-- A cell event of the report of tick `n`, from which the level-3 reaction counts its target tick (R420). Where more cell messages came in one
tick than the queue has entries, whether it was full and held this one back is open; none is lost (R412). (DEDUCED: log entry 43; DESIGN CHOICE: log entry 207.) -/
def Kv.raiseCell (s : Kv) (src a n : Nat) : Kv :=
  let s := { s with col := { s.col with cellMsgs := s.col.cellMsgs + 1 } }
  let s := if s.col.cellMsgs ≤ 4096 then s
    else let q := s.fresh; q.2.when ((Config.unstated q.1).testBit 0) (fun s => s.mark Kv.FLT_STAT.HOLDQ)
  Kv.acceptAll n 16 s [⟨src, 0, a⟩]

/-- Messages of one source that arise in one instant: the first takes the source's slot, the others count as occurrences and are not logged
separately (R412). (DESIGN CHOICE: log entry 207.) -/
def Kv.raiseOnce (s : Kv) (src : Nat) (addrs : List Nat) : Kv :=
  match addrs with
  | [] => s
  | a :: rest =>
    (s.raise src 0 a).each rest (fun s _ => let r := s.fltCount src; Kv.acceptAll s.tick 16 (r.1.fltWindow src) r.2)

/-- A register-access fault (R406): kind 16 reserved encoding, 17 state, 18 out of range, 19 tick, 20 security. -/
def Kv.regacc (s : Kv) (kind offset : Nat) : Kv := s.raise Src.REGACC kind offset

/-- Count up a saturating counter whose saturation raises `src` (R12, R428). -/
def Kv.count (s : Kv) (f sat : Fld) (src : Nat := Src.SYS_SAT) (i : Nat := 0) (j : Nat := 0) : Kv :=
  let r := s.bump f sat i j
  if r.2 then r.1.raise src 1 (f.addr i j) else r.1

/-- Acknowledge a source (R417). -/
def Kv.fltAck (s : Kv) (src : Nat) : Kv := (s.wr Kv.FLT_SSTn.PEND 0 src).wr Kv.FLT_SSTn.CSEV 0 src

/-- FAULT_OCCURRENCE: the collector accepts a message (R414). -/
def faultOccurrenceKv (src kind addr : Nat) (s : Kv) : Kv := s.raise src kind addr

/-- FAULT_WINDOW_END: the open window of a source ends once its time has passed, to within 1 µs (R416). -/
def faultWindowEndKv (src : Nat) (s : Kv) : Kv := s.winEnd src 1000

/-- The windows whose time has passed by a boundary end (R416). -/
def Kv.windowsEnd (s : Kv) : Kv := s.each (s.winOpen.map Prod.fst) (fun s src => s.winEnd src 0)

/-- FAULT_ACKNOWLEDGE through FLT_PENDm (a mask of its 32 sources) or FLT_SSTn.PEND (R417). -/
def faultAcknowledgeKv (m mask : Nat) (s : Kv) : Kv :=
  s.each ((List.range 32).filter (fun i => bit mask i)) (fun s i => s.fltAck (32 * m + i))

/-- FLT_WIN_WRITE: the fields take what they may take, and the source starts again with no window and LAST = 0 (R416). -/
def fltWinWriteKv (src v : Nat) (s : Kv) : Kv :=
  let wl := bits v 16 16
  let th := bits v 8 8
  let okW := Kv.FLT_WINn.WLEN.ok wl
  let okT := Kv.FLT_WINn.THR.ok th
  let s := s.when okW (fun s => s.wr Kv.FLT_WINn.WLEN wl src)
  let s := s.when okT (fun s => s.wr Kv.FLT_WINn.THR th src)
  let s := s.wr Kv.FLT_WINn.EN v src
  let s := (s.wr Kv.FLT_SSTn.LAST 0 src).wr Kv.FLT_SSTn.WCNT 0 src
  let s := { s with winOpen := Tab.set 0 src 0 s.winOpen }
  s.when (!(okW && okT)) (fun s => s.regacc 16 (Kv.FLT_WINn.EN.addr src 0))

/-- FLT_INJ_GO: raise the message of FLT_INJ and FLT_INJA; accepted in PARKED or on the standby (R434). -/
def fltInjGoKv (src kind : Nat) (s : Kv) : Kv :=
  let s := (s.wr Kv.FLT_INJ.SRC src).wr Kv.FLT_INJ.KIND kind
  if s.parked || !s.duty then s.raise (src % 128) (kind % 32) (s.rd Kv.FLT_INJA.ADDR)
  else s.regacc 17 Kv.FLT_INJ.GO.base

/-- FIRST_FAULT_CLEAR: writing 1 to FLT_FF0.VALID clears the whole latch (R433). -/
def firstFaultClearKv (s : Kv) : Kv :=
  let s := (((s.wr Kv.FLT_FF0.VALID 0).wr Kv.FLT_FF0.OVF 0).wr Kv.FLT_FF0.TIE 0).wr Kv.FLT_FF0.SRC 0
  let s := ((s.wr Kv.FLT_FF0.KIND 0).wr Kv.FLT_FF0.SEV 0).wr Kv.FLT_FF1.ADDR 0
  (s.wr Kv.FLT_FF2.TICK 0).wr Kv.FLT_FF3.NS 0

/-- LOG_READ_POINTER_WRITE: a write of RP clears LFULL (R423). -/
def logReadPointerWriteKv (rp : Nat) (s : Kv) : Kv := (s.wr Kv.FLT_LOGP.RP rp).wr Kv.FLT_STAT.LFULL 0

/-- EVENT_UNMASK: clearing mask bits; each unmasked source whose bit is set, with MEN = 1, sends one message (R426). -/
def eventUnmaskKv (m v : Nat) (s : Kv) : Kv :=
  let old := s.rd Kv.EVT_MSKm.MSK m
  let s := s.wr Kv.EVT_MSKm.MSK v m
  s.each ((List.range 32).filter (fun i => bit old i && !bit v i)) (fun s i =>
    s.when (s.evPend (32 * m + i) && s.on Kv.EVT_RTn.MEN (32 * m + i)) (fun s => s.msix (s.rd Kv.EVT_RTn.VEC (32 * m + i))))

end Sys2Proof.Machine
end

