-- ==== Sys2Proof/Machine/Time.lean ====
section
/-! DEFINITION. The time unit of a KV-9400 (R30 to R42, R53 to R58, R509). -/

namespace Sys2Proof.Machine

/-- The chip is steered as standby and its time is aligned (R38). -/
def Kv.alignedStandby (s : Kv) : Bool := !s.duty && s.on Kv.TIM_STAT.STBY && s.on Kv.TIM_STAT.ALIGNED

/-- The crossings into the SerDes regions are measured, and the replicas reloaded with the counter (R52). (DESIGN CHOICE: log entry 149.) -/
def Tim.reload (t : Tim) : Tim :=
  { t with
    crossN := t.crossN + 1
    west := ⟨t.ns, Config.crossingDelay (2 * t.crossN)⟩, east := ⟨t.ns, Config.crossingDelay (2 * t.crossN + 1)⟩ }

/-- The counter and its replicas after `k` REFCLK edges at increment `inc`; every 1,024 cycles the replicas are reloaded (R30, R52). (DESIGN CHOICE: log entry 149.) -/
def Tim.count (t : Tim) (inc : BitVec 40) (k : Nat) : Tim :=
  let d := BitVec.ofNat 64 (k * inc.toNat)
  let u := { t with
    inc := inc, ns := t.ns + d, up := t.up + k * inc.toNat, cycle := (t.cycle + k) % 1024
    west := { t.west with ns := t.west.ns + d }, east := { t.east with ns := t.east.ns + d } }
  if 1024 ≤ t.cycle + k then u.reload else u

/-- One rising edge of REFCLK: a committed increment takes effect, and the increment is added (R30, R31). The counters hold
while REFCLK is missing (R54). (DESIGN CHOICE: log entry 1; DEDUCED: log entry 46.) -/
def refclkEdgeKv (s : Kv) : Kv :=
  if s.on Kv.TIM_STAT.REFLOSS then s
  else { s with tim := { (s.tim.count (s.tim.incNext.getD s.tim.inc) 1) with incNext := none } }

/-- Nanoseconds (with 32 fraction bits) from the counter to a boundary time; 0 where it has reached or passed it. -/
def Kv.toBoundary (s : Kv) (b : BitVec 32) : Nat :=
  let d := (b.setWidth 64 <<< 32) - s.tim.ns
  if d.toNat < 2 ^ 63 then d.toNat else 0

/-- The counters at the first REFCLK edge at which the nanosecond counter has reached B(n+1) (R35). The new tick's length and
spreading take effect at its boundary (R36, R42). -/
def Kv.advanceTick (s : Kv) : Kv :=
  let b := s.tim.bn + BitVec.ofNat 32 (10 * s.tim.len)
  let d := s.toBoundary b
  let inc := if d = 0 then s.tim.inc else s.tim.incNext.getD s.tim.inc
  let edges := (d + inc.toNat - 1) / inc.toNat
  let tick := s.tim.tick + 1
  let k := s.rd Kv.TIM_SPRD.K
  let take := tick.toNat % k == 0
  { s with tim := { (s.tim.count inc edges) with
      incNext := if d = 0 then s.tim.incNext else none
      tick := tick
      bn := b
      len := s.rd Kv.TIM_TICKLEN.LEN
      sprdK := if take then k else s.tim.sprdK
      sprdEn := if take then s.on Kv.TIM_SPRD.EN else s.tim.sprdEn } }

/-- TIM_TICKLEN and TIM_SPRD take the duty's values (R38). -/
def Kv.copySettings (s d : Kv) : Kv :=
  let s := s.wr Kv.TIM_TICKLEN.LEN (d.rd Kv.TIM_TICKLEN.LEN)
  let s := s.wr Kv.TIM_SPRD.K (d.rd Kv.TIM_SPRD.K)
  s.wr Kv.TIM_SPRD.EN (d.rd Kv.TIM_SPRD.EN)

/-- What the chip keeps of ticks of its own count means nothing after a step: no tick of the new count has been closed, judged, released,
placed, passed or settled yet (R38). (DESIGN CHOICE: log entry 179.) -/
def Kv.forgetTicks (s : Kv) : Kv :=
  { s with
    col := { s.col with closed := 0, got := [], ended := [], held := [], last := [] }
    al := { s.al with passed := 0, passStr := 0, passRun := false, cmds := [], ends := []
                      arms := s.al.arms.map (fun e => (e.1, { e.2 with started := 0, done := 0 })) }
    dsp := { s.dsp with t0Due := [], t0Rel := 0, t0End := 0, t0Judged := 0, cntTick := [], cntRel := [] }
    cas := { s.cas with endJudged := 0, digests := [], epochDone := 0, epochs := [], since := none, conf := none, svlTick := 0,
                        otherTick := 0, rival := 0 }
    ovrAt := [], t0Ended := 0 }

/-- Step to the duty's time (R38): tick counter, nanosecond counter, tick length and spreading. -/
def Kv.stepTo (s d : Kv) : Kv :=
  let s := (s.copySettings d).forgetTicks
  { s with tim := { s.tim.reload with
      ns := d.tim.ns, tick := d.tim.tick, bn := d.tim.bn, len := d.tim.len, sprdK := d.tim.sprdK, sprdEn := d.tim.sprdEn
      west := { s.tim.west with ns := d.tim.ns }, east := { s.tim.east with ns := d.tim.ns }, stepped := true, alignRun := 0 } }

/-- The time base is no longer steered over CL0, or the link to the duty is down (R39, R58). -/
def Kv.notAligned (s : Kv) : Kv := { (s.wr Kv.TIM_STAT.ALIGNED 0) with tim := { s.tim with alignRun := 0 } }

/-- One tick's round trip on CL0 by the method of R44, less the latencies of both ends (R37). (DESIGN CHOICE: log entry 20.) -/
def Tim.measureLink (t : Tim) (m : ClStamps) : Tim :=
  let rt : Int := sx 36 (toBits 36 ((m.recv : Int) - m.sent - m.turn)) - Config.portLatency 32 - Config.farLatency (2 ^ 14 + 32)
  let r := hopMean t.clMeas t.clDisc rt
  { t with clMeas := r.1, clDisc := r.2.1, qc := (hopHalf r.1).toNat, clTurn := sx 36 (toBits 36 ((m.sent : Int) - m.recv)) }

/-- The offset from the other chip's time base: the arrival here less the departure there and the delay of the link (R37). (DEDUCED: log entry 47.) -/
def Kv.linkOffset (s : Kv) (m : ClStamps) : Int := sx 36 (toBits 36 ((m.recv : Int) - m.peer)) - s.tim.qc

/-- The standby's offset of one tick (R37, R39). One within 1.0 ns counts towards alignment, one beyond 2.0 ns clears ALIGNED, and the
servo commits an increment; its value is the servo's own. (DESIGN CHOICE: log entry 21.) -/
def Kv.measureOffset (s : Kv) (m : ClStamps) : Kv :=
  let s := { s with tim := s.tim.measureLink m }
  let o := s.linkOffset m
  let s := s.wr Kv.TIM_ALIGN.OFS (toBits 24 o)
  let s := s.when (o.natAbs > 32) (fun s => s.wr Kv.TIM_STAT.ALIGNED 0)
  let run := if o.natAbs ≤ 16 then s.tim.alignRun + 1 else 0
  let inc := Config.servoIncrement s.free
  let s := (s.wr Kv.TIM_INCI.INCI (inc.toNat / 2 ^ 32)).wr Kv.TIM_INCF.INCF inc.toNat
  { s with tim := { s.tim with alignRun := run, incNext := some inc }, free := s.free + 1 }

/-- ALIGNED_SET: after 64 consecutive ticks within 1.0 ns the standby sets ALIGNED (R39). -/
def alignedSetKv (s : Kv) : Kv :=
  s.when (!s.duty && decide (64 ≤ s.tim.alignRun)) (fun s => s.mark Kv.TIM_STAT.ALIGNED)

/-- The increment lies within 9.995 to 10.005 ns (R31). -/
def incInRange (inc : Nat) : Bool := decide (9995 * 2 ^ 32 ≤ inc * 1000 ∧ inc * 1000 ≤ 10005 * 2 ^ 32)

/-- The PTP servo runs: on the duty, with the engine and SERVO on, the mapping not stale and the servo not free-running (R511). -/
def Kv.servoRuns (s : Kv) : Bool :=
  s.duty && s.on Kv.ETH_PTP.EN && s.on Kv.ETH_PTP.SERVO && !s.on Kv.ETH_PTPST.STALE && !s.on Kv.ETH_PTPST.FREE

/-- TIM_INCI_WRITE: the write commits TIM_INCF with it, from the next REFCLK edge; out of range it is refused (R31), and
while the servo runs it is refused for the state (R511). -/
def timInciWriteKv (v : Nat) (s : Kv) : Kv :=
  let inc := v % 256 * 2 ^ 32 + s.rd Kv.TIM_INCF.INCF
  if s.servoRuns then s.regacc 17 Kv.TIM_INCI.INCI.base
  else if incInRange inc then
    { (s.wr Kv.TIM_INCI.INCI v) with tim := { s.tim with incNext := some (BitVec.ofNat 40 inc) } }
  else s.regacc 18 Kv.TIM_INCI.INCI.base

/-- TIM_TICKL_READ: the read latches the high tick bits and the boundary time (R34). -/
def timTicklReadKv (s : Kv) : Kv :=
  (s.wr Kv.TIM_TICKH.TH (s.tick / 2 ^ 32)).wr Kv.TIM_BNDRY.B s.tim.bn.toNat

/-- Block time on string `n` in 0.1 ns: 6.6 ns in service mode, 36.0 ns where the port holds it in start-up mode (R61). (DEDUCED: log entry 147.) -/
def Kv.blockTime (s : Kv) (n : Nat) : Nat := if s.on Kv.SPn_CTRL.NRZ n then 360 else 66

/-- Frame of the longest string of the cell map in 0.1 ns: (36 + 5N) × tb (R126). (DEDUCED: log entry 147.) -/
def Kv.frameTime (s : Kv) : Nat := (List.range 32).foldl (fun m n => max m ((36 + 5 * s.rd Kv.SPn_GEOM.NMOD n) * s.blockTime n)) 0

/-- The modulation frequency of K ticks of `len` × 10 ns lies within 25 to 45 kHz (R42). -/
def sprdPermitted (k len : Nat) : Bool := decide (25 * (k * len * 10) ≤ 1000000 ∧ 1000000 ≤ 45 * (k * len * 10))

/-- A tick of `len` × 10 ns is no shorter than the frame of the longest string, `frame` × 0.1 ns, divided by 0.997 while the line
is spread (R36, R126). -/
def tickFits (len frame : Nat) (spread : Bool) : Bool :=
  if spread then decide (frame * 1000 ≤ len * 100 * 997) else decide (frame ≤ len * 100)

/-- TIM_TICKLEN_WRITE (R36, R38, R56). -/
def timTicklenWriteKv (v : Nat) (s : Kv) : Kv :=
  let len := v % 2 ^ 13
  let refuse := fun (k : Nat) => (s.mark Kv.TIM_STAT.SPRFUSE).regacc k Kv.TIM_TICKLEN.LEN.base
  if s.alignedStandby then s
  else if len = s.rd Kv.TIM_TICKLEN.LEN then s
  else if !s.parked then refuse 17
  else if len < 500 ∨ 8000 < len then refuse 18
  else if !tickFits len s.frameTime (s.on Kv.TIM_SPRD.EN) then refuse 18
  else if s.on Kv.TIM_SPRD.EN && !sprdPermitted (s.rd Kv.TIM_SPRD.K) len then refuse 18
  else s.wr Kv.TIM_TICKLEN.LEN len

/-- TIM_SPRD_WRITE (R42, R57): a reserved K keeps its value and is reported as such (R10); a setting without a permitted
modulation frequency is refused as out of range. With EN written 0 no frequency runs, and any K is taken. (DESIGN CHOICE: log entry 151.) -/
def timSprdWriteKv (v : Nat) (s : Kv) : Kv :=
  let okK := Kv.TIM_SPRD.K.ok (bits v 1 4)
  let k := if okK then bits v 1 4 else s.rd Kv.TIM_SPRD.K
  let en := bits v 0 1
  let refuse := fun (s : Kv) (kind : Nat) => (s.mark Kv.TIM_STAT.SPRFUSE).regacc kind Kv.TIM_SPRD.K.base
  if s.alignedStandby then s
  else
    let t := s.when (!okK) (fun s => s.regacc 16 Kv.TIM_SPRD.K.base)
    if k = s.rd Kv.TIM_SPRD.K ∧ en = s.rd Kv.TIM_SPRD.EN then t
    else if !s.parked then refuse t 17
    else if en = 1 ∧ !sprdPermitted k (s.rd Kv.TIM_TICKLEN.LEN) then refuse t 18
    else (t.wr Kv.TIM_SPRD.K k).wr Kv.TIM_SPRD.EN en

/-- REFCLK_LOSS: both counters hold, REFLOSS is set and TIM_REFCLK raised (R54). TIM lies in the always-on region; the fault
collector of a chip held in reset raises nothing (R27, R30, R569). (DEDUCED: log entries 4, 46.) -/
def refclkLossKv (s : Kv) : Kv :=
  let s := s.mark Kv.TIM_STAT.REFLOSS
  if s.boot.inReset then s else s.raise Src.TIM_REFCLK 0 0

/-- REGION_DIFFERENCE: neighbouring logic rails differ by `mv`; beyond 50 mV REGDIFF is set and TIM_REGION raised (R53, R589). (DEDUCED: log entry 4.) -/
def regionDifferenceKv (mv : Nat) (s : Kv) : Kv :=
  s.when (50 < mv) (fun s =>
    let s := s.mark Kv.TIM_STAT.REGDIFF
    if s.boot.inReset then s else s.raise Src.TIM_REGION 0 0)

/-- TIM_CBASE_WRITE: the write commits the four mapping registers together and ends STALE (R509). -/
def timCbaseWriteKv (v : Nat) (s : Kv) : Kv :=
  let s := (s.wr Kv.TIM_CBASE.CB v).wr Kv.ETH_PTPST.STALE 0
  { s with tim := { s.tim with
      mapSec := s.rd Kv.TIM_BSECH.SECH * 2 ^ 32 + s.rd Kv.TIM_BSECL.SECL
      mapNs := s.rd Kv.TIM_BNS.NS
      mapC := v % 2 ^ 32
      mapAt := s.upNs } }

/-- PTP time of a counter value, in ns since second 0 (R509). -/
def Kv.ptpTime (s : Kv) (c : Nat) : Nat :=
  s.tim.mapSec * 1000000000 + s.tim.mapNs + (c + 2 ^ 32 - s.tim.mapC) % 2 ^ 32

/-- MAPPING_STALE: once the mapping is older than 2^31 ns, STALE is set until the next commit (R509). -/
def mappingStaleKv (s : Kv) : Kv := s.when (decide (2 ^ 31 < s.upNs - s.tim.mapAt)) (fun s => s.mark Kv.ETH_PTPST.STALE)

end Sys2Proof.Machine
end

