-- ==== Sys2Proof/Machine/Memory.lean ====
section
/-! DEFINITION. The memories of a KV-9400, their symbol code, and the check-value engines (R460 to R482). -/

namespace Sys2Proof.Machine

/-! ### The system map (R460 to R462) -/

/-- Installed DRAM in bytes. -/
def Kv.dramSize (s : Kv) : Nat := if s.rd Kv.MEM_CFG.DEN = 1 then 2 ^ 34 else 2 ^ 33

/-- Base of the register window, the cell arena, the SRAMs and the engine windows. -/
abbrev sysRegs : Nat := 0xF00000000
abbrev sysArena : Nat := 0xF01000000
/-- Instruction SRAM of core `n`. -/
def sysImem (n : Nat) : Nat := 0xF02000000 + 0x10000 * n
/-- Data SRAM of core `n`. -/
def sysDmem (n : Nat) : Nat := 0xF03000000 + 0x20000 * n
/-- Window of engine SFEn. -/
def sysSfe (n : Nat) : Nat := 0xF04000000 + 0x200000 * n

/-- The address lies in installed DRAM. -/
def Kv.inDram (s : Kv) (a : Nat) : Bool := decide (a < s.dramSize)

/-- The address lies in the register window. -/
def inRegs (a : Nat) : Bool := decide (sysRegs ≤ a ∧ a < sysRegs + 0x400000)

/-- The address lies in an on-chip memory: cell arena, instruction or data SRAM, engine window. -/
def inSram (a : Nat) : Bool :=
  decide (sysArena ≤ a ∧ a < sysArena + 0x800000) || decide (sysImem 0 ≤ a ∧ a < sysImem 16) ||
  decide (sysDmem 0 ≤ a ∧ a < sysDmem 16) || decide (sysSfe 0 ≤ a ∧ a < sysSfe 4)

/-- Bytes `a` to `a + n - 1` lie in the acquisition region: 256 MiB to the top of installed DRAM (R461). -/
def Kv.inAcqRegion (s : Kv) (a n : Nat) : Bool := decide (0x10000000 ≤ a ∧ a + n ≤ s.dramSize)

/-! ### Errors of the symbol code (R467 to R472) -/

/-- ADDR of a memory fault: DRAM address, or system address from 0xF_0000_0000, divided by 8 (R470). -/
def memFaultAddr (a : Nat) : Nat := if a < sysRegs then a / 8 else (a - sysRegs) / 8

/-- The symbols in error that stand in the word at address `a`, and a change of them. (DESIGN CHOICE: log entry 148.) -/
def Kv.errs (s : Kv) (a : Nat) : Nat := Tab.get 0 (a / 8) s.unc
def Kv.setErrs (s : Kv) (a m : Nat) : Kv := { s with unc := Tab.set 0 (a / 8) (m % 2 ^ 20) s.unc }

/-- Of the symbols `m` in error in the word at `a`, those the decoder has to find: the one of a marked DRAM device is an erasure (R471). -/
def Kv.sought (s : Kv) (a m : Nat) : Nat :=
  let d := s.rd Kv.MEM_STAT.MARK
  if s.inDram a && decide (d < 20) then setBit m d false else m

/-- The word at address `a` is uncorrectable: two symbols or more are to be found (R467, R471). -/
def Kv.bad (s : Kv) (a : Nat) : Bool := s.errs a != 0 && decide (2 ≤ symbols (s.sought a (s.errs a)))

/-- The uncorrectable ones of the words that hold the `n` bytes from `a`. -/
def Kv.badWords (s : Kv) (a n : Nat) : List Nat :=
  ((List.range ((a % 8 + n + 7) / 8)).map (fun i => a / 8 * 8 + 8 * i)).filter s.bad

/-- Raise MEM_UNC or SRAM_UNC for the word at `a` with the kind given. -/
def Kv.raiseUnc (s : Kv) (a kind : Nat) : Kv :=
  s.raise (if s.inDram a then Src.MEM_UNC else Src.SRAM_UNC) kind (memFaultAddr a)

/-- What every uncorrectable read leaves in MEM_STAT and MEM_ELOG1 (R481). -/
def Kv.logUnc (s : Kv) (a : Nat) : Kv :=
  if s.inDram a then
    let s := s.when (!s.on Kv.MEM_STAT.UNCF) (fun s => s.wr Kv.MEM_ELOG1.UADDR (memFaultAddr a))
    s.mark Kv.MEM_STAT.UNCF
  else s

/-- Each of the words reported by a master that could not read it (R468). -/
def Kv.reportUnc (s : Kv) (l : List Nat) : Kv := s.each l (fun s w => (s.logUnc w).raiseUnc w 0)

/-- A master abandons a transfer that reads an uncorrectable word, and reports it; else the transfer `f` takes place (R468). -/
def Kv.unlessBad (s : Kv) (l : List Nat) (f : Kv → Kv) : Kv := if l.isEmpty then f s else s.reportUnc l

/-- The whole words among the `n` bytes from `a` are new data, check symbols and all (R469). -/
def Kv.repaired (s : Kv) (a n : Nat) : Kv := s.each (List.range (n / 8)) (fun s i => s.setErrs (a + 8 * i) 0)

/-- Count one correction in DRAM device `d`; at DEVTH raise MEM_DEV, and mark the device where AUTOMARK is set and none is
marked (R471). -/
def Kv.countDevice (s : Kv) (d : Nat) : Kv :=
  let f := if d % 2 = 1 then Kv.MEM_DCNTm.DODD else Kv.MEM_DCNTm.DEVEN
  let was := s.rd f (d / 2)
  let r := s.bump f Kv.MEM_STAT.DSAT (d / 2)
  let s := if r.2 then (r.1.mark Kv.MEM_STAT.DSAT).raise Src.MEM_COR 1 (f.addr (d / 2) 0) else r.1
  if was < s.rd f (d / 2) ∧ s.rd f (d / 2) = s.rd Kv.MEM_SCRUB.DEVTH then
    let s := s.raise Src.MEM_DEV 0 d
    s.when (s.on Kv.MEM_CFG.AUTOMARK && s.rd Kv.MEM_STAT.MARK == 0x1F) (fun s => s.wr Kv.MEM_STAT.MARK d)
  else s

/-- A correction of symbol `d` of the word at `a` is reported and counted (R471, R481). -/
def Kv.correctedAt (s : Kv) (a d : Nat) : Kv :=
  if s.inDram a then
    let s := (s.mark Kv.MEM_STAT.CORF).wr Kv.MEM_ELOG0.CADDR (memFaultAddr a)
    let s := s.wr Kv.MEM_ELOG2.LDEV d
    (s.raise Src.MEM_COR 0 (memFaultAddr a)).countDevice d
  else (s.raise Src.SRAM_COR 0 (memFaultAddr a)).count Kv.MEM_ELOG2.SCOR Kv.MEM_ELOG2.SAT Src.SRAM_COR

/-- The word at `a` after a miscorrection: another codeword, written back as corrected at some symbol (R467). (DESIGN CHOICE: log entry 199.) -/
def Kv.miscorrected (s : Kv) (a : Nat) : Kv :=
  let w := a / 8 * 8
  let s := (({ s with free := s.free + 2 } : Kv).wrLe w (Config.unstated s.free) 8).setErrs w 0
  s.correctedAt a (Config.unstated (s.free - 1) % 20)

/-- The lowest symbol of a mask. -/
def firstSymbol (m : Nat) : Nat := ((List.range 20).find? (fun i => m.testBit i)).getD 0

/-- What a read at `a` that finds the symbols `e` in error corrects: one of them, with the corrected word written back, or three or more
wrongly (R467). (DESIGN CHOICE: log entries 148, 199.) -/
def Kv.readCorrected (s : Kv) (a e : Nat) : Kv :=
  let m := s.sought a e
  if s.bad a then s
  else if symbols m = 1 then (s.setErrs a 0).correctedAt a (firstSymbol m)
  else if 3 ≤ symbols m then s.miscorrected a
  else s

/-- MEMORY_READ_CORRECTED: a read at `a` finds the symbols `e` in error and corrects the word (R467, R471). -/
def memoryReadCorrectedKv (e a : Nat) (s : Kv) : Kv := s.when (s.inDram a || inSram a) (fun s => s.readCorrected a e)

/-- A store of `n` bytes into the word `w` by `f`: all of it are new data and repair it; fewer are merged into what the word reads as, and
discarded with KIND 16 where it cannot be read (R469). -/
def Kv.storeWord (s : Kv) (w n : Nat) (f : Kv → Kv) : Kv :=
  if n < 8 && s.bad w then (s.logUnc w).raiseUnc w 16 else (f s).setErrs w 0

/-- A store of at most 8 bytes within one word, least significant byte first. -/
def Kv.store (s : Kv) (a v n : Nat) : Kv := s.storeWord a n (fun s => s.wrLe a v n)

/-- The pieces of the `n` bytes from `a` that lie in one word each: where, and how many bytes. -/
def wordPieces (a n : Nat) : List (Nat × Nat) :=
  (List.range ((a % 8 + n + 7) / 8)).map (fun i =>
    let w := a / 8 * 8 + 8 * i
    (max a w, min (a + n) (w + 8) - max a w))

/-- A store of `n` bytes, word by word: least significant byte first, or most significant first. -/
def Kv.storeLe (s : Kv) (a v n : Nat) : Kv :=
  (wordPieces a n).foldl (fun s p => s.store p.1 (v / 256 ^ (p.1 - a)) p.2) s
def Kv.storeBe (s : Kv) (a v n : Nat) : Kv :=
  (wordPieces a n).foldl (fun s p => s.storeWord p.1 p.2 (fun s => s.wrBe p.1 (v / 256 ^ (a + n - p.1 - p.2)) p.2)) s

/-- Words of the arena, its shared scratch and ledger staging apart, read most significant byte first. (DEDUCED: log entry 90; DESIGN CHOICE: log entry 129.) -/
def beWord (a : Nat) : Bool := decide (sysArena ≤ a ∧ a < sysArena + 0x3C0000)

/-- PARTIAL_STORE_MERGE: a store of fewer than 8 bytes inside one word (R469). -/
def partialStoreMergeKv (v n a : Nat) (s : Kv) : Kv :=
  s.when ((s.inDram a || inSram a) && decide (n < 8 ∧ a % 8 + n ≤ 8)) (fun s => s.store a v n)

/-- PATROL_SCRUB_READ: a scrub reads the word at `a` and finds the symbols `e` in error, or those that stand there uncorrectable. Three or
more are `detected` or miscorrected (R467, R472). (DESIGN CHOICE: log entry 199.) -/
def patrolScrubReadKv (e : Nat) (detected : Bool) (a : Nat) (s : Kv) : Kv :=
  let on := if s.inDram a then s.rd Kv.MEM_SCRUB.PER != 0 else inSram a && s.rd Kv.MEM_SCRUB.SPER != 0
  let k := symbols (s.sought a e)
  if !on then s
  else if s.bad a then (s.logUnc a).raiseUnc a 0
  else if k ≤ 1 then s.readCorrected a e
  else if k = 2 ∨ detected = true then ((s.setErrs a e).logUnc a).raiseUnc a 0
  else s.readCorrected a e

/-- MEM_INIT: MEM_CFG.INIT writes every DRAM codeword (R465). (DESIGN CHOICE: log entry 8.) -/
def memInitKv (s : Kv) : Kv :=
  let top := s.dramSize
  let s := (s.mark Kv.MEM_STAT.INITB).wr Kv.MEM_STAT.READY 0
  { s with mem := s.mem.filter (fun e => decide (top ≤ e.1)), unc := s.unc.filter (fun e => decide (top / 8 ≤ e.1)) }

/-- MEM_INIT_DONE: the channel is trained and initialised (R465). -/
def memInitDoneKv (s : Kv) : Kv := (s.wr Kv.MEM_STAT.INITB 0).mark Kv.MEM_STAT.READY

/-- MEM_HWIN_WRITE: refused where the 64 MiB window would reach beyond installed DRAM (R464). -/
def memHwinWriteKv (v : Nat) (s : Kv) : Kv :=
  let b := bits v 24 8
  if (b + 1) * 2 ^ 26 ≤ s.dramSize then s.wr Kv.MEM_HWIN.BASE b else s.regacc 18 Kv.MEM_HWIN.BASE.base

/-! ### Check-value engines (R473 to R480) -/

/-- The address of word `i` in the space of engine `n`. -/
def Kv.crcAddr (s : Kv) (n i : Nat) : Nat := if s.on Kv.CRCn_CTRL.SPACE n then sysRegs + 8 * i else 8 * i

/-- Engine `n` may process word `i`: a mapped memory word that is not uncorrectable (R473, R477). (DEDUCED: log entry 130.) -/
def Kv.crcWordOk (s : Kv) (n i : Nat) : Bool :=
  let a := s.crcAddr n i
  (if s.on Kv.CRCn_CTRL.SPACE n then inSram a else s.inDram a) && !s.bad a

/-- The bytes of word `i` as engine `n` processes them, with the word index folded in where FOLDA asks for it. -/
def Kv.crcWord (s : Kv) (n i : Nat) : List Nat :=
  let a := s.crcAddr n i
  let d := (List.range 8).map (fun k => (s.rdByte (a + k)).toNat)
  if s.on Kv.CRCn_CTRL.FOLDA n then
    d.take 4 ++ (List.range 4).map (fun k => d.getD (4 + k) 0 ^^^ i / 256 ^ (3 - k) % 256)
  else d

/-- RES of engine `n`. -/
def Kv.crcRes (s : Kv) (n : Nat) : Nat := s.rd Kv.CRCn_RUN.RUN n ^^^ 0xFFFFFFFF

/-- Stop engine `n` at the word START names, which MEM_STAT shows where it is an uncorrectable one of DRAM (R477, R481). -/
def Kv.crcStopUnc (s : Kv) (n : Nat) : Kv :=
  let a := s.crcAddr n (s.rd Kv.CRCn_START.START n)
  ((s.wr Kv.CRCn_STAT.STATE 2 n).mark Kv.CRCn_STAT.UNC n).when (s.bad a) (fun s => s.logUnc a)

/-- Process up to `k` words, stopping before an uncorrectable or unpermitted one (R474, R477). -/
def Kv.crcAdvance (n : Nat) : Nat → Kv → Kv
  | 0, s => s
  | k + 1, s =>
    let i := s.rd Kv.CRCn_START.START n
    if s.rd Kv.CRCn_STAT.STATE n ≠ 1 ∨ s.rd Kv.CRCn_LEN.LEN n = 0 then s
    else if !s.crcWordOk n i then s.crcStopUnc n
    else
      let t := s.wr Kv.CRCn_RUN.RUN (crcBytes 32 0x04C11DB7 (s.rd Kv.CRCn_RUN.RUN n) (s.crcWord n i)) n
      let t := t.wr Kv.CRCn_START.START (i + 1) n
      Kv.crcAdvance n k (t.wr Kv.CRCn_LEN.LEN (s.rd Kv.CRCn_LEN.LEN n - 1) n)

/-- LEN reached 0: DONE, one more completed scan, and the comparison where CMP asks for it (R474). -/
def Kv.crcFinish (s : Kv) (n : Nat) : Kv :=
  if s.rd Kv.CRCn_STAT.STATE n = 1 ∧ s.rd Kv.CRCn_LEN.LEN n = 0 then
    let s := s.wr Kv.CRCn_STAT.STATE 3 n
    let s := s.count Kv.CRCn_STAT.PASS Kv.CRCn_STAT.SAT Src.SYS_SAT n
    if s.on Kv.CRCn_CTRL.CMP n && s.crcRes n != s.rd Kv.CRCn_EXP.EXP n then
      (s.mark Kv.CRCn_STAT.MIS n).raise Src.CRC_MIS 0 n
    else s
  else s

/-- The security engine checks an image: in PHASE 2 of start-up, or for an on-line change in LOADING (R478). -/
def Kv.checksImage (s : Kv) : Bool := (s.boot.run && s.rd Kv.SYS_STAT.PHASE == 2) || s.rd Kv.DSP_OLC.STATE == 1

/-- The engine is held: CRC0 by the security engine while it checks an image, CRC3 by the ledger while LDG_CTRL.EN = 1 (R478, R479). -/
def Kv.crcOwned (s : Kv) (n : Nat) : Bool :=
  s.on Kv.CRCn_STAT.OWN n || (n == 0 && s.checksImage) || (n == 3 && s.on Kv.LDG_CTRL.EN)

/-- Start a scan from the registers as they stand; a first word that may not be processed stops it at once. -/
def Kv.crcStart (s : Kv) (n : Nat) : Kv :=
  let s := s.wr Kv.CRCn_STAT.STATE 1 n
  let s := s.when (s.on Kv.CRCn_CTRL.SEED n) (fun s => s.wr Kv.CRCn_RUN.RUN (0xFFFFFFFF ^^^ s.rd Kv.CRCn_SEQ.SEQ n) n)
  s.when (s.rd Kv.CRCn_LEN.LEN n != 0 && !s.crcWordOk n (s.rd Kv.CRCn_START.START n)) (fun s => s.crcStopUnc n)

/-- The control fields of a write to CRCn_CTRL. -/
def Kv.crcControl (s : Kv) (n v : Nat) : Kv :=
  let s := (s.wr Kv.CRCn_CTRL.EN (bits v 31 1) n).wr Kv.CRCn_CTRL.SEED (bits v 29 1) n
  let s := (s.wr Kv.CRCn_CTRL.FOLDA (bits v 28 1) n).wr Kv.CRCn_CTRL.CMP (bits v 27 1) n
  let s := (s.wr Kv.CRCn_CTRL.REP (bits v 26 1) n).wr Kv.CRCn_CTRL.SPACE (bits v 25 1) n
  s.wr Kv.CRCn_CTRL.RPER (bits v 16 8) n

/-- EN of engine `n` is cleared: a running scan processes up to `k` words more, the one in progress included, and stands STOPPED with its context
in START, LEN, SEQ and RUN (R476). -/
def Kv.crcStop (s : Kv) (n k : Nat) : Kv :=
  let s := Kv.crcFinish (Kv.crcAdvance n (min k (s.rd Kv.CRCn_LEN.LEN n)) (s.wr Kv.CRCn_CTRL.EN 0 n)) n
  s.when (s.rd Kv.CRCn_STAT.STATE n == 1) (fun s => s.wr Kv.CRCn_STAT.STATE 2 n)

/-- A running scan has come on by a number of words that is open. (DESIGN CHOICE: log entry 40.) -/
def Kv.crcOn (s : Kv) (n : Nat) : Kv :=
  if s.rd Kv.CRCn_STAT.STATE n = 1 ∧ s.on Kv.CRCn_CTRL.EN n ∧ s.crcOwned n = false then
    let q := s.fresh
    (Kv.crcAdvance n (Config.unstated q.1 % (s.rd Kv.CRCn_LEN.LEN n + 1)) q.2).crcFinish n
  else s

/-- CRCn_CTRL is written where the engine is not held: EN cleared stops a running scan (R476). -/
def Kv.crcWrite (s : Kv) (n v : Nat) : Kv :=
  if s.rd Kv.CRCn_STAT.STATE n = 1 ∧ bit v 31 = false then ((s.crcOn n).crcStop n 0).crcControl n v else s.crcControl n v

/-- CRC_GO: a write of CRCn_CTRL with GO = 1 (R474, R482). It starts a scan when EN = 1 and STATE is not RUN; a held engine or a
running one refuses it, and LEN = 0 in IDLE is out of range. Its other fields are taken: EN = 0 stops a running scan (R476). -/
def crcGoKv (n v : Nat) (s : Kv) : Kv :=
  let off := Kv.CRCn_CTRL.EN.addr n 0
  if s.crcOwned n then s.regacc 17 off
  else
    let was := s.rd Kv.CRCn_STAT.STATE n
    let s := s.crcWrite n v
    if was = 1 ∨ !s.on Kv.CRCn_CTRL.EN n then s.regacc 17 off
    else if was = 0 ∧ s.rd Kv.CRCn_LEN.LEN n = 0 then s.regacc 18 off
    else
      let s := { s with
        crcFrom := Tab.set 0 n (s.rd Kv.CRCn_START.START n) s.crcFrom
        crcLen := Tab.set 0 n (s.rd Kv.CRCn_LEN.LEN n) s.crcLen }
      s.crcStart n

/-- CRC_EN_CLEAR: EN is cleared after the scan has processed `k` more words, the one in progress included; it stands STOPPED
with its context in START, LEN, SEQ and RUN (R476). (DESIGN CHOICE: log entry 40.) -/
def crcEnClearKv (n k : Nat) (s : Kv) : Kv :=
  if s.crcOwned n then s.regacc 17 (Kv.CRCn_CTRL.EN.addr n 0) else s.crcStop n k

/-- CRC_SCAN_DONE: the scan runs through its remaining words (R474); a held engine has no scan of the host's (R478, R479). -/
def crcScanDoneKv (n : Nat) (s : Kv) : Kv :=
  s.when (s.on Kv.CRCn_CTRL.EN n && !s.crcOwned n) (fun s => (Kv.crcAdvance n (s.rd Kv.CRCn_LEN.LEN n) s).crcFinish n)

/-- CRC_REPEAT: RPER ms after DONE a repeating scan reloads START and LEN and starts again (R474). -/
def crcRepeatKv (n : Nat) (s : Kv) : Kv :=
  if s.rd Kv.CRCn_STAT.STATE n = 3 ∧ s.on Kv.CRCn_CTRL.REP n ∧ s.on Kv.CRCn_CTRL.EN n ∧ s.crcOwned n = false then
    let s := (s.wr Kv.CRCn_START.START (Tab.get 0 n s.crcFrom) n).wr Kv.CRCn_LEN.LEN (Tab.get 0 n s.crcLen) n
    s.crcStart n
  else s

/-- CRC_PREEMPT: the security engine needs CRC0. A running host scan stops after `k` more words, keeps its context through the
check, and stands STOPPED with PRE set (R478). -/
def crcPreemptKv (k : Nat) (s : Kv) : Kv :=
  if s.rd Kv.CRCn_STAT.STATE 0 = 1 then
    let s := Kv.crcFinish (Kv.crcAdvance 0 (min k (s.rd Kv.CRCn_LEN.LEN 0)) s) 0
    s.when (s.rd Kv.CRCn_STAT.STATE 0 == 1) (fun s => (s.wr Kv.CRCn_STAT.STATE 2 0).mark Kv.CRCn_STAT.PRE 0)
  else s

/-- The check value of `len` bytes of DRAM from `a` under sequence number `seq`: RES with SPACE 0, FOLDA 0, SEED 1 (R478). -/
def Kv.crcOf (s : Kv) (a len seq : Nat) : Nat :=
  (crcBytes 32 0x04C11DB7 (0xFFFFFFFF ^^^ seq % 2 ^ 32)
    ((List.range len).map (fun k => (s.rdByte (a + k)).toNat))) ^^^ 0xFFFFFFFF

end Sys2Proof.Machine
end

