-- ==== Sys2Proof/Machine/Physical.lean ====
section
/-! DEFINITION. The physical layer at work (R60 to R98): the link state machine of R71 on string ports, castle lanes and modules, the
castle link as a whole, and the power handshake. -/

namespace Sys2Proof.Machine

/-! ### Hop ends -/

/-- A string port. -/
def Kv.spP (s : Kv) (n : Nat) : SpPort := Tab.get {} n s.sp

/-- Change a string port. -/
def Kv.onSp (s : Kv) (n : Nat) (f : SpPort → SpPort) : Kv := { s with sp := Tab.upd {} n f s.sp }

/-- What governs string port `n`: R74 lets encoding 1 act as 2 in RUN. -/
def Kv.spCfg (s : Kv) (n : Nat) : HopCfg :=
  { pauto := s.on Kv.SPn_CTRL.PAUTO n, invrx := s.rd Kv.SPn_CTRL.INVRX n, invtx := s.on Kv.SPn_CTRL.INVTX n,
    bring := s.rd Kv.SPn_CTRL.BRING n, run := s.rd Kv.SYS_PWR.STATE == 0, nrz := s.on Kv.SPn_CTRL.NRZ n
    tx := s.on Kv.SPn_CTRL.TXEN n || (s.spP n).txOut, kind := 0 }

/-- Physical lane of logical lane `i`. -/
def Kv.laneOf (s : Kv) (i : Nat) : Nat := bits (s.rd Kv.CL_LMAP.MAP) (3 * i) 3

/-- Logical lane of physical lane `n`. -/
def Kv.logical (s : Kv) (n : Nat) : Nat := ((List.range 8).find? (fun i => s.laneOf i == n)).getD 0

/-- What governs castle lane `n`; polarities go by logical lane (R98). -/
def Kv.clCfg (s : Kv) (n : Nat) : HopCfg :=
  let i := s.logical n
  { pauto := s.on Kv.CL_CTRL.PAUTO, invrx := b2n (bit (s.rd Kv.CL_POL.INVRX) i), invtx := bit (s.rd Kv.CL_POL.INVTX) i,
    bring := s.rd Kv.CL_CTRL.BRING, run := false, tx := s.on Kv.CL_CTRL.EN, kind := 3, lane := i }

/-- One step on string port `n`: a lost lock counts and raises SP_LINK, and ends a frame in reception; a failed blind start
raises SP_BLIND; the checker's bit errors count (R70, R90, R97). (DEDUCED: log entry 48.) -/
def Kv.spStep (s : Kv) (n : Nat) (f : HopStep) : Kv :=
  let r := f spFlds (s.spCfg n) n { h := (s.spP n).hop, r := s.regs }
  let s := ({ s with regs := r.r, out := s.out ++ lineOuts n r }).onSp n (fun p => { p with
    hop := r.h, frame := if r.lost then none else p.frame })
  let s := s.each (List.range r.errs) (fun s _ => s.count Kv.SPn_PERR.ERR Kv.SPn_PERR.SAT Src.SYS_SAT n)
  let s := s.when r.lost (fun s => (s.count Kv.SPn_STAT.ALOSS Kv.SPn_STAT.SAT Src.SYS_SAT n).raise Src.SP_LINK 0 n)
  s.when r.blindFail (fun s => s.raise Src.SP_BLIND 0 n)

/-! ### The commands of every hop end -/

/-- SIGNAL_DETECT (R71, R73). -/
def signalDetectStep : HopStep := fun F c i s => hopSignal F c i s

/-- SIGNAL_LOSS. -/
def signalLossStep : HopStep := fun F c i s => hopLoss F c i s

/-- TRAINING_BLOCK_RECEIVED (R65, R66). -/
def trainingBlockStep (pos : Nat) (codes : List (BitVec 10)) : HopStep := fun F c i s => hopTraining F c i pos codes s

/-- TRAIN_READY. -/
def trainReadyStep : HopStep := fun F c i s => hopReady F c i s

/-- TRAIN_TIMEOUT. -/
def trainTimeoutStep : HopStep := fun F c i s => hopTrainTimeout F c i s

/-- SHIFT_END. -/
def shiftEndStep : HopStep := fun F c i s => hopShiftEnd F c i s

/-- BLOCK_LOCK, BLOCK_LOCK_LOSS and HUNT_POLARITY_INVERT: the blocks on which the lock is won or lost, or the polarity inverted (R70, R72). -/
def blockLockStep (l : List (BitVec 66)) : HopStep := fun F c i s => hopReceive F c i l s
def blockLockLossStep (l : List (BitVec 66)) : HopStep := fun F c i s => hopReceive F c i l s
def huntInvertStep (l : List (BitVec 66)) : HopStep := fun F c i s => hopReceive F c i l s

/-- Blocks that no injection reaches go out (R80). -/
def blocksStep (l : List LineBlock) : HopStep := fun F c i s => l.foldl (hopOne F c i) s

/-- HOP_UP. -/
def hopUpStep : HopStep := fun F c i s => hopUp F c i s

/-- HUNT_TIMEOUT. -/
def huntTimeoutStep : HopStep := fun F c i s => hopHuntTimeout F c i s

/-- BLIND_START_FAIL (R73). -/
def blindFailStep : HopStep := fun F c i s => hopBlindFail F c i s

/-- BLIND_RETRY. -/
def blindRetryStep : HopStep := fun F c i s => hopBlindRetry F c i s

/-- TEST_PATTERN_DESELECT. -/
def deselectStep : HopStep := fun F c i s => hopDeselect F c i s

/-- ADAPTATION_FREEZE and ADAPTATION_RESUME (R68). -/
def freezeStep (on : Bool) : HopStep := fun F _ i s => hopFreeze F i on s

/-- ADAPTATION_STEP: 1 raises, 2 lowers (R67); in TEST the bits `rx` were received over these blocks (R79). -/
def adaptStep (dir : Nat) (rx : List Bool) : HopStep := fun F c i s => hopPattern F c i rx (hopAdapt F i dir s)

/-- ERROR_INJECT_GO (R80, R96). -/
def injectStep : HopStep := fun F _ i s => hopInject F i s

/-- An injection on a chip's port: on the duty in RUN one into live frames is refused (R80). -/
def Kv.injectOk (s : Kv) (elive : Bool) : Bool := !(elive && s.duty && s.rd Kv.SYS_PWR.STATE == 0)

/-- ERROR_INJECT_GO on a string port. -/
def errorInjectSp (n : Nat) (s : Kv) : Kv :=
  if s.injectOk (s.on Kv.SPn_PCTL.ELIVE n) then s.spStep n injectStep else s.regacc 17 (Kv.SPn_PCTL.EGO.addr n 0)

/-- MID_FRAME_LOCK_LOSS at a string port: the rest of the frame's report slots count as missing (R70). -/
def midFrameLockLossSp (n : Nat) (s : Kv) : Kv := s.onSp n (fun p => { p with frame := none })

/-- MID_FRAME_LOCK_LOSS at a module: `blk` blocks of the frame were received whole, of a header cut short those of `part` (R70). -/
def midFrameLockLossCell (p : Port) (blk : Nat) (part : Option Header) (s : Cell) : Cell :=
  if s.live then s.voidFrame p blk part else s

/-! ### The castle link (R76 to R78) -/

/-- Logical lanes whose physical lane is UP, a bit each. -/
def Kv.lanesUp (s : Kv) : Nat :=
  (List.range 8).foldl (fun m i => setBit m i (s.rd Kv.CLn_STAT.LSTATE (s.laneOf i) == lUp)) 0

/-- A set of lanes carries the link: at least four, CL0 among them (R78). -/
def lanesCarry (m : Nat) : Bool := bit m 0 && decide (4 ≤ ((List.range 8).filter (fun i => bit m i)).length)

/-- Show the active lanes. -/
def Kv.setLanes (s : Kv) (m : Nat) : Kv :=
  (s.wr Kv.CL_STAT.ACT m).wr Kv.CL_STAT.DEG (b2n (s.on Kv.CL_STAT.UP && m != 0xFF))

/-- The castle link goes down: no lane is active, nothing is steered over CL0 any more, and CL_DOWN is raised (R39, R58, R78). -/
def Kv.castleDown (s : Kv) : Kv :=
  if s.on Kv.CL_STAT.UP then
    let s := ((s.wr Kv.CL_STAT.UP 0).wr Kv.CL_STAT.ACT 0).wr Kv.CL_STAT.DEG 0
    let s := { ((s.wr Kv.TIM_STAT.ALIGNED 0).wr Kv.TIM_STAT.STBY 0) with tim := { s.tim with alignRun := 0 } }
    s.raise Src.CL_DOWN 0 0
  else s

/-- The active lanes that are UP still: with too few of them the link goes down, with fewer than before it stays up degraded, and
CL_LANE is raised for each lane lost (R78, R90). -/
def Kv.castleLanes (s : Kv) : Kv :=
  let act := s.rd Kv.CL_STAT.ACT
  let m := act &&& s.lanesUp
  if s.on Kv.CL_STAT.UP ∧ m ≠ act then
    if lanesCarry m then
      (s.setLanes m).raiseOnce Src.CL_LANE ((List.range 8).filter (fun i => bit act i && !bit m i))
    else s.castleDown
  else s

/-- With LAUTO, a training block on a castle lane writes the lane map (R77). -/
def Kv.learnLane (s : Kv) (phys lane : Nat) : Kv :=
  if s.on Kv.CL_CTRL.LAUTO then s.wr Kv.CL_LMAP.MAP (putBits (s.rd Kv.CL_LMAP.MAP) (3 * lane) 3 phys) else s

/-- One step on castle lane `n`: a lane that leaves UP bears on the link. -/
def Kv.clStep (s : Kv) (n : Nat) (f : HopStep) : Kv :=
  let r := f clFlds (s.clCfg n) n { h := Tab.get {} n s.cl, r := s.regs }
  let s := { s with regs := r.r, cl := Tab.set {} n r.h s.cl, out := s.out ++ lineOuts (32 + n) r }
  let s := s.each (List.range r.errs) (fun s _ => s.count Kv.CLn_PERR.ERR Kv.CLn_PERR.SAT Src.SYS_SAT n)
  let s := s.when r.lost (fun s => s.count Kv.CLn_STAT.ALOSS Kv.CLn_STAT.SAT Src.SYS_SAT n)
  let s := match r.learn with
    | some lane => s.when (decide (lane < 8)) (fun s => s.learnLane n lane)
    | none => s
  s.castleLanes

/-- ERROR_INJECT_GO on a castle lane, which carries no frames: only a running pattern takes errors (R80). (DEDUCED: log entry 167.) -/
def errorInjectCl (n : Nat) (s : Kv) : Kv :=
  if s.rd Kv.CLn_STAT.LSTATE n ≠ lTest then s
  else if s.injectOk (s.on Kv.CLn_PCTL.ELIVE n) then s.clStep n injectStep else s.regacc 17 (Kv.CLn_PCTL.EGO.addr n 0)

/-- Blocks of a message, or a marker, have come in on lane `n`; what they leave in its descrambler is open. (DESIGN CHOICE: log entry 148.) -/
def Kv.laneGoneBy (s : Kv) (n : Nat) : Kv := { s with cl := Tab.upd {} n Hop.unknownRx s.cl }

/-- LANE_MARKER_RECEIVED: a marker with lane number `lane` on physical lane `n`, `skew` blocks behind the first lane. One that disagrees with
the map fails a blind start (R77); with a skew of up to 32 blocks, which the receiver removes, a locked lane comes UP and rejoins a link that
is up (R71, R76, R78). -/
def laneMarkerReceivedKv (n lane skew : Nat) (s : Kv) : Kv :=
  let s := s.laneGoneBy n
  if s.laneOf lane = n then
    if skew ≤ 32 then
      let s := { s with cl := Tab.upd {} n (fun h => { h with skew := skew }) s.cl }.clStep n hopUpStep
      s.when (s.on Kv.CL_STAT.UP && s.rd Kv.CLn_STAT.LSTATE n == lUp) (fun s => s.setLanes (setBit (s.rd Kv.CL_STAT.ACT) lane true))
    else s
  else s.clStep n blindFailStep

/-- CASTLE_LANE_LOST: an active lane is lost while the link stays up (R78, R90). -/
def castleLaneLostKv (i : Nat) (s : Kv) : Kv :=
  let m := setBit (s.rd Kv.CL_STAT.ACT) i false
  if s.on Kv.CL_STAT.UP && bit (s.rd Kv.CL_STAT.ACT) i && lanesCarry m then (s.setLanes m).raise Src.CL_LANE 0 i else s

/-- CASTLE_LINK_DOWN: CL0 is lost or fewer than four lanes remain, or the link is not enabled; ALIGNED clears on the standby
(R39, R78, R98). -/
def castleLinkDownKv (s : Kv) : Kv :=
  if s.on Kv.CL_CTRL.EN && lanesCarry (s.rd Kv.CL_STAT.ACT &&& s.lanesUp) then s else s.castleDown

/-- The active logical lanes in rising order: block by block, what the link carries goes out over them in turn (R76). -/
def Kv.stripe (s : Kv) : List Nat := (List.range 8).filter (fun i => bit (s.rd Kv.CL_STAT.ACT) i)

/-- Blocks go out over the active lanes, from the lane after the last block's on (R76). -/
def Kv.stripeOut (s : Kv) (l : List LineBlock) : Kv :=
  l.foldl (fun s b =>
    match s.stripe[s.lane % s.stripe.length]? with
    | some i => { s with lane := (s.lane + 1) % s.stripe.length }.clStep (s.laneOf i) (blocksStep [b])
    | none => s) s

/-- Bytes eight to a block, the first the most significant, the last block filled up with 0. (DESIGN CHOICE: log entry 164.) -/
def packBytes : Nat → List Nat → List Nat
  | 0, _ => []
  | k + 1, l => if l.isEmpty then [] else
      (List.range 8).foldl (fun v i => v * 256 + l.getD i 0 % 256) 0 :: packBytes k (l.drop 8)

/-- Entries of an epoch as data blocks: place and length in one block, then the bytes. (DESIGN CHOICE: log entry 164.) -/
def entryBlocks : Nat → List Nat → List Nat
  | k + 1, a :: n :: l => (a % 2 ^ 48 * 2 ^ 16 + n % 2 ^ 16) :: packBytes n (l.take n) ++ entryBlocks k (l.drop n)
  | _, _ => []

/-- The content of a message as data blocks: a relayed report as R378 lays it out, the others a block an item or packed. (DESIGN CHOICE: log entry 164.) -/
def castleBlocks (type : Nat) (data : List Nat) : List Nat :=
  match type, data with
  | 0x03, [t, mask, q] => [t % 2 ^ 16 * 2 ^ 48 + mask % 2 ^ 32 * 2 ^ 16 + q % 2 ^ 16]
  | 0x04, [a, r] => [a % 2 ^ 13 * 2 ^ 48, r / 2 ^ 128 % 2 ^ 64, r / 2 ^ 64 % 2 ^ 64, r % 2 ^ 64]
  | 0x08, n :: l => n :: entryBlocks l.length l
  | 0x0A, a :: n :: l => (a % 2 ^ 13 * 2 ^ 48 + n % 2 ^ 48) :: packBytes l.length l
  | _, l => l.map (· % 2 ^ 64)

/-- Start block of a message: type, counter, sequence, duty claim and number of data blocks; its end block with MCRC, the CRC-32 of R104 over
start-block bits [55:0] and the data blocks (R377). -/
def castleStart (type count cseq : Nat) (claim : Bool) (len : Nat) : Nat :=
  type % 256 * 2 ^ 48 + count % 256 * 2 ^ 40 + cseq % 65536 * 2 ^ 24 + b2n claim * 2 ^ 23 + len % 65536
def castleCrc (start : Nat) (l : List Nat) : Nat :=
  l.foldl (fun r d => crcBits 32 0x04C11DB7 64 d r) (crcBits 32 0x04C11DB7 56 start 0xFFFFFFFF) ^^^ 0xFFFFFFFF

/-- A castle message of at most 64 data blocks goes out: start block, data blocks, end block, striped over the active lanes (R76, R377); a link that
is down carries none. The messages of one command are sent in the order of their classes (R379). (DESIGN CHOICE: log entry 203.) -/
def Kv.castleSend (s : Kv) (type : Nat) (data : List Nat) : Kv :=
  if s.on Kv.CL_STAT.UP then
    let l := castleBlocks type data
    let start := castleStart type s.cas.msgs (s.rd Kv.CL_CASST.CSEQ) (s.on Kv.CL_CASST.TOKEN) l.length
    let s := { s.send ⟨.castle, type, data⟩ with cas := { s.cas with msgs := (s.cas.msgs + 1) % 256 } }
    s.stripeOut (controlBlock (0x2D * 2 ^ 56 + start) :: l.map dataBlock ++ [controlBlock (0xD2 * 2 ^ 56 + castleCrc start l)])
  else s

/-- Line time passes on the castle lanes, in 0.1 ns: every 16,384 blocks each lane that transmits in service mode, in the hunt too, inserts a lane
marker, and idle fills the rest (R62, R71, R76). -/
def Kv.castleTime (s : Kv) (t : Nat) : Kv :=
  let s :=
    if s.on Kv.CL_CTRL.EN then
      let x := s.laneTime + t
      ({ s with laneTime := x % (16384 * 66) } : Kv).each (List.range (x / (16384 * 66))) (fun s _ =>
        s.each (List.range 8) (fun s n =>
          let st := s.rd Kv.CLn_STAT.LSTATE n
          s.when ((Tab.get {} n s.cl).service && (st == lHunt || st == lUp)) (fun s => s.clStep n (blocksStep [laneMarker (s.logical n)]))))
    else { s with laneTime := 0 }
  s.each (List.range 8) (fun s n => s.clStep n (fillStep t))

/-! ### Frames on the line -/

/-- A header, slots and a trailer leave by string port `n`, coded to the line (R62, R63, R65, R99). The whole frame's line time is taken with its
header. -/
def Kv.putHeader (s : Kv) (n : Nat) (h : Header) : Kv :=
  ((s.send ⟨.header, n, h.wire⟩).onSp n (fun p => { p with hop := p.hop.spend h.frameLen })).spStep n (frameStep h.blocks)
def Kv.putSlots (s : Kv) (n : Nat) (l : List (Nat × Nat)) : Kv :=
  (s.send ⟨.slot, n, l.map Prod.snd⟩).spStep n (frameStep (slotsBlocks l))
def Kv.putTrailer (s : Kv) (n : Nat) (t : Trailer) : Kv := (s.send ⟨.trailer, n, t.wire⟩).spStep n (frameStep t.blocks)

/-- A tick of line time ends at every string port (R62). -/
def Kv.fillLines (s : Kv) (t : Nat) : Kv := s.each (List.range 32) (fun s n => s.spStep n (fillStep t))

/-! ### Service and power of a string port (R84 to R88) -/

/-- A port is in frame service while EN is set, and until the frames that were under way when it was cleared are finished (R88). -/
def Kv.portServes (s : Kv) (n : Nat) : Bool := s.on Kv.SPn_CTRL.EN n || (s.spP n).launched.isSome || (s.spP n).frame.isSome

/-- A port out of frame service with a pattern selected is in TEST (R71). -/
def Kv.spTest (s : Kv) (n : Nat) : Kv := s.spStep n (fun F c i h => hopTest F c i (s.portServes n) h)

/-- PORT_EN_CLEAR: the frames under way are finished in both directions, then the port sends and receives only idle blocks (R88). -/
def portEnClearKv (n : Nat) (s : Kv) : Kv := (s.wr Kv.SPn_CTRL.EN 0 n).spTest n

/-- PORT_EN_SET: the port joins at the next frame header; from reset or DARK it waits for signal (R71, R88). (DEDUCED: log entry 49.) -/
def portEnSetKv (n : Nat) (s : Kv) : Kv := (s.mark Kv.SPn_CTRL.EN n).spStep n hopEnable

/-- Power is cut: PWR_EN falls, CUT is set and SP_PWR raised; the off time begins where power is permitted (R84, R86). -/
def Kv.laserCut (s : Kv) (n : Nat) : Kv :=
  if s.on Kv.SPn_PWR.PWREN n then
    let s := (s.wr Kv.SPn_PWR.PWREN 0 n).mark Kv.SPn_PWR.CUT n
    let s := s.wr Kv.SPn_PWR.PSTATE (if s.on Kv.SPn_PWR.EN n then 1 else 0) n
    s.raise Src.SP_PWR 0 n
  else s

/-- PORT_TXEN_CLEAR: EN clears first, in the same way, then the transmitter goes off once a frame that has left is finished; PWR_EN is low
while TXEN is 0 (R87, R88). (DEDUCED: log entry 159.) -/
def portTxenClearKv (n : Nat) (s : Kv) : Kv :=
  let s := (portEnClearKv n s).wr Kv.SPn_CTRL.TXEN 0 n
  let s := s.onSp n (fun p => { p with txOut := p.txOut && p.launched.isSome })
  (s.wr Kv.SPn_PWR.PWREN 0 n).wr Kv.SPn_PWR.PSTATE (if s.on Kv.SPn_PWR.EN n && !s.on Kv.SPn_PWR.GIVEUP n then 1 else 0) n

/-- TXEN is set: the transmitter and its output go on, in DARK with what that state sends (R71, R91). -/
def Kv.txenSet (s : Kv) (n : Nat) : Kv := ((s.mark Kv.SPn_CTRL.TXEN n).onSp n (fun p => { p with txOut := true })).spStep n hopDark

/-- LASER_INTERLOCK_CUT: the PWR_OK input is at `pwrok`, and the port's SerDes region faults or not. PWR_OK falling and a region fault cut
the power (R84). -/
def laserInterlockCutKv (n : Nat) (pwrok fault : Bool) (s : Kv) : Kv :=
  let fell := s.on Kv.SPn_PWR.PWROK n && !pwrok
  let s := s.wr Kv.SPn_PWR.PWROK (b2n pwrok) n
  if fell || fault then s.laserCut n else s

/-- PROBE_OFF_TIME_END: after OFFT seconds off, PWR_EN rises and the unit is at probe power (R86). -/
def probeOffTimeEndKv (n : Nat) (s : Kv) : Kv :=
  if s.rd Kv.SPn_PWR.PSTATE n = 1 && s.on Kv.SPn_PWR.EN n && !s.on Kv.SPn_PWR.GIVEUP n && s.on Kv.SPn_CTRL.TXEN n then
    (s.mark Kv.SPn_PWR.PWREN n).wr Kv.SPn_PWR.PSTATE 2 n
  else s

/-- Power is permitted by SPn_PWR.EN, or no longer: clearing EN drives PWR_EN low and clears GIVEUP; setting it starts the off
time (R84, R86, R94). -/
def Kv.pwrEn (s : Kv) (n v : Nat) : Kv :=
  let was := s.on Kv.SPn_PWR.EN n
  if v % 2 = 0 then
    let s := ((s.wr Kv.SPn_PWR.EN 0 n).wr Kv.SPn_PWR.GIVEUP 0 n).onSp n (fun p => { p with fails := 0 })
    let s := s.laserCut n
    s.wr Kv.SPn_PWR.PSTATE 0 n
  else if was then s
  else (s.mark Kv.SPn_PWR.EN n).wr Kv.SPn_PWR.PSTATE 1 n

end Sys2Proof.Machine
end

