-- ==== Sys2Proof/Machine/Records.lean ====
section
/-! DEFINITION. Cell records (R219 to R222) and the receiving side of the string ports of a KV-9400 (R44, R47, R86, R113, R124,
R128, R138 to R141, R349, R385, R410, R501). -/

namespace Sys2Proof.Machine

/-! ### Cell records -/

/-- Address of the record of cell `a` (R219). -/
def recAddr (a : Nat) : Nat := sysArena + 256 * (a % 8192)

/-- Address of the bank that holds tick `n`. -/
def bankAddr (a n : Nat) : Nat := recAddr a + 32 * (n % 2)

/-- The report slot in the bank of tick `n`. -/
def Kv.bankSlot (s : Kv) (a n : Nat) : Nat := s.rdBe (bankAddr a n) 24

/-- The bank of tick `n` holds a valid report of that very tick. One with an uncorrectable word counts as missing (R468). -/
def Kv.bankValid (s : Kv) (a n : Nat) : Bool :=
  s.rdBe (bankAddr a n + 24) 4 == n % 2 ^ 32 && (s.rdByte (bankAddr a n + 28)).getLsbD 7 && (s.badWords (bankAddr a n) 32).isEmpty

/-- The bank of tick `n` holds a later tick, in 32-bit serial comparison (R436). -/
def Kv.bankLater (s : Kv) (a n : Nat) : Bool :=
  let d := (s.rdBe (bankAddr a n + 24) 4 + 2 ^ 32 - n % 2 ^ 32) % 2 ^ 32
  decide (0 < d ∧ d < 2 ^ 31)

/-- What the bank of tick `n` held for an earlier tick is kept beside it (R440). -/
def Kv.bankKeep (s : Kv) (a n : Nat) : Kv :=
  let t := s.rdBe (bankAddr a n + 24) 4
  if t = n % 2 ^ 32 then s
  else { s with col := { s.col with past := Tab.set 0 (a * 2 + n % 2) ((t + 1) * 2 ^ 192 + s.bankSlot a n) s.col.past } }

/-- The slot bytes that stand or stood in the bank of tick `n` for that tick, while they are still held. -/
def Kv.slotOf (s : Kv) (a n : Nat) : Option Nat :=
  let o := Tab.get 0 (a * 2 + n % 2) s.col.past
  if !s.bankLater a n then some (s.bankSlot a n)
  else if o / 2 ^ 192 = n % 2 ^ 32 + 1 then some (o % 2 ^ 192)
  else none

/-- One indivisible write of a bank: slot, tick, status word (R350). -/
def Kv.bankWrite (s : Kv) (a n : Nat) (slot : Nat) (relay : Bool) : Kv :=
  (s.bankKeep a n).storeBe (bankAddr a n) (slot * 2 ^ 64 + n % 2 ^ 32 * 2 ^ 32 + (2 ^ 31 + b2n relay * 2 ^ 30)) 32

/-- The record is invalid for tick `n`; the slot bytes stay (R221). -/
def Kv.bankMissing (s : Kv) (a n : Nat) : Kv := (s.bankKeep a n).storeBe (bankAddr a n + 24) (n % 2 ^ 32 * 2 ^ 32) 8

/-- CTL words 0 and 1 of a cell (R222). -/
def Kv.ctl0 (s : Kv) (a : Nat) : Nat := s.rdBe (recAddr a + 0x40) 4
def Kv.ctl1 (s : Kv) (a : Nat) : Nat := s.rdBe (recAddr a + 0x44) 4
def Kv.setCtl0 (s : Kv) (a v : Nat) : Kv := s.storeBe (recAddr a + 0x40) v 4
def Kv.setCtl1 (s : Kv) (a v : Nat) : Kv := s.storeBe (recAddr a + 0x44) v 4

/-- Fields of CTL word 0. -/
def ctlClass (c : Nat) : Nat := bits c 29 3
def ctlArm (c : Nat) : Nat := bits c 25 4
def ctlMidx (c : Nat) : Nat := bits c 15 10
def ctlOvr (c : Nat) : Nat := bits c 12 3
def ctlBcmd (c : Nat) : Nat := bits c 8 4
def ctlCset (c : Nat) : Nat := bits c 0 3

/-- A cell that a fault names is overridden with PARK; an override that stands is left unchanged (R418, R420). -/
def Kv.overrideCell (s : Kv) (a : Nat) : Kv := if ctlOvr (s.ctl0 a) = 0 then s.setCtl0 a (putBits (s.ctl0 a) 12 3 1) else s

/-- Positions of string `n` in the cell map. (DEDUCED: log entry 51.) -/
def Kv.positions (s : Kv) (n : Nat) : List Nat := List.range (min 256 (s.rd Kv.SPn_GEOM.NMOD n))

/-- The string is in the cell map. (DEDUCED: log entry 51.) -/
def Kv.mapped (s : Kv) (n : Nat) : Bool := s.rd Kv.SPn_GEOM.NMOD n != 0

/-- The strings of the cell map. -/
def Kv.strings (s : Kv) : List Nat := (List.range 32).filter s.mapped

/-! ### Headers at a string port -/

/-- The chip has role B. -/
def Kv.roleB (s : Kv) : Bool := s.on Kv.SYS_STAT.ROLEB

/-- TIM_STAT.ALIGNED as it reads: always 1 on the duty (R55). -/
def Kv.aligned (s : Kv) : Bool := s.duty || s.on Kv.TIM_STAT.ALIGNED

/-- The measurement of the first hop of string `n` from the stamp of a header (R44): the latencies of both ends are taken off, at this one
the factory's with SPn_XLAT. (DESIGN CHOICE: log entry 20; DEDUCED: log entry 137.) -/
def Kv.measureHop (s : Kv) (n : Nat) (h : Header) : Kv :=
  let p := s.spP n
  match p.sentPrev, p.recvPrev with
  | some sent, some recv =>
    let lat : Int := (Config.portLatency n + s.rd Kv.SPn_XLAT.TXL n + s.rd Kv.SPn_XLAT.RXL n : Nat) + Config.farLatency (2 ^ 14 + n)
    let r := hopMean p.meas p.disc (sx 36 (toBits 36 ((recv : Int) - sent)) - sx 22 h.turn.toNat - lat)
    s.onSp n (fun p => { p with meas := r.1, disc := r.2.1 })
  | _, _ => s

/-- ASYM (R47): the one-way delay of the other chip's stream from the aligned boundary times against the PD it delivers, relative,
averaged over 64 ticks and rounded to the field. (DESIGN CHOICE: log entry 152.) -/
def Kv.measureAsym (s : Kv) (n : Nat) (h : Header) (arr p : Nat) : Kv :=
  if s.aligned && !(s.spP n).fold && !(s.spP n).foldLast && p != 0 then
    let oneWay := sx 36 (toBits 36 ((arr : Int) - (16 * h.ticktime.toNat + h.lofs.toNat : Nat)))
    let rel := divNear ((oneWay - p) * 2 ^ 24) p
    s.onSp n (fun q =>
      if q.asymN + 1 = 64 then { q with asym := satS 16 (divNear (q.asymSum + rel) 64), asymSum := 0, asymN := 0 }
      else { q with asymSum := q.asymSum + rel, asymN := q.asymN + 1 })
  else s

/-- A fold frame arrives: its FOLDP is shown, and the first after a tick without one is an onset (R139, R141). (DEDUCED: log entry 52.) -/
def Kv.foldArrives (s : Kv) (n : Nat) (h : Header) : Kv :=
  let p := s.spP n
  let s := s.wr Kv.SPn_FOLD.FPOS h.foldp.toNat n
  let onset := !p.fold && !p.foldLast
  let s := s.onSp n (fun p => { p with fold := true })
  s.when onset (fun s => (s.count Kv.SPn_FOLD.FCNT Kv.SPn_FOLD.SAT Src.SYS_SAT n).raise Src.SP_FOLD 0 n)

/-- The header comes from the other chip. -/
def Kv.fromOther (s : Kv) (h : Header) : Bool := h.origin.toNat == (if s.roleB then 0 else 1)

/-- The port takes part in frames, or finishes one (R88). -/
def Kv.spLive (s : Kv) (n : Nat) : Bool :=
  (s.on Kv.SPn_CTRL.EN n || (s.spP n).frame.isSome) && s.rd Kv.SPn_STAT.LSTATE n == lUp

/-- The port takes the frame that begins now: one out of service drops what it still was to finish (R88). -/
def Kv.spJoins (s : Kv) (n : Nat) : Bool := s.on Kv.SPn_CTRL.EN n && s.rd Kv.SPn_STAT.LSTATE n == lUp

/-- The frame in reception is over; a port that has left service may go into TEST with it (R71, R88). -/
def Kv.rxEnd (s : Kv) (n : Nat) : Kv :=
  let s := s.onSp n (fun p => { p with frame := none })
  s.when (!s.on Kv.SPn_CTRL.EN n) (fun s => s.spTest n)

/-- STRING_PORT_HEADER_RECEIVED: a header arrived at `arr` (1/16 ns of the chip's own time), `lat` being the port's receive latency.
A failing one leaves the frame's report slots missing (R105); its tick is the one after the last header's. (DEDUCED: log entry 174.) -/
def stringPortHeaderReceivedKv (n : Nat) (h : Header) (arr lat : Nat) (s : Kv) : Kv :=
  let s := s.onSp n (fun p => { p with hop := p.hop.unknownRx })
  if !s.spJoins n then s.rxEnd n
  else if !h.valid n then
    s.onSp n (fun p => { p with
      frame := none, rxTick := some (match p.rxTick with | some t => tickPlus t 1 | none => s.tick), came := true, misnumbered := p.misnumbered || (h.str.toNat != n && h.valid h.str.toNat) })
  else
    let quiet := h.mode.toNat == 1 || h.duty
    let s := s.onSp n (fun p => { p with
      frame := some h, rxTick := some h.tickno.toNat, came := true, recv := some arr, farSeen := true, quietRun := if quiet then 0 else p.quietRun })
    let p := min (2 ^ 20 - 1) (h.pd.toNat + lat)
    let s := s.measureHop n h
    if h.isFold then s.foldArrives n h
    else if s.fromOther h then
      ((s.wr Kv.SPn_PDLY.P p n).onSp n (fun q => { q with pMax := max q.pMax p })).measureAsym n h arr p
    else s

/-- FOLD_FRAME_ARRIVAL: the valid header of a fold frame arrives at port `n`. -/
def foldFrameArrivalKv (n : Nat) (h : Header) (s : Kv) : Kv :=
  if s.spJoins n && h.isFold && h.valid n then
    (s.onSp n (fun p => { p with frame := some h, rxTick := some h.tickno.toNat, came := true, hop := p.hop.unknownRx })).foldArrives n h
  else s

/-- STRING_PORT_TRAILER_RECEIVED: a valid trailer of a frame of the other chip gives NLIVE (R138, R578). -/
def stringPortTrailerReceivedKv (n : Nat) (t : Trailer) (s : Kv) : Kv :=
  match (s.spP n).frame with
  | some h =>
    let s := s.rxEnd n
    if t.valid n h.tickno.toNat then
      let s := s.wr Kv.SPn_GEOM.NLIVE t.nlive.toNat n
      s.when (s.fromOther h) (fun s => s.onSp n (fun p => { p with liveSeen := true }))
    else s
  | none => s

/-! ### Reports -/

/-- How the report of cell `a` for tick `n` has come in. -/
def Kv.gotOf (s : Kv) (a n : Nat) : Nat := Tab.get 0 (a * 4 + n % 4) s.col.got

/-- Note how it came in. -/
def Kv.setGot (s : Kv) (a n v : Nat) : Kv := { s with col := { s.col with got := Tab.set 0 (a * 4 + n % 4) v s.col.got } }

/-- The report-arrival point of tick `n` has passed. -/
def Kv.closedFor (s : Kv) (n : Nat) : Bool := tickDone s.col.closed n

/-- T0 holds the banks of tick `n` (R349). -/
def Kv.bankHeld (s : Kv) (n : Nat) : Bool :=
  match s.dsp.t0Run with
  | some t => t % 2 == n % 2
  | none => false

/-- Receive staging of cell `a` in the arena (R462). -/
def stagingAddr (a : Nat) : Nat := sysArena + 0x200000 + 24 * (a % 8192)

/-- Write a report into its bank, or hold it in the staging while T0 reads that bank (R349). -/
def Kv.bankPut (s : Kv) (a n slot : Nat) (relay : Bool) : Kv :=
  if s.bankHeld n then
    { s.storeBe (stagingAddr a) slot 24 with col := { s.col with held := s.col.held ++ [⟨a, n, BitVec.ofNat 192 slot, relay, true⟩] } }
  else
    let s := (s.bankWrite a n slot relay).storeBe (recAddr a + 0x5E) (rVcapS slot) 2
    { s with col := { s.col with last := Tab.set 0 a ((n + 1) * 2 ^ 192 + slot) s.col.last } }

/-- The report of the tick before `n`, where it is valid. -/
def Kv.reportBefore (s : Kv) (a n : Nat) : Option Nat :=
  match s.col.held.find? (fun h => h.addr == a && tickPlus h.tick 1 == n && h.valid) with
  | some h => some h.slot.toNat
  | none => if s.bankValid a (tickPrev n) then some (s.bankSlot a (tickPrev n)) else none

/-- The command the chip's own allocators placed for cell `a` and target `t`, if it is still held. -/
def Kv.placed (s : Kv) (a t : Nat) : Option Nat :=
  let v := Tab.get 0 (a * 8 + t % 8) s.al.cmds
  if v / 2 ^ 128 = t + 1 then some (v % 2 ^ 128) else none

/-- Cell events become fault messages (R410); a duty conflict is reported by CL_DCONF as well, whose message goes first (R404, R412). -/
def Kv.reportEvents (s : Kv) (a n slot : Nat) : Kv :=
  if rPend slot then
    let fresh := match s.reportBefore a n with
      | some p => !rPend p || rSrc p != rSrc slot
      | none => true
    let acked := rObey slot != 0 && (match s.placed a n with | some c => cBcmd c == 5 | none => false)
    if fresh || acked then
      (s.when (rSrc slot == Ev.DCONF) (fun s => s.raise Src.CL_DCONF 0 a)).raiseCell (Src.KC (rSrc slot)) a n
    else s
  else s

/-- SHDW against the other bank (R385). -/
def Kv.reportShadow (s : Kv) (a n slot : Nat) : Kv :=
  if rShdw (s.bankSlot a (n + 1)) < rShdw slot then
    if Tab.get 0 (a / 256 * 8 + n % 8) s.col.endorsed = n + 1 then
      { ((s.count Kv.CL_SHDW.PATH Kv.CL_SHDW.SAT).raise Src.CL_PATH 0 a) with
        cas := { s.cas with pathRun := 0, pathN := s.cas.pathN + 1 } }
    else
      { (s.count Kv.CL_SHDW.UNEND Kv.CL_SHDW.SAT) with cas := { s.cas with unendN := s.cas.unendN + 1 } }
  else s

/-- A tally word: TDATA whose index belongs to the report's tick. A last word that fails its check over all the others discards the
cell's words; with a word missing nothing can be checked (R500, R501). (DEDUCED: log entry 73.) -/
def Kv.reportTally (s : Kv) (a n slot : Nat) : Kv :=
  match s.col.tallyOf with
  | some (no, tt) =>
    let k := ticksTo tt n - 1
    if rOp slot = 3 ∧ tt ≠ n ∧ k < 32 ∧ rTid slot = k % 16 then
      let t := Tab.set 0 (a * 32 + k) (rSide slot + 1) s.col.tally
      let ws := (List.range 31).map (fun i => Tab.get 0 (a * 32 + i) t)
      let whole := ws.all (fun w => w != 0)
      let crc := ws.foldl (fun r w => crcBits 32 0x04C11DB7 32 (w - 1) r) (0xFFFFFFFF ^^^ no) ^^^ 0xFFFFFFFF
      let t := if k = 31 && whole && crc != rSide slot then t.filter (fun e => decide (e.1 / 32 ≠ a)) else t
      { s with col := { s.col with tally := t } }
    else s
  | none => s

/-- A saturated counter of a module whose FLAGS.SAT rises (R12, R428). -/
def Kv.reportSat (s : Kv) (a n slot : Nat) : Kv :=
  let was := match s.reportBefore a n with | some p => rSat p | none => false
  s.when (rSat slot && !was) (fun s => s.raise Src.SYS_SAT 16 a)

/-- A module whose port facing this end is dark cuts the string's power, once the probe of R86 has decided (R84, R149). -/
def Kv.reportDark (s : Kv) (a slot : Nat) : Kv :=
  s.when ((if s.roleB then rDarkE slot else rDarkW slot) && s.rd Kv.SPn_PWR.PSTATE (a / 256) == 3) (fun s => s.laserCut (a / 256))

/-- A valid report of cell `a` for tick `n` is entered. What it tells is taken the first time only; a replacement of a relayed
report changes the record and the side channel. Its block messages go before its cell message, the lower source first (R412). -/
def Kv.enterReport (s : Kv) (a n slot : Nat) (relay : Bool) : Kv :=
  let first := s.gotOf a n % 4 == 0
  let s := s.when first (fun s =>
    let s := s.reportUnc (s.badWords (bankAddr a (tickPrev n)) 32)
    let s := ((s.reportSat a n slot).reportDark a slot).when (rPlace slot) (fun s =>
      { s.raise Src.SP_PLACE 0 a with boot := { s.boot with placed := setBit s.boot.placed (a / 256) true } })
    (s.reportShadow a n slot).reportEvents a n slot)
  let s := s.reportTally a n slot
  (s.setGot a n (s.gotOf a n ||| (if relay then 2 else 1))).bankPut a n slot relay

/-- The newest tick up to now whose low 8 bits are `q`. (DEDUCED: log entry 74.) -/
def Kv.tickOfSeq (s : Kv) (q : Nat) : Nat := tickPlus s.tick (2 ^ 48 - (s.tick + 256 - q % 256) % 256)

/-- A relayed report (R124): its tick is the newest with the slot's SEQ, under which its check passes. (DEDUCED: log entry 74.) -/
def Kv.relayEntry (s : Kv) (a : Nat) (r : RepSlot) : Kv :=
  let t := s.tickOfSeq (rSeq r.toNat)
  let n := a / 256
  if s.closedFor t || !repCrcOk r a t || decide ((s.positions n).length ≤ a % 256) then s
  else if s.gotOf a t % 4 ≠ 0 then s
  else (s.onSp n (fun p => { p with relay := true })).enterReport a t r.toNat true

/-- The report of cell `a` for tick `n` is missing. -/
def Kv.reportMissing (s : Kv) (a n : Nat) : Kv :=
  if s.bankHeld n then
    { s with col := { s.col with held := s.col.held ++ [⟨a, n, 0, false, false⟩] } }
  else s.bankMissing a n

/-- The last slot of the report section of string `n` has come for tick `t`: those that failed, or came in no slot, are missing at once where none
is still to come by relay (R25, R221). -/
def Kv.reportsEnd (s : Kv) (n t : Nat) (fold : Bool) : Kv :=
  let s := s.when (!fold) (fun s =>
    s.each (((s.positions n).map (fun p => n * 256 + p)).filter (fun a => s.gotOf a t % 4 == 0)) (fun s a => s.reportMissing a t))
  { s with col := { s.col with ended := Tab.set 0 (n * 4 + t % 4) (if fold then 2 else 1) s.col.ended } }

/-- A slot of the frame in reception at port `n`, for tick `t`, entered by `f`: a late one is missing (R113), and the last one ends the section. -/
def Kv.reportSlotFor (s : Kv) (n k t : Nat) (fold : Bool) (f : Kv → Kv) : Kv :=
  if s.closedFor t then s
  else (f s).when (k + 1 == (s.positions n).length) (fun s => s.reportsEnd n t fold)

/-- REPORT_SLOT_ACCEPT: report slot `k` of the frame in reception at port `n` (R113). A slot of a fold frame is relayed (R124). Under a header
that failed, the slot was received and counts as bad alone (R140). (DEDUCED: log entry 174.) -/
def reportSlotAcceptKv (n k : Nat) (r : RepSlot) (s : Kv) : Kv :=
  let N := (s.positions n).length
  if !s.spLive n || decide (N ≤ k) then s
  else
    let got := fun (a t : Nat) (s : Kv) => s.setGot a t (s.gotOf a t ||| 4)
    let bad := fun (s : Kv) => s.count Kv.SPn_SERR.BAD Kv.SPn_SERR.SAT Src.SYS_SAT n
    match (s.spP n).frame with
    | none =>
      let t := (s.spP n).rxTick.getD s.tick
      s.reportSlotFor n k t false (fun s => bad (got (n * 256 + (if s.roleB then k else N - 1 - k)) t s))
    | some h =>
      let t := h.tickno.toNat
      let a := n * 256 + h.reportPos N k
      s.reportSlotFor n k t h.isFold (fun s =>
        let s := got a t s
        if !repCrcOk r a t || rSeq r.toNat != t % 256 then bad s
        else
          let s := s.when h.isFold (fun s => s.castleSend 0x04 [a, r.toNat])
          if s.gotOf a t % 2 = 1 then s else s.enterReport a t r.toNat false)

/-- The close of one cell's report; where its string's section came whole, what was missing is marked already. -/
def Kv.closeReport (s : Kv) (n a : Nat) : Kv :=
  let g := s.gotOf a n
  let s := s.when (!g.testBit 2) (fun s => s.count Kv.SPn_SERR.MISS Kv.SPn_SERR.SAT Src.SYS_SAT (a / 256))
  s.when (g % 4 == 0 && Tab.get 0 (a / 256 * 4 + n % 4) s.col.ended != 1) (fun s => s.reportMissing a n)

/-- REPORT_ARRIVAL_POINT: the reports of tick `n` are closed (R128): missing ones are flagged invalid and counted (R113, R221). -/
def reportArrivalPointKv (n : Nat) (s : Kv) : Kv :=
  if s.closedFor n || tickAhead s.tick n then s
  else
    let s := s.each s.strings (fun s k => s.each ((s.positions k).map (fun p => k * 256 + p)) (fun s a => s.closeReport n a))
    let keep := fun (l : Tab Nat) => l.filter (fun e => decide (e.1 % 4 ≠ n % 4 ∧ e.1 % 4 ≠ (n + 3) % 4))
    { s with col := { s.col with closed := tickMark s.col.closed n, got := keep s.col.got, ended := keep s.col.ended } }

/-- REPORT_STAGING_WRITE: held reports go into their banks in arrival order as soon as no T0 reads them (R349). -/
def reportStagingWriteKv (s : Kv) : Kv :=
  let go := s.col.held.filter (fun h => !s.bankHeld h.tick)
  let stay := s.col.held.filter (fun h => s.bankHeld h.tick)
  go.foldl (fun s h => if h.valid then s.bankPut h.addr h.tick h.slot.toNat h.relay else s.bankMissing h.addr h.tick)
    { s with col := { s.col with held := stay } }

/-! ### The probe (R86) -/

/-- Every KC-60 that reports on the string shows light on its port facing this end. -/
def Kv.probeLight (s : Kv) (n : Nat) : Bool :=
  let t := s.col.closed - 1
  (s.positions n).all (fun p =>
    let a := n * 256 + p
    let slot := s.bankSlot a t
    !(s.col.closed != 0 && s.bankValid a t) || !(if s.roleB then rDarkE slot else rDarkW slot))

/-- PROBE_RESULT: the windows of a probe have passed with PWR_OK at `pwrok`. -/
def probeResultKv (n : Nat) (pwrok : Bool) (s : Kv) : Kv :=
  let s := s.wr Kv.SPn_PWR.PWROK (b2n pwrok) n
  if s.rd Kv.SPn_PWR.PSTATE n ≠ 2 then s
  else if pwrok && s.probeLight n then (s.wr Kv.SPn_PWR.PSTATE 3 n).onSp n (fun p => { p with fails := 0 })
  else
    let s := (s.wr Kv.SPn_PWR.PWREN 0 n).count Kv.SPn_PWR.TRIES Kv.SPn_PWR.TSAT Src.SYS_SAT n
    let s := s.onSp n (fun p => { p with fails := p.fails + 1 })
    let max := s.rd Kv.SPn_PWR.MAXT n
    if max ≠ 0 ∧ max ≤ (s.spP n).fails then
      ((s.mark Kv.SPn_PWR.GIVEUP n).wr Kv.SPn_PWR.PSTATE 0 n).raise Src.SP_GIVEUP 0 n
    else s.wr Kv.SPn_PWR.PSTATE 1 n

end Sys2Proof.Machine
end

