-- ==== Sys2Proof/Machine/Alloc.lean ====
section
/-! DEFINITION. Arm allocation (R223 to R244): references, exclusion, keys, level, edges, residual, and the commands placed. Instants
count units of 1.25 ns from the target boundary. -/

namespace Sys2Proof.Machine

/-- One allocator behind its registers. -/
def Kv.arm (s : Kv) (k : Nat) : Alloc := Tab.get {} k s.al.arms

/-- Change it. -/
def Kv.onArm (s : Kv) (k : Nat) (f : Alloc → Alloc) : Kv := { s with al := { s.al with arms := Tab.upd {} k f s.al.arms } }

/-- Cell states in commands (R108). -/
abbrev stOff : Nat := 0
abbrev stPos : Nat := 1
abbrev stNeg : Nat := 2
abbrev stUp : Nat := 3
abbrev stLo : Nat := 4

/-- What a state adds to the level. -/
def stLevel (st : Nat) : Int := if st = stPos then 1 else if st = stNeg then -1 else 0

/-! ### References (R223, R225) -/

/-- The reference record of arm `k` for target tick `t` in the arena, and the arm's sort buffer (R219, R462). (DESIGN CHOICE: log entry 160.) -/
def refAddr (k t : Nat) : Nat := sysArena + 0x340000 + 0x200 * (t % 8) + 32 * (k % 16)
def sortAddr (k : Nat) : Nat := sysArena + 0x350000 + 0x1000 * (k % 16)

/-- The record that eight words spell (R223). -/
def refOf (w : Nat → Nat) : Ref :=
  { tgt := w 0, va := sx 32 (w 1), vb := sx 32 (w 2), ia := sx 16 (bits (w 3) 16 16), ib := sx 16 (bits (w 3) 0 16)
    vc := bits (w 4) 16 16, amode := bits (w 4) 0 2 }

/-- A record is written into the staging, whole (R322). (DESIGN CHOICE: log entry 160.) -/
def Kv.putRef (s : Kv) (k t : Nat) (w : Nat → Nat) : Kv :=
  s.each (List.range 4) (fun s i => s.storeBe (refAddr k t + 8 * i) (w (2 * i) % 2 ^ 32 * 2 ^ 32 + w (2 * i + 1) % 2 ^ 32) 8)

/-- An uncorrectable word of the record, if any. -/
def Kv.refBad (s : Kv) (k t : Nat) : Option Nat := (s.badWords (refAddr k t) 32).head?

/-- The record published for target `t`, if any (R223, R468). (DEDUCED: log entry 103.) -/
def Kv.ref (s : Kv) (k t : Nat) : Option Ref :=
  let r := refOf (fun i => s.rdBe (refAddr k t + 4 * i) 4)
  if r.tgt = t % 2 ^ 32 ∧ r.amode ≠ 3 ∧ (s.refBad k t).isNone then some r else none

/-- Extrapolation from the last record used. -/
def Ref.extrapolate (r : Ref) (t : Nat) : Ref :=
  { r with tgt := t % 2 ^ 32, va := r.vb, vb := satS 32 (2 * r.vb - r.va), ia := r.ib, ib := satS 16 (2 * r.ib - r.ia) }

/-! ### Members and exclusion (R227) -/

/-- One cell of an arm in a placement. -/
structure Mem where
  addr : Nat
  /-- case of R227 -/
  cas : Nat
  /-- contribution of an excluded member: 0 none, 1 as OFF, 2 its believed state -/
  hin : Nat := 0
  /-- report of tick n -/
  rep : Option Nat := none
  ovr : Nat := 0

/-- The arm that a string serves: one for all its positions, as the records of its modules name it (R19). -/
def Kv.stringArm (s : Kv) (n : Nat) : Nat :=
  let l := (s.positions n).map (fun p => n * 256 + p)
  ctlArm (s.ctl0 ((l.find? (fun a => ctlClass (s.ctl0 a) != 2)).getD (n * 256)))

/-- The addresses of an arm: every position of its strings. -/
def Kv.armCells (s : Kv) (k : Nat) : List Nat :=
  (s.strings.filter (fun n => s.stringArm n == k)).flatMap (fun n => (s.positions n).map (fun p => n * 256 + p))

/-- The uncorrectable ones of the words that a placement after tick `n` reads of a cell's record: the bank, CTL, and the hold weight with the
last edge. -/
def Kv.recordUnc (s : Kv) (a n : Nat) : List Nat := s.badWords (bankAddr a n) 32 ++ s.badWords (recAddr a + 0x40) 8 ++ s.badWords (recAddr a + 0x50) 8

/-- R227 for one cell. One whose record cannot be read counts as missing (R468). (DESIGN CHOICE: log entry 201.) -/
def Kv.classify (s : Kv) (k n a : Nat) : Mem :=
  let c := s.ctl0 a
  let rep := if s.bankValid a n && (s.recordUnc a n).isEmpty then some (s.bankSlot a n) else none
  let lost := bits (s.ctl1 a) 24 8
  let cst := match rep with | some r => rCstate r | none => 15
  let trip : Bool := match rep with | some r => bit r 104 | none => false
  let m : Mem := { addr := a, cas := 7, rep := rep, ovr := ctlOvr c }
  if ctlClass c = 1 then { m with cas := 0 }
  else if ctlClass c ≠ 0 then { m with cas := 1 }
  else if 1 ≤ ctlOvr c ∧ ctlOvr c ≤ 4 then
    { m with cas := 2, hin := if ctlOvr c = 2 then 2 else if ctlOvr c = 3 ∧ cst = 2 then 0 else 1 }
  else if cst = 2 then { m with cas := 3 }
  else if cst = 3 ∨ cst = 4 ∨ trip = true then { m with cas := 4, hin := if s.on Kv.ALk_CFG.TSF k && trip then 0 else 1 }
  else if rep.isSome then m
  else if lost + 1 < s.rd Kv.ALk_CFG.LOSTN k then { m with cas := 5, hin := 2 }
  else { m with cas := 6, hin := if s.on Kv.ALk_CFG.LPC k then 0 else 1 }

/-- XCL, LOST of a power cell, and the messages that R227, R222 and R468 name. -/
def Kv.classified (n : Nat) (s : Kv) (m : Mem) : Kv :=
  let s := s.reportUnc (s.recordUnc m.addr n)
  if m.cas < 2 then s.setCtl1 m.addr (putBits (s.ctl1 m.addr) 20 3 m.cas)
  else
    let c := s.ctl1 m.addr
    let was := bits c 20 3
    let lost := bits c 24 8
    let new := if m.rep.isNone then min 255 (lost + 1) else if m.cas = 3 ∨ m.cas = 4 then lost else 0
    let sat := decide (lost < 255 ∧ new = 255)
    let c := putBits (putBits c 24 8 new) 20 3 m.cas
    let s := s.setCtl1 m.addr (if sat then setBit c 23 true else c)
    let s := s.when (m.cas == 5 && was != 5) (fun s => s.raise Src.AL_LOST 0 m.addr)
    let s := s.when sat (fun s => s.raise Src.AL_LOST 0 m.addr)
    let s := s.when (m.cas == 6 && was != 6) (fun s => s.raise Src.AL_LPARK 0 m.addr)
    match m.rep with
    | some r =>
      let seen := Tab.get 0 m.addr s.al.sensing == 1
      let now := rCstate r == 4
      let s := { s with al := { s.al with sensing := Tab.set 0 m.addr (b2n now) s.al.sensing } }
      s.when (now && !seen) (fun s => s.raise Src.AL_CLASS 0 m.addr)
    | none => s

/-! ### Level and keys (R230 to R233) -/

/-- What a placement works with: the arm's settings, the reference, and the level terms. -/
structure Plan where
  full : Bool
  dtc : Bool
  idz : Int
  dt0 : Nat
  dt1 : Nat
  minp : Nat
  /-- tick in units of 1.25 ns -/
  T : Nat
  va : Int
  vb : Int
  ia : Int
  ib : Int
  vc : Rat
  /-- excluded members: those counted as OFF, and the sum of the believed ones -/
  nOff : Int
  held : Int
  /-- sign of the insertion state: NEG in a full-bridge arm whose level at mid-tick is below 0 -/
  neg : Bool := false

/-- Predicted current at instant τ. -/
def Plan.cur (p : Plan) (t : Rat) : Rat := p.ia + (p.ib - p.ia) * t / p.T

/-- Contribution of a member that counts as OFF, by the sign of the current. -/
def Plan.offSign (p : Plan) (sg : Int) : Int := if p.full then sg else if 0 < sg then 1 else 0

/-- Sign of a rational. -/
def ratSign (r : Rat) : Int := if r < 0 then -1 else if r = 0 then 0 else 1

/-- The level at τ while the current has sign `sg` (R233). -/
def Plan.levelAt (p : Plan) (t : Rat) (sg : Int) : Rat :=
  5 * (p.va + (p.vb - p.va) * t / p.T) / (8 * p.vc) - p.held - p.nOff * p.offSign sg

/-- The level at τ. -/
def Plan.level (p : Plan) (t : Rat) : Rat := p.levelAt t (ratSign (p.cur t))

/-- First instant of the piece from `a` to `b`, over which the current has sign `sg`, at which the level reaches `h` in direction `d`. -/
def Plan.reachIn (p : Plan) (h : Rat) (d : Int) (a b : Rat) (sg : Int) : Option Rat :=
  let ua := p.levelAt a sg
  let ub := p.levelAt b sg
  if 0 ≤ d * (ua - h) then some a
  else if 0 ≤ d * (ub - h) then some (a + (h - ua) * (b - a) / (ub - ua))
  else none

/-- First instant at which the level reaches `h` in direction `d`: 0 if it is beyond it at the start (R234). -/
def Plan.reach (p : Plan) (h : Rat) (d : Int) : Option Rat :=
  let T : Rat := p.T
  if 0 ≤ d * (p.level 0 - h) then some 0
  else if p.ia * p.ib < 0 then
    let z : Rat := T * p.ia / (p.ia - p.ib)
    match p.reachIn h d 0 z (ratSign p.ia) with
    | some t => some t
    | none => p.reachIn h d z T (ratSign p.ib)
  else p.reachIn h d 0 T (ratSign (p.ia + p.ib : Int))

/-- A rational rounded to the nearest integer, halves away from zero. -/
def ratNear (r : Rat) : Int := divNear r.num r.den

/-- A rational rounded to the nearest integer, halves up. -/
def ratHalfUp (r : Rat) : Int := (2 * r.num + r.den) / (2 * r.den)

/-- An eligible member at work: rank order is the order of the list it stands in. -/
structure Cand where
  addr : Nat
  key : Int
  st0 : Nat
  /-- OFF was believed: the boundary makes a turn-on edge (R228) -/
  on : Bool
  /-- state after the edges so far; edges: effective instant, commanded instant, new state -/
  cur : Nat
  edges : List (Nat × Nat × Nat) := []
  /-- commanded instant of the previous edge against the target boundary, in quarter ns -/
  last : Int
deriving DecidableEq, Repr

/-- The state counts as inserted on the side of sign `neg`. -/
def inSide (neg : Bool) (st : Nat) : Bool := st == (if neg then stNeg else stPos)

/-- The state is neither POS nor NEG. -/
def outside (st : Nat) : Bool := st != stPos && st != stNeg

/-- Score and key (R231). -/
def keyOf (sgn : Int) (vcap : Nat) (vc : Rat) (wv : Nat) (hold : Nat) (inserted : Bool) (midx : Nat) : Int :=
  let volt := ratNear (-(sgn : Rat) * ((vcap : Rat) - vc) * wv / 256)
  let score := satS 22 (volt + (if inserted then (hold : Int) else -hold))
  score * 1024 + (1023 - midx)

/-- Insert a member into a list in descending order of keys. -/
def rankInsert (c : Cand) : List Cand → List Cand
  | [] => [c]
  | d :: rest => if d.key < c.key then c :: d :: rest else d :: rankInsert c rest

/-- Sort by descending key (R232). -/
def rankSort (l : List Cand) : List Cand := l.foldr rankInsert []

/-! ### Edges (R237 to R241) -/

/-- The dead time that an edge between two states meets: that of the pair whose outputs change (R168, R240). -/
def Plan.deadTime (p : Plan) (a b : Nat) : Nat :=
  if !p.full then p.dt0
  else
    let high := fun (st : Nat) => st == stPos || st == stUp
    if high a != high b then p.dt0 else p.dt1

/-- The part δ × DT of the dead time that passes between command and effect of an edge from state `a` to state `b` at `e` (R240). -/
def Plan.delay (p : Plan) (a b e : Nat) : Nat :=
  if !p.dtc then 0
  else
    let i := p.cur e
    let dt := p.deadTime a b
    let raises := decide (stLevel a < stLevel b)
    if i < p.idz ∧ -(p.idz : Rat) < i then dt / 2
    else if (if raises then decide (i < 0) else decide (0 < i)) then dt
    else 0

/-- Commanded instant of an edge that is to take effect at `e`, clamped to the boundary (R240). -/
def Plan.commanded (p : Plan) (a b e : Nat) : Nat := e - p.delay a b e

/-- The instant at which it takes effect: later than `e` where the clamp acts (R236, R240). -/
def Plan.effective (p : Plan) (a b e : Nat) : Nat := max e (p.delay a b e)

/-- A member is free for an edge to state `b` effective at `e` (R237). -/
def Plan.free (p : Plan) (c : Cand) (b e : Nat) : Bool :=
  let at_ := p.commanded c.cur b e
  decide (c.edges.length < 2) && decide (c.last + 5 * p.minp ≤ 5 * at_) &&
    (match c.edges.getLast? with | some x => decide (x.1 ≤ e) | none => true)

/-- The member with one more edge. -/
def Plan.edge (p : Plan) (c : Cand) (b e : Nat) : Cand :=
  let at_ := p.commanded c.cur b e
  { c with cur := b, edges := c.edges ++ [(p.effective c.cur b e, at_, b)], last := 5 * at_ }

/-- Progress of a placement: members in rank order, the next in-turn zero state, deferrals and drops. -/
structure Placing where
  cs : List Cand
  zup : Bool
  zsel : Nat
  defer : Nat := 0
  drop : Nat := 0

/-- The zero state that a removal takes (R241). -/
def Placing.zero (w : Placing) (full : Bool) : Nat :=
  if !full then stLo else if w.zsel = 1 ∨ (w.zsel = 2 ∧ w.zup) then stUp else stLo

/-- Replace a member. -/
def Placing.put (w : Placing) (c : Cand) : Placing := { w with cs := w.cs.map (fun d => if d.addr = c.addr then c else d) }

/-- The member's new edge in the work; a removal passes the turn on. -/
def Placing.edge (w : Placing) (p : Plan) (a b e : Nat) : Placing :=
  match w.cs.find? (fun c => c.addr == a) with
  | some c => { (w.put (p.edge c b e)) with zup := if outside b then !w.zup else w.zup }
  | none => w

/-- The level that the members make now. -/
def Placing.level (w : Placing) : Int := w.cs.foldl (fun m c => m + stLevel c.cur) 0

/-- The member an edge takes at instant `e`: an insertion (to POS, or NEG) the best-ranked free one outside, a removal the
worst-ranked free one in the state (R239). Answers the member and its new state. -/
def Placing.pick (w : Placing) (p : Plan) (insert neg : Bool) (e : Nat) : Option (Nat × Nat) :=
  if insert then
    let b := if neg then stNeg else stPos
    (w.cs.find? (fun c => outside c.cur && p.free c b e)).map (fun c => (c.addr, b))
  else
    let b := w.zero p.full
    (w.cs.reverse.find? (fun c => inSide neg c.cur && p.free c b e)).map (fun c => (c.addr, b))

/-- What a step in direction `d` does at level `m`: whether it inserts, and on which side (R241). -/
def stepKind (p : Plan) (d m : Int) : Bool × Bool :=
  if !p.full then (decide (0 < d), false)
  else if 0 < d then (if m < 0 then (false, true) else (true, false))
  else (if 0 < m then (false, false) else (true, true))

/-- The first instant from `e` on, below the end, at which a member is free. -/
def Placing.later (w : Placing) (p : Plan) (insert neg : Bool) : Nat → Nat → Option (Nat × Nat × Nat)
  | 0, _ => none
  | fuel + 1, e =>
    match w.pick p insert neg e with
    | some (a, b) => some (a, b, e)
    | none => Placing.later w p insert neg fuel (e + 1)

/-- One step (R239): given to a free member, deferred, or dropped. -/
def Placing.step (w : Placing) (p : Plan) (d : Int) (e : Nat) : Placing :=
  let k := stepKind p d w.level
  match w.pick p k.1 k.2 e with
  | some (a, b) => w.edge p a b e
  | none =>
    match w.later p k.1 k.2 (p.T - 1 - (e + 1)) (e + 1) with
    | some (a, b, t) => { (w.edge p a b t) with defer := w.defer + 1 }
    | none => { w with drop := w.drop + 1 }

/-- Swap pairs at `tsw`, at most `n`, from the members outside the insertion state and those in it that are left: each removal takes the
zero state whose turn it is, and a member not free at its commanded instant is skipped (R238, R241). (DEDUCED: log entry 176.) -/
def Placing.pairsFrom (w : Placing) (p : Plan) (tsw : Nat) : Nat → List Cand → List Cand → List (Nat × Nat)
  | 0, _, _ => []
  | n + 1, outs, away =>
    match outs.filter (fun c => p.free c (if p.neg then stNeg else stPos) tsw), away.dropWhile (fun c => !p.free c (w.zero p.full) tsw) with
    | a :: outs, b :: away => (a.addr, b.addr) :: Placing.pairsFrom { w with zup := !w.zup } p tsw n outs away
    | _, _ => []

/-- Swap pairs at `tsw`, at most `n` (R238): insertion member and removal member, by address. -/
def Placing.pairs (w : Placing) (p : Plan) (m0 : Nat) (tsw n : Nat) : List (Nat × Nat) :=
  w.pairsFrom p tsw n ((w.cs.take m0).filter (fun c => outside c.cur)) ((w.cs.drop m0).reverse.filter (fun c => inSide p.neg c.cur))

/-- Make swaps. -/
def Placing.swaps (w : Placing) (p : Plan) (tsw : Nat) (l : List (Nat × Nat)) : Placing :=
  l.foldl (fun w q =>
    let w := w.edge p q.1 (if p.neg then stNeg else stPos) tsw
    w.edge p q.2 (w.zero p.full) tsw) w

/-- A member is free for an edge. -/
def Placing.freeAt (w : Placing) (p : Plan) (a b e : Nat) : Bool :=
  match w.cs.find? (fun c => c.addr == a) with
  | some c => p.free c b e
  | none => false

/-- A pulse (R235): the insertion at `ti`, the removal at `tr`, on two different members. One made from the first swap pair takes that
pair's turn among the zero states. (DEDUCED: log entry 176.) -/
def Placing.pulse (w : Placing) (p : Plan) (tsw ti tr : Nat) (swaps : List (Nat × Nat)) : Placing :=
  let ins := if p.neg then stNeg else stPos
  let finish := fun (w : Placing) (o i : Nat) =>
    let w := w.edge p o ins ti
    w.edge p i (w.zero p.full) tr
  match swaps with
  | (o, i) :: rest =>
    if w.freeAt p o ins ti && w.freeAt p i (w.zero p.full) tr then (finish w o i).swaps p tsw rest
    else
      let w := w.swaps p tsw swaps
      match w.pick p true p.neg ti, w.pick p false p.neg tr with
      | some (a, _), some (b, _) => finish w a b
      | _, _ => { w with drop := w.drop + 1 }
  | [] =>
    match w.pick p true p.neg ti, w.pick p false p.neg tr with
    | some (a, _), some (b, _) => finish w a b
    | _, _ => { w with drop := w.drop + 1 }

/-- Insert into an ascending list. -/
def ascInsert (x : Nat) : List Nat → List Nat
  | [] => [x]
  | y :: rest => if x ≤ y then x :: y :: rest else y :: ascInsert x rest

/-- Instants of the steps (R234): nominal crossings, shifted together to meet the area, clamped, on the grid, in time order. -/
def Plan.stepTimes (p : Plan) (m0 m1 : Int) (area : Rat) : List Nat :=
  let d : Int := if m0 < m1 then 1 else -1
  let k := (m1 - m0).natAbs
  let last : Rat := ((p.T - 1 : Nat) : Rat)
  let nom := (List.range k).map (fun j => (p.reach ((m0 : Rat) + d * ((j : Rat) + 1 / 2)) d).getD last)
  let T : Rat := p.T
  let shift := ((nom.map (fun t => T - t)).foldl (· + ·) 0 - d * (area - m0 * T)) / (k : Rat)
  (nom.map (fun t => (max 0 (min (ratNear (t + shift)) ((p.T - 1 : Nat) : Int))).toNat)).foldr ascInsert []

/-- Area that the members made over the tick, by effective instants. -/
def Placing.area (w : Placing) (p : Plan) (m0 : Int) : Int :=
  w.cs.foldl (fun s c =>
    (c.edges.foldl (fun (q : Int × Nat) x => (q.1 + (stLevel x.2.2 - stLevel q.2) * ((p.T - x.1 : Nat) : Int), x.2.2)) (s, c.st0)).1)
    (m0 * p.T)

/-! ### A placement -/

/-- Believed state of a cell. -/
def Kv.believed (s : Kv) (a : Nat) : Nat := Tab.get 0 a s.al.belief

/-- B(t) in ns for a tick at or after the running one. -/
def Kv.boundaryOf (s : Kv) (t : Nat) : Nat := (s.tim.bn.toNat + ticksTo s.tick t * s.tickNs) % 2 ^ 32

/-- Settings and level terms of an active placement. -/
def Kv.plan (s : Kv) (k : Nat) (r : Ref) (ms : List Mem) (vc : Rat) : Plan :=
  let off := ms.filter (fun m => decide (2 ≤ m.cas ∧ m.cas ≤ 6) && m.hin == 1)
  let held := ms.filter (fun m => decide (2 ≤ m.cas ∧ m.cas ≤ 6) && m.hin == 2)
  let p : Plan :=
    { full := s.on Kv.ALk_CFG.TOPO k, dtc := s.on Kv.ALk_CFG.DTC k, idz := s.rd Kv.ALk_LIM.IDZ k, dt0 := s.rd Kv.ALk_DT.DT0 k
      dt1 := s.rd Kv.ALk_DT.DT1 k, minp := s.rd Kv.ALk_MINP.MINP k, T := 8 * s.tim.len, va := r.va, vb := r.vb, ia := r.ia
      ib := r.ib, vc := vc, nOff := off.length, held := held.foldl (fun x m => x + stLevel (s.believed m.addr)) 0 }
  { p with neg := p.full && decide (p.level ((p.T : Rat) / 2) < 0) }

/-- The eligible members, ranked. -/
def Kv.ranked (s : Kv) (k n t : Nat) (p : Plan) (r : Ref) (el : List Mem) (z0 : Nat) : List Cand :=
  let idz : Int := s.rd Kv.ALk_LIM.IDZ k
  let sg : Int := if 2 * idz ≤ r.ia + r.ib then 1 else if r.ia + r.ib ≤ -2 * idz then -1 else 0
  let sg := if p.neg then -sg else sg
  let b := s.boundaryOf t
  rankSort (el.map (fun m =>
    let st := s.believed m.addr
    let st0 := if st = stOff then z0 else st
    let w := s.rdBe (recAddr m.addr + 0x54) 4
    let hw := if (n + 1) % 2 = 1 then bits w 16 16 else bits w 0 16
    let vcap := match m.rep with | some x => rVcapS x | none => 0
    let key := keyOf sg vcap p.vc (s.rd Kv.ALk_KEY.WV k) (s.rd Kv.ALk_KEY.H k + hw) (inSide p.neg st0) (ctlMidx (s.ctl0 m.addr))
    let since := (b + 2 ^ 32 - s.rdBe (recAddr m.addr + 0x50) 4) % 2 ^ 32
    { addr := m.addr, key := key, st0 := st0, on := st == stOff, cur := st0, last := if st = stOff then 0 else -(4 * since : Nat) }))

/-- The active placement of R233 to R241: the work done, the residual, and whether level and residual were clamped. -/
def Kv.placeActive (s : Kv) (k n t : Nat) (r : Ref) (ms el : List Mem) (vc : Rat) : Placing × Int × Bool × Bool :=
  let p := s.plan k r ms vc
  let w : Placing := { cs := [], zup := (s.arm k).zup, zsel := s.rd Kv.ALk_CFG.ZSEL k }
  let w := { w with cs := s.ranked k n t p r el (w.zero p.full) }
  let ne : Int := el.length
  let m0 : Int := w.level
  let T : Rat := p.T
  let u1 := p.level T
  let want := ratHalfUp u1
  let m1 := max (if p.full then -ne else 0) (min want ne)
  let area := T * (p.level 0 + u1) / 2 + (sx 32 (s.rd Kv.ALk_RESID.E k) : Rat)
  let tsw := min (s.rd Kv.ALk_PLC.TSW k) (p.T - 1)
  let pairs := w.pairs p m0.natAbs tsw (s.rd Kv.ALk_CFG.SWMAX k)
  let diff := area - m0 * T
  let up := decide (0 < diff)
  let mag := if diff < 0 then -diff else diff
  let w :=
    if m1 ≠ m0 then (p.stepTimes m0 m1 area).foldl (fun w e => w.step p (if m0 < m1 then 1 else -1) e) (w.swaps p tsw pairs)
    else if (s.rd Kv.ALk_PLC.WMIN k : Rat) ≤ mag then
      let width := min (ratNear mag).toNat (2 * min tsw (p.T - 1 - tsw))
      let t1 := tsw - width / 2
      let t2 := t1 + width
      let first := (up != p.neg)
      w.pulse p tsw (if first then t1 else t2) (if first then t2 else t1) pairs
    else w.swaps p tsw pairs
  let eps := area - w.area p m0
  let lim : Rat := T
  let sat := decide (lim < eps ∨ eps < -lim)
  (w, ratNear (max (-lim) (min eps lim)), decide (m1 ≠ want), sat)

/-- A command slot without origin bits, side channel check and CRC (R108, R242). -/
def cmdSlot (t mode st0 st1 t1 st2 t2 bcmd side : Nat) : Nat :=
  t % 256 * 2 ^ 120 + mode % 16 * 2 ^ 116 + st0 % 8 * 2 ^ 113 + st1 % 8 * 2 ^ 110 + t1 % 65536 * 2 ^ 94 + st2 % 8 * 2 ^ 91 +
    t2 % 65536 * 2 ^ 75 + bcmd % 16 * 2 ^ 68 + side % 2 ^ 32 * 2 ^ 24

/-- The BCMD of the next command of cell `a` for target `t` and its SIDE: the host's one-shot, the acknowledgement of R410, the cell arm
of R442, the tally of R499. -/
def Kv.bcmdFor (s : Kv) (a t : Nat) (mode : Nat) (rep : Option Nat) : Nat × Nat :=
  let own := ctlBcmd (s.ctl0 a)
  let tally := s.col.tallyOf
  let (b, side) := if own = 1 then (match tally with | some (no, _) => (1, no) | none => (0, 0)) else (own, 0)
  let pend : Bool := match rep with | some r => rPend r | none => false
  let b := if b = 0 ∧ pend = true then 5 else b
  let arm := s.cellArm == some t && bit (s.rd Kv.ACQn_SMSK.SMSK (s.rd Kv.ACQ_CTRL.MSTR)) (a / 256)
  let b := if arm = true ∧ (b = 0 ∨ b = 5) then 2 else b
  match tally with
  | some (no, tt) => if tt = t ∧ (b = 0 ∨ b = 5) ∧ mode ≠ 3 then (1, no) else (b, side)
  | none => (b, side)

/-- The latest valid report of a cell at tick `n` (R410). -/
def Kv.latestReport (s : Kv) (a n : Nat) : Option Nat :=
  let v := Tab.get 0 a s.col.last
  let t := v / 2 ^ 192
  if s.bankValid a n then some (s.bankSlot a n)
  else if s.bankValid a (tickPrev n) then some (s.bankSlot a (tickPrev n))
  else if t = 0 ∨ t = n + 1 ∨ t = tickPrev n + 1 then none
  else some (v % 2 ^ 192)

/-- The state in which target `t` leaves cell `a`, for as long as the command is held (R228, R246). -/
def Kv.noteEnd (s : Kv) (a t st : Nat) : Kv :=
  { s with al := { s.al with ends := Tab.set 0 (a * 8 + t % 8) ((t + 1) * 8 + st % 8) s.al.ends } }

/-- Command history of cell `a` for target tick `t` in the arena (R462). -/
def historyAddr (a t : Nat) : Nat := sysArena + 0x240000 + t % 8 * 0x20000 + 16 * (a % 8192)

/-- Place the command of one cell: keep it for its target tick, with LCMD and the belief (R220, R228); the one-shot of CTL is used
up (R222). -/
def Kv.placeCommand (s : Kv) (a n t mode st0 st1 t1 st2 t2 : Nat) : Kv :=
  let q := s.bcmdFor a t mode (s.latestReport a n)
  let side := if mode = 3 then armingCode a else q.2
  let slot := cmdSlot t mode st0 st1 t1 st2 t2 q.1 side
  let inArm := s.cellArm == some t && bit (s.rd Kv.ACQn_SMSK.SMSK (s.rd Kv.ACQ_CTRL.MSTR)) (a / 256)
  let s := s.when (inArm && q.1 != 2) (fun s => s.wr Kv.ACQ_CTRL.NARM (min 0x3FFF (s.rd Kv.ACQ_CTRL.NARM + 1)))
  let s := s.setCtl0 a (putBits (s.ctl0 a) 8 4 0)
  let s := s.storeBe (recAddr a + 0x48) (slot / 2 ^ 64) 8
  let s := s.storeBe (historyAddr a t) slot 16
  let b := s.believed a
  let bel := if mode = 1 then st2 else if mode = 2 ∨ mode = 5 then b else stOff
  { s.noteEnd a t bel with al := { (s.noteEnd a t bel).al with
      cmds := Tab.set 0 (a * 8 + t % 8) ((t + 1) * 2 ^ 128 + slot) s.al.cmds, belief := Tab.set 0 a bel s.al.belief } }

/-- No command for a cell and target tick: its slot goes out void (R102), and the cell keeps its state. -/
def Kv.voidCommand (s : Kv) (a t : Nat) : Kv :=
  let s := s.noteEnd a t (s.believed a)
  { s with al := { s.al with cmds := Tab.set 0 (a * 8 + t % 8) 0 s.al.cmds } }

/-- The command of an eligible member from the work: states, instants and DWELL. -/
def Kv.placeWork (s : Kv) (n t : Nat) (c : Cand) : Kv :=
  let b := s.boundaryOf t
  let s := s.storeBe (recAddr c.addr + 0x58) (toBits 32 c.key) 4
  let dwell := fun (s : Kv) (e : Nat) => s.storeBe (recAddr c.addr + 0x50) ((b + (5 * e + 3) / 4) % 2 ^ 32) 4
  match c.edges with
  | [] => (s.when c.on (fun s => dwell s 0)).placeCommand c.addr n t 1 c.st0 c.st0 0 c.st0 0
  | [(_, e, x)] => (dwell s e).placeCommand c.addr n t 1 c.st0 x e x e
  | (_, e, x) :: (_, f, y) :: _ => (dwell s f).placeCommand c.addr n t 1 c.st0 x e y f

/-- The command of a cell outside the active placement: `amode` 1 parks and 2 holds every member (R226, R243); else R227 decides. (DEDUCED: log entry 144.) -/
def Kv.placeFixed (s : Kv) (n t amode : Nat) (m : Mem) : Kv :=
  if m.cas = 1 then s.voidCommand m.addr t
  else
    let mode :=
      if m.cas = 0 then 5 else if amode = 1 then 0 else if amode = 2 then 2
      else if m.cas = 2 then (match m.ovr with | 2 => 2 | 3 => 3 | 4 => 4 | _ => 0)
      else if m.cas = 5 then 2 else 0
    s.placeCommand m.addr n t mode 0 0 0 0 0

/-- Mean VCAP_S of the eligible members, exactly (R231). (DESIGN CHOICE: log entry 27.) -/
def meanVcap (el : List Mem) : Rat :=
  ((el.map (fun m => match m.rep with | some x => rVcapS x | none => 0)).foldl (· + ·) 0 : Nat) / ((el.length : Nat) : Rat)

/-- The arm is finished for target `t`. (DEDUCED: log entry 103.) -/
def Kv.armDone (s : Kv) (k t : Nat) : Kv := s.onArm k (fun a => { a with done := tickMark a.done t, started := tickMark a.started t })

/-- The next power of two. -/
def padTo : Nat → Nat → Nat
  | 0, n => n
  | f + 1, n => if n ≤ 1 then 1 else 2 * padTo f ((n + 1) / 2)

/-- The sorted keys in the arm's sort buffer, padded (R232). (DESIGN CHOICE: log entry 160.) -/
def Kv.sortBuffer (s : Kv) (k : Nat) (cs : List Cand) : Kv :=
  s.each (List.range (padTo 11 cs.length)) (fun s i =>
    s.storeBe (sortAddr k + 4 * i) (match cs[i]? with | some c => toBits 32 c.key | none => 0x80000000) 4)

/-! ### Digests (R381) -/

/-- CRC-64 of the digest. -/
def digestOf (s : Kv) (str t : Nat) : Nat :=
  (s.positions str).foldl (fun r p =>
    let c := (s.placed (str * 256 + p) t).getD 0
    crcBits 64 0x42F0E1EBA9EA3693 61 (cDigestBits c) r) (str * 2 ^ 48 ^^^ t % 2 ^ 48)

/-- Arms that the cell map names. -/
def Kv.usedArms (s : Kv) : List Nat :=
  (List.range 12).filter (fun k => !(s.armCells k).isEmpty)

/-- The strings in service: mapped, with their port enabled. -/
def Kv.served (s : Kv) : List Nat := s.strings.filter (fun n => s.on Kv.SPn_CTRL.EN n)

/-- When the last allocator has finished target `t`, the digests of the strings in service go out in one DIGEST message (R378). (DEDUCED: log entry 138.) -/
def Kv.sendDigests (s : Kv) (t : Nat) : Kv :=
  if s.usedArms.all (fun k => tickDone (s.arm k).done t) then
    s.castleSend 0x02 (t :: s.served.map (fun n => digestOf s n t))
  else s

/-- The placement of arm `k` for tick `n` with reference `r` (none: drained, R243). -/
def Kv.placeArm (s : Kv) (k n t : Nat) (r : Option Ref) : Kv :=
  let ms := (s.armCells k).map (s.classify k n)
  let s := ms.foldl (Kv.classified n) s
  let el := ms.filter (fun m => m.cas == 7)
  let s := s.wr Kv.ALk_STAT.NE el.length k
  let s := s.wr Kv.ALk_STAT.NX ((ms.filter (fun m => decide (2 ≤ m.cas ∧ m.cas ≤ 6))).length) k
  let low := decide (el.length < s.rd Kv.ALk_LIM.NMIN k)
  let s := s.when (low && (s.arm k).above) (fun s => s.raise Src.AL_NMIN 0 k)
  let s := s.onArm k (fun a => { a with above := !low })
  match r with
  | none => ms.foldl (fun s m => s.placeFixed n t 1 m) (s.wr Kv.ALk_RESID.E 0 k)
  | some ref =>
    if ref.amode = 2 then ms.foldl (fun s m => s.placeFixed n t 2 m) s
    else if ref.amode = 1 then ms.foldl (fun s m => s.placeFixed n t 1 m) (s.wr Kv.ALk_RESID.E 0 k)
    else if el.isEmpty then ms.foldl (fun s m => s.placeFixed n t 0 m) (s.wr Kv.ALk_RESID.E 0 k)
    else
      let vc := if ref.vc = 0 then meanVcap el else (ref.vc : Rat)
      let open_ := decide (vc = 0)
      let vc := if open_ then (Config.unstated s.free : Rat) else vc
      let s := if open_ then { s with free := s.free + 1 } else s
      let w := s.placeActive k n t ref ms el vc
      let s := (s.sortBuffer k w.1.cs).wr Kv.ALk_RESID.E (toBits 32 w.2.1) k
      let s := s.when w.2.2.1 (fun s => (s.mark Kv.ALk_STAT.USAT k).raise Src.AL_SAT 0 k)
      let s := s.when w.2.2.2 (fun s => s.mark Kv.ALk_STAT.RSAT k)
      let s := s.onArm k (fun a => { a with zup := w.1.zup, neg := (s.plan k ref ms vc).neg })
      let s := s.each (List.range w.1.defer) (fun s _ => s.count Kv.ALk_CNT.DEFER Kv.ALk_CNT.SAT Src.SYS_SAT k)
      let s := s.each (List.range w.1.drop) (fun s _ => s.count Kv.ALk_CNT.DROP Kv.ALk_CNT.SAT Src.SYS_SAT k)
      let s := (ms.filter (fun m => m.cas != 7)).foldl (fun s m => s.placeFixed n t 0 m) s
      w.1.cs.foldl (fun s c => s.placeWork n t c) s

/-- Cells of arm `k` that a fault has named get OVR = PARK, from the placement of their target tick on (R420). (DEDUCED: log entry 43.) -/
def Kv.overrideCells (s : Kv) (k t : Nat) : Kv :=
  (s.armCells k).foldl (fun s a =>
    let o := Tab.get 0 a s.ovrAt
    if o ≠ 0 ∧ tickAhead t (o - 1) = false then { s.overrideCell a with ovrAt := Tab.set 0 a 0 s.ovrAt } else s) s

/-- ALLOCATOR_PLACE: arm `k` places target tick `n` + L from the reports of tick `n`, with its reference, or without one once the latest
point for arm references has been reached (R25, R225, R242, R243). (DESIGN CHOICE: log entries 6, 27; DEDUCED: log entry 144.) -/
def allocatorPlaceKv (k n : Nat) (s : Kv) : Kv :=
  let t := tickPlus n s.lead
  let a := s.arm k
  let old := s
  let s := s.overrideCells k t
  if !old.closedFor n || tickDone a.done t then old
  else if !s.on Kv.ALk_CFG.EN k then
    let s := (s.wr Kv.ALk_STAT.XTRP 0 k).onArm k (fun a => { a with last := none })
    ((s.placeArm k n t none).armDone k t).sendDigests t
  else
    match old.ref k t with
    | some r =>
      let s := (s.wr Kv.ALk_STAT.XCNT 0 k).wr Kv.ALk_STAT.XTRP 0 k
      let s := s.onArm k (fun a => { a with last := some r })
      ((s.placeArm k n t (some r)).armDone k t).sendDigests t
    | none =>
      if !tickDone s.dsp.t0Judged n then old
      else
      let s := match s.refBad k t with
        | some b => (s.logUnc b).raiseUnc b 0
        | none => s
      let x := match a.last with | some _ => min 3 (s.rd Kv.ALk_STAT.XCNT k + 1) | none => 3
      let s := s.wr Kv.ALk_STAT.XCNT x k
      match a.last with
      | some r =>
        if x < 3 then
          let r := r.extrapolate t
          let s := ((s.mark Kv.ALk_STAT.XTRP k).raise Src.AL_XTRP 0 k).onArm k (fun a => { a with last := some r })
          ((s.placeArm k n t (some r)).armDone k t).sendDigests t
        else ((s.each (s.armCells k) (fun s a => s.voidCommand a t)).armDone k t).sendDigests t
      | none => ((s.each (s.armCells k) (fun s a => s.voidCommand a t)).armDone k t).sendDigests t

/-- ALLOCATOR_DEADLINE: an arm not finished by the latest point leaves its slots void (R242). -/
def allocatorDeadlineKv (k n : Nat) (s : Kv) : Kv :=
  let t := tickPlus n s.lead
  if tickDone (s.arm k).done t then s
  else
    let s := (s.mark Kv.ALk_STAT.LATE k).raise Src.AL_LATE 0 k
    ((s.each (s.armCells k) (fun s a => s.voidCommand a t)).armDone k t).sendDigests t

/-- ALLOCATOR_DISABLE: EN is cleared; a placement is one step here, so none is in progress (R243). -/
def allocatorDisableKv (k : Nat) (s : Kv) : Kv := (s.wr Kv.ALk_CFG.EN 0 k).onArm k (fun a => { a with last := none })

end Sys2Proof.Machine
end

