-- ==== Sys2Proof/Machine/SfeWindow.lean ====
section
/-! DEFINITION. The window of a state-feedback engine: its layout and its descriptors (R258, R279, R280). -/

namespace Sys2Proof.Machine

/-- State of engine `e`. -/
def Kv.sfeE (s : Kv) (e : Nat) : SfeSt := Tab.get {} e s.sfe

/-- Update the state of engine `e`. -/
def Kv.onSfe (s : Kv) (e : Nat) (f : SfeSt → SfeSt) : Kv := { s with sfe := Tab.upd {} e f s.sfe }

/-- Addresses in the window of engine `e` (R279): descriptor, gather entry, output entry, initial state, clamp pair, coefficient
entry of bank `b`; live state, input word, output copy, trace word. -/
def sfeBank (e b : Nat) : Nat := sysSfe e + 0x80000 * b
def sfeDescAt (e b j : Nat) : Nat := sfeBank e b + 0x40 * j
def sfeGatherAt (e b j i : Nat) : Nat := sfeBank e b + 0x400 + 0x80 * j + 4 * i
def sfeOutAt (e b j i : Nat) : Nat := sfeBank e b + 0xC00 + 0x40 * j + 4 * i
def sfeInitAt (e b j i : Nat) : Nat := sfeBank e b + 0x1000 + 0x80 * j + 4 * i
def sfeClampAt (e b j i : Nat) : Nat := sfeBank e b + 0x1800 + 0x80 * j + 8 * i
def sfeCoefAt (e b i : Nat) : Nat := sfeBank e b + 0x2000 + 8 * i
def sfeLiveAt (e j i : Nat) : Nat := sysSfe e + 0x100000 + 0x80 * j + 4 * i
def sfeInAt (e i : Nat) : Nat := sysSfe e + 0x100800 + 4 * i
def sfeCopyAt (e j k : Nat) : Nat := sysSfe e + 0x101000 + 0x200 * j + 0x100 * k
def sfeTraceAt (e i : Nat) : Nat := sysSfe e + 0x110000 + 4 * (i % 16384)

/-- A loop descriptor (R280). -/
structure Desc where
  en : Bool
  start : Nat
  dec : Nat
  ph : Nat
  xinit : Bool
  cen : Bool
  scnt : Nat
  ccnt : Nat
  ns : Nat
  np : Nat
  nm : Nat
  nz : Nat
  uclamp : Bool
  ab : Nat
  bb : Nat
  lb : Nat
  cb : Nat
  kb : Nat
deriving DecidableEq, Repr

/-- The descriptor of loop `j` in bank `b` of engine `e`. -/
def Kv.desc (s : Kv) (e b j : Nat) : Desc :=
  let w := fun i => s.rdLe (sfeDescAt e b j + 4 * i) 4
  { en := bit (w 0) 31, start := bits (w 0) 29 2, dec := bits (w 0) 25 4, ph := bits (w 0) 21 4, xinit := bit (w 0) 20
    cen := bit (w 0) 19, scnt := bits (w 0) 8 8, ccnt := bits (w 0) 0 8, ns := bits (w 1) 26 6, np := bits (w 1) 21 5
    nm := bits (w 1) 16 5, nz := bits (w 1) 11 5, uclamp := bit (w 1) 0, ab := bits (w 2) 16 16, bb := bits (w 2) 0 16
    lb := bits (w 3) 16 16, cb := bits (w 3) 0 16, kb := bits (w 4) 16 16 }

/-- The descriptor holds no reserved value, and no matrix that is read leaves the coefficient area (R258, R278, R280). -/
def Desc.ok (d : Desc) : Bool :=
  decide (d.start ≤ 1 ∧ d.ph ≤ d.dec ∧ 1 ≤ d.ns ∧ d.ns ≤ 32 ∧ d.np ≤ 16 ∧ d.nm ≤ 16 ∧ d.nz ≤ 16) &&
  [d.ab, d.bb, d.lb, d.cb, d.kb].all (fun b => decide (b < 32768)) &&
  decide (d.ab + d.ns * d.ns ≤ 32768) &&
  (d.np == 0 || decide (d.bb + d.ns * d.np ≤ 32768 ∧ d.kb + d.np * d.ns ≤ 32768)) &&
  (d.nm == 0 || decide (d.lb + d.ns * d.nm ≤ 32768 ∧ d.cb + d.nm * d.ns ≤ 32768))

/-- The loop is scheduled for tick `n` (R265); one whose PH lies above DEC comes up, to be skipped, in every tick (R278). (DEDUCED: log entry 106.) -/
def Desc.runsAt (d : Desc) (n : Nat) : Bool := d.en && (decide (d.dec < d.ph) || n % (d.dec + 1) == d.ph)

/-- The bank that was active at B(n) of a tick not in the future, and the switch that made it active: its tick plus 1, 0 for none (R271). -/
def Kv.sfeBankOf (s : Kv) (e n : Nat) : Nat × Nat :=
  let act := s.rd Kv.SFEn_BANK.ACT e
  let sw := (s.sfeE e).switches.filter (fun t => !tickAhead s.tick t)
  (if (sw.filter (fun t => tickAhead n t)).length % 2 = 0 then act else 1 - act,
   match sw.find? (fun t => !tickAhead n t) with | some t => t + 1 | none => 0)

/-- The loops that engine `e` runs for tick `n` (R265, R271). (DEDUCED: log entry 106.) -/
def Kv.sfeJobs (s : Kv) (e n : Nat) : List SfeJob :=
  let b := s.sfeBankOf e n
  ((List.range 16).filter (fun j => (s.desc e b.1 j).runsAt n)).map (fun j => { tick := n, loop := j, bank := b.1, since := b.2 })

/-- The descriptor of a scheduled loop. -/
def Kv.jobDesc (s : Kv) (e : Nat) (q : SfeJob) : Desc := s.desc e q.bank q.loop

/-- BUSY of engine `e`: a scheduled loop still has to use the inactive bank (R271). -/
def Kv.sfeBusy (s : Kv) (e : Nat) : Bool := (s.sfeE e).queue.any (fun q => q.bank != s.rd Kv.SFEn_BANK.ACT e)

/-- The bits of a window word that are not reserved (R9, R279 to R282); those of a gather entry go by the KIND that it holds, `v`. -/
def sfeWordMask (off v : Nat) : Nat :=
  let o := off % 0x80000
  if 0x100000 ≤ off then 0xFFFFFFFF
  else if o < 0x400 then
    match o % 0x40 / 4 with
    | 0 => 0xFFF8FFFF | 1 => 0xFFFFF801 | 2 => 0xFFFFFFFF | 3 => 0xFFFFFFFF | 4 => 0xFFFF0000 | _ => 0
  else if o < 0xC00 then
    match bits v 30 2 with
    | 0 => 0xFFFFFFF8 | 1 => 0xFF800000 | 2 => 0xF0007F80 | _ => 0xFFF00000
  else if o < 0x1000 then 0xFF000000
  else if 0x2000 ≤ o ∧ o < 0x42000 ∧ o % 8 = 4 then 0x3F
  else 0xFFFFFFFF

/-- Bytes loaded at system address `a` leave the reserved bits of window words 0 (R9). -/
def Kv.sfeTidy (s : Kv) (a n : Nat) : Kv :=
  s.each (List.range ((a % 4 + n + 3) / 4)) (fun s i =>
    let w := a / 4 * 4 + 4 * i
    if sysSfe 0 ≤ w ∧ w < sysSfe 4 then
      let v := s.rdLe w 4
      let t := v &&& sfeWordMask ((w - sysSfe 0) % 0x200000) v
      if t = v then s else s.wrLe w t 4
    else s)

end Sys2Proof.Machine
end

