-- ==== Sys2Proof/Machine/Ledger.lean ====
section
/-! DEFINITION. The force table's effect on stores (R304, R355), and the ledger: what an epoch carries and what applying it sets
(R386 to R391). -/

namespace Sys2Proof.Machine

/-! ### Forced stores -/

/-- A forced range overlaps bytes `a` to `a + n - 1`. -/
def Kv.forced (s : Kv) (a n : Nat) : Bool :=
  s.dsp.forces.any (fun e => match e.2 with
    | some f => f.active && !f.orphan && decide (f.addr < a + n ∧ a < f.addr + f.size)
    | none => false)

/-- A store to `n` bytes from `a` takes place unless it touches a forced range (R304, R355). -/
def Kv.unlessForced (s : Kv) (a n : Nat) (f : Kv → Kv) : Kv := if s.forced a n then s else f s

/-- A store of `n` bytes, least significant first, through the force table: one that touches a forced range has no effect. -/
def Kv.forcedStore (s : Kv) (a v n : Nat) : Kv := s.unlessForced a n (fun s => s.store a v n)

/-- Bytes of a number, least significant first. -/
def leBytes : Nat → Nat → List Byte
  | 0, _ => []
  | n + 1, v => BitVec.ofNat 8 v :: leBytes n (v / 256)

/-- The number that bytes spell, least significant first. -/
def ofLe (l : List Byte) : Nat := l.foldr (fun b a => b.toNat + 256 * a) 0

/-- `n` bytes of memory from `a`. -/
def Kv.bytesAt (s : Kv) (a n : Nat) : List Byte := (List.range n).map (fun i => s.rdByte (a + i))

/-- Write bytes from `a`, 8 bytes at a time, through the force table. (DEDUCED: log entry 75.) -/
def Kv.forcedBytes : Nat → Nat → List Byte → Kv → Kv
  | 0, _, _, s => s
  | k + 1, a, l, s =>
    if l.isEmpty then s
    else
      let n := min l.length (8 - a % 8)
      Kv.forcedBytes k (a + n) (l.drop n) (s.forcedStore a (ofLe (l.take n)) n)

/-! ### Roles -/

/-- The ledger and the castle link are in service (R386, R397). -/
def Kv.ldgOn (s : Kv) : Bool := s.on Kv.LDG_CTRL.EN && s.on Kv.CL_STAT.UP

/-- The chip is ledger source: duty, with the ledger and the castle link in service; else it is the sink. -/
def Kv.ldgSource (s : Kv) : Bool := s.duty && s.ldgOn
def Kv.ldgSink (s : Kv) : Bool := !s.duty && s.ldgOn

/-- The chip was the duty of epoch `n`: a planned castling at CTICK changes the roles from epoch CTICK on (R395). -/
def Kv.epochDuty (s : Kv) (n : Nat) : Bool :=
  match s.cas.since with
  | some t => s.duty != tickAhead n t
  | none => s.duty

/-- The chip is source, or sink, of epoch `n`. -/
def Kv.epochSource (s : Kv) (n : Nat) : Bool := s.epochDuty n && s.ldgOn
def Kv.epochSink (s : Kv) (n : Nat) : Bool := !s.epochDuty n && s.ldgOn

/-! ### What the link carries in a tick (R388)

Times are counted in 1/80 ns: 0.1 ns is 8 units, 1/16 ns is 5 units. -/

/-- Delay of the castle link: as measured, or 200 ns while the link is down. (DEDUCED: log entry 125.) -/
def Kv.qc80 (s : Kv) : Int := if s.on Kv.CL_STAT.UP then (5 * s.tim.qc : Nat) else 16000

/-- W_P of the image, and the tick. -/
def Kv.wp80 (s : Kv) : Int := match s.dsp.img with | some i => (80 * i.wp : Nat) | none => 0
def Kv.tick80 (s : Kv) : Int := (800 * s.rd Kv.TIM_TICKLEN.LEN : Nat)

/-- The time that an epoch has on the link. -/
def Kv.ledgerTime80 (s : Kv) : Int := s.tick80 - s.wp80 - s.qc80 - 80000

/-- The bytes of an epoch: BUDGET, or less where the active lanes cannot carry it in that time at 77.5 Gb/s for eight of them. (DEDUCED: log entry 204.) -/
def Kv.epochRoom (s : Kv) : Nat :=
  min (1024 * s.rd Kv.LDG_CTRL.BUDGET) (s.ledgerTime80.toNat * (775 * s.stripe.length) / 52800)

/-! ### Block state (R387) -/

/-- Entry at a register of the chip. -/
def regEntry (f : Fld) (i n v : Nat) : Entry := { addr := sysRegs + f.addr i 0, bytes := leBytes n v }

/-- The 16 bytes an epoch carries for an engine beside live states: active bank, injection state, output selection, K, and the
injection's phase, register and step count. (DESIGN CHOICE: log entry 76.) -/
def Kv.sfeWord (s : Kv) (e : Nat) : Nat :=
  let u := s.sfeE e
  s.rd Kv.SFEn_BANK.ACT e + 2 ^ 4 * s.rd Kv.SFEn_ISTAT.STATE e + 2 ^ 8 * s.rd Kv.SFEn_OSEL.SEL e +
  2 ^ 24 * s.rd Kv.SFEn_ISTAT.K e + 2 ^ 48 * (u.phi % 2 ^ 48) + 2 ^ 96 * (u.lfsr % 2 ^ 16) + 2 ^ 112 * (u.hold % 2 ^ 16)

/-- Block state of an epoch. (DESIGN CHOICE: log entry 76.) -/
def Kv.blockEntries (s : Kv) : List Entry :=
  s.usedArms.flatMap (fun k =>
    [regEntry Kv.ALk_RESID.E k 4 (s.rd Kv.ALk_RESID.E k), regEntry Kv.ALk_STAT.XCNT k 4 (s.rd Kv.ALk_STAT.XCNT k)]) ++
  (s.strings.filter (fun n => bit s.cas.unend n)).flatMap (fun n => (s.positions n).map (fun p =>
    { addr := recAddr (n * 256 + p) + 0x48, bytes := s.bytesAt (recAddr (n * 256 + p) + 0x48) 12 })) ++
  (List.range 4).flatMap (fun e => (List.range 16).flatMap (fun j =>
    let d := s.desc e (s.rd Kv.SFEn_BANK.ACT e) j
    if s.on Kv.SFEn_CTRL.EN e && d.en then
      [{ addr := sfeLiveAt e j 0, bytes := s.bytesAt (sfeLiveAt e j 0) (4 * min 32 d.ns) }, regEntry Kv.SFEn_BANK.ACT e 16 (s.sfeWord e)]
    else []))

/-- Bytes of a list of entries. -/
def entryBytes (l : List Entry) : Nat := l.foldl (fun n e => n + e.bytes.length) 0

/-- Split ranges at the budget, in bytes: those that fit, and the rest. (DESIGN CHOICE: log entry 77.) -/
def fitRanges : Nat → List Range → List Range × List Range
  | _, [] => ([], [])
  | room, r :: rest =>
    if r.len ≤ room then
      let x := fitRanges (room - r.len) rest
      (r :: x.1, x.2)
    else ([], r :: rest)

/-- Every range of a resync: each variable of the variable table, and the PRG bytes of every cell record (R391). (DESIGN CHOICE: log entry 77.) -/
def Kv.resyncRanges (s : Kv) : List Range :=
  s.dsp.vars.map (fun v => { addr := v.addr, len := v.size }) ++
  s.strings.flatMap (fun n => (s.positions n).map (fun p => { addr := recAddr (n * 256 + p) + 0xD0, len := 48 }))

/-- A resync starts (R391, R402): everything counts as marked where the chip is source, the sweep round is abandoned, and SYNC clears. -/
def Kv.startResync (s : Kv) : Kv :=
  let s := (s.wr Kv.LDG_STAT.SYNC 0).mark Kv.LDG_STAT.RSY
  { s with cas := { s.cas with resync := s.resyncRanges, rsyEpoch := 0, sweep := 0, sweepRound := false } }

/-- Resync complete on the source: every range sent, and a full sweep round finished (R391). -/
def Kv.resyncDone (s : Kv) : Kv :=
  s.when (s.on Kv.LDG_STAT.RSY && s.cas.resync.isEmpty && s.cas.rsyEpoch != 0 && s.cas.sweepRound) (fun s =>
    (s.wr Kv.LDG_STAT.RSY 0).mark Kv.LDG_STAT.SYNC)

/-! ### Ledger staging and its check value (R462, R479) -/

/-- Ledger staging in the cell arena (R462). -/
abbrev sysStaging : Nat := sysArena + 0x400000

/-- Bytes as 64-bit words, least significant byte first, the last filled up with 0. -/
def wordsOf : Nat → List Byte → List Nat
  | 0, _ => []
  | k + 1, l => if l.isEmpty then [] else ofLe (l.take 8) :: wordsOf k (l.drop 8)

/-- Where an entry belongs, as a number below 2^48: a system address, or bit 47 with VID, size and offset. (DESIGN CHOICE: log entry 164.) -/
def Entry.key (e : Entry) : Nat :=
  match e.var with
  | some (vid, size) => 2 ^ 47 + vid % 2 ^ 16 * 2 ^ 28 + size % 2 ^ 14 * 2 ^ 14 + e.addr % 2 ^ 14
  | none => e.addr

/-- An entry as it lies in ledger staging: place, length, bytes. (DESIGN CHOICE: log entry 80.) -/
def Entry.words (e : Entry) : List Nat := e.key :: e.bytes.length :: wordsOf e.bytes.length e.bytes

/-- Write 64-bit words from an address on. -/
def Kv.storeWords (s : Kv) (a : Nat) (l : List Nat) : Kv := (l.foldl (fun (p : Kv × Nat) w => (p.1.store p.2 w 8, p.2 + 8)) (s, a)).1

/-- CRC3 forms the check value of epoch `n` over its entries in ledger staging: SPACE 1, FOLDA 0, SEED 1, SEQ the epoch's low 16 bits (R479). (DESIGN CHOICE: log entry 80.) -/
def Kv.stageEpoch (s : Kv) (n : Nat) (es : List Entry) : Kv :=
  let l := es.flatMap Entry.words
  let s := s.storeWords sysStaging l
  let s := (((s.mark Kv.CRCn_CTRL.SPACE 3).wr Kv.CRCn_CTRL.FOLDA 0 3).wr Kv.CRCn_CTRL.CMP 0 3).mark Kv.CRCn_CTRL.SEED 3
  let s := (s.wr Kv.CRCn_SEQ.SEQ (n % 65536) 3).wr Kv.CRCn_START.START ((sysStaging - sysRegs) / 8) 3
  let s := (s.wr Kv.CRCn_LEN.LEN l.length 3).crcStart 3
  (Kv.crcAdvance 3 l.length s).crcFinish 3

/-- The first uncorrectable word of `len` bytes from `a`. -/
def Kv.firstBad (s : Kv) (a len : Nat) : Option Nat := ((List.range len).map (· + a)).find? s.bad

/-! ### The source -/

/-- The declared variable that holds the byte at `a`. -/
def varAt (vars : List Var) (a : Nat) : Option Var := vars.find? (fun v => decide (v.addr ≤ a ∧ a < v.addr + v.size))

/-- The entries of the `len` bytes from `a`, cut where a declared variable begins or ends, and at the 62 words that a message has room for
(R335, R379). (DESIGN CHOICE: log entry 164.) -/
def Kv.rangeEntries (s : Kv) : Nat → Nat → Nat → List Entry
  | 0, _, _ => []
  | k + 1, a, len =>
    if len = 0 then []
    else
      let n := min len 496
      match varAt s.dsp.vars a with
      | some v =>
        let n := min n (v.addr + v.size - a)
        ⟨a - v.addr, s.bytesAt a n, some (v.vid, v.size)⟩ :: s.rangeEntries k (a + n) (len - n)
      | none =>
        let n := s.dsp.vars.foldl (fun n v => if a < v.addr then min n (v.addr - a) else n) n
        ⟨a, s.bytesAt a n, none⟩ :: s.rangeEntries k (a + n) (len - n)

/-- Data blocks of an entry in a LEDGER message. -/
def Entry.blocks (e : Entry) : Nat := 1 + (e.bytes.length + 7) / 8

/-- The entries of an epoch in groups, each with the epoch in at most 64 data blocks (R379). -/
def ledgerGroups (es : List Entry) : List (List Entry) :=
  let r := es.foldl (fun (r : List (List Entry) × List Entry × Nat) e =>
    if r.2.2 + e.blocks ≤ 64 then (r.1, r.2.1 ++ [e], r.2.2 + e.blocks) else (r.1 ++ [r.2.1], [e], 1 + e.blocks)) ([], [], 1)
  (r.1 ++ [r.2.1]).filter (fun g => !g.isEmpty)

/-- An epoch goes out: LEDGER messages, and behind the last of them EPOCHEND with the check value that CRC3 forms over the entries (R378, R379,
R479). -/
def Kv.sendEpoch (s : Kv) (n : Nat) (es : List Entry) : Kv :=
  let s := (ledgerGroups es).foldl (fun s g =>
    s.castleSend 0x08 (n :: g.flatMap (fun e => e.key :: e.bytes.length :: e.bytes.map BitVec.toNat))) s
  let s := s.stageEpoch n es
  s.castleSend 0x09 [n, es.length, entryBytes es, s.crcRes 3]

/-- The source captures epoch `n` at the end of its T0 of tick `n` (R386 to R388): block state first, then the ranges marked by items
that have ended, then those of a resync, as far as there is room; ranges left over stay marked. A range with an uncorrectable word is
abandoned and reported (R468). (DESIGN CHOICE: log entry 77.) -/
def Kv.captureEpoch (s : Kv) (n : Nat) : Kv :=
  if !s.epochSource n then s
  else
    let block := s.blockEntries
    let cap := s.epochRoom
    let due := s.cas.marks.filter (fun r => r.ended && !tickAhead n r.tick)
    let later := s.cas.marks.filter (fun r => !(r.ended && !tickAhead n r.tick))
    let a := fitRanges (cap - entryBytes block) due
    let used := entryBytes block + a.1.foldl (fun n r => n + r.len) 0
    let b := if a.2.isEmpty then fitRanges (cap - used) s.cas.resync else ([], s.cas.resync)
    let lost := block.filterMap (fun e => s.firstBad e.addr e.bytes.length) ++ (a.1 ++ b.1).filterMap (fun r => s.firstBad r.addr r.len)
    let es := block.filter (fun e => (s.firstBad e.addr e.bytes.length).isNone) ++
      ((a.1 ++ b.1).filter (fun r => (s.firstBad r.addr r.len).isNone)).flatMap (fun r => s.rangeEntries r.len r.addr r.len)
    let left := a.2.foldl (fun n r => n + r.len) 0 + b.2.foldl (fun n r => n + r.len) 0
    let carried := !a.2.isEmpty || !b.2.isEmpty
    let lmax := s.rd Kv.LDG_CTRL.LAGMAX
    let was := s.rd Kv.LDG_STAT.LAG
    let lag := if carried then min lmax (was + 1) else 0
    let s := (s.wr Kv.LDG_STAT.LAG lag).wr Kv.LDG_STAT.EPOCH n
    let s := (s.wr Kv.LDG_BYTES.SENT ((entryBytes es + 15) / 16)).wr Kv.LDG_BYTES.CARRY ((left + 15) / 16)
    let s := s.when carried (fun s => s.count Kv.LDG_CNT.OVF Kv.LDG_CNT.SAT)
    let s := s.when (was < lmax && lag == lmax) (fun s => s.raise Src.LDG_LAG 0 0)
    let rsy := if s.on Kv.LDG_STAT.RSY && b.2.isEmpty && s.cas.rsyEpoch == 0 then n + 1 else s.cas.rsyEpoch
    let s := { s with cas := { s.cas with
      marks := a.2 ++ later, resync := b.2, unend := 0, rsyEpoch := rsy, sent := ((n, a.1 ++ b.1) :: s.cas.sent).take 8
      lagm := max s.cas.lagm lag } }
    let s := s.each lost (fun s a => (s.logUnc a).raiseUnc a 0)
    (s.sendEpoch n es).resyncDone

/-- The items of a task at a tick have ended: their marks count for the next capture (R386). (DEDUCED: log entry 78.) -/
def Kv.endMarks (s : Kv) (task tick : Nat) : Kv :=
  { s with cas := { s.cas with marks := s.cas.marks.map (fun r =>
      if r.task = task ∧ r.tick = tick then { r with ended := true } else r) } }

/-- The ranges of an epoch that the standby missed are marked again (R389). -/
def Kv.remark (s : Kv) (n : Nat) : Kv :=
  match s.cas.sent.find? (fun e => e.1 == n) with
  | some e => { s with cas := { s.cas with marks := s.cas.marks ++ e.2, sent := s.cas.sent.filter (fun x => x.1 != n) } }
  | none => s

/-! ### The sink -/

/-- The believed state that LCMD of a record gives: ST2 after ACTIVE, as it was after HOLDLAST and SENSOR, OFF after any other command
(R228, R244). -/
def Kv.mirrorBelief (s : Kv) (a : Nat) : Kv :=
  let w := s.rdBe (recAddr a + 0x48) 8
  match bits w 52 4 with
  | 1 => { s with al := { s.al with belief := Tab.set 0 a (bits w 27 3) s.al.belief } }
  | 2 | 5 => s
  | _ => { s with al := { s.al with belief := Tab.set 0 a stOff s.al.belief } }

/-- The other chip runs another image, as its last STATE shows. (DEDUCED: log entry 202.) -/
def Kv.imagesDiffer (s : Kv) : Bool :=
  match s.cas.other, s.dsp.img with
  | some o, some i => o.imgId != i.ident || o.imgVer != i.version
  | _, _ => false

/-- The address at which this chip declares the variable of a VID with a size (R335). -/
def Kv.varAddr (s : Kv) (vid size : Nat) : Option Nat := (s.dsp.vars.find? (fun v => v.vid == vid && v.size == size)).map Var.addr

/-- Apply one entry: bytes of a variable where this chip declares it, with the same size; else block state to its registers, LCMD with the belief
it gives, anything else to memory. Memory is written through the force table. Between two images only variables are carried (R335, R355, R358,
R386). (DEDUCED: log entries 75, 202; DESIGN CHOICE: log entry 76.) -/
def Kv.applyEntry (s : Kv) (e : Entry) : Kv :=
  let v := ofLe e.bytes
  match e.var with
  | some (vid, size) =>
    match s.varAddr vid size with
    | some a => if e.addr + e.bytes.length ≤ size then Kv.forcedBytes (e.bytes.length + 1) (a + e.addr) e.bytes s else s
    | none => s
  | none =>
  if s.imagesDiffer then s
  else if inRegs e.addr then
    let o := e.addr - sysRegs
    match Kv.ALk_RESID.E.at? o, Kv.ALk_STAT.XCNT.at? o, Kv.SFEn_BANK.ACT.at? o with
    | some (k, _), _, _ => s.wr Kv.ALk_RESID.E v k
    | _, some (k, _), _ => s.wr Kv.ALk_STAT.XCNT v k
    | _, _, some (n, _) =>
      let s := (s.wr Kv.SFEn_BANK.ACT v n).wr Kv.SFEn_ISTAT.STATE (bits v 4 2) n
      let s := (s.wr Kv.SFEn_OSEL.SEL (bits v 8 16) n).wr Kv.SFEn_ISTAT.K (bits v 24 24) n
      s.onSfe n (fun u => { u with phi := bits v 48 48, lfsr := bits v 96 16, hold := bits v 112 16 })
    | _, _, _ => s
  else
    let s := Kv.forcedBytes (e.bytes.length + 1) e.addr e.bytes s
    let o := e.addr - sysArena
    s.when (decide (sysArena ≤ e.addr ∧ o < 0x200000 ∧ o % 256 = 0x48 ∧ 8 ≤ e.bytes.length)) (fun s => s.mirrorBelief (o / 256))

/-- An epoch may be applied: its end has come, and the chip's own T0 of that tick has ended or will not run (R386). -/
def Kv.epochReady (s : Kv) (e : EpochIn) : Bool :=
  e.ended && (match s.dsp.t0Run with | some m => tickAhead e.n m | none => true) && (tickDone s.dsp.t0End e.n || tickDone s.dsp.t0Judged e.n)

/-- Apply the epochs that may be, whole and in their order. -/
def Kv.applyEpochs : List EpochIn → Kv → Kv
  | [], s => s
  | e :: rest, s =>
    if s.epochReady e then
      let s := (e.entries.foldl Kv.applyEntry s).wr Kv.LDG_STAT.EPOCH e.n
      Kv.applyEpochs rest { s with cas := { s.cas with epochs := rest, epochDone := tickMark s.cas.epochDone e.n } }
    else s
def Kv.applyEpoch (s : Kv) : Kv := Kv.applyEpochs s.cas.epochs s

/-- Entries of epoch `n` received so far; they with more of them; the end of epoch `n`. -/
def CasSt.entriesOf (c : CasSt) (n : Nat) : List Entry := match c.epochs.find? (fun e => e.n == n) with | some e => e.entries | none => []
def CasSt.gather (c : CasSt) (n : Nat) (l : List Entry) (ended : Bool) : CasSt :=
  if c.epochs.any (fun e => e.n == n) then
    { c with epochs := c.epochs.map (fun e => if e.n = n then { e with entries := e.entries ++ l, ended := ended } else e) }
  else { c with epochs := c.epochs ++ [⟨n, l, ended⟩] }

/-- The sink misses epoch `n`: it is discarded and named in the next STATE (R389). -/
def Kv.missEpoch (s : Kv) (n : Nat) : Kv :=
  let s := (s.count Kv.LDG_CNT.MISS Kv.LDG_CNT.SAT).raise Src.LDG_MISS 0 n
  { s with cas := { s.cas with
      epochs := s.cas.epochs.filter (fun e => e.n != n)
      epochDone := tickMark s.cas.epochDone n, missed := some n, missRun := 0, missN := s.cas.missN + 1 } }

/-- T0 of tick `n` waits for epoch `n - 1` on its sink (R386). -/
def Kv.ldgHolds (s : Kv) (n : Nat) : Bool := s.epochSink (tickPrev n) && !tickDone s.cas.epochDone (tickPrev n)

end Sys2Proof.Machine
end

