-- ==== Sys2Proof/Machine/Dispatcher.lean ====
section
/-! DEFINITION. The dispatcher (R315 to R354): counters, releases, stalls, contexts, preemption, the end of items, overruns. -/

namespace Sys2Proof.Machine

/-! ### Cores and contexts -/

/-- Core `n`. -/
def Kv.core (s : Kv) (n : Nat) : CoreSt := Tab.get {} n s.dsp.cores

/-- Update core `n`. -/
def Kv.onCore (s : Kv) (n : Nat) (f : CoreSt → CoreSt) : Kv := { s with dsp := { s.dsp with cores := Tab.upd {} n f s.dsp.cores } }

/-- Context `c` of a core, its item, and updates of both. -/
def CoreSt.ctx (k : CoreSt) (c : Nat) : Ctx := if c = 0 then k.c0 else k.c1
def CoreSt.item (k : CoreSt) (c : Nat) : Option Item := if c = 0 then k.item0 else k.item1
def CoreSt.setCtx (k : CoreSt) (c : Nat) (x : Ctx) : CoreSt := if c = 0 then { k with c0 := x } else { k with c1 := x }
def CoreSt.setItem (k : CoreSt) (c : Nat) (i : Option Item) : CoreSt := if c = 0 then { k with item0 := i } else { k with item1 := i }

/-- The context core `n` runs; a context out of service (R344). -/
def Kv.ctxOf (s : Kv) (n : Nat) : Nat := s.rd Kv.Cn_STAT.CTX n
def Kv.ctxOff (s : Kv) (n c : Nat) : Bool := if c = 0 then s.on Kv.Cn_STAT.OFF0 n else s.on Kv.Cn_STAT.OFF1 n

/-- Core `n` is halted (R556). -/
def Kv.coreHalted (s : Kv) (n : Nat) : Bool := bit (s.rd Kv.DBG_STAT.HALTED) n

/-- The core takes new items: in dispatcher service, not halted, with a context in service. -/
def Kv.coreServes (s : Kv) (n : Nat) : Bool :=
  s.on Kv.Cn_CTRL.EN n && !s.coreHalted n && !(s.ctxOff n 0 && s.ctxOff n 1)

/-- The core has no item in either context. -/
def Kv.coreEmpty (s : Kv) (n : Nat) : Bool := (s.core n).item0.isNone && (s.core n).item1.isNone

/-- The core is idle: it has no item, and what it runs from its reset on has ended (R319, R325). (DEDUCED: log entry 100.) -/
def Kv.coreIdle (s : Kv) (n : Nat) : Bool := s.coreEmpty n && !(s.core n).c0.boot && !(s.core n).c1.boot

/-- Every item placed in a stall or a context: in service (R340). -/
def Kv.inService (s : Kv) : List Item :=
  (List.range 16).flatMap (fun n => let k := s.core n; k.item0.toList ++ k.item1.toList ++ k.stall.toList)

/-- The item of `task` is in service; a continuation that waits counts as the same item. -/
def Kv.serving (s : Kv) (task : Nat) : Bool :=
  s.inService.any (fun i => i.task == task) || s.dsp.ready.any (fun i => i.task == task && i.cont)

/-! ### Task settings: T0 is task 0, Pk task k, Ek task 64 + k (R291) -/

/-- Cores the task may run on. -/
def Kv.taskMask (s : Kv) (t : Nat) : Nat :=
  if t = 0 then s.rd Kv.DSP_T0CFG.CMASK else if t < 64 then s.rd Kv.DSP_PMSKk.CMASK t else s.rd Kv.DSP_ECFGk.CMASK (t - 64)

/-- Fields of DSP_PCFGk and DSP_ECFGk. T0 has none of them. -/
def Kv.taskPrio (s : Kv) (t : Nat) : Nat :=
  if t = 0 then 0 else if t < 64 then s.rd Kv.DSP_PCFGk.PRIO t else s.rd Kv.DSP_ECFGk.PRIO (t - 64)
def Kv.taskOn (s : Kv) (t : Nat) : Bool :=
  if t = 0 then true else if t < 64 then s.on Kv.DSP_PCFGk.EN t else s.on Kv.DSP_ECFGk.EN (t - 64)
def Kv.taskHold (s : Kv) (t : Nat) : Bool :=
  if t = 0 then true else if t < 64 then s.on Kv.DSP_PCFGk.HOLDRUN t else s.on Kv.DSP_ECFGk.HOLDRUN (t - 64)
def Kv.taskPreempts (s : Kv) (t : Nat) : Bool :=
  if t = 0 then true else if t < 64 then s.on Kv.DSP_PCFGk.PREEMPT t else s.on Kv.DSP_ECFGk.PREEMPT (t - 64)
def Kv.taskFlow (s : Kv) (t : Nat) : Option Nat :=
  if t = 0 then none
  else if t < 64 then (if s.on Kv.DSP_PCFGk.FL t then some (s.rd Kv.DSP_PCFGk.FLOW t) else none)
  else (if s.on Kv.DSP_ECFGk.FL (t - 64) then some (s.rd Kv.DSP_ECFGk.FLOW (t - 64)) else none)

/-- The mode in force releases the task (R336). -/
def Kv.modeReleases (s : Kv) (t : Nat) : Bool := s.taskOn t && (s.mode == 1 || (s.mode == 2 && s.taskHold t))

/-- The report bank bound to a P or E item at release: the newest tick whose report-arrival point has passed (R338). Before the first
such tick the spec names none. (DESIGN CHOICE: log entry 30.) -/
def Kv.bankBound (s : Kv) : Bool :=
  if s.col.closed = 0 then (Config.unstated s.free).testBit 0 else (s.col.closed - 1) % 2 == 1

/-- Count a saturation, skip or loss in the status register of a task. -/
def Kv.taskCount (s : Kv) (t : Nat) (q : Bool) : Kv :=
  if t = 0 then s.count Kv.DSP_T0STAT.QCNT Kv.DSP_T0STAT.SAT
  else if t < 64 then s.count (if q then Kv.DSP_PSTATk.QCNT else Kv.DSP_PSTATk.SKIP) Kv.DSP_PSTATk.SAT Src.SYS_SAT t
  else s.count (if q then Kv.DSP_ESTATk.QCNT else Kv.DSP_ESTATk.LOST) Kv.DSP_ESTATk.SAT Src.SYS_SAT (t - 64)

/-- QCNT of a task. -/
def Kv.taskQcnt (s : Kv) (t : Nat) : Nat :=
  if t = 0 then s.rd Kv.DSP_T0STAT.QCNT else if t < 64 then s.rd Kv.DSP_PSTATk.QCNT t else s.rd Kv.DSP_ESTATk.QCNT (t - 64)

/-! ### Releases -/

/-- Make ready one item of a task for tick `n`. The spec gives a release no argument, so CR_ARG is a free value. (DESIGN CHOICE: log entry 30.) -/
def Kv.makeReady (s : Kv) (t n : Nat) (bank : Bool) : Kv :=
  let i : Item :=
    { task := t, tick := n, arg := BitVec.ofNat 32 (Config.unstated s.free), entry := BitVec.ofNat 16 (Tab.get 0 t s.dsp.entries)
      prio := s.taskPrio t, flow := s.taskFlow t, bank := bank, cont := false, order := s.dsp.orders }
  { s with free := s.free + 1, dsp := { s.dsp with ready := s.dsp.ready ++ [i], orders := s.dsp.orders + 1 } }

/-- A release of Pk or Ek for tick `n`: a P release that finds one ready or in service is skipped, an E release that finds one
pending is lost (R340). -/
def Kv.releaseTask (s : Kv) (t n : Nat) : Kv :=
  if t = 0 ∨ 96 ≤ t ∨ !s.modeReleases t then s
  else
    let pending := s.dsp.ready.any (fun i => i.task == t && !i.cont)
    if t < 64 then
      if pending || s.serving t then (s.taskCount t false).raise Src.DSP_POVR 0 t else s.makeReady t n s.bankBound
    else if pending then (s.taskCount t false).raise Src.DSP_ELOST 0 t
    else s.makeReady t n s.bankBound

/-- Release the first T0 that is due and held back by nothing: the T0 before it has ended (R338), the held reports of its tick are
written (R349), and on the standby the epoch before is applied or missed (R386). -/
def Kv.t0Try (s : Kv) : Kv :=
  match s.dsp.t0Due with
  | [] => s
  | n :: rest =>
    if s.mode = 0 ∨ tickDone s.dsp.t0Rel n = true then { s with dsp := { s.dsp with t0Due := rest } }
    else if s.dsp.t0Run.isSome ∨ (s.col.held.any (fun h => h.tick == n)) = true ∨ s.ldgHolds n = true then s
    else (({ s with dsp := { s.dsp with t0Due := rest, t0Run := some n, t0Rel := tickMark s.dsp.t0Rel n } } : Kv).makeReady 0 n (n % 2 == 1))

/-- T0 of tick `n` is due. -/
def Kv.t0Make (s : Kv) (n : Nat) : Kv :=
  if tickDone s.dsp.t0Rel n = true ∨ s.dsp.t0Due.contains n = true ∨ s.mode = 0 then s
  else ({ s with dsp := { s.dsp with t0Due := s.dsp.t0Due ++ [n] } } : Kv).t0Try

/-- T0_RELEASE: at the report-arrival point with CEN = 0, or a release that had to wait (R338). -/
def t0ReleaseKv (n : Nat) (s : Kv) : Kv :=
  if !s.on Kv.DSP_T0CFG.CEN && s.closedFor n then s.t0Make n else s.t0Try

/-! ### Dependence counters (R346 to R348) -/

/-- Counter `j` completes a count for tick `n`; after the latest point of that tick it releases no T0 (R348). (DEDUCED: log entry 101.) -/
def Kv.cntComplete (s : Kv) (j n : Nat) : Kv :=
  let s := s.wr Kv.DSP_CNTj.VAL (s.rd Kv.DSP_CNTj.INIT j) j
  let s := { s with dsp := { s.dsp with
    cntTick := Tab.set 0 j 0 s.dsp.cntTick, cntRel := Tab.set 0 (j * 8 + n % 8) (n + 1) s.dsp.cntRel } }
  let s := s.releaseTask (s.rd Kv.DSP_CNTj.TGT j) n
  if s.on Kv.DSP_T0CFG.CEN && s.rd Kv.DSP_T0CFG.CNT == j && !tickDone s.dsp.t0Judged n then s.t0Make n else s

/-- One decrement of counter `j` carrying tick `n`; a counter that is not declared counts nothing. VAL 0 stands for a counter not
yet loaded, which holds INIT. (DEDUCED: log entry 101.) -/
def Kv.cntDec (s : Kv) (j n : Nat) : Kv :=
  if !s.on Kv.DSP_CNTj.EN j then s
  else
    let init := s.rd Kv.DSP_CNTj.INIT j
    let at_ := Tab.get 0 j s.dsp.cntTick
    let mis := at_ != 0 && at_ != n + 1
    let s := s.when mis (fun s => (s.mark Kv.DSP_CNTj.MIS j).raise Src.DSP_CNT 0 j)
    let cur := if s.rd Kv.DSP_CNTj.VAL j = 0 ∨ mis = true then init else s.rd Kv.DSP_CNTj.VAL j
    let s := s.wr Kv.DSP_CNTj.VAL (cur - 1) j
    let s := { s with dsp := { s.dsp with cntTick := Tab.set 0 j (n + 1) s.dsp.cntTick } }
    if cur ≤ 1 then s.cntComplete j n else s

/-- Counter `j` has released the loops of tick `n` (R265). -/
def Kv.cntReleased (s : Kv) (j n : Nat) : Bool := Tab.get 0 (j * 8 + n % 8) s.dsp.cntRel == n + 1

/-- The partial counts for tick `n` are discarded (R348). -/
def Kv.cntDiscard (s : Kv) (n : Nat) : Kv :=
  s.each ((s.dsp.cntTick.filter (fun e => e.2 == n + 1)).map Prod.fst) (fun s j =>
    { (s.wr Kv.DSP_CNTj.VAL (s.rd Kv.DSP_CNTj.INIT j) j) with
      dsp := { s.dsp with cntTick := Tab.set 0 j 0 s.dsp.cntTick } })

/-! ### Order, eligibility, placing (R341, R342, R345) -/

/-- Item `a` comes before item `b` (R341); a continuation follows every ready item of equal PRIO, continuations in the order in which
they became ready (R320). (DEDUCED: log entry 102.) -/
def Item.before (a b : Item) : Bool :=
  if (a.task == 0) != (b.task == 0) then a.task == 0
  else if a.prio ≠ b.prio then decide (b.prio < a.prio)
  else if a.cont ≠ b.cont then b.cont
  else if a.cont then decide (a.order < b.order)
  else if a.tick ≠ b.tick then tickAhead a.tick b.tick
  else if a.task ≠ b.task then decide (a.task < b.task)
  else decide (a.order < b.order)

/-- An item holds its flow (a continuation), or may take it: the flow is free, and no item of the flow released earlier waits. -/
def Kv.flowFree (s : Kv) (i : Item) : Bool :=
  match i.flow with
  | none => true
  | some f => i.held || (Tab.get 0 f s.dsp.flows == 0 &&
      s.dsp.ready.all (fun j => j.flow != i.flow || decide (i.order ≤ j.order)))

/-- An item may be placed: its flow is free and no other item of its task is in service (R340, R345). (DEDUCED: log entry 102.) -/
def Kv.eligible (s : Kv) (i : Item) : Bool :=
  s.flowFree i && !s.inService.any (fun j => j.task == i.task) &&
  (i.cont || !s.dsp.ready.any (fun j => j.task == i.task && j.cont))

/-- Insert into the order of R341. -/
def Item.insert (i : Item) : List Item → List Item
  | [] => [i]
  | j :: rest => if i.before j then i :: j :: rest else j :: i.insert rest

/-- The eligible items, best first. -/
def Kv.queue (s : Kv) : List Item := (s.dsp.ready.filter s.eligible).foldr Item.insert []

/-- The item leaves the ready list and takes its flow. -/
def Kv.takeReady (s : Kv) (i : Item) : Kv :=
  let flows := match i.flow with | some f => Tab.set 0 f (i.task + 1) s.dsp.flows | none => s.dsp.flows
  { s with dsp := { s.dsp with ready := s.dsp.ready.filter (fun j => j.order != i.order), flows := flows } }

/-- A stall item that has not started goes back: it becomes ready again and gives back the flow that it took in the stall; one that it has kept
through YIELD stays held (R342, R345). -/
def Kv.withdraw (s : Kv) (n : Nat) : Kv :=
  match (s.core n).stall with
  | none => s
  | some i =>
    let flows := match i.flow with | some f => (if i.held then s.dsp.flows else Tab.set 0 f 0 s.dsp.flows) | none => s.dsp.flows
    let s := s.onCore n (fun k => { k with stall := none })
    { s with dsp := { s.dsp with ready := s.dsp.ready ++ [i], flows := flows } }

/-- CR_ITEM of an item (R291). PRIO of T0, and FLOW of an item without a flow, are free values. (DESIGN CHOICE: log entry 30.) -/
def Kv.itemWord (s : Kv) (i : Item) : Word :=
  let fr := Config.unstated s.free
  let prio := if i.task = 0 then fr % 16 else i.prio
  let flow := match i.flow with | some f => 2 ^ 22 + f * 2 ^ 16 + 1 | none => fr / 16 % 64 * 2 ^ 16
  BitVec.ofNat 32 (i.task * 2 ^ 24 + b2n i.bank * 2 ^ 23 + flow + prio * 2 ^ 12)

/-- Item start (R316). -/
def Kv.startItem (s : Kv) (n c : Nat) (i : Item) : Kv :=
  let w := s.itemWord i
  let s := s.onCore n (fun k =>
    let x := k.ctx c
    (k.setItem c (some i)).setCtx c
      { x with
        g := Tab.set 0 2 (BitVec.ofNat 32 i.tick) (Tab.set 0 1 i.arg []), acc := [], z := false, n := false, c := false
        v := false, q := false, priv := false, tl := false, pc := i.entry, item := w, arg := i.arg
        tick := BitVec.ofNat 48 i.tick, busy := true, boot := false, wait := none })
  { s with free := s.free + 1 }

/-- Core `n` runs context `c`. -/
def Kv.runCtx (s : Kv) (n c : Nat) : Kv := (s.wr Kv.Cn_STAT.CTX c n).onCore n (fun k => { k with swReq := false })

/-- What a core without an item in its running context does next: the suspended item resumes unless the stall holds an item ordered
above it, else the stall item starts (R319, R343). -/
def Kv.nextItem (s : Kv) (n : Nat) : Kv :=
  let c := s.ctxOf n
  let k := s.core n
  if (k.item c).isSome then s
  else
    let here := if s.ctxOff n c then 1 - c else c
    let start := fun (i : Item) =>
      ((s.onCore n (fun k => { k with stall := none })).runCtx n here).startItem n here i
    match k.item (1 - c), k.stall with
    | some r, some i => if i.before r && !s.ctxOff n c && !k.swReq then start i else s.runCtx n (1 - c)
    | some _, none => s.runCtx n (1 - c)
    | none, some i => if s.ctxOff n here then s else start i
    | none, none => s

/-- STALL_FILL: the first eligible item, in order, for which a core of its mask has an empty stall (an idle core first, then the
lowest number), or holds a worse stall item not yet started, is placed there; an idle core starts it (R342). -/
def stallFillKv (s : Kv) : Kv :=
  let cores := fun (i : Item) => (List.range 16).filter (fun n => bit (s.taskMask i.task) n && s.coreServes n)
  let idle := fun (i : Item) => (cores i).find? (fun n => s.coreIdle n && (s.core n).stall.isNone)
  let empty := fun (i : Item) => (cores i).find? (fun n => (s.core n).stall.isNone)
  let worse := fun (i : Item) => (cores i).find? (fun n => match (s.core n).stall with | some j => i.before j | none => false)
  match s.queue.find? (fun i => (empty i).isSome || (worse i).isSome) with
  | none => s
  | some i =>
    let n := ((idle i).or ((empty i).or (worse i))).getD 0
    let s := (s.withdraw n).takeReady i
    let s := s.onCore n (fun k => { k with stall := some i })
    if s.coreIdle n then s.nextItem n else s

/-- PREEMPTION: the best item that may preempt and finds no idle core with an empty stall takes the other context of a core of its
mask, of those that qualify the one that runs the lowest-ordered item (R343). -/
def preemptionKv (s : Kv) : Kv :=
  let cores := fun (i : Item) => (List.range 16).filter (fun n => bit (s.taskMask i.task) n && s.coreServes n)
  let fits := fun (i : Item) (n : Nat) =>
    let c := s.ctxOf n
    match (s.core n).item c with
    | some r => r.task != 0 && (i.task == 0 || decide (r.prio < i.prio)) && ((s.core n).item (1 - c)).isNone && !s.ctxOff n (1 - c)
    | none => false
  let can := fun (i : Item) =>
    s.taskPreempts i.task && (cores i).all (fun n => !(s.coreIdle n && (s.core n).stall.isNone)) && (cores i).any (fits i)
  match s.queue.find? can with
  | none => s
  | some i =>
    let worst := ((cores i).filter (fits i)).foldl (fun (b : Option Nat) n =>
      match b with
      | none => some n
      | some m =>
        match (s.core m).item (s.ctxOf m), (s.core n).item (s.ctxOf n) with
        | some x, some y => if x.before y then some n else some m
        | _, _ => some m) none
    match worst with
    | none => s
    | some n =>
      let s := (s.takeReady i).startItem n (1 - s.ctxOf n) i
      s.onCore n (fun k => { k with swReq := true })

/-- CONTEXT_SWITCH: a requested switch takes effect at an instruction boundary (R288). -/
def contextSwitchKv (n : Nat) (s : Kv) : Kv :=
  if (s.core n).swReq then s.runCtx n (1 - s.ctxOf n) else s

/-! ### The end of an item (R319, R344, R345, R351 to R354, R386) -/

/-- T0 of tick `n` ends. In time, it clears the run of overruns. -/
def Kv.t0Ends (s : Kv) (n : Nat) : Kv :=
  let s := s.when (!tickDone s.dsp.t0Judged n) (fun s => s.wr Kv.DSP_STAT.T0CONS 0)
  let s := { s with t0Ended := s.tick + 1, dsp := { s.dsp with t0Run := none, t0End := tickMark s.dsp.t0End n, pubsTaken := s.dsp.pubs } }
  (s.captureEpoch n).applyEpoch

/-- The flow of an item is released. -/
def Kv.freeFlow (s : Kv) (i : Item) : Kv :=
  match i.flow with
  | some f => if Tab.get 0 f s.dsp.flows = i.task + 1 then { s with dsp := { s.dsp with flows := Tab.set 0 f 0 s.dsp.flows } } else s
  | none => s

/-- One saturation of a task is counted at a TAKE with Q = 1 (R354). -/
def Kv.countQ (s : Kv) (t : Nat) : Kv :=
  let was := s.taskQcnt t
  let s := s.taskCount t true
  s.when (was == 0) (fun s => s.raise Src.DSP_QSAT 0 t)

/-- The item in context `c` of core `n` ends, as by TAKE; `flow`: it releases its flow. -/
def Kv.endItem (s : Kv) (n c : Nat) (flow : Bool) : Kv :=
  match (s.core n).item c with
  | none => s.onCore n (fun k => k.setCtx c { k.ctx c with boot := false })
  | some i =>
    let q := ((s.core n).ctx c).q
    let s := s.when q (fun s => s.countQ i.task)
    let s := s.when flow (fun s => s.freeFlow i)
    let s := s.onCore n (fun k => (k.setItem c none).setCtx c { k.ctx c with busy := false, wait := none })
    if flow then
      let s := s.endMarks i.task i.tick
      if i.task = 0 then s.t0Ends i.tick else s
    else s

/-- An item ends by TAKE: the core goes on, and a T0 that waited is released. -/
def Kv.takeItem (s : Kv) (n : Nat) : Kv := ((s.endItem n (s.ctxOf n) true).nextItem n).t0Try

/-- YIELD: the item ends and its continuation becomes ready, with its flow held (R320). (DESIGN CHOICE: log entry 96.) -/
def Kv.yieldItem (s : Kv) (n : Nat) (pc : BitVec 16) (arg : Word) : Kv :=
  let c := s.ctxOf n
  match (s.core n).item c with
  | none => s.takeItem n
  | some i =>
    let held := match i.flow with | some f => Tab.get 0 f s.dsp.flows == i.task + 1 | none => false
    let j := { i with entry := pc, arg := arg, cont := true, held := held, order := s.dsp.orders }
    let s := s.endItem n c false
    let s := { s with dsp := { s.dsp with ready := s.dsp.ready ++ [j], orders := s.dsp.orders + 1 } }
    s.nextItem n

/-- A context stopped by a double exception loses its item and goes out of service; no counter is decremented for it (R344). -/
def Kv.loseItem (s : Kv) (n c : Nat) : Kv :=
  let s := (s.endItem n c true).onCore n (fun k => k.setCtx c { k.ctx c with stopped := true, boot := false })
  let s := s.mark (if c = 0 then Kv.Cn_STAT.OFF0 else Kv.Cn_STAT.OFF1) n
  (s.nextItem n).t0Try

/-- T0CONS counts one more overrun; at 3 DSP_T0BLK is raised, once (R352). -/
def Kv.t0Overrun (s : Kv) (n : Nat) : Kv :=
  let s := { (s.count Kv.DSP_T0STAT.OVR Kv.DSP_T0STAT.SAT).raise Src.DSP_T0OVR 0 n with olcDirty := true }
  let was := s.rd Kv.DSP_STAT.T0CONS
  let s := s.wr Kv.DSP_STAT.T0CONS (min 3 (was + 1))
  s.when (was == 2) (fun s => s.raise Src.DSP_T0BLK 0 n)

/-- In STOP, every arm of the cell map gets a BLOCK record for the target of a tick whose T0 was not released (R336). -/
def Kv.blockRecords (s : Kv) (t : Nat) : Kv :=
  s.each s.usedArms (fun s k => s.putRef k t (fun i => if i = 0 then t else if i = 4 then 1 else 0))

/-- ARM_REFERENCE_DEADLINE: the latest point for arm references of tick `n` (R348, R351, R352). -/
def armReferenceDeadlineKv (n : Nat) (s : Kv) : Kv :=
  if tickDone s.dsp.t0Judged n then s
  else
    let s := s.cntDiscard n
    let s := { s with dsp := { s.dsp with t0Judged := tickMark s.dsp.t0Judged n } }
    if tickDone s.dsp.t0End n then s
    else if s.mode = 0 ∧ tickDone s.dsp.t0Rel n = false then (s.wr Kv.DSP_STAT.T0CONS 0).blockRecords (tickPlus n s.lead)
    else s.t0Overrun n

/-- The core and context in which T0 runs. -/
def Kv.t0Place (s : Kv) : Option (Nat × Nat) :=
  ((List.range 16).flatMap (fun n => [(n, 0), (n, 1)])).find? (fun p => match (s.core p.1).item p.2 with
    | some i => i.task == 0
    | none => false)

/-- T0 in service, in a context, in a stall or waiting to go on after YIELD, is ended by the dispatcher and counted in KILL; what it did until
then stands (R340, R353). -/
def Kv.killT0 (s : Kv) : Kv :=
  match s.t0Place with
  | some (n, c) =>
    let s := s.count Kv.DSP_T0STAT.KILL Kv.DSP_T0STAT.SAT
    ((s.endItem n c true).nextItem n).t0Try
  | none =>
    match s.dsp.t0Run with
    | some m =>
      if s.serving 0 then
        let s := s.count Kv.DSP_T0STAT.KILL Kv.DSP_T0STAT.SAT
        let s := s.each ((List.range 16).filter (fun n => match (s.core n).stall with | some i => i.task == 0 | none => false))
          (fun s n => s.onCore n (fun k => { k with stall := none }))
        let s := { s with dsp := { s.dsp with ready := s.dsp.ready.filter (fun i => !(i.task == 0 && i.cont)) } }
        ((s.endMarks 0 m).t0Ends m).t0Try
      else s
    | none => s

/-- T0_KILL: T0 of tick `n`, still in service at the latest point of tick `n` + 1, is ended; on a halted core that waits for the
resume (R353, R556). -/
def t0KillKv (n : Nat) (s : Kv) : Kv :=
  if s.dsp.t0Run = some n ∧ tickDone s.dsp.t0Judged (tickPlus n 1) = true then
    match s.t0Place with
    | some (c, _) => if s.coreHalted c then { s with dsp := { s.dsp with killWait := true } } else s.killT0
    | none => s.killT0
  else s

/-- EVENT_TASK_RELEASE: Ek is released for tick `n`, by a counter or at a boundary (R338). -/
def eventTaskReleaseKv (k n : Nat) (s : Kv) : Kv := s.releaseTask (64 + k % 32) n

/-! ### Modes (R337) -/

/-- An image has passed its start-up checks: every phase of start-up is over (R337, R572). -/
def Kv.imgOk (s : Kv) : Bool := s.dsp.img.isSome && s.rd Kv.SYS_STAT.PHASE == 7

/-- A request of mode `m` (0 STOP, 1 RUN, 2 HOLD) for the boundary whose low 16 bits are `mtick`. -/
def Kv.modeRequest (m mtick : Nat) (s : Kv) : Kv :=
  let off := Kv.DSP_CTRL.MREQ.base
  let s := s.wr Kv.DSP_CTRL.MTICK mtick
  if !later16 mtick s.tick then s.regacc 19 off
  else if s.dsp.modeReq.isSome then s.regacc 17 off
  else if m ≠ 0 ∧ (s.imgOk = false ∨ s.on Kv.SYS_STAT.HELD = true) then s.regacc 17 off
  else
    let s := s.mark Kv.DSP_STAT.PEND
    { s with dsp := { s.dsp with modeReq := some (m, tickFrom s.tick mtick) } }

/-- MODE_REQUEST_RUN, MODE_REQUEST_STOP, MODE_REQUEST_HOLD. -/
def modeRequestRunKv (mtick : Nat) (s : Kv) : Kv := s.modeRequest 1 mtick
def modeRequestStopKv (mtick : Nat) (s : Kv) : Kv := s.modeRequest 0 mtick
def modeRequestHoldKv (mtick : Nat) (s : Kv) : Kv := s.modeRequest 2 mtick

/-! ### Cores (R344, R368) -/

/-- A core as reset leaves it: it runs from CR_TBASE at level S, and both contexts are in service. (DESIGN CHOICE: log entry 11; DEDUCED: log entry 100.) -/
def CoreSt.atReset : CoreSt := { c0 := { boot := true } }

/-- Reset of a core, with its Cn_CTRL, Cn_STAT and Cn_STALL (R616). (DEDUCED: log entry 100.) -/
def Kv.resetCore (s : Kv) (n : Nat) : Kv :=
  let s := (((s.mark Kv.Cn_CTRL.EN n).wr Kv.Cn_STAT.CTX 0 n).wr Kv.Cn_STAT.OFF0 0 n).wr Kv.Cn_STAT.OFF1 0 n
  s.onCore n (fun _ => CoreSt.atReset)

/-- CORE_RESET: refused while an item is in service on the core (R368). -/
def coreResetKv (n : Nat) (s : Kv) : Kv :=
  if s.coreEmpty n && (s.core n).stall.isNone then s.resetCore n else s.regacc 17 (Kv.Cn_CTRL.RST.addr n 0)

/-- CORE_DISABLE: items in service run to their end, the stall item is withdrawn (R344). -/
def coreDisableKv (n : Nat) (s : Kv) : Kv := (s.wr Kv.Cn_CTRL.EN 0 n).withdraw n

end Sys2Proof.Machine
end

