-- ==== Sys2Proof/Machine/Castle.lean ====
section
/-! DEFINITION. Duty, standby and castling at a KV-9400: supervisor replies (R371 to R376), castle messages (R377 to R391), readiness and
health (R392 to R394), castling (R395 to R397). -/

namespace Sys2Proof.Machine

/-! ### Roles -/

/-- Every halted core resumes, and the session is lowered to trace (R556). -/
def Kv.resumeAll (s : Kv) : Kv :=
  let s := s.when (s.rd Kv.DBG_STAT.LEVEL == 2 && s.rd Kv.DBG_STAT.HALTED != 0) (fun s => s.wr Kv.DBG_STAT.LEVEL 1)
  let s := s.wr Kv.DBG_STAT.HALTED 0
  if s.dsp.killWait then ({ s with dsp := { s.dsp with killWait := false } } : Kv).killT0 else s

/-- A castling took place: CAUSE 1 planned, 2 on-line change, 3 duty silent, 4 RELEASE (R400, R404). -/
def Kv.castled (s : Kv) (cause : Nat) : Kv :=
  let s := ((s.wr Kv.CL_CASST.CAUSE cause).wr Kv.CL_CASST.PSTATE 0).count Kv.CL_CASST.CCNT Kv.CL_CASST.SAT
  { s.raise Src.CL_CASTLE 0 0 with cas := { s.cas with away := none, grant := none, ctick := none, olc := false, accepted := false } }

/-- The chip takes the token under a sequence. A token that nobody held before (`cause` 0) is no castling. A change that was committed
ends on the new duty, and the old image is no longer the one to return to (R358). (DEDUCED: log entry 82.) -/
def Kv.becomeDuty (s : Kv) (cseq cause : Nat) : Kv :=
  let s := ((s.mark Kv.CL_CASST.TOKEN).wr Kv.CL_CASST.CSEQ cseq).wr Kv.TIM_STAT.STBY 0
  let s := s.when (s.rd Kv.DSP_OLC.STATE == 4) (fun s =>
    { s.wr Kv.DSP_OLC.STATE 0 with dsp := { s.dsp with oldImg := none } })
  let s := s.when (cause != 0) (fun s => s.castled cause)
  let s := s.resumeAll
  s.when (cause == 3 || cause == 4) (fun s =>
    let s := { s with cas := { s.cas with since := none, causeOpen := cause == 4 } }
    let s := { s with hst := { s.hst with jump := s.cas.other.map (fun (o : StateMsg) => (o.gen.toNat, o.tick.toNat)) } }
    s.startResync)

/-- The chip gives the token up, aligned as it was while the castle link is up (R39, R55, R395); its first health period as standby begins (R394; DEDUCED: log entry 177). By any way but a planned castling, a resync follows (R391). (DEDUCED: log entry 177.) -/
def Kv.becomeStandby (s : Kv) (cseq cause : Nat) : Kv :=
  let s := (s.wr Kv.CL_CASST.TOKEN 0).wr Kv.CL_CASST.CSEQ cseq
  let s := s.when (s.on Kv.CL_STAT.UP) (fun s => s.mark Kv.TIM_STAT.ALIGNED)
  let s := { s with tim := { s.tim with stepped := true }, cas := { s.cas.newPeriod with epochs := [], epochDone := tickPrev s.tick + 1 } }
  let s := (s.mark Kv.TIM_STAT.STBY).castled cause
  s.when (cause == 3 || cause == 4) (fun s => ({ s with cas := { s.cas with since := none } } : Kv).startResync)

/-! ### From the KF-120 (R371, R374, R533) -/

/-- A valid supervisor message came in. -/
def Kv.svlHeard (s : Kv) : Kv := { s with cas := { s.cas with svlTick := s.tick + 1 } }

/-- A planned castling is refused or lapses. -/
def Kv.castleOff (s : Kv) (raise : Bool) : Kv :=
  let s := s.wr Kv.CL_CASST.PSTATE 4
  let s := s.when raise (fun s => s.raise Src.CL_REFUSE 0 0)
  { s with cas := { s.cas with accepted := false, ctick := none, olc := false } }

/-- CONF_RECEIVED: the token is the chip's; the confirmation names the tick it answers, the newest one with these low 16 bits, and what became of
a transfer (R371, R375, R395). -/
def confReceivedKv (n cseq : Nat) (xfer lapsed : Bool) (ctick : Nat) (s : Kv) : Kv :=
  let s := ((s.svlHeard).mark Kv.CL_CASST.TOKEN).wr Kv.CL_CASST.CSEQ cseq
  let s := { s with cas := { s.cas with conf := some ((s.tick + 2 ^ 48 - (s.tick + 65536 - n % 65536) % 65536) % 2 ^ 48, cseq % 65536) } }
  let s := s.when (xfer && s.cas.away.isNone) (fun s =>
    { s.wr Kv.CL_CASST.PSTATE 3 with cas := { s.cas with away := some (tickFrom s.tick ctick) } })
  s.when (lapsed && (s.rd Kv.CL_CASST.PSTATE == 1 || s.rd Kv.CL_CASST.PSTATE == 2)) (fun s => s.castleOff true)

/-- GRANT_RECEIVED: at once the chip is duty; with AT it becomes duty at B(CTICK). A chip that holds the token is only confirmed. Where the
other chip claimed the token, a grant at once is a castling: for silence, or where its STATE still arrived in this tick or the one before for
RELEASE, until the STAT that follows shows a heartbeat timeout (R372, R374, R376, R397, R537). (DEDUCED: log entry 82.) -/
def grantReceivedKv (cseq ctick : Nat) (at_ : Bool) (s : Kv) : Kv :=
  let s := s.svlHeard
  if at_ then
    let t := tickFrom s.tick ctick
    { s.wr Kv.CL_CASST.PSTATE 3 with cas := { s.cas with grant := some (cseq % 65536, some t, s.tick), ctick := some t } }
  else
    let s := { s with cas := { s.cas with grant := some (cseq % 65536, none, s.tick) } }
    if s.duty then s.wr Kv.CL_CASST.CSEQ cseq
    else
      let cause := match s.cas.other with
        | some o => if o.claim then (if s.cas.otherTick != 0 && decide (ticksTo (s.cas.otherTick - 1) s.tick ≤ 1) then 4 else 3) else 0
        | none => 0
      let s := s.becomeDuty cseq cause
      { s with cas := { s.cas with grant := some (cseq % 65536, none, s.tick) } }

/-- STAT_RECEIVED: inputs, source bits and payload bytes 6 and 7; each source bit that rose raises its source (R411, R520, R542). After a castling
without silence of the castle link a heartbeat timeout that it shows is the cause (R397, R400). (DEDUCED: log entry 82.) -/
def statReceivedKv (inputs src b6 b7 : Nat) (s : Kv) : Kv :=
  let s := s.svlHeard
  let old := bits (s.rd Kv.SVL_FST.ST) 0 16
  let s := s.wr Kv.SVL_FIN.IN inputs
  let s := s.wr Kv.SVL_FST.ST (b7 % 256 * 2 ^ 24 + b6 % 256 * 2 ^ 16 + src % 65536)
  let s := s.when (tickIs s.svlLast (tickPrev s.tick)) (fun s => s.mark Kv.SVL_STAT.UP)
  let s := { s with svlLast := s.tick + 1 }
  let s := s.when (s.cas.causeOpen && bit src 8 && !bit old 8) (fun s => s.wr Kv.CL_CASST.CAUSE 3)
  let s := { s with cas := { s.cas with causeOpen := false } }
  s.each ((List.range 16).filter (fun i => bit src i && !bit old i)) (fun s i => s.raise (Src.KF i) 0 0)

/-! ### Castle messages (R377 to R391) -/

/-- A failing message, or one with a reserved value, is discarded and counted (R377). -/
def Kv.castleDiscard (s : Kv) : Kv := (s.count Kv.CL_MERR.ERR Kv.CL_MERR.SAT).raise Src.CL_MERR 0 0

/-- What every valid message tells: a rival that claims duty under a higher sequence (R375). A duty so overtaken is standby from now on,
for RELEASE where its last heartbeat reported it, else for silence (R397, R400). (DEDUCED: log entry 82.) -/
def Kv.castleHeard (s : Kv) (e : Envelope) : Kv :=
  if e.claim && later16 e.cseq.toNat (s.rd Kv.CL_CASST.CSEQ) then
    let s := { s with cas := { s.cas with rival := s.tick + 1 } }
    s.when s.duty (fun s => s.becomeStandby e.cseq.toNat (if s.cas.released then 4 else 3))
  else s

/-- Receive a message: it has effect while the castle link is up and its check passes. Its blocks have gone by on the active lanes. -/
def Kv.castleIn (s : Kv) (e : Envelope) (f : Kv → Kv) : Kv :=
  let s := s.each (s.stripe.map s.laneOf) Kv.laneGoneBy
  if !s.on Kv.CL_STAT.UP then s
  else if !e.ok then s.castleDiscard
  else f (s.castleHeard e)

/-- STATE_MESSAGE (R378): the standby takes its sequence from the duty (R375); a missed epoch is marked again (R389). -/
def stateMessageKv (e : Envelope) (m : StateMsg) (s : Kv) : Kv :=
  s.castleIn e (fun s =>
    let s := { s with cas := { s.cas with other := some m, otherSeq := e.cseq.toNat, otherTick := s.tick + 1 } }
    let s := s.when (m.claim && !s.duty) (fun s => s.wr Kv.CL_CASST.CSEQ e.cseq.toNat)
    match m.missed with
    | some k => if s.ldgSource then s.remark k.toNat else s
    | none => s)

/-- No rival for the frame of tick `f`: no message of the tick before showed one (R375). -/
def Kv.noRival (s : Kv) (f : Nat) : Bool := !tickIs s.cas.rival (tickPrev f)

/-- CASTLE_LINK_UP: at least four lanes, CL0 among them, are UP; a resync starts (R78, R391). -/
def castleLinkUpKv (s : Kv) : Kv :=
  let m := s.lanesUp
  if s.on Kv.CL_CTRL.EN && !s.on Kv.CL_STAT.UP && lanesCarry m then ((s.mark Kv.CL_STAT.UP).setLanes m).startResync else s

/-- The token condition of R375 for frame `f`: the latest grant or confirmation gives the chip the token, and no transfer away takes effect at or
before B(f). -/
def Kv.tokenAt (s : Kv) (f : Nat) : Bool :=
  if s.duty then (match s.cas.away with | some t => tickAhead f t | none => true)
  else match s.cas.grant with
    | some (_, some t, _) => !tickAhead f t
    | _ => false

/-- The castle sequence of frame `f` (R395). -/
def Kv.seqAt (s : Kv) (f : Nat) : Nat :=
  if s.duty then (if s.tokenAt f then s.rd Kv.CL_CASST.CSEQ else (s.rd Kv.CL_CASST.CSEQ + 1) % 65536)
  else match s.cas.grant with
    | some (q, some _, _) => if s.tokenAt f then q else s.rd Kv.CL_CASST.CSEQ
    | _ => s.rd Kv.CL_CASST.CSEQ

/-- The frame that carries the commands of target tick `t`. -/
def Kv.frameFor (s : Kv) (t : Nat) : Nat := (t + 2 ^ 48 - s.rd Kv.SP_LEAD.CARRY) % 2 ^ 48

/-- The endorsement of target tick `t` is settled: `mask` was endorsed, every other string in service counts (R382, R401, R404). (DEDUCED: log entry 81.) -/
def Kv.settleEndorse (s : Kv) (t mask : Nat) : Kv :=
  if tickDone s.cas.endJudged t then s
  else
    let was := s.cas.wasEndorsed
    let left := s.served.filter (fun n => !bit mask n)
    let s := s.wr Kv.CL_ENDR.MASK mask
    let s := s.each left (fun s _ => s.count Kv.CL_DCNT.MIS Kv.CL_DCNT.SAT)
    let s := s.raiseOnce Src.CL_DIGEST (left.filter (fun n => bit was n))
    { s with
      col := { s.col with endorsed :=
        (s.served.filter (fun n => bit mask n)).foldl (fun e n => Tab.set 0 (n * 8 + t % 8) (t + 1) e) s.col.endorsed }
      cas := { s.cas with
        endJudged := tickMark s.cas.endJudged t, wasEndorsed := mask, endrRun := if left.isEmpty then min 64 (s.cas.endrRun + 1) else 0
        unend := left.foldl (fun u n => setBit u n true) s.cas.unend } }

/-- The chip that holds the token for the frame of target `t` compares digests once both are there, and sends its ENDORSE (R382). (DEDUCED: log entry 138.) -/
def Kv.endorse (s : Kv) (t : Nat) : Kv :=
  let come := s.strings.any (fun n => Tab.get 0 (n * 8 + t % 8) s.cas.digests / 2 ^ 64 == t + 1)
  let f := s.frameFor t
  if s.tokenAt f && s.noRival f && come && s.usedArms.all (fun k => tickDone (s.arm k).done t) && !tickDone s.cas.endJudged t then
    let mask := s.served.foldl (fun m n =>
      setBit m n (Tab.get 0 (n * 8 + t % 8) s.cas.digests == (t + 1) * 2 ^ 64 + digestOf s n t)) 0
    (s.castleSend 0x03 [t, mask, s.seqAt f]).settleEndorse t mask
  else s

/-- DIGEST_MESSAGE: the other chip's digests for target `t`, one per string in service in rising order; late ones leave the strings
unendorsed (R381, R382). (DESIGN CHOICE: log entry 80.) -/
def digestMessageKv (e : Envelope) (t : Nat) (ds : List Nat) (inTime : Bool) (s : Kv) : Kv :=
  s.castleIn e (fun s =>
    if inTime then
      let tab := (s.served.zip ds).foldl (fun d p => Tab.set 0 (p.1 * 8 + t % 8) ((t + 1) * 2 ^ 64 + p.2 % 2 ^ 64) d) s.cas.digests
      ({ s with cas := { s.cas with digests := tab } } : Kv).endorse t
    else s)

/-- ENDORSE_MESSAGE: applied by the standby of that frame, under the sequence of its own frame and by C − 100 ns (R382). (DESIGN CHOICE: log entry 80.) -/
def endorseMessageKv (e : Envelope) (t mask seq : Nat) (inTime : Bool) (s : Kv) : Kv :=
  s.castleIn e (fun s =>
    if inTime && !s.tokenAt (s.frameFor t) && seq % 65536 == s.seqAt (s.frameFor t) then s.settleEndorse t mask else s)

/-- RELAY_MESSAGE: relayed reports (R124). -/
def relayMessageKv (e : Envelope) (l : List (BitVec 13 × RepSlot)) (s : Kv) : Kv :=
  s.castleIn e (fun s => l.foldl (fun s p => s.relayEntry p.1.toNat p.2) s)

/-- Conditions 0, 1 and 4 to 7 of R392 (R396). -/
def Kv.commitReady (s : Kv) : Bool := s.rd Kv.CL_RDY.COND &&& 0xF3 == 0xF3

/-- The standby has committed an on-line change, and is ready for it: the castling that it has asked for (R396). -/
def Kv.commits (s : Kv) : Bool := s.rd Kv.DSP_OLC.STATE == 4

/-- CASTLE_OFFER: the standby answers ACCEPT where it is READY (for the change that it has committed, ready for commit), else REFUSE with its
CL_RDY bits (R395, R396). -/
def castleOfferKv (e : Envelope) (ctick : Nat) (s : Kv) : Kv :=
  s.castleIn e (fun s =>
    let olc := s.commits && s.dsp.olcTick % 65536 == ctick % 65536
    if s.duty then s
    else if (if olc then s.commitReady else s.on Kv.CL_RDY.READY) then
      ({ s with cas := { s.cas with ctick := some (tickFrom s.tick ctick), olc := olc } } : Kv).castleSend 0x05
        [2, ctick % 65536, s.rd Kv.CL_RDY.COND]
    else s.castleSend 0x05 [3, ctick % 65536, s.rd Kv.CL_RDY.COND])

/-- CASTLE_ACCEPT: from the next boundary on the duty's heartbeats carry the transfer request (R395). -/
def castleAcceptKv (e : Envelope) (s : Kv) : Kv :=
  s.castleIn e (fun s =>
    if s.duty && s.rd Kv.CL_CASST.PSTATE == 1 then { s with cas := { s.cas with accepted := true } } else s)

/-- CASTLE_REFUSE (R395). -/
def castleRefuseKv (e : Envelope) (s : Kv) : Kv :=
  s.castleIn e (fun s => if s.duty && s.rd Kv.CL_CASST.PSTATE == 1 then s.castleOff true else s)

/-- A planned castling is asked for on the duty (R395). -/
def Kv.castleAsk (s : Kv) (ctick : Nat) (olc : Bool) : Kv :=
  let off := Kv.CL_CAS.REQ.base
  let p := s.rd Kv.CL_CASST.PSTATE
  let d := (ctick % 65536 + 65536 - s.tick % 65536) % 65536
  if !s.duty || p == 1 || p == 2 || p == 3 then s.regacc 17 off
  else if d < 16 ∨ 32767 < d then s.regacc 19 off
  else
    let s := (s.wr Kv.CL_CAS.CTICK ctick).wr Kv.CL_CASST.PSTATE 1
    ({ s with cas := { s.cas with ctick := some (tickFrom s.tick ctick), olc := olc, accepted := false } } : Kv).castleSend 0x05
      [1, ctick % 65536, s.rd Kv.CL_RDY.COND]

/-- CASTLE_REQ: CL_CAS is written with REQ = 1; CTICK takes the write even where the request is refused (R8). -/
def castleReqKv (ctick : Nat) (s : Kv) : Kv := (s.wr Kv.CL_CAS.CTICK ctick).castleAsk ctick false

/-- CASTLE_COMMITREQ: the duty acts as for a REQ (R396). -/
def castleCommitreqKv (e : Envelope) (ctick : Nat) (s : Kv) : Kv :=
  s.castleIn e (fun s => if s.duty then s.castleAsk ctick true else s)

/-- TRANSFER_LAPSE: the heartbeat of CTICK − 4 has left without a grant (R395). Before that tick it is no event. -/
def transferLapseKv (s : Kv) : Kv :=
  let p := s.rd Kv.CL_CASST.PSTATE
  if s.cas.ctick.any (tickAhead (s.tick + 4)) then s
  else if s.duty && (p == 1 || p == 2) then s.castleOff true
  else if !s.duty && s.cas.ctick.isSome && p != 3 then s.castleOff false
  else s

/-- EVREL_MESSAGE: the standby releases the duty's E tasks of boundary `b`, or keeps them for it (R339). (DESIGN CHOICE: log entry 45.) -/
def evrelMessageKv (e : Envelope) (b : Nat) (tasks : List Nat) (s : Kv) : Kv :=
  s.castleIn e (fun s =>
    if s.duty then s
    else if tickAhead s.tick b then { s with dsp := { s.dsp with evrel := s.dsp.evrel ++ tasks.map (· % 32) } }
    else s.each tasks (fun s k => s.releaseTask (64 + k % 32) b))

/-- LEDGER_MESSAGE: entries of epoch `n` (R386). -/
def ledgerMessageKv (e : Envelope) (n : Nat) (l : List Entry) (s : Kv) : Kv :=
  s.castleIn e (fun s =>
    if !s.epochSink n || tickDone s.cas.epochDone n then s else { s with cas := s.cas.gather n l false })

/-- EPOCH_MISS: epoch `n` did not end in time; T0 of tick `n` + 1 is released (R389). -/
def epochMissKv (n : Nat) (s : Kv) : Kv :=
  if s.epochSink n && !tickDone s.cas.epochDone n then (s.missEpoch n).t0Try else s

/-- EPOCHEND_MESSAGE: the end of epoch `n`, with the counts and the check value it names; one that does not agree with the entries received, as
they lie in ledger staging, is missed (R386, R389, R479). (DESIGN CHOICE: log entry 80.) -/
def epochendMessageKv (e : Envelope) (n count bytes crc : Nat) (s : Kv) : Kv :=
  s.castleIn e (fun s =>
    if !s.epochSink n || tickDone s.cas.epochDone n then s
    else
      let l := s.cas.entriesOf n
      let s := ({ s with cas := s.cas.gather n [] true } : Kv).stageEpoch n l
      if s.crcRes 3 == crc && l.length == count && entryBytes l == bytes then s.applyEpoch.t0Try else (s.missEpoch n).t0Try)

/-- LEDGER_RESYNC: LDG_CTRL.RESYNC is written. -/
def ledgerResyncKv (s : Kv) : Kv := s.startResync

/-- The CVU has processed cell `a` for tick `n` (R249). -/
def Kv.cvuDone (s : Kv) (a n : Nat) : Bool :=
  tickDone s.al.passed n || (s.al.passRun && s.al.passed % 2 ^ 48 == n && decide (a / 256 < s.al.passStr))

/-- SWEEP_MESSAGE: OBS, DMG, BIN and HOLDW of cell `a` as captured after the CVU pass over tick `n`; discarded once the CVU has processed
the cell for tick `n` + 1 (R390). (DEDUCED: log entry 83.) -/
def sweepMessageKv (e : Envelope) (a n : Nat) (l : List Byte) (s : Kv) : Kv :=
  s.castleIn e (fun s =>
    if !s.ldgSink || s.cvuDone a (tickPlus n 1) || l.length != 116 then s
    else
      let s := Kv.forcedBytes 20 (recAddr a + 0x60) (l.take 112) s
      Kv.forcedBytes 2 (recAddr a + 0x54) (l.drop 112) s)

/-- LDG_HLTH0 to LDG_HLTH3 take a report, and CL_HEALTH is raised; once more for a report in which a field saturated (R394). -/
def Kv.holdHealth (s : Kv) (w0 w1 w2 w3 : Word) : Kv :=
  let s := (s.wr Kv.LDG_HLTH0.PNUM (bits w0.toNat 16 16)).wr Kv.LDG_HLTH0.RDY (bits w0.toNat 8 8)
  let s := (s.wr Kv.LDG_HLTH0.BFAIL (bits w0.toNat 7 1)).wr Kv.LDG_HLTH0.SAT (bits w0.toNat 0 1)
  let s := (s.wr Kv.LDG_HLTH1.NRDY (bits w1.toNat 16 16)).wr Kv.LDG_HLTH1.UNT (bits w1.toNat 0 16)
  let s := (s.wr Kv.LDG_HLTH2.PATH (bits w2.toNat 16 16)).wr Kv.LDG_HLTH2.UNEND (bits w2.toNat 0 16)
  let s := (s.wr Kv.LDG_HLTH3.AMAX (bits w3.toNat 16 16)).wr Kv.LDG_HLTH3.LAGM (bits w3.toNat 8 8)
  let s := (s.wr Kv.LDG_HLTH3.MISS (bits w3.toNat 0 8)).raise Src.CL_HEALTH 0 0
  s.when (bit w0.toNat 0) (fun s => s.raise Src.CL_HEALTH 1 Kv.LDG_HLTH0.SAT.base)

/-- HEALTH_MESSAGE: the standby's report is held on the duty (R394). -/
def healthMessageKv (e : Envelope) (w0 w1 w2 w3 : Word) (s : Kv) : Kv := s.castleIn e (fun s => s.holdHealth w0 w1 w2 w3)

/-- Fields of a health report, each stopping at its largest value, and whether one did (R394, R403). -/
def healthWords (pnum rdy : Nat) (c : CasSt) : Word × Word × Word × Word :=
  let sat := decide (65535 < c.nrdy ∨ 65535 < c.unt ∨ 65535 < c.pathN ∨ 65535 < c.unendN ∨ 65535 < c.amax ∨ 255 < c.lagm ∨ 255 < c.missN)
  let w := fun (hi lo : Nat) => BitVec.ofNat 32 (min 65535 hi * 65536 + min 65535 lo)
  (BitVec.ofNat 32 (pnum % 65536 * 65536 + rdy * 256 + b2n c.bfail * 128 + b2n sat), w c.nrdy c.unt, w c.pathN c.unendN,
   w c.amax (min 255 c.lagm * 256 + min 255 c.missN))

/-- HEALTH_REPORT: after HPER = ⌊100 ms ÷ T⌋ ticks the standby makes its report, holds it, sends it, and starts the next period (R394). -/
def healthReportKv (s : Kv) : Kv :=
  if s.duty || decide (s.cas.period < 100000000 / s.tickNs) then s
  else
    let w := healthWords (s.rd Kv.LDG_HLTH0.PNUM + 1) (s.rd Kv.CL_RDY.COND) s.cas
    let s := s.castleSend 0x0B [w.1.toNat, w.2.1.toNat, w.2.2.1.toNat, w.2.2.2.toNat]
    let s := s.holdHealth w.1 w.2.1 w.2.2.1 w.2.2.2
    { s with cas := s.cas.newPeriod }

/-- The positions of a self-test rotation: both contexts of each core, the 4 KiB slices of the instruction SRAMs, of the data SRAMs and of the
cell arena (R393). (DESIGN CHOICE: log entry 205.) -/
def bistLen : Nat := 2848

/-- The core that a position tests. -/
def bistCore (p : Nat) : Option Nat :=
  if p < 32 then some (p / 2) else if p < 288 then some ((p - 32) / 16) else if p < 800 then some ((p - 288) / 32) else none

/-- The position can be tested: its core runs no item, has none in its stall and is not halted. -/
def Kv.bistFree (s : Kv) (p : Nat) : Bool :=
  match bistCore p with
  | some n => !s.coreHalted n && s.coreIdle n && (s.core n).stall.isNone
  | none => true

/-- The first position from `p` on, of at most so many, that can be tested. -/
def Kv.bistFrom (s : Kv) : Nat → Nat → Nat
  | 0, p => p
  | k + 1, p => if s.bistFree p then p else s.bistFrom k ((p + 1) % bistLen)

/-- SELF_TEST_STEP: the next step of the rotation passes or fails, as what it tests does: a core's `logic`, or a march over a slice of `sram` or
`arena`, which restores the slice. The duty runs none (R393, R401). (DESIGN CHOICE: log entry 205.) -/
def selfTestStepKv (logic sram arena : Bool) (s : Kv) : Kv :=
  if s.duty || !s.on Kv.CL_BIST.EN then s
  else
    let p := s.bistFrom 800 ((s.rd Kv.CL_BIST.POS + 1) % bistLen)
    let s := s.wr Kv.CL_BIST.POS p
    if (if p < 32 then logic else if p < 800 then sram else arena) then s
    else { (s.mark Kv.CL_BIST.FAIL).raise Src.CL_BIST 0 p with cas := { s.cas with bfail := true } }

/-! ### Readiness (R392, R575, R581) -/

/-- A source of the chip's own blocks is unacknowledged at severity `v` or above. -/
def Kv.ownFault (s : Kv) (v : Nat) : Bool :=
  (List.range 80).any (fun i => s.on Kv.FLT_SSTn.PEND i && decide (v ≤ s.rd Kv.FLT_SSTn.CSEV i))

/-- The last STAT showed that a token has been granted. -/
def Kv.tokenKnown (s : Kv) : Bool := s.duty || bit (s.rd Kv.SVL_FST.ST) 22

/-- The eight conditions of R392. -/
def Kv.rdyConds (s : Kv) : List Bool :=
  let same := match s.cas.other, s.dsp.img with
    | some o, some i => o.imgId == i.ident && o.imgVer == i.version && o.mode.toNat == s.mode
    | _, _ => false
  [s.on Kv.TIM_STAT.ALIGNED, s.on Kv.CL_STAT.UP, same && s.rd Kv.DSP_OLC.STATE == 0, decide (64 ≤ s.cas.endrRun),
   decide (64 ≤ s.cas.pathRun),
   s.on Kv.LDG_STAT.SYNC && decide (s.rd Kv.LDG_STAT.LAG < s.rd Kv.LDG_CTRL.LAGMAX) && decide (64 ≤ s.cas.missRun),
   !s.on Kv.CL_BIST.FAIL, !s.ownFault 4]

/-- Evaluation at a boundary: CL_RDY, and CL_NOTRDY where READY of a standby cleared (R404). While no token has been granted, a chip in
PHASE 7 is ready and able (R575). -/
def Kv.evalReady (s : Kv) : Kv :=
  if s.duty then s
  else
    let cs := s.rdyConds
    let cond := (List.range 8).foldl (fun v i => setBit v i (cs.getD i false)) 0
    let up := s.rd Kv.SYS_STAT.PHASE == 7 && !s.on Kv.SYS_STAT.HELD
    let ready := if s.tokenKnown then cs.all id && !s.on Kv.SYS_STAT.HELD else up
    let able := if s.tokenKnown then
        s.imgOk && s.mode != 0 && cs.getD 7 false && (s.rd Kv.DSP_OLC.STATE == 0 || s.rd Kv.DSP_OLC.STATE == 4) &&
          !s.on Kv.SYS_STAT.HELD
      else up
    let was := s.on Kv.CL_RDY.READY
    let s := ((s.wr Kv.CL_RDY.COND cond).wr Kv.CL_RDY.READY (b2n ready)).wr Kv.CL_RDY.ABLE (b2n able)
    s.when (was && !ready) (fun s => s.raise Src.CL_NOTRDY 0 0)

/-- The chip reports RELEASE (R399, R581). -/
def Kv.release (s : Kv) : Bool :=
  s.duty && ((s.on Kv.CL_CAS.RELEN && s.ownFault (s.rd Kv.CL_CAS.RSEV)) || s.on Kv.SYS_STAT.HELD)

/-- The READY that the heartbeat reports: READY of R392, or from COMMIT on ready for commit (R372, R392, R396). (DEDUCED: log entry 206.) -/
def Kv.reportsReady (s : Kv) : Bool :=
  s.on Kv.CL_RDY.READY || (!s.duty && s.commits && s.commitReady && !s.on Kv.SYS_STAT.HELD)

/-- The heartbeat of this boundary (R370, R533). -/
def Kv.heartbeat (s : Kv) : List Nat :=
  let p := s.rd Kv.CL_CASST.PSTATE
  let x := s.duty && (p == 2 || p == 3) && s.cas.ctick.isSome
  svlMessage 0x01 (beBytes 2 s.tick ++ beBytes 2 (s.rd Kv.CL_CASST.CSEQ) ++ beBytes 2 (if x then s.cas.ctick.getD 0 else 0) ++
    [128 * b2n s.duty + 64 * b2n s.reportsReady + 32 * b2n (s.on Kv.CL_RDY.ABLE) + 16 * b2n s.release + 8 * b2n x +
      2 * s.mode + b2n s.roleB, 0])

/-- The lease of R375 for the frame of tick `f`. -/
def Kv.lease (s : Kv) (f : Nat) : Bool :=
  let q := s.rd Kv.CL_CASST.CSEQ
  s.cas.conf == some (tickPrev f, q) ||
  (match s.cas.grant with
    | some (g, some t, _) => g == q && t == f
    | some (g, none, m) => g == q && tickPlus m 1 == f
    | none => false) ||
  (!tickIs s.cas.svlTick (tickPrev f) && tickIs s.cas.otherTick (tickPrev f) && s.cas.otherSeq == q &&
    (match s.cas.other with | some o => !o.claim && tickPlus o.tick.toNat 1 == f | none => false))

/-- DUTY of the header of the frame of tick `f` (R375). -/
def Kv.dutyBit (s : Kv) (f : Nat) : Bool :=
  s.duty && s.noRival f && s.lease f && (match s.cas.away with | some t => tickAhead f t | none => true)

/-- CASTLING_AT_CTICK: at B(n) the roles change where a transfer takes effect (R395). -/
def Kv.castleAt (s : Kv) (n : Nat) : Kv :=
  let cause := if s.cas.olc then 2 else 1
  if s.duty && s.cas.away == some n then
    let s := s.becomeStandby (s.rd Kv.CL_CASST.CSEQ + 1) cause
    { s with cas := { s.cas with since := some n } }
  else
    match s.cas.grant with
    | some (q, some t, m) =>
      if !s.duty && t == n then
        let s := s.becomeDuty q cause
        { s with cas := { s.cas with grant := some (q, some t, m), since := some n } }
      else s
    | _ => s

end Sys2Proof.Machine
end

