-- ==== Sys2Proof/Machine/Cvu.lean ====
section
/-! DEFINITION. The cell vector unit (R245 to R250, R254): current, observers, cycle bins and hold weights of the cells. Results are exact
rationals; where one has no exact place in its field, the spec names no rounding, and either neighbour may stand there. -/

namespace Sys2Proof.Machine

/-- The pattern of an exact result in a signed field of `w` bits with `fr` fraction bits. Between two neighbours, and beyond the
field, it is open. (DESIGN CHOICE: log entry 26.) -/
def Kv.fix (s : Kv) (w fr : Nat) (r : Rat) : Nat × Kv :=
  let v := r * 2 ^ fr
  let fl := v.floor
  let half : Int := (2 ^ (w - 1) : Nat)
  if fl < -half ∨ half ≤ fl then
    let q := s.fresh
    (Config.unstated q.1 % 2 ^ w, q.2)
  else if v = fl then (toBits w fl, s)
  else
    let q := s.fresh
    let up : Int := (Config.unstated q.1 % 2 : Nat)
    (toBits w (min (fl + up) (half - 1)), q.2)

/-- The state at the end of target tick `t`, from the command history (R228, R246): at most `fuel` ticks back without any. -/
def Kv.endState (s : Kv) (a : Nat) : Nat → Nat → Nat
  | 0, _ => stOff
  | fuel + 1, t =>
    let v := Tab.get 0 (a * 8 + t % 8) s.al.ends
    if v / 8 = t + 1 then v % 8 else s.endState a fuel (tickPrev t)

/-- States and edges of a cell in tick `n`: where it stood before, and (instant, state) in time order, in units of 1.25 ns. -/
def Kv.history (s : Kv) (a n : Nat) : Nat × List (Nat × Nat) :=
  let before := s.endState a 7 (tickPrev n)
  match s.placed a n with
  | some c =>
    if cMode c = 1 then (before, [(0, cSt0 c), (cT1 c, cSt1 c), (cT2 c, cSt2 c)])
    else if cMode c = 2 ∨ cMode c = 5 then (before, [(0, before)])
    else (before, [(0, stOff)])
  | none => (before, [(0, before)])

/-- Switch `j` conducts in a state: its gate output is 1 there (R168, R246). -/
def conducts (full : Bool) (st j : Nat) : Bool :=
  if full then
    (match st with
     | 1 => j == 0 || j == 3
     | 2 => j == 1 || j == 2
     | 3 => j == 0 || j == 2
     | 4 => j == 1 || j == 3
     | _ => false)
  else (st == stPos && j == 0) || (st == stLo && j == 1)

/-- Time that switch `j` conducted, in units of 1.25 ns, over a tick of `T` units. -/
def conductTime (full : Bool) (T j : Nat) : List (Nat × Nat) → Nat
  | [] => 0
  | [(t, st)] => if conducts full st j then T - t else 0
  | (t, st) :: (u, sv) :: rest => (if conducts full st j then min u T - t else 0) + conductTime full T j ((u, sv) :: rest)

/-- Number of switching energies that fall to switch `j` (R246): each edge gives one to a switch of every pair it changes. -/
def switchCount (full : Bool) (i idz : Rat) (j : Nat) : Nat → List (Nat × Nat) → Nat
  | _, [] => 0
  | st, (_, sv) :: rest =>
    let upper := j / 2 * 2
    let changed := conducts full st upper != conducts full sv upper || conducts full st (upper + 1) != conducts full sv (upper + 1)
    let raises := decide (stLevel st < stLevel sv)
    let hard := (if raises then decide (i < 0) else decide (stLevel sv < stLevel st) && decide (0 < i)) &&
      !decide (i < idz ∧ -idz < i)
    let takes := changed && (if hard then conducts full sv j else conducts full st j)
    b2n takes + switchCount full i idz j sv rest

/-- The current of arm `k` in tick `n` in A × 256 (R245): from the report, or the last valid one; without any it is open. (DESIGN CHOICE: log entry 26.) -/
def Kv.armCurrent (s : Kv) (k n : Nat) : Int × Kv :=
  let a := s.rd Kv.CVU_ISRCk.ADDR k
  if s.on Kv.CVU_ISRCk.EN k && s.bankValid a n then
    let ch := s.rd Kv.CVU_ISRCk.CH k
    let code := sx 16 (bits (s.bankSlot a n) (164 - 16 * ch) 16)
    let i := (code - sx 16 (s.rd Kv.CVU_ISCLk.OFS k)) * sx 16 (s.rd Kv.CVU_ISCLk.GAIN k)
    (i, { s with al := { s.al with current := Tab.set none k (some i) s.al.current } })
  else
    match Tab.get none k s.al.current with
    | some i => (i, s)
    | none => let q := s.fresh; (sx 24 (Config.unstated q.1), q.2)

/-- Address of the observer of switch `j` (R220). -/
def obsAddr (a j : Nat) : Nat := recAddr a + 0x60 + 16 * j

/-- The cell's temperature at tick `n` in quarter degrees above −40 °C: its report's, or the last used; none before a first one (R246). -/
def Kv.cellTemp (s : Kv) (a n : Nat) : Option Nat :=
  let old := Tab.get 0 a s.al.temp
  let new := if s.bankValid a n then rTemp (s.bankSlot a n) else 0x3FF
  if new ≠ 0x3FF then some new else if old = 0 then none else some (old - 1)

/-- Count one in cycle bin `b` of a cell, and the damage of switch `j` by the bin's weight; saturation sets BSAT and raises one CVU_SAT
per cell (R248). -/
def Kv.countCycle (s : Kv) (a j b : Nat) : Kv :=
  let ba := recAddr a + 0xB0 + 4 * b
  let da := recAddr a + 0xA0 + 4 * j
  let bin := s.rdBe ba 4
  let dmg := s.rdBe da 4
  let w := if b % 2 = 1 then s.rd Kv.CVU_WGTm.WODD (b / 2) else s.rd Kv.CVU_WGTm.WEVEN (b / 2)
  let top := 2 ^ 32 - 1
  let sat := decide ((bin < top ∧ bin + 1 = top) ∨ (dmg < top ∧ top ≤ dmg + w))
  let s := (s.storeBe ba (min top (bin + 1)) 4).storeBe da (min top (dmg + w)) 4
  if sat && !bit (s.ctl1 a) 19 then (s.setCtl1 a (setBit (s.ctl1 a) 19 true)).raise Src.CVU_SAT 0 a else s

/-- The bin of an amplitude in 1/64 K, if it is counted (R248). -/
def Kv.cycleBin (s : Kv) (amp : Int) : Option Nat :=
  let e := fun (b : Nat) => (32 * (if b < 4 then bits (s.rd Kv.CVU_BINE0.E) (8 * b) 8 else bits (s.rd Kv.CVU_BINE1.E) (8 * (b - 4)) 8) : Nat)
  ((List.range 8).reverse).find? (fun b => decide ((e b : Int) ≤ amp))

/-- Half-cycle counting of switch `j` at temperature `tj` (R248). DIR 1 is falling. -/
def Kv.cycles (s : Kv) (a j : Nat) (tj : Int) : Kv :=
  let o := obsAddr a j
  let peak := sx 16 (s.rdBe (o + 2) 2)
  let valley := sx 16 (s.rdBe (o + 4) 2)
  let dir := s.rdBe (o + 6) 2
  let hys : Int := s.rd Kv.CVU_HYS.HYS
  let close := fun (s : Kv) => match s.cycleBin (peak - valley) with
    | some b => s.countCycle a j b
    | none => s
  if bit dir 15 then
    if valley + hys < tj then ((close s).storeBe (o + 6) (setBit dir 15 false) 2).storeBe (o + 2) (toBits 16 tj) 2
    else if tj < valley then s.storeBe (o + 4) (toBits 16 tj) 2 else s
  else
    if tj < peak - hys then ((close s).storeBe (o + 6) (setBit dir 15 true) 2).storeBe (o + 4) (toBits 16 tj) 2
    else if peak < tj then s.storeBe (o + 2) (toBits 16 tj) 2 else s

/-- What one pass has of a cell: current in A × 256, its report of the tick, the arm. -/
structure CellPass where
  a : Nat
  n : Nat
  i : Int
  full : Bool
  idz : Nat
  /-- tick in units of 1.25 ns -/
  T : Nat

/-- On-state voltage of switch `j` in mV, and whether it was measured (R246). -/
def Kv.onVoltage (s : Kv) (p : CellPass) (j cs : Nat) : Rat × Bool :=
  let f := if j = 0 then rVceA (s.bankSlot p.a p.n) else rVceB (s.bankSlot p.a p.n)
  if j < 2 ∧ s.bankValid p.a p.n ∧ f ≠ 0xFFF then ((f : Rat), true)
  else
    let mag : Rat := (p.i.natAbs : Rat) / 256
    ((s.rd Kv.CVU_CSn_4.V0 cs : Rat) + (s.rd Kv.CVU_CSn_4.RON cs : Rat) * mag / 1000, false)

/-- The observer of switch `j` with heat-sink temperature `ths` (°C) (R246). (DESIGN CHOICE: log entry 26.) -/
def Kv.observe (s : Kv) (p : CellPass) (j : Nat) (ths : Rat) : Kv :=
  let cs := ctlCset (s.ctl0 p.a)
  let mag : Rat := (p.i.natAbs : Rat) / 256
  let h := s.history p.a p.n
  let von := s.onVoltage p j cs
  let vcap : Nat := if s.bankValid p.a p.n then rVcapS (s.bankSlot p.a p.n) else s.rdBe (recAddr p.a + 0x5E) 2
  -- energies in µJ: A × mV × ns = pJ, and KSW in µJ per A per V with VCAP in 0.1 V
  let ton : Rat := (conductTime p.full p.T j h.2 : Rat) * 5 / 4
  let econd := mag * von.1 * ton / 1000000
  let esw := (switchCount p.full ((p.i : Rat) / 256) p.idz j h.1 h.2 : Rat) *
    ((s.rd Kv.CVU_CSn_5.KSW cs : Rat) / 2 ^ 24 * mag * vcap / 10)
  let power := (econd + esw) * 1000 / ((p.T : Rat) * 5 / 4)
  let o := obsAddr p.a j
  let d1 := (s.rd Kv.CVU_CSn_0.A1 cs : Rat) / 2 ^ 31 * (sx 32 (s.rdBe (o + 8) 4) / 2 ^ 16) + (s.rd Kv.CVU_CSn_1.B1 cs : Rat) / 2 ^ 24 * power
  let d2 := (s.rd Kv.CVU_CSn_2.A2 cs : Rat) / 2 ^ 31 * (sx 32 (s.rdBe (o + 12) 4) / 2 ^ 16) + (s.rd Kv.CVU_CSn_3.B2 cs : Rat) / 2 ^ 24 * power
  let tj := ths + d1 + d2
  let lt := s.rd Kv.CVU_CSn_6.LT cs
  let kt := sx 16 (s.rd Kv.CVU_CSn_6.KT cs)
  let go := lt ≠ 0 ∧ von.2 ∧ (s.rd Kv.CVU_CSn_7.IWL cs : Rat) ≤ mag ∧ mag ≤ (s.rd Kv.CVU_CSn_7.IWH cs : Rat)
  let micro := von.1 * 1000 - (s.rd Kv.CVU_CSn_4.V0 cs : Rat) * 1000 - (s.rd Kv.CVU_CSn_4.RON cs : Rat) * mag
  let tv := (sx 16 (s.rd Kv.CVU_CSn_8.TCAL cs) : Rat) / 64 + micro / kt
  let tv : Rat := if kt = 0 then (Config.unstated s.free : Rat) else tv
  let s := if go ∧ kt = 0 then { s with free := s.free + 1 } else s
  let d1 := if go then d1 + (lt : Rat) / 65536 * (tv - tj) else d1
  let q := s.fix 16 6 tj
  let s := q.2.storeBe o q.1 2
  let tjq := sx 16 q.1
  let q := s.fix 32 16 d1
  let s := q.2.storeBe (o + 8) q.1 4
  let q := s.fix 32 16 d2
  (q.2.storeBe (o + 12) q.1 4).cycles p.a j tjq

/-- First valid report with a temperature: the observers start (R246). -/
def Kv.startObserver (s : Kv) (a sw temp : Nat) : Kv :=
  let tj := toBits 16 ((temp : Int) * 16 - 2560)
  let s := s.each (List.range sw) (fun s j =>
    ((s.storeBe (obsAddr a j) tj 2).storeBe (obsAddr a j + 8) 0 4).storeBe (obsAddr a j + 12) 0 4)
  s.setCtl1 a (setBit (s.ctl1 a) 18 true)

/-- The hold weight of a cell for tick `n` (R247). -/
def Kv.holdWeight (s : Kv) (a n sw : Nat) : Kv :=
  let tj := (List.range sw).foldl (fun m j => max m (sx 16 (s.rdBe (obsAddr a j) 2))) (sx 16 (s.rdBe (obsAddr a 0) 2))
  let wear := (List.range sw).foldl (fun m j => max m (s.rdBe (recAddr a + 0xA0 + 4 * j) 1)) 0
  let above := max 0 ((tj - sx 16 (s.rd Kv.CVU_KEY.TREF)) / 64)
  let hw := satU 16 ((s.rd Kv.CVU_KEY.WT : Int) * above + (s.rd Kv.CVU_KEY.WW * wear : Nat))
  s.storeBe (recAddr a + 0x54 + (if n % 2 = 1 then 0 else 2)) hw 2

/-- The cell is passed over in tick `n`: its hold weight carries over (R249). -/
def Kv.weightOver (s : Kv) (a n : Nat) : Kv :=
  let w := s.rdBe (recAddr a + 0x54 + (if n % 2 = 1 then 2 else 0)) 2
  s.storeBe (recAddr a + 0x54 + (if n % 2 = 1 then 0 else 2)) w 2

/-- What the pass reads of a cell's record beside the bank: CTL, weights and last voltage, observers, damage and bins. -/
def Kv.ownUnc (s : Kv) (a : Nat) : List Nat := s.badWords (recAddr a + 0x40) 8 ++ s.badWords (recAddr a + 0x50) 0x80

/-- One cell of a pass. Of a bad bank the report counts as missing; a cell of whose record else something cannot be read is passed over
(R468). (DESIGN CHOICE: log entry 201.) -/
def Kv.cvuCell (s : Kv) (n a : Nat) (cur : Nat → Int) : Kv :=
  let own := s.ownUnc a
  let s := s.reportUnc (s.badWords (bankAddr a n) 32 ++ own)
  if !own.isEmpty then s.weightOver a n
  else
  let c := s.ctl0 a
  let k := ctlArm c
  if ctlClass c ≠ 0 ∨ bits (s.ctl1 a) 20 3 = 6 then s
  else
    let full := s.on Kv.ALk_CFG.TOPO k
    let sw := if full then 4 else 2
    match s.cellTemp a n with
    | none => s
    | some temp =>
      let s := { s with al := { s.al with temp := Tab.set 0 a (temp + 1) s.al.temp } }
      if !bit (s.ctl1 a) 18 then
        if s.bankValid a n && rTemp (s.bankSlot a n) != 0x3FF then (s.startObserver a sw temp).holdWeight a n sw else s
      else
        let p : CellPass := { a := a, n := n, i := cur k, full := full, idz := s.rd Kv.ALk_LIM.IDZ k, T := 8 * s.tim.len }
        (s.each (List.range sw) (fun s j => s.observe p j ((temp : Rat) / 4 - 40))).holdWeight a n sw

/-- The power cells of string `str`. -/
def Kv.powerCells (s : Kv) (str : Nat) : List Nat :=
  ((s.positions str).map (fun p => str * 256 + p)).filter (fun a => ctlClass (s.ctl0 a) == 0)

/-- DRAM address of the result of tally `no` (R486). -/
def tallyAt (no : Nat) : Nat := 0x04400000 + 0x400000 * (no % 4)

/-- BIN and DMG of every cell of the map as they stand, into the tally result: words least significant byte first (R498, R502). (DEDUCED: log entry 114.) -/
def Kv.tallyBins (s : Kv) (no : Nat) : Kv :=
  (s.strings.flatMap (fun x => (s.positions x).map (fun p => x * 256 + p))).foldl (fun s a =>
    s.each (List.range 12) (fun s w =>
      let at_ := recAddr a + (if w < 8 then 0xB0 + 4 * w else 0xA0 + 4 * (w - 8))
      s.unlessBad (s.badWords at_ 4) (fun s => s.storeLe (tallyAt no + 0x104000 + 48 * a + 4 * w) (s.rdBe at_ 4) 4))) s

/-- The pass over tick `n` is complete: PASS shows its duration, which the spec leaves to timing. A tally latched at `n` takes the cycle
bins and damage indices as the pass leaves them. (DESIGN CHOICE: log entries 6, 39.) -/
def Kv.passEnd (s : Kv) (n : Nat) : Kv :=
  let s := match s.col.tallyOf with
    | some (no, tt) => if tt = n then s.tallyBins no else s
    | none => s
  let q := s.fresh
  let s := q.2.wr Kv.CVU_STAT.PASS (Config.unstated q.1)
  { s with al := { s.al with passed := tickMark s.al.passed n, passStr := 0, passRun := true } }

/-- The CVU is at tick `n`: the pass before is complete, where it has begun one since EN was set (R249). -/
def Kv.passAt (s : Kv) (n : Nat) : Bool := 
  if s.al.passRun then n == s.al.passed % 2 ^ 48 else !tickDone s.al.passed n && !tickAhead s.tick n

/-- The tick-`n` reports of string `str` are all in at its port, or SP_RAP has passed (R249), and none of that tick waits in the staging: a phase starts
after those it depends on (R25, R349). -/
def Kv.reportsIn (s : Kv) (str n : Nat) : Bool :=
  (s.closedFor n || Tab.get 0 (str * 4 + n % 4) s.col.ended == 1) && !s.col.held.any (fun h => h.tick == n && h.addr / 256 == str)

/-- CVU_STRING_PASS: the next string of the pass over tick `n`, in rising string number, once the pass before is complete and the string's
reports are in (R25, R249). (DESIGN CHOICE: log entry 6.) -/
def cvuStringPassKv (str n : Nat) (s : Kv) : Kv :=
  let next := s.strings.find? (fun x => decide (s.al.passStr ≤ x))
  if !s.on Kv.CVU_CTRL.EN || next != some str || !s.passAt n || !s.reportsIn str n then s
  else
    let s := { s with al := { s.al with passed := if n = 0 ∧ s.al.passed = 0 then 0 else tickPrev n + 1, passRun := true } }
    let cells := s.powerCells str
    let arms := (List.range 12).filter (fun k => cells.any (fun a => ctlArm (s.ctl0 a) == k))
    let r := arms.foldl (fun (q : List (Nat × Int) × Kv) k => let c := q.2.armCurrent k n; ((k, c.1) :: q.1, c.2)) ([], s)
    let cur := fun (k : Nat) => match r.1.find? (fun e => e.1 == k) with | some e => e.2 | none => (0 : Int)
    let s := cells.foldl (fun s a => s.cvuCell n a cur) r.2
    if (s.strings.filter (fun x => decide (str < x))).isEmpty then s.passEnd n
    else { s with al := { s.al with passStr := str + 1 } }

/-- CVU_PASS_DEADLINE: SP_RAP + T after B(n); cells not reached are skipped, their hold weight carrying over (R249). -/
def cvuPassDeadlineKv (n : Nat) (s : Kv) : Kv :=
  if !s.on Kv.CVU_CTRL.EN || !s.passAt n then s
  else
    let left := (s.strings.filter (fun x => decide (s.al.passStr ≤ x))).flatMap s.powerCells
    let s := left.foldl (fun s a => (s.weightOver a n).count Kv.CVU_STAT.SKIP Kv.CVU_STAT.SAT) s
    ((s.mark Kv.CVU_STAT.LATE).raise Src.CVU_LATE 0 n).passEnd n

/-- CVU_DISABLE: EN is cleared. Estimates and hold weights stay; a pass over a string is one step here, so no group of records is
left open (R250). -/
def cvuDisableKv (s : Kv) : Kv := { (s.wr Kv.CVU_CTRL.EN 0) with al := { s.al with passStr := 0, passRun := false } }

/-- CVU_BINE_WRITE: register `m` (0 or 1); edges that would not rise strictly are refused (R254). -/
def cvuBineWriteKv (m v : Nat) (s : Kv) : Kv :=
  let f := if m % 2 = 0 then Kv.CVU_BINE0.E else Kv.CVU_BINE1.E
  let t := s.wr f v
  let es := (List.range 4).map (fun b => bits (t.rd Kv.CVU_BINE0.E) (8 * b) 8) ++
    (List.range 4).map (fun b => bits (t.rd Kv.CVU_BINE1.E) (8 * b) 8)
  if (es.zip (es.drop 1)).all (fun q => decide (q.1 < q.2)) then t else s.regacc 18 f.base

end Sys2Proof.Machine
end

