-- ==== Sys2Proof/Machine/Writes.lean ====
section
/-! DEFINITION. What a write does to the fields of one KV-9400 register by their access codes (R8 to R10, R12). -/

namespace Sys2Proof.Machine

/-- The state in which an RWL field of instance `i` takes a write. -/
def Kv.lockOpen (s : Kv) (l : Lock) (i : Nat) : Bool :=
  match l with
  | .parked | .tim => s.parked
  | .stop => s.mode == 0
  | .acqUnit => s.rd Kv.ACQn_STAT.STATE i == 0 || s.rd Kv.ACQn_STAT.STATE i == 3
  | .acqCtrl => s.acqMembers.all (fun n => s.rd Kv.ACQn_STAT.STATE n == 0 || s.rd Kv.ACQn_STAT.STATE n == 3)
  | .memDen => !s.on Kv.MEM_STAT.READY && !s.on Kv.MEM_STAT.INITB
  | _ => true

/-- The kind under which a field refuses `v`: 17 by its lock, unless the value is the present one, 16 a reserved encoding; 0 for none
(R8, R10). -/
def Kv.refuses (s : Kv) (f : Fld) (i j v : Nat) : Nat :=
  match f.acc with
  | .rw => if f.ok v then 0 else 16
  | .rwl => if s.rd f i j = v then 0 else if !s.lockOpen f.lock i then 17 else if f.ok v then 0 else 16
  | _ => 0

/-- A field takes `v`, which it does not refuse (R8, R12). -/
def Kv.takes (s : Kv) (f : Fld) (i j v : Nat) : Kv :=
  match f.acc with
  | .ro | .wo => s
  | .rw | .rwl => s.wr f v i j
  | .w1c => s.wr f (s.rd f i j - (s.rd f i j &&& v)) i j
  | .w1s => s.wr f (s.rd f i j ||| v) i j
  | .sat => if v = f.max then s.wr f 0 i j else s

/-- Every field of the register at an offset takes its bits of a word, but for those that the state before the write refuses (R617). The
new state, and whether a field was refused with KIND 16 and with KIND 17. -/
def Kv.writeBits (s : Kv) (off v : Nat) : Kv × Bool × Bool :=
  Kv.flds.foldl (fun r f =>
    match f.at? off with
    | some (i, j) =>
      let kind := s.refuses f i j (bits v f.lo f.w)
      (if kind = 0 then r.1.takes f i j (bits v f.lo f.w) else r.1, r.2.1 || kind == 16, r.2.2 || kind == 17)
    | none => r) (s, false, false)

/-- Write a register by its fields' access codes, and report what was refused. -/
def Kv.writeReg (s : Kv) (off v : Nat) : Kv :=
  let r := s.writeBits off v
  (r.1.when r.2.1 (fun s => s.regacc 16 off)).when r.2.2 (fun s => s.regacc 17 off)

end Sys2Proof.Machine
end

