-- ==== Sys2Proof/Machine/Capture.lean ====
section
/-! DEFINITION. The acquisition units: channels, rows, triggers, masks, measurements and records (R436 to R459). -/

namespace Sys2Proof.Machine

/-! ### Channels (R436, R440) -/

/-- One channel: a field of a cell's reports, or an output of a state-feedback loop. -/
inductive Chan where
  | cell (addr lsb w : Nat) (sgn : Bool) (skew : Int)
  | sfe (e loop zi rsh : Nat) (sgn : Bool)
deriving DecidableEq, Repr

/-- Its values compare as signed numbers. -/
def Chan.sgn : Chan → Bool
  | .cell _ _ _ g _ => g
  | .sfe _ _ _ _ g => g

/-- The channels of group `k` of unit `n`. -/
def Kv.acqGroup (s : Kv) (n k : Nat) : List Chan :=
  if !s.on Kv.ACQn_GDk.EN n k then []
  else
    let sel := s.rd Kv.ACQn_GDk.SEL n k
    let sgn := s.on Kv.ACQn_GDk.SGN n k
    if s.on Kv.ACQn_GDk.KIND n k then [.sfe (bits sel 24 2) (bits sel 20 4) (bits sel 16 4) (bits sel 11 5) sgn]
    else
      let first := bits sel 13 13
      let cls := s.rd Kv.ACQn_GDk.CLASS n k
      let cells := ((List.range (bits sel 0 13 + 1 - first)).map (· + first)).filter (fun a =>
        let c := ctlClass (s.ctl0 a)
        (c == 0 && bit cls 0) || (c == 1 && bit cls 1))
      cells.map (fun a => .cell a (s.rd Kv.ACQn_GXk.LSB n k) (s.rd Kv.ACQn_GXk.W n k + 1) sgn (sx 16 (s.rd Kv.ACQn_GXk.SKEW n k)))

/-- The channels of unit `n`, at most 8,192. (DEDUCED: log entry 108.) -/
def Kv.acqChans (s : Kv) (n : Nat) : List Chan := ((List.range 16).flatMap (s.acqGroup n)).take 8192

/-- The field of a report slot, as a 16-bit channel value. -/
def chanField (slot lsb w : Nat) (sgn : Bool) : Int := if sgn then sx w (bits slot lsb w) else (bits slot lsb w : Nat)

/-- The skew of a channel takes a full tick or more. -/
def Kv.skewBad (s : Kv) (d : Int) : Bool := decide (4 * s.tickNs ≤ 5 * d.natAbs)

/-- The skew of a channel is removed from its value. -/
def Kv.deskews (s : Kv) (deskew : Bool) (d : Int) : Bool := deskew && d != 0 && !s.skewBad d

/-- The uncorrectable words that a row of tick `n` reads for a channel: the unit abandons such a transfer (R468). -/
def Kv.chanBad (s : Kv) (deskew : Bool) (n : Nat) : Chan → List Nat
  | .cell a _ _ _ d => s.badWords (bankAddr a n) 32 ++ (if s.deskews deskew d then s.badWords (bankAddr a (n + 1)) 32 else [])
  | .sfe e lp zi _ _ =>
    let at_ := sfeCopyAt e lp (bits (s.rd Kv.SFEn_OSEL.SEL e) lp 1)
    s.badWords at_ 4 ++ s.badWords (at_ + 4 * (17 + zi)) 4

/-- Value of a channel for the row of tick `n`, and whether it is stale (R436, R440). An SFE value of a group with SGN = 0 is compared as the
16 bits it is stored as (R452). A value of tick n - 1 that its bank no longer holds is `open_`. (DEDUCED: log entry 178; DESIGN CHOICE: log entry 208.) -/
def Kv.chanValue (s : Kv) (deskew : Bool) (n open_ : Nat) : Chan → Int × Bool
  | .cell a lsb w sgn d =>
    let v := chanField (s.bankSlot a n) lsb w sgn
    let u := chanField ((s.slotOf a (tickPrev n)).getD (open_ % 2 ^ 192)) lsb w sgn
    let t : Int := (4 * s.tickNs : Nat)
    let x := if s.deskews deskew d then
        let q := divNear (v * t - (v - u) * (5 * d)) (4 * s.tickNs)
        if sgn then satS 16 q else (satU 16 q : Nat)
      else v
    (x, s.bankLater a n || !s.bankValid a n)
  | .sfe e lp zi rsh sgn =>
    let at_ := sfeCopyAt e lp (bits (s.rd Kv.SFEn_OSEL.SEL e) lp 1)
    let age := (n % 2 ^ 24 + 2 ^ 24 - bits (s.rdLe at_ 4) 8 24) % 2 ^ 24
    let x := satS 16 (sx 32 (s.rdLe (at_ + 4 * (17 + zi)) 4) / (2 ^ rsh : Nat))
    (if sgn then x else (toBits 16 x : Nat), decide (1 ≤ age ∧ age < 2 ^ 23))

/-! ### Rows (R437) -/

/-- Put a row into the next slot of unit `n`: word 1 flags, gap length, values. Whole words are written, so an uncorrectable word is
repaired (R469). (DEDUCED: log entry 90; DESIGN CHOICE: log entry 113.) -/
def Kv.acqPut (s : Kv) (n tick flags len : Nat) (vals : List Int) (keep : List (Option Int)) : Kv :=
  let u := s.acqU n
  let size := acqRowSize (s.rd Kv.ACQn_STAT.C n)
  let rows := s.rd Kv.ACQn_ROWS.ROWS n
  let a := s.acqSlot n u.wp
  let s := s.zero a size
  let s := (s.wrLe a tick 4).wrLe (a + 4) flags 4
  let s := (s.wrLe (a + 8) len 4).wrLe (a + 12) (s.boundaryBefore tick + s.rd Kv.ACQn_REF.SOFS n * 5 / 4) 4
  let s := (vals.foldl (fun (p : Kv × Nat) v => (p.1.wrLe p.2 (toBits 16 v) 2, p.2 + 2)) (s, a + 16)).1
  let s := s.repaired a size
  let row : AcqRow := { slot := u.wp, tick := tick, gap := flags ≥ 2 ^ 31, vals := keep }
  s.setAcq n { u with wp := (u.wp + 1) % rows, rows := (row :: u.rows).take (rows - 1) }

/-- Write the gap row of missed ticks, if any: it breaks the trigger's history (R445, R448). (DEDUCED: log entry 110.) -/
def Kv.acqGap (s : Kv) (n : Nat) : Kv :=
  match (s.acqU n).gap with
  | some (t, len) =>
    let s := s.acqPut n t (2 ^ 31) len [] []
    let s := s.setAcq n { s.acqU n with gap := none, hist := [] }
    (s.count Kv.ACQn_GAPC.GAPS Kv.ACQn_GAPC.SAT Src.ACQ_GAP n).raise Src.ACQ_GAP 0 n
  | none => s

/-! ### Measurements (R451) -/

/-- The state machine of levels (R445): 0 LOW, 1 MID, 2 HIGH. -/
def level (pol : Bool) (hi lo : Int) (st : Nat) (v : Int) : Nat :=
  let isLo := if pol then decide (hi < v) else decide (v < lo)
  let isHi := if pol then decide (v < lo) else decide (hi < v)
  if isLo then 0 else if isHi then 2 else if st = 0 then 1 else st

/-- A level register as the channel's code. (DEDUCED: log entry 178.) -/
def codeOf (sgn : Bool) (v : Nat) : Int := if sgn then sx 16 v else (v % 65536 : Nat)

/-- One row's value of the channel; rows are numbered from the fire row. (DEDUCED: log entry 111.) -/
def Meas.add (pol : Bool) (hi lo : Int) (m : Meas) (i : Nat) (v : Option Int) : Meas :=
  match v with
  | none => m
  | some v =>
    let l := level pol hi lo m.lvl v
    let enters := l == 2 && m.lvl != 2
    { lo := if m.used = 0 then v else min m.lo v
      hi := if m.used = 0 then v else max m.hi v
      sum := m.sum + v
      used := m.used + 1
      entries := if enters then m.entries + 1 else m.entries
      first := if enters && m.entries == 0 then i else m.first
      last := if enters then i else m.last
      lvl := l }

/-- Write the four words of channel `c`. With no value used, MAX, MIN and MEAN are open; a PERIOD that is no whole number is one of
its neighbours. (DESIGN CHOICE: log entry 25.) -/
def Kv.acqMeasWrite (s : Kv) (n c : Nat) (m : Meas) : Kv :=
  let a := s.rd Kv.ACQn_XBASE.XBASE n * 4096 + 16 * c
  let open_ := s.fresh
  let s := if m.used = 0 then open_.2.wrLe a (Config.unstated open_.1) 4
    else s.wrLe a (toBits 16 m.hi * 65536 + toBits 16 m.lo) 4
  let s := if m.used = 0 then (s.fresh).2.wrLe (a + 4) (Config.unstated (s.fresh).1) 4
    else s.wrLe (a + 4) (toBits 32 (divNear (m.sum * 256) m.used)) 4
  let per : Nat × Kv := if m.entries < 2 then (0, s)
    else s.fix 33 0 ((((m.last - m.first) * (s.rd Kv.ACQn_CFG.DEC n + 1) * 256 : Nat) : Rat) / ((m.entries - 1 : Nat) : Rat))
  let s := per.2.wrLe (a + 8) per.1 4
  let s := s.wrLe (a + 12) (min 0xFFFF m.entries * 65536 + min 0xFFFF m.used) 4
  s.repaired a 16

/-- The measurements take one more data row. -/
def Kv.acqMeasRow (s : Kv) (n : Nat) (vals : List (Option Int)) : Kv :=
  let u := s.acqU n
  let chans := s.acqChans n
  s.setAcq n { u with
    measured := u.measured + 1
    meas := (List.range (s.rd Kv.ACQn_STAT.C n)).map (fun c =>
      let sgn := ((chans[c]?).map Chan.sgn).getD false
      ((u.meas[c]?).getD {}).add (s.on Kv.ACQn_CFG.MPOL n) (codeOf sgn (s.rd Kv.ACQn_MLV.MHI n)) (codeOf sgn (s.rd Kv.ACQn_MLV.MLO n))
        u.measured ((vals[c]?).getD none)) }

/-- A record whose fire row stands, with measurements on. -/
def Kv.acqMeasures (s : Kv) (n : Nat) : Bool :=
  s.on Kv.ACQn_CFG.MEAS n && s.rd Kv.ACQn_STAT.STATE n == 2 && (s.acqU n).fireWait.isNone

/-- The data rows from the fire row on that were written before the fire was decided are measured before any further row is written. -/
def Kv.acqMeasCatch (s : Kv) (n : Nat) : Kv :=
  let u := s.acqU n
  if s.acqMeasures n && u.measured == 0 then
    let after := u.rows.takeWhile (fun r => r.slot != u.fireSlot)
    let fire := (u.rows.drop after.length).take 1
    ((after ++ fire).filter (fun r => !r.gap)).reverse.foldl (fun s r => s.acqMeasRow n r.vals) s
  else s

/-- The measurement table of unit `n`, one entry for each channel. -/
def Kv.acqMeasure (s : Kv) (n : Nat) : Kv :=
  s.each (List.range (s.rd Kv.ACQn_STAT.C n)) (fun s c => s.acqMeasWrite n c (((s.acqU n).meas[c]?).getD {}))

/-! ### Records (R447, R449) -/

/-- Close the record of unit `n`: PRE and FROW are set, and every close with MEAS = 1 writes the measurements (R449, R451). A record closed in
ARMED has no fire row. (DEDUCED: log entry 112.) -/
def Kv.acqClose (s : Kv) (n : Nat) : Kv :=
  let s := s.acqMeasCatch n
  let u := s.acqU n
  let fired := s.rd Kv.ACQn_STAT.STATE n == 2 && u.fireWait.isNone
  let s := s.when fired (fun s =>
    let before := (u.rows.dropWhile (fun r => r.slot != u.fireSlot)).length - 1
    (s.wr Kv.ACQn_PRE.PRE before n).wr Kv.ACQn_FROW.FROW u.fireSlot n)
  let s := s.when (s.on Kv.ACQn_CFG.MEAS n) (fun s => s.acqMeasure n)
  let s := s.setAcq n { s.acqU n with armAt := none, fireWait := none, gap := none }
  (s.wr Kv.ACQn_STAT.STATE 3 n).raise Src.ACQ_DONE 0 n

/-- ACQ_RECORD_CLOSE: NPOST has reached POST. -/
def acqRecordCloseKv (n : Nat) (s : Kv) : Kv :=
  if s.rd Kv.ACQn_STAT.STATE n = 2 ∧ (s.acqU n).fireWait.isNone = true ∧
      s.rd Kv.ACQn_PTRIG.POST n ≤ s.rd Kv.ACQn_NPOST.NPOST n then s.acqClose n
  else s

/-! ### Triggers and masks (R445, R452, R453) -/

/-- Run the trigger of unit `n` on a row's value of its channel; the new state, and whether its condition holds. (DEDUCED: log entry 111.) -/
def Kv.acqTrigger (s : Kv) (n : Nat) (sgn : Bool) (v : Option Int) : Kv × Bool :=
  let u := s.acqU n
  let kind := s.rd Kv.ACQn_TRG.KIND n
  let hi := codeOf sgn (s.rd Kv.ACQn_TLV.HI n)
  let lo := codeOf sgn (s.rd Kv.ACQn_TLV.LO n)
  let wlo := s.rd Kv.ACQn_TWID.WLO n
  let whi := s.rd Kv.ACQn_TWID.WHI n
  let l := match v with
    | some x => level (s.on Kv.ACQn_TRG.POL n) hi lo u.trig x
    | none => u.trig
  let width := u.width + 1
  let change := (l == 2 && u.trig != 2) || (l == 0 && u.trig == 2)
  let quiet := if change then 0 else u.quiet + 1
  let pulse := u.trig == 2 && l == 0
  let inside := decide (wlo ≤ width ∧ width ≤ whi)
  let slew := match v, u.hist[wlo - 1]? with
    | some x, some (some y) => decide (1 ≤ wlo ∧ wlo ≤ 255) && decide (s.rd Kv.ACQn_TLV.HI n < (x - y).natAbs)
    | _, _ => false
  let hit := (kind == 1 && pulse && (inside != s.on Kv.ACQn_TRG.OUT n)) || (kind == 2 && u.trig == 1 && l == 0) ||
    (kind == 3 && !change && decide (whi ≤ quiet)) || (kind == 4 && slew)
  let u' := { u with trig := l, width := if l == 2 && u.trig != 2 then 0 else width, quiet := quiet, hist := (v :: u.hist).take 255 }
  (s.setAcq n u', hit)

/-- The mask of channel `c` (R452). -/
def Kv.acqMaskAt (s : Kv) (n c : Nat) : Nat := s.rd Kv.ACQn_MBASE.MBASE n * 4096 + 4 * c

/-- The uncorrectable words that the mask test of a row reads: the values they belong to are not tested (R468). -/
def Kv.acqMaskBad (s : Kv) (n : Nat) (vals : List (Option Int)) : List Nat :=
  if s.rd Kv.ACQn_CFG.MACT n = 0 then []
  else (((List.range vals.length).filter (fun c => ((vals[c]?).getD none).isSome)).flatMap (fun c => s.badWords (s.acqMaskAt n c) 4)).eraseDups

/-- The first channel of a row outside its mask (R452). -/
def Kv.acqViolation (s : Kv) (n : Nat) (chans : List Chan) (vals : List (Option Int)) : Option Nat :=
  if s.rd Kv.ACQn_CFG.MACT n = 0 then none
  else
    (List.range vals.length).find? (fun c =>
      match (vals[c]?).getD none with
      | some v =>
        let w := s.rdLe (s.acqMaskAt n c) 4
        let sgn := ((chans[c]?).map Chan.sgn).getD false
        !s.bad (s.acqMaskAt n c) && decide (v < codeOf sgn (bits w 0 16) ∨ codeOf sgn (bits w 16 16) < v)
      | none => false)

/-- The members other than `n` that are still ARMED fire with it (R453). -/
def Kv.acqOthers (s : Kv) (n f : Nat) : Kv :=
  s.each (s.acqMembers.filter (fun m => m != n)) (fun s m =>
    s.when (s.rd Kv.ACQn_STAT.STATE m == 1) (fun s => s.acqFireUnit m f 5))

/-- A violating row of tick `f`: counted and raised, then what MACT asks for. Answers whether it stopped the unit. -/
def Kv.acqViolate (s : Kv) (n f c : Nat) : Kv × Bool :=
  let s := (s.count Kv.ACQn_MCNT.MCNT Kv.ACQn_MCNT.SAT Src.ACQ_MASK n).wr Kv.ACQn_MCNT.MCH c n
  let s := s.raise Src.ACQ_MASK 0 (n * 65536 + c)
  let act := s.rd Kv.ACQn_CFG.MACT n
  if act = 2 then (s.acqFire (fun m => m == n) f 9, false)
  else if act = 3 then
    let s := s.when (s.rd Kv.ACQn_STAT.STATE n == 1) (fun s => s.acqFire (fun m => m == n) f 9)
    ((((s.mark Kv.ACQn_STAT.STOP n).acqClose n).acqOthers n f), true)
  else (s, false)

/-! ### Gathering (R438, R447, R448) -/

/-- Unit `n` writes a row for tick `f`: it runs, `f` is one of its ticks, the row lies at or after its arm and after its newest row, and
the report-arrival point of `f` has passed. -/
def Kv.acqDue (s : Kv) (n f : Nat) : Bool :=
  let st := s.rd Kv.ACQn_STAT.STATE n
  let u := s.acqU n
  (st == 1 || (st == 2 && (u.fireWait.isSome || decide (s.rd Kv.ACQn_NPOST.NPOST n < s.rd Kv.ACQn_PTRIG.POST n)))) &&
  s.on Kv.ACQn_CFG.EN n && f % (s.rd Kv.ACQn_CFG.DEC n + 1) == 0 && !tickAhead f u.armTick &&
  (u.rows.all (fun r => tickAhead r.tick f)) && s.closedFor f

/-- ACQ_ROW_GATHER: the row of tick `f`. The row is written, then the masks are tested, then the trigger is evaluated. -/
def acqRowGatherKv (n f : Nat) (s : Kv) : Kv :=
  if !s.acqDue n f then s
  else
    let s := (s.acqMeasCatch n).acqGap n
    let chans := (s.acqChans n).take (s.rd Kv.ACQn_STAT.C n)
    let deskew := s.on Kv.ACQn_CFG.DESKEW n
    let got := chans.zipIdx.map (fun p =>
      let v := s.chanValue deskew f (Config.unstated (s.free + 2 * p.2)) p.1
      if (s.chanBad deskew f p.1).isEmpty then v else ((Config.unstated (s.free + 2 * p.2 + 1) % 2 ^ 16 : Nat), true))
    let s := ({ s with free := s.free + 2 * chans.length } : Kv).reportUnc (chans.flatMap (s.chanBad deskew f)).eraseDups
    let cfgf := deskew && chans.any (fun c => match c with | .cell _ _ _ _ d => s.skewBad d | .sfe _ _ _ _ _ => false)
    let s := s.when cfgf (fun s => s.mark Kv.ACQn_STAT.CFGF n)
    let vals := got.map (fun p => if p.2 then none else some p.1)
    let isFire := match (s.acqU n).fireWait with
      | some t => !tickAhead f t
      | none => false
    let post := s.rd Kv.ACQn_STAT.STATE n == 2 && (s.acqU n).fireWait.isNone
    let slot := (s.acqU n).wp
    let s := s.acqPut n f (b2n isFire * 2 ^ 30 + (got.filter (·.2)).length) 0 (got.map (·.1))
      (if s.on Kv.ACQn_CFG.MEAS n then vals else [])
    let s := s.when isFire (fun s => s.setAcq n { s.acqU n with fireWait := none, fireSlot := slot })
    let s := s.when post (fun s => s.wr Kv.ACQn_NPOST.NPOST (s.rd Kv.ACQn_NPOST.NPOST n + 1) n)
    let s := s.when (s.acqMeasures n) (fun s => s.acqMeasRow n vals)
    let tch := s.rd Kv.ACQn_TRG.TCH n
    let t := s.acqTrigger n (((chans[tch]?).map Chan.sgn).getD false) ((vals[tch]?).getD none)
    let armed := s.rd Kv.ACQn_STAT.STATE n == 1
    let u := t.1.reportUnc (t.1.acqMaskBad n vals)
    let v := match u.acqViolation n chans vals with
      | some c => u.acqViolate n f c
      | none => (u, false)
    v.1.when (!v.2 && armed && t.2) (fun s =>
      s.acqFire (fun m => m == n && s.acqSrcOn 0 n) f (s.rd Kv.ACQn_TRG.KIND n))

/-- ACQ_ROW_MISSED: the row of tick `f` is not in DRAM by its deadline; the gap row comes before the next row written (R448). (DEDUCED: log entry 110.) -/
def acqRowMissedKv (n f : Nat) (s : Kv) : Kv :=
  if !s.acqDue n f then s
  else
    let d := s.rd Kv.ACQn_CFG.DEC n + 1
    let u := s.acqU n
    match u.gap with
    | some (t, len) => s.when (!tickAhead f (tickPlus t len)) (fun s => s.setAcq n { u with gap := some (t, ticksTo t f + d) })
    | none => s.setAcq n { u with gap := some (f, d) }

/-! ### Service (R439, R450) -/

/-- Bytes that unit `n` writes per (DEC + 1) ticks. -/
def Kv.acqLoad (s : Kv) (n : Nat) : Rat :=
  let c := (s.acqChans n).length
  let b := acqRowSize c + (if s.rd Kv.ACQn_CFG.MACT n = 0 then 0 else 4 * c)
  (b : Rat) / ((s.rd Kv.ACQn_CFG.DEC n + 1 : Nat) : Rat)

/-- The configuration of unit `n` may be taken into service beside the others that are. -/
def Kv.acqFits (s : Kv) (n : Nat) : Bool :=
  let c := (s.acqChans n).length
  let load := (((List.range 4).filter (fun m => m == n || s.on Kv.ACQn_CFG.EN m)).map s.acqLoad).foldl (· + ·) 0
  decide (10 * load ≤ ((64 * s.tickNs : Nat) : Rat)) &&
  s.inAcqRegion (s.rd Kv.ACQn_BASE.BASE n * 4096) (s.rd Kv.ACQn_ROWS.ROWS n * acqRowSize c) &&
  (!s.on Kv.ACQn_CFG.MEAS n || decide (c ≤ 256))

/-- ACQ_ENABLE: ACQn_CFG is written with `v`, which sets EN. (DEDUCED: log entry 108.) -/
def acqEnableKv (n v : Nat) (s : Kv) : Kv :=
  let off := Kv.ACQn_CFG.EN.addr n 0
  let t := s.writeReg off (setBit v 31 true)
  if s.on Kv.ACQn_CFG.EN n then t
  else if t.acqFits n then t.wr Kv.ACQn_STAT.C (t.acqChans n).length n
  else s.regacc 18 off

/-- ACQ_DISABLE: ACQn_CFG is written with `v`, which clears EN. A running unit writes a closing row. (DEDUCED: log entry 112.) -/
def acqDisableKv (n v : Nat) (s : Kv) : Kv :=
  let st := s.rd Kv.ACQn_STAT.STATE n
  let was := s.on Kv.ACQn_CFG.EN n
  let s := s.writeReg (Kv.ACQn_CFG.EN.addr n 0) (setBit v 31 false)
  let s := s.setAcq n { s.acqU n with armAt := none }
  if was && (st == 1 || st == 2) then
    let s := ((s.acqMeasCatch n).acqGap n).acqPut n s.tick (2 ^ 31 + 2 ^ 29) 0 [] []
    (s.mark Kv.ACQn_STAT.SHORT n).acqClose n
  else s

/-- ACQn_CFG is written. -/
def Kv.acqCfgWrite (s : Kv) (n v : Nat) : Kv := if bit v 31 then acqEnableKv n v s else acqDisableKv n v s

/-! ### Arming (R441 to R443) -/

/-- Bring unit `n` into ARMED from the row of tick `t` on. -/
def Kv.acqArmAt (s : Kv) (n t : Nat) : Kv :=
  (s.acqArmUnit n t).wr Kv.ACQn_STAT.C (s.acqChans n).length n

/-- At a boundary: the units whose arm tick has come. -/
def Kv.acqBoundary (s : Kv) (t : Nat) : Kv :=
  s.each (List.range 4) (fun s n =>
    match (s.acqU n).armAt with
    | some a => s.when (!tickAhead t a && s.on Kv.ACQn_CFG.EN n) (fun s => s.acqArmAt n a)
    | none => s)

/-- ACQ_ARM_GO: ACQ_ARM is written with GO = 1, and its RW fields take the write even where GO is refused (R8). A member armed anew gives its record up at the arm tick. (DEDUCED: log entry 112.) -/
def acqArmGoKv (atick : Nat) (cells : Bool) (s : Kv) : Kv :=
  let off := Kv.ACQ_ARM.GO.base
  let d := (atick % 65536 + 65536 - s.tick % 65536) % 65536
  let ms := s.acqMembers
  let s := (s.wr Kv.ACQ_ARM.ATICK atick).wr Kv.ACQ_ARM.CELLARM (b2n cells)
  if d < s.lead + 2 ∨ 32767 < d then s.regacc 19 off
  else if !s.on Kv.ACQn_CFG.EN (s.rd Kv.ACQ_CTRL.MSTR) ||
      ms.any (fun n => s.rd Kv.ACQn_STAT.STATE n == 1 || s.rd Kv.ACQn_STAT.STATE n == 2) then s.regacc 18 off
  else
    let t := tickFrom s.tick atick
    let s := s.each (ms.filter (fun n => s.on Kv.ACQn_CFG.EN n)) (fun s n => s.setAcq n { s.acqU n with armAt := some t })
    s.when cells (fun s => { (s.wr Kv.ACQ_CTRL.NARM 0) with cellArm := some t })

/-- ACQ_CROSS_ARM: port `p` receives the header of a frame of the other chip with BARM = 1. (DEDUCED: log entry 108.) -/
def acqCrossArmKv (p : Nat) (h : Header) (s : Kv) : Kv :=
  let ms := s.acqMembers
  let free := ms.all (fun n => s.rd Kv.ACQn_STAT.STATE n == 0 || s.rd Kv.ACQn_STAT.STATE n == 3)
  if s.spLive p && h.valid p && !h.isFold && s.fromOther h && h.barm && s.on Kv.ACQ_CTRL.XARM && free then
    s.each (ms.filter (fun n => s.on Kv.ACQn_CFG.EN n)) (fun s n => s.acqArmAt n h.tickno.toNat)
  else s

/-! ### Firing (R444) -/

/-- ACQ_ARM_FIRE: ACQ_ARM is written with FIRE = 1. Before any row has been written there is no fire tick at or after the arm. (DEDUCED: log entry 109.) -/
def acqArmFireKv (s : Kv) : Kv :=
  match s.acqMembers.flatMap (fun n => ((s.acqU n).rows.filter (fun r => !r.gap)).map (·.tick)) with
  | [] => s
  | t :: l => s.acqFire (fun _ => true) (l.foldl tickMax t) 0

/-- ACQ_CELL_FIRE: port `p` receives a trailer of the frame of tick `f`, from the other chip or a fold frame. -/
def acqCellFireKv (p f : Nat) (t : Trailer) (s : Kv) : Kv :=
  if s.spLive p && t.cfire && t.valid p f then
    let src := fun n => s.acqSrcOn 1 n && bit (s.rd Kv.ACQn_SMSK.SMSK n) p
    let r := s.acqFire src f 6
    let first := fun n => src n && r.rd Kv.ACQn_STAT.STATE n == 2 && r.rd Kv.ACQn_FTIK.F n == f % 2 ^ 32 && !(r.acqU n).cellFire
    r.each (r.acqMembers.filter first) (fun r n =>
      ((r.wr Kv.ACQn_FPOS.FSTR p n).wr Kv.ACQn_FPOS.FPOS t.fpos.toNat n).setAcq n { r.acqU n with cellFire := true })
  else s

/-- ACQ_OTHER_CHIP_FIRE: port `p` receives the header of a frame of the other chip with BFIRE = 1. -/
def acqOtherChipFireKv (p : Nat) (h : Header) (s : Kv) : Kv :=
  if s.spLive p && h.valid p && !h.isFold && s.fromOther h && h.bfire then
    s.acqFire (s.acqSrcOn 2) (tickPlus h.tickno.toNat (2 ^ 48 - s.rd Kv.ACQ_CTRL.XLAG)) 7
  else s

end Sys2Proof.Machine
end

