-- ==== Sys2Proof/Machine/Program.lean ====
section
/-! DEFINITION. Loading a valve program image (R334, R335, R221), forces (R355 to R357, R367), and on-line change (R358, R359). -/

namespace Sys2Proof.Machine

/-! ### Loading -/

/-- The word that the register at an offset takes from `v`: an SFE descriptor of a channel group ignores SEL [10:0], which is reserved there
(R9, R457). -/
def unreserved (off v : Nat) : Nat :=
  if (Kv.ACQn_GDk.SEL.at? off).isSome && bit v 30 then putBits v 0 11 0 else v

/-- Write the RW and RWL fields of the register at an offset, as an image loads them. -/
def Kv.loadReg (s : Kv) (p : Nat × Word) : Kv :=
  let v := unreserved p.1 p.2.toNat
  Kv.flds.foldl (fun s f =>
    match f.at? p.1 with
    | some (i, j) => if f.acc = .rw ∨ f.acc = .rwl then s.wr f (bits v f.lo f.w) i j else s
    | none => s) s

/-- Write bytes from a system address. -/
def Kv.putBytes (s : Kv) (a : Nat) (l : List Byte) : Kv := (l.foldl (fun (p : Kv × Nat) b => (p.1.wrByte p.2 b, p.2 + 1)) (s, a)).1

/-- Bytes stored from `a`; whole words among them are new data, and a word stored in part that cannot be read keeps its bytes (R469). -/
def Kv.storeBytes (s : Kv) (a : Nat) (l : List Byte) : Kv :=
  (wordPieces a l.length).foldl (fun s p => s.storeWord p.1 p.2 (fun s => s.putBytes p.1 ((l.drop (p.1 - a)).take p.2))) s

/-- DRAM address of an image slot (R461). -/
def slotAddr (slot : Bool) : Nat := b2n slot * 0x2000000

/-- Every section in the image slot gives the check value of the section table, and none has an uncorrectable word (R478). (DESIGN CHOICE: log entry 141.) -/
def Kv.sectionsCheck (s : Kv) (slot : Bool) (i : Image) : Bool :=
  (i.sections.zip (List.range i.sections.length)).all (fun p =>
    let a := slotAddr slot + p.1.ofs
    s.crcOf a p.1.len p.2 == p.1.crc.toNat && (s.badWords a p.1.len).isEmpty)

/-- The image in a slot passes the checks of its sections, security version, key slot and signature under the chip's security state: in OPEN
a failing signature alone is let pass, in RETIRED nothing passes (R478, R544, R549). (DEDUCED: log entry 120.) -/
def Kv.imageAccepted (s : Kv) (slot : Bool) (i : Image) : Bool :=
  let st := s.rd Kv.SEC_STAT.STATE
  s.sectionsCheck slot i && decide (s.sec.svn ≤ i.svn.toNat) && st != 3 && (s.sec.slotOf [0, 1, 2, 3] i.keyHash).isSome && (st == 0 || i.sig)

/-- The arm that the cell map assigns to string `n`. -/
def Image.armOf (i : Image) (n : Nat) : Option Nat := (i.arms.find? (fun e => e.1 == n)).map Prod.snd

/-- The cell map is one: each string serves one of the arms, each arm has at most 1,024 modules, and every position is a power cell, a sensor
or empty, with the settings its fields allow (R19, R222, R580). (DEDUCED: log entry 161.) -/
def Image.mapFormed (i : Image) : Bool :=
  let modules := i.cells.filter (fun c => ctlClass c.2.toNat != 2)
  let power := i.cells.filter (fun c => ctlClass c.2.toNat == 0)
  i.arms.all (fun e => decide (e.1 < 32 ∧ e.2 < 12)) && decide (i.arms.map Prod.fst).Nodup &&
  i.cells.all (fun c => decide (c.1 < 8192) && (i.armOf (c.1 / 256)).isSome && decide (ctlClass c.2.toNat ≤ 2)) &&
  (List.range 12).all (fun k => decide ((modules.filter (fun c => i.armOf (c.1 / 256) == some k)).length ≤ 1024)) &&
  power.all (fun c => ctlMidx c.2.toNat == (power.filter (fun d => i.armOf (d.1 / 256) == i.armOf (c.1 / 256) && decide (d.1 < c.1))).length)

/-- The section table names the sections of R334 in their order, one after the other within the total length, which an image slot holds. (DEDUCED: log entry 161.) -/
def Image.tableFormed (i : Image) : Bool :=
  decide (i.sections.map Section.kind = [.header, .timing, .map] ++ i.code.map (fun _ => SectionKind.code) ++
    [.data, .tasks, .counters, .vars, .settings, .signature]) &&
  (i.sections.zip i.sections.tail).all (fun p => decide (p.1.ofs + p.1.len ≤ p.2.ofs)) &&
  i.sections.all (fun x => decide (x.ofs + x.len ≤ i.length)) && i.raw.length == i.length && decide (i.length ≤ 0x2000000)

/-- The variable table is one: an identity of its own for each variable, sizes as R334 allows. (DEDUCED: log entry 161.) -/
def Image.varsFormed (i : Image) : Bool :=
  decide (i.vars.map Var.vid).Nodup && i.vars.all (fun v => decide (v.vid < 65536 ∧ 1 ≤ v.size ∧ v.size ≤ 4096))

/-- Its section table, target and code sections are as R334 asks, and no value that it sets is reserved or out of range in its field
map (R580). (DEDUCED: log entry 161.) -/
def Image.formed (i : Image) : Bool :=
  i.forKv && i.tableFormed && i.mapFormed && i.varsFormed &&
  (List.range 16).all (fun n => (i.code.filter (fun c => c.1.getLsbD n)).length == 1) &&
  i.code.all (fun c => decide (c.2.length ≤ 65536)) &&
  i.regs.all (fun r => Kv.flds.all (fun f => (f.at? r.1).isNone || f.ok (bits r.2.toNat f.lo f.w)))

/-- Every counter holds INIT, with no count under way. -/
def Kv.reloadCounters (s : Kv) : Kv :=
  let s := s.each (List.range 256) (fun s j => s.wr Kv.DSP_CNTj.VAL (if s.on Kv.DSP_CNTj.EN j then s.rd Kv.DSP_CNTj.INIT j else 0) j)
  { s with dsp := { s.dsp with cntTick := [], cntRel := [] } }

/-- Load cores, blocks and tables from an image; the cores start from their reset. The image's security version and signature show in
SEC_STAT. (DESIGN CHOICE: log entries 6, 13.) -/
def Kv.loadImage (s : Kv) (i : Image) : Kv :=
  let s := i.regs.foldl Kv.loadReg s
  let s := i.code.foldl (fun s c => s.each ((List.range 16).filter (fun n => c.1.getLsbD n)) (fun s n => s.storeBytes (sysImem n) c.2)) s
  let s := i.data.foldl (fun s d => (s.storeBytes d.1 d.2).sfeTidy d.1 d.2.length) s
  let slot := s.sec.slotOf [0, 1, 2, 3] i.keyHash
  let s := (s.wr Kv.SEC_STAT.UNSG (b2n (!(slot.isSome && i.sig)))).wr Kv.SEC_STAT.ISLOT (slot.getD 0)
  let s := { s with sec := { s.sec with imgSvn := i.svn.toNat } }
  let s := { s with dsp := { s.dsp with
    img := some i, vars := i.vars, entries := i.entries.foldl (fun (t : Tab Nat) (e : Nat × BitVec 16) => Tab.set 0 e.1 e.2.toNat t) [] } }
  s.reloadCounters.each (List.range 16) Kv.resetCore

/-- CTL word 0 that the cell map gives a cell: CLASS, ARM, MIDX and CSET; the rest is 0 (R222). -/
def Image.ctlOf (i : Image) (c : Nat × Word) : Nat :=
  let w := c.2.toNat
  ctlClass w * 2 ^ 29 + (i.armOf (c.1 / 256)).getD 0 * 2 ^ 25 + ctlMidx w * 2 ^ 15 + ctlCset w

/-- In PHASE 2 every record of the arena is written: CTL from the cell map, CLASS 2 elsewhere, every other byte 0; PRG comes with the
image's data, which is loaded after this (R221). -/
def Kv.clearRecords (s : Kv) (i : Image) : Kv :=
  let s := { s with
    mem := s.mem.filter (fun e => decide (e.1 < sysArena ∨ sysArena + 0x200000 ≤ e.1))
    unc := s.unc.filter (fun e => decide (8 * e.1 < sysArena ∨ sysArena + 0x200000 ≤ 8 * e.1)) }
  let s := s.each (List.range 8192) (fun s a => s.wrByte (recAddr a + 0x40) 0x40)
  let s := { s with col := { s.col with last := [] } }
  i.cells.foldl (fun s c => s.setCtl0 c.1 (i.ctlOf c)) s

/-! ### Forces -/

/-- DSP_FUSEm and DSP_FORPHm show the table. -/
def Kv.showForces (s : Kv) : Kv :=
  let mask := fun (lo : Nat) (p : Force → Bool) => (List.range 32).foldl (fun v i =>
    setBit v i (match Tab.get none (lo + i) s.dsp.forces with | some f => p f | none => false)) 0
  let s := (s.wr Kv.DSP_FUSE0.USE (mask 0 (fun _ => true))).wr Kv.DSP_FUSE1.USE (mask 32 (fun _ => true))
  (s.wr Kv.DSP_FORPH0.ORPH (mask 0 (fun f => f.orphan))).wr Kv.DSP_FORPH1.ORPH (mask 32 (fun f => f.orphan))

/-- The declared, forceable variable of a VID that holds `size` bytes at `ofs`. -/
def forceTarget (vars : List Var) (vid ofs size : Nat) : Option Var :=
  vars.find? (fun v => v.vid == vid && v.forceable && decide (ofs + size ≤ v.size) && ofs % size == 0)

/-- A forced value written to memory: most significant byte first in a cell record, as CLW and loads read it (R301, R355). -/
def Kv.forceValue (s : Kv) (a v n : Nat) : Kv := if beWord a then s.storeBe a v n else s.storeLe a v n

/-- The table remapped by VID after a load: an active entry takes its value to the variable's new address; one that finds no place is orphaned,
for good (R357). (DEDUCED: log entry 105.) -/
def Kv.remapForces (s : Kv) : Kv :=
  let s := s.each (List.range 64) (fun s e =>
    match Tab.get none e s.dsp.forces with
    | some f =>
      if f.orphan then s
      else
        match forceTarget s.dsp.vars f.vid f.ofs f.size with
        | some v =>
          let s := s.when f.active (fun s => s.forceValue (v.addr + f.ofs) f.val f.size)
          { s with dsp := { s.dsp with forces := Tab.set none e (some { f with addr := v.addr + f.ofs }) s.dsp.forces } }
        | none =>
          let s := { s with dsp := { s.dsp with forces := Tab.set none e (some { f with orphan := true }) s.dsp.forces } }
          s.raise Src.DSP_ORPH 0 e
    | none => s)
  s.showForces

/-- FORCE_READ_ENTRY: CMD 0 loads an entry into DSP_FRCS, DSP_FRCV and DSP_FRCH; of a free entry the spec states no content (R367). (DESIGN CHOICE: log entry 29.) -/
def forceReadEntryKv (e : Nat) (s : Kv) : Kv :=
  let s := s.wr Kv.DSP_FRCC.ENTRY e
  match Tab.get none (e % 64) s.dsp.forces with
  | some f =>
    let s := ((s.wr Kv.DSP_FRCS.VID f.vid).wr Kv.DSP_FRCS.OFS f.ofs).wr Kv.DSP_FRCS.SIZE (Nat.log2 f.size)
    (s.wr Kv.DSP_FRCV.VLO f.val).wr Kv.DSP_FRCH.VHI (f.val / 2 ^ 32)
  | none =>
    let x := Config.unstated s.free
    let s := ((s.wr Kv.DSP_FRCS.VID x).wr Kv.DSP_FRCS.OFS (x / 2 ^ 16)).wr Kv.DSP_FRCS.SIZE (x / 2 ^ 28)
    { (s.wr Kv.DSP_FRCV.VLO (x / 2 ^ 30)).wr Kv.DSP_FRCH.VHI (x / 2 ^ 62) with free := s.free + 1 }

/-- A change of the force table is asked for by a write of DSP_FRCC, which its RW fields take (R8): on the duty, at least 2 ticks ahead, of a range that may be forced (R355, R356). The duty
sends it to the standby. -/
def Kv.forceAsk (s : Kv) (e ftick : Nat) (set : Bool) : Kv :=
  let off := Kv.DSP_FRCC.CMD.base
  let s := (s.wr Kv.DSP_FRCC.ENTRY e).wr Kv.DSP_FRCC.FTICK ftick
  let size := 2 ^ s.rd Kv.DSP_FRCS.SIZE
  let vid := s.rd Kv.DSP_FRCS.VID
  let ofs := s.rd Kv.DSP_FRCS.OFS
  let d := (ftick % 65536 + 65536 - s.tick % 65536) % 65536
  if !s.duty then s.regacc 17 off
  else if d < 2 ∨ 32767 < d then s.regacc 19 off
  else if set && (forceTarget s.dsp.vars vid ofs size).isNone then s.regacc 18 off
  else
    let val := (s.rd Kv.DSP_FRCV.VLO + 2 ^ 32 * s.rd Kv.DSP_FRCH.VHI) % 2 ^ (8 * size)
    let c : FrcChange :=
      { tick := tickFrom s.tick ftick, entry := e % 64, set := set, vid := vid, ofs := ofs, size := size, val := val, arrived := false }
    let s := { s with dsp := { s.dsp with changes := s.dsp.changes ++ [c] } }
    s.castleSend 0x07 [c.tick, c.entry, b2n set, vid, ofs, size, val]

/-- FORCE_SET and FORCE_DEL: DSP_FRCC is written with CMD 1 or 2. -/
def forceSetKv (e ftick : Nat) (s : Kv) : Kv := s.forceAsk e ftick true
def forceDelKv (e ftick : Nat) (s : Kv) : Kv := s.forceAsk e ftick false

/-- A change reaches the standby before the boundary of its tick (R356). (DEDUCED: log entry 104.) -/
def Kv.forceInTime (s : Kv) (c : FrcChange) : Bool := tickAhead s.tick c.tick

/-- FORCE_MESSAGE at the standby. -/
def forceMessageKv (e : Envelope) (c : FrcChange) (s : Kv) : Kv :=
  s.castleIn e (fun s =>
    if !s.duty && s.forceInTime c then { s with dsp := { s.dsp with changes := s.dsp.changes ++ [{ c with arrived := true }] } }
    else s)

/-- FORCE_MESSAGE at the duty that sent it: whether the change arrived in time. -/
def Kv.forceMarked (s : Kv) (c : FrcChange) : Kv :=
  { s with dsp := { s.dsp with changes := s.dsp.changes.map (fun d =>
      if d.tick = c.tick ∧ d.entry = c.entry ∧ d.set = c.set then { d with arrived := true } else d) } }

/-- FORCE_APPLY: one change at the boundary of its tick. SET writes the value into memory and activates the entry, but leaves an orphaned entry
as it is (R357); DEL frees it. (DEDUCED: log entry 105.) -/
def Kv.forceApply (s : Kv) (c : FrcChange) : Kv :=
  let orphan := match Tab.get none c.entry s.dsp.forces with | some f => f.orphan | none => false
  if c.set then
    match (if orphan then none else forceTarget s.dsp.vars c.vid c.ofs c.size) with
    | some v =>
      let a := v.addr + c.ofs
      let s := s.forceValue a c.val c.size
      { s with dsp := { s.dsp with forces := Tab.set none c.entry (some ⟨c.vid, c.ofs, c.size, c.val, a, true, false⟩) s.dsp.forces } }
    | none => s
  else { s with dsp := { s.dsp with forces := Tab.set none c.entry none s.dsp.forces } }

/-- The changes due at B(n). On the duty one that did not reach the standby in time, with the link up, is applied by neither and
reported (R356). (DEDUCED: log entry 104.) -/
def Kv.forcesAt (s : Kv) (n : Nat) : Kv :=
  let due := s.dsp.changes.filter (fun c => !tickAhead n c.tick)
  let s := { s with dsp := { s.dsp with changes := s.dsp.changes.filter (fun c => tickAhead n c.tick) } }
  let s := due.foldl (fun s c =>
    if c.arrived || !s.on Kv.CL_STAT.UP then s.forceApply c
    else (s.mark Kv.DSP_FSTAT.LATE).raise Src.DSP_FRC 0 c.entry) s
  s.showForces

/-! ### On-line change (R358) -/

/-- Every item ends; ready ones and counts are dropped. -/
def Kv.endAll (s : Kv) : Kv :=
  let s := s.each (List.range 16) (fun s n => (s.endItem n 0 true).endItem n 1 true)
  let s := s.each (List.range 16) (fun s n => s.onCore n (fun k => { k with stall := none, swReq := false }))
  { s with dsp := { s.dsp with ready := [], flows := [], t0Due := [], t0Run := none } }

/-- The program mode that the duty's last STATE names (R358). -/
def Kv.dutyMode (s : Kv) : Nat :=
  match s.cas.other with
  | some o => if o.claim then o.mode.toNat else s.mode
  | none => s.mode

/-- The other image, in image slot `slot`, takes over on the standby: items end, cores, blocks and tables are loaded, forces are remapped, and it
goes on under the duty's program mode (R357, R358). -/
def Kv.changeImage (s : Kv) (slot : Bool) (i : Image) : Kv :=
  let s := ((s.endAll.loadImage i).remapForces).wr Kv.DSP_STAT.MODE s.dutyMode
  { s with boot := { s.boot with slot := slot } }

/-- OLC_LOAD: refused on the duty and outside IDLE. -/
def olcLoadKv (s : Kv) : Kv :=
  if s.duty || s.rd Kv.DSP_OLC.STATE != 0 then s.regacc 17 Kv.DSP_OLC.CMD.base else s.wr Kv.DSP_OLC.STATE 1

/-- OLC_IMAGE_LOADED: the image in the other image slot has been checked; at the boundary it is loaded, unless an ABORT came before, or the change
fails and the old image is to be reloaded (R358). (DESIGN CHOICE: log entry 141.) -/
def olcImageLoadedKv (i : Image) (s : Kv) : Kv :=
  if s.duty || s.rd Kv.DSP_OLC.STATE != 1 || s.dsp.olcReload then s
  else if s.imageAccepted (!s.boot.slot) i && i.formed then
    let s := { s with dsp := { s.dsp with oldImg := s.dsp.img }, olcDirty := false }
    ((s.changeImage (!s.boot.slot) i).wr Kv.DSP_OLCN.DONE 0).wr Kv.DSP_OLC.STATE 2
  else
    let s := (s.wr Kv.DSP_OLC.STATE 5).raise Src.DSP_OLC 0 0
    { s with dsp := { s.dsp with olcReload := true } }

/-- OLC_CHECKED: DONE has reached NCHK. -/
def olcCheckedKv (s : Kv) : Kv :=
  if s.rd Kv.DSP_OLC.STATE = 2 ∧ s.rd Kv.DSP_OLCN.NCHK ≤ s.rd Kv.DSP_OLCN.DONE then s.wr Kv.DSP_OLC.STATE 3 else s

/-- OLC_COMMIT: in CHECKED, on the standby, which sends COMMITREQ (R396). -/
def olcCommitKv (ctick : Nat) (s : Kv) : Kv :=
  let s := s.wr Kv.DSP_OLC.CTICK ctick
  if s.duty || s.rd Kv.DSP_OLC.STATE != 3 then s.regacc 17 Kv.DSP_OLC.CMD.base
  else
    let s := s.wr Kv.DSP_OLC.STATE 4
    ({ s with dsp := { s.dsp with olcTick := tickFrom s.tick ctick } } : Kv).castleSend 0x05 [4, ctick % 65536, s.rd Kv.CL_RDY.COND]

/-- OLC_ABORT: in LOADING, SHADOW or CHECKED the old image is reloaded at the next boundary. -/
def olcAbortKv (s : Kv) : Kv :=
  let st := s.rd Kv.DSP_OLC.STATE
  if s.duty || !(st == 1 || st == 2 || st == 3) then s.regacc 17 Kv.DSP_OLC.CMD.base
  else { s with dsp := { s.dsp with olcReload := true } }

/-- The boundary of an on-line change: a reload due, else the count of clean ticks (R358). -/
def Kv.olcBoundary (s : Kv) : Kv :=
  if s.dsp.olcReload then
    let s := match s.dsp.oldImg, s.dsp.img with
      | some i, _ => s.changeImage (!s.boot.slot) i
      | none, some i => s.changeImage s.boot.slot i
      | none, none => s
    let s := (s.wr Kv.DSP_OLC.STATE 0).wr Kv.DSP_OLCN.DONE 0
    { s with dsp := { s.dsp with olcReload := false, oldImg := none }, olcDirty := false }
  else
    let st := s.rd Kv.DSP_OLC.STATE
    if st = 2 ∨ st = 3 then
      let dirty := s.olcDirty
      let s := { s with olcDirty := false }
      if dirty then
        let s := (s.wr Kv.DSP_OLCN.DONE 0).wr Kv.DSP_OLC.STATE 2
        s.when (st == 3) (fun s => s.raise Src.DSP_OLC 0 0)
      else s.wr Kv.DSP_OLCN.DONE (min (s.rd Kv.DSP_OLCN.NCHK) (s.rd Kv.DSP_OLCN.DONE + 1))
    else { s with olcDirty := false }

end Sys2Proof.Machine
end

