-- ==== Sys2Proof/Machine/Sfe.lean ====
section
/-! DEFINITION. The state-feedback engines (R257 to R286). A loop executes in one step, so no loop is ever seen running. -/

namespace Sys2Proof.Machine

/-! ### Injection (R273 to R275) -/

/-- 2^80 × π. -/
def piFix : Int := 3797952473636338580787993

/-- 2^80 × sin of an angle of 0 to π/2 given as 2^80 × its radians, by its series. -/
def sinQuarter (a : Int) : Int :=
  let one : Int := 2 ^ 80
  let sq := a * a / one
  ((List.range 14).foldl (fun (p : Int × Int) i =>
    let t := -(p.2 * sq / one / ((2 * (i : Int) + 2) * (2 * (i : Int) + 3)))
    (p.1 + t, t)) (a, a)).1

/-- 2^80 × AMP × sin(2π φ / 2^32), φ given in units of 2^-16. (DESIGN CHOICE: log entry 23.) -/
def sineFix (amp : Int) (phi : Nat) : Int :=
  let q : Nat := phi % 2 ^ 48 / 2 ^ 46
  let r : Nat := phi % 2 ^ 46
  let x : Nat := if q % 2 = 0 then r else 2 ^ 46 - r
  let v := sinQuarter ((x : Int) * piFix / 2 ^ 47)
  (if q < 2 then v else -v) * amp

/-- A sine value: a free value within 2^-20 × |AMP| + 1 of the exact one (R274). (DESIGN CHOICE: log entry 23.) -/
def sineOf (fr : Nat) (amp : Int) (phi : Nat) : Int :=
  let x := sineFix amp phi
  let near := divNear x (2 ^ 80)
  let b : Nat := amp.natAbs / 2 ^ 20 + 2
  let c := near + ((Config.unstated fr % (2 * b + 1) : Nat) : Int) - (b : Int)
  if (c * 2 ^ 80 - x).natAbs ≤ amp.natAbs * 2 ^ 60 + 2 ^ 80 then c else near

/-- Least value of at most `2^k - 1` above `lo` for which `p` holds, by bisection. -/
def leastFrom (p : Nat → Bool) : Nat → Nat → Nat
  | 0, lo => lo
  | k + 1, lo => if p (lo + 2 ^ k - 1) then leastFrom p k lo else leastFrom p k (lo + 2 ^ k)

/-- The logarithmic frequency F0 × (F1/F0)^(k/LEN) in units of 2^-16: a free value within 2^-16 relative (R274). (DESIGN CHOICE: log entry 23.) -/
def logFreq (fr f0 f1 k len : Nat) : Nat :=
  let e := f0 ^ (len - k) * f1 ^ k
  let lo := leastFrom (fun f => decide ((2 ^ 16 - 1) ^ len * e ≤ f ^ len)) 49 0
  let hi := leastFrom (fun f => decide ((2 ^ 16 + 1) ^ len * e < f ^ len)) 49 0 - 1
  lo + Config.unstated fr % (hi + 1 - lo)

/-- The injection unit of engine `e` acts in an execution of loop `j` for tick `n`. -/
def Kv.injActs (s : Kv) (e j n : Nat) : Bool :=
  s.on Kv.SFEn_INJ.EN e && s.rd Kv.SFEn_INJ.LOOP e == j &&
  (s.rd Kv.SFEn_ISTAT.STATE e == 2 ||
    (s.rd Kv.SFEn_ISTAT.STATE e == 1 && !later16 (s.rd Kv.SFEn_INJ.START e) n)) &&
  decide (s.rd Kv.SFEn_ISTAT.K e < s.rd Kv.SFEn_ILEN.LEN e)

/-- s(k) of this execution. (DESIGN CHOICE: log entry 22.) -/
def Kv.injValue (s : Kv) (e : Nat) : Int :=
  let amp := sx 32 (s.rd Kv.SFEn_IAMP.AMP e)
  let u := s.sfeE e
  match s.rd Kv.SFEn_INJ.SIG e with
  | 0 => amp
  | 1 => if Config.prbsSign u.lfsr then amp else -amp
  | _ => satS 32 (sineOf s.free amp u.phi)

/-- The unit after an execution in which it acted: RUN, K one more, and the phase or shift register stepped. -/
def Kv.injStep (s : Kv) (e : Nat) : Kv :=
  let k := s.rd Kv.SFEn_ISTAT.K e
  let len := s.rd Kv.SFEn_ILEN.LEN e
  let f0 := s.rd Kv.SFEn_IF0.F0 e
  let f1 := s.rd Kv.SFEn_IF1.F1 e
  let f : Nat := match s.rd Kv.SFEn_INJ.SIG e with
    | 2 => ((f0 : Int) + divNear (((f1 : Int) - f0) * k) len).toNat * 2 ^ 16
    | 3 => logFreq (s.free + 1) f0 f1 k len
    | _ => 0
  let s := (s.wr Kv.SFEn_ISTAT.STATE 2 e).wr Kv.SFEn_ISTAT.K (k + 1) e
  let hold := s.rd Kv.SFEn_ILEN.HOLD e
  let s := s.onSfe e (fun u =>
    let turn := decide (hold ≤ u.hold + 1)
    let fb := (bit u.lfsr 14) != (bit u.lfsr 13)
    { u with
      phi := (u.phi + f) % 2 ^ 48
      lfsr := if turn then (2 * u.lfsr + b2n fb) % 2 ^ 15 else u.lfsr
      hold := if turn then 0 else u.hold + 1 })
  { s with free := s.free + 2 }

/-! ### Gathering (R262, R263) -/

/-- The power-class members of arm `k` that an ASUM entry sums, all or those whose believed state is the insertion state (R262). -/
def Kv.asumCells (s : Kv) (k n : Nat) (sel : Bool) : List Nat :=
  let st := if (s.arm k).neg then stNeg else stPos
  (s.armCells k).filter (fun a => ctlClass (s.ctl0 a) == 0 && rCstate (s.bankSlot a n) != 2 && (!sel || s.believed a == st))

/-- The value of a gather entry for tick `n`, and whether it is stale. -/
def Kv.gather (s : Kv) (e n g : Nat) : Int × Bool :=
  match bits g 30 2 with
  | 0 =>
    let a := bits g 15 13
    let w := bits g 3 4 + 1
    let v := bits (s.bankSlot a n) (bits g 7 8) w
    (if bit g 28 then sx w v else v, !s.bankValid a n)
  | 1 =>
    let ms := s.asumCells (bits g 24 4) n (bit g 23)
    (((ms.map (fun a => if s.bankValid a n then rVcapS (s.bankSlot a n) else s.rdBe (recAddr a + 0x5C) 4 % 2 ^ 16)).foldl
      (· + ·) 0 : Nat), ms.any (fun a => !s.bankValid a n))
  | 2 => (sx 32 (s.rdLe (sfeInAt e (bits g 7 8)) 4), false)
  | _ =>
    let lp := bits g 24 4
    let at_ := sfeCopyAt e lp (bits (s.rd Kv.SFEn_OSEL.SEL e) lp 1)
    let d := (n % 2 ^ 24 + 2 ^ 24 - bits (s.rdLe at_ 4) 8 24) % 2 ^ 24
    (sx 32 (s.rdLe (at_ + 4 * (17 + bits g 20 4)) 4), decide (1 ≤ d ∧ d < 2 ^ 23))

/-! ### Arithmetic (R259, R260) -/

/-- Weighted coefficient entry: c × 2^(SH + 24), so that the scale is 2^55. -/
def Kv.coef (s : Kv) (e b i : Nat) : Int :=
  let c := sx 32 (s.rdLe (sfeCoefAt e b i) 4)
  let sh := sx 6 (s.rdLe (sfeCoefAt e b i + 4) 4)
  c * 2 ^ (sh + 24).toNat

/-- Row `i` of a matrix of `cols` columns times a vector, scaled by 2^55. -/
def Kv.rowDot (s : Kv) (e b base cols i : Nat) (v : List Int) : Int :=
  (List.range cols).foldl (fun a k => a + s.coef e b (base + i * cols + k) * v.getD k 0) 0

/-- Round a scaled sum once, and saturate: the element, and whether it saturated. DOT4C rounds each term instead (R260, R314). -/
def roundSum (a : Int) : Int × Bool := let r := divNear a (2 ^ 55); (satS 32 r, satS 32 r != r)

/-- Add to element `i` of a vector by saturating addition: the vector, and whether it saturated. -/
def addAt (i : Nat) (x : Int) (v : List Int) : List Int × Bool :=
  match v[i]? with
  | some y => (v.set i (satS 32 (y + x)), satS 32 (y + x) != y + x)
  | none => (v, false)

/-- Inject at a node where the unit names it. -/
def Kv.injectAt (s : Kv) (e node : Nat) (acts : Bool) (x : Int) (v : List Int) : List Int × Bool :=
  if acts && s.rd Kv.SFEn_INJ.NODE e == node then addAt (s.rd Kv.SFEn_INJ.IDX e) x v else (v, false)

/-! ### Trace (R276) -/

/-- Write words into the trace buffer from index `wp`, wrapping. -/
def Kv.traceWords (s : Kv) (e : Nat) : Nat → List Nat → Kv
  | _, [] => s
  | wp, w :: rest => (s.store (sfeTraceAt e wp) w 4).traceWords e (wp + 1) rest

/-- A capture begins with the injection's execution 0 (R276). -/
def Kv.traceBegin (s : Kv) (e : Nat) : Kv :=
  s.when (s.on Kv.SFEn_TRC.EN e && s.rd Kv.SFEn_TRC.MODE e == 2 && s.rd Kv.SFEn_ISTAT.K e == 0)
    (fun s => s.onSfe e (fun u => { u with cap := if u.cap = 0 then 1 else u.cap }))

/-- SFE_TRACE_RECORD: one execution of the traced loop; `rec`: the words its record would hold. -/
def Kv.traceRecord (s : Kv) (e j : Nat) (rec : List Nat) : Kv :=
  if !s.on Kv.SFEn_TRC.EN e || s.rd Kv.SFEn_TRC.LOOP e != j || s.on Kv.SFEn_TWP.FULL e || s.on Kv.SFEn_TWP.DONE e then s
  else
    let mode := s.rd Kv.SFEn_TRC.MODE e
    let u := s.sfeE e
    if mode = 2 ∧ u.cap = 0 then s
    else
      let due := u.since == 0
      let next := if s.rd Kv.SFEn_TRC.DEC e ≤ u.since then 0 else u.since + 1
      let s := s.onSfe e (fun u => { u with since := next, cap := if mode = 2 then u.cap + 1 else 0 })
      let end_ := u.used + rec.length
      let full := due && mode != 0 && decide (16384 < end_)
      let s :=
        if full then s.mark Kv.SFEn_TWP.FULL e
        else if due then
          let s := (s.traceWords e u.used rec).wr Kv.SFEn_TWP.WP (end_ % 16384) e
          let s := s.onSfe e (fun u => { u with used := if mode = 0 then end_ % 16384 else end_ })
          s.when (decide (16384 ≤ end_) && mode == 0) (fun s => s.mark Kv.SFEn_TWP.WRAP e)
        else s
      s.when (mode == 2 && (full || s.rd Kv.SFEn_ILEN.LEN e + s.rd Kv.SFEn_TPOST.TPOST e == u.cap))
        (fun s => s.mark Kv.SFEn_TWP.DONE e)

/-! ### Execution (R257, R261 to R272) -/

/-- The bytes that gather entry `g` reads for tick `n`: where, and how many (R262). -/
def Kv.gatherReads (s : Kv) (e n g : Nat) : List (Nat × Nat) :=
  match bits g 30 2 with
  | 0 => [(bankAddr (bits g 15 13) n, 32)]
  | 1 => (s.asumCells (bits g 24 4) n (bit g 23)).map (fun a => (bankAddr a n, 32))
  | 2 => [(sfeInAt e (bits g 7 8), 4)]
  | _ =>
    let lp := bits g 24 4
    let at_ := sfeCopyAt e lp (bits (s.rd Kv.SFEn_OSEL.SEL e) lp 1)
    [(at_, 4), (at_ + 4 * (17 + bits g 20 4), 4)]

/-- The first uncorrectable word that an execution of loop `q.loop` reads: descriptor, lists, coefficients, clamp pairs, live or initial state,
and what its entries gather (R278, R468). -/
def Kv.sfeUnc (s : Kv) (e : Nat) (q : SfeJob) (d : Desc) (starts : Bool) : Option Nat :=
  let b := q.bank
  let j := q.loop
  let m := fun (base n : Nat) => (sfeCoefAt e b base, 8 * n)
  let entries := (List.range d.nm ++ (List.range d.np).map (16 + ·)).map (fun i => s.rdLe (sfeGatherAt e b j i) 4)
  let reads : List (Nat × Nat) :=
    [(sfeDescAt e b j, 20), (sfeGatherAt e b j 0, 4 * d.nm), (sfeGatherAt e b j 16, 4 * d.np), (sfeOutAt e b j 0, 4 * d.nz),
     m d.ab (d.ns * d.ns), m d.bb (d.ns * d.np), m d.lb (d.ns * d.nm), m d.cb (d.nm * d.ns), m d.kb (d.np * d.ns),
     (sfeClampAt e b j 0, if d.uclamp then 8 * d.np else 0),
     if starts && d.xinit then (sfeInitAt e b j 0, 128) else (sfeLiveAt e j 0, 4 * d.ns)] ++ entries.flatMap (s.gatherReads e q.tick)
  (reads.flatMap (fun r => if r.2 = 0 then [] else s.badWords r.1 r.2)).head?

/-- Loop `q.loop` is finished with tick `q.tick`: it waits no more, and its counter counts (R268). -/
def Kv.sfeFinished (s : Kv) (e : Nat) (q : SfeJob) (d : Desc) : Kv :=
  let s := s.onSfe e (fun u => { u with queue := u.queue.filter (fun r => r.tick != q.tick || r.loop != q.loop) })
  if d.cen then s.cntDec d.ccnt q.tick else s

/-- A scheduled loop is skipped: by its deadline, or for a fault (R268, R278). (DEDUCED: log entry 106.) -/
def Kv.sfeSkip (s : Kv) (e : Nat) (q : SfeJob) (src : Option (Nat × Nat)) : Kv :=
  let s := (s.mark Kv.SFEn_LSTATj.SKIP e q.loop).count Kv.SFEn_STAT.SKCNT Kv.SFEn_STAT.SAT Src.SYS_SAT e
  let s := match src with | some x => s.raise x.1 0 x.2 | none => s
  s.sfeFinished e q (s.jobDesc e q)

/-- The scheduled loop `j` of tick `n`. -/
def Kv.sfeJob (s : Kv) (e j n : Nat) : Option SfeJob := (s.sfeE e).queue.find? (fun q => q.tick == n && q.loop == j)

/-- The start deadline of a loop of tick `n` has passed, by the tick and the nanosecond counter (R268). -/
def Kv.sfeOverdue (s : Kv) (e n : Nat) : Bool :=
  s.rd Kv.SFEn_DL.DL e != 0 && !tickAhead s.tick n && s.nsPast n (10 * s.rd Kv.SFEn_DL.DL e)

/-- The start condition of R265, with the held reports of R349 written, before the deadline of R268. -/
def Kv.sfeStarts (s : Kv) (e : Nat) (q : SfeJob) : Bool :=
  let d := s.jobDesc e q
  s.closedFor q.tick && !s.col.held.any (fun h => h.tick == q.tick) && (d.start != 1 || s.cntReleased d.scnt q.tick) &&
  !s.sfeOverdue e q.tick

/-- The engine's order: the lowest tick first, and the lowest loop within it (R266). -/
def SfeJob.upTo (a b : SfeJob) : Bool := tickAhead a.tick b.tick || (a.tick == b.tick && decide (a.loop ≤ b.loop))

/-- The loop that the engine chooses: the first of those whose start condition holds (R266). -/
def Kv.sfeNext (s : Kv) (e : Nat) : Option SfeJob :=
  let l := (s.sfeE e).queue.filter (s.sfeStarts e)
  l.find? (fun q => l.all q.upTo)

/-- The execution is the first of its loop from the bank that a switch made active: none has run from that switch or a later one (R272). -/
def Kv.sfeStartsBank (s : Kv) (e : Nat) (q : SfeJob) : Bool :=
  q.since != 0 && !tickDone (Tab.get 0 q.loop (s.sfeE e).ran) (q.since - 1)

/-- Such an execution loads or trims the live state (R272). -/
def Kv.sfeFirst (s : Kv) (e : Nat) (q : SfeJob) (d : Desc) : Kv :=
  let j := q.loop
  if !s.sfeStartsBank e q then s
  else
    let s := s.onSfe e (fun u => { u with ran := Tab.set 0 j q.since u.ran })
    if d.xinit then s.each (List.range 32) (fun s i => s.store (sfeLiveAt e j i) (s.rdLe (sfeInitAt e q.bank j i) 4) 4)
    else s.each ((List.range 32).filter (fun i => decide (d.ns ≤ i))) (fun s i => s.store (sfeLiveAt e j i) 0 4)

/-- One whole execution of a loop that may run. (DESIGN CHOICE: log entry 28.) -/
def Kv.sfeRun (s : Kv) (e : Nat) (q : SfeJob) (d : Desc) : Kv :=
  let (b, j, n) := (q.bank, q.loop, q.tick)
  let s := s.sfeFirst e q d
  let x := (List.range d.ns).map (fun i => sx 32 (s.rdLe (sfeLiveAt e j i) 4))
  let entry := fun (i : Nat) => s.rdLe (sfeGatherAt e b j i) 4
  let ys := (List.range d.nm).map (fun i => s.gather e n (entry i))
  let rs := (List.range d.np).map (fun i => s.gather e n (entry (16 + i)))
  let acts := s.injActs e j n
  let sv := s.injValue e
  let y := s.injectAt e 0 acts sv (ys.map Prod.fst)
  let r := s.injectAt e 1 acts sv (rs.map Prod.fst)
  let e0 := (List.range d.nm).map (fun i => roundSum (y.1.getD i 0 * 2 ^ 55 - s.rowDot e b d.cb d.ns i x))
  let e1 := (List.range d.nm).map (fun i =>
    if (ys.getD i (0, false)).2 && bit (entry i) 29 then 0 else (e0.getD i (0, false)).1)
  let ev := s.injectAt e 2 acts sv e1
  let u0 := (List.range d.np).map (fun i => roundSum (r.1.getD i 0 * 2 ^ 55 - s.rowDot e b d.kb d.ns i x))
  let u1 := s.injectAt e 3 acts sv (u0.map Prod.fst)
  let clamp := fun (i : Nat) (v : Int) =>
    min (max v (sx 32 (s.rdLe (sfeClampAt e b j i) 4))) (sx 32 (s.rdLe (sfeClampAt e b j i + 4) 4))
  let u := if d.uclamp then u1.1.mapIdx (fun i v => clamp i v) else u1.1
  let clmp := u != u1.1
  let x0 := (List.range d.ns).map (fun i => roundSum
    (s.rowDot e b d.ab d.ns i x + s.rowDot e b d.bb d.np i u + s.rowDot e b d.lb d.nm i ev.1))
  let xn := s.injectAt e 4 acts sv (x0.map Prod.fst)
  let sat := (e0 ++ u0 ++ x0).any Prod.snd || y.2 || r.2 || ev.2 || u1.2 || xn.2
  let stale := (ys ++ rs).any Prod.snd
  let staleY := ys.any Prod.snd
  let open_ : Int := sx 32 (Config.unstated (s.free + 2))
  let z := (List.range d.nz).map (fun i =>
    let o := s.rdLe (sfeOutAt e b j i) 4
    let v := match bits o 29 3 with | 0 => u | 1 => xn.1 | 2 => ev.1 | 3 => y.1 | 4 => r.1 | _ => []
    v.getD (bits o 24 5) open_)
  let s := { s with free := s.free + 3 }
  let word := fun (v : Int) => toBits 32 v
  let s := s.each (List.range d.ns) (fun s i => s.store (sfeLiveAt e j i) (word (xn.1.getD i 0)) 4)
  let sel := bits (s.rd Kv.SFEn_OSEL.SEL e) j 1
  let at_ := sfeCopyAt e j (1 - sel)
  let flags := b2n sat * 8 + b2n stale * 4 + b2n clmp * 2 + b2n acts
  let s := s.store at_ (n % 2 ^ 24 * 256 + flags * 16) 4
  let s := s.each (List.range 16) (fun s i => s.store (at_ + 4 * (1 + i)) (word (u.getD i 0)) 4)
  let s := s.each (List.range d.nz) (fun s i => s.store (at_ + 4 * (17 + i)) (word (z.getD i 0)) 4)
  let s := s.wr Kv.SFEn_OSEL.SEL (setBit (s.rd Kv.SFEn_OSEL.SEL e) j (sel == 0)) e
  let late := tickDone s.dsp.t0Judged n
  let wasStale := bit (s.sfeE e).staleY j
  let s := s.onSfe e (fun u => { u with staleY := setBit u.staleY j staleY })
  let s := ((s.wr Kv.SFEn_LSTATj.SKIP 0 e j).wr Kv.SFEn_LSTATj.STALE (b2n stale) e j).wr Kv.SFEn_LSTATj.CLMP (b2n clmp) e j
  let s := (s.wr Kv.SFEn_LSTATj.SATL (b2n sat) e j).wr Kv.SFEn_LSTATj.LATE (b2n late) e j
  let s := s.when sat (fun s =>
    let s := s.count Kv.SFEn_LSTATj.SCNT Kv.SFEn_LSTATj.SAT Src.SYS_SAT e j
    if s.on Kv.SFEn_LSTATj.SEEN e j then s else (s.raise Src.SFE_SAT 0 e).mark Kv.SFEn_LSTATj.SEEN e j)
  let s := s.when (staleY && !wasStale) (fun s => s.raise Src.SFE_STALE 0 e)
  let s := s.when late (fun s => (s.mark Kv.SFEn_STAT.LATEF e).raise Src.SFE_LATE 0 e)
  let vec := s.rd Kv.SFEn_TRC.VEC e
  let part := fun (i : Nat) (l : List Int) => if bit vec i then l.map word else []
  let rec_ := (n % 2 ^ 24 * 256 + j * 16 + flags) ::
    (part 0 y.1 ++ part 1 r.1 ++ part 2 ev.1 ++ part 3 u ++ part 4 xn.1 ++ part 5 z ++ part 6 [if acts then sv else 0])
  let s := if acts then (s.traceBegin e).injStep e else s
  (s.traceRecord e j rec_).sfeFinished e q d

/-- SFE_LOOP_EXECUTE: engine `e` executes loop `j` for tick `n` when that is the loop it chooses (R265, R266); a descriptor or matrix
that may not run, or an uncorrectable read, skips it (R278). (DESIGN CHOICE: log entry 6; DEDUCED: log entry 106.) -/
def sfeLoopExecuteKv (e j n : Nat) (s : Kv) : Kv :=
  match s.sfeNext e with
  | some q =>
    let d := s.jobDesc e q
    if q.tick ≠ n ∨ q.loop ≠ j then s
    else if !d.ok then (s.mark Kv.SFEn_STAT.CFGF e).sfeSkip e q (some (Src.SFE_CFG, e))
    else
      match s.sfeUnc e q d (s.sfeStartsBank e q) with
      | some a => s.sfeSkip e q (some (Src.SFE_MEM, memFaultAddr a))
      | none => s.sfeRun e q d
  | none => s

/-- SFE_LOOP_SKIP: the start deadline of a scheduled loop has passed (R268). -/
def sfeLoopSkipKv (e j n : Nat) (s : Kv) : Kv :=
  match s.sfeJob e j n with
  | some q => s.when (s.sfeOverdue e n) (fun s => s.sfeSkip e q (some (Src.SFE_SKIP, e)))
  | none => s

/-! ### Registers and window (R271 to R277, R283 to R286) -/

/-- SFE_BANK_SW: a write of SW with STICK requests a switch; one that is refused has still written STICK (R8, R271). -/
def sfeBankSwKv (e stick : Nat) (s : Kv) : Kv :=
  let off := Kv.SFEn_BANK.SW.addr e 0
  let s := s.wr Kv.SFEn_BANK.STICK stick e
  if !later16 stick s.tick then s.regacc 19 off
  else if s.on Kv.SFEn_BANK.PEND e then s.regacc 17 off
  else
    let s := s.mark Kv.SFEn_BANK.PEND e
    s.onSfe e (fun u => { u with swAt := some stick })

/-- SFE_BANK_SWITCH: at the boundary of STICK, or the first after it that a step of time leaves, the other bank becomes active (R271). (DESIGN CHOICE: log entry 162.) -/
def Kv.sfeSwitch (s : Kv) (e n : Nat) : Kv :=
  match (s.sfeE e).swAt with
  | some t =>
    s.when (!later16 t n) (fun s =>
      let s := (s.wr Kv.SFEn_BANK.ACT (1 - s.rd Kv.SFEn_BANK.ACT e) e).wr Kv.SFEn_BANK.PEND 0 e
      s.onSfe e (fun u => { u with swAt := none, switches := (n :: u.switches).take 64 }))
  | none => s

/-- At B(n) the loops of tick `n` are scheduled, from the bank then active (R265, R271). -/
def Kv.sfeSchedule (s : Kv) (e n : Nat) : Kv :=
  s.when (s.on Kv.SFEn_CTRL.EN e) (fun s => s.onSfe e (fun u =>
    { u with queue := u.queue ++ (s.sfeJobs e n).filter (fun q => !u.queue.any (fun r => r.tick == q.tick && r.loop == q.loop)) }))

/-- SFE_LIVE_STATE_WRITE: element `i` of the live state of loop `j`, outside a forced range; no execution is under way between commands (R272,
R355). -/
def sfeLiveStateWriteKv (e j i : Nat) (v : Word) (s : Kv) : Kv := s.forcedStore (sfeLiveAt e (j % 16) (i % 32)) v.toNat 4

/-- The injection unit returns to IDLE with EN = 0. -/
def Kv.injIdle (s : Kv) (e : Nat) : Kv := (s.wr Kv.SFEn_INJ.EN 0 e).wr Kv.SFEn_ISTAT.STATE 0 e

/-- The injection unit waits or runs. -/
def Kv.injBusy (s : Kv) (e : Nat) : Bool := s.rd Kv.SFEn_ISTAT.STATE e == 1 || s.rd Kv.SFEn_ISTAT.STATE e == 2

/-- The fields of SFEn_INJ beside EN take a written word. -/
def Kv.injFields (s : Kv) (e v : Nat) : Kv :=
  let s := (s.wr Kv.SFEn_INJ.SIG (bits v 28 2) e).wr Kv.SFEn_INJ.LOOP (bits v 24 4) e
  let s := if Kv.SFEn_INJ.NODE.ok (bits v 21 3) then s.wr Kv.SFEn_INJ.NODE (bits v 21 3) e else s.regacc 16 (Kv.SFEn_INJ.EN.addr e 0)
  (s.wr Kv.SFEn_INJ.IDX (bits v 16 5) e).wr Kv.SFEn_INJ.START (bits v 0 16) e

/-- SFE_INJ_ENABLE: a write of SFEn_INJ with EN = 1 (R8, R273 to R275). -/
def sfeInjEnableKv (e v : Nat) (s : Kv) : Kv :=
  let off := Kv.SFEn_INJ.EN.addr e 0
  if s.injBusy e then s.regacc 17 off
  else
    let s := s.injFields e v
    if !later16 (bits v 0 16) s.tick then s.regacc 19 off
    else if bits v 28 2 = 3 ∧ s.rd Kv.SFEn_IF0.F0 e = 0 then s.regacc 18 off
    else
      let s := ((s.mark Kv.SFEn_INJ.EN e).wr Kv.SFEn_ISTAT.STATE 1 e).wr Kv.SFEn_ISTAT.K 0 e
      s.onSfe e (fun u => { u with phi := 0, lfsr := 32767, hold := 0 })

/-- A write of SFEn_INJ with EN = 0: it stops the signal; while the unit waits or runs, every other field of the write is ignored and
reported (R275). -/
def Kv.sfeInjClear (s : Kv) (e v : Nat) : Kv :=
  let off := Kv.SFEn_INJ.EN.addr e 0
  let same := [Kv.SFEn_INJ.SIG, Kv.SFEn_INJ.LOOP, Kv.SFEn_INJ.NODE, Kv.SFEn_INJ.IDX, Kv.SFEn_INJ.START].all
    (fun f => bits v f.lo f.w == s.rd f e)
  if s.injBusy e then (s.injIdle e).when (!same) (fun s => s.regacc 17 off)
  else (s.injIdle e).injFields e v

/-- SFE_INJ_DONE: after LEN executions the unit enters DONE (R275). -/
def sfeInjDoneKv (e : Nat) (s : Kv) : Kv :=
  s.when (s.rd Kv.SFEn_ISTAT.STATE e == 2 && decide (s.rd Kv.SFEn_ILEN.LEN e ≤ s.rd Kv.SFEn_ISTAT.K e))
    (fun s => s.wr Kv.SFEn_ISTAT.STATE 3 e)

/-- SFE_DISABLE: EN is cleared; every scheduled loop is skipped without SFE_SKIP, and the injection unit stops (R277). -/
def sfeDisableKv (e : Nat) (s : Kv) : Kv :=
  s.when (s.on Kv.SFEn_CTRL.EN e) (fun s =>
    (((s.sfeE e).queue.foldl (fun s q => s.sfeSkip e q none) s).wr Kv.SFEn_CTRL.EN 0 e).injIdle e)

/-- A write of 1 to SFEn_CTRL.EN: loops run from the first tick whose report-arrival point follows, which is one of the last 64 (R277). -/
def Kv.sfeEnable (s : Kv) (e : Nat) : Kv :=
  if s.on Kv.SFEn_CTRL.EN e then s
  else
    let last := if s.col.closed = 0 then [s.tick] else (List.range 64).map (fun i => tickPlus s.tick (2 ^ 48 - 63 + i))
    (s.mark Kv.SFEn_CTRL.EN e).each (last.filter (fun n => !s.closedFor n)) (fun s n => s.sfeSchedule e n)

/-- A write of SFEn_TRC that sets EN clears FULL, DONE and WRAP and starts at the first word (R286). (DESIGN CHOICE: log entry 107.) -/
def Kv.sfeTraceStart (s : Kv) (e : Nat) : Kv :=
  let s := ((s.wr Kv.SFEn_TWP.FULL 0 e).wr Kv.SFEn_TWP.DONE 0 e).wr Kv.SFEn_TWP.WRAP 0 e
  (s.wr Kv.SFEn_TWP.WP 0 e).onSfe e (fun u => { u with since := 0, used := 0, cap := 0 })

/-- The fields of a window word that a write may refuse (R259, R280 to R282): place, width, and whether a value is no reserved
encoding, given the word as it would stand. -/
def sfeWordFields (off : Nat) : List (Nat × Nat × (Nat → Nat → Bool)) :=
  let o := off % 0x80000
  if off < 0x100000 then
    if o < 0x400 then
      match o % 0x40 with
      | 0 => [(29, 2, fun v _ => decide (v ≤ 1)), (21, 4, fun v w => decide (v ≤ bits w 25 4))]
      | 4 => [(26, 6, fun v _ => decide (1 ≤ v ∧ v ≤ 32)), (21, 5, fun v _ => decide (v ≤ 16)), (16, 5, fun v _ => decide (v ≤ 16)),
          (11, 5, fun v _ => decide (v ≤ 16))]
      | 8 => [(16, 16, fun v _ => decide (v < 32768)), (0, 16, fun v _ => decide (v < 32768))]
      | 12 => [(16, 16, fun v _ => decide (v < 32768)), (0, 16, fun v _ => decide (v < 32768))]
      | 16 => [(16, 16, fun v _ => decide (v < 32768))]
      | _ => []
    else if o < 0xC00 then
      [(24, 4, fun v w => bits w 30 2 != 1 || decide (v < 12)), (7, 8, fun v w => bits w 30 2 != 0 || decide (v + bits w 3 4 ≤ 191))]
    else if o < 0x1000 then [(29, 3, fun v _ => decide (v ≤ 4))]
    else if 0x2000 ≤ o ∧ o % 8 = 4 then [(0, 6, fun v _ => let x := sx 6 v; decide (-24 ≤ x ∧ x ≤ 7))]
    else []
  else []

/-- A write at window offset `off` of engine `e` is not turned away: neither read-only, nor in the active or a BUSY bank of an engine in
service (R271, R279). -/
def Kv.sfeWritable (s : Kv) (e off : Nat) : Bool :=
  decide (off < 0x101000) &&
  !(decide (off < 0x100000) && s.on Kv.SFEn_CTRL.EN e && (off / 0x80000 == s.rd Kv.SFEn_BANK.ACT e || s.sfeBusy e))

/-- A write of one window word of engine `e` at window offset `off` (R271, R272, R279): refused in the active or a BUSY bank while
the engine is in service, without effect in the read-only areas, and field by field where a value is reserved (R10); a word in which
the kept fields would still be reserved beside the new ones keeps its value whole. (DESIGN CHOICE: log entry 175.) -/
def Kv.sfeWriteWord (s : Kv) (e off v : Nat) : Kv :=
  let a := sysSfe e + off
  let ident := (a - sysRegs) % 2 ^ 32
  if off < 0x100000 then
    if !s.sfeWritable e off then s.regacc 17 ident
    else
      let old := s.rdLe a 4
      let fs := sfeWordFields off
      let bad := fs.filter (fun f => !f.2.2 (bits v f.1 f.2.1) v)
      let w := bad.foldl (fun w f => putBits w f.1 f.2.1 (bits old f.1 f.2.1)) v
      let w := if fs.all (fun f => f.2.2 (bits w f.1 f.2.1) w) then w else old
      (s.store a (w &&& sfeWordMask off w) 4).when (!bad.isEmpty) (fun s => s.regacc 16 ident)
  else if off < 0x101000 then s.store a v 4
  else s

/-- A store of `n` bytes at window offset `off` of engine `e`, word by word; where both words of an 8-byte store are taken it repairs the
word (R469). -/
def Kv.sfeStore (s : Kv) (e off v n : Nat) : Kv :=
  if n = 8 then
    let a := sysSfe e + off
    let s := s.when (s.sfeWritable e off) (fun s => s.setErrs a 0)
    (s.sfeWriteWord e off (v % 2 ^ 32)).sfeWriteWord e (off + 4) (v / 2 ^ 32 % 2 ^ 32)
  else
    let w := off / 4 * 4
    s.sfeWriteWord e w (putBits (s.rdLe (sysSfe e + w) 4) (8 * (off % 4)) (8 * n) v)

end Sys2Proof.Machine
end

