-- ==== Sys2Proof/Machine/RegRead.lean ====
section
/-! DEFINITION. What a read of a KV-9400 register returns, without its side effect: stored fields, and the fields that show state held
elsewhere. -/

namespace Sys2Proof.Machine

/-- Task shown for an item (R368). -/
def taskShown (i : Option Item) : Nat := match i with | some x => x.task | none => 0xFF

/-- A source pending at severity `v` or above (R430). -/
def Kv.pendingAt (s : Kv) (v : Nat) : Bool :=
  (List.range 128).any (fun i => s.on Kv.FLT_SSTn.PEND i && decide (v ≤ s.rd Kv.FLT_SSTn.CSEV i))

/-- Highest severity among pending sources. -/
def Kv.maxPending (s : Kv) : Nat :=
  (List.range 128).foldl (fun m i => if s.on Kv.FLT_SSTn.PEND i then max m (s.rd Kv.FLT_SSTn.CSEV i) else m) 0

/-- The fields that show state held elsewhere. (DESIGN CHOICE: log entry 18; DEDUCED: log entry 106.) -/
def Kv.shown : List (Fld × (Kv → Nat → Nat → Nat)) :=
  [(Kv.TIM_NS.NS, fun s _ _ => s.nowNs),
   (Kv.TIM_NSF.NSF, fun s _ _ => s.tim.ns.toNat % 2 ^ 32),
   (Kv.TIM_TICKL.TL, fun s _ _ => s.tick % 2 ^ 32),
   (Kv.TIM_STAT.ALIGNED, fun s _ _ => b2n s.aligned),
   (Kv.TIM_ALIGN.OFS, fun s _ _ => if s.duty then 0 else s.rd Kv.TIM_ALIGN.OFS),
   (Kv.SFEn_BANK.BUSY, fun s e _ => b2n (s.sfeBusy e)),
   (Kv.DSP_STAT.T0RUN, fun s _ _ => b2n (s.serving 0)),
   (Kv.DSP_STAT.CTXOFF, fun s _ _ => (List.range 16).foldl (fun m n => setBit m n (s.ctxOff n 0 || s.ctxOff n 1)) 0),
   (Kv.Cn_STAT.TASK0, fun s n _ => taskShown (s.core n).item0),
   (Kv.Cn_STAT.TASK1, fun s n _ => taskShown (s.core n).item1),
   (Kv.Cn_STAT.WAIT0, fun s n _ => b2n (s.core n).c0.wait.isSome),
   (Kv.Cn_STAT.WAIT1, fun s n _ => b2n (s.core n).c1.wait.isSome),
   (Kv.Cn_STAT.SUSP, fun s n _ => b2n ((s.core n).item0.isSome && (s.core n).item1.isSome)),
   (Kv.Cn_STALL.FULL, fun s n _ => b2n (s.core n).stall.isSome),
   (Kv.Cn_STALL.TASK, fun s n _ => match (s.core n).stall with | some i => i.task | none => 0),
   (Kv.Cn_STALL.TICK, fun s n _ => match (s.core n).stall with | some i => i.tick % 65536 | none => 0),
   (Kv.FLT_STAT.DEG, fun s _ _ => b2n (s.pendingAt 2)),
   (Kv.FLT_STAT.MAXP, fun s _ _ => s.maxPending),
   (Kv.FLT_PENDm.PEND, fun s m _ => (List.range 32).foldl (fun v i => setBit v i (s.on Kv.FLT_SSTn.PEND (32 * m + i))) 0),
   (Kv.LDG_STAT.ROLE, fun s _ _ => if !s.on Kv.LDG_CTRL.EN then 0 else if s.duty then 1 else 2),
   (Kv.CRCn_RES.RES, fun s n _ => s.crcRes n),
   (Kv.CRCn_STAT.OWN, fun s n _ => b2n (s.crcOwned n)),
   (Kv.SPn_PEAK.PK, fun s n _ => if s.on Kv.SPn_PEAK.MAN n then s.rd Kv.SPn_PEAK.MPK n else s.rd Kv.SPn_PEAK.PK n),
   (Kv.CLn_PEAK.PK, fun s n _ => if s.on Kv.CLn_PEAK.MAN n then s.rd Kv.CLn_PEAK.MPK n else s.rd Kv.CLn_PEAK.PK n),
   (Kv.ACQ_CTRL.GRP, fun s _ _ => setBit (s.rd Kv.ACQ_CTRL.GRP) (s.rd Kv.ACQ_CTRL.MSTR) true),
   (Kv.SEC_SERH.SER, fun s _ _ => (Config.serial (b2n s.roleB)).toNat / 2 ^ 32),
   (Kv.SEC_SERL.SER, fun s _ _ => (Config.serial (b2n s.roleB)).toNat % 2 ^ 32),
   (Kv.SEC_STAT.SVN, fun s _ _ => s.sec.svn),
   (Kv.SEC_STAT.LOCK, fun s _ _ => b2n s.sec.lockout),
   (Kv.SEC_KEYS.DREV, fun s _ _ => bits s.sec.rev 4 2),
   (Kv.SEC_KEYS.DPROG, fun s _ _ => bits s.sec.prog 4 2),
   (Kv.SEC_KEYS.IREV, fun s _ _ => bits s.sec.rev 0 4),
   (Kv.SEC_KEYS.IPROG, fun s _ _ => bits s.sec.prog 0 4)]

/-- What a field reads as. -/
def Kv.fieldRead (s : Kv) (f : Fld) (i j : Nat) : Nat :=
  match f.acc with
  | .wo => 0
  | _ =>
    match Kv.shown.find? (fun e => e.1.base == f.base && e.1.lo == f.lo) with
    | some e => e.2 s i j % 2 ^ f.w
    | none => s.rd f i j

/-- Offsets of task 0 in the arrays of the P tasks, which start at P1: no register lies there (R363, R613). -/
def Kv.holes : List Nat := [0x20100, 0x20200, 0x20300]

/-- A register lies at this offset. -/
def Kv.isReg (off : Nat) : Bool := !Kv.holes.contains off && Kv.flds.any (fun f => (f.at? off).isSome)

/-- The word a register reads as: its fields in their places, reserved bits 0 (R8, R9). -/
def Kv.regRead (s : Kv) (off : Nat) : Nat :=
  Kv.flds.foldl (fun w f =>
    match f.at? off with
    | some (i, j) => w + s.fieldRead f i j * 2 ^ f.lo
    | none => w) 0

end Sys2Proof.Machine
end

