-- ==== Sys2Proof/Machine/HostImage.lean ====
section
/-! DEFINITION. The state image, the command mailbox and the tally (R486 to R503). -/

namespace Sys2Proof.Machine

/-! ### The state image -/

/-- The state image would need more than 2.0 GB/s (R494). -/
def Kv.imgTooFast (s : Kv) : Bool :=
  let nca := 256 * (s.strings.foldl (fun m x => max m (x + 1)) 0)
  let cper := s.rd Kv.IMG_CFG.CPER
  decide (2 * s.tickNs * cper < (2048 + 32 * s.rd Kv.IMG_CFG.NBLK) * cper + 16 * nca)

/-- IMG_CFG_WRITE: a write of `v` is refused where the image would be too fast (R494). -/
def imgCfgWriteKv (v : Nat) (s : Kv) : Kv :=
  let off := Kv.IMG_CFG.EN.base
  let t := s.writeReg off v
  if t.imgTooFast then s.regacc 18 off else t

/-- DRAM addresses of main buffer `i` and cell buffer `i` (R486). -/
def mainBuf (i : Nat) : Nat := 0x04000000 + 0x40000 * i
def cellBuf (i : Nat) : Nat := 0x04080000 + 0x20000 * i

/-- GEN of the last publication. -/
def Kv.gen (s : Kv) : Nat := s.rd Kv.IMG_GENH.GEN * 2 ^ 32 + s.rd Kv.IMG_GENL.GEN

/-- GEN of the publication at boundary `k` (R489). (DEDUCED: log entry 115.) -/
def Kv.nextGen (s : Kv) (k : Nat) : Nat :=
  match s.duty, s.hst.jump, s.on Kv.CL_STAT.UP, s.cas.other with
  | true, some (g, m), _, _ => g + ticksTo m k + 1
  | false, _, true, some o => o.gen.toNat + 1
  | _, _, _, _ => s.gen + 1

/-- The 16 bytes of cell `a` in the cell buffer at tick `n` (R492); a record that cannot be read leaves them as they are (R468). -/
def Kv.cellEntry (s : Kv) (base a n : Nat) : Kv :=
  let c := s.ctl0 a
  s.unlessBad (s.badWords (bankAddr a n) 32 ++ s.badWords (recAddr a + 0x40) 0x70) (fun s =>
  if ctlClass c = 2 then (s.zero (base + 16 * a) 16).repaired (base + 16 * a) 16
  else
    let r := s.bankSlot a n
    let sw := if s.on Kv.ALk_CFG.TOPO (ctlArm c) then 4 else 2
    let obs := fun (j : Nat) => s.rdBe (obsAddr a j) 2
    let tj := (List.range sw).foldl (fun m j => if sx 16 (obs m) < sx 16 (obs j) then j else m) 0
    let wear := (List.range sw).foldl (fun m j => max m (s.rdBe (recAddr a + 0xA0 + 4 * j) 1)) 0
    let hold := s.rdBe (recAddr a + 0x54 + (if n % 2 = 1 then 0 else 2)) 2
    let w0 := s.believed a * 2 ^ 29 + b2n (s.bankValid a n) * 2 ^ 28 + bits r 98 8 * 2 ^ 20 + rCstate r * 2 ^ 16 + rVcapS r
    let w1 := bits (s.ctl1 a) 24 8 * 2 ^ 24 + rShdw r * 2 ^ 16 + obs tj
    let w2 := hold * 2 ^ 16 + bits r 82 8 * 2 ^ 8 + rEvt r
    let s := (s.wrLe (base + 16 * a) w0 4).wrLe (base + 16 * a + 4) w1 4
    ((s.wrLe (base + 16 * a + 8) w2 4).wrLe (base + 16 * a + 12) wear 4).repaired (base + 16 * a) 16)

/-- Cell addresses of strings 0 to the highest of the cell map. -/
def Kv.imageCells (s : Kv) : List Nat := List.range (256 * (s.strings.foldl (fun m x => max m (x + 1)) 0))

/-- Register copies of the chip status area: offset in the buffer, and register (R491). -/
def imageRegs : List (Nat × Nat) :=
  [(0x100, Kv.FLT_STAT.LFULL.base)] ++
  (List.range 4).map (fun m => (0x104 + 4 * m, Kv.FLT_PENDm.PEND.addr m 0)) ++
  (List.range 4).map (fun m => (0x114 + 4 * m, Kv.FLT_FF0.VALID.base + 4 * m)) ++
  [(0x124, Kv.DSP_STAT.MODE.base), (0x128, Kv.DSP_T0STAT.SAT.base), (0x12C, Kv.CL_CASST.TOKEN.base),
   (0x130, Kv.CL_RDY.READY.base), (0x134, Kv.CL_ENDR.MASK.base), (0x138, Kv.LDG_STAT.SYNC.base),
   (0x13C, Kv.TIM_STAT.ALIGNED.base), (0x140, Kv.MEM_STAT.READY.base)] ++
  (List.range 32).map (fun x => (0x144 + 4 * x, Kv.SPn_STAT.LSTATE.addr x 0)) ++
  (List.range 32).map (fun x => (0x1C4 + 4 * x, Kv.SPn_FOLD.FPOS.addr x 0)) ++
  (List.range 12).map (fun k => (0x244 + 4 * k, Kv.ALk_STAT.RSAT.addr k 0))

/-- The arm area of arm `k`: the reference last used, the residual and the believed count (R491). -/
def Kv.armArea (s : Kv) (base k : Nat) : Kv :=
  let a := base + 0x500 + 64 * k
  let m1 := (s.armCells k).foldl (fun m c => m + stLevel (s.believed c)) 0
  let s := s.zero a 64
  let s := match (s.arm k).last with
    | some r =>
      let s := (s.wrLe a r.tgt 4).wrLe (a + 4) (toBits 32 r.va) 4
      let s := (s.wrLe (a + 8) (toBits 32 r.vb) 4).wrLe (a + 12) (toBits 16 r.ia * 65536 + toBits 16 r.ib) 4
      s.wrLe (a + 16) (r.vc * 65536 + r.amode) 4
    | none => s
  (s.wrLe (a + 0x20) (s.regRead (Kv.ALk_RESID.E.addr k 0)) 4).wrLe (a + 0x24) (toBits 11 m1) 4

/-- Publish the image of tick `n` at boundary `k`, under the STOP rule or not (R487 to R493). The whole publication is one step here. (DESIGN CHOICE: log entry 6; DEDUCED: log entries 90, 114.) -/
def Kv.publish (s : Kv) (n k : Nat) (stop : Bool) : Kv :=
  let g := s.nextGen k
  let nblk := s.rd Kv.IMG_CFG.NBLK
  let cells := n % s.rd Kv.IMG_CFG.CPER == 0
  let cbuf := if cells then 1 - s.rd Kv.IMG_STAT.CBUF else s.rd Kv.IMG_STAT.CBUF
  let cur := 1 - s.rd Kv.IMG_STAT.CUR
  let base := mainBuf cur
  let blocks := if stop then s.dsp.pubs else s.dsp.pubsTaken
  let regs := imageRegs.map (fun p => (p.1, s.regRead p.2))
  let s := s.when cells (fun s => s.imageCells.foldl (fun s a => s.cellEntry (cellBuf cbuf) a n) s)
  let s := s.wr Kv.IMG_STAT.CBUF cbuf
  let ctick := if cells then some n else s.hst.cellTick
  let s := s.zero (base + 8) 0x4F8
  let s := (s.wrLe base g 8).wrLe (base + 8) n 8
  let s := (s.wrLe (base + 0x10) (s.boundaryBefore n) 4).wrLe (base + 0x14)
    (s.rd Kv.CL_CASST.CSEQ * 65536 + b2n stop * 32 + b2n ctick.isSome * 16 +
      s.mode * 4 + b2n s.duty * 2 + b2n s.roleB) 4
  let s := (s.wrLe (base + 0x18) (ctick.getD 0) 4).wrLe (base + 0x1C) cbuf 4
  let s := (s.wrLe (base + 0x20) nblk 4).wrLe (base + 0x24) s.nowNs 4
  let s := s.wrLe (base + 0x28) (s.rd Kv.IMG_TSTAT.LAST * 65536 + s.rd Kv.IMG_TSTAT.INC * 2 + b2n (s.rd Kv.IMG_TSTAT.STATE == 3)) 4
  let s := regs.foldl (fun s p => s.wrLe (base + p.1) p.2 4) s
  let s := s.each (List.range 12) (fun s a => s.armArea base a)
  let s := s.each (List.range nblk) (fun s i => s.wrLe (base + 0x800 + 32 * i) (Tab.get 0 i blocks) 32)
  let s := (s.wrLe (base + 0x800 + 32 * nblk) g 8).repaired base (0x808 + 32 * nblk)
  let s := ((s.wr Kv.IMG_GENL.GEN g).wr Kv.IMG_GENH.GEN (g / 2 ^ 32)).wr Kv.IMG_STAT.CUR cur
  let s := { s with hst := { s.hst with pubTick := n, cellTick := ctick, jump := none } }
  s.when (s.on Kv.IMG_CFG.PEN) (fun s => s.msix (s.rd Kv.IMG_CFG.PVEC))

/-- At boundary `k`: publish, or count a boundary without a publication (R487). -/
def Kv.imgBoundary (s : Kv) (k : Nat) : Kv :=
  if !s.on Kv.IMG_CFG.EN then s
  else if s.mode = 0 then (if s.col.closed = 0 then s else s.publish (s.col.closed - 1) k true)
  else if tickIs s.t0Ended (tickPrev k) = true ∧ s.dsp.t0End ≠ 0 then s.publish (s.dsp.t0End - 1) k false
  else (s.count Kv.IMG_STAT.LATE Kv.IMG_STAT.SAT Src.IMG_LATE).raise Src.IMG_LATE 0 0

/-! ### The mailbox -/

/-- MAILBOX_SEND: IMG_MBC is written with SEND = 1; its RW fields take the write even where the message is refused (R8, R495). -/
def mailboxSendKv (mt : Nat) (een : Bool) (etask : Nat) (s : Kv) : Kv :=
  let off := Kv.IMG_MBC.SEND.base
  let d := (mt % 65536 + 65536 - s.tick % 65536) % 65536
  let s := ((s.wr Kv.IMG_MBC.MT mt).wr Kv.IMG_MBC.EEN (b2n een)).wr Kv.IMG_MBC.ETASK etask
  if d < 2 ∨ 32767 < d then s.regacc 19 off
  else if 8 ≤ s.hst.mail.length then s.regacc 18 off
  else
    let words := (List.range 16).map (fun k => s.rd Kv.IMG_MBHk.D k)
    let m : Mail := { mt := tickFrom s.tick mt, words := words, een := een, etask := etask % 32 }
    { (s.wr Kv.IMG_MBC.QN (s.hst.mail.length + 1)) with hst := { s.hst with mail := s.hst.mail ++ [m] } }

/-- MAILBOX_DELIVERY: the oldest message is delivered at the boundary of MT, or 8 ticks after the delivery before it (R496); with EEN the duty
releases its E task and sends the release to the standby, which releases it from that message (R339). -/
def mailboxDeliveryKv (s : Kv) : Kv :=
  match s.hst.mail with
  | [] => s
  | m :: rest =>
    let after := match s.hst.lastMail with | some t => decide (8 ≤ ticksTo t s.tick) | none => true
    if tickAhead s.tick m.mt = false ∧ after = true then
      let s := s.each (List.range 16) (fun s k => s.wr Kv.IMG_MBRk.D (m.words.getD k 0) k)
      let s := (s.wr Kv.IMG_MBS.SEQ (s.rd Kv.IMG_MBS.SEQ + 1)).wr Kv.IMG_MBS.DTICK s.tick
      let s := { (s.wr Kv.IMG_MBC.QN rest.length) with hst := { s.hst with mail := rest, lastMail := some s.tick } }
      s.when (m.een && s.duty) (fun s => (s.castleSend 0x06 [s.tick, m.etask]).releaseTask (64 + m.etask) s.tick)
    else s

/-! ### The tally -/

/-- TALLY_REQUEST: IMG_TLY is written, and takes the write even where the request is refused (R8, R497). The result slot is cleared (R502). -/
def tallyRequestKv (no tt : Nat) (s : Kv) : Kv :=
  let off := Kv.IMG_TLY.TALLY.base
  let st := s.rd Kv.IMG_TSTAT.STATE
  let d := (tt % 65536 + 65536 - s.tick % 65536) % 65536
  let s := (s.wr Kv.IMG_TLY.TALLY no).wr Kv.IMG_TLY.TT tt
  if d < s.lead + 1 ∨ 6 < d then s.regacc 19 off
  else if st = 1 ∨ st = 2 then s.regacc 18 off
  else
    let a := tallyAt (no % 65536)
    let s := s.wr Kv.IMG_TSTAT.STATE 1
    { s with
      col := { s.col with tallyOf := some (no % 65536, tickFrom s.tick tt), tally := [] }
      mem := s.mem.filter (fun e => decide (e.1 < a ∨ a + 0x400000 ≤ e.1))
      unc := s.unc.filter (fun e => decide (8 * e.1 < a ∨ a + 0x400000 ≤ 8 * e.1)) }

/-- The registers of the tally list, in rising offset (R618). -/
def tallyOffsets : List Nat :=
  let all := fun (f : Fld) => (List.range f.c1).flatMap (fun i => (List.range f.c2).map (fun j => f.addr i j))
  let l := [Kv.SPn_STAT.LSTATE, Kv.SPn_PWR.EN, Kv.SPn_PERR.ERR, Kv.SPn_FOLD.FPOS, Kv.SPn_SERR.SAT, Kv.CLn_STAT.LSTATE, Kv.CLn_PERR.ERR,
    Kv.ALk_STAT.RSAT, Kv.ALk_CNT.SAT, Kv.SFEn_STAT.SAT, Kv.SFEn_LSTATj.SAT, Kv.DSP_PSTATk.SAT, Kv.DSP_ESTATk.SAT, Kv.Cn_XCNT.SAT,
    Kv.FLT_SSTn.PEND, Kv.MEM_DCNTm.DODD, Kv.CRCn_STAT.STATE, Kv.ACQn_GAPC.SAT, Kv.ACQn_MCNT.SAT, Kv.ETHn_CNT.SAT,
    Kv.CL_CASST.TOKEN, Kv.CL_DCNT.SAT, Kv.CL_SHDW.SAT, Kv.CL_MERR.SAT, Kv.LDG_CNT.SAT, Kv.CVU_STAT.SAT, Kv.DSP_T0STAT.SAT,
    Kv.FLT_STAT.LFULL, Kv.FLT_LOGP.RP, Kv.MEM_STAT.READY, Kv.MEM_ELOG2.SAT, Kv.IMG_STAT.SAT, Kv.IMG_MBS.SEQ, Kv.PCI_ECNT.SAT,
    Kv.SVL_STAT.SAT, Kv.SEC_STAT.STATE, Kv.TIM_STAT.ALIGNED].flatMap all
  (l.filter (fun a => !Kv.holes.contains a)).foldr ascInsert []

/-- At B(TT): the chip's registers are latched into the result; the tally goes to UPLOAD (R498). (DEDUCED: log entry 114.) -/
def Kv.tallyLatch (s : Kv) (t : Nat) : Kv :=
  match s.col.tallyOf with
  | some (no, tt) =>
    if tt = t ∧ s.rd Kv.IMG_TSTAT.STATE = 1 then
      let es := tallyOffsets.map (fun a => (a, s.regRead a))
      let s := (es.foldl (fun (p : Kv × Nat) e => ((p.1.wrLe p.2 e.1 4).wrLe (p.2 + 4) e.2 4, p.2 + 8)) (s, tallyAt no + 0x40)).1
      let s := s.repaired (tallyAt no + 0x40) (8 * es.length)
      (s.tallyBins no).wr Kv.IMG_TSTAT.STATE 2
    else s
  | none => s

/-- Words of cell `a` that have arrived, a bit each. -/
def Kv.tallyGot (s : Kv) (a : Nat) : Nat :=
  (List.range 32).foldl (fun m k => setBit m k (Tab.get 0 (a * 32 + k) s.col.tally != 0)) 0

/-- The occupied positions of the cell map. -/
def Kv.occupied (s : Kv) : List Nat :=
  (s.strings.flatMap (fun x => (s.positions x).map (fun p => x * 256 + p))).filter (fun a => decide (ctlClass (s.ctl0 a) < 2))

/-- TALLY_CLOSE: the report-arrival point of tick TT + 32 has passed; an incomplete tally raises TALLY (R409, R502). (DEDUCED: log entry 114.) -/
def tallyCloseKv (s : Kv) : Kv :=
  match s.col.tallyOf with
  | some (no, tt) =>
    if s.rd Kv.IMG_TSTAT.STATE = 2 ∧ s.closedFor (tickPlus tt 32) = true then
      let base := tallyAt no
      let occ := s.occupied
      let full := occ.filter (fun a => s.tallyGot a == 2 ^ 32 - 1)
      let inc := decide (full.length < occ.length)
      let s := s.col.tally.foldl (fun s e => s.storeLe (base + 0x4000 + 4 * e.1) (e.2 - 1) 4) s
      let s := s.each occ (fun s a => s.storeLe (base + 0x164000 + 4 * a) (s.tallyGot a) 4)
      let s := (s.wrLe (base + 0x08) tt 8).wrLe (base + 0x10) s.nowNs 4
      let s := (s.wrLe (base + 0x14) occ.length 4).wrLe (base + 0x18) full.length 4
      let s := (s.wrLe (base + 0x1C) tallyOffsets.length 4).wrLe base (no * 65536 + b2n inc * 2 + 1) 4
      let s := s.repaired base 0x20
      let s := ((s.wr Kv.IMG_TSTAT.STATE 3).wr Kv.IMG_TSTAT.INC (b2n inc)).wr Kv.IMG_TSTAT.LAST no
      ({ s with col := { s.col with tallyOf := none, tally := [] } } : Kv).when inc (fun s => s.raise Src.TALLY 0 no)
    else s
  | none => s

end Sys2Proof.Machine
end

