-- ==== Sys2Proof/Machine/Net.lean ====
section
/-! DEFINITION. PCIe, Ethernet, network time and the KV-9400's end of the supervisor link (R483 to R485, R504 to R512, R542). -/

namespace Sys2Proof.Machine

/-! ### PCIe (R484, R485) -/

/-- A PCIe error of a kind: counted and raised. -/
def Kv.pciErr (s : Kv) (kind : Nat) : Kv := (s.count Kv.PCI_ECNT.ERR Kv.PCI_ECNT.SAT Src.PCI_ERR).raise Src.PCI_ERR kind 0

/-- PCIE_LINK_LOSS: no event where the link is down. -/
def pcieLinkLossKv (s : Kv) : Kv :=
  if !s.on Kv.PCI_STAT.DLUP then s
  else (((s.wr Kv.PCI_STAT.DLUP 0).wr Kv.PCI_STAT.SPEED 0).wr Kv.PCI_STAT.WIDTH 0).pciErr 17

/-- Send the message of vector `v` where it is pending, unmasked and the link is up. (DESIGN CHOICE: log entry 118.) -/
def Kv.msixRelease (s : Kv) (v : Nat) : Kv :=
  if bit (s.rd Kv.PCI_PBAm.PEND (v / 32)) (v % 32) && !s.on Kv.PCI_MSIX_VC.MASK v && s.on Kv.PCI_STAT.DLUP then
    (s.wr Kv.PCI_PBAm.PEND (setBit (s.rd Kv.PCI_PBAm.PEND (v / 32)) (v % 32) false) (v / 32)).msix v
  else s

/-- PCIE_LINK_UP at a speed and width as PCI_STAT encodes them. -/
def pcieLinkUpKv (speed width : Nat) (s : Kv) : Kv :=
  if speed = 0 ∨ 4 < speed ∨ (width ≠ 1 ∧ width ≠ 2 ∧ width ≠ 4) then s
  else
    let s := ((s.mark Kv.PCI_STAT.DLUP).wr Kv.PCI_STAT.SPEED speed).wr Kv.PCI_STAT.WIDTH width
    s.each (List.range 128) Kv.msixRelease

/-- MSIX_VECTOR_UNMASK: the vector control word of `v` is written with mask 0. -/
def msixVectorUnmaskKv (v : Nat) (s : Kv) : Kv := (s.wr Kv.PCI_MSIX_VC.MASK 0 v).msixRelease v

/-! ### Ethernet (R504 to R506) -/

/-- ETH_LINK_CHANGE. -/
def ethLinkChangeKv (n : Nat) (up : Bool) (s : Kv) : Kv :=
  if s.on Kv.ETHn_CFG.LINK n = up then s else (s.wr Kv.ETHn_CFG.LINK (b2n up) n).raise Src.ETH_LINK 0 n

/-- Count a dropped frame, a late launch. (DEDUCED: log entry 116.) -/
def Kv.ethDrop (s : Kv) (n : Nat) : Kv := s.count Kv.ETHn_CNT.DROP Kv.ETHn_CNT.SAT Src.SYS_SAT n
def Kv.ethLate (s : Kv) (n : Nat) : Kv := s.count Kv.ETHn_CNT.LATE Kv.ETHn_CNT.SAT Src.SYS_SAT n

/-- Address of the transmit, of the receive descriptor at HEAD. -/
def Kv.ethTxd (s : Kv) (n : Nat) : Nat := 16 * s.rd Kv.ETHn_TXB.BASE n + 16 * s.rd Kv.ETHn_HEAD.TXH n
def Kv.ethRxd (s : Kv) (n : Nat) : Nat := 16 * s.rd Kv.ETHn_RXB.BASE n + 16 * s.rd Kv.ETHn_HEAD.RXH n

/-- The MAC address of a port. -/
def Kv.ethMac (s : Kv) (n : Nat) : Nat := s.rd Kv.ETHn_MACH.MAC n * 2 ^ 32 + s.rd Kv.ETHn_MACL.MAC n

/-- An access of a port to the `len` bytes from `a`, of the ring or buffer whose base register lies at `off`: `f` where they are DRAM that can be
read, else `g` with the access refused as KIND 18 or the transfer abandoned (R460, R468). (DESIGN CHOICE: log entry 209.) -/
def Kv.ethAccess (s : Kv) (a len off : Nat) (f g : Kv → Kv) : Kv :=
  if len ≠ 0 ∧ s.inDram (a + len - 1) = false then g (s.regacc 18 off)
  else if (s.badWords a len).isEmpty then f s
  else g (s.reportUnc (s.badWords a len))

/-- ETH_FRAME_RECEIVED: a frame, from its destination address on, and whether its FCS is right. A frame for the ring that finds no
descriptor handed to the port, or none or no buffer that it can reach, is dropped. (DEDUCED: log entry 116; DESIGN CHOICE: log entry 209.) -/
def ethFrameReceivedKv (n : Nat) (frame : List Byte) (fcs : Bool) (s : Kv) : Kv :=
  if !s.on Kv.ETHn_CFG.EN n then s
  else
    let b := fun (i : Nat) => ((frame[i]?).getD 0).toNat
    let dst := ofBe ((List.range 6).map b)
    let type := b 12 * 256 + b 13
    let mine := dst == s.ethMac n || dst == 2 ^ 48 - 1 || (bit (b 0) 0 && s.on Kv.ETHn_CFG.MCAST n)
    if type = 0x88F7 then s
    else if 64 ≤ frame.length ∧ frame.length ≤ 1522 ∧ fcs = true ∧ mine = true then
      let d := s.ethRxd n
      let off := Kv.ETHn_RXB.BASE.addr n 0
      let drop := fun (s : Kv) => s.ethDrop n
      s.ethAccess d 16 off (fun s =>
        let buf := 8 * s.rdLe d 4
        if !bit (s.rdLe (d + 4) 4) 31 then drop s
        else if !s.inDram (buf + frame.length - 1) then drop (s.regacc 18 off)
        else
          let s := s.storeBytes buf frame
          let stamp := (16 * s.nowNs + 2 ^ 36 - s.rd Kv.ETHn_LAT.RXL n) / 16 % 2 ^ 32
          let s := (s.storeLe (d + 12) stamp 4).storeLe (d + 4) frame.length 4
          let h := s.rd Kv.ETHn_HEAD.RXH n + 1
          s.wr Kv.ETHn_HEAD.RXH (if s.rd Kv.ETHn_RSZ.RXN n ≤ h then 0 else h) n) drop
    else s.ethDrop n

/-- The port is done with the descriptor at HEAD: stamp, OWN cleared, HEAD moves on. -/
def Kv.ethTxDone (s : Kv) (n stamp : Nat) : Kv :=
  let d := s.ethTxd n
  let s := (s.storeLe (d + 12) stamp 4).storeLe (d + 4) (s.rdLe (d + 4) 4 % 2 ^ 31) 4
  let h := s.rd Kv.ETHn_HEAD.TXH n + 1
  s.wr Kv.ETHn_HEAD.TXH (if s.rd Kv.ETHn_RSZ.TXN n ≤ h then 0 else h) n

/-- Send the frame of the descriptor at HEAD; one whose buffer the port cannot reach or read goes nowhere, and its descriptor is done with stamp 0. (DESIGN CHOICE: log entry 209.) -/
def Kv.ethSend (s : Kv) (n stamp : Nat) : Kv :=
  let d := s.ethTxd n
  let len := s.rdLe (d + 4) 4 % 2 ^ 14
  let buf := 8 * s.rdLe d 4
  s.ethAccess buf len (Kv.ETHn_TXB.BASE.addr n 0)
    (fun s => (s.send ⟨.eth, n, (s.bytesAt buf len).map (·.toNat)⟩).ethTxDone n stamp) (fun s => s.ethTxDone n 0)

/-- The stamp of a frame whose timestamp point leaves now. -/
def Kv.txStamp (s : Kv) (n : Nat) : Nat := (16 * s.nowNs + s.rd Kv.ETHn_LAT.TXL n) / 16 % 2 ^ 32

/-- `f` where a descriptor has been handed to the port at HEAD. -/
def Kv.ethReady (s : Kv) (n : Nat) (f : Kv → Kv) : Kv :=
  if s.on Kv.ETHn_CFG.EN n && s.on Kv.ETHn_CFG.LINK n then
    s.ethAccess (s.ethTxd n) 16 (Kv.ETHn_TXB.BASE.addr n 0) (fun s => s.when (bit (s.rdLe (s.ethTxd n + 4) 4) 31) f) id
  else s

/-- A timed descriptor that is no longer ahead of its launch: at once within LMAX, else discarded (R506). -/
def Kv.ethPassed (s : Kv) (n : Nat) (d : Int) : Kv :=
  if -(s.rd Kv.ETHn_CFG.LMAX n : Int) ≤ d then s.ethSend n (s.txStamp n) else (s.ethTxDone n 0).ethLate n

/-- LT − NS of the descriptor at HEAD. -/
def Kv.ethAhead (s : Kv) (n : Nat) : Int := sx 32 (toBits 32 ((s.rdLe (s.ethTxd n + 8) 4 : Int) - s.nowNs))

/-- ETH_TX_DESCRIPTOR: the port processes the descriptor at HEAD; a timed one that is ahead waits, and with it every one behind. -/
def ethTxDescriptorKv (n : Nat) (s : Kv) : Kv :=
  s.ethReady n (fun s =>
    if bit (s.rdLe (s.ethTxd n + 4) 4) 30 then
      if 0 < s.ethAhead n then s else s.ethPassed n (s.ethAhead n)
    else s.ethSend n (s.txStamp n))

/-- ETH_TIMED_LAUNCH: the timed descriptor at HEAD is sent at LT, within 4 ns, or under the rule for a launch that has passed. (DESIGN CHOICE: log entry 37.) -/
def ethTimedLaunchKv (n : Nat) (s : Kv) : Kv :=
  s.ethReady n (fun s =>
    if bit (s.rdLe (s.ethTxd n + 4) 4) 30 then
      if 0 < s.ethAhead n then
        let q := s.fresh
        q.2.ethSend n (toBits 32 ((s.rdLe (s.ethTxd n + 8) 4 : Int) + (Config.unstated q.1 % 9 : Nat) - 4))
      else s.ethPassed n (s.ethAhead n)
    else s)

/-! ### Network time (R507 to R512) -/

/-- PTP time of a counter value, as seconds and nanoseconds. -/
def Kv.ptpSecNs (s : Kv) (c : Nat) : List Nat := [s.ptpTime c / 1000000000, s.ptpTime c % 1000000000]

/-- The engine runs on port `n`. -/
def Kv.ptpOn (s : Kv) (n : Nat) : Bool := s.on Kv.ETH_PTP.EN && s.rd Kv.ETH_PTP.PORT == n

/-- PTP_SYNC_SEND: as master the engine sends a one-step Sync whose originTimestamp is the PTP time at which it crosses the reference
plane; none while the mapping is stale. (PRESUMED: log entry 117.) -/
def ptpSyncSendKv (s : Kv) : Kv :=
  let n := s.rd Kv.ETH_PTP.PORT
  if s.on Kv.ETH_PTP.EN && s.on Kv.ETH_PTP.MCAP && s.rd Kv.ETH_PTPST.PSTATE == 3 && !s.on Kv.ETH_PTPST.STALE then
    s.send ⟨.ptp, n, 0 :: s.rd Kv.ETH_PTP.DOM :: s.ptpSecNs (s.txStamp n)⟩
  else s

/-- The servo commits an increment within SLEW ppm of nominal; its value is the servo's own (R511). (DESIGN CHOICE: log entry 21.) -/
def Kv.ptpSteer (s : Kv) : Kv :=
  let lim := 10 * 2 ^ 32 * s.rd Kv.ETH_PTP.SLEW / 1000000
  let q := s.fresh
  let inc := 10 * 2 ^ 32 - lim + Config.unstated q.1 % (2 * lim + 1)
  let s := (q.2.wr Kv.TIM_INCI.INCI (inc / 2 ^ 32)).wr Kv.TIM_INCF.INCF inc
  { s with tim := { s.tim with incNext := some (BitVec.ofNat 40 inc) } }

/-- An offset from the master is measured: shown, corrected on the duty where it is at most 1 ms; the eighth Sync ends free-running. -/
def Kv.ptpOffset (s : Kv) (ofs : Word) : Kv :=
  if s.rd Kv.ETH_PTPST.PSTATE ≠ 2 then s
  else
    let big := decide (1000000 < ofs.toInt.natAbs)
    let s := (s.wr Kv.ETH_PTPOFS.OFS ofs.toNat).wr Kv.ETH_PTPST.BIG (b2n big)
    let s := s.when (s.on Kv.ETH_PTPST.FREE) (fun s =>
      if s.hst.syncs + 1 < 8 then { s with hst := { s.hst with syncs := s.hst.syncs + 1 } }
      else { s.wr Kv.ETH_PTPST.FREE 0 with hst := { s.hst with syncs := 0 } })
    s.when (s.servoRuns && !big) Kv.ptpSteer

/-- The servo free-runs at the last increment (R512). -/
def Kv.ptpFree (s : Kv) (kind : Nat) : Kv :=
  let s := (s.mark Kv.ETH_PTPST.FREE).raise Src.PTP_MASTER kind 0
  { s with hst := { s.hst with syncs := 0 } }

/-- PTP_MESSAGE_RECEIVED on port `n` for domain `dom`. A Pdelay_Resp carries the turnaround, which is the engine's own (R508; DESIGN CHOICE: log entry 37). (DESIGN CHOICE: log entry 37; PRESUMED: log entry 117.) -/
def ptpMessageReceivedKv (n dom : Nat) (m : PtpMsg) (s : Kv) : Kv :=
  if !s.ptpOn n || s.rd Kv.ETH_PTP.DOM != dom % 256 then s
  else
    match m with
    | .announce gmid state =>
      if state.toNat = 7 then s
      else
        let old := s.rd Kv.ETH_GMIDH.GMID * 2 ^ 32 + s.rd Kv.ETH_GMIDL.GMID
        let was := s.rd Kv.ETH_PTPST.PSTATE
        let s := s.wr Kv.ETH_PTPST.PSTATE state.toNat
        if state.toNat = 2 then
          let s := (s.wr Kv.ETH_GMIDH.GMID (gmid.toNat / 2 ^ 32)).wr Kv.ETH_GMIDL.GMID gmid.toNat
          s.when (was == 2 && old != gmid.toNat) (fun s => s.ptpFree 17)
        else s
    | .sync two ofs => if two then s else s.ptpOffset ofs
    | .followUp ofs => s.ptpOffset ofs
    | .pdelayReq =>
      let q := s.fresh
      q.2.send ⟨.ptp, n, [3, s.rd Kv.ETH_PTP.DOM, Config.unstated q.1]⟩
    | .pdelayResp => s
    | .management => s

/-- ANNOUNCE_TIMEOUT: the master has vanished. A master-capable clock becomes master, another listens. (PRESUMED: log entry 117.) -/
def announceTimeoutKv (s : Kv) : Kv :=
  if s.on Kv.ETH_PTP.EN && s.rd Kv.ETH_PTPST.PSTATE == 2 then
    (s.wr Kv.ETH_PTPST.PSTATE (if s.on Kv.ETH_PTP.MCAP then 3 else 1)).ptpFree 16
  else s

/-- ETH_PTP is written: the engine comes up listening and goes down disabled. (PRESUMED: log entry 117.) -/
def Kv.ptpWrite (s : Kv) (v : Nat) : Kv :=
  let was := s.on Kv.ETH_PTP.EN
  let s := s.writeReg Kv.ETH_PTP.EN.base v
  let now := s.on Kv.ETH_PTP.EN
  if was = now then s else s.wr Kv.ETH_PTPST.PSTATE (if now then 1 else 6)

/-! ### The supervisor link (R542) -/

/-- Send a REG request: its tag is the engine's own. (DESIGN CHOICE: log entry 37.) -/
def Kv.svlRequest (s : Kv) (op num : Nat) : Kv :=
  let s := s.wr Kv.SVL_REQ.NUM num
  if s.on Kv.SVL_REQ.BUSY then s.regacc 18 Kv.SVL_REQ.OP.base
  else
    let q := s.fresh
    let data := if op = 2 then s.rd Kv.SVL_WD.D else 0
    let s := q.2.mark Kv.SVL_REQ.BUSY
    { (s.send ⟨.svlReg, 0, svlMessage 0x03 ([op, num % 256] ++ beBytes 4 data ++ [Config.unstated q.1 % 256, 0])⟩) with
      hst := { s.hst with regRead := op == 1 } }

/-- SVL_REQ_READ and SVL_REQ_WRITE: SVL_REQ is written with OP 1, with OP 2. -/
def svlReqReadKv (num : Nat) (s : Kv) : Kv := s.svlRequest 1 num
def svlReqWriteKv (num : Nat) (s : Kv) : Kv := s.svlRequest 2 num

/-- SVL_RDATA_RECEIVED: the reply to the request under way. (DEDUCED: log entry 85.) -/
def svlRdataReceivedKv (status data : Nat) (s : Kv) : Kv :=
  let s := s.svlHeard
  if s.on Kv.SVL_REQ.BUSY then
    let s := (s.wr Kv.SVL_REQ.BUSY 0).wr Kv.SVL_REQ.RSTAT status
    s.when (s.hst.regRead && status % 8 == 0) (fun s => s.wr Kv.SVL_RD.D data)
  else s

/-- SVL_CTRL_SAFE, SVL_CTRL_TCLR, SVL_CTRL_RESUME: the next CMD carries the flag; a HELD chip refuses RESUME (R581). -/
def svlCtrlSafeKv (s : Kv) : Kv := { s with svlSafe := true }
def svlCtrlTclrKv (s : Kv) : Kv := { s with svlTclr := true }
def svlCtrlResumeKv (s : Kv) : Kv :=
  if s.on Kv.SYS_STAT.HELD then s.regacc 17 Kv.SVL_CTRL.RESUME.base else { s with svlResume := true }

/-- SVL_LINK_LOSS: no STAT in the last two ticks. -/
def svlLinkLossKv (s : Kv) : Kv :=
  if s.on Kv.SVL_STAT.UP && !tickIs s.svlLast s.tick && !tickIs s.svlLast (tickPrev s.tick) then (s.wr Kv.SVL_STAT.UP 0).raise Src.SVL_LINK 0 0 else s

/-- SVL_MESSAGE_DISCARD at the KV-9400's end. -/
def svlMessageDiscardKv (s : Kv) : Kv := s.count Kv.SVL_STAT.ERR Kv.SVL_STAT.SAT Src.SVL_LINK

end Sys2Proof.Machine
end

