-- ==== Sys2Proof/Machine/Security.lean ====
section
/-! DEFINITION. Key stores, debug sessions, core halts and power requests (R543 to R562), on a KV-9400 and on a KC-60. -/

namespace Sys2Proof.Machine

/-! ### The key store (R544 to R548) -/

/-- Each of the slots `l` holds a key: image slots that are programmed and not revoked. -/
def SecSt.anyImage (s : SecSt) (l : List Nat) : Bool := l.any (fun i => s.prog.testBit i && !s.rev.testBit i)

/-- PROG: an empty slot takes a hash (R547); none where the key store's state forbids it. -/
def SecSt.progKey (s : SecSt) (st slot hash : Nat) : Option SecSt :=
  if st = 0 ∧ s.prog.testBit slot = false then some { s with keys := Tab.set 0 slot hash s.keys, prog := setBit s.prog slot true } else none

/-- REVOKE: refused in SEALED and RETIRED, and where no image slot would be left. -/
def SecSt.revoke (s : SecSt) (st : Nat) (imgs : List Nat) (slot : Nat) : Option SecSt :=
  let t := { s with rev := setBit s.rev slot true }
  if (st = 0 ∨ st = 2) ∧ t.anyImage imgs = true then some t else none

/-- SEAL: in OPEN, with an image slot that is programmed and not revoked; it takes effect at the next reset. -/
def SecSt.seal (s : SecSt) (st : Nat) (imgs : List Nat) : Option SecSt :=
  if st = 0 ∧ s.anyImage imgs = true then some { s with sealNext := true } else none

/-- SVUP: in OPEN or SERVICE and in PARKED; refused where the running image's version is below the count. -/
def SecSt.svup (s : SecSt) (st : Nat) (parked : Bool) : Option SecSt :=
  if (st = 0 ∨ st = 2) ∧ parked = true ∧ s.svn ≤ s.imgSvn then some { s with svn := s.imgSvn } else none

/-- RETIRE blows every bit of every slot and the RETIRE fuse: an all-ones slot matches no key. -/
def SecSt.retire (s : SecSt) (slots : List Nat) : SecSt :=
  { s with keys := slots.foldl (fun k i => Tab.set 0 i (2 ^ 384 - 1) k) s.keys, retired := true }

/-- Twelve hash words, most significant first. -/
def hashOf (l : List Nat) : Nat := l.foldl (fun a w => a * 2 ^ 32 + w % 2 ^ 32) 0

/-- The security state of a chip, a refused key store command. -/
def Kv.secState (s : Kv) : Nat := s.rd Kv.SEC_STAT.STATE
def Kv.secRefuse (s : Kv) : Kv := s.regacc 20 Kv.SEC_CTRL.CODE.base

/-- A key store command of a chip: its code, then its own condition. -/
def Kv.secCmd (s : Kv) (code : BitVec 16) (f : Option SecSt) : Kv :=
  match f with
  | some t => if code = 0x5E4C#16 ∧ s.sec.fault = false then { s with sec := t } else s.secRefuse
  | none => s.secRefuse

/-- KEY_PROG on a chip: slots 6 and 7 are reserved. -/
def keyProgKv (slot : Nat) (code : BitVec 16) (s : Kv) : Kv :=
  if 6 ≤ slot then s.regacc 16 Kv.SEC_CTRL.CODE.base
  else s.secCmd code (s.sec.progKey s.secState slot (hashOf ((List.range 12).map (fun k => s.rd Kv.SEC_KDATAk.H k))))

/-- KEY_REVOKE, SEAL, SVUP on a chip. -/
def keyRevokeKv (slot : Nat) (code : BitVec 16) (s : Kv) : Kv :=
  if 6 ≤ slot then s.regacc 16 Kv.SEC_CTRL.CODE.base
  else s.secCmd code (s.sec.revoke s.secState [0, 1, 2, 3] slot)
def sealKv (code : BitVec 16) (s : Kv) : Kv := s.secCmd code (s.sec.seal s.secState [0, 1, 2, 3])
def svupKv (code : BitVec 16) (s : Kv) : Kv := s.secCmd code (s.sec.svup s.secState s.parked)

/-- RETIRE on a chip: permitted as R544 asks. -/
def Kv.retireOk (s : Kv) (code : BitVec 16) : Bool :=
  code == 0x5E4C#16 && s.parked && s.mode == 0 && !s.duty && s.secState != 3 && !s.sec.fault &&
  (s.secState != 1 || s.rd Kv.DBG_STAT.LEVEL != 0)

/-- The security state of a module, and a hash in its data registers. -/
def Cell.secState (s : Cell) : Nat := s.rd Kc.CC_SEC.STATE
def Cell.keyData (s : Cell) : Nat := hashOf ((List.range 12).map (fun k => s.rd Kc.CC_KDATAk.H k))

/-- A key store command of a module; what a refusal changes is only the answer (R547). -/
def Cell.secCmd (s : Cell) (code : BitVec 16) (f : Option SecSt) : Cell :=
  match f with
  | some t => if s.runs = true ∧ code = 0x5E4C#16 ∧ s.sec.fault = false then { s with sec := t } else s
  | none => s

/-- Slots 0, 1 and 4 exist on a module. -/
def cellSlot (slot : Nat) : Bool := slot == 0 || slot == 1 || slot == 4

/-- KEY_PROG, KEY_REVOKE, SEAL and SVUP on a module. -/
def keyProgCell (slot : Nat) (code : BitVec 16) (s : Cell) : Cell :=
  if cellSlot slot then s.secCmd code (s.sec.progKey s.secState slot s.keyData) else s
def keyRevokeCell (slot : Nat) (code : BitVec 16) (s : Cell) : Cell :=
  if cellSlot slot then s.secCmd code (s.sec.revoke s.secState [0, 1] slot) else s
def sealCell (code : BitVec 16) (s : Cell) : Cell := s.secCmd code (s.sec.seal s.secState [0, 1])
def svupCell (code : BitVec 16) (s : Cell) : Cell :=
  let t := s.secCmd code (s.sec.svup s.secState (s.hmode == 0))
  t.wr Kc.CC_SEC.SVN t.sec.svn

/-- RETIRE on a module: its header mode is PARKED, in SEALED with an open session. It restarts, and sets LOCK at once (R544, R545). -/
def retireCell (code : BitVec 16) (s : Cell) : Cell :=
  if s.runs ∧ code = 0x5E4C#16 ∧ s.hmode = 0 ∧ s.secState ≠ 3 ∧ s.sec.fault = false ∧ (s.secState ≠ 1 ∨ s.rd Kc.CC_DSTAT.LEVEL ≠ 0) then
    ({ s with sec := s.sec.retire [0, 1, 4] }.mark Kc.GRD_STAT.LOCK).mainReset 2
  else s

/-! ### Sessions (R552 to R555, R560, R561) -/

/-- The tables of R560: level (1 trace, 2 halt) under security state, power state, BENCH and token. -/
def Kv.dbgPermits (s : Kv) (st level : Nat) : Bool :=
  let p := s.rd Kv.SYS_PWR.STATE
  if p = 2 then false
  else if level = 1 then true
  else if level = 2 then
    match st with
    | 0 => p == 1 || s.on Kv.SEC_STAT.BENCH || !s.duty
    | 1 => false
    | 2 => p == 1 || !s.duty
    | _ => true
  else false

/-- The tables of R561; in RETIRED a session is granted through J4 only (path 2). -/
def Cell.dbgPermits (s : Cell) (st level path : Nat) : Bool :=
  if !s.runs ∨ s.power < 2 then false
  else if st = 3 then path == 2 && (level == 1 || level == 2)
  else if level = 1 then true
  else level == 2 && st != 1

/-- The state a request is judged under: SEALED with SVC granted is SERVICE. -/
def judgedState (st : Nat) (svc : Bool) : Nat := if st = 1 ∧ svc = true then 2 else st

/-- The result of a VERIFY (RES of R564) before the tables: 2 a slot that is unusable, 3 a nonce void, 1 another key or a failing
signature, 0 passed. In OPEN and RETIRED nothing is authenticated. (DEDUCED: log entry 119.) -/
def SecSt.judge (s : SecSt) (st slot : Nat) (hash : BitVec 384) (sig : Bool) : Nat :=
  if st = 0 ∨ st = 3 then 0
  else if !s.usable slot then 2
  else if !s.nonce then 3
  else if Tab.get 0 slot s.keys ≠ hash.toNat ∨ sig = false then 1
  else 0

/-- A path may make requests: no other path holds the part, none has a VERIFY under way (R554, R562). (DEDUCED: log entry 211.) -/
def SecSt.free (s : SecSt) (path : Nat) : Bool := (s.holder == 0 || s.holder == path) && (s.verify.isNone || s.verPath == path)

/-- A challenge: a fresh nonce, and the part is the requester's. -/
def SecSt.challenge (s : SecSt) (path : Nat) : SecSt := { s with nonce := true, holder := path }

/-- A VERIFY starts; the part is its path's only once a session is granted, or where that path wrote the CHAL (R554). (DEDUCED: log entry 211.) -/
def SecSt.begin (s : SecSt) (path level : Nat) (svc : Bool) (dslot : Nat) : SecSt :=
  { s with verPath := path, verify := some (level, svc, dslot) }

/-- A session is granted: the part is the path's that asked. (DEDUCED: log entry 211.) -/
def SecSt.granted (s : SecSt) : SecSt := { s with holder := s.verPath }

/-- A VERIFY ends: its nonce is used; a failure counts, eight in a row lock. (DEDUCED: log entry 119.) -/
def SecSt.after (s : SecSt) (ok : Bool) : SecSt :=
  let n := if ok then 0 else s.fails + 1
  { s with verify := none, nonce := false, fails := n, lockout := s.lockout || decide (8 ≤ n) }

/-- DEBUG_CHAL on a chip. (DESIGN CHOICE: log entries 19, 146.) -/
def debugChalKv (path : Nat) (s : Kv) : Kv :=
  if !s.sec.free path then s.wr Kv.DBG_STAT.RES 6
  else
    let s := s.each (List.range 12) (fun t k => t.wr Kv.DBG_CHALk.N (Config.nonceWord (s.free + k)).toNat k)
    { s with free := s.free + 12, sec := s.sec.challenge path }

/-- DEBUG_VERIFY on a chip: refused at once for another path, while one runs, under lockout. -/
def debugVerifyKv (path level : Nat) (svc : Bool) (dslot : Nat) (s : Kv) : Kv :=
  let off := Kv.DBG_REQ.LEVEL.base
  let okL := level = 1 ∨ level = 2
  let s := if okL then s.wr Kv.DBG_REQ.LEVEL level else s.regacc 16 off
  let s := (s.wr Kv.DBG_REQ.SVC (b2n svc)).wr Kv.DBG_REQ.DSLOT dslot
  if !s.sec.free path ∨ s.sec.verify.isSome then s.wr Kv.DBG_STAT.RES 6
  else if s.sec.lockout then s.wr Kv.DBG_STAT.RES 5
  else { s with sec := s.sec.begin path (s.rd Kv.DBG_REQ.LEVEL) svc (dslot % 2) }

/-- DEBUG_VERIFY_DONE on a chip: the hash of the key given and whether the signature verifies. (DEDUCED: log entry 119; DESIGN CHOICE: log entry 140.) -/
def debugVerifyDoneKv (hash : BitVec 384) (sig : Bool) (s : Kv) : Kv :=
  match s.sec.verify with
  | none => s
  | some (level, svc, d) =>
    let st := s.secState
    let r := s.sec.judge st (4 + d) hash sig
    if r ≠ 0 then
      let s := { s with sec := s.sec.after false }
      ((s.wr Kv.DBG_STAT.RES r).count Kv.SEC_STAT.AFAIL Kv.SEC_STAT.SAT Src.SEC_AUTH).raise Src.SEC_AUTH 0 0
    else
      let s := { s with sec := s.sec.after true }
      let st' := judgedState st svc
      if s.dbgPermits st' level then
        let s := (s.wr Kv.DBG_STAT.RES 0).wr Kv.DBG_STAT.LEVEL level
        let s := { (s.wr Kv.DBG_STAT.SVC (b2n svc)).wr Kv.DBG_STAT.PATH s.sec.verPath with sec := s.sec.granted }
        (s.wr Kv.SEC_STAT.STATE st').raise Src.DBG_SESS 0 0
      else s.wr Kv.DBG_STAT.RES 4

/-- Cores in a mask resume; an ending that waited for that takes effect (R556). -/
def Kv.resume (s : Kv) (mask : Nat) : Kv :=
  let h := s.rd Kv.DBG_STAT.HALTED
  let s := s.wr Kv.DBG_STAT.HALTED ((List.range 16).foldl (fun v i => if bit mask i then setBit v i false else v) h)
  let waits := s.dsp.killWait && (match s.t0Place with | some (n, _) => !s.coreHalted n | none => true)
  if waits then ({ s with dsp := { s.dsp with killWait := false } } : Kv).killT0 else s

/-- The session ends: halted cores resume, SERVICE returns to SEALED (R555). -/
def Kv.endSession (s : Kv) : Kv :=
  let s := s.resume 0xFFFF
  let s := ((s.wr Kv.DBG_STAT.LEVEL 0).wr Kv.DBG_STAT.SVC 0).wr Kv.DBG_STAT.PATH 0
  let s := s.when (s.secState == 2) (fun s => s.wr Kv.SEC_STAT.STATE 1)
  { s with sec := { s.sec with holder := 0, verify := none, nonce := false } }

/-- DEBUG_CLOSE, SESSION_IDLE_TIMEOUT, PROBE_DISCONNECT on a chip. -/
def debugCloseKv (path : Nat) (s : Kv) : Kv :=
  if !s.sec.free path then s.wr Kv.DBG_STAT.RES 6 else if s.rd Kv.DBG_STAT.LEVEL = 0 then s else s.endSession
def sessionIdleTimeoutKv (s : Kv) : Kv := if s.rd Kv.DBG_STAT.LEVEL = 0 then s else s.endSession
def probeDisconnectKv (s : Kv) : Kv := if s.rd Kv.DBG_STAT.PATH = 2 then s.endSession else s

/-- AUTH_LOCKOUT_END, DEBUG_NONCE_EXPIRY on a chip. -/
def authLockoutEndKv (s : Kv) : Kv := { s with sec := { s.sec with lockout := false, fails := 0 } }
def debugNonceExpiryKv (s : Kv) : Kv :=
  { s with sec := { s.sec with nonce := false, holder := if s.rd Kv.DBG_STAT.LEVEL = 0 then 0 else s.sec.holder } }

/-! ### Core halts (R556) -/

/-- A DBG_CORE command from a path: it needs an open session of that path at halt level; otherwise it is refused for security. CMASK takes
the write in any case (R8). (DEDUCED: log entry 121.) -/
def Kv.coreCmd (s : Kv) (path mask : Nat) (f : Kv → Kv) : Kv :=
  let s := s.wr Kv.DBG_CORE.CMASK mask
  if !s.sec.free path then s.wr Kv.DBG_STAT.RES 6
  else if s.rd Kv.DBG_STAT.LEVEL ≠ 2 then s.regacc 20 Kv.DBG_CORE.CMD.base
  else f s

/-- Core `n` halts: its stall item is withdrawn, and DBG_SESS is raised. (DEDUCED: log entry 121.) -/
def Kv.haltCore (s : Kv) (n : Nat) : Kv :=
  ((s.wr Kv.DBG_STAT.HALTED (setBit (s.rd Kv.DBG_STAT.HALTED) n true)).withdraw n).raise Src.DBG_SESS 0 n

/-- CORE_HALT: the cores of the mask that run. -/
def coreHaltKv (path mask : Nat) (s : Kv) : Kv :=
  s.coreCmd path mask (fun s => s.each ((List.range 16).filter (fun n => bit mask n && !s.coreHalted n)) Kv.haltCore)

/-- CORE_RESUME. -/
def coreResumeKv (path mask : Nat) (s : Kv) : Kv := s.coreCmd path mask (fun s => s.resume mask)

/-! ### Sessions and halts of a module (R553 to R557, R561) -/

/-- A debug request is refused: its result, and SEC (R163). -/
def Cell.debugRefuse (s : Cell) (res : Nat) : Cell := (s.wr Kc.CC_DSTAT.RES res).event Ev.SEC

/-- DEBUG_CHAL on a module. (DESIGN CHOICE: log entry 19.) -/
def debugChalCell (path : Nat) (s : Cell) : Cell :=
  if !s.runs then s
  else if !s.sec.free path then s.debugRefuse 6
  else
    let t := (List.range 12).foldl (fun t k => t.wr Kc.CC_DCHk.N (Config.nonceWord (s.free + k)).toNat k) s
    { t with free := s.free + 12, sec := s.sec.challenge path }

/-- DEBUG_VERIFY on a module, whose one debug slot is slot 4. -/
def debugVerifyCell (path level : Nat) (svc : Bool) (s : Cell) : Cell :=
  if !s.runs then s
  else
    let s := if level = 1 ∨ level = 2 then s.wr Kc.CC_DREQ.LEVEL level else s
    let s := s.wr Kc.CC_DREQ.SVC (b2n svc)
    if !s.sec.free path ∨ s.sec.verify.isSome then s.debugRefuse 6
    else if s.sec.lockout then s.debugRefuse 5
    else { s with sec := s.sec.begin path (s.rd Kc.CC_DREQ.LEVEL) svc 0 }

/-- DEBUG_VERIFY_DONE on a module: a failure, and a session that is not permitted, raise SEC. (DEDUCED: log entry 119; DESIGN CHOICE: log entry 140.) -/
def debugVerifyDoneCell (hash : BitVec 384) (sig : Bool) (s : Cell) : Cell :=
  match s.sec.verify with
  | none => s
  | some (level, svc, _) =>
    let st := s.secState
    let r := s.sec.judge st 4 hash sig
    if r ≠ 0 then { s with sec := s.sec.after false }.debugRefuse r
    else
      let s := { s with sec := s.sec.after true }
      let st' := judgedState st svc
      if s.dbgPermits st' level s.sec.verPath then
        let s := (s.wr Kc.CC_DSTAT.RES 0).wr Kc.CC_DSTAT.LEVEL level
        let s := { s with sec := s.sec.granted }
        ((s.wr Kc.CC_DSTAT.SVC (b2n svc)).wr Kc.CC_DSTAT.PATH s.sec.holder).wr Kc.CC_SEC.STATE st'
      else s.debugRefuse 4

/-- A halted module resumes; a freeze is released, and a park ends at the next boundary. -/
def Cell.resume (s : Cell) : Cell := genFreezeReleaseCell { (s.wr Kc.CC_DSTAT.HALTED 0) with haltReq := false, haltPark := false }

/-- The session of a module ends. -/
def Cell.endSession (s : Cell) : Cell :=
  let s := ((s.resume.wr Kc.CC_DSTAT.LEVEL 0).wr Kc.CC_DSTAT.SVC 0).wr Kc.CC_DSTAT.PATH 0
  let s := s.when (s.secState == 2) (fun s => s.wr Kc.CC_SEC.STATE 1)
  { s with sec := { s.sec with holder := 0, verify := none, nonce := false } }

/-- DEBUG_CLOSE, SESSION_IDLE_TIMEOUT, PROBE_DISCONNECT, AUTH_LOCKOUT_END, DEBUG_NONCE_EXPIRY on a module. -/
def debugCloseCell (path : Nat) (s : Cell) : Cell :=
  if !s.runs then s
  else if !s.sec.free path then s.debugRefuse 6 else if s.rd Kc.CC_DSTAT.LEVEL = 0 then s else s.endSession
def sessionIdleTimeoutCell (s : Cell) : Cell := if s.runs ∧ s.rd Kc.CC_DSTAT.LEVEL ≠ 0 then s.endSession else s
def probeDisconnectCell (s : Cell) : Cell := if s.runs ∧ s.rd Kc.CC_DSTAT.PATH = 2 then s.endSession else s
def authLockoutEndCell (s : Cell) : Cell := { s with sec := { s.sec with lockout := false, fails := 0 } }
def debugNonceExpiryCell (s : Cell) : Cell :=
  { s with sec := { s.sec with nonce := false, holder := if s.rd Kc.CC_DSTAT.LEVEL = 0 then 0 else s.sec.holder } }

/-- A CC_DREQ core command: it needs an open session of its path at halt level. -/
def Cell.coreCmd (s : Cell) (path : Nat) (f : Cell → Cell) : Cell :=
  if !s.runs then s
  else if !s.sec.free path then s.debugRefuse 6
  else if s.rd Kc.CC_DSTAT.LEVEL ≠ 2 then s.event Ev.SEC
  else f s

/-- CELL_HALT: in OPEN with BENCH high a freeze; in RETIRED, where no program runs and the outputs stay at 0, at once; else park
first. -/
def cellHaltCell (path : Nat) (s : Cell) : Cell :=
  s.coreCmd path (fun s =>
    if s.secState = 0 ∧ s.on Kc.CC_SEC.BENCH = true then genFreezeCell (s.mark Kc.CC_DSTAT.HALTED)
    else if s.secState = 3 then s.mark Kc.CC_DSTAT.HALTED
    else { s with haltReq := true, haltPark := true })

/-- CELL_RESUME. -/
def cellResumeCell (path : Nat) (s : Cell) : Cell := s.coreCmd path Cell.resume

/-! ### Cell program banks (R551) -/

/-- CC_BOOT_CHK: the bank that does not run is checked; `i` is what the boot ROM finds in it. A failed check raises SEC (R163). (DEDUCED: log entry 68.) -/
def ccBootChkCell (i : ImgChk) (s : Cell) : Cell :=
  if !s.runs ∨ s.secState = 3 then s
  else if s.sec.imagePasses s.secState [0, 1] i then s.wr Kc.CC_BOOT.CRES 2
  else (s.wr Kc.CC_BOOT.CRES 3).event Ev.SEC

/-- Write CC_BOOT.SEL; answers whether it was taken: the other bank only once CRES reads valid, and not in RETIRED. (DEDUCED: log entry 69.) -/
def Cell.writeSel (s : Cell) (v : Nat) : Cell × Bool :=
  let v := v % 2
  if v = s.rd Kc.CC_BOOT.SEL then (s, true)
  else if s.secState = 3 ∨ (v ≠ s.rd Kc.CC_BOOT.RUN ∧ s.rd Kc.CC_BOOT.CRES ≠ 2) then (s, false)
  else (s.wr Kc.CC_BOOT.SEL v, true)

/-- CC_BOOT_SEL_WRITE. -/
def ccBootSelWriteCell (v : Nat) (s : Cell) : Cell := if s.runs then (s.writeSel v).1 else s

end Sys2Proof.Machine
end

