-- ==== Sys2Proof/Machine/CellRegs.lean ====
section
/-! DEFINITION. The registers of a KC-60 as the side channel and its own core reach them (R8 to R10, R133, R134, R619, R620). -/

namespace Sys2Proof.Machine

/-- The state in which an RWL field of a KC-60 takes a write: OPEN or SERVICE, or the states that the field's map names in their place (R134,
R160, R187, R216, R218). (DEDUCED: log entry 66.) -/
def Cell.lockOpen (s : Cell) (f : Fld) : Bool :=
  let role := f.base != Kc.CC_ROLE.SENSOR.base || s.hmode == 0
  match f.lock with
  | .kcRole => role && s.secState != 3
  | .kcTest => s.rwlOpen && s.hmode == 2
  | .kcParked => s.hmode == 0
  | .kcCap => s.capState == capIdle || s.capState == capDone
  | .kcGuard => s.rwlOpen && !s.on Kc.GRD_STAT.LOCK
  | _ => role && s.rwlOpen

/-- The write of `v` to a field is refused: a reserved value, or another than the present one under a lock (R8, R10). -/
def Cell.refuses (s : Cell) (f : Fld) (i v : Nat) : Bool :=
  match f.acc with
  | .rw => !f.ok v
  | .rwl => s.rd f i != v && !(s.lockOpen f && f.ok v)
  | _ => false

/-- A field takes `v` as its access code says (R8). -/
def Cell.takes (s : Cell) (f : Fld) (i v : Nat) : Cell :=
  match f.acc with
  | .ro | .wo => s
  | .rw | .rwl => s.wr f v i
  | .w1c => s.wr f (s.rd f i - (s.rd f i &&& v)) i
  | .w1s => s.wr f (s.rd f i ||| v) i
  | .sat => if v = f.max then s.wr f 0 i else s

/-- Every field of the register at an address takes its bits of a word, but those that refuse theirs as things stand before the write; and whether
all took them. -/
def Cell.writeFields (s : Cell) (a v : Nat) : Cell × Bool :=
  Kc.flds.foldl (fun r f =>
    match f.at? a with
    | some (i, _) =>
      let x := f.clean (bits v f.lo f.w)
      if s.refuses f i x then (r.1, false) else (r.1.takes f i x, r.2)
    | none => r) (s, true)

/-- A register lies at this address. -/
def Kc.isReg (a : Nat) : Bool := Kc.flds.any (fun f => (f.at? a).isSome)

/-- CC_SECC is written (R547, R566): reserved commands and slots are refused, and so is a command that its conditions forbid. (DEDUCED: log entry 122.) -/
def Cell.writeSecc (s : Cell) (v : Nat) : Cell × Bool :=
  let code := BitVec.ofNat 16 (bits v 16 16)
  let slot := bits v 0 3
  let open_ := s.runs && code == 0x5E4C#16 && !s.sec.fault
  match bits v 13 3 with
  | 0 => (s, true)
  | 1 => (keyProgCell slot code s, open_ && cellSlot slot && (s.sec.progKey s.secState slot s.keyData).isSome)
  | 2 => (keyRevokeCell slot code s, open_ && cellSlot slot && (s.sec.revoke s.secState [0, 1] slot).isSome)
  | 3 => (sealCell code s, open_ && (s.sec.seal s.secState [0, 1]).isSome)
  | 4 => (retireCell code s, open_ && s.hmode == 0 && s.secState != 3 && (s.secState != 1 || s.rd Kc.CC_DSTAT.LEVEL != 0))
  | 5 => (svupCell code s, open_ && (s.sec.svup s.secState (s.hmode == 0)).isSome)
  | _ => (s, false)

/-- CORE of CC_DREQ: 1 HALT, 2 RESUME, 3 STEP (R557, R566). A step lets one instruction of a halted core run. -/
def Cell.dbgCore (s : Cell) (path c : Nat) : Cell :=
  match c with
  | 1 => cellHaltCell path s
  | 2 => cellResumeCell path s
  | 3 => s.coreCmd path (fun s => { s with stepOk := s.on Kc.CC_DSTAT.HALTED })
  | _ => s

/-- CC_DREQ is written by a path (1 side channel, 2 Probe): a session request, or a core command (R553, R557, R566). -/
def Cell.writeDreq (s : Cell) (path v : Nat) : Cell × Bool :=
  let lvl := bits v 27 2
  let svc := bit v 26
  let okL := lvl == 1 || lvl == 2
  let t := if okL then s.wr Kc.CC_DREQ.LEVEL lvl else s
  let t := t.wr Kc.CC_DREQ.SVC (b2n svc)
  match bits v 29 3 with
  | 0 => (t.dbgCore path (bits v 0 2), okL)
  | 1 => ((debugChalCell path t).dbgCore path (bits v 0 2), okL)
  | 2 => ((debugVerifyCell path lvl svc s).dbgCore path (bits v 0 2), okL)
  | 3 => ((debugCloseCell path t).dbgCore path (bits v 0 2), okL)
  | _ => (t.dbgCore path (bits v 0 2), false)

/-- CC_BOOT is written: CHK starts a check of the other bank, SEL follows R551. -/
def Cell.writeBoot (s : Cell) (v : Nat) : Cell × Bool :=
  let r := s.writeSel (bits v 28 1)
  (r.1.when (bit v 31 && s.runs && s.secState != 3) (fun s => s.wr Kc.CC_BOOT.CRES 1), r.2)

/-- A word of CC_BWIN goes into the bank that does not run, most significant byte last; not in RETIRED (R566). (DEDUCED: log entries 69, 70.) -/
def Cell.writeBwin (s : Cell) (a v : Nat) : Cell × Bool :=
  if s.secState = 3 then (s, false)
  else
    let base := (1 - s.rd Kc.CC_BOOT.RUN) * 0x20000 + (a - Kc.CC_BWIN.D.base)
    ({ s with banks := (List.range 4).foldl (fun t i => Tab.set 0 (base + i) (BitVec.ofNat 8 (v / 256 ^ i)) t) s.banks }, true)

/-- GEN_CTRL is written: SRC with what setting it does, the rest field by field. -/
def Cell.writeGenCtrl (s : Cell) (v : Nat) : Cell × Bool :=
  let r := s.writeSrc (bits v 4 1)
  let w := r.1.writeFields Kc.GEN_CTRL.SRC.base (putBits v 4 1 (r.1.rd Kc.GEN_CTRL.SRC))
  (w.1.syncJ3, r.2 && w.2)

/-- GEN_TRIP is written at `t`: an active input latches at its first enable (R595). (DEDUCED: log entry 61.) -/
def Cell.writeGenTrip (s : Cell) (t v : Nat) : Cell × Bool :=
  let r := s.writeFields Kc.GEN_TRIP.TEN.base v
  (r.1.when r.1.runs (Cell.tripEnabled t), r.2)

/-- ADC_CAL is written: GO starts a run. -/
def Cell.writeCal (s : Cell) (v : Nat) : Cell × Bool :=
  let r := s.writeFields Kc.ADC_CAL.GO.base v
  (r.1.when (bit v 23) adcCalGoCell, r.2)

/-- ADC_INJ is written at `t` × 1.25 ns after the boundary: GO requests a conversion of INP. -/
def Cell.writeInj (s : Cell) (t v : Nat) : Cell × Bool :=
  let r := s.writeFields Kc.ADC_INJ.GO.base v
  (r.1.when (bit v 3) (adcInjGoCell (bits v 0 3) t), r.2)

/-- GRD_CFG or GRD_TH is written: refused under LOCK, with CFG raised; a change of FILT begins a new filter window (R150, R155, R163). -/
def Cell.writeGuard (s : Cell) (a v : Nat) : Cell × Bool :=
  if s.on Kc.GRD_STAT.LOCK then (s.event Ev.CFG, false)
  else
    let r := s.writeFields a v
    (r.1.when (r.1.rd Kc.GRD_CFG.FILT != s.rd Kc.GRD_CFG.FILT) (Cell.onGrd · (fun g => { g with win := [] })), r.2)

/-- OPTn_PCTL is written: ELIVE is set only while the header announces PARKED or TEST (R164), patterns 4 and 5 are reserved in start-up
mode (R96), and EGO starts an injection (R80). A module's port reads EN as 1 (R164), so that it is never out of frame service: it never enters TEST, and
its generator and checker never run. (DESIGN CHOICE: log entry 188.) -/
def Cell.writePctl (s : Cell) (i v : Nat) : Cell × Bool :=
  let bad := bit v 18 && s.hmode == 1
  let pam := fun (p : Nat) => !(s.port (if i = 0 then .w else .e)).hop.service && (p == 4 || p == 5)
  let badG := pam (bits v 0 3)
  let badC := pam (bits v 4 3)
  let v := if bad then putBits v 18 1 (s.rd Kc.OPTn_PCTL.ELIVE i) else v
  let v := if badG then putBits v 0 3 (s.rd Kc.OPTn_PCTL.GPAT i) else v
  let v := if badC then putBits v 4 3 (s.rd Kc.OPTn_PCTL.CPAT i) else v
  let r := s.writeFields (Kc.OPTn_PCTL.EGO.addr i 0) v
  (r.1.when (bit v 11) (fun s => s.optStep (if i = 0 then .w else .e) injectStep), r.2 && !bad && !badG && !badC)

/-- OPTn_CTRL is written: the receive polarity follows (R91, R164). -/
def Cell.writeOpt (s : Cell) (i v : Nat) : Cell × Bool :=
  let r := s.writeFields (Kc.OPTn_CTRL.BRING.addr i 0) v
  (r.1.optStep (if i = 0 then .w else .e) (fun F c i h => hopPolarity F c i h), r.2)

/-- CAP_CTRL is written at `tofs` × 10 ns into the tick: ARM, TRIG and ABORT, in rising bit order. (DEDUCED: log entry 64.) -/
def Cell.writeCapCtrl (s : Cell) (tofs v : Nat) : Cell :=
  ((s.when (bit v 0) (capArmCell tofs)).when (bit v 1) (capTrigCell tofs)).when (bit v 2) (capAbortCell tofs)

/-- CC_RST is written. -/
def Cell.writeRst (s : Cell) (v : Nat) : Cell :=
  if bit v 9 then mainDomainResetCell true s else if bit v 8 then cellCoreResetCell s else s

/-- Write the register at byte address `a`, at `tofs` × 10 ns into the tick: the new state, and whether the write was taken whole;
none where no register lies (R134, R620). -/
def Cell.writeReg (s : Cell) (path tofs a v : Nat) : Option (Cell × Bool) :=
  if !Kc.isReg a then none
  else if a = Kc.CC_RST.MAIN.base then some (s.writeRst v, true)
  else if a = Kc.CC_EVP.PEND.base then some (ccEvpWriteCell v s, true)
  else if a = Kc.CC_SECC.CMD.base then some (s.writeSecc v)
  else if a = Kc.CC_BOOT.CHK.base then some (s.writeBoot v)
  else if a = Kc.CC_DREQ.CMD.base then some (s.writeDreq path v)
  else if (Kc.CC_BWIN.D.at? a).isSome then some (s.writeBwin a v)
  else if a = Kc.GEN_CTRL.SRC.base then some (s.writeGenCtrl v)
  else if a = Kc.GEN_TRIP.TEN.base then some (s.writeGenTrip (s.gen.bT + 8 * tofs) v)
  else if a = Kc.GEN_DT.DT0.base then some (s.writeDt v)
  else if a = Kc.GEN_MINP.MINP.base then some (s.writeMinp v)
  else if a = Kc.GEN_LPA.ST0.base then some (s.writeLpa v)
  else if a = Kc.GEN_LPB.ST2.base then some (s.writeLpb v)
  else if a = Kc.ADC_CAL.GO.base then some (s.writeCal v)
  else if a = Kc.ADC_INJ.GO.base then some (s.writeInj (8 * tofs) v)
  else if a = Kc.GRD_CFG.EN.base ∨ a = Kc.GRD_TH.OVTH.base then some (s.writeGuard a v)
  else if a = Kc.GRD_STAT.OV.base then some (guardClearCell (bit v 16) (bit v 17) s, true)
  else if a = Kc.CAP_CTRL.ARM.base then some (s.writeCapCtrl tofs v, true)
  else
    match Kc.OPTn_PCTL.EGO.at? a, Kc.OPTn_CTRL.BRING.at? a with
    | some (i, _), _ => some (s.writePctl i v)
    | none, some (i, _) => some (s.writeOpt i v)
    | none, none =>
      let r := s.writeFields a v
      some (r.1.logConfig s (s.gen.bT + 8 * tofs), r.2)

/-- What a field reads as. -/
def Cell.fieldRead (s : Cell) (f : Fld) (i : Nat) : Nat :=
  match f.acc with
  | .wo => 0
  | _ =>
    if f.base = Kc.CAP_DATA.D.base then
      Tab.get 0 (2 * i) s.meas.words % 65536 + Tab.get 0 (2 * i + 1) s.meas.words % 65536 * 65536
    else if f.base = Kc.OPTn_PEAK.PK.base ∧ f.lo = 0 then
      if s.on Kc.OPTn_PEAK.MAN i then s.rd Kc.OPTn_PEAK.MPK i else s.rd f i
    else s.rd f i

/-- The word a register reads as. -/
def Cell.regRead (s : Cell) (a : Nat) : Nat :=
  Kc.flds.foldl (fun w f =>
    match f.at? a with
    | some (i, _) => w + s.fieldRead f i * 2 ^ f.lo
    | none => w) 0

/-- A read at this address is answered with ERR 3: CC_BWIN always, CAP_DATA in ARMED and POST (R214, R620). -/
def Cell.readBarred (s : Cell) (a : Nat) : Bool :=
  let st := s.rd Kc.CAP_STAT.STATE
  (Kc.CC_BWIN.D.at? a).isSome || ((Kc.CAP_DATA.D.at? a).isSome && (st == capArmed || st == capPost))

/-! ### The side channel (R133, R134) -/

/-- An answer of OP `op` in the report of tick `n`, on the frame that travels towards the chip behind port `p`. -/
def Cell.answer (s : Cell) (p : Port) (n op tid side : Nat) : Cell :=
  { s with replies := Tab.set 0 (2 * n + p.idx) ((op * 16 + tid) * 2 ^ 32 + side % 2 ^ 32) s.replies }

/-- The copy held at the deadline on port `p` for the coming target tick, with OP as `f` asks, where the cell program runs to answer it (R159). A
slot with MODE BYPASS_FIRE carries no request. -/
def Cell.request (s : Cell) (p : Port) (f : Nat → Bool) : Option Copy :=
  if s.live && s.progOn && s.pos.isSome then
    s.copies.find? (fun c => c.port == p && c.target == (s.tick + 1) % 2 ^ 48 && !c.late && f (cOp c.slot.toNat) && cMode c.slot.toNat != 3)
  else none

/-- The copy is the one obeyed, and a duty copy. -/
def Cell.obeyedDuty (s : Cell) (c : Copy) : Bool :=
  cDuty c.slot.toNat && s.stagedFor == (s.tick + 1) % 2 ^ 48 && s.staged == some c

/-- SIDE_RD: a read is answered from any valid copy; a reserved OP with ERR 4. -/
def sideRdCell (p : Port) (s : Cell) : Cell :=
  match s.request p (fun op => op == 1 || decide (4 ≤ op)) with
  | none => s
  | some c =>
    let v := c.slot.toNat
    let a := cSide v
    let t := (s.tick + 2) % 2 ^ 48
    if 4 ≤ cOp v then s.answer p t 4 (cTid v) 4
    else if !Kc.isReg a then s.answer p t 4 (cTid v) 2
    else if s.readBarred a then s.answer p t 4 (cTid v) 3
    else s.answer p t 1 (cTid v) (s.regRead a)

/-- SIDE_WA: the write address is held for the next target tick. -/
def sideWaCell (p : Port) (s : Cell) : Cell :=
  match s.request p (· == 2) with
  | none => s
  | some c =>
    let v := c.slot.toNat
    if s.obeyedDuty c then { s with wa := s.wa.filter (fun w => w.1 != cTid v) ++ [(cTid v, cSide v, c.target)] }
    else s.answer p ((s.tick + 2) % 2 ^ 48) 4 (cTid v) 3

/-- The deadline of the running tick, in units of 10 ns after its boundary (R119). -/
def Cell.deadlineOfs (s : Cell) : Nat := s.tickUnits / 8 - 16

/-- SIDE_WD: the data for the address that the target tick before brought. SIDE of a WACK is 0. (DESIGN CHOICE: log entry 187.) -/
def sideWdCell (p : Port) (s : Cell) : Cell :=
  match s.request p (· == 3) with
  | none => s
  | some c =>
    let v := c.slot.toNat
    let t := (s.tick + 2) % 2 ^ 48
    if !s.obeyedDuty c then s.answer p t 4 (cTid v) 3
    else
      match s.wa.find? (fun w => w.1 == cTid v && (w.2.2 + 1) % 2 ^ 48 == c.target) with
      | none => s.answer p t 4 (cTid v) 1
      | some w =>
        match s.writeReg 1 s.deadlineOfs w.2.1 (cSide v) with
        | none => s.answer p t 4 (cTid v) 2
        | some (s', true) => s'.answer p t 2 (cTid v) 0
        | some (s', false) => s'.answer p t 4 (cTid v) 3

end Sys2Proof.Machine
end

