-- ==== Sys2Proof/Machine/Operands.lean ====
section
/-! DEFINITION. The registers of a context as operands (R287, R290). -/

namespace Sys2Proof.Machine

/-- General register `r`; g0 reads 0. -/
def Ctx.reg (x : Ctx) (r : Gpr) : Word := if r = 0 then 0 else Tab.get 0 r.toNat x.g

/-- Write a general register; a write to g0 is discarded. -/
def Ctx.setReg (x : Ctx) (r : Gpr) (v : Word) : Ctx := if r = 0 then x else { x with g := Tab.set 0 r.toNat v x.g }

/-- Accumulator `a`. -/
def Ctx.accOf (x : Ctx) (a : BitVec 3) : BitVec 72 := Tab.get 0 a.toNat x.acc

/-- Write an accumulator. -/
def Ctx.setAcc (x : Ctx) (a : BitVec 3) (v : BitVec 72) : Ctx := { x with acc := Tab.set 0 a.toNat v x.acc }

/-- CR_STATUS (R290), of a context that is context `c` of its core. -/
def Ctx.status (x : Ctx) (c : Nat) : Word :=
  BitVec.ofNat 32 (b2n (c == 1) * 256 + b2n x.tl * 64 + b2n x.priv * 32 + b2n x.q * 16 + b2n x.v * 8 + b2n x.c * 4 +
    b2n x.n * 2 + b2n x.z)

/-- Load the RW fields of CR_STATUS. -/
def Ctx.setStatus (x : Ctx) (w : Word) : Ctx :=
  { x with tl := w.getLsbD 6, priv := w.getLsbD 5, q := w.getLsbD 4, v := w.getLsbD 3, c := w.getLsbD 2, n := w.getLsbD 1
           z := w.getLsbD 0 }

end Sys2Proof.Machine
end

