-- ==== Sys2Proof/Machine/Flags.lean ====
section
/-! DEFINITION. Results and flags of the integer instructions (R297, R298). -/

namespace Sys2Proof.Machine

/-- A result with its C and V, and whether it sets Q. -/
structure AluOut where
  res : Word
  c : Bool := false
  v : Bool := false
  q : Bool := false
deriving DecidableEq, Repr

/-- Signed overflow of an exact result. -/
def ovf (i : Int) : Bool := decide (i < -(2 ^ 31) ∨ 2 ^ 31 ≤ i)

/-- Carry of a subtraction: no borrow. -/
def noBorrow (a b : Word) : Bool := decide (b.toNat ≤ a.toNat)

/-- An exact result, saturated; V and Q tell. -/
def satOut (i : Int) (c : Bool) : AluOut := { res := BitVec.ofInt 32 (satS 32 i), c := c, v := ovf i, q := ovf i }

/-- Shifts, with the last bit out. -/
def shiftOut (fn : ShFn) (a : Word) (k : Nat) : AluOut :=
  match fn with
  | .sll => { res := a <<< k, c := decide (0 < k) && a.getLsbD (32 - k) }
  | .srl => { res := a >>> k, c := decide (0 < k) && a.getLsbD (k - 1) }
  | .sra => { res := a.sshiftRight k, c := decide (0 < k) && a.getLsbD (k - 1) }
  | .ror => { res := a.rotateRight k, c := (a.rotateRight k).getLsbD 31 }

/-- Leading zeros of a word. -/
def clz32 (a : Word) : Nat := ((List.range 32).find? (fun i => a.getLsbD (31 - i))).getD 32

/-- The ALU functions. -/
def aluOut (fn : AluFn) (a b : Word) : AluOut :=
  let sa := a.toInt
  let sb := b.toInt
  match fn with
  | .add => { res := a + b, c := decide (2 ^ 32 ≤ a.toNat + b.toNat), v := ovf (sa + sb) }
  | .sub => { res := a - b, c := noBorrow a b, v := ovf (sa - sb) }
  | .adds => satOut (sa + sb) (decide (2 ^ 32 ≤ a.toNat + b.toNat))
  | .subs => satOut (sa - sb) (noBorrow a b)
  | .and => { res := a &&& b }
  | .or => { res := a ||| b }
  | .xor => { res := a ^^^ b }
  | .andn => { res := a &&& ~~~b }
  | .sll => shiftOut .sll a (b.toNat % 32)
  | .srl => shiftOut .srl a (b.toNat % 32)
  | .sra => shiftOut .sra a (b.toNat % 32)
  | .ror => shiftOut .ror a (b.toNat % 32)
  | .mul => { res := a * b, v := ovf (sa * sb) }
  | .mulh => { res := BitVec.ofInt 32 (sa * sb / 2 ^ 32) }
  | .mulhu => { res := BitVec.ofNat 32 (a.toNat * b.toNat / 2 ^ 32) }
  | .min => { res := if sa ≤ sb then a else b }
  | .max => { res := if sa ≤ sb then b else a }
  | .minu => { res := if a.toNat ≤ b.toNat then a else b }
  | .maxu => { res := if a.toNat ≤ b.toNat then b else a }
  | .abs => satOut (if sa < 0 then -sa else sa) false
  | .neg => satOut (-sa) false
  | .clz => { res := BitVec.ofNat 32 (clz32 a) }
  | .div =>
    if b = 0 ∨ (a = 0x80000000 ∧ b = 0xFFFFFFFF) then { res := if sa < 0 then 0x80000000 else 0x7FFFFFFF, v := true, q := true }
    else { res := BitVec.ofInt 32 (Int.tdiv sa sb) }
  | .divu => if b = 0 then { res := 0x7FFFFFFF, v := true, q := true } else { res := BitVec.ofNat 32 (a.toNat / b.toNat) }
  | .rem => if b = 0 then { res := a, v := true, q := true } else { res := BitVec.ofInt 32 (Int.tmod sa sb) }
  | .remu => if b = 0 then { res := a, v := true, q := true } else { res := BitVec.ofNat 32 (a.toNat % b.toNat) }
  | .cmp => { res := a - b, c := noBorrow a b, v := ovf (sa - sb) }
  | .slt => { res := if sa < sb then 1 else 0 }
  | .sltu => { res := if a.toNat < b.toNat then 1 else 0 }

/-- Z, N, C and V from an output. -/
def Ctx.setFlags (x : Ctx) (o : AluOut) : Ctx := { x with z := o.res == 0, n := o.res.getLsbD 31, c := o.c, v := o.v }

/-- Functions with an immediate. -/
def immOut (fn : ImmFn) (a v : Word) : Word :=
  match fn with
  | .add => a + v
  | .and => a &&& v
  | .or => a ||| v
  | .xor => a ^^^ v

/-- The 32-bit value of a 16-bit immediate: sign-extended for ADDI, zero-extended for the logical ones (R296). -/
def immExt (fn : ImmFn) (v : BitVec 16) : Word := if fn = .add then v.signExtend 32 else v.zeroExtend 32

end Sys2Proof.Machine
end

