-- ==== Sys2Proof/Machine/Isa.lean ====
section
/-! DEFINITION. What Thimir instructions do to their own context: branches, accumulators, traps (R287 to R326).
The instructions that reach memory, registers or the dispatcher follow in CoreExec. -/

namespace Sys2Proof.Machine

/-! ### Branches (R294, R300) -/

/-- The predicate of a BCC condition. -/
def condHolds (x : Ctx) (cond : BitVec 4) : Bool :=
  let p := match (cond.toNat % 8) with
    | 0 => x.z
    | 1 => x.n
    | 2 => x.c
    | 3 => x.v
    | 4 => x.n != x.v
    | 5 => x.z || (x.n != x.v)
    | 6 => !x.c || x.z
    | _ => false
  if cond = 7 then x.q else if cond = 15 then true else if cond.getLsbD 3 then !p else p

/-- The predicate of a compare-and-branch. -/
def cbHolds (fn : CbFn) (a b : Word) : Bool :=
  match fn with
  | .eq => a == b
  | .ne => a != b
  | .lt => decide (a.toInt < b.toInt)
  | .ltu => decide (a.toNat < b.toNat)

/-- Address of the instruction plus 4 × OFF. -/
def branchTo (x : Ctx) (off : Int) : Word := x.pc.zeroExtend 32 + BitVec.ofInt 32 (4 * off)

/-! ### Accumulators (R308 to R313) -/

/-- A product, shifted: rounded to nearest, halves away from zero, where the shift is negative. -/
def term (p sh : Int) : Int := if 0 ≤ sh then p * 2 ^ sh.toNat else divNear p (2 ^ (-sh).toNat)

/-- An accumulator takes an exact value, saturated; Q tells. -/
def Ctx.loadAcc (x : Ctx) (a : BitVec 3) (v : Int) : Ctx :=
  let r := satS 72 v
  { x.setAcc a (BitVec.ofInt 72 r) with q := x.q || r != v }

/-- The MAC group. -/
def macOp (fn : MacFn) (ad : BitVec 3) (a b : Word) (sh : BitVec 6) (x : Ctx) : Ctx :=
  let acc := (x.accOf ad).toInt
  let s := sh.toInt
  match fn with
  | .mac => x.loadAcc ad (acc + term (a.toInt * b.toInt) s)
  | .msu => x.loadAcc ad (acc - term (a.toInt * b.toInt) s)
  | .mula => x.loadAcc ad (term (a.toInt * b.toInt) s)
  | .macu => x.loadAcc ad (acc + term ((a.toNat : Int) * b.toNat) s)
  | .macs => x.loadAcc ad (acc + term ((a.extractLsb' 0 16).toInt * (b.extractLsb' 0 16).toInt) s)

/-- A register takes an exact value, saturated; Q tells. -/
def Ctx.extract (x : Ctx) (r : Gpr) (v : Int) : Ctx :=
  let y := x.setReg r (BitVec.ofInt 32 (satS 32 v))
  { y with q := x.q || ovf v }

/-- The accumulator group; none where EXTRR's shift lies out of range. -/
def accOp (fn : AccFn) (ad : BitVec 3) (ra rb : Gpr) (sh : BitVec 6) (x : Ctx) : Option Ctx :=
  let a := x.accOf ad
  let v := x.reg ra
  match fn with
  | .extr => some (x.extract ra (term a.toInt sh.toInt))
  | .extrt => some (x.extract ra (if 0 ≤ sh.toInt then a.toInt * 2 ^ sh.toInt.toNat else a.toInt / 2 ^ (-sh.toInt).toNat))
  | .mova => some (x.setAcc ad (BitVec.ofInt 72 (v.toInt * 2 ^ sh.toNat)))
  | .mvlo => some (x.setReg ra (a.extractLsb' 0 32))
  | .mvmi => some (x.setReg ra (a.extractLsb' 32 32))
  | .mvhi => some (x.setReg ra ((a.extractLsb' 64 8).signExtend 32))
  | .awlo => some (x.setAcc ad (a.extractLsb' 32 40 ++ v))
  | .awmi => some (x.setAcc ad (a.extractLsb' 64 8 ++ v ++ a.extractLsb' 0 32))
  | .awhi => some (x.setAcc ad (v.extractLsb' 0 8 ++ a.extractLsb' 0 64))
  | .aclr => some (x.setAcc ad 0)
  | .aadd => some (x.loadAcc ad (a.toInt + (x.accOf (ra.extractLsb' 0 3)).toInt))
  | .extrr =>
    let s := ((x.reg rb).extractLsb' 0 7).toInt
    if 31 < s then none else some (x.extract ra (term a.toInt s))

/-! ### One instruction within its context -/

/-- What an instruction comes to: it completes and goes on at an address, or raises an exception with a faulting address (none where
the exception has none). -/
inductive Res where
  | go (x : Ctx) (next : Word)
  | trap (cause : Nat) (addr : Option Nat)
deriving DecidableEq, Repr

/-- The address after this instruction. -/
def Ctx.after (x : Ctx) (op : Op) : Word := x.pc.zeroExtend 32 + (if op.isLong then 8 else 4)

/-- A field that the instruction's table reserves holds another value than 0 (R294, R297, R312). -/
def Op.reserved (op : Op) : Bool :=
  match op with
  | .alu .cmp rd _ _ _ => rd != 0
  | .acc .extr _ _ rb _ | .acc .extrt _ _ rb _ => rb != 0
  | .acc .aadd _ ra _ _ => decide (8 ≤ ra.toNat)
  | .acc .extrr _ _ _ sh => sh != 0
  | _ => false

/-- The instructions that touch only their context; none for the others. -/
def Op.pure (op : Op) (x : Ctx) : Option Res :=
  let go := fun (y : Ctx) => some (Res.go y (x.after op))
  if op.reserved then some (.trap 1 none) else
  match op with
  | .alu .cmp _ ra rb _ => go (x.setFlags (aluOut .cmp (x.reg ra) (x.reg rb)))
  | .alu fn rd ra rb f =>
    let o := aluOut fn (x.reg ra) (x.reg rb)
    let y := x.setReg rd o.res
    let y := if f then y.setFlags o else y
    go { y with q := x.q || o.q }
  | .imm fn rd ra v => go (x.setReg rd (immOut fn (x.reg ra) (immExt fn v)))
  | .lui rd v => go (x.setReg rd (v ++ (0 : BitVec 16)))
  | .cmpi ra v => go (x.setFlags (aluOut .cmp (x.reg ra) (v.signExtend 32)))
  | .shi fn rd ra amt => go (x.setReg rd (shiftOut fn (x.reg ra) amt.toNat).res)
  | .bcc cond off => some (.go x (if condHolds x cond then branchTo x off.toInt else x.after op))
  | .jump off => some (.go x (branchTo x off.toInt))
  | .call off => some (.go (x.setReg 31 (x.after op)) (branchTo x off.toInt))
  | .jr ra => some (.go x (x.reg ra))
  | .callr rd ra => some (.go (x.setReg rd (x.after op)) (x.reg ra))
  | .cb fn ra rb off => some (.go x (if cbHolds fn (x.reg ra) (x.reg rb) then branchTo x off.toInt else x.after op))
  | .mac fn ad ra rb sh => if 7 < sh.toInt then some (.trap 1 none) else go (macOp fn ad (x.reg ra) (x.reg rb) sh x)
  | .acc fn ad ra rb sh =>
    if fn = .mova ∧ sh.toInt < 0 then some (.trap 1 none)
    else match accOp fn ad ra rb sh x with | some y => go y | none => some (.trap 7 none)
  | .clrq => go { x with q := false }
  | .fence => go x
  | .li rd v => go (x.setReg rd v)
  | .long fn rd ra v => go (x.setReg rd (immOut fn (x.reg ra) v))
  | .cmpl ra v => go (x.setFlags (aluOut .cmp (x.reg ra) v))
  | .jl v => some (.go x (v.zeroExtend 32))
  | .calll v => some (.go (x.setReg 31 (x.after op)) (v.zeroExtend 32))
  | _ => none

/-- The instruction is a branch that is taken, or a jump or call (R552). -/
def Op.takes (op : Op) (x : Ctx) : Bool :=
  match op with
  | .bcc cond _ => condHolds x cond
  | .cb fn ra rb _ => cbHolds fn (x.reg ra) (x.reg rb)
  | .jump _ | .call _ | .jr _ | .callr .. | .jl _ | .calll _ => true
  | _ => false

/-- Address of a load or store: ra + sext(IMM16) (R301). -/
def effAddr (x : Ctx) (ra : Gpr) (v : BitVec 16) : Nat := (x.reg ra + v.signExtend 32).toNat

/-- Bytes a load or a store moves. -/
def LoadFn.size : LoadFn → Nat
  | .w => 4 | .h => 2 | .hu => 2 | .b => 1 | .bu => 1 | .d => 8
def StoreFn.size : StoreFn → Nat
  | .w => 4 | .h => 2 | .b => 1 | .d => 8

/-- A context takes a loaded value (R301). -/
def Ctx.loaded (x : Ctx) (fn : LoadFn) (rd : Gpr) (v : Nat) : Ctx :=
  match fn with
  | .w => x.setReg rd (BitVec.ofNat 32 v)
  | .h => x.setReg rd ((BitVec.ofNat 16 v).signExtend 32)
  | .hu => x.setReg rd (BitVec.ofNat 32 (v % 2 ^ 16))
  | .b => x.setReg rd ((BitVec.ofNat 8 v).signExtend 32)
  | .bu => x.setReg rd (BitVec.ofNat 32 (v % 2 ^ 8))
  | .d => (x.setReg rd (BitVec.ofNat 32 v)).setReg (rd + 1) (BitVec.ofNat 32 (v / 2 ^ 32))

/-- The value a store writes. -/
def Ctx.stored (x : Ctx) (fn : StoreFn) (rd : Gpr) : Nat :=
  match fn with
  | .w => (x.reg rd).toNat
  | .h => (x.reg rd).toNat % 2 ^ 16
  | .b => (x.reg rd).toNat % 2 ^ 8
  | .d => (x.reg rd).toNat + 2 ^ 32 * (x.reg (rd + 1)).toNat

/-- Trap entry (R326): status, address, cause and fault address are saved, PRIV and TL set, and execution goes on at the vector. -/
def Ctx.enterTrap (x : Ctx) (c : Nat) (tbase tpc : Word) (cause : Nat) (data long : Bool) (code addr : Nat) : Ctx :=
  { x with
    tstat := x.status c, tpc := tpc
    twhy := BitVec.ofNat 32 (cause + b2n data * 16 + b2n long * 32 + code * 256)
    taddr := BitVec.ofNat 32 addr, priv := true, tl := true
    pc := (tbase + BitVec.ofNat 32 (0x40 * cause)).extractLsb' 0 16 }

/-- Return from a trap: status from CR_TSTAT, TL cleared (R326); the address it goes on at. -/
def Ctx.leaveTrap (x : Ctx) (adv : Bool) : Ctx × Word :=
  let y := { x.setStatus x.tstat with tl := false }
  (y, x.tpc + (if adv then (if x.twhy.getLsbD 5 then 8 else 4) else 0))

end Sys2Proof.Machine
end

