-- ==== Sys2Proof/Machine/IsaCode.lean ====
section
/-! DEFINITION. The encodings of the Thimir instructions: from a word (and the word after it) to the instruction, none where the
encoding is reserved (R293 to R324). -/

namespace Sys2Proof.Machine

/-- Bits `lo` to `lo + w - 1` of a word. -/
def fldW (v : Word) (lo w : Nat) : BitVec w := v.extractLsb' lo w

/-- FN of an ALU word (R297). -/
def aluOf (fn : Nat) : Option AluFn :=
  match fn with
  | 0x001 => some .add | 0x002 => some .sub | 0x003 => some .adds | 0x004 => some .subs
  | 0x005 => some .and | 0x006 => some .or | 0x007 => some .xor | 0x008 => some .andn
  | 0x009 => some .sll | 0x00A => some .srl | 0x00B => some .sra | 0x00C => some .ror
  | 0x00D => some .mul | 0x00E => some .mulh | 0x00F => some .mulhu
  | 0x010 => some .min | 0x011 => some .max | 0x012 => some .minu | 0x013 => some .maxu
  | 0x014 => some .abs | 0x015 => some .neg | 0x016 => some .clz
  | 0x017 => some .div | 0x018 => some .divu | 0x019 => some .rem | 0x01A => some .remu
  | 0x01C => some .cmp | 0x01D => some .slt | 0x01E => some .sltu
  | _ => none

/-- Integer words, OP 0x00 to 0x07. -/
def decodeInt (op : Nat) (w : Word) : Option Op :=
  let rd := fldW w 21 5
  let ra := fldW w 16 5
  let v := fldW w 0 16
  match op with
  | 0x00 =>
    match aluOf (fldW w 0 10).toNat with
    | some .cmp => if rd = 0 then some (.alu .cmp 0 ra (fldW w 11 5) (w.getLsbD 10)) else none
    | some fn => some (.alu fn rd ra (fldW w 11 5) (w.getLsbD 10))
    | none => none
  | 0x01 => some (.imm .add rd ra v)
  | 0x02 => some (.imm .and rd ra v)
  | 0x03 => some (.imm .or rd ra v)
  | 0x04 => some (.imm .xor rd ra v)
  | 0x05 => if ra = 0 then some (.lui rd v) else none
  | 0x06 => if rd = 0 then some (.cmpi ra v) else none
  | 0x07 =>
    if fldW w 5 8 = 0 then
      match (fldW w 13 3).toNat with
      | 0 => some (.shi .sll rd ra (fldW w 0 5))
      | 1 => some (.shi .srl rd ra (fldW w 0 5))
      | 2 => some (.shi .sra rd ra (fldW w 0 5))
      | 3 => some (.shi .ror rd ra (fldW w 0 5))
      | _ => none
    else none
  | _ => none

/-- Memory and cell-record words, OP 0x10 to 0x1D (R301 to R307). -/
def decodeMem (op : Nat) (w : Word) : Option Op :=
  let rd := fldW w 21 5
  let ra := fldW w 16 5
  let v := fldW w 0 16
  match op with
  | 0x10 => some (.load .w rd ra v)
  | 0x11 => some (.load .h rd ra v)
  | 0x12 => some (.load .hu rd ra v)
  | 0x13 => some (.load .b rd ra v)
  | 0x14 => some (.load .bu rd ra v)
  | 0x15 => some (.store .w rd ra v)
  | 0x16 => some (.store .h rd ra v)
  | 0x17 => some (.store .b rd ra v)
  | 0x18 => some (.load .d rd ra v)
  | 0x19 => some (.store .d rd ra v)
  | 0x1A =>
    match (fldW w 0 10).toNat with
    | 1 => some (.atom .swap rd ra (fldW w 11 5))
    | 2 => some (.atom .adda rd ra (fldW w 11 5))
    | 3 => some (.atom .anda rd ra (fldW w 11 5))
    | 4 => some (.atom .ora rd ra (fldW w 11 5))
    | 5 => some (.atom .cas rd ra (fldW w 11 5))
    | _ => none
  | 0x1B => if w.getLsbD 0 then none else some (.cfx rd ra (fldW w 8 8) (fldW w 3 5) (w.getLsbD 2) (w.getLsbD 1))
  | 0x1C => if fldW w 8 8 = 0 then some (.clw rd ra (fldW w 0 8)) else none
  | 0x1D => if fldW w 8 8 = 0 then some (.csw rd ra (fldW w 0 8)) else none
  | _ => none

/-- Flow words, OP 0x20 to 0x27 (R296, R300). -/
def decodeFlow (op : Nat) (w : Word) : Option Op :=
  match op with
  | 0x20 => some (.bcc (fldW w 22 4) (fldW w 0 22))
  | 0x21 => some (.jump (fldW w 0 26))
  | 0x22 => some (.call (fldW w 0 26))
  | 0x23 =>
    match (fldW w 0 10).toNat with
    | 1 => some (.jr (fldW w 16 5))
    | 2 => some (.callr (fldW w 21 5) (fldW w 16 5))
    | _ => none
  | 0x24 => some (.cb .eq (fldW w 21 5) (fldW w 16 5) (fldW w 0 16))
  | 0x25 => some (.cb .ne (fldW w 21 5) (fldW w 16 5) (fldW w 0 16))
  | 0x26 => some (.cb .lt (fldW w 21 5) (fldW w 16 5) (fldW w 0 16))
  | 0x27 => some (.cb .ltu (fldW w 21 5) (fldW w 16 5) (fldW w 0 16))
  | _ => none

/-- Fixed-point words, OP 0x28 to 0x2A (R308 to R313). -/
def decodeFix (op : Nat) (w : Word) : Option Op :=
  let ad := fldW w 23 3
  let ra := fldW w 18 5
  let rb := fldW w 13 5
  let sh := fldW w 7 6
  let fn := (fldW w 0 7).toNat
  let macSh := decide (sh.toInt ≤ 7)
  match op with
  | 0x28 =>
    if !macSh then none
    else
      match fn with
      | 1 => some (.mac .mac ad ra rb sh)
      | 2 => some (.mac .msu ad ra rb sh)
      | 3 => some (.mac .mula ad ra rb sh)
      | 4 => some (.mac .macu ad ra rb sh)
      | 5 => some (.mac .macs ad ra rb sh)
      | _ => none
  | 0x29 =>
    match fn with
    | 1 => if rb = 0 then some (.acc .extr ad ra 0 sh) else none
    | 2 => if rb = 0 then some (.acc .extrt ad ra 0 sh) else none
    | 3 => if 0 ≤ sh.toInt then some (.acc .mova ad ra rb sh) else none
    | 4 => some (.acc .mvlo ad ra rb sh)
    | 5 => some (.acc .mvmi ad ra rb sh)
    | 6 => some (.acc .mvhi ad ra rb sh)
    | 7 => some (.acc .awlo ad ra rb sh)
    | 8 => some (.acc .awmi ad ra rb sh)
    | 9 => some (.acc .awhi ad ra rb sh)
    | 10 => some (.acc .aclr ad ra rb sh)
    | 11 => if ra.toNat < 8 then some (.acc .aadd ad ra rb sh) else none
    | 12 => if sh = 0 then some (.acc .extrr ad ra rb 0) else none
    | _ => none
  | 0x2A =>
    match fn with
    | 1 => if macSh then some (.dot4 ad ra rb sh) else none
    | 2 => if sh = 0 then some (.dot4c ad ra rb) else none
    | _ => none
  | _ => none

/-- Dispatch and system words, OP 0x30 and 0x31 (R315, R324). In the dispatch group F and every unused operand field are reserved. -/
def decodeSys (op : Nat) (w : Word) : Option Op :=
  let rd := fldW w 21 5
  let ra := fldW w 16 5
  let rb := fldW w 11 5
  let fn := (fldW w 0 10).toNat
  match op with
  | 0x30 =>
    if rd ≠ 0 ∨ w.getLsbD 10 = true then none
    else
      match fn with
      | 1 => if rb.toNat < 2 then some (.tickwait ra (w.getLsbD 11)) else none
      | 2 => if rb = 0 then some (.post ra) else none
      | 3 => if ra = 0 ∧ rb = 0 then some .take else none
      | 4 => if rb = 0 then some (.yield ra) else none
      | 5 => if ra = 0 ∧ rb = 0 then some .flowend else none
      | 6 => some (.pub ra rb)
      | 7 => some (.ledg ra rb)
      | _ => none
  | 0x31 =>
    match fn with
    | 1 => some (.mfc rd ra)
    | 2 => some (.mtc rd ra)
    | 3 => if rb.toNat < 2 then some (.rtt (w.getLsbD 11)) else none
    | 4 => some (.trap rb)
    | 5 => some .brk
    | 6 => some .clrq
    | 7 => some .fence
    | _ => none
  | _ => none

/-- Long words, OP 0x3F, with the word that follows (R299). -/
def decodeLong (w imm : Word) : Option Op :=
  let rd := fldW w 21 5
  let ra := fldW w 16 5
  if fldW w 0 10 ≠ 0 then none
  else
    match (fldW w 10 6).toNat with
    | 0x00 => if ra = 0 then some (.li rd imm) else none
    | 0x01 => some (.long .add rd ra imm)
    | 0x02 => some (.long .and rd ra imm)
    | 0x03 => some (.long .or rd ra imm)
    | 0x04 => some (.long .xor rd ra imm)
    | 0x05 => if rd = 0 then some (.cmpl ra imm) else none
    | 0x08 => if rd = 0 ∧ ra = 0 ∧ fldW imm 16 16 = 0 then some (.jl (fldW imm 0 16)) else none
    | 0x09 => if rd = 0 ∧ ra = 0 ∧ fldW imm 16 16 = 0 then some (.calll (fldW imm 0 16)) else none
    | _ => none

/-- A word of the long format, whatever its other fields hold: OP 0x3F (R293, R295). -/
def isLongWord (w : Word) : Bool := fldW w 26 6 == 0x3F#6

/-- The instruction that word `w`, followed by `imm`, spells (R294, R296). -/
def decodeOp (w imm : Word) : Option Op :=
  let op := (fldW w 26 6).toNat
  if op < 0x08 then decodeInt op w
  else if op < 0x20 then decodeMem op w
  else if op < 0x28 then decodeFlow op w
  else if op < 0x30 then decodeFix op w
  else if op < 0x3F then decodeSys op w
  else decodeLong w imm

end Sys2Proof.Machine
end

