-- ==== Sys2Proof/Machine/CellExec.lean ====
section
/-! DEFINITION. TIS-C on the cell core of a KC-60 (R329 to R333, R467, R619). -/

namespace Sys2Proof.Machine

/-! ### Memory of the cell core (R157, R619) -/

/-- Code SRAM or data SRAM. (DEDUCED: log entry 98.) -/
def cellSram (a : Nat) : Bool := decide (a < 0x10000) || decide (0x100000 ≤ a ∧ a < 0x108000)

/-- The symbols in error that stand in the word at core address `a`, and a change of them. (DESIGN CHOICE: log entry 148.) -/
def Cell.errs (s : Cell) (a : Nat) : Nat := Tab.get 0 (a / 8) s.unc
def Cell.setErrs (s : Cell) (a m : Nat) : Cell := { s with unc := Tab.set 0 (a / 8) (m % 2 ^ 20) s.unc }

/-- The word is uncorrectable (R467). -/
def Cell.bad (s : Cell) (a : Nat) : Bool := decide (2 ≤ symbols (s.errs a))

/-- `n` bytes from `a`, least significant first. -/
def Cell.rdLe (s : Cell) (a : Nat) : Nat → Nat
  | 0 => 0
  | n + 1 => (Tab.get 0 a s.mem).toNat + 256 * s.rdLe (a + 1) n

/-- Write the low `n` bytes of `v` from `a`, least significant first. -/
def Cell.wrLe (s : Cell) (a v : Nat) : Nat → Cell
  | 0 => s
  | n + 1 => { s with mem := Tab.set 0 a (BitVec.ofNat 8 v) s.mem }.wrLe (a + 1) (v / 256) n

/-- A store; one of fewer than 8 bytes into an uncorrectable word is discarded and reported (R469). (DEDUCED: log entry 99.) -/
def Cell.store (s : Cell) (a v n : Nat) : Cell :=
  if n < 8 && s.bad a then s.event Ev.MEMUNC else (s.wrLe a v n).setErrs a 0

/-- The word at `a` is corrected: rightly where one symbol is in error, wrongly where three or more are (R467); event source MEMCOR. (DESIGN CHOICE: log entries 148, 199.) -/
def Cell.readCorrected (s : Cell) (a e : Nat) : Cell :=
  let k := symbols e
  if s.bad a then s
  else if k = 1 then (s.setErrs a 0).event Ev.MEMCOR
  else if 3 ≤ k then
    let w := a / 8 * 8
    ((({ s with free := s.free + 1 } : Cell).wrLe w (Config.unstated s.free) 8).setErrs w 0).event Ev.MEMCOR
  else s

/-- MEMORY_READ_CORRECTED on a module (R467). -/
def memoryReadCorrectedCell (e a : Nat) (s : Cell) : Cell := if s.runs && cellSram a then s.readCorrected a e else s

/-- PARTIAL_STORE_MERGE on a module (R469). -/
def partialStoreMergeCell (v n a : Nat) (s : Cell) : Cell := if s.runs && cellSram a && decide (n < 8 ∧ a % 8 + n ≤ 8) then s.store a v n else s

/-- PATROL_SCRUB_READ on a module: the scrub of its code and data SRAM reads a word (R472). (DESIGN CHOICE: log entry 199; DEDUCED: log entry 200.) -/
def patrolScrubReadCell (e : Nat) (detected : Bool) (a : Nat) (s : Cell) : Cell :=
  let k := symbols e
  if !(s.runs && cellSram a) then s
  else if s.bad a then s.event Ev.MEMUNC
  else if k ≤ 1 then s.readCorrected a e
  else if k = 2 ∨ detected = true then (s.setErrs a e).event Ev.MEMUNC
  else s.readCorrected a e

/-- The fields that a store to only some bytes of a register leaves as they are. (DESIGN CHOICE: log entry 91.) -/
def Cell.regKept (s : Cell) (a : Nat) : Nat :=
  Kc.flds.foldl (fun w f =>
    match f.at? a, f.acc with
    | some (i, _), .rw => w + s.rd f i * 2 ^ f.lo
    | some (i, _), .rwl => w + s.rd f i * 2 ^ f.lo
    | _, _ => w) 0

/-- The cell core writes a register. What CAP_CTRL takes as the instant in the tick is free. (DESIGN CHOICE: log entry 36.) -/
def Cell.coreReg (s : Cell) (a v : Nat) : Cell :=
  let ofs := Config.unstated s.free % (s.tickUnits / 8 + 1)
  match { s with free := s.free + 1 }.writeReg 1 ofs a (v % 2 ^ 32) with
  | some r => r.1
  | none => s

/-- What a load of `m` bytes finds: its value, or a cause. (DEDUCED: log entry 98.) -/
def Cell.coreLoad (s : Cell) (a m : Nat) : Sum Nat Nat :=
  let w := a / 4 * 4
  if a % m ≠ 0 then .inr 4
  else if cellSram a then (if s.bad a then .inr 6 else .inl (s.rdLe a m))
  else if !Kc.isReg w || (m == 8 && !Kc.isReg (w + 4)) then .inr 5
  else if m = 8 then .inl (s.regRead w + 2 ^ 32 * s.regRead (w + 4))
  else .inl (bits (s.regRead w) (8 * (a % 4)) (8 * m))

/-- A store of `m` bytes, or a cause. (DEDUCED: log entry 98.) -/
def Cell.coreStore (s : Cell) (a v m : Nat) : Sum Cell Nat :=
  let w := a / 4 * 4
  if a % m ≠ 0 then .inr 4
  else if cellSram a then .inl (s.store a v m)
  else if !Kc.isReg w || (m == 8 && !Kc.isReg (w + 4)) then .inr 5
  else if m = 8 then .inl ((s.coreReg w v).coreReg (w + 4) (v / 2 ^ 32))
  else .inl (s.coreReg w (if m = 4 then v else putBits (s.regKept w) (8 * (a % 4)) (8 * m) v))

/-! ### Instructions -/

/-- The instruction is part of TIS-C (R329, R330). -/
def Op.inTisC (op : Op) : Bool :=
  match op with
  | .atom .. | .cfx .. | .clw .. | .csw .. | .dot4 .. | .dot4c .. => false
  | .post _ | .take | .yield _ | .flowend | .pub .. | .ledg .. => false
  | .rtt _ | .trap _ => false
  | .mac _ ad _ _ _ => decide (ad.toNat < 2)
  | .acc fn ad ra _ _ => decide (ad.toNat < 2) && (fn != .aadd || decide (ra.toNat < 2))
  | .mfc _ num | .mtc num _ => [0, 1, 2, 3, 8].contains num.toNat
  | _ => true

/-- What an instruction comes to on a cell core. -/
inductive CellDid where
  | go (s : Cell) (x : Ctx) (next : Word)
  | exc (cause : Nat)
  | done (s : Cell)

/-- CR_STATUS of a cell core: CTX and TL read 0. -/
def Ctx.cellStatus (x : Ctx) : Word := x.status 0 &&& ~~~0x40

/-- A TICKWAIT is over: mode 0 by the tick of the cell's time source. In mode 1 the instant lies within the running tick, which the
model does not divide: an offset of 0 or less has passed, one of a whole tick has not, and between them it is free (R331). (DESIGN CHOICE: log entry 36.) -/
def Cell.waitOver (s : Cell) (mode : Bool) (v : Word) : Bool :=
  if mode then
    decide (v.toInt ≤ 0) || (decide (v.toInt * 4 < (s.tickUnits * 5 : Nat)) && (Config.unstated s.free).testBit 0)
  else decide ((s.tick + 2 ^ 32 - v.toNat) % 2 ^ 32 < 2 ^ 31)

/-- BREAK: with a session at halt level the halt of R561 is asked for and the core goes on behind it; else a cause (R328, R332). (DEDUCED: log entry 95.) -/
def Cell.opBreak (s : Cell) (x : Ctx) (op : Op) : CellDid :=
  if s.rd Kc.CC_DSTAT.LEVEL = 2 ∧ s.dbgPermits s.secState 2 (s.rd Kc.CC_DSTAT.PATH) = true then
    .done (cellHaltCell s.sec.holder { s with core := { x with pc := (x.after op).extractLsb' 0 16 } })
  else .exc 10

/-- Control registers of a cell core (R330). (DESIGN CHOICE: log entry 34.) -/
def Cell.ctrl (s : Cell) (x : Ctx) (num : Nat) : Word :=
  match num with
  | 0 => x.cellStatus
  | 1 => x.tpc
  | 2 => x.twhy
  | 3 => x.taddr
  | _ => s.cyc + BitVec.ofNat 32 (Config.unstated s.free)

/-- MTC on a cell core; PRIV and TL stay. (DEDUCED: log entry 94.) -/
def Cell.opMtc (s : Cell) (x : Ctx) (op : Op) (num : Nat) (v : Word) : CellDid :=
  match num with
  | 0 => .go s { (x.setStatus v) with priv := true, tl := false } (x.after op)
  | 1 => .go s { x with tpc := v } (x.after op)
  | 2 => .go s { x with twhy := v &&& 0x1F3F } (x.after op)
  | 3 => .go s { x with taddr := v } (x.after op)
  | _ => .go { s with cyc := v } x (x.after op)

/-- One instruction of TIS-C. -/
def Cell.opDo (s : Cell) (x : Ctx) (op : Op) : CellDid :=
  if !op.inTisC then .exc 1
  else
    match op with
    | .load fn rd ra v =>
      if fn = .d ∧ rd.getLsbD 0 = true then .exc 1
      else
        match s.coreLoad (effAddr x ra v) fn.size with
        | .inl w => .go s (x.loaded fn rd w) (x.after op)
        | .inr cause => .exc cause
    | .store fn rd ra v =>
      if fn = .d ∧ rd.getLsbD 0 = true then .exc 1
      else
        match { s with core := { x with pc := (x.after op).extractLsb' 0 16 } }.coreStore (effAddr x ra v) (x.stored fn rd) fn.size with
        | .inl t => if (x.after op).toNat < 0x10000 then .done t else .go t x (x.after op)
        | .inr cause => .exc cause
    | .tickwait ra mode =>
      let v := x.reg ra
      if s.waitOver mode v then .go { s with free := s.free + 1 } { x with c := true } (x.after op)
      else .done { s with free := s.free + 1, waitT := 5 * (s.gen.bT : Int) + 4 * v.toInt, core := { x with wait := some (mode, v) } }
    | .mfc rd num => .go { s with free := s.free + 1 } (x.setReg rd (s.ctrl x num.toNat)) (x.after op)
    | .mtc num ra => s.opMtc x op num.toNat (x.reg ra)
    | .brk => s.opBreak x op
    | op =>
      match op.pure x with
      | some (.go y next) => .go s y next
      | some (.trap cause _) => .exc cause
      | none => .exc 1

/-- A branch target goes into the trace ring, in a word whose upper half is not stated (R552). (DESIGN CHOICE: log entry 35.) -/
def Cell.traceWord (s : Cell) (next : Word) : Cell :=
  if s.rd Kc.CC_DSTAT.LEVEL = 0 then s
  else
    let s := s.wr Kc.CC_TBUF.D (next.toNat % 65536 + 65536 * (Config.unstated s.free % 65536)) (s.tbuf % 512)
    { s with free := s.free + 1, tbuf := (s.tbuf + 1) % 512 }

/-- The core of a module that runs a program may issue. (DEDUCED: log entry 86.) -/
def Cell.issues (s : Cell) : Bool := s.runs && s.progOn && s.core.wait.isNone

/-- An uncorrectable word stops the cell core: event source MEMUNC, and a reset with cause MEMUNC (R332, R468). -/
def Cell.memUnc (s : Cell) (pc : Nat) : Cell := cellCoreExceptionCell 6 pc (s.event Ev.MEMUNC)

/-- The instruction `op` (none: a reserved encoding), of the long format or not, on the cell core. Every exception resets the core (R332). (DEDUCED: log entries 87, 97.) -/
def Cell.runOp (s : Cell) (op : Option Op) (long : Bool) : Cell :=
  if !s.issues then s
  else
    let x := s.core
    let pc := x.pc.toNat
    if long && pc == 0xFFFC then cellCoreExceptionCell 3 pc s
    else if s.bad pc || (long && s.bad (pc + 4)) then s.memUnc pc
    else
      match op with
      | none => cellCoreExceptionCell 1 pc s
      | some o =>
        match s.opDo x o with
        | .go t y next =>
          let t := if o.takes x then t.traceWord next else t
          if next.toNat < 0x10000 ∧ next.toNat % 4 = 0 then { t with core := { y with pc := next.extractLsb' 0 16 } }
          else cellCoreExceptionCell 3 (next.toNat % 65536) t
        | .exc cause => if cause = 6 then s.memUnc pc else cellCoreExceptionCell cause pc s
        | .done t => t

/-- A word of the program of the cell core. -/
def Cell.codeWord (s : Cell) (pc : Nat) : Word := BitVec.ofNat 32 (s.rdLe pc 4)

/-- A halted core told to step executes the instruction at its PC (R557). -/
def Cell.runStep (s : Cell) : Cell :=
  let pc := s.core.pc.toNat
  if s.stepOk then { s with stepOk := false }.runOp (decodeOp (s.codeWord pc) (s.codeWord (pc + 4))) (isLongWord (s.codeWord pc)) else s

/-- An instruction command on the cell core, where it is not halted. (DEDUCED: log entry 86.) -/
def opCell (op : Op) (s : Cell) : Cell := if s.on Kc.CC_DSTAT.HALTED then s else (s.runOp (some op) op.isLong).runStep

/-- ILLEGAL_INSTRUCTION on the cell core: a word that no instruction of TIS-C spells (R294, R329). -/
def illegalInstructionCell (w imm : Word) (s : Cell) : Cell :=
  if s.on Kc.CC_DSTAT.HALTED || (decodeOp w imm).any Op.inTisC then s else s.runOp none (isLongWord w)

/-- CELL_STEP: CC_DREQ with CORE = STEP (R557). -/
def cellStepCell (path : Nat) (s : Cell) : Cell := (s.coreCmd path (fun s => { s with stepOk := s.on Kc.CC_DSTAT.HALTED })).runStep

/-- The instant that a waiting cell core waits for comes within the running tick or has passed; it stands fixed from the tick in which the wait
began (R331). -/
def Cell.waitDue (s : Cell) (mode : Bool) (v : Word) : Bool :=
  if mode then decide (s.waitT < 5 * ((s.gen.bT + s.tickUnits : Nat) : Int)) else s.waitOver false v

/-- TICKWAIT_COMPLETE on the cell core (R331). -/
def tickwaitCompleteCell (s : Cell) : Cell :=
  match s.core.wait with
  | some (mode, v) =>
    if !(s.runs && s.progOn) || s.on Kc.CC_DSTAT.HALTED || !s.waitDue mode v then s
    else if s.core.pc = 0xFFFC#16 then cellCoreExceptionCell 3 0 s
    else { s with core := { s.core with wait := none, c := false, pc := s.core.pc + 4 } }
  | none => s

/-- MEMORY_READ_UNCORRECTABLE on a module: its core reads an uncorrectable word of its code or data SRAM (R468). -/
def memoryReadUncorrectableCell (e a : Nat) (s : Cell) : Cell :=
  if !cellSram a || !s.runs || !(s.bad a || decide (2 ≤ symbols e)) then s
  else
    let s := if s.bad a then s else s.setErrs a e
    if s.issues && !s.on Kc.CC_DSTAT.HALTED then s.memUnc s.core.pc.toNat else s

end Sys2Proof.Machine
end

