-- ==== Sys2Proof/Machine/FieldsKf.lean ====
section
/-! DEFINITION. The register fields of the KF-120 (numbers: R621), one definition per row of the spec's field maps: byte address
of instance 0 and strides, least significant bit, width, access code (R8), write lock, reset value (R11, R616) and
the values that are no reserved encoding (R10). Each definition cites the rule of its field map. -/

namespace Sys2Proof.Machine.Kf

/-- FIN_TYPE TYPE [31:0] RWL (R538). -/
def FIN_TYPE.TYPE : Fld := { base := 0x0, lo := 0, w := 32, acc := .rwl, lock := .kfSafe }
/-- FIN_WBEN WBEN [31:0] RWL (R538). -/
def FIN_WBEN.WBEN : Fld := { base := 0x1, lo := 0, w := 32, acc := .rwl, lock := .kfSafe }
/-- FIN_FLTm LIM [31:0] RWL (R538). -/
def FIN_FLTm.LIM : Fld := { base := 0x2, s1 := 0x1, c1 := 8, lo := 0, w := 32, acc := .rwl, rst := (fun _ => 0xA0A0A0A), lock := .kfSafe, ok := fun v => v % 256 != 0 && v / 256 % 256 != 0 && v / 65536 % 256 != 0 && v / 16777216 != 0 }
/-- FIN_WBC WBLO [15:8] RWL (R538). -/
def FIN_WBC.WBLO : Fld := { base := 0xA, lo := 8, w := 8, acc := .rwl, rst := (fun _ => 4), lock := .kfSafe, ok := fun v => 1 ≤ v && v ≤ 24 }
/-- FIN_WBC WBV [1:0] RWL (R538). -/
def FIN_WBC.WBV : Fld := { base := 0xA, lo := 0, w := 2, acc := .rwl, rst := (fun _ => 1), lock := .kfSafe, ok := fun v => v != 3 }
/-- FIN_RAW RAW [31:0] RO (R538). -/
def FIN_RAW.RAW : Fld := { base := 0xB, lo := 0, w := 32, acc := .ro }
/-- FIN_VAL VAL [31:0] RO (R538). -/
def FIN_VAL.VAL : Fld := { base := 0xC, lo := 0, w := 32, acc := .ro }
/-- FIN_WBA WBA [31:0] RO (R538). -/
def FIN_WBA.WBA : Fld := { base := 0xD, lo := 0, w := 32, acc := .ro }
/-- FIN_WB WB [31:0] W1C (R538). -/
def FIN_WB.WB : Fld := { base := 0xE, lo := 0, w := 32, acc := .w1c }
/-- FOUT_SAFE SAFE [31:0] RWL (R539). -/
def FOUT_SAFE.SAFE : Fld := { base := 0x10, lo := 0, w := 32, acc := .rwl, lock := .kfSafe, ok := fun v => (List.range 16).all (fun i => v / 4 ^ i % 4 != 3) }
/-- FOUT_LVL LVL [15:0] RO (R539). -/
def FOUT_LVL.LVL : Fld := { base := 0x11, lo := 0, w := 16, acc := .ro }
/-- FOUT_STAT SAT [31:31] W1C (R539). -/
def FOUT_STAT.SAT : Fld := { base := 0x12, lo := 31, w := 1, acc := .w1c }
/-- FOUT_STAT FCNT [30:16] W1C (R539). -/
def FOUT_STAT.FCNT : Fld := { base := 0x12, lo := 16, w := 15, acc := .sat }
/-- FOUT_STAT LIVE [1:1] RO (R539). -/
def FOUT_STAT.LIVE : Fld := { base := 0x12, lo := 1, w := 1, acc := .ro }
/-- FOUT_STAT FAULT [0:0] W1C (R539). -/
def FOUT_STAT.FAULT : Fld := { base := 0x12, lo := 0, w := 1, acc := .w1c }
/-- TRP_SRCk INMSK [31:24] RWL (R540). -/
def TRP_SRCk.INMSK : Fld := { base := 0x18, s1 := 0x1, c1 := 4, lo := 24, w := 8, acc := .rwl, lock := .kfSafe }
/-- TRP_SRCk SRC [4:0] RWL (R540). -/
def TRP_SRCk.SRC : Fld := { base := 0x18, s1 := 0x1, c1 := 4, lo := 0, w := 5, acc := .rwl, rst := (fun _ => 0x1F), lock := .kfSafe }
/-- TRP_CFG POL [11:8] RWL (R540). -/
def TRP_CFG.POL : Fld := { base := 0x1C, lo := 8, w := 4, acc := .rwl, lock := .kfSafe }
/-- TRP_CFG STLIM [7:0] RWL (R540). -/
def TRP_CFG.STLIM : Fld := { base := 0x1C, lo := 0, w := 8, acc := .rwl, rst := (fun _ => 5), lock := .kfSafe, ok := fun v => v != 0 }
/-- TRP_STAT STIN [20:20] RO (R540). -/
def TRP_STAT.STIN : Fld := { base := 0x1D, lo := 20, w := 1, acc := .ro }
/-- TRP_STAT TFLT [19:16] W1C (R540). -/
def TRP_STAT.TFLT : Fld := { base := 0x1D, lo := 16, w := 4, acc := .w1c }
/-- TRP_STAT LVL [15:12] RO (R540). -/
def TRP_STAT.LVL : Fld := { base := 0x1D, lo := 12, w := 4, acc := .ro }
/-- TRP_STAT ACT [11:8] RO (R540). -/
def TRP_STAT.ACT : Fld := { base := 0x1D, lo := 8, w := 4, acc := .ro }
/-- TRP_STAT LAT [3:0] RO (R540). -/
def TRP_STAT.LAT : Fld := { base := 0x1D, lo := 0, w := 4, acc := .ro, rst := (fun _ => 0xF) }
/-- TOK_CFG HBTO [31:16] RWL (R541). -/
def TOK_CFG.HBTO : Fld := { base := 0x20, lo := 16, w := 16, acc := .rwl, rst := (fun _ => 0xD7), lock := .kfSafe, ok := fun v => 50 ≤ v }
/-- TOK_CFG STO [9:0] RWL (R541). -/
def TOK_CFG.STO : Fld := { base := 0x20, lo := 0, w := 10, acc := .rwl, rst := (fun _ => 0x64), lock := .kfSafe, ok := fun v => 1 ≤ v && v ≤ 1000 }
/-- TOK_STAT CSEQ [31:16] RO (R541). -/
def TOK_STAT.CSEQ : Fld := { base := 0x21, lo := 16, w := 16, acc := .ro }
/-- TOK_STAT HELD [15:15] RO (R541). -/
def TOK_STAT.HELD : Fld := { base := 0x21, lo := 15, w := 1, acc := .ro }
/-- TOK_STAT HOLDER [14:14] RO (R541). -/
def TOK_STAT.HOLDER : Fld := { base := 0x21, lo := 14, w := 1, acc := .ro }
/-- TOK_STAT XPEND [13:13] RO (R541). -/
def TOK_STAT.XPEND : Fld := { base := 0x21, lo := 13, w := 1, acc := .ro }
/-- TOK_STAT HBA [12:12] RO (R541). -/
def TOK_STAT.HBA : Fld := { base := 0x21, lo := 12, w := 1, acc := .ro }
/-- TOK_STAT HBB [11:11] RO (R541). -/
def TOK_STAT.HBB : Fld := { base := 0x21, lo := 11, w := 1, acc := .ro }
/-- TOK_XT CTICK [15:0] RO (R541). -/
def TOK_XT.CTICK : Fld := { base := 0x22, lo := 0, w := 16, acc := .ro }
/-- TOK_CNT SAT [31:31] W1C (R541). -/
def TOK_CNT.SAT : Fld := { base := 0x23, lo := 31, w := 1, acc := .w1c }
/-- TOK_CNT GRANTS [30:16] W1C (R541). -/
def TOK_CNT.GRANTS : Fld := { base := 0x23, lo := 16, w := 15, acc := .sat }
/-- SVL_SRC SRC [15:0] W1C (R541). -/
def SVL_SRC.SRC : Fld := { base := 0x28, lo := 0, w := 16, acc := .w1c, rst := (fun _ => 0x8000) }
/-- SVL_ERR SAT [31:31] W1C (R541). -/
def SVL_ERR.SAT : Fld := { base := 0x29, lo := 31, w := 1, acc := .w1c }
/-- SVL_ERR EA [30:16] W1C (R541). -/
def SVL_ERR.EA : Fld := { base := 0x29, lo := 16, w := 15, acc := .sat }
/-- SVL_ERR EB [14:0] W1C (R541). -/
def SVL_ERR.EB : Fld := { base := 0x29, lo := 0, w := 15, acc := .sat }
/-- SVL_SUP VSUP [15:8] RO (R541). -/
def SVL_SUP.VSUP : Fld := { base := 0x2A, lo := 8, w := 8, acc := .ro }
/-- SVL_SUP DIE [7:0] RO (R541). -/
def SVL_SUP.DIE : Fld := { base := 0x2A, lo := 0, w := 8, acc := .ro }

/-- Every field of block FIN. -/
def fldsFIN : List Fld :=
  [FIN_TYPE.TYPE, FIN_WBEN.WBEN, FIN_FLTm.LIM, FIN_WBC.WBLO, FIN_WBC.WBV, FIN_RAW.RAW, FIN_VAL.VAL, FIN_WBA.WBA, FIN_WB.WB]

/-- Every field of block FOUT. -/
def fldsFOUT : List Fld :=
  [FOUT_SAFE.SAFE, FOUT_LVL.LVL, FOUT_STAT.SAT, FOUT_STAT.FCNT, FOUT_STAT.LIVE, FOUT_STAT.FAULT]

/-- Every field of block TRP. -/
def fldsTRP : List Fld :=
  [TRP_SRCk.INMSK, TRP_SRCk.SRC, TRP_CFG.POL, TRP_CFG.STLIM, TRP_STAT.STIN, TRP_STAT.TFLT, TRP_STAT.LVL, TRP_STAT.ACT, TRP_STAT.LAT]

/-- Every field of block TOK. -/
def fldsTOK : List Fld :=
  [TOK_CFG.HBTO, TOK_CFG.STO, TOK_STAT.CSEQ, TOK_STAT.HELD, TOK_STAT.HOLDER, TOK_STAT.XPEND, TOK_STAT.HBA, TOK_STAT.HBB, TOK_XT.CTICK, TOK_CNT.SAT, TOK_CNT.GRANTS]

/-- Every field of block SVL. -/
def fldsSVL : List Fld :=
  [SVL_SRC.SRC, SVL_ERR.SAT, SVL_ERR.EA, SVL_ERR.EB, SVL_SUP.VSUP, SVL_SUP.DIE]

/-- Every field of the part, block by block in rising base address. -/
def flds : List Fld := fldsFIN ++ fldsFOUT ++ fldsTRP ++ fldsTOK ++ fldsSVL

end Sys2Proof.Machine.Kf
end

