-- ==== Sys2Proof/Machine/Companion.lean ====
section
/-! DEFINITION. The KF-120: castle token (R22, R371 to R374), field inputs and outputs (R516 to R526), trip chain (R527 to R530),
supervisor messages (R532 to R537) and registers (R538 to R541, R621). -/

namespace Sys2Proof.Machine

/-- Read and write a register field. -/
def Kf.rd (s : Kf) (f : Fld) (i : Nat := 0) : Nat := f.get i 0 s.regs
def Kf.wr (s : Kf) (f : Fld) (v : Nat) (i : Nat := 0) : Kf := { s with regs := f.set i 0 v s.regs }
def Kf.on (s : Kf) (f : Fld) (i : Nat := 0) : Bool := s.rd f i == 1
def Kf.when (s : Kf) (c : Bool) (f : Kf → Kf) : Kf := if c then f s else s

/-- Raise source `i`: its bit of SVL_SRC (R537). -/
def Kf.raise (s : Kf) (i : Nat) : Kf := s.wr Kf.SVL_SRC.SRC (setBit (s.rd Kf.SVL_SRC.SRC) i true)

/-- Count up a saturating counter; reaching its largest value sets SAT and raises `src` (R12, R539, R541). -/
def Kf.count (s : Kf) (f sat : Fld) (src : Nat) : Kf :=
  let v := s.rd f
  if v = f.max then s
  else
    let s := s.wr f (v + 1)
    s.when (v + 1 == f.max) (fun s => (s.wr sat 1).raise src)

/-- Send a message to a chip (R533). -/
def Kf.reply (s : Kf) (toB : Bool) (type : Nat) (payload : List Nat) : Kf :=
  { s with out := s.out ++ [⟨.svlReply, b2n toB, svlMessage type payload⟩] }

/-- SAFE or LIVE (R524). -/
def Kf.live (s : Kf) : Bool := s.on Kf.FOUT_STAT.LIVE

/-- The token is held; by B. -/
def Kf.held (s : Kf) : Bool := s.on Kf.TOK_STAT.HELD
def Kf.holderB (s : Kf) : Bool := s.on Kf.TOK_STAT.HOLDER

/-- The chip holds the token (R23). -/
def Kf.isHolder (s : Kf) (b : Bool) : Bool := s.held && s.holderB == b

/-- Last heartbeat of a chip, none where it is silent for HBTO. -/
def Kf.freshHb (s : Kf) (b : Bool) : Option Hb :=
  if b then (if s.on Kf.TOK_STAT.HBB then s.hbB else none) else (if s.on Kf.TOK_STAT.HBA then s.hbA else none)

/-! ### Outputs and trips -/

/-- An enabled source of trip output `k` is active; `cmd`: a CMD with TRIP = 1 is being accepted (R527). -/
def Kf.tripActive (s : Kf) (cmd : Bool) (k : Nat) : Bool :=
  let src := s.rd Kf.TRP_SRCk.SRC k
  let msk := s.rd Kf.TRP_SRCk.INMSK k
  bit src 0 &&
    ((bit src 1 && cmd) || (bit src 2 && !s.on Kf.TRP_STAT.STIN) || (bit src 3 && s.sil) ||
     (bit src 4 && (s.supply || s.temp || s.osc)) ||
     (List.range 8).any (fun j => bit msk j && !bit (s.rd Kf.FIN_VAL.VAL) j))

/-- The four trip outputs that satisfy a condition, as bits. -/
def tripBits (p : Nat → Bool) : Nat := (List.range 4).foldl (fun v k => setBit v k (p k)) 0

/-- Latch the trip outputs whose sources are active, and show sources and levels: an output is on while healthy under POL 0, while
tripped under POL 1, and off where it turned itself off (R527, R540). -/
def Kf.tripEval (s : Kf) (cmd : Bool) : Kf :=
  let lat := s.rd Kf.TRP_STAT.LAT
  let new := tripBits (fun k => bit lat k || s.tripActive cmd k)
  let s := s.when (new != lat) (fun s => s.raise 3)
  let s := (s.wr Kf.TRP_STAT.LAT new).wr Kf.TRP_STAT.ACT (tripBits (s.tripActive cmd))
  s.wr Kf.TRP_STAT.LVL (tripBits (fun k => (bit (s.rd Kf.TRP_CFG.POL) k == bit new k) && !bit s.off (16 + k)))

/-- Output levels in force (R523). -/
def Kf.outLevels (s : Kf) : Nat :=
  if s.live then s.cmdOut
  else (List.range 16).foldl (fun v i =>
    let m := s.rd Kf.FOUT_SAFE.SAFE / 4 ^ i % 4
    setBit v i (if m = 0 then false else if m = 1 then true else bit s.heldOut i)) 0

/-- Bring outputs and trips up to date. -/
def Kf.settle (s : Kf) : Kf := (s.wr Kf.FOUT_LVL.LVL s.outLevels).tripEval false

/-- SAFE is entered: the levels in force are kept for "hold" (R523, R524). -/
def Kf.enterSafe (s : Kf) : Kf :=
  if s.live then { s.wr Kf.FOUT_STAT.LIVE 0 with heldOut := s.rd Kf.FOUT_LVL.LVL } else s

/-- TRIP_SOURCE_ACTIVE: an enabled source has become active (R527). -/
def tripSourceActiveKf (s : Kf) : Kf := if s.inReset then s else s.tripEval false

/-- Output `i` (16 and above: trip output `i` - 16) conducts: commanded on and not turned off by itself (R521, R527). -/
def Kf.conducts (s : Kf) (i : Nat) : Bool :=
  !bit s.off i && (if i < 16 then bit (s.rd Kf.FOUT_LVL.LVL) i else bit (s.rd Kf.TRP_STAT.LVL) (i - 16))

/-- OUTPUT_SELF_OFF: output `i` (16 and above: trip output `i` - 16), which conducts, turns itself off (R521, R522, R527). -/
def outputSelfOffKf (i : Nat) (s : Kf) : Kf :=
  if s.inReset || !s.conducts i then s
  else
    let s := { s with off := setBit s.off i true }
    if i < 16 then
      let s := s.count Kf.FOUT_STAT.FCNT Kf.FOUT_STAT.SAT 0
      if s.on Kf.FOUT_STAT.FAULT then s else (s.wr Kf.FOUT_STAT.FAULT 1).raise 0
    else
      ((s.wr Kf.TRP_STAT.TFLT (setBit (s.rd Kf.TRP_STAT.TFLT) (i - 16) true)).raise 13).tripEval false

/-- OUTPUT_RESTART: output `i` has cooled by 15 K (R521). -/
def outputRestartKf (i : Nat) (s : Kf) : Kf :=
  if s.inReset then s else ({ s with off := setBit s.off i false } : Kf).tripEval false

/-! ### Inputs (R517 to R519, R528) -/

/-- A Schmitt input: thresholds in 0.1 V, falling and rising. -/
def schmitt (was : Bool) (v fall rise : Nat) : Bool := if was then decide (fall ≤ v) else decide (rise ≤ v)

/-- One integrating counter step: the counter and the filtered value (R518). -/
def integrate (raw val : Bool) (cnt lim : Nat) : Nat × Bool :=
  let c := if raw then min lim (cnt + 1) else min lim cnt - 1
  (c, if c = lim then true else if c = 0 then false else val)

/-- One sample of input `i`: `v` in 0.1 V, `cur` in 0.05 mA. -/
def Kf.sampleInput (s : Kf) (i v cur : Nat) : Kf :=
  let t3 := bit (s.rd Kf.FIN_TYPE.TYPE) i
  let raw := schmitt (bit (s.rd Kf.FIN_RAW.RAW) i) v (if t3 then 65 else 90) (if t3 then 80 else 110)
  let lim := bits (s.rd Kf.FIN_FLTm.LIM (i / 4)) (8 * (i % 4)) 8
  let s := s.wr Kf.FIN_RAW.RAW (setBit (s.rd Kf.FIN_RAW.RAW) i raw)
  let broken := bit (s.rd Kf.FIN_WBA.WBA) i
  let watch := bit (s.rd Kf.FIN_WBEN.WBEN) i
  let low := decide (cur < s.rd Kf.FIN_WBC.WBLO)
  let run := if watch && low != broken then Tab.get 0 i s.wbRun + 1 else 0
  let turn := decide (16 ≤ run)
  let now := watch && (broken != turn)
  let s := { s with wbRun := Tab.set 0 i (if turn then 0 else run) s.wbRun }
  let s := s.wr Kf.FIN_WBA.WBA (setBit (s.rd Kf.FIN_WBA.WBA) i now)
  let s := s.when (now && !broken) (fun s => (s.wr Kf.FIN_WB.WB (setBit (s.rd Kf.FIN_WB.WB) i true)).raise 1)
  let val := bit (s.rd Kf.FIN_VAL.VAL) i
  let wbv := s.rd Kf.FIN_WBC.WBV
  let r := if now then
      let f := if wbv = 1 then false else if wbv = 2 then true else val
      (if f then lim else 0, f)
    else integrate raw val (Tab.get 0 i s.cnt) lim
  let s := { s with cnt := Tab.set 0 i r.1 s.cnt }
  s.wr Kf.FIN_VAL.VAL (setBit (s.rd Kf.FIN_VAL.VAL) i r.2)

/-- FIELD_INPUT_SAMPLE: one sample of the 32 inputs, each a voltage in 0.1 V and a current in 0.05 mA. -/
def fieldInputSampleKf (vs cs : List Nat) (s : Kf) : Kf :=
  if s.inReset then s
  else ((List.range 32).foldl (fun s i => s.sampleInput i (vs.getD i 0) (cs.getD i 0)) s).tripEval false

/-- STIN_SAMPLE: one sample of the station trip input, in 0.1 V (R528). -/
def stinSampleKf (v : Nat) (s : Kf) : Kf :=
  if s.inReset then s
  else
    let raw := schmitt s.stRaw v 90 110
    let was := s.on Kf.TRP_STAT.STIN
    let r := integrate raw was s.stCnt (s.rd Kf.TRP_CFG.STLIM)
    let s := { s with stRaw := raw, stCnt := r.1 }
    let s := s.wr Kf.TRP_STAT.STIN (b2n r.2)
    (s.when (was && !r.2) (fun s => s.raise 2)).tripEval false

/-! ### Token (R22, R372, R374) -/

/-- The token moves to a chip under a sequence; the silence timer runs from the first grant on, and no later grant restarts it (R525). -/
def Kf.setHolder (s : Kf) (b : Bool) (cseq : Nat) : Kf :=
  let first := !s.on Kf.TOK_STAT.HELD
  let s := ((s.wr Kf.TOK_STAT.HELD 1).wr Kf.TOK_STAT.HOLDER (b2n b)).wr Kf.TOK_STAT.CSEQ cseq
  let s := (s.wr Kf.TOK_STAT.XPEND 0).wr Kf.TOK_XT.CTICK 0
  { s with xfer := none, timer := s.timer || first }

/-- GRANT message (R533). -/
def Kf.sendGrant (s : Kf) (b : Bool) (cseq ctick : Nat) (at_ : Bool) : Kf :=
  s.reply b 0x82 (beBytes 2 cseq ++ beBytes 2 ctick ++ [128 * b2n at_, 0, 0, 0])

/-- Count and raise a grant. -/
def Kf.countGrant (s : Kf) : Kf := (s.count Kf.TOK_CNT.GRANTS Kf.TOK_CNT.SAT 6).raise 6

/-- TOKEN_GRANT at once, under the next sequence, or under the one of a grant already pending to that chip (R374, R397). -/
def Kf.grantNow (s : Kf) (b : Bool) : Kf :=
  match s.xfer with
  | some (dst, _, q) => if dst = b then (s.setHolder b q).sendGrant b q 0 false
      else let q := (s.rd Kf.TOK_STAT.CSEQ + 1) % 2 ^ 16; ((s.countGrant).setHolder b q).sendGrant b q 0 false
  | none => let q := (s.rd Kf.TOK_STAT.CSEQ + 1) % 2 ^ 16; ((s.countGrant).setHolder b q).sendGrant b q 0 false

/-- TOKEN_GRANT effective at the tick with these low 16 bits. -/
def Kf.grantAt (s : Kf) (b : Bool) (ctick : Nat) : Kf :=
  let q := (s.rd Kf.TOK_STAT.CSEQ + 1) % 2 ^ 16
  let s := (s.countGrant.wr Kf.TOK_STAT.XPEND 1).wr Kf.TOK_XT.CTICK ctick
  ({ s with xfer := some (b, ctick, q) } : Kf).sendGrant b q ctick true

/-- A lapse is over once the holder asks for no transfer any more (R372, R395). -/
def Kf.clearLapse (s : Kf) (trig : Option Bool) : Kf :=
  match trig with
  | some b => if s.isHolder b && (match s.freshHb b with | some x => !x.xreq | none => false) then { s with lapsed := none } else s
  | none => s

/-- The cases of R372, at a heartbeat (`trig`: its chip) or at an expiry of HBTO. -/
def Kf.tokenCases (s : Kf) (trig : Option Bool) : Kf :=
  if !s.held then s
  else
    let h := s.holderB
    let o := s.freshHb (!h)
    let able := match o with | some x => x.able | none => false
    let ready := match o with | some x => x.ready | none => false
    match s.freshHb h with
    | none => if able then s.grantNow (!h) else s
    | some x =>
      if trig.isNone then s
      else if x.release then
        if ready then s.grantNow (!h)
        else if trig = some h then ({ s with refused := true } : Kf).raise 7 else s
      else if x.xreq && s.xfer.isNone && s.lapsed != some x.ctick.toNat then
        let d := (x.ctick.toNat + 65536 - x.n.toNat) % 65536
        if decide (4 ≤ d ∧ d ≤ 32767) && ready then s.grantAt (!h) x.ctick.toNat
        else if trig = some h ∧ ¬ (5 ≤ d ∧ d ≤ 32767) then
          ({ s with lapsed := some x.ctick.toNat, lapsedSaid := false } : Kf).raise 7
        else s
      else s

/-- R22: no token granted yet and none claimed. A READY heartbeat of B waits for A's of the same period; A is granted where it is READY by
then, else B, as soon as a heartbeat of a later period comes. (DEDUCED: log entry 135.) -/
def Kf.firstGrant (s : Kf) (b : Bool) (x : Hb) : Kf :=
  let claims := (match s.freshHb false with | some y => y.claim | none => false) ||
    (match s.freshHb true with | some y => y.claim | none => false)
  if claims then s
  else if !b then
    let waits : Option Nat := match s.freshHb true with
      | some y => if s.readyB then some y.n.toNat else none
      | none => none
    match waits with
    | some n =>
      if later16 x.n.toNat n then s.grantNow true
      else if x.ready then s.grantNow false
      else if x.n.toNat = n then s.grantNow true
      else s
    | none => if x.ready then s.grantNow false else s
  else if x.ready then
    match s.freshHb false with
    | some y => if y.n = x.n ∨ s.readyB = true then s.grantNow true else { s with readyB := true }
    | none => if s.readyB then s.grantNow true else { s with readyB := true }
  else { s with readyB := false }

/-- CONF to the holder: not once the transfer away has its tick (R371, R374). -/
def Kf.confirm (s : Kf) (b : Bool) (n : Nat) : Kf :=
  let go := s.isHolder b && (match s.xfer with | some (_, c, _) => later16 c n | none => true)
  if go then
    let lapse := s.lapsed.isSome && !s.lapsedSaid
    let flags := 128 * b2n s.refused + 64 * b2n s.xfer.isSome + 32 * b2n lapse
    let c := match s.xfer with | some (_, c, _) => c | none => if lapse then s.lapsed.getD 0 else 0
    let s := s.reply b 0x81 (beBytes 2 n ++ beBytes 2 (s.rd Kf.TOK_STAT.CSEQ) ++ [flags] ++ beBytes 2 c ++ [0])
    { s with refused := false, lapsedSaid := s.lapsed.isSome }
  else s

/-- STAT to a chip (R520, R533). -/
def Kf.stat (s : Kf) (b : Bool) : Kf :=
  s.reply b 0x83 (beBytes 4 (s.rd Kf.FIN_VAL.VAL) ++ beBytes 2 (s.rd Kf.SVL_SRC.SRC) ++
    [128 * b2n (s.held && s.holderB) + 64 * b2n s.held + 32 * b2n s.live + 16 * s.rd Kf.FOUT_STAT.FAULT + s.rd Kf.TRP_STAT.LAT,
     128 * s.rd Kf.TRP_STAT.STIN])

/-- KF_HEARTBEAT_RECEIVED: a valid heartbeat of chip A or B ends (R371, R372, R534 to R536). (DEDUCED: log entry 134.) -/
def kfHeartbeatReceivedKf (b : Bool) (x : Hb) (s : Kf) : Kf :=
  if s.inReset then s
  else
    let s := if b then { s.wr Kf.TOK_STAT.HBB 1 with hbB := some x, osc := false }
      else { s.wr Kf.TOK_STAT.HBA 1 with hbA := some x, osc := false }
    let s := match s.xfer with
      | some (dst, c, q) => if dst = b ∧ c = x.n.toNat then s.setHolder b q else s
      | none => s
    let s := if s.held then (s.clearLapse (some b)).tokenCases (some b) else s.firstGrant b x
    ((s.confirm b x.n.toNat).stat b).tripEval false

/-- HEARTBEAT_TIMEOUT: HBTO expires for a chip, which counts from its last valid heartbeat and expires once (R536). -/
def heartbeatTimeoutKf (b : Bool) (s : Kf) : Kf :=
  let hb := if b then Kf.TOK_STAT.HBB else Kf.TOK_STAT.HBA
  if s.inReset || !s.on hb then s else ((s.wr hb 0).raise 8).tokenCases none

/-- KF_RESTART_GRANT: after a restart the token goes to the chip that claims it, of two to the higher sequence, of two without an order
to A with its sequence plus 1; where none claims it R22 applies (R374). -/
def kfRestartGrantKf (s : Kf) : Kf :=
  if s.inReset || s.held then s
  else
    let confirm := fun (b : Bool) (q : Nat) => ((s.countGrant).setHolder b q).sendGrant b q 0 false
    let claim := fun (b : Bool) => match s.freshHb b with | some y => if y.claim then some y.cseq.toNat else none | none => none
    let ready := fun (b : Bool) => match s.freshHb b with | some y => y.ready | none => false
    match claim false, claim true with
    | some a, some c =>
      if later16 a c then confirm false a else if later16 c a then confirm true c else confirm false ((a + 1) % 2 ^ 16)
    | some a, none => confirm false a
    | none, some c => confirm true c
    | none, none => if ready false then s.grantNow false else if ready true then s.grantNow true else s

/-! ### Messages (R525, R526, R529, R532 to R535) -/

/-- KF_TRIP_CLEAR: every latch clears, or the request is refused where an enabled source of a latched output is active (R529). -/
def Kf.tripClear (s : Kf) (cmd : Bool) : Kf :=
  let lat := s.rd Kf.TRP_STAT.LAT
  if (List.range 4).any (fun k => bit lat k && s.tripActive cmd k) then s.raise 4
  else (s.wr Kf.TRP_STAT.LAT 0).tripEval false

/-- KF_CMD_RECEIVED: accepted from the holder only: refresh, RESUME or SAFE, TRIP, TCLR, output levels. (DEDUCED: log entry 136.) -/
def kfCmdReceivedKf (b : Bool) (out : Nat) (ref resume safe trip tclr : Bool) (s : Kf) : Kf :=
  if s.inReset || !s.isHolder b then s
  else
    let s := { s with timer := s.timer || ref, cmdOut := out }
    let s := if resume && ref then { s.wr Kf.FOUT_STAT.LIVE 1 with sil := false }
      else if !resume && safe then s.enterSafe else s
    let s := s.tripEval trip
    let s := if tclr then s.tripClear trip else s
    s.settle

/-- SILENCE_TIMER_EXPIRY: the timer stands until the next restart (R525). -/
def silenceTimerExpiryKf (s : Kf) : Kf :=
  if s.inReset || !s.timer then s
  else ({ (s.raise 5).enterSafe with sil := true, timer := false } : Kf).settle

/-- SVL_MESSAGE_DISCARD at the KF-120: a message from a chip is discarded and counted (R532). -/
def Kf.discard (s : Kf) (b : Bool) : Kf :=
  if s.inReset then s
  else
    let f := if b then Kf.SVL_ERR.EB else Kf.SVL_ERR.EA
    let rises := decide (s.rd f < f.max)
    let s := s.count f Kf.SVL_ERR.SAT 9
    s.when rises (fun s => s.raise 9)

/-- The fields of register `num`, each with its instance. -/
def Kf.fieldsAt (num : Nat) : List (Fld × Nat) := Kf.flds.filterMap (fun f => (f.at? num).map (fun p => (f, p.1)))

/-- Value of register `num`. (DEDUCED: log entry 132.) -/
def Kf.readReg (s : Kf) (num : Nat) : Nat := (Kf.fieldsAt num).foldl (fun v p => v + s.rd p.1 p.2 * 2 ^ p.1.lo) 0

/-- A written field, by its access code. (DEDUCED: log entry 131.) -/
def Kf.writeField (s : Kf) (p : Fld × Nat) (v : Nat) : Kf :=
  let x := bits v p.1.lo p.1.w
  match p.1.acc with
  | .rw | .rwl => s.wr p.1 x p.2
  | .w1c => s.wr p.1 (s.rd p.1 p.2 &&& (p.1.max ^^^ x)) p.2
  | .sat => if x = p.1.max then s.wr p.1 0 p.2 else s
  | _ => s

/-- RDATA (R533). -/
def Kf.rdata (s : Kf) (b : Bool) (status num data tag : Nat) : Kf :=
  s.reply b 0x84 ([status, num] ++ beBytes 4 data ++ [tag, 0])

/-- KF_REG_RECEIVED: a read is answered for either chip; a write only for the holder, another value of an RWL field only in SAFE, no
reserved value (R8, R533, R535, R537). A reserved OP is answered as a reserved value. (DEDUCED: log entries 131, 132.) -/
def kfRegReceivedKf (b : Bool) (op num data tag : Nat) (s : Kf) : Kf :=
  if s.inReset then s
  else
    let fs := Kf.fieldsAt num
    if fs.isEmpty then s.rdata b 3 num 0 tag
    else if op = 1 then s.rdata b 0 num (s.readReg num) tag
    else if op ≠ 2 then s.rdata b 4 num 0 tag
    else if !s.isHolder b then s.rdata b 1 num 0 tag
    else if s.live && fs.any (fun p => decide (p.1.acc = .rwl) && s.rd p.1 p.2 != bits data p.1.lo p.1.w) then (s.raise 14).rdata b 2 num 0 tag
    else if fs.any (fun p => decide (p.1.acc = .rwl ∨ p.1.acc = .rw) && !p.1.ok (bits data p.1.lo p.1.w)) then
      (s.raise 14).rdata b 4 num 0 tag
    else ((fs.foldl (fun s p => s.writeField p data) s).settle).rdata b 0 num data tag

/-! ### Supply, temperature, clock (R516, R527, R537) -/

/-- The KF-120 as a supply reset leaves it. (DESIGN CHOICE: log entry 12.) -/
def Kf.atReset : Kf := { inReset := true }

/-- KF_SUPPLY_RESET: the supply falls below 16.0 V. -/
def kfSupplyResetKf (_ : Kf) : Kf := Kf.atReset

/-- KF_SUPPLY_WARNING: the supply, in 0.2 V: SUPPLY is present from 16.0 to 19.2 V and from 30 to 36 V, and raised on entry; below 16.0 V
is a reset. (DEDUCED: log entry 133.) -/
def kfSupplyWarningKf (vsup : Nat) (s : Kf) : Kf :=
  if s.inReset then s
  else if vsup < 80 then Kf.atReset
  else
    let warn := decide ((80 ≤ vsup ∧ vsup < 96) ∨ (150 < vsup ∧ vsup ≤ 180))
    let s := s.wr Kf.SVL_SUP.VSUP vsup
    let s := s.when (warn && !s.supply) (fun s => s.raise 10)
    ({ s with supply := warn } : Kf).tripEval false

/-- KF_RESET_RELEASE: the supply rises above 17.0 V; `vsup` in 0.2 V. The KF-120 leaves reset in SAFE, with SUPPLY present from the start
where the supply stands in one of its ranges. -/
def kfResetReleaseKf (vsup : Nat) (s : Kf) : Kf :=
  if s.inReset && decide (85 < vsup) then (kfSupplyWarningKf vsup { s with inReset := false }).settle else s

/-- KF_DIE_OVER_TEMPERATURE: the die temperature, °C + 40: TEMP is present above 140 °C, and raised on entry. -/
def kfDieOverTemperatureKf (die : Nat) (s : Kf) : Kf :=
  if s.inReset then s
  else
    let hot := decide (180 < die)
    let s := s.wr Kf.SVL_SUP.DIE die
    let s := s.when (hot && !s.temp) (fun s => s.raise 11)
    ({ s with temp := hot } : Kf).tripEval false

/-- KF_REFCLK_FAIL: REFCLK is absent for more than 1 µs; the next heartbeat, timed from it, shows it back. (DEDUCED: log entry 134.) -/
def kfRefclkFailKf (s : Kf) : Kf :=
  if s.inReset then s else ({ s.raise 12 with osc := true } : Kf).tripEval false

end Sys2Proof.Machine
end

