-- ==== Sys2Proof/Machine/Startup.lean ====
section
/-! DEFINITION. Start-up, resets and power states of the KV-9400 (R559, R567 to R587, R605). -/

namespace Sys2Proof.Machine

/-! ### Resets (R569, R616) -/

/-- A chip at power-on: every field at its reset value; the role strap is the chip's own (R570). -/
def Kv.atReset (roleB : Bool) : Kv :=
  { regs := Kv.SYS_STAT.ROLEB.set 0 0 (b2n roleB) [], mem := [], unc := []
    tim := { ns := 0, inc := 10 * 2 ^ 32, incNext := none, tick := 0, bn := 0, len := 1000, sprdK := 4, sprdEn := false,
             alignRun := 0, stepped := false, mapSec := 0, mapNs := 0, mapC := 0, qc := 0 }
    winOpen := [], logSeq := 0, ovrAt := [], stopNext := false, evRelease := [], t0Ended := 0, svlLast := 0
    svlSafe := false, svlTclr := false, svlResume := false, olcDirty := false
    acq := [], sp := [], cl := [], col := {}, al := {}, dsp := {}, sfe := [], cas := {}, sec := {}, hst := {}, boot := {}
    crcFrom := [], crcLen := [], bfireAt := none, cellArm := none, free := 0, out := [] }

/-- Registers of the always-on region (R27): the time unit, the first-fault latch, the reset cause, the role, and what shows the saved
settings of ports and lanes. -/
def Kv.alwaysOn (key : Nat) : Bool :=
  let a := key / 32
  decide (0x2000 ≤ a ∧ a < 0x3000) ||
  [Kv.FLT_FF0.VALID.base, Kv.FLT_FF1.ADDR.base, Kv.FLT_FF2.TICK.base, Kv.FLT_FF3.NS.base, Kv.CL_LMAP.MAP.base].contains a ||
  [Kv.SYS_RST.CAUSE.key 0 0, Kv.SYS_STAT.ROLEB.key 0 0].contains key ||
  (List.range 32).any (fun i => key == Kv.SPn_PEAK.SAVED.key i 0) || (List.range 8).any (fun i => key == Kv.CLn_PEAK.SAVED.key i 0)

/-- Everything but the always-on region and the fuses of the key store is reset, and the chip is held in reset. `cause` is the
code of SYS_RST.CAUSE (R569, R586, R616). (DESIGN CHOICE: log entry 8; DEDUCED: log entry 123.) -/
def Kv.chipReset (cause : Nat) (s : Kv) : Kv :=
  let t : Kv :=
    { Kv.atReset s.roleB with
      regs := s.regs.filter (fun e => Kv.alwaysOn e.1)
      tim := { s.tim with alignRun := 0, west := {}, east := {}, clMeas := [], clDisc := 0, clTurn := 0 }
      sp := (List.range 32).foldl (fun t i => Tab.set {} i { hop := (s.spP i).hop.saved } t) []
      cl := (List.range 8).foldl (fun t i => Tab.set {} i (Tab.get {} i s.cl).saved t) []
      sec := s.sec.restart
      free := s.free
      boot := { inReset := true } }
  ((t.wr Kv.TIM_STAT.ALIGNED 0).wr Kv.TIM_STAT.STBY 0).wr Kv.SYS_RST.CAUSE cause

/-- POWER_ON_RESET: every region, the always-on region included (R569). The fuses stay. (DESIGN CHOICE: log entry 8; DEDUCED: log entry 123.) -/
def powerOnResetKv (s : Kv) : Kv :=
  { Kv.atReset s.roleB with sec := s.sec.restart, free := s.free, boot := { inReset := true, powerOn := true } }

/-- RESETN_ASSERT. -/
def resetnAssertKv (s : Kv) : Kv := s.chipReset 1

/-- The code that SYS_RST asks for (R586). (DEDUCED: log entry 127.) -/
def rstCode (code : BitVec 16) : Bool := code == 0x7E57#16

/-- CHIP_RESET: SYS_RST.CHIP with the code. (DEDUCED: log entry 127.) -/
def chipResetKv (code : BitVec 16) (s : Kv) : Kv := if rstCode code then s.chipReset 2 else s

/-- RETIRE on a chip: every key slot reads all ones, the RETIRE fuse is blown, and the chip restarts (R544, R545). -/
def retireKv (code : BitVec 16) (s : Kv) : Kv :=
  if s.retireOk code then { s with sec := s.sec.retire (List.range 6) }.chipReset 3 else s.secRefuse

/-- OVER_TEMPERATURE_RESET: above 125 °C (R605, R606). -/
def overTemperatureResetKv (s : Kv) : Kv := s.chipReset 4

/-- DIE_TEMPERATURE_WARNING: above 110 °C (R605). -/
def dieTemperatureWarningKv (s : Kv) : Kv := s.raise Src.SYS_TEMP 0 0

/-- RESET_RELEASE: PHASE 0 begins; BENCH is sampled, the key store has been read, with a fault or without (R548, R570, R572). Only a
chip reset raises SYS_RST. -/
def resetReleaseKv (bench kflt : Bool) (s : Kv) : Kv :=
  if !s.boot.inReset then s
  else
    let sec := { s.sec with fault := kflt }
    let chip := !s.boot.powerOn
    let s := { s with boot := {}, sec := sec, tim := s.tim.reload }
    let s := (s.wr Kv.SEC_STAT.BENCH (b2n bench)).wr Kv.SEC_STAT.STATE sec.state
    let s := s.when chip (fun s => s.raise Src.SYS_RST 0 0)
    s.when kflt (fun s => (s.mark Kv.SEC_STAT.KFLT).raise Src.SEC_KEY 0 0)

/-- A SerDes region is reset: the registers of its ports and lanes return to their reset values, but not the saved settings, from
which they then start blind (R569, R616). (DEDUCED: log entry 123.) -/
def Kv.serdesReset (s : Kv) (ports lanes : List Nat) : Kv :=
  let s := s.each ports (fun s i =>
    let s := Kv.fldsSP.foldl (fun s f => if f.c1 = 32 ∧ f.key 0 0 ≠ Kv.SPn_PEAK.SAVED.key 0 0 then s.wr f (f.rst i) i else s) s
    s.onSp i (fun p => { hop := p.hop.saved }))
  s.each lanes (fun s i =>
    let s := Kv.fldsCL.foldl (fun s f => if f.c1 = 8 ∧ f.key 0 0 ≠ Kv.CLn_PEAK.SAVED.key 0 0 then s.wr f (f.rst i) i else s) s
    { s with cl := Tab.upd {} i Hop.saved s.cl })

/-- A request for a SerDes reset: in PARKED only, with the code (R569, R586). (DEDUCED: log entry 127.) -/
def Kv.serdesAsk (s : Kv) (code : BitVec 16) (ports lanes : List Nat) : Kv :=
  if !rstCode code then s
  else if !s.parked then s.regacc 17 Kv.SYS_RST.SDE.base
  else
    let s := s.serdesReset ports lanes
    s.when (s.on Kv.CL_STAT.UP && !lanesCarry s.lanesUp) castleLinkDownKv

/-- SERDES_WEST_RESET and SERDES_EAST_RESET (R27, R569). -/
def serdesWestResetKv (code : BitVec 16) (s : Kv) : Kv := s.serdesAsk code (List.range 16) [0, 1, 2, 3]
def serdesEastResetKv (code : BitVec 16) (s : Kv) : Kv := s.serdesAsk code ((List.range 16).map (· + 16)) [4, 5, 6, 7]

/-! ### The checks (R580) -/

/-- Tr and Tc of string `n` (R126 to R129): from the boundary to the end of its reports, and to its first command slot. (DEDUCED: log entry 147.) -/
def Kv.tr80 (s : Kv) (n : Nat) : Int :=
  (8 * s.blockTime n * (32 + (if s.on Kv.SP_LEAD.LAYOUT then 5 else 3) * s.rd Kv.SPn_GEOM.NMOD n) : Nat)
def Kv.tc80 (s : Kv) (n : Nat) : Int :=
  (8 * s.blockTime n * (32 + if s.on Kv.SP_LEAD.LAYOUT then 0 else 3 * s.rd Kv.SPn_GEOM.NMOD n) : Nat)

/-- A delay `p` (1/16 ns) of string `n` keeps R127 at the programmed CARRY, and R128 at the programmed SP_RAP. (DEDUCED: log entry 170.) -/
def Kv.delayFits (s : Kv) (n p : Nat) : Bool :=
  decide (s.tc80 n + 5 * p + 18976 ≤ s.rd Kv.SP_LEAD.CARRY * s.tick80) &&
  decide (s.tr80 n + 5 * p + s.qc80 + (64 + 320) * 80 ≤ (800 * s.rd Kv.SP_RAP.RAP : Nat))

/-- W reaches W_P at the programmed TA on every string (R129). -/
def Kv.windowFits (s : Kv) : Bool :=
  s.strings.all (fun n =>
    decide (s.wp80 ≤ s.rd Kv.SP_LEAD.TA * s.tick80 + s.tc80 n - 100000 - 2 * s.qc80 - (800 * s.rd Kv.SP_RAP.RAP : Nat)))

/-- TIMING of PHASE 5, with the delay of each string as `p` gives it. -/
def Kv.timingMeasured (s : Kv) (p : Nat → Nat) : Bool := s.strings.all (fun n => s.delayFits n (p n)) && s.windowFits

/-- The CVU has time for every power cell (R250). -/
def Kv.cvuFits (s : Kv) : Bool :=
  let sw := (s.strings.flatMap s.powerCells).foldl (fun n a => n + if s.on Kv.ALk_CFG.TOPO (ctlArm (s.ctl0 a)) then 4 else 2) 0
  decide (20 * sw * 1953 ≤ 10 * s.rd Kv.TIM_TICKLEN.LEN * 100000)

/-- The ledger has time for its budget (R388). -/
def Kv.budgetFits (s : Kv) : Bool :=
  decide ((s.rd Kv.LDG_CTRL.BUDGET * 1024 * 825 * 80 : Nat) ≤ 7750 * s.ledgerTime80)

/-- TIMING of PHASE 2, on the settings in force: R36, R42, R250, R388, R494. -/
def Kv.timingSet (s : Kv) : Bool :=
  let len := s.rd Kv.TIM_TICKLEN.LEN
  let sp := s.on Kv.TIM_SPRD.EN
  decide (500 ≤ len ∧ len ≤ 8000) && tickFits len s.frameTime sp && (!sp || sprdPermitted (s.rd Kv.TIM_SPRD.K) len) &&
  s.cvuFits && s.budgetFits && !s.imgTooFast

/-- A mapped port fails PORT: held in start-up mode, or not UP although its power is FULL. -/
def Kv.portFails (s : Kv) (n : Nat) : Bool :=
  s.on Kv.SPn_CTRL.NRZ n || (s.rd Kv.SPn_STAT.LSTATE n != lUp && s.rd Kv.SPn_PWR.PSTATE n == 3)

/-- A mapped string passes the string-map check (R578). (DEDUCED: log entry 53.) -/
def Kv.mapPasses (s : Kv) (n : Nat) : Bool :=
  let p := s.spP n
  p.found == s.rd Kv.SPn_GEOM.NMOD n + 1 && !p.misnumbered && !bit s.boot.placed n

/-- Power cells of arm `k` without an override. -/
def Kv.freeCells (s : Kv) (k : Nat) : Nat :=
  ((s.strings.flatMap s.powerCells).filter (fun a => ctlArm (s.ctl0 a) == k && ctlOvr (s.ctl0 a) == 0)).length

/-- Every arm with power cells keeps NMIN of them (R579). -/
def Kv.cellsPass (s : Kv) : Bool :=
  (List.range 12).all (fun k =>
    !(s.strings.flatMap s.powerCells).any (fun a => ctlArm (s.ctl0 a) == k) || decide (s.rd Kv.ALk_LIM.NMIN k ≤ s.freeCells k))

/-! ### HELD (R581) -/

/-- The REASON bits that the checks of a phase set. -/
def phaseReasons (p : Nat) : List Nat := ([[6], [5], [0, 1, 2], [4], [3], [2], [7]] : List (List Nat)).getD p []

/-- A phase fails, with these reasons: the chip stops in it, HELD; its entry raises SYS_CFG once. -/
def Kv.bootFail (s : Kv) (p : Nat) (reasons : List Nat) (str : Option Nat) : Kv :=
  let was := s.on Kv.SYS_STAT.HELD
  let r := reasons.foldl (fun r i => setBit r i true) (s.rd Kv.SYS_STAT.REASON)
  let s := (s.wr Kv.SYS_STAT.REASON r).mark Kv.SYS_STAT.HELD
  let s := match str with | some n => s.wr Kv.SYS_STAT.STR n | none => s
  let s := { s with boot := { s.boot with run := false, fail := if s.boot.fail = 0 then p + 1 else min s.boot.fail (p + 1) } }
  s.when (!was) (fun s => s.raise Src.SYS_CFG 0 (r * 2 ^ 16 + s.rd Kv.SYS_STAT.STR))

/-- Enter PHASE `p`. PHASE 1 initialises the memory. PHASE 3 takes the mapped ports, their power and the castle link into service where
the image has been loaded by the phase before. PHASE 4 begins discovery, PHASE 5 the measurement of P. (DEDUCED: log entry 124.) -/
def Kv.bootEnter (s : Kv) (p : Nat) : Kv :=
  let s := s.wr Kv.SYS_STAT.PHASE p
  match p with
  | 1 => memInitKv s
  | 4 =>
    let s := { s with boot := { s.boot with disc := false, placed := 0 } }
    s.each (List.range 32) (fun s n => s.onSp n (fun q => { q with found := 0, foundRun := 0, misnumbered := false }))
  | 5 => s.each (List.range 32) (fun s n => s.onSp n (fun q => { q with pMax := 0 }))
  | 6 => { s with boot := { s.boot with idSeen := [] } }
  | 7 => { s with boot := { s.boot with run := false } }
  | _ => s

/-- A phase passes: its reasons clear, and the next begins. -/
def Kv.bootPass (s : Kv) (p : Nat) : Kv :=
  let r := (phaseReasons p).foldl (fun r i => setBit r i false) (s.rd Kv.SYS_STAT.REASON)
  let s := (s.wr Kv.SYS_STAT.REASON r).wr Kv.SYS_STAT.HELD (b2n (r != 0))
  ({ s with boot := { s.boot with fail := if r = 0 then 0 else s.boot.fail } }).bootEnter (p + 1)

/-- Ports and castle link go into service with an image (R572, R574). (DEDUCED: log entry 124.) -/
def Kv.bootPorts (s : Kv) : Kv :=
  let s := s.mark Kv.CL_CTRL.EN
  s.each s.strings (fun s n => (portEnSetKv n (s.txenSet n)).pwrEn n 1)

/-- The image in slot `slot` as loaded in PHASE 2, and the reasons it gives. (DESIGN CHOICE: log entry 13.) -/
def Kv.tryImage (s : Kv) (slot : Bool) (i : Image) : Kv × List Nat :=
  let t := (s.clearRecords i).loadImage i
  let t := { t with boot := { t.boot with slot := slot } }
  let bad := (if s.imageAccepted slot i then [] else [0]) ++ (if i.formed then [] else [1])
  (t, if bad = [] ∧ t.timingSet = false then [2] else bad)

/-- The boot ROM copies an image from QSPI into a DRAM image slot (R461, R549). (DESIGN CHOICE: log entry 13.) -/
def Kv.copyImage (s : Kv) (slot : Bool) (i : Image) : Kv := s.storeBytes (slotAddr slot) (i.raw.take 0x2000000)

/-- PHASE 2 on the QSPI images, copied to slots 0 and 1: the secondary where the primary fails any check; a chip whose images both fail is HELD with reason
IMAGE (R573). (DESIGN CHOICE: log entry 13; DEDUCED: log entry 125.) -/
def Kv.bootQspi (s : Kv) (primary secondary : Image) : Kv :=
  let s := s.copyImage false primary
  match s.tryImage false primary with
  | (t, []) => ((t.wr Kv.SYS_STAT.BOOTSRC 0).bootPorts).bootPass 2
  | (_, r1) =>
    let s := s.copyImage true secondary
    match s.tryImage true secondary with
    | (t, []) => ((t.wr Kv.SYS_STAT.BOOTSRC 1).bootPorts).bootPass 2
    | (_, r2) => s.bootFail 2 (0 :: r1 ++ r2) none

/-- PHASE 2 on an image that the host loaded into the slot that SYS_BOOT names (R582). -/
def Kv.bootHost (s : Kv) (i : Image) : Kv :=
  match s.tryImage (s.on Kv.SYS_BOOT.SLOT) i with
  | (t, []) => (t.bootPorts).bootPass 2
  | (_, r) => s.bootFail 2 r none

/-- Cell `a` runs another program than the image names for its class, or does not answer: it is overridden with PARK (R579). -/
def Kv.identityFails (s : Kv) (a : Nat) : Kv := s.setCtl0 a (putBits (s.ctl0 a) 12 3 1)

/-- At the end of PHASE 6: the modules that have not answered (R579). -/
def Kv.silentCells (s : Kv) : List Nat := s.occupied.filter (fun a => Tab.get 0 a s.boot.idSeen == 0)

/-- PHASE_COMPLETE: the activity of the phase in force has run to its end, or to its time limit. `mem`: training and initialisation
succeeded. The images are those in QSPI, or `primary` the one that the host loaded. An end that has not come yet is no event. (DESIGN CHOICE: log entries 13, 141.) -/
def phaseCompleteKv (mem : Bool) (primary secondary : Image) (s : Kv) : Kv :=
  let p := s.rd Kv.SYS_STAT.PHASE
  if !s.boot.run || s.rd Kv.SYS_PWR.STATE != 1 then s
  else
    match p with
    | 0 => if s.sec.fault then s.bootFail 0 [6] none else s.bootPass 0
    | 1 => if !mem then s.bootFail 1 [5] none else if s.on Kv.MEM_STAT.READY then s.bootPass 1 else s
    | 2 => if s.rd Kv.SYS_STAT.BOOTSRC = 2 then s.bootHost primary else s.bootQspi primary secondary
    | 3 =>
      if s.strings.all (fun n => s.rd Kv.SPn_STAT.LSTATE n == lUp || s.rd Kv.SPn_PWR.PSTATE n == 3) then
        match s.strings.find? s.portFails with
        | some n => s.bootFail 3 [4] (some n)
        | none => s.bootPass 3
      else s
    | 4 =>
      match s.strings.find? (fun n => !s.mapPasses n || !s.boot.disc) with
      | some n => s.bootFail 4 [3] (some n)
      | none => s.bootPass 4
    | 5 => if s.timingMeasured (fun n => (s.spP n).pMax) then s.bootPass 5 else s.bootFail 5 [2] none
    | 6 =>
      let s := s.each s.silentCells Kv.identityFails
      if s.cellsPass then s.bootPass 6 else s.bootFail 6 [7] none
    | _ => s

/-- DISCOVERY_STABLE: the count of every mapped string has held for 64 ticks (R577). -/
def discoveryStableKv (s : Kv) : Kv :=
  if s.boot.run && s.rd Kv.SYS_STAT.PHASE == 4 && s.strings.all (fun n => (s.spP n).found != 0 && decide (64 ≤ (s.spP n).foundRun)) then
    { s with boot := { s.boot with disc := true } }
  else s

/-- CELL_IDENTITY_CHECK: CC_ID of cell `a` as read, none where it did not answer; a cell that runs another program than the image
names for its class is overridden with PARK (R579). -/
def cellIdentityCheckKv (a : Nat) (ident : Option Word) (s : Kv) : Kv :=
  if s.boot.run && s.rd Kv.SYS_STAT.PHASE == 6 then
    let want := match s.dsp.img with | some i => i.cellId (ctlClass (s.ctl0 a)) | none => none
    let s := { s with boot := { s.boot with idSeen := Tab.set 0 a 1 s.boot.idSeen } }
    if ident.isSome && ident == want then s else s.identityFails a
  else s

/-- PROBE_START_ROLE_A: the off time of a mapped port has passed on a chip of role A (R574). -/
def probeStartRoleAKv (n : Nat) (s : Kv) : Kv :=
  if !s.roleB && s.mapped n && decide (3 ≤ s.rd Kv.SYS_STAT.PHASE) then probeOffTimeEndKv n s else s

/-- PROBE_START_ROLE_B: on a chip of role B a valid header from the far end has arrived too, or 2 s more have passed. -/
def probeStartRoleBKv (n : Nat) (late : Bool) (s : Kv) : Kv :=
  if s.roleB && s.mapped n && decide (3 ≤ s.rd Kv.SYS_STAT.PHASE) && ((s.spP n).farSeen || late) then probeOffTimeEndKv n s else s

/-- Commands of SYS_BOOT are accepted while HELD, or in PARKED and STOP without the token (R582). -/
def Kv.bootOpen (s : Kv) : Bool := s.on Kv.SYS_STAT.HELD || (s.parked && s.mode == 0 && !s.duty)

/-- SYS_BOOT_LOAD: phases 2 to 7 run on the image in image slot `slot`, which SLOT takes even where the command is refused (R8). (DESIGN CHOICE: log entry 141.) -/
def sysBootLoadKv (slot : Bool) (s : Kv) : Kv :=
  let s := s.wr Kv.SYS_BOOT.SLOT (b2n slot)
  if !s.bootOpen then s.regacc 17 Kv.SYS_BOOT.CMD.base
  else
    let s := s.wr Kv.SYS_STAT.BOOTSRC 2
    ({ s with boot := { s.boot with run := true } }).bootEnter 2

/-- SYS_BOOT_RECHK: the checks run again from the first phase that failed; ignored while a check runs (R582, R584). -/
def sysBootRechkKv (s : Kv) : Kv :=
  if !s.bootOpen then s.regacc 17 Kv.SYS_BOOT.CMD.base
  else if s.boot.run || s.boot.fail == 0 then s
  else ({ s with boot := { s.boot with run := true } }).bootEnter (s.boot.fail - 1)

/-! ### Power states (R559, R565) -/

/-- A request that breaks a condition. (DEDUCED: log entry 126.) -/
def Kv.pwrRefuse (s : Kv) : Kv := s.regacc 17 Kv.SYS_PWR.REQ.base

/-- POWER_REQUEST_RUN: from PARKED, after the checks of R583. (DEDUCED: log entry 126.) -/
def powerRequestRunKv (s : Kv) : Kv :=
  let enabled := (List.range 32).filter (fun n => s.on Kv.SPn_CTRL.EN n)
  if s.rd Kv.SYS_PWR.STATE = 0 then s
  else if !s.parked || s.on Kv.SYS_STAT.HELD || s.boot.run || s.secState == 3 || enabled.any (fun n => s.on Kv.SPn_CTRL.TEST n) ||
      (s.secState == 2 && s.rd Kv.DBG_STAT.HALTED != 0) then s.pwrRefuse
  else
    let ports := (enabled.filter (fun n => s.on Kv.SPn_CTRL.NRZ n)).head?.or (s.strings.find? s.portFails)
    let s1 := s.when (!s.timingSet) (fun s => s.bootFail 2 [2] none)
    let s2 := s1.when ports.isSome (fun s => s.bootFail 3 [4] ports)
    let s3 := s2.when (!s.timingMeasured (fun n => s.rd Kv.SPn_PDLY.P n)) (fun s => s.bootFail 5 [2] none)
    if s3.on Kv.SYS_STAT.HELD then s3.pwrRefuse else s.wr Kv.SYS_PWR.STATE 0

/-- Both SerDes regions lose power: every port and lane goes dark, the castle link goes down, PWR_EN falls. -/
def Kv.darken (s : Kv) : Kv :=
  let s := s.each (List.range 32) (fun s n =>
    let s := s.spStep n signalLossStep
    ((s.wr Kv.SPn_PWR.PWREN 0 n).wr Kv.SPn_PWR.PSTATE 0 n).onSp n (fun p => { p with frame := none, txOut := false }))
  castleLinkDownKv (s.each (List.range 8) (fun s n => s.clStep n signalLossStep))

/-- POWER_REQUEST_STANDBY: from PARKED with mode STOP, no token and no session. (DEDUCED: log entry 126.) -/
def powerRequestStandbyKv (s : Kv) : Kv :=
  if s.rd Kv.SYS_PWR.STATE = 2 then s
  else if !s.parked || s.mode != 0 || s.duty || s.rd Kv.DBG_STAT.LEVEL != 0 then s.pwrRefuse
  else (s.darken).wr Kv.SYS_PWR.STATE 2

/-- POWER_REQUEST_PARKED: from RUN, or from STANDBY, whose ports then start again and whose time base aligns again. (DEDUCED: log entry 126.) -/
def powerRequestParkedKv (s : Kv) : Kv :=
  match s.rd Kv.SYS_PWR.STATE with
  | 0 => s.wr Kv.SYS_PWR.STATE 1
  | 2 =>
    let s := (s.wr Kv.SYS_PWR.STATE 1).wr Kv.TIM_STAT.ALIGNED 0
    let s := { s with tim := { s.tim with alignRun := 0 } }
    let s := s.each (List.range 32) (fun s n => s.onSp n (fun p => { p with txOut := s.on Kv.SPn_CTRL.TXEN n }))
    s.each (List.range 32) (fun s n => s.when (s.on Kv.SPn_PWR.EN n && !s.on Kv.SPn_PWR.GIVEUP n) (fun s => s.wr Kv.SPn_PWR.PSTATE 1 n))
  | _ => s

end Sys2Proof.Machine
end

