-- ==== Sys2Proof/Machine/RegAccess.lean ====
section
/-! DEFINITION. Accesses to the register window of a KV-9400 by its masters, and through its PCIe windows (R8 to R12, R464, R468, R484,
R559, R613 to R617). A write of a register with an effect of its own has that effect. -/

namespace Sys2Proof.Machine

/-! ### Cell records (R307) -/

/-- A store to the cell record of cell `a` at offset `o`: the RW fields of CTL word 0, or PRG bytes; none for any other offset. A
reserved OVR or BCMD keeps its value and is reported (R10). -/
def Kv.csw (s : Kv) (a o v : Nat) : Option Kv :=
  let addr := recAddr a + o
  if o = 0x40 then
    let c := s.ctl0 a
    let okO := decide (bits v 12 3 ≤ 4)
    let okB := decide (bits v 8 4 ≤ 5)
    let w := putBits c 0 3 v
    let w := if okO then putBits w 12 3 (bits v 12 3) else w
    let w := if okB then putBits w 8 4 (bits v 8 4) else w
    if s.forced addr 4 then some s
    else if s.bad addr then some (s.storeBe addr w 4)
    else some ((s.storeBe addr w 4).when (!(okO && okB)) (fun s => s.regacc 16 ((addr - sysRegs) % 2 ^ 32)))
  else if o % 4 = 0 ∧ 0xD0 ≤ o ∧ o ≤ 0xFC then
    some (s.unlessForced addr 4 (fun s => s.storeBe addr v 4))
  else none

/-! ### Indirect system access (R615) -/

/-- The address of SYS_XAH and SYS_XAL. -/
def Kv.xaddr (s : Kv) : Nat := s.rd Kv.SYS_XAH.ADDRH * 2 ^ 32 + s.rd Kv.SYS_XAL.ADDR * 4

/-- After an access the address moves on by 4 where INC = 1. -/
def Kv.xnext (s : Kv) : Kv :=
  if s.on Kv.SYS_XAH.INC then
    let a := (s.xaddr + 4) % 2 ^ 36
    (s.wr Kv.SYS_XAH.ADDRH (a / 2 ^ 32)).wr Kv.SYS_XAL.ADDR (a % 2 ^ 32 / 4)
  else s

/-- Memory of the system map outside the register window (R460). (DEDUCED: log entry 130.) -/
def Kv.xmapped (s : Kv) (a : Nat) : Bool := s.inDram a || (inSram a && !inRegs a)

/-- A refused access through SYS_XD. -/
def Kv.xrefuse (s : Kv) (kind : Nat) : Kv := s.regacc kind Kv.SYS_XD.D.base

/-- SYS_XD is read: the word at ADDR, shown in SYS_XD. An uncorrectable word reads as all ones. (DESIGN CHOICE: log entry 129.) -/
def Kv.xdRead (s : Kv) : Nat × Kv :=
  let a := s.xaddr
  if !s.xmapped a then (0, (s.wr Kv.SYS_XD.D 0).xrefuse 18)
  else
    let v := if s.bad a then 0xFFFFFFFF else if beWord a then s.rdBe a 4 else s.rdLe a 4
    let s := s.when (s.bad a) (fun s => (s.logUnc a).raiseUnc a 0)
    (v, (s.wr Kv.SYS_XD.D v).xnext)

/-- SYS_XD is written. (DESIGN CHOICE: log entry 129.) -/
def Kv.xdWrite (s : Kv) (v : Nat) : Kv :=
  let a := s.xaddr
  if !s.xmapped a then s.xrefuse 18
  else if sysArena ≤ a ∧ a < sysImem 0 then
    if a < sysArena + 0x200000 then
      match s.csw ((a - sysArena) / 256) ((a - sysArena) % 256) v with
      | some t => (t.wr Kv.SYS_XD.D v).xnext
      | none => s.xrefuse 17
    else s.xrefuse 17
  else if sysImem 0 ≤ a ∧ a < sysDmem 0 ∧ s.mode ≠ 0 then s.xrefuse 17
  else
    let s := s.wr Kv.SYS_XD.D v
    if sysSfe 0 ≤ a then
      (s.unlessForced a 4 (fun s => s.sfeStore ((a - sysSfe 0) / 0x200000) ((a - sysSfe 0) % 0x200000) v 4)).xnext
    else (s.forcedStore a v 4).xnext

/-- SYS_XD_ACCESS: a read, or a write of a word. -/
def sysXdAccessKv (w : Option Word) (s : Kv) : Kv :=
  match w with
  | some v => s.xdWrite v.toNat
  | none => let r := s.xdRead; r.2.send ⟨.pcie, 0, [0, r.1]⟩

/-! ### Registers with an effect of their own -/

/-- SPn_CTRL: EN and TXEN act in their own ways (R88); a retired chip holds TXEN at 0 (R545). Polarity and line mode follow what is written
(R91). -/
def Kv.writeSpCtrl (s : Kv) (n v : Nat) : Kv :=
  let off := Kv.SPn_CTRL.EN.addr n 0
  let en := s.on Kv.SPn_CTRL.EN n
  let tx := s.on Kv.SPn_CTRL.TXEN n
  let s := s.writeReg off (putBits v 0 2 (b2n en + 2 * b2n tx))
  let tx' := bit v 1 && s.secState != 3
  let s := s.spStep n (fun F c i h => hopHold F c i (hopPolarity F c i h))
  let s := if !tx' && tx then portTxenClearKv n s else if tx' && !tx then s.txenSet n else s
  if bit v 0 && !en then portEnSetKv n s else if !bit v 0 && s.on Kv.SPn_CTRL.EN n then portEnClearKv n s else s

/-- A pattern control word at `off` in a line mode, service mode or not: patterns 4 and 5 are reserved in start-up mode and keep the old
values (R96); a write that enables an injection into live frames where `live` forbids it leaves ELIVE and EMODE (R80). -/
def Kv.pctlWord (s : Kv) (F : HopFlds) (off i v : Nat) (service live : Bool) : Kv :=
  let rd := fun (f : Fld) => s.rd f i
  let pam := fun (p : Nat) => !service && (p == 4 || p == 5)
  let badG := pam (bits v 0 3)
  let badC := pam (bits v 4 3)
  let badL := !live && bit v 18 && (rd F.elive == 0 || bits v 8 3 != rd F.emode)
  let v := if badG then putBits v 0 3 (rd F.gpat) else v
  let v := if badC then putBits v 4 3 (rd F.cpat) else v
  let v := if badL then putBits (putBits v 18 1 (rd F.elive)) 8 3 (rd F.emode) else v
  ((s.writeReg off v).when (badG || badC) (fun s => s.regacc 16 off)).when badL (fun s => s.regacc 17 off)

/-- SPn_PCTL: without any pattern a port in TEST goes DARK; EGO injects (R71, R96). -/
def Kv.writeSpPctl (s : Kv) (n v : Nat) : Kv :=
  let service := hopService spFlds (s.spCfg n) n { h := (s.spP n).hop, r := s.regs }
  let s := s.pctlWord spFlds (Kv.SPn_PCTL.EGO.addr n 0) n v service (s.injectOk true)
  let none_ := s.rd Kv.SPn_PCTL.GPAT n == 0 && s.rd Kv.SPn_PCTL.CPAT n == 0
  let s := if none_ then s.spStep n deselectStep else s.spTest n
  s.when (bit v 11) (errorInjectSp n)

/-- Castle lane `n` out of frame service with a pattern selected is in TEST (R71). -/
def Kv.clTest (s : Kv) (n : Nat) : Kv := s.clStep n (fun F c i h => hopTest F c i (s.on Kv.CL_CTRL.EN) h)

/-- The polarity of every lane follows what is written (R98). -/
def Kv.clPolarity (s : Kv) : Kv := s.each (List.range 8) (fun s n => s.clStep n (fun F c i h => hopPolarity F c i h))

/-- CLn_PCTL, likewise; a lane is out of frame service while the castle link is not enabled. -/
def Kv.writeClPctl (s : Kv) (n v : Nat) : Kv :=
  let service := hopService clFlds (s.clCfg n) n { h := Tab.get {} n s.cl, r := s.regs }
  let s := s.pctlWord clFlds (Kv.CLn_PCTL.EGO.addr n 0) n v service (s.injectOk true)
  let none_ := s.rd Kv.CLn_PCTL.GPAT n == 0 && s.rd Kv.CLn_PCTL.CPAT n == 0
  let s := if none_ then s.clStep n deselectStep else s.clTest n
  s.when (bit v 11) (errorInjectCl n)

/-- SPn_PWR: EN acts as R86 and R94 say. -/
def Kv.writeSpPwr (s : Kv) (n v : Nat) : Kv :=
  let s := s.writeReg (Kv.SPn_PWR.EN.addr n 0) (putBits v 0 1 (s.rd Kv.SPn_PWR.EN n))
  s.pwrEn n (b2n (bit v 0 && s.secState != 3))

/-- CL_CTRL: where EN clears, the lanes stop, a loss of signal on each, the link goes down, and a selected pattern may run; where it is set,
TEST ends (R71, R98). (DESIGN CHOICE: log entry 169.) -/
def Kv.writeClCtrl (s : Kv) (v : Nat) : Kv :=
  let was := s.on Kv.CL_CTRL.EN
  let s := (s.writeReg Kv.CL_CTRL.EN.base v).clPolarity
  if was && !bit v 0 then
    let s := castleLinkDownKv (s.each (List.range 8) (fun s n => s.clStep n signalLossStep))
    s.each (List.range 8) (fun s n => s.clTest n)
  else if !was && bit v 0 then s.each (List.range 8) (fun s n => s.clStep n hopEnable)
  else s

/-- A register of the injection signal of engine `e` keeps its value while the unit waits or runs (R275). -/
def Kv.writeInjReg (s : Kv) (f : Fld) (e v : Nat) : Kv :=
  if s.injBusy e then s.regacc 17 (f.addr e 0) else s.writeReg (f.addr e 0) v

/-- SFEn_TRC: setting EN starts the trace (R286). (DESIGN CHOICE: log entry 107.) -/
def Kv.writeTrc (s : Kv) (e v : Nat) : Kv :=
  let s := s.writeReg (Kv.SFEn_TRC.EN.addr e 0) v
  s.when (bit v 31) (fun s => s.sfeTraceStart e)

/-- DSP_CTRL: MREQ asks for a mode at MTICK (R337, R360). -/
def Kv.writeDspCtrl (s : Kv) (v : Nat) : Kv :=
  let s := s.writeReg Kv.DSP_CTRL.MREQ.base v
  match bits v 0 2 with
  | 1 => modeRequestRunKv (bits v 16 16) s
  | 2 => modeRequestStopKv (bits v 16 16) s
  | 3 => modeRequestHoldKv (bits v 16 16) s
  | _ => s

/-- DSP_OLC (R358, R366). -/
def Kv.writeOlc (s : Kv) (v : Nat) : Kv :=
  match bits v 26 2 with
  | 1 => olcLoadKv (s.writeReg Kv.DSP_OLC.CMD.base v)
  | 2 => olcCommitKv (bits v 0 16) s
  | 3 => olcAbortKv (s.writeReg Kv.DSP_OLC.CMD.base v)
  | _ => s.writeReg Kv.DSP_OLC.CMD.base v

/-- DSP_FRCC (R356, R367). -/
def Kv.writeFrcc (s : Kv) (v : Nat) : Kv :=
  match bits v 30 2 with
  | 0 => forceReadEntryKv (bits v 24 6) (s.writeReg Kv.DSP_FRCC.CMD.base v)
  | 1 => forceSetKv (bits v 24 6) (bits v 0 16) s
  | 2 => forceDelKv (bits v 24 6) (bits v 0 16) s
  | _ => (s.writeReg Kv.DSP_FRCC.CMD.base v).regacc 16 Kv.DSP_FRCC.CMD.base

/-- Cn_CTRL: EN takes the write, a reset that is not refused returns it to 1, and where it is cleared the stall item goes back (R344, R368, R616). -/
def Kv.writeCoreCtrl (s : Kv) (n v : Nat) : Kv :=
  let was := s.on Kv.Cn_CTRL.EN n
  let s := (s.writeReg (Kv.Cn_CTRL.EN.addr n 0) v).when (bit v 1) (coreResetKv n)
  if was && !s.on Kv.Cn_CTRL.EN n then coreDisableKv n s else s

/-- CL_CAS: REQ asks for a castling at CTICK (R395, R399). -/
def Kv.writeCas (s : Kv) (v : Nat) : Kv :=
  let s := s.writeReg Kv.CL_CAS.CTICK.base v
  s.when (bit v 15) (castleReqKv (bits v 16 16))

/-- ACQn_GDk: SEL is read by the KIND beside it: its reserved bits are ignored, and a reserved SEL is kept as it was, with the KIND where
the kept SEL is reserved under the new one (R9, R10, R457). (DESIGN CHOICE: log entry 175.) -/
def Kv.writeGd (s : Kv) (n k off v : Nat) : Kv :=
  let fits := fun (kind : Bool) (sel : Nat) => if kind then decide (bits sel 11 5 ≤ 16) else decide (bits sel 13 13 ≤ bits sel 0 13)
  let w := unreserved off v
  let old := s.rd Kv.ACQn_GDk.SEL n k
  if fits (bit v 30) (bits w 0 26) || !s.lockOpen Kv.ACQn_GDk.SEL.lock n then s.writeReg off w
  else
    let w := putBits v 0 26 old
    let w := if fits (bit v 30) old then w else putBits w 30 1 (s.rd Kv.ACQn_GDk.KIND n k)
    (s.writeReg off (unreserved off w)).regacc 16 off

/-- ACQn_GXk: LSB and W together may not reach above bit 191 of a report; both then stay as they were (R10, R457). (DESIGN CHOICE: log entry 175.) -/
def Kv.writeGx (s : Kv) (n k off v : Nat) : Kv :=
  if bits v 8 8 + bits v 4 4 ≤ 191 || !s.lockOpen Kv.ACQn_GXk.LSB.lock n then s.writeReg off v
  else
    let w := putBits (putBits v 8 8 (s.rd Kv.ACQn_GXk.LSB n k)) 4 4 (s.rd Kv.ACQn_GXk.W n k)
    (s.writeReg off w).regacc 16 off

/-- ACQn_TRG: a TCH that is no channel of the unit stays as it was (R10, R458). (DEDUCED: log entry 183.) -/
def Kv.writeTrg (s : Kv) (n v : Nat) : Kv :=
  let off := Kv.ACQn_TRG.KIND.addr n 0
  let old := s.rd Kv.ACQn_TRG.TCH n
  if bits v 13 13 = old ∨ bits v 13 13 < (s.acqChans n).length ∨ s.lockOpen Kv.ACQn_TRG.TCH.lock n = false then s.writeReg off v
  else (s.writeReg off (putBits v 13 13 old)).regacc 16 off

/-- ACQ_CTRL: GRP shows the master's bit set, and a write of what it shows changes nothing (R8, R455). -/
def Kv.writeAcqCtrl (s : Kv) (v : Nat) : Kv :=
  let raw := s.rd Kv.ACQ_CTRL.GRP
  let same := !s.lockOpen .acqCtrl 0 && bits v 4 4 == setBit raw (s.rd Kv.ACQ_CTRL.MSTR) true
  s.writeReg Kv.ACQ_CTRL.GRP.base (if same then putBits v 4 4 raw else v)

/-- DSP_PMSKk: a PHASE of PERIOD or above stays as it was (R10, R363). -/
def Kv.writePmsk (s : Kv) (k v : Nat) : Kv :=
  let off := Kv.DSP_PMSKk.PHASE.addr k 0
  let old := s.rd Kv.DSP_PMSKk.PHASE k
  if bits v 16 16 = old ∨ bits v 16 16 < s.rd Kv.DSP_PCFGk.PERIOD k ∨ s.lockOpen Kv.DSP_PMSKk.PHASE.lock k = false then s.writeReg off v
  else (s.writeReg off (putBits v 16 16 old)).regacc 16 off

/-- LDG_CTRL (R391, R402). -/
def Kv.writeLdg (s : Kv) (v : Nat) : Kv :=
  let s := s.writeReg Kv.LDG_CTRL.EN.base v
  s.when (bit v 30) ledgerResyncKv

/-- FLT_SSTn: PEND acknowledges, as FLT_PENDm does (R417, R432). -/
def Kv.writeSst (s : Kv) (n v : Nat) : Kv :=
  let s := s.writeReg (Kv.FLT_SSTn.PEND.addr n 0) (putBits v 31 1 0)
  s.when (bit v 31) (fun s => s.fltAck n)

/-- FLT_INJ (R434). -/
def Kv.writeInjFlt (s : Kv) (v : Nat) : Kv :=
  if bit v 19 then fltInjGoKv (bits v 25 7) (bits v 20 5) s else s.writeReg Kv.FLT_INJ.GO.base v

/-- FLT_LOGP (R423, R434). -/
def Kv.writeLogp (s : Kv) (v : Nat) : Kv := logReadPointerWriteKv (bits v 8 8) (s.writeReg Kv.FLT_LOGP.RP.base v)

/-- ACQ_ARM (R441, R444, R455). -/
def Kv.writeAcqArm (s : Kv) (v : Nat) : Kv :=
  let s := s.writeReg Kv.ACQ_ARM.GO.base v
  let s := s.when (bit v 31) (acqArmGoKv (bits v 0 16) (bit v 30))
  s.when (bit v 29) acqArmFireKv

/-- ACQn_PTRIG: POST lies within 1 to ROWS − 2 (R456). -/
def Kv.writePtrig (s : Kv) (n v : Nat) : Kv :=
  let p := bits v 0 28
  if p ≠ s.rd Kv.ACQn_PTRIG.POST n ∧ (p = 0 ∨ s.rd Kv.ACQn_ROWS.ROWS n < p + 2) then s.regacc 18 (Kv.ACQn_PTRIG.POST.addr n 0)
  else s.writeReg (Kv.ACQn_PTRIG.POST.addr n 0) v

/-- MEM_CFG (R465, R481). -/
def Kv.writeMemCfg (s : Kv) (v : Nat) : Kv :=
  let s := s.writeReg Kv.MEM_CFG.INIT.base v
  s.when (bit v 0) memInitKv

/-- CRCn_CTRL: GO starts; EN cleared stops, after as many words as the engine has come on (R474, R476). (DESIGN CHOICE: log entry 40.) -/
def Kv.writeCrcCtrl (s : Kv) (n v : Nat) : Kv :=
  if bit v 30 then crcGoKv n v s
  else if s.crcOwned n then s.regacc 17 (Kv.CRCn_CTRL.EN.addr n 0)
  else s.crcWrite n v

/-- The context registers of a check-value engine keep their values while a scan runs (R476). -/
def Kv.writeCrcReg (s : Kv) (f : Fld) (n v : Nat) : Kv :=
  if s.rd Kv.CRCn_STAT.STATE n = 1 then s.regacc 17 (f.addr n 0) else s.writeReg (f.addr n 0) v

/-- IMG_MBC: SEND queues a message (R495). -/
def Kv.writeMbc (s : Kv) (v : Nat) : Kv :=
  if bit v 15 then mailboxSendKv (bits v 16 16) (bit v 13) (bits v 8 5) s else s.writeReg Kv.IMG_MBC.SEND.base v

/-- PCI_MSIX_VC: clearing MASK releases a held message (R485). -/
def Kv.writeMsixVc (s : Kv) (n v : Nat) : Kv :=
  if bit v 0 then s.writeReg (Kv.PCI_MSIX_VC.MASK.addr n 0) v else msixVectorUnmaskKv n s

/-- SVL_CTRL (R542). -/
def Kv.writeSvlCtrl (s : Kv) (v : Nat) : Kv :=
  let s := s.writeReg Kv.SVL_CTRL.EN.base v
  ((s.when (bit v 4) svlCtrlSafeKv).when (bit v 2) svlCtrlTclrKv).when (bit v 1) svlCtrlResumeKv

/-- SVL_REQ (R542). -/
def Kv.writeSvlReq (s : Kv) (v : Nat) : Kv :=
  match bits v 30 2 with
  | 1 => svlReqReadKv (bits v 0 8) s
  | 2 => svlReqWriteKv (bits v 0 8) s
  | 0 => s.writeReg Kv.SVL_REQ.OP.base v
  | _ => (s.writeReg Kv.SVL_REQ.OP.base v).regacc 16 Kv.SVL_REQ.OP.base

/-- SEC_CTRL (R547, R563). (DEDUCED: log entry 122.) -/
def Kv.writeSecCtrl (s : Kv) (v : Nat) : Kv :=
  let code := BitVec.ofNat 16 (bits v 16 16)
  let slot := bits v 0 3
  match bits v 13 3 with
  | 0 => s
  | 1 => if 6 ≤ slot then s.regacc 16 Kv.SEC_CTRL.CMD.base else keyProgKv slot code s
  | 2 => if 6 ≤ slot then s.regacc 16 Kv.SEC_CTRL.CMD.base else keyRevokeKv slot code s
  | 3 => sealKv code s
  | 4 => retireKv code s
  | 5 => svupKv code s
  | _ => s.regacc 16 Kv.SEC_CTRL.CMD.base

/-- DBG_REQ by a path (1 host, 2 Probe) (R553, R554, R564). (DEDUCED: log entries 121, 122.) -/
def Kv.writeDbgReq (s : Kv) (path v : Nat) : Kv :=
  let off := Kv.DBG_REQ.CMD.base
  match bits v 29 3 with
  | 0 => s.writeReg off v
  | 1 => debugChalKv path (s.writeReg off v)
  | 2 => debugVerifyKv path (bits v 27 2) (bit v 26) (bits v 25 1) s
  | 3 => debugCloseKv path (s.writeReg off v)
  | _ => (s.writeReg off v).regacc 16 off

/-- The cores of the mask that are halted may run one instruction (R556). -/
def Kv.stepCores (s : Kv) (mask : Nat) : Kv :=
  s.each ((List.range 16).filter (fun n => bit mask n && s.coreHalted n)) (fun s n => s.onCore n (fun k => { k with stepOk := true }))

/-- DBG_CORE by a path (R556, R564). -/
def Kv.writeDbgCore (s : Kv) (path v : Nat) : Kv :=
  let mask := bits v 0 16
  match bits v 30 2 with
  | 1 => coreHaltKv path mask s
  | 2 => coreResumeKv path mask s
  | 3 => s.coreCmd path mask (fun s => s.stepCores mask)
  | _ => s.writeReg Kv.DBG_CORE.CMD.base v

/-- DBG_TRC: setting EN clears WRAP (R564). -/
def Kv.writeDbgTrc (s : Kv) (v : Nat) : Kv :=
  let s := s.writeReg Kv.DBG_TRC.EN.base v
  s.when (bit v 31) (fun s => s.wr Kv.DBG_TRC.WRAP 0)

/-- SYS_BOOT (R582, R586). -/
def Kv.writeBoot (s : Kv) (v : Nat) : Kv :=
  match bits v 30 2 with
  | 1 => sysBootLoadKv (bit v 29) s
  | 2 => sysBootRechkKv (s.writeReg Kv.SYS_BOOT.CMD.base v)
  | 0 => s.writeReg Kv.SYS_BOOT.CMD.base v
  | _ => (s.writeReg Kv.SYS_BOOT.CMD.base v).regacc 16 Kv.SYS_BOOT.CMD.base

/-- SYS_RST (R586). -/
def Kv.writeRst (s : Kv) (v : Nat) : Kv :=
  let code := BitVec.ofNat 16 (bits v 16 16)
  if bit v 0 && rstCode code then chipResetKv code s
  else (s.when (bit v 1) (serdesWestResetKv code)).when (bit v 2) (serdesEastResetKv code)

/-- SYS_PWR (R559, R565). -/
def Kv.writePwr (s : Kv) (v : Nat) : Kv :=
  match bits v 16 2 with
  | 1 => powerRequestRunKv s
  | 2 => powerRequestParkedKv s
  | 3 => powerRequestStandbyKv s
  | _ => s

/-- ALk_CFG: EN cleared disables the allocator (R243). -/
def Kv.writeAlCfg (s : Kv) (k v : Nat) : Kv :=
  let s := s.writeReg (Kv.ALk_CFG.EN.addr k 0) v
  s.when (!bit v 31) (allocatorDisableKv k)

/-- ETHn_CFG, IMG_TLY and other registers whose write is one command of its own are listed here by a field of theirs: what a write of
word `v` to instance `i` does, given the path of the master. -/
def Kv.writers : List (Fld × (Nat → Nat → Nat → Kv → Kv)) :=
  [(Kv.SYS_BOOT.CMD, fun _ _ v s => s.writeBoot v),
   (Kv.SYS_RST.CODE, fun _ _ v s => s.writeRst v),
   (Kv.SYS_PWR.REQ, fun _ _ v s => s.writePwr v),
   (Kv.SYS_XD.D, fun _ _ v s => s.xdWrite v),
   (Kv.TIM_INCI.INCI, fun _ _ v s => timInciWriteKv v s),
   (Kv.TIM_TICKLEN.LEN, fun _ _ v s => timTicklenWriteKv v s),
   (Kv.TIM_SPRD.K, fun _ _ v s => timSprdWriteKv v s),
   (Kv.TIM_CBASE.CB, fun _ _ v s => timCbaseWriteKv v s),
   (Kv.SEC_CTRL.CMD, fun _ _ v s => s.writeSecCtrl v),
   (Kv.DBG_REQ.CMD, fun path _ v s => s.writeDbgReq path v),
   (Kv.DBG_CORE.CMD, fun path _ v s => s.writeDbgCore path v),
   (Kv.DBG_TRC.EN, fun _ _ v s => s.writeDbgTrc v),
   (Kv.Cn_CTRL.EN, fun _ n v s => s.writeCoreCtrl n v),
   (Kv.ALk_CFG.EN, fun _ k v s => s.writeAlCfg k v),
   (Kv.CVU_CTRL.EN, fun _ _ v s => if bit v 0 then s.writeReg Kv.CVU_CTRL.EN.base v else cvuDisableKv s),
   (Kv.CVU_BINE0.E, fun _ _ v s => cvuBineWriteKv 0 v s),
   (Kv.CVU_BINE1.E, fun _ _ v s => cvuBineWriteKv 1 v s),
   (Kv.CLn_PCTL.EGO, fun _ n v s => s.writeClPctl n v),
   (Kv.CL_CTRL.EN, fun _ _ v s => s.writeClCtrl v),
   (Kv.CL_POL.INVRX, fun _ _ v s => (s.writeReg Kv.CL_POL.INVRX.base v).clPolarity),
   (Kv.CL_LMAP.MAP, fun _ _ v s => if s.on Kv.CL_CTRL.LAUTO then s else s.writeReg Kv.CL_LMAP.MAP.base v),
   (Kv.CL_CAS.CTICK, fun _ _ v s => s.writeCas v),
   (Kv.LDG_CTRL.EN, fun _ _ v s => s.writeLdg v),
   (Kv.CRCn_CTRL.EN, fun _ n v s => s.writeCrcCtrl n v),
   (Kv.CRCn_START.START, fun _ n v s => s.writeCrcReg Kv.CRCn_START.START n v),
   (Kv.CRCn_LEN.LEN, fun _ n v s => s.writeCrcReg Kv.CRCn_LEN.LEN n v),
   (Kv.CRCn_SEQ.SEQ, fun _ n v s => s.writeCrcReg Kv.CRCn_SEQ.SEQ n v),
   (Kv.CRCn_RUN.RUN, fun _ n v s => s.writeCrcReg Kv.CRCn_RUN.RUN n v),
   (Kv.MEM_CFG.INIT, fun _ _ v s => s.writeMemCfg v),
   (Kv.MEM_HWIN.BASE, fun _ _ v s => memHwinWriteKv v s),
   (Kv.EVT_MSKm.MSK, fun _ m v s => eventUnmaskKv m v s),
   (Kv.PCI_MSIX_VC.MASK, fun _ n v s => s.writeMsixVc n v),
   (Kv.ETH_PTP.EN, fun _ _ v s => s.ptpWrite v),
   (Kv.SVL_CTRL.EN, fun _ _ v s => s.writeSvlCtrl v),
   (Kv.SVL_REQ.OP, fun _ _ v s => s.writeSvlReq v),
   (Kv.SPn_CTRL.EN, fun _ n v s => s.writeSpCtrl n v),
   (Kv.SPn_PWR.EN, fun _ n v s => s.writeSpPwr n v),
   (Kv.SPn_PCTL.EGO, fun _ n v s => s.writeSpPctl n v),
   (Kv.DSP_CTRL.MREQ, fun _ _ v s => s.writeDspCtrl v),
   (Kv.DSP_OLC.CMD, fun _ _ v s => s.writeOlc v),
   (Kv.DSP_FRCC.CMD, fun _ _ v s => s.writeFrcc v),
   (Kv.SFEn_CTRL.EN, fun _ e v s => if bit v 0 then s.sfeEnable e else sfeDisableKv e s),
   (Kv.SFEn_BANK.SW, fun _ e v s =>
     if bit v 31 then sfeBankSwKv e (bits v 0 16) s else s.writeReg (Kv.SFEn_BANK.SW.addr e 0) v),
   (Kv.SFEn_INJ.EN, fun _ e v s => if bit v 31 then sfeInjEnableKv e v s else s.sfeInjClear e v),
   (Kv.SFEn_IAMP.AMP, fun _ e v s => s.writeInjReg Kv.SFEn_IAMP.AMP e v),
   (Kv.SFEn_ILEN.LEN, fun _ e v s => s.writeInjReg Kv.SFEn_ILEN.LEN e v),
   (Kv.SFEn_IF0.F0, fun _ e v s => s.writeInjReg Kv.SFEn_IF0.F0 e v),
   (Kv.SFEn_IF1.F1, fun _ e v s => s.writeInjReg Kv.SFEn_IF1.F1 e v),
   (Kv.SFEn_TRC.EN, fun _ e v s => s.writeTrc e v),
   (Kv.ACQ_ARM.GO, fun _ _ v s => s.writeAcqArm v),
   (Kv.ACQn_CFG.EN, fun _ n v s => s.acqCfgWrite n v),
   (Kv.ACQn_PTRIG.POST, fun _ n v s => s.writePtrig n v),
   (Kv.ACQn_TRG.KIND, fun _ n v s => s.writeTrg n v),
   (Kv.ACQ_CTRL.GRP, fun _ _ v s => s.writeAcqCtrl v),
   (Kv.DSP_PMSKk.PHASE, fun _ k v s => s.writePmsk k v),
   (Kv.FLT_PENDm.PEND, fun _ m v s => faultAcknowledgeKv m v s),
   (Kv.FLT_SSTn.PEND, fun _ n v s => s.writeSst n v),
   (Kv.FLT_WINn.EN, fun _ n v s => fltWinWriteKv n v s),
   (Kv.FLT_INJ.GO, fun _ _ v s => s.writeInjFlt v),
   (Kv.FLT_FF0.VALID, fun _ _ v s => s.when (bit v 31) firstFaultClearKv),
   (Kv.FLT_LOGP.RP, fun _ _ v s => s.writeLogp v),
   (Kv.IMG_CFG.EN, fun _ _ v s => imgCfgWriteKv v s),
   (Kv.IMG_TLY.TALLY, fun _ _ v s => tallyRequestKv (bits v 16 16) (bits v 0 16) s),
   (Kv.IMG_MBC.SEND, fun _ _ v s => s.writeMbc v)]

/-- The block at an offset is out of service: in STANDBY every block but SYS, SEC, DBG, TIM, FLT and EVT (R559). (DEDUCED: log entry 128.) -/
def Kv.blockOff (s : Kv) (off : Nat) : Bool :=
  s.rd Kv.SYS_PWR.STATE == 2 &&
  !([0x0, 0x2, 0x3, 0x4, 0xC, 0x50, 0x51].contains (off / 0x1000) || decide (0x80000 ≤ off ∧ off < 0x90000))

/-- The check-value engine whose registers hold an offset. -/
def crcOf? (off : Nat) : Option Nat :=
  if Kv.CRCn_CTRL.EN.base ≤ off ∧ off < Kv.CRCn_CTRL.EN.base + 0x100 then some ((off - Kv.CRCn_CTRL.EN.base) / 0x40) else none

/-- A register of a check-value engine that is held takes no write (R478). -/
def Kv.crcBarred (s : Kv) (off : Nat) : Bool := match crcOf? off with | some n => s.crcOwned n | none => false

/-- A master writes word `v` to the register at `off`; `path` is 1 for the host and the cores, 2 for the Probe (R8 to R10, R478, R559). -/
def Kv.regWrite (s : Kv) (path off v : Nat) : Kv :=
  if s.blockOff off || s.crcBarred off then s.regacc 17 off
  else
    match Kv.writers.findSome? (fun w => (w.1.at? off).map (fun p => w.2 path p.1 v)) with
    | some f => f s
    | none =>
      match Kv.ACQn_GDk.SEL.at? off, Kv.ACQn_GXk.LSB.at? off with
      | some (n, k), _ => s.writeGd n k off v
      | _, some (n, k) => s.writeGx n k off v
      | none, none => s.writeReg off v

/-- A master reads the register at `off`: its value, and what the read does: TIM_TICKL latches (R34), SYS_XD accesses (R615). -/
def Kv.regLoad (s : Kv) (off : Nat) : Nat × Kv :=
  if s.blockOff off then (0, s)
  else if off = Kv.SYS_XD.D.base then s.xdRead
  else if off = Kv.TIM_TICKL.TL.base then (s.regRead off, timTicklReadKv s)
  else (s.regRead off, s)

/-! ### The commands -/

/-- REGISTER_WRITE: another master than the host writes a register (R8). The Probe reaches only SEC and DBG until its session is granted
(R554). -/
def registerWriteKv (probe : Bool) (off : Nat) (v : Word) (s : Kv) : Kv :=
  let secDbg := [0x3, 0x4].contains (off / 0x1000)
  if probe && !secDbg && s.rd Kv.DBG_STAT.PATH != 2 then s
  else if !Kv.isReg off then s.regacc 18 off
  else if probe then s.regWrite 2 off v.toNat
  else s.unlessForced (sysRegs + off) 4 (fun s => s.regWrite 1 off v.toNat)

/-- Words of a byte sequence, least significant byte first, each with its offset. -/
def wordsFrom (off : Nat) (l : List Byte) : List (Nat × Nat) :=
  (List.range (l.length / 4)).map (fun k => (off + 4 * k, ofLe ((l.drop (4 * k)).take 4)))

/-- BAR0_WRITE: the host writes `data` at `off`, all byte enables set or not (R484). -/
def bar0WriteKv (off : Nat) (data : List Byte) (whole : Bool) (s : Kv) : Kv :=
  if off % 4 ≠ 0 ∨ data = [] ∨ data.length % 4 ≠ 0 ∨ whole = false then s.pciErr 16
  else (wordsFrom off data).foldl (fun s w =>
    if Kv.isReg w.1 then s.unlessForced (sysRegs + w.1) 4 (fun s => s.regWrite 1 w.1 w.2) else s.regacc 18 w.1) s

/-- BAR0_UNMAPPED_ACCESS: it completes with Unsupported Request status (1) (R484). -/
def bar0UnmappedAccessKv (off : Nat) (s : Kv) : Kv :=
  if Kv.isReg off then s else (s.send ⟨.pcie, 0, [1]⟩).regacc 18 off

/-- DRAM address of an offset of BAR2 (R464). -/
def Kv.bar2Addr (s : Kv) (off : Nat) : Nat := s.rd Kv.MEM_HWIN.BASE * 0x4000000 + off

/-- BAR2_ACCESS: the host writes bytes, or reads `n` of them (R468, R484). (DEDUCED: log entry 128.) -/
def bar2AccessKv (off n : Nat) (w : Option (List Byte)) (s : Kv) : Kv :=
  let a := s.bar2Addr off
  match w with
  | some l => if s.rd Kv.SYS_PWR.STATE = 2 then s.regacc 17 Kv.MEM_HWIN.BASE.base else Kv.forcedBytes l.length a l s
  | none =>
    if s.rd Kv.SYS_PWR.STATE = 2 then s.send ⟨.pcie, 0, 0 :: List.replicate n 0⟩
    else
      match (List.range n).find? (fun i => s.bad (a + i)) with
      | some i => ((s.send ⟨.pcie, 0, [1]⟩).logUnc (a + i)).raiseUnc (a + i) 0
      | none => s.send ⟨.pcie, 0, 0 :: (s.bytesAt a n).map (·.toNat)⟩

end Sys2Proof.Machine
end

