-- ==== Sys2Proof/Machine/CoreExec.lean ====
section
/-! DEFINITION. The Thimir instructions on a core of a KV-9400: its address map, exceptions, dispatch and system instructions
(R287 to R328, R463). -/

namespace Sys2Proof.Machine

/-! ### Exceptions (R325 to R327) -/

/-- An exception: its cause, the fault address (none where it has none), DATA, the TRAP code, and the system address of an
uncorrectable word. -/
structure Exc where
  cause : Nat
  addr : Option Nat := none
  data : Bool := false
  code : Nat := 0
  unc : Option Nat := none
deriving DecidableEq, Repr

/-- Context `c` of core `n` stops on an exception at TL = 1: CORE_DBL, and its item is lost (R327, R344). (DEDUCED: log entry 89.) -/
def Kv.doubleStop (s : Kv) (n c : Nat) : Kv := (s.raise Src.CORE_DBL 0 n).loseItem n c

/-- Context `c` of core `n` takes an exception raised by the instruction at `tpc` (R326, R327). CR_TADDR is a free value where the
exception has no fault address. A vector beyond the instruction SRAM raises FETCH at TL = 1. (DESIGN CHOICE: log entry 31; DEDUCED: log entries 88, 89.) -/
def Kv.takeTrap (s : Kv) (n c : Nat) (tpc : Word) (long : Bool) (e : Exc) : Kv :=
  let s := { (s.count Kv.Cn_XCNT.EXC Kv.Cn_XCNT.SAT Src.SYS_SAT n) with olcDirty := true }
  let s := match e.unc with
    | some a => (s.logUnc a).raise Src.CORE_MEM 0 (memFaultAddr a)
    | none => s
  let x := (s.core n).ctx c
  if x.tl then s.doubleStop n c
  else
    let tbase := (s.core n).tbase
    let ad := e.addr.getD (Config.unstated s.free)
    let s := s.onCore n (fun k => k.setCtx c (x.enterTrap c tbase tpc e.cause e.data long e.code ad))
    let s := { s with free := s.free + 1 }
    if (tbase + BitVec.ofNat 32 (0x40 * e.cause)).toNat < 0x10000 then s else s.doubleStop n c

/-- The context goes on at an address after an effect: with a FETCH exception at it where it is no address of an instruction (R300, R325),
unless the effect has taken the context elsewhere. (DEDUCED: log entry 88.) -/
def Kv.goAfter (s : Kv) (n c : Nat) (x : Ctx) (next : Word) (f : Kv → Kv) : Kv :=
  let y := { x with pc := next.extractLsb' 0 16 }
  let s := f (s.onCore n (fun k => k.setCtx c y))
  if (next.toNat < 0x10000 ∧ next.toNat % 4 = 0) ∨ (s.core n).ctx c ≠ y then s
  else s.takeTrap n c next false { cause := 3, addr := some next.toNat }

/-- The context goes on at an address. (DEDUCED: log entry 88.) -/
def Kv.goOn (s : Kv) (n c : Nat) (x : Ctx) (next : Word) : Kv := s.goAfter n c x next id

/-! ### What a core address reaches (R463) -/

/-- A place in the core's address map: memory that plain loads, stores and ATOM reach, cell arena read most significant byte first, a
register, an engine window; by system address, and by register offset. -/
inductive Place where
  | mem (a : Nat)
  | arena (a : Nat)
  | reg (off : Nat)
  | sfe (a : Nat)
  | none
deriving DecidableEq, Repr

/-- The map of core `n`. -/
def corePlace (n a : Nat) : Place :=
  if 0x100000 ≤ a ∧ a < 0x120000 then .mem (sysDmem n + (a - 0x100000))
  else if 0x1000000 ≤ a ∧ a < 0x13C0000 then .arena (sysArena + (a - 0x1000000))
  else if 0x13C0000 ≤ a ∧ a < 0x1400000 then .mem (sysArena + (a - 0x1000000))
  else if 0x2000000 ≤ a ∧ a < 0x2400000 then .reg (a - 0x2000000)
  else if 0x4000000 ≤ a ∧ a < 0x4800000 then .sfe (sysSfe 0 + (a - 0x4000000))
  else if 0x80000000 ≤ a ∧ a < 0x90000000 then .mem (a - 0x80000000)
  else .none

/-- The fields of a register that a store to only some of its bytes leaves as they are: RW and RWL fields keep their values, all
others are written 0. (DESIGN CHOICE: log entry 91.) -/
def Kv.regKept (s : Kv) (off : Nat) : Nat :=
  Kv.flds.foldl (fun w f =>
    match f.at? off, f.acc with
    | some (i, j), .rw => w + s.rd f i j * 2 ^ f.lo
    | some (i, j), .rwl => w + s.rd f i j * 2 ^ f.lo
    | _, _ => w) 0

/-- A core reads the register at `off`; an unmapped offset is reported, and its value is free (R614). (DESIGN CHOICE: log entry 32.) -/
def Kv.coreRegLoad (s : Kv) (off : Nat) : Nat × Kv :=
  if Kv.isReg off then s.regLoad off else (Config.unstated s.free % 2 ^ 32, ({ s with free := s.free + 1 }).regacc 18 off)

/-- A core loads `m` bytes from the register window. -/
def Kv.winLoad (s : Kv) (off m : Nat) : Nat × Kv :=
  let lo := s.coreRegLoad (off / 4 * 4)
  if m = 8 then
    let hi := lo.2.coreRegLoad (off / 4 * 4 + 4)
    (lo.1 + 2 ^ 32 * hi.1, hi.2)
  else (bits lo.1 (8 * (off % 4)) (8 * m), lo.2)

/-- A core stores `m` bytes to the register window. (DESIGN CHOICE: log entry 91.) -/
def Kv.winStore (s : Kv) (off v m : Nat) : Kv :=
  let w := off / 4 * 4
  let put := fun (s : Kv) (o v : Nat) => if Kv.isReg o then s.regWrite 1 o (v % 2 ^ 32) else s.regacc 18 o
  if m = 8 then put (put s w v) (w + 4) (v / 2 ^ 32)
  else put s w (if m = 4 then v else putBits (s.regKept w) (8 * (off % 4)) (8 * m) v)

/-- What a load of `m` bytes at core address `a` finds: its value and what reading it does, or an exception. -/
def Kv.coreLoad (s : Kv) (n a m : Nat) : Sum (Nat × Kv) Exc :=
  if a % m ≠ 0 then .inr { cause := 4, addr := some a }
  else
    let plain := fun (x v : Nat) => if s.bad x then Sum.inr { cause := 6, addr := some a, data := true, unc := some x } else .inl (v, s)
    match corePlace n a with
    | .mem x => plain x (s.rdLe x m)
    | .arena x => plain x (s.rdBe x m)
    | .sfe x => plain x (s.rdLe x m)
    | .reg off => .inl (s.winLoad off m)
    | .none => .inr { cause := 5, addr := some a }

/-- A store of `m` bytes at core address `a`, through the force table, or an exception (R304). -/
def Kv.coreStore (s : Kv) (n a v m : Nat) (priv : Bool) : Sum (Kv → Kv) Exc :=
  if a % m ≠ 0 then .inr { cause := 4, addr := some a }
  else
    match corePlace n a with
    | .mem x => .inl (fun s => s.forcedStore x v m)
    | .sfe x => .inl (fun s => s.unlessForced x m (fun s => s.sfeStore ((x - sysSfe 0) / 0x200000) ((x - sysSfe 0) % 0x200000) v m))
    | .reg off =>
      if priv then .inl (fun s => s.unlessForced (sysRegs + off) m (fun s => s.winStore off v m)) else .inr { cause := 5, addr := some a }
    | _ => .inr { cause := 5, addr := some a }

/-! ### Trace (R552) -/

/-- One word of the debug trace ring, where core `n` is traced. Its content is not stated. (DESIGN CHOICE: log entry 35.) -/
def Kv.traceWord (s : Kv) (n : Nat) : Kv :=
  if s.on Kv.DBG_TRC.EN && s.rd Kv.DBG_STAT.LEVEL != 0 && bit (s.rd Kv.DBG_TRC.TMASK) n then
    let wp := s.rd Kv.DBG_TRC.WP
    let s := { (s.wr Kv.DBG_TDATAk.D (Config.unstated s.free) wp) with free := s.free + 1 }
    (s.wr Kv.DBG_TRC.WP (wp + 1)).when (wp == 16383) (fun s => s.mark Kv.DBG_TRC.WRAP)
  else s

/-! ### Instructions beyond their context -/

/-- What an instruction comes to: the context goes on at an address and an effect follows; an exception; or everything is done. -/
inductive Did where
  | go (x : Ctx) (next : Word) (f : Kv → Kv)
  | exc (e : Exc)
  | done (s : Kv)

/-- The record bank bound to the item: CR_ITEM.BANK (R291). -/
def Ctx.bank (x : Ctx) : Nat := b2n (x.item.getLsbD 23)

/-- The cell that a cell-record instruction names. -/
def Ctx.cellOf (x : Ctx) (ra : Gpr) : Nat := (x.reg ra).toNat % 8192

/-- CFX (R306): one indivisible read of slot, tick and status word of a bank. -/
def Kv.opCfx (s : Kv) (x : Ctx) (op : Op) (rd ra : Gpr) (lsb : BitVec 8) (w : BitVec 5) (sgn other : Bool) : Did :=
  let width := w.toNat + 1
  let a := recAddr (x.cellOf ra) + 32 * (if other then 1 - x.bank else x.bank)
  if 191 < lsb.toNat + w.toNat then .exc { cause := 7 }
  else
    match (List.range 4).find? (fun i => s.bad (a + 8 * i)) with
    | some i => .exc { cause := 6, addr := some (a + 8 * i - sysArena + 0x1000000), data := true, unc := some (a + 8 * i) }
    | none =>
      let v := bits (s.rdBe a 24) lsb.toNat width
      let r : Word := if sgn then BitVec.ofInt 32 (sx width v) else BitVec.ofNat 32 v
      let y := x.setReg rd r
      .go { y with z := r == 0, n := r.getLsbD 31, c := false, v := !(s.rdByte (a + 28)).getLsbD 7 } (x.after op) id

/-- CLW (R305). (DEDUCED: log entry 92.) -/
def Kv.opClw (s : Kv) (x : Ctx) (op : Op) (rd ra : Gpr) (off : BitVec 8) : Did :=
  let o := off.toNat
  let base := recAddr (x.cellOf ra)
  let a := base + (if o < 0x20 then 32 * x.bank + o else if o < 0x40 then 32 * (1 - x.bank) + (o - 0x20) else o)
  let core := a - sysArena + 0x1000000
  if o % 4 ≠ 0 then .exc { cause := 4, addr := some core }
  else if s.bad a then .exc { cause := 6, addr := some core, data := true, unc := some a }
  else .go (x.setReg rd (BitVec.ofNat 32 (s.rdBe a 4))) (x.after op) id

/-- CSW (R307). (DEDUCED: log entry 92.) -/
def Kv.opCsw (s : Kv) (x : Ctx) (op : Op) (rd ra : Gpr) (off : BitVec 8) : Did :=
  let a := x.cellOf ra
  match s.csw a off.toNat (x.reg rd).toNat with
  | some _ => .go x (x.after op) (fun s => (s.csw a off.toNat (x.reg rd).toNat).getD s)
  | none => .exc { cause := 5, addr := some (0x1000000 + 256 * a + off.toNat) }

/-- Loads (R301). -/
def Kv.opLoad (s : Kv) (n : Nat) (x : Ctx) (op : Op) (fn : LoadFn) (rd ra : Gpr) (v : BitVec 16) : Did :=
  if fn = .d ∧ rd.getLsbD 0 = true then .exc { cause := 1 }
  else
    let a := effAddr x ra v
    match s.coreLoad n a fn.size with
    | .inr e => .exc e
    | .inl r => .go (x.loaded fn rd r.1) (x.after op)
        (fun s => match s.coreLoad n a fn.size with | .inl q => q.2 | .inr _ => s)

/-- Stores (R301, R304). -/
def Kv.opStore (s : Kv) (n : Nat) (x : Ctx) (op : Op) (fn : StoreFn) (rd ra : Gpr) (v : BitVec 16) : Did :=
  if fn = .d ∧ rd.getLsbD 0 = true then .exc { cause := 1 }
  else
    match s.coreStore n (effAddr x ra v) (x.stored fn rd) fn.size x.priv with
    | .inr e => .exc e
    | .inl f => .go x (x.after op) f

/-- The value an ATOM writes; none where CAS fails. -/
def atomNew (fn : AtomFn) (old rb rd : Word) : Option Word :=
  match fn with
  | .swap => some rb
  | .adda => some (old + rb)
  | .anda => some (old &&& rb)
  | .ora => some (old ||| rb)
  | .cas => if old = rd then some rb else none

/-- ATOM (R302). (DEDUCED: log entry 93.) -/
def Kv.opAtom (s : Kv) (n : Nat) (x : Ctx) (op : Op) (fn : AtomFn) (rd ra rb : Gpr) : Did :=
  let a := (x.reg ra).toNat
  if a % 4 ≠ 0 then .exc { cause := 4, addr := some a }
  else
    match corePlace n a with
    | .mem at_ =>
      if s.bad at_ then .exc { cause := 6, addr := some a, data := true, unc := some at_ }
      else
        let old : Word := BitVec.ofNat 32 (s.rdLe at_ 4)
        let new := atomNew fn old (x.reg rb) (x.reg rd)
        let y := x.setReg rd old
        .go (if fn = .cas then { y with z := new.isSome } else y) (x.after op)
          (fun s => match new with | some w => s.forcedStore at_ w.toNat 4 | none => s)
    | _ => .exc { cause := 5, addr := some a }

/-- `m` bytes from core address `a` lie in the core's data SRAM. -/
def inOwnData (a m : Nat) : Bool := decide (0x100000 ≤ a ∧ a + m ≤ 0x120000)

/-- The first uncorrectable word among `m` bytes from core address `a` of the data SRAM of core `n`, as an exception. -/
def Kv.dataBad (s : Kv) (n a m : Nat) : Option Exc :=
  ((List.range (m / 8)).find? (fun i => s.bad (sysDmem n + (a - 0x100000) + 8 * i))).map (fun i =>
    { cause := 6, addr := some (a + 8 * i), data := true, unc := some (sysDmem n + (a - 0x100000) + 8 * i) })

/-- A signed word of the data SRAM of core `n` at core address `a`. -/
def Kv.dataWord (s : Kv) (n a : Nat) : Int := sx 32 (s.rdLe (sysDmem n + (a - 0x100000)) 4)

/-- Both pointers of a DOT form move on. Where both name one register, its new value is not stated and is free. (DESIGN CHOICE: log entry 33.) -/
def Ctx.advance (x : Ctx) (ra rb : Gpr) (da db fr : Nat) : Ctx :=
  if ra = rb then x.setReg ra (BitVec.ofNat 32 fr)
  else (x.setReg ra (x.reg ra + BitVec.ofNat 32 da)).setReg rb (x.reg rb + BitVec.ofNat 32 db)

/-- The four coefficient entries of a DOT4C: coefficient and shift. -/
def Kv.dotEntries (s : Kv) (n a : Nat) : List (Int × Int) :=
  (List.range 4).map (fun i => (s.dataWord n (a + 8 * i), sx 6 (bits (s.rdLe (sysDmem n + (a - 0x100000) + 8 * i + 4) 4) 0 6)))

/-- DOT4 and DOT4C (R313): `c` chooses coefficient entries, whose terms are rounded once each (R314). (DESIGN CHOICE: log entry 33.) -/
def Kv.opDot (s : Kv) (n : Nat) (x : Ctx) (op : Op) (ad : BitVec 3) (ra rb : Gpr) (sh : BitVec 6) (c : Bool) : Did :=
  let a := (x.reg ra).toNat
  let b := (x.reg rb).toNat
  let la := if c then 32 else 16
  if !c && decide (7 < sh.toInt) then .exc { cause := 1 }
  else if a % la ≠ 0 then .exc { cause := 4, addr := some a }
  else if b % 16 ≠ 0 then .exc { cause := 4, addr := some b }
  else if !inOwnData a la then .exc { cause := 5, addr := some a }
  else if !inOwnData b 16 then .exc { cause := 5, addr := some b }
  else
    let es := s.dotEntries n a
    let badSh := c && (List.range 4).any (fun i =>
      !s.bad (sysDmem n + (a - 0x100000) + 8 * i) && decide ((es.getD i (0, 0)).2 < -24 ∨ 7 < (es.getD i (0, 0)).2))
    if badSh then .exc { cause := 7 }
    else
      match (s.dataBad n a la).or (s.dataBad n b 16) with
      | some e => .exc e
      | none =>
        let w := fun (i : Nat) => s.dataWord n (b + 4 * i)
        let sum : Int :=
          if c then (List.range 4).foldl (fun t i => let e := es.getD i (0, 0); t + term (e.1 * w i) (e.2 - 31)) 0
          else (List.range 4).foldl (fun t i => t + term (s.dataWord n (a + 4 * i) * w i) sh.toInt) 0
        let y := x.loadAcc ad ((x.accOf ad).toInt + sum)
        .go (y.advance ra rb la 16 (Config.unstated s.free)) (x.after op) (fun s => { s with free := s.free + 1 })

/-! ### Tick and dispatch (R315 to R323) -/

/-- The instant a TICKWAIT names has come, by the counters (R317). -/
def Kv.waitOver (s : Kv) (x : Ctx) (mode : Bool) (v : Word) : Bool :=
  if mode then s.nsPast x.tick.toNat v.toNat else decide ((s.tick + 2 ^ 32 - v.toNat) % 2 ^ 32 < 2 ^ 31)

/-- The target tick that the low 32 bits `v` name: the nearest to the running tick (R33). -/
def Kv.targetOf (s : Kv) (v : Nat) : Nat :=
  let d := (v + 2 ^ 32 - s.tick % 2 ^ 32) % 2 ^ 32
  if d < 2 ^ 31 then tickPlus s.tick d else tickPlus s.tick (2 ^ 48 + d - 2 ^ 32)

/-- Word `i` of the reference record in 32 bytes of the data SRAM of core `n` at core address `a` (R223). -/
def Kv.refAt (s : Kv) (n a i : Nat) : Nat := s.rdLe (sysDmem n + (a - 0x100000) + 4 * i) 4

/-- A record for target `t` of arm `k` comes too late: its allocator has started, or the latest point for arm references has passed
(R322). -/
def Kv.refLate (s : Kv) (k t : Nat) : Bool :=
  tickDone (s.arm k).started t || tickDone s.dsp.t0Judged (tickPlus t (2 ^ 48 - s.lead))

/-- PUB (R322). (DEDUCED: log entries 92, 103.) -/
def Kv.opPub (s : Kv) (n : Nat) (x : Ctx) (op : Op) (ra rb : Gpr) : Did :=
  let a := (x.reg ra).toNat
  let v := (x.reg rb).toNat
  let kind := bits v 12 4
  let k := bits v 0 4
  let blk := bits v 0 12
  let t0 := x.busy && (x.item.extractLsb' 24 8) == 0#8
  if bits v 16 16 ≠ 0 ∨ 2 ≤ kind ∨ (kind = 0 ∧ bits v 4 8 ≠ 0) then .exc { cause := 1 }
  else if a % 32 ≠ 0 then .exc { cause := 4, addr := some a }
  else if !inOwnData a 32 then .exc { cause := 5, addr := some a }
  else if (kind = 0 ∧ (12 ≤ k ∨ s.usedArms.contains k = false)) ∨ (kind = 1 ∧ s.rd Kv.IMG_CFG.NBLK ≤ blk) then .exc { cause := 7 }
  else
    match s.dataBad n a 32 with
    | some e => .exc e
    | none =>
      if kind = 0 ∧ t0 = false then .exc { cause := 8 }
      else if kind = 1 then
        let d := ofLe (s.bytesAt (sysDmem n + (a - 0x100000)) 32)
        .go x (x.after op) (fun s => ({ s with dsp := { s.dsp with pubs := Tab.set 0 blk d s.dsp.pubs } } : Kv).traceWord n)
      else
        let t := s.targetOf (s.refAt n a 0)
        let late := s.refLate k t
        .go { x with c := late } (x.after op) (fun s =>
          (if late then s else s.putRef k t (s.refAt n a)).traceWord n)

/-- The system range of a LEDG, none where it lies in no place it may (R323). -/
def ledgAddr (n a len : Nat) : Option Nat :=
  if inOwnData a len then some (sysDmem n + (a - 0x100000))
  else if 0x80000000 ≤ a ∧ a + len ≤ 0x90000000 then some (a - 0x80000000)
  else if 0x1000000 ≤ a ∧ a < 0x1200000 ∧ 0xD0 ≤ a % 256 ∧ a % 256 + len ≤ 256 then some (sysArena + (a - 0x1000000))
  else none

/-- LEDG (R323, R386, R395). What marks an item of no task ends with it at once. (DEDUCED: log entries 78, 92.) -/
def Kv.opLedg (s : Kv) (n : Nat) (x : Ctx) (op : Op) (ra rb : Gpr) : Did :=
  let a := (x.reg ra).toNat
  let len := (x.reg rb).toNat
  match (if len = 0 then some 0 else ledgAddr n a len) with
  | none => .exc { cause := 5, addr := some a }
  | some at_ =>
    if a % 8 ≠ 0 ∨ len % 8 ≠ 0 ∨ len = 0 ∨ 4096 < len then .exc { cause := 7 }
    else
      let r : Range := { addr := at_, len := len, task := (x.item.extractLsb' 24 8).toNat, tick := x.tick.toNat, ended := !x.busy }
      .go x (x.after op) (fun s =>
        (if s.duty || s.epochDuty x.tick.toNat then { s with cas := { s.cas with marks := s.cas.marks ++ [r] } } else s).traceWord n)

/-! ### Control registers and system instructions (R289, R324) -/

/-- Control register `num` of context `c` of core `n`; CR_CYC counts clock cycles, which the model does not, and reads free. (DESIGN CHOICE: log entries 6, 34.) -/
def Kv.ctrl (s : Kv) (n c : Nat) (x : Ctx) (num : Nat) : Word :=
  let k := s.core n
  match num with
  | 0 => x.status c
  | 1 => x.tpc
  | 2 => x.twhy
  | 3 => x.taddr
  | 4 => k.tbase
  | 5 => x.item
  | 6 => x.arg
  | 7 => x.tick.extractLsb' 0 32
  | 8 => k.cyc + BitVec.ofNat 32 (Config.unstated s.free)
  | 9 => k.scratch
  | 10 => BitVec.ofNat 32 (n + b2n s.roleB * 64 + b2n s.duty * 128)
  | _ => x.tstat

/-- MFC. -/
def Kv.opMfc (s : Kv) (n c : Nat) (x : Ctx) (op : Op) (rd num : BitVec 5) : Did :=
  if 12 ≤ num.toNat then .exc { cause := 1 }
  else if !x.priv && [1, 2, 3, 4, 9, 11].contains num.toNat then .exc { cause := 2 }
  else .go (x.setReg rd (s.ctrl n c x num.toNat)) (x.after op) (fun s => { s with free := s.free + 1 })

/-- MTC. (DEDUCED: log entry 94.) -/
def Kv.opMtc (s : Kv) (n c : Nat) (x : Ctx) (op : Op) (num ra : BitVec 5) : Did :=
  let v := x.reg ra
  if [5, 6, 7, 10].contains num.toNat || decide (12 ≤ num.toNat) then .exc { cause := 1 }
  else if !x.priv then .exc { cause := 2 }
  else
    let ctx := fun (y : Ctx) => Did.go y (x.after op) id
    let shared := fun (f : CoreSt → CoreSt) => Did.go x (x.after op) (fun s => s.onCore n f)
    match num.toNat with
    | 0 => ctx (x.setStatus v)
    | 1 => ctx { x with tpc := v }
    | 2 => ctx { x with twhy := v &&& 0x1F3F }
    | 3 => ctx { x with taddr := v }
    | 4 => shared (fun k => { k with tbase := v &&& ~~~0x3F })
    | 8 => shared (fun k => { k with cyc := v })
    | 9 => shared (fun k => { k with scratch := v })
    | _ => ctx { x with tstat := (v &&& 0x7F) ||| (x.status c &&& 0x100) }

/-- BREAK (R328): with a session at halt level that may halt now, the core halts behind it; else an exception. (DEDUCED: log entry 95.) -/
def Kv.opBreak (s : Kv) (n c : Nat) (x : Ctx) (op : Op) : Did :=
  if s.rd Kv.DBG_STAT.LEVEL = 2 ∧ s.dbgPermits s.secState 2 = true then .done ((s.goOn n c x (x.after op)).haltCore n)
  else .exc { cause := 10 }

/-- One instruction in context `c` of core `n`. -/
def Kv.opDo (s : Kv) (n c : Nat) (x : Ctx) (op : Op) : Did :=
  match op with
  | .load fn rd ra v => s.opLoad n x op fn rd ra v
  | .store fn rd ra v => s.opStore n x op fn rd ra v
  | .atom fn rd ra rb => s.opAtom n x op fn rd ra rb
  | .cfx rd ra lsb w sgn bank => s.opCfx x op rd ra lsb w sgn bank
  | .clw rd ra off => s.opClw x op rd ra off
  | .csw rd ra off => s.opCsw x op rd ra off
  | .dot4 ad ra rb sh => s.opDot n x op ad ra rb sh false
  | .dot4c ad ra rb => s.opDot n x op ad ra rb 0 true
  | .tickwait ra mode =>
    let v := x.reg ra
    if s.waitOver x mode v then .go { x with c := true } (x.after op) id
    else .done (s.onCore n (fun k => k.setCtx c { x with wait := some (mode, v) }))
  | .post ra =>
    let j := (x.reg ra).toNat
    if 256 ≤ j then .exc { cause := 7 }
    else if !s.on Kv.DSP_CNTj.EN j then .exc { cause := 8 }
    else .go x (x.after op) (fun s => (s.cntDec j x.tick.toNat).traceWord n)
  | .take => .done (s.takeItem n)
  | .yield ra => .done (s.yieldItem n (x.pc + 4) (x.reg ra))
  | .flowend =>
    match (s.core n).item c with
    | some i =>
      let held := match i.flow with | some f => Tab.get 0 f s.dsp.flows == i.task + 1 | none => false
      .go { x with c := held, item := x.item &&& ~~~0x400000 } (x.after op) (fun s => s.freeFlow i)
    | none => .go { x with c := false } (x.after op) id
  | .pub ra rb => s.opPub n x op ra rb
  | .ledg ra rb => s.opLedg n x op ra rb
  | .mfc rd num => s.opMfc n c x op rd num
  | .mtc num ra => s.opMtc n c x op num ra
  | .rtt adv =>
    if !x.tl then .exc { cause := 1 }
    else if !x.priv then .exc { cause := 2 }
    else let y := x.leaveTrap adv; .go y.1 y.2 id
  | .trap code => .exc { cause := 9, code := code.toNat }
  | .brk => s.opBreak n c x op
  | op =>
    match op.pure x with
    | some (.go y next) => .go y next (fun s => if op.takes x then s.traceWord n else s)
    | some (.trap cause addr) => .exc { cause := cause, addr := addr }
    | none => .exc { cause := 1 }

/-- The context that core `n` runs may issue. (DEDUCED: log entry 86.) -/
def Kv.issues (s : Kv) (n : Nat) : Bool :=
  let x := (s.core n).ctx (s.ctxOf n)
  (x.busy || x.boot) && x.wait.isNone && !x.stopped && decide (n < 16)

/-- The instruction `op` (none: a reserved encoding), of the long format or not, in the running context of core `n`, whether or not the
core is halted (R295, R325). (DEDUCED: log entry 87.) -/
def Kv.runOp (s : Kv) (n : Nat) (op : Option Op) (long : Bool) : Kv :=
  if !s.issues n then s
  else
    let c := s.ctxOf n
    let x := (s.core n).ctx c
    let here : Word := x.pc.zeroExtend 32
    let at_ := sysImem n + x.pc.toNat
    let trap := fun (e : Exc) => s.takeTrap n c here long e
    if long && x.pc == 0xFFFC#16 then trap { cause := 3, addr := some 0xFFFC }
    else if s.bad at_ then trap { cause := 6, addr := some x.pc.toNat, unc := some at_ }
    else if long && s.bad (at_ + 4) then trap { cause := 6, addr := some (x.pc.toNat + 4), unc := some (at_ + 4) }
    else
      match op with
      | none => trap { cause := 1 }
      | some o =>
        match s.opDo n c x o with
        | .go y next f => s.goAfter n c y next f
        | .exc e => trap e
        | .done t => t

/-- A word of the instruction SRAM of core `n`. -/
def Kv.codeWord (s : Kv) (n pc : Nat) : Word := BitVec.ofNat 32 (s.rdLe (sysImem n + pc) 4)

/-- The PC of the running context of core `n`. -/
def Kv.pcOf (s : Kv) (n : Nat) : Nat := ((s.core n).ctx (s.ctxOf n)).pc.toNat

/-- The word at the PC of core `n` is of the long format. -/
def Kv.longAt (s : Kv) (n : Nat) : Bool := isLongWord (s.codeWord n (s.pcOf n))

/-- Halted cores that were told to step do so: each executes the instruction at its PC (R556). -/
def Kv.runSteps (s : Kv) : Kv :=
  s.each ((List.range 16).filter (fun n => (s.core n).stepOk)) (fun s n =>
    let s := s.onCore n (fun k => { k with stepOk := false })
    s.runOp n (decodeOp (s.codeWord n (s.pcOf n)) (s.codeWord n (s.pcOf n + 4))) (s.longAt n))

/-- An instruction command on core `n`: a core that is not halted executes it. (DESIGN CHOICE: log entry 13; DEDUCED: log entry 86.) -/
def opKv (n : Nat) (op : Op) (s : Kv) : Kv := if s.coreHalted n then s else (s.runOp n (some op) op.isLong).runSteps

/-- ILLEGAL_INSTRUCTION: core `n` fetches word `w`, followed by `imm`, which no instruction spells (R294). -/
def illegalInstructionKv (n : Nat) (w imm : Word) (s : Kv) : Kv :=
  if s.coreHalted n || (decodeOp w imm).isSome then s else s.runOp n none (isLongWord w)

/-- CORE_STEP: DBG_CORE.CMD = STEP (R556). -/
def coreStepKv (path mask : Nat) (s : Kv) : Kv := (s.coreCmd path mask (fun s => s.stepCores mask)).runSteps

/-- TICKWAIT_COMPLETE: the instant that the running context of core `n` waits for has come, by the tick or the nanosecond
counter (R317). -/
def tickwaitCompleteKv (n : Nat) (s : Kv) : Kv :=
  let c := s.ctxOf n
  let x := (s.core n).ctx c
  match x.wait with
  | some (mode, v) =>
    if s.coreHalted n || x.stopped || !s.waitOver x mode v then s
    else s.goOn n c { x with wait := none, c := false } (x.pc.zeroExtend 32 + 4)
  | none => s

/-! ### Uncorrectable reads (R468) -/

/-- The address at which core `n` sees system address `a` (R463). -/
def Kv.coreAddr (s : Kv) (n a : Nat) : Nat :=
  if sysImem n ≤ a ∧ a < sysImem n + 0x10000 then a - sysImem n
  else if sysDmem n ≤ a ∧ a < sysDmem n + 0x20000 then a - sysDmem n + 0x100000
  else if s.inDram a then a + 0x80000000
  else if sysSfe 0 ≤ a then a - sysSfe 0 + 0x4000000
  else a - sysArena + 0x1000000

/-- MEMORY_READ_UNCORRECTABLE: a read at system address `a` finds a word uncorrectable, by the symbols `e` or by those that stand in it, and
its master does as R468 says. An engine and a check-value engine meet the word in their own scan. -/
def memoryReadUncorrectableKv (m : Master) (e a : Nat) (s : Kv) : Kv :=
  if !(s.inDram a || (inSram a && !inRegs a)) || !(s.bad a || decide (2 ≤ symbols (s.sought a e))) then s
  else
    let s := (if s.bad a then s else s.setErrs a e).logUnc a
    match m with
    | .core m =>
      let n := m.toNat
      if s.issues n && !s.coreHalted n then
        let c := s.ctxOf n
        let x := (s.core n).ctx c
        let fetch := decide (sysImem n ≤ a ∧ a < sysImem n + 0x10000)
        let e : Exc := { cause := 6, addr := some (s.coreAddr n a), data := !fetch, unc := some a }
        s.takeTrap n c (x.pc.zeroExtend 32) (s.longAt n) e
      else s
    | .sfe => s
    | .crc => s
    | .record => s.raise Src.SRAM_UNC 0 (memFaultAddr a)
    | .other => s.raiseUnc a 0
    | .host => (s.send ⟨.pcie, 0, [1]⟩).raiseUnc a 0

end Sys2Proof.Machine
end

