-- ==== Sys2Proof/Machine/State.lean ====
section
/-! DEFINITION. The state of the chip set: both KV-9400s, the KF-120, the KC-60s by cell address, and the commands that wait. -/

namespace Sys2Proof.Machine

/-- The chip set. -/
structure State where
  /-- KV-9400 A and B (R2) -/
  a : Kv
  b : Kv
  /-- the KF-120 (R2) -/
  kf : Kf
  /-- the KC-60s, by string × 256 + position (R18, R26); an unlisted one is without power and as it left the factory -/
  cells : Tab Cell
  /-- commands waiting, first in, first out -/
  pending : List Instr
deriving DecidableEq, Repr

/-- Why the model stops with a fault: never. The spec gives every command its effect, and what a part refuses it reports itself. -/
inductive Fault : Type
deriving DecidableEq, Repr

/-- Why the model has no meaning for a command. -/
inductive Refusal where
  /-- Raised by an arm of `exec` whose command has no meaning yet. Safe: nothing is claimed of it. -/
  | notModelled (mnemonic : String)
deriving DecidableEq, Repr

/-- What a command answers. -/
abbrev Result : Type := Host.Outcome State Fault Refusal

/-- The chip set after a power-on reset: both chips released from reset at the beginning of PHASE 0 (R569, R572), the KF-120
in reset until its supply rises above 17.0 V (R516), no module powered (R147), nothing pending. -/
def State.reset : State :=
  { a := Kv.atReset false, b := Kv.atReset true, kf := Kf.atReset, cells := [], pending := [] }

end Sys2Proof.Machine
end

