-- ==== Sys2Proof/Machine/Tick.lean ====
section
/-! DEFINITION. TICK_BOUNDARY: a new tick begins on a KV-9400 (R35, R45, R100 to R107, R336 to R339, R356, R370, R378, R392, R577). -/

namespace Sys2Proof.Machine

/-! ### Frames (R99 to R112) -/

/-- A port held in start-up mode has trained: it takes frames in that mode from TRAIN on (R61, R91). (DESIGN CHOICE: log entry 168.) -/
def Kv.nrzReady (s : Kv) (n : Nat) : Bool :=
  s.on Kv.SPn_CTRL.NRZ n && s.rd Kv.SPn_STAT.LSTATE n == lTrain && s.on Kv.SPn_STAT.ALOCK n && decide (16 ≤ (s.spP n).hop.readyRun)

/-- The port takes part in the frames that leave now: in service, with its transmitter on and out of bring-up (R71, R88). (DEDUCED: log entry 49.) -/
def Kv.spSends (s : Kv) (n : Nat) : Bool :=
  s.on Kv.SPn_CTRL.EN n && s.on Kv.SPn_CTRL.TXEN n &&
    (s.rd Kv.SPn_STAT.LSTATE n == lUp || s.rd Kv.SPn_STAT.LSTATE n == lHunt || s.nrzReady n)

/-- String `n` is in discovery: at A only while no valid header of the last 16 ticks carried MODE RUN or DUTY = 1 (R577). (DEDUCED: log entry 51.) -/
def Kv.discovers (s : Kv) (n : Nat) : Bool :=
  s.boot.run && s.rd Kv.SYS_STAT.PHASE == 4 && !s.boot.disc && (s.roleB || decide (16 ≤ (s.spP n).quietRun))

/-- Header MODE on string `n` (R107). -/
def Kv.headMode (s : Kv) (n : Nat) : Nat :=
  if s.rd Kv.SYS_PWR.STATE = 0 then 1 else if s.on Kv.SPn_CTRL.TEST n && !s.discovers n then 2 else 0

/-- Delay of the first hop at a string port, and the turnaround stamp (R44). (DESIGN CHOICE: log entry 150.) -/
def SpPort.hopDelay (p : SpPort) : Int := hopHalf p.meas
def SpPort.turn (p : SpPort) : Int :=
  match p.sentPrev, p.recvPrev with
  | some a, some b => sx 36 (toBits 36 ((a : Int) - b))
  | _, _ => 0

/-- The counter in the SerDes region of string port `n` (R27, R52). -/
def Kv.replicaOf (s : Kv) (n : Nat) : Replica := if n < 16 then s.tim.west else s.tim.east

/-- The instant, from B(n) in 1/16 ns of the port's internal time reference, at which the frame launched now on string `n` begins: the REFCLK
edge, then the first transmit block boundary at or after it (R45). The block phase is open. (DESIGN CHOICE: log entry 37.) -/
def Kv.launchRef (s : Kv) (n : Nat) : Nat :=
  let edge := ((s.replicaOf n).ns - (s.tim.bn.setWidth 64 <<< 32)).toNat / 2 ^ 28
  edge + Config.unstated s.free % (s.blockTime n * 16 / 10 + 1)

/-- LOFS of that frame: the factory latency and that of the transceiver added, at the port's optical output (R45, R89). A time beyond the
field's range is open. (DESIGN CHOICE: log entry 37.) -/
def Kv.launchOfs (s : Kv) (n : Nat) : Nat :=
  let t := s.launchRef n + Config.portLaunch n + s.rd Kv.SPn_XLAT.TXL n
  if t < 1024 then t else Config.unstated (s.free + 1) % 1024

/-- The header of the frame of the running tick on string `n` (R45, R103, R114, R375, R443, R446, R498, R577). (DESIGN CHOICE: log entry 37; DEDUCED: log entry 51.) -/
def Kv.frameHeader (s : Kv) (n : Nat) : Header :=
  let f := s.tick
  let p := s.spP n
  let nmod := if s.discovers n then 0 else s.rd Kv.SPn_GEOM.NMOD n
  let k := s.tim.sprdK
  let master := s.rd Kv.ACQ_CTRL.MSTR
  let treq := match s.col.tallyOf with | some (no, tt) => if s.rd Kv.IMG_TSTAT.STATE = 1 ∧ tickAhead f tt = true then some (no, tt) else none | none => none
  { str := BitVec.ofNat 5 n, origin := if s.roleB then 1 else 0, duty := s.dutyBit f
    mode := BitVec.ofNat 2 (s.headMode n), layout := s.on Kv.SP_LEAD.LAYOUT, carry := BitVec.ofNat 2 (s.rd Kv.SP_LEAD.CARRY)
    disc := s.discovers n && !s.roleB, nmod := BitVec.ofNat 9 nmod
    cseq := BitVec.ofNat 16 (s.rd Kv.CL_CASST.CSEQ), holdn := BitVec.ofNat 4 (s.rd Kv.SP_LEAD.HOLDN), tickno := s.tim.tick
    ticktime := s.tim.bn, sk := BitVec.ofNat 4 k, sph := BitVec.ofNat 3 (f % k), spen := s.tim.sprdEn
    tlen := BitVec.ofNat 13 s.tim.len, lofs := BitVec.ofNat 10 (s.launchOfs n), pd := BitVec.ofNat 20 (max 0 p.hopDelay).toNat
    turn := BitVec.ofInt 22 p.turn, asym := BitVec.ofInt 16 p.asym, hop := 0
    lpos := if !s.roleB then 0x1FF else if nmod = 0 then 0x1FE else BitVec.ofNat 9 nmod
    lhop := 0, lrx := s.rd Kv.SPn_STAT.LSTATE n == lUp, foldp := 0x1FF, barm := s.rd Kv.ACQn_STAT.STATE master == 1
    bfire := s.bfireAt == some f, treq := treq.isSome
    tally := BitVec.ofNat 16 ((treq.map Prod.fst).getD 0), ttick := BitVec.ofNat 11 ((treq.map Prod.snd).getD 0), hcrc := 0 }

/-- FRAME_LAUNCH on string `n`: the header leaves, LEASE shows its DUTY, and its departure from the port's time reference is kept for the hop
measurement, which takes the latencies off (R44, R45, R89, R400). -/
def Kv.launch (s : Kv) (n : Nat) : Kv :=
  let s := s.onSp n (fun p => { p with sentPrev := p.sent, recvPrev := p.recv, sent := none, recv := none, launched := none })
  if s.spSends n then
    let h := (s.frameHeader n).seal n true
    let r := s.launchRef n
    let s := s.wr Kv.CL_CASST.LEASE (b2n h.duty)
    let s := s.onSp n (fun p => { p with sent := some (16 * h.ticktime.toNat + r), launched := some h })
    { s.putHeader n h with free := s.free + 2 }
  else s

/-- MODE of a command slot that the port itself writes while the header announces PARKED or TEST (R107, R576), with its SIDE. (DEDUCED: log entry 55.) -/
def Kv.parkedMode (s : Kv) (a : Nat) (h : Header) : Nat × Nat :=
  if h.mode ≠ 2 then (0, 0)
  else
    match ctlOvr (s.ctl0 a) with
    | 1 => (0, 0)
    | 3 => (3, armingCode a)
    | 4 => (4, 0)
    | _ => (2, 0)

/-- The command slot of cell `a` in the frame of header `h` on string `n` (R102, R107, R108, R117). (DEDUCED: log entry 55.) -/
def Kv.commandSlot (s : Kv) (n a : Nat) (h : Header) : Nat :=
  let t := h.target
  let placed := s.placed a t
  let body : Option Nat :=
    if h.mode = 1 then placed
    else
      let m := s.parkedMode a h
      let bcmd := match placed with | some c => cBcmd c | none => 0
      let side := if m.1 = 3 then m.2 else match placed with | some c => if bcmd = 1 then cSide c else 0 | none => 0
      some (cmdSlot t m.1 0 0 0 0 0 bcmd side)
  match body with
  | some c =>
    let endo := !s.duty && !h.duty && Tab.get 0 (n * 8 + t % 8) s.col.endorsed == t + 1
    let w := c + b2n h.duty * 2 ^ 74 + b2n endo * 2 ^ 73 + b2n (bit h.cseq.toNat 0) * 2 ^ 72
    sealSlot 104 (w / 2 ^ 24) a t
  | none => voidSlot 104 a t

/-- The rest of the frame launched on string `n`: void report slots and command slots in the order of LAYOUT, and the trailer (R99, R100,
R102, R110). With it a port that has left service is quiet (R88). (DEDUCED: log entry 54.) -/
def Kv.sendCommands (s : Kv) (n : Nat) : Kv :=
  match (s.spP n).launched with
  | some h =>
    let f := h.tickno.toNat
    let s := s.putSlots n
      (h.sections 32 (fun p => some (voidSlot 168 (n * 256 + p) f)) (fun p => some (s.commandSlot n (n * 256 + p) h)))
    let t : Trailer := { cfire := false, fpos := 0, evtany := false, nlive := 0, tcrc := 0 }
    let s := s.putTrailer n (t.seal n f true)
    let s := s.onSp n (fun p => { p with launched := none, txOut := s.on Kv.SPn_CTRL.TXEN n })
    s.when (!s.on Kv.SPn_CTRL.EN n) (fun s => s.spTest n)
  | none => s

/-- What ends with a tick on every string: the endorsement of its target tick is settled, and its command section has left (R382). (DEDUCED: log entries 54, 81.) -/
def Kv.endFrames (s : Kv) : Kv :=
  let t := tickPlus s.tick (s.rd Kv.SP_LEAD.CARRY)
  let s := s.when (s.rd Kv.SYS_PWR.STATE == 0) (fun s => s.settleEndorse t 0)
  s.each (List.range 32) Kv.sendCommands

/-! ### String ports (R130, R139, R577, R578) -/

/-- The discovered count that the ended tick gave on string `n`, plus 1; 0 where it gave none. (DEDUCED: log entry 52.) -/
def Kv.countSeen (s : Kv) (n : Nat) : Nat :=
  let p := s.spP n
  if p.liveSeen then s.rd Kv.SPn_GEOM.NLIVE n + 1
  else if p.fold && !s.roleB then s.rd Kv.SPn_FOLD.FPOS n + 2 else 0

/-- Port `n` at a boundary: what the last tick showed, discovery, and on an enabled port SP_LATE on the first delay beyond the limit (R130, R141). A
tick in which no header came counts on. (DEDUCED: log entries 170, 174.) -/
def Kv.portBoundary (s : Kv) (n : Nat) : Kv :=
  let p := s.spP n
  let seen := s.countSeen n
  let changed := seen != 0 && seen != p.found
  let phase := s.rd Kv.SYS_STAT.PHASE
  let back := changed && p.found != 0 && s.boot.run && (phase == 5 || phase == 6) && s.mapped n
  let late := if s.on Kv.SPn_CTRL.EN n then !s.delayFits n (s.rd Kv.SPn_PDLY.P n) else p.late
  let s := (s.wr Kv.SPn_FOLD.FOLDED (b2n p.fold) n).wr Kv.SPn_FOLD.RELAY (b2n p.relay) n
  let s := s.onSp n (fun p => { p with
    rxTick := if p.came then p.rxTick else p.rxTick.map (tickPlus · 1), came := false
    foldLast := p.fold, fold := false, relay := false, liveSeen := false, late := late, quietRun := min 16 (p.quietRun + 1)
    found := if changed then seen else p.found
    foundRun := if changed then 1 else if seen != 0 then p.foundRun + 1 else p.foundRun })
  let s := s.when (late && !p.late) (fun s => s.raise Src.SP_LATE 0 n)
  s.when back (fun s => s.bootEnter 4)

/-! ### Time (R35 to R39) -/

/-- The chip steers to the other one: as standby of a duty, or as role B before any token (R37, R575). (DEDUCED: log entry 47.) -/
def Kv.steered (s d : Kv) : Bool := !s.duty && (d.duty || s.roleB) && s.on Kv.CL_STAT.UP

/-- The time of a boundary: a step to the other chip's time the first time the chip aligns, else the next tick; before it the
standby's measurement, and while aligned the duty's settings (R37, R38). STBY shows whether CL0 steers the time base (R58). (DEDUCED: log entry 47.) -/
def Kv.timeBoundary (s d : Kv) (meas : Option ClStamps) : Kv :=
  if s.steered d then
    let s := s.mark Kv.TIM_STAT.STBY
    let s := match meas with | some m => s.measureOffset m | none => s
    if !s.tim.stepped then s.stepTo d
    else (s.when (s.on Kv.TIM_STAT.ALIGNED) (fun s => s.copySettings d)).advanceTick
  else
    let s := s.wr Kv.TIM_STAT.STBY 0
    let s := match meas with | some m => { s with tim := s.tim.measureLink m } | none => s
    (s.when (!s.duty && !s.on Kv.CL_STAT.UP) Kv.notAligned).advanceTick

/-! ### Program (R336 to R339, R421, R427) -/

/-- PROGRAM_MODE_CHANGE at B(n): a request for this tick, and over it the STOP of a level-4 reaction (R336, R337, R418, R421). -/
def Kv.modeBoundary (s : Kv) (n : Nat) : Kv :=
  let s := match s.dsp.modeReq with
    | some (m, t) =>
      if tickAhead n t then s
      else { (s.wr Kv.DSP_STAT.MODE m).wr Kv.DSP_STAT.PEND 0 with dsp := { s.dsp with modeReq := none } }
    | none => s
  if s.stopNext then { s.wr Kv.DSP_STAT.MODE 0 with stopNext := false } else s

/-- CYCLIC_RELEASE: the P tasks whose period and phase match (R338). -/
def Kv.cyclicReleases (s : Kv) (n : Nat) : Kv :=
  s.each ((List.range 63).map (· + 1)) (fun s k =>
    let per := s.rd Kv.DSP_PCFGk.PERIOD k
    let ph := s.rd Kv.DSP_PMSKk.PHASE k
    if per ≠ 0 ∧ ((n : Int) - ph) % per = 0 then s.releaseTask k n else s)

/-- Event releases of a boundary: the duty's own, which it also sends to the standby; the standby's from those messages. Without MEN
the event bit clears itself at the release (R339, R427). (DEDUCED: log entry 44; DESIGN CHOICE: log entry 45.) -/
def Kv.eventReleases (s : Kv) (n : Nat) : Kv :=
  let own := s.evRelease
  let tasks := own.map (fun src => s.rd Kv.EVT_RTn.ETASK src)
  let s := s.each own (fun s src => s.when (!s.on Kv.EVT_RTn.MEN src) (fun s => s.setEvPend src false))
  let s := { s with evRelease := [] }
  if s.duty then
    let s := s.when (!tasks.isEmpty) (fun s => s.castleSend 0x06 (n :: tasks))
    s.each tasks (fun s k => s.releaseTask (64 + k % 32) n)
  else
    let due := s.dsp.evrel
    ({ s with dsp := { s.dsp with evrel := [] } } : Kv).each due (fun s k => s.releaseTask (64 + k % 32) n)

/-- Overrides whose target tick has begun without a placement of theirs are shown in the record all the same (R418, R420). (DEDUCED: log entry 43.) -/
def Kv.lateOverrides (s : Kv) (n : Nat) : Kv :=
  let due := (s.ovrAt.filter (fun e => !tickAhead n (e.2 - 1))).map Prod.fst
  s.each due (fun s a => { s.overrideCell a with ovrAt := Tab.set 0 a 0 s.ovrAt })

/-! ### Castling, ledger, health (R378, R390 to R395, R403) -/

/-- One tick of the runs and of the health period that ended. -/
def Kv.runsBoundary (s : Kv) : Kv :=
  let c := s.cas
  let ofs := (sx 24 (s.rd Kv.TIM_ALIGN.OFS)).natAbs
  let un := s.served.any (fun n => !bit c.wasEndorsed n)
  { s with cas := { c with
      pathRun := min 64 (c.pathRun + 1), missRun := min 64 (c.missRun + 1), period := c.period + 1
      nrdy := c.nrdy + b2n (!s.on Kv.CL_RDY.READY), unt := c.unt + b2n un, amax := max c.amax ofs
      lagm := max c.lagm (s.rd Kv.LDG_STAT.LAG) } }

/-- Ticks of one sweep round: one second (R390). (DEDUCED: log entry 83.) -/
def Kv.sweepLen (s : Kv) : Nat := (1000000000 + s.tickNs / 2) / s.tickNs

/-- SWEEP of the records that fall to this tick of the round, class 2 behind the other messages of the boundary; a round in full counts towards a
resync (R379, R390, R391). (DEDUCED: log entry 83.) -/
def Kv.sweepBoundary (s : Kv) : Kv :=
  if !s.ldgSource || s.al.passed == 0 then s
  else
    let cells := s.occupied
    let len := s.sweepLen
    let k := cells.length
    let j := s.cas.sweep
    let lo := (j * k + len - 1) / len
    let hi := ((j + 1) * k + len - 1) / len
    let s := s.each ((cells.drop lo).take (hi - lo)) (fun s a =>
      s.unlessBad (s.badWords (recAddr a + 0x60) 112 ++ s.badWords (recAddr a + 0x54) 4) (fun s =>
        s.castleSend 0x0A (a :: (s.al.passed - 1) ::
          (s.bytesAt (recAddr a + 0x60) 112 ++ s.bytesAt (recAddr a + 0x54) 4).map (·.toNat))))
    if len ≤ j + 1 then ({ s with cas := { s.cas with sweep := 0, sweepRound := true } } : Kv).resyncDone
    else { s with cas := { s.cas with sweep := j + 1 } }

/-- The STATE message of this boundary; a missed epoch is named once (R378, R389). -/
def Kv.sendState (s : Kv) : Kv :=
  if !s.on Kv.CL_STAT.UP then s
  else
    let id := match s.dsp.img with | some i => (i.ident.toNat, i.version.toNat) | none => (0, 0)
    let m := match s.cas.missed with | some k => k + 1 | none => 0
    let s := s.castleSend 0x01 [s.tick, b2n s.roleB, b2n s.duty, s.rd Kv.CL_CASST.CSEQ, b2n (s.on Kv.CL_RDY.READY),
      b2n (s.on Kv.CL_RDY.ABLE), s.rd Kv.CL_RDY.COND, id.1, id.2, s.mode, m, s.rd Kv.IMG_GENL.GEN, s.rd Kv.IMG_GENH.GEN, s.hst.pubTick]
    { s with cas := { s.cas with missed := none } }

/-- PSTATE ACCEPTED comes with the boundary after ACCEPT (R395). -/
def Kv.acceptBoundary (s : Kv) : Kv :=
  if s.cas.accepted && s.rd Kv.CL_CASST.PSTATE == 1 then
    { s.wr Kv.CL_CASST.PSTATE 2 with cas := { s.cas with accepted := false } }
  else s

/-- Heartbeat and CMD of this boundary (R370, R534, R545). -/
def Kv.svlBoundary (s : Kv) : Kv :=
  if s.secState = 3 ∨ s.on Kv.SVL_CTRL.EN = false then s
  else ({ s.send ⟨.heartbeat, 0, s.heartbeat⟩ with cas := { s.cas with released := s.release } } : Kv).sendCmd false

/-! ### The boundary -/

/-- TICK_BOUNDARY: `d` is the other chip, `meas` what the chip captured on CL0 in the ended tick. While REFCLK is
missing no boundary comes (R54); in STANDBY only time goes on (R559). (DEDUCED: log entries 4, 46.) -/
def tickBoundaryKv (d : Kv) (meas : Option ClStamps) (s : Kv) : Kv :=
  if s.on Kv.TIM_STAT.REFLOSS then s
  else if s.boot.inReset || s.rd Kv.SYS_PWR.STATE == 2 then (s.wr Kv.TIM_STAT.STBY 0).notAligned.advanceTick
  else
    let t := 100 * s.tim.len
    let s := (s.endFrames.fillLines t).castleTime t
    let s := (s.each (List.range 32) Kv.portBoundary).each (List.range 4) Kv.crcOn
    let s := mappingStaleKv (s.runsBoundary.timeBoundary d meas).windowsEnd
    let s := { s with col := { s.col with cellMsgs := 0 } }
    let n := s.tick
    let s := (s.castleAt n).acceptBoundary.modeBoundary n
    let s := s.each (List.range 4) (fun s e => (s.sfeSwitch e n).sfeSchedule e n)
    let s := ((s.forcesAt n).olcBoundary.lateOverrides n).evalReady
    let s := ((s.cyclicReleases n).eventReleases n).t0Try
    let s := ((s.acqBoundary n).imgBoundary n).tallyLatch n
    let s := s.sendState.sweepBoundary.svlBoundary
    s.each (List.range 32) Kv.launch

end Sys2Proof.Machine
end

