-- ==== Sys2Proof/Machine/Parts.lean ====
section
/-! DEFINITION. How a command reaches a part of the chip set. What a part sends is collected anew with each command given to it. -/

namespace Sys2Proof.Machine

/-- The other chip. -/
def Chip.other : Chip → Chip
  | .a => .b
  | .b => .a

/-- It is chip B. -/
def Chip.isB : Chip → Bool
  | .a => false
  | .b => true

/-- A chip of the pair. -/
def State.chip (s : State) : Chip → Kv
  | .a => s.a
  | .b => s.b

/-- The state with a chip replaced. -/
def State.setChip (s : State) (c : Chip) (k : Kv) : State :=
  match c with
  | .a => { s with a := k }
  | .b => { s with b := k }

/-- The module at a place of a string. -/
def State.cell (s : State) (a : BitVec 13) : Cell := Tab.get {} a.toNat s.cells

/-- A command on a chip, also while it is held in reset. (DEDUCED: log entry 4.) -/
def State.onKvAlways (s : State) (c : Chip) (f : Kv → Kv) : State := s.setChip c (f { s.chip c with out := [] })

/-- A command on a chip: one that is held in reset takes none (R569). (DESIGN CHOICE: log entry 3; DEDUCED: log entry 4.) -/
def State.onKv (s : State) (c : Chip) (f : Kv → Kv) : State :=
  s.onKvAlways c (fun k => if k.boot.inReset then k else f k)

/-- A command on a module. (DESIGN CHOICE: log entry 3.) -/
def State.onCell (s : State) (a : BitVec 13) (f : Cell → Cell) : State :=
  { s with cells := Tab.upd {} a.toNat (fun x => f { x with out := [] }) s.cells }

/-- A command on the KF-120. (DESIGN CHOICE: log entry 3.) -/
def State.onKf (s : State) (f : Kf → Kf) : State := { s with kf := f { s.kf with out := [] } }

/-- A command on a core of a chip, or on a cell core. -/
def State.onCoreBy (s : State) (r : CoreRef) (f : Nat → Kv → Kv) (g : Cell → Cell) : State :=
  match r with
  | .kv c n => s.onKv c (f n.toNat)
  | .cell a => s.onCell a g

/-- A core executes an instruction. -/
def State.onCore (s : State) (r : CoreRef) (op : Op) : State := s.onCoreBy r (fun n => opKv n op) (opCell op)

/-- A command on a part with a key store. -/
def State.onPart (s : State) (p : Part) (f : Kv → Kv) (g : Cell → Cell) : State :=
  match p with
  | .chip c => s.onKv c f
  | .cell a => s.onCell a g

/-- The path of a debug request: 1 the host of a chip or the side channel of a module, 2 the Probe (R554). (DESIGN CHOICE: log entry 146.) -/
def pathOf (probe : Bool) : Nat := if probe then 2 else 1

/-- A step of the state machine of a hop end (R71). -/
def State.onHop (s : State) (h : HopEnd) (f : HopStep) : State :=
  match h with
  | .sp c n => s.onKv c (fun k => k.spStep n.toNat f)
  | .cl c n => s.onKv c (fun k => k.clStep n.toNat f)
  | .opt a p => s.onCell a (fun x => x.optStep p f)

/-- An error injection started at a hop end (R80). -/
def State.onInject (s : State) (h : HopEnd) : State :=
  match h with
  | .sp c n => s.onKv c (errorInjectSp n.toNat)
  | .cl c n => s.onKv c (errorInjectCl n.toNat)
  | .opt a p => s.onCell a (fun x => x.optStep p injectStep)

/-- A lock lost in the middle of a frame (R70). A castle lane carries no frame. -/
def State.onMidFrame (s : State) (h : HopEnd) (blk : Nat) (part : Option Header) : State :=
  match h with
  | .sp c n => s.onKv c (midFrameLockLossSp n.toNat)
  | .cl .. => s
  | .opt a p => s.onCell a (midFrameLockLossCell p blk part)

/-- A FORCE message arrives at chip `c`; one that the standby takes in time marks the change at its sender as arrived (R356). (DEDUCED: log entry 104.) -/
def State.forceMessage (s : State) (c : Chip) (e : Envelope) (x : FrcChange) : State :=
  let taken := (s.chip c).on Kv.CL_STAT.UP && e.ok && !(s.chip c).boot.inReset && !(s.chip c).duty && (s.chip c).forceInTime x
  let t := s.onKv c (forceMessageKv e x)
  if taken then t.setChip c.other ((t.chip c.other).forceMarked x) else t

/-- The sink shows the lag that the source counts, a resync that it makes, and SYNC once the source has it and every epoch up to the last of the
resync has been applied (R388, R391, R402). (DEDUCED: log entry 79.) -/
def Kv.mirrorLedger (k src : Kv) : Kv :=
  if k.ldgSink && src.ldgSource then
    let k := k.wr Kv.LDG_STAT.LAG (src.rd Kv.LDG_STAT.LAG)
    let done := src.on Kv.LDG_STAT.SYNC && tickDone k.cas.epochDone (src.cas.rsyEpoch - 1)
    let k := k.wr Kv.LDG_STAT.RSY (b2n (src.on Kv.LDG_STAT.RSY || (k.on Kv.LDG_STAT.RSY && !done)))
    k.when done (fun k => k.mark Kv.LDG_STAT.SYNC)
  else k

/-- EPOCHEND arrives at chip `c` (R386). (DEDUCED: log entry 79.) -/
def State.epochEnd (s : State) (c : Chip) (e : Envelope) (n count bytes crc : Nat) : State :=
  s.onKv c (fun k => (epochendMessageKv e n count bytes crc k).mirrorLedger (s.chip c.other))

/-- An uncorrectable word met by a master (R468). -/
def State.onReadBy (s : State) (r : ReadBy) : State :=
  match r with
  | .chip c m a e => s.onKv c (memoryReadUncorrectableKv m e.toNat a.toNat)
  | .cell p a e => s.onCell p (memoryReadUncorrectableCell e.toNat a.toNat)

/-- A command on a word of memory (R467, R469, R472). -/
def State.onMem (s : State) (w : MemOf) (f : Kv → Kv) (g : Cell → Cell) : State :=
  match w with
  | .chip c => s.onKv c f
  | .cell p => s.onCell p g

/-- A register of a module written by the Probe while its main domain runs; an instruction that a written STEP asks for runs (R554,
R557). (DESIGN CHOICE: log entry 65.) -/
def Cell.probeWrite (s : Cell) (off v : Nat) : Cell :=
  if s.runs then
    match s.writeReg 2 0 off v with
    | some r => r.1.runStep
    | none => s
  else s

/-- A register written by software or a Probe (R8); a STEP that it asks for runs (R556). (DESIGN CHOICE: log entry 65.) -/
def State.onRegister (s : State) (r : RegBy) (off v : Word) : State :=
  match r with
  | .chip c probe => s.onKv c (fun k => (registerWriteKv probe off.toNat v k).runSteps)
  | .cell a => s.onCell a (fun x => x.probeWrite off.toNat v.toNat)

/-- A supervisor message that fails its check is counted where it arrives (R532). -/
def State.onSvlDiscard (s : State) (e : SvlEnd) : State :=
  match e with
  | .chip c => s.onKv c svlMessageDiscardKv
  | .companion c => s.onKf (fun k => k.discard c.isB)

/-- One edge of REFCLK at both chips (R31). (DESIGN CHOICE: log entry 1.) -/
def State.refclk (s : State) : State := (s.onKvAlways .a refclkEdgeKv).onKvAlways .b refclkEdgeKv

end Sys2Proof.Machine
end

