-- ==== Sys2Proof/Machine/ExecAcquiring.lean ====
section
/-! DEFINITION. Meanings: the acquisition units (R436 to R459). -/

namespace Sys2Proof.Machine

/-- ACQ_ARM_GO (R441). -/
def execAcqArmGo (c : Chip) (atick : BitVec 16) (cells : Bool) (s : State) : Result :=
  .next (s.onKv c (acqArmGoKv atick.toNat cells))

/-- ACQ_ARM_FIRE (R444). -/
def execAcqArmFire (c : Chip) (s : State) : Result :=
  .next (s.onKv c acqArmFireKv)

/-- ACQ_ENABLE (R439). -/
def execAcqEnable (c : Chip) (n : BitVec 2) (v : Word) (s : State) : Result :=
  .next (s.onKv c (acqEnableKv n.toNat v.toNat))

/-- ACQ_DISABLE (R450). -/
def execAcqDisable (c : Chip) (n : BitVec 2) (v : Word) (s : State) : Result :=
  .next (s.onKv c (acqDisableKv n.toNat v.toNat))

/-- ACQ_ROW_GATHER (R438). -/
def execAcqRowGather (c : Chip) (n : BitVec 2) (t : BitVec 48) (s : State) : Result :=
  .next (s.onKv c (acqRowGatherKv n.toNat t.toNat))

/-- ACQ_ROW_MISSED (R448). -/
def execAcqRowMissed (c : Chip) (n : BitVec 2) (t : BitVec 48) (s : State) : Result :=
  .next (s.onKv c (acqRowMissedKv n.toNat t.toNat))

/-- ACQ_CELL_FIRE (R444). -/
def execAcqCellFire (c : Chip) (n : BitVec 5) (f : BitVec 48) (t : Trailer) (s : State) : Result :=
  .next (s.onKv c (acqCellFireKv n.toNat f.toNat t))

/-- ACQ_OTHER_CHIP_FIRE (R444). -/
def execAcqOtherChipFire (c : Chip) (n : BitVec 5) (h : Header) (s : State) : Result :=
  .next (s.onKv c (acqOtherChipFireKv n.toNat h))

/-- ACQ_CROSS_ARM (R443). -/
def execAcqCrossArm (c : Chip) (n : BitVec 5) (h : Header) (s : State) : Result :=
  .next (s.onKv c (acqCrossArmKv n.toNat h))

/-- ACQ_RECORD_CLOSE (R449). -/
def execAcqRecordClose (c : Chip) (n : BitVec 2) (s : State) : Result :=
  .next (s.onKv c (acqRecordCloseKv n.toNat))

end Sys2Proof.Machine
end

