-- ==== Sys2Proof/Machine/ExecAllocation.lean ====
section
/-! DEFINITION. Meanings: allocators and cell vector unit (R216 to R255). -/

namespace Sys2Proof.Machine

/-- ALLOCATOR_PLACE (R242). -/
def execAllocatorPlace (c : Chip) (k : Fin 12) (n : BitVec 48) (s : State) : Result :=
  .next (s.onKv c (fun x => (allocatorPlaceKv k n.toNat x).endorse (tickPlus n.toNat x.lead)))

/-- ALLOCATOR_DEADLINE (R242). -/
def execAllocatorDeadline (c : Chip) (k : Fin 12) (n : BitVec 48) (s : State) : Result :=
  .next (s.onKv c (fun x => (allocatorDeadlineKv k n.toNat x).endorse (tickPlus n.toNat x.lead)))

/-- ALLOCATOR_DISABLE (R243). -/
def execAllocatorDisable (c : Chip) (k : Fin 12) (s : State) : Result :=
  .next (s.onKv c (allocatorDisableKv k))

/-- CVU_STRING_PASS (R249). -/
def execCvuStringPass (c : Chip) (str : BitVec 5) (n : BitVec 48) (s : State) : Result :=
  .next (s.onKv c (cvuStringPassKv str.toNat n.toNat))

/-- CVU_PASS_DEADLINE (R249). -/
def execCvuPassDeadline (c : Chip) (n : BitVec 48) (s : State) : Result :=
  .next (s.onKv c (cvuPassDeadlineKv n.toNat))

/-- CVU_DISABLE (R250). -/
def execCvuDisable (c : Chip) (s : State) : Result :=
  .next (s.onKv c cvuDisableKv)

/-- CVU_BINE_WRITE (R254). -/
def execCvuBineWrite (c : Chip) (m : BitVec 1) (v : Word) (s : State) : Result :=
  .next (s.onKv c (cvuBineWriteKv m.toNat v.toNat))

end Sys2Proof.Machine
end

