-- ==== Sys2Proof/Machine/ExecCastling.lean ====
section
/-! DEFINITION. Meanings: token, castling, endorsement and ledger (R370 to R404). -/

namespace Sys2Proof.Machine

/-- KF_HEARTBEAT_RECEIVED (R536). -/
def execKfHeartbeatReceived (c : Chip) (x : Hb) (s : State) : Result :=
  .next (s.onKf (kfHeartbeatReceivedKf c.isB x))

/-- HEARTBEAT_TIMEOUT (R536). -/
def execHeartbeatTimeout (c : Chip) (s : State) : Result :=
  .next (s.onKf (heartbeatTimeoutKf c.isB))

/-- KF_RESTART_GRANT (R374). -/
def execKfRestartGrant (s : State) : Result :=
  .next (s.onKf kfRestartGrantKf)

/-- CONF_RECEIVED (R375). -/
def execConfReceived (c : Chip) (n cseq : BitVec 16) (xfer lapsed : Bool) (ctick : BitVec 16) (s : State) : Result :=
  .next (s.onKv c (confReceivedKv n.toNat cseq.toNat xfer lapsed ctick.toNat))

/-- GRANT_RECEIVED (R376). -/
def execGrantReceived (c : Chip) (cseq ctick : BitVec 16) (at_ : Bool) (s : State) : Result :=
  .next (s.onKv c (grantReceivedKv cseq.toNat ctick.toNat at_))

/-- STAT_RECEIVED (R520). -/
def execStatReceived (c : Chip) (inputs : Word) (src : BitVec 16) (b6 b7 : BitVec 8) (s : State) : Result :=
  .next (s.onKv c (statReceivedKv inputs.toNat src.toNat b6.toNat b7.toNat))

/-- STATE_MESSAGE (R378). -/
def execStateMessage (c : Chip) (e : Envelope) (m : StateMsg) (s : State) : Result :=
  .next (s.onKv c (stateMessageKv e m))

/-- DIGEST_MESSAGE (R382). -/
def execDigestMessage (c : Chip) (e : Envelope) (t : BitVec 48) (ds : List (BitVec 64)) (inTime : Bool) (s : State) : Result :=
  .next (s.onKv c (digestMessageKv e t.toNat (ds.map BitVec.toNat) inTime))

/-- ENDORSE_MESSAGE (R382). -/
def execEndorseMessage (c : Chip) (e : Envelope) (t : BitVec 48) (mask : Word) (seq : BitVec 16) (inTime : Bool) (s : State) : Result :=
  .next (s.onKv c (endorseMessageKv e t.toNat mask.toNat seq.toNat inTime))

/-- RELAY_MESSAGE (R124). -/
def execRelayMessage (c : Chip) (e : Envelope) (l : List (BitVec 13 × RepSlot)) (s : State) : Result :=
  .next (s.onKv c (relayMessageKv e l))

/-- CASTLE_OFFER (R395). -/
def execCastleOffer (c : Chip) (e : Envelope) (ctick : BitVec 16) (_ready : BitVec 8) (s : State) : Result :=
  .next (s.onKv c (castleOfferKv e ctick.toNat))

/-- CASTLE_ACCEPT (R395). -/
def execCastleAccept (c : Chip) (e : Envelope) (s : State) : Result :=
  .next (s.onKv c (castleAcceptKv e))

/-- CASTLE_REFUSE (R395). -/
def execCastleRefuse (c : Chip) (e : Envelope) (s : State) : Result :=
  .next (s.onKv c (castleRefuseKv e))

/-- CASTLE_COMMITREQ (R396). -/
def execCastleCommitreq (c : Chip) (e : Envelope) (ctick : BitVec 16) (s : State) : Result :=
  .next (s.onKv c (castleCommitreqKv e ctick.toNat))

/-- EVREL_MESSAGE (R339). -/
def execEvrelMessage (c : Chip) (e : Envelope) (b : BitVec 48) (tasks : List (BitVec 5)) (s : State) : Result :=
  .next (s.onKv c (evrelMessageKv e b.toNat (tasks.map BitVec.toNat)))

/-- FORCE_MESSAGE (R356). -/
def execForceMessage (c : Chip) (e : Envelope) (x : FrcChange) (s : State) : Result :=
  .next (s.forceMessage c e x)

/-- LEDGER_MESSAGE (R386). -/
def execLedgerMessage (c : Chip) (e : Envelope) (n : BitVec 48) (l : List Entry) (s : State) : Result :=
  .next (s.onKv c (ledgerMessageKv e n.toNat l))

/-- EPOCHEND_MESSAGE (R386). -/
def execEpochendMessage (c : Chip) (e : Envelope) (n : BitVec 48) (count bytes crc : BitVec 32) (s : State) : Result :=
  .next (s.epochEnd c e n.toNat count.toNat bytes.toNat crc.toNat)

/-- SWEEP_MESSAGE (R390). -/
def execSweepMessage (c : Chip) (e : Envelope) (a : BitVec 13) (n : BitVec 48) (l : List Byte) (s : State) : Result :=
  .next (s.onKv c (sweepMessageKv e a.toNat n.toNat l))

/-- HEALTH_MESSAGE (R394). -/
def execHealthMessage (c : Chip) (e : Envelope) (w0 w1 w2 w3 : Word) (s : State) : Result :=
  .next (s.onKv c (healthMessageKv e w0 w1 w2 w3))

/-- EPOCH_MISS (R389). -/
def execEpochMiss (c : Chip) (n : BitVec 48) (s : State) : Result :=
  .next (s.onKv c (epochMissKv n.toNat))

/-- LEDGER_RESYNC (R391). -/
def execLedgerResync (c : Chip) (s : State) : Result :=
  .next (s.onKv c ledgerResyncKv)

/-- CASTLE_REQ (R395). -/
def execCastleReq (c : Chip) (ctick : BitVec 16) (s : State) : Result :=
  .next (s.onKv c (castleReqKv ctick.toNat))

/-- TRANSFER_LAPSE (R395). -/
def execTransferLapse (c : Chip) (s : State) : Result :=
  .next (s.onKv c transferLapseKv)

/-- SELF_TEST_STEP (R393). -/
def execSelfTestStep (c : Chip) (logic sram arena : Bool) (s : State) : Result :=
  .next (s.onKv c (selfTestStepKv logic sram arena))

/-- HEALTH_REPORT (R394). -/
def execHealthReport (c : Chip) (s : State) : Result :=
  .next (s.onKv c healthReportKv)

end Sys2Proof.Machine
end

