-- ==== Sys2Proof/Machine/ExecCompanion.lean ====
section
/-! DEFINITION. Meanings: the KF-120 and the link to it (R516 to R542). -/

namespace Sys2Proof.Machine

/-- FIELD_INPUT_SAMPLE (R518). -/
def execFieldInputSample (vs cs : List (BitVec 16)) (s : State) : Result :=
  .next (s.onKf (fieldInputSampleKf (vs.map BitVec.toNat) (cs.map BitVec.toNat)))

/-- STIN_SAMPLE (R528). -/
def execStinSample (v : BitVec 16) (s : State) : Result :=
  .next (s.onKf (stinSampleKf v.toNat))

/-- TRIP_SOURCE_ACTIVE (R527). -/
def execTripSourceActive (s : State) : Result :=
  .next (s.onKf tripSourceActiveKf)

/-- OUTPUT_SELF_OFF (R521). -/
def execOutputSelfOff (i : Fin 20) (s : State) : Result :=
  .next (s.onKf (outputSelfOffKf i))

/-- OUTPUT_RESTART (R521). -/
def execOutputRestart (i : Fin 20) (s : State) : Result :=
  .next (s.onKf (outputRestartKf i))

/-- KF_CMD_RECEIVED (R535). -/
def execKfCmdReceived (c : Chip) (out : BitVec 16) (ref resume safe trip tclr : Bool) (s : State) : Result :=
  .next (s.onKf (kfCmdReceivedKf c.isB out.toNat ref resume safe trip tclr))

/-- KF_REG_RECEIVED (R535). -/
def execKfRegReceived (c : Chip) (op num : BitVec 8) (data : Word) (tag : BitVec 8) (s : State) : Result :=
  .next (s.onKf (kfRegReceivedKf c.isB op.toNat num.toNat data.toNat tag.toNat))

/-- SVL_MESSAGE_DISCARD (R532). -/
def execSvlMessageDiscard (e : SvlEnd) (s : State) : Result :=
  .next (s.onSvlDiscard e)

/-- SILENCE_TIMER_EXPIRY (R525). -/
def execSilenceTimerExpiry (s : State) : Result :=
  .next (s.onKf silenceTimerExpiryKf)

/-- KF_SUPPLY_RESET (R516). -/
def execKfSupplyReset (s : State) : Result :=
  .next (s.onKf kfSupplyResetKf)

/-- KF_RESET_RELEASE (R516). -/
def execKfResetRelease (vsup : BitVec 8) (s : State) : Result :=
  .next (s.onKf (kfResetReleaseKf vsup.toNat))

/-- KF_REFCLK_FAIL (R516). -/
def execKfRefclkFail (s : State) : Result :=
  .next (s.onKf kfRefclkFailKf)

/-- KF_SUPPLY_WARNING (R516). -/
def execKfSupplyWarning (vsup : BitVec 8) (s : State) : Result :=
  .next (s.onKf (kfSupplyWarningKf vsup.toNat))

/-- KF_DIE_OVER_TEMPERATURE (R537). -/
def execKfDieOverTemperature (die : BitVec 8) (s : State) : Result :=
  .next (s.onKf (kfDieOverTemperatureKf die.toNat))

/-- SVL_REQ_READ (R542). -/
def execSvlReqRead (c : Chip) (num : BitVec 8) (s : State) : Result :=
  .next (s.onKv c (svlReqReadKv num.toNat))

/-- SVL_REQ_WRITE (R542). -/
def execSvlReqWrite (c : Chip) (num : BitVec 8) (s : State) : Result :=
  .next (s.onKv c (svlReqWriteKv num.toNat))

/-- SVL_RDATA_RECEIVED (R542). -/
def execSvlRdataReceived (c : Chip) (status : BitVec 8) (data : Word) (s : State) : Result :=
  .next (s.onKv c (svlRdataReceivedKv status.toNat data.toNat))

/-- SVL_CTRL_SAFE (R542). -/
def execSvlCtrlSafe (c : Chip) (s : State) : Result :=
  .next (s.onKv c svlCtrlSafeKv)

/-- SVL_CTRL_TCLR (R542). -/
def execSvlCtrlTclr (c : Chip) (s : State) : Result :=
  .next (s.onKv c svlCtrlTclrKv)

/-- SVL_CTRL_RESUME (R542). -/
def execSvlCtrlResume (c : Chip) (s : State) : Result :=
  .next (s.onKv c svlCtrlResumeKv)

/-- SVL_LINK_LOSS (R542). -/
def execSvlLinkLoss (c : Chip) (s : State) : Result :=
  .next (s.onKv c svlLinkLossKv)

end Sys2Proof.Machine
end

