-- ==== Sys2Proof/Machine/ExecControl.lean ====
section
/-! DEFINITION. Meanings: the branches, jumps and calls (R300). -/

namespace Sys2Proof.Machine

/-- BCC (R300). -/
def execBcc (r : CoreRef) (cond : BitVec 4) (off : BitVec 22) (s : State) : Result :=
  .next (s.onCore r (.bcc cond off))

/-- JUMP (R296). -/
def execJump (r : CoreRef) (off : BitVec 26) (s : State) : Result :=
  .next (s.onCore r (.jump off))

/-- CALL (R300). -/
def execCall (r : CoreRef) (off : BitVec 26) (s : State) : Result :=
  .next (s.onCore r (.call off))

/-- JR (R296). -/
def execJr (r : CoreRef) (ra : Gpr) (s : State) : Result :=
  .next (s.onCore r (.jr ra))

/-- CALLR (R300). -/
def execCallr (r : CoreRef) (rd ra : Gpr) (s : State) : Result :=
  .next (s.onCore r (.callr rd ra))

/-- CBEQ (R300). -/
def execCbeq (r : CoreRef) (ra rb : Gpr) (off : BitVec 16) (s : State) : Result :=
  .next (s.onCore r (.cb .eq ra rb off))

/-- CBNE (R300). -/
def execCbne (r : CoreRef) (ra rb : Gpr) (off : BitVec 16) (s : State) : Result :=
  .next (s.onCore r (.cb .ne ra rb off))

/-- CBLT (R300). -/
def execCblt (r : CoreRef) (ra rb : Gpr) (off : BitVec 16) (s : State) : Result :=
  .next (s.onCore r (.cb .lt ra rb off))

/-- CBLTU (R300). -/
def execCbltu (r : CoreRef) (ra rb : Gpr) (off : BitVec 16) (s : State) : Result :=
  .next (s.onCore r (.cb .ltu ra rb off))

/-- JL (R299). -/
def execJl (r : CoreRef) (v : BitVec 16) (s : State) : Result :=
  .next (s.onCore r (.jl v))

/-- CALLL (R299). -/
def execCalll (r : CoreRef) (v : BitVec 16) (s : State) : Result :=
  .next (s.onCore r (.calll v))

end Sys2Proof.Machine
end

