-- ==== Sys2Proof/Machine/ExecDispatching.lean ====
section
/-! DEFINITION. Meanings: the dispatcher, its force table and on-line change (R286 to R369). -/

namespace Sys2Proof.Machine

/-- CONTEXT_SWITCH (R288). -/
def execContextSwitch (c : Chip) (n : BitVec 4) (s : State) : Result :=
  .next (s.onKv c (contextSwitchKv n.toNat))

/-- MODE_REQUEST_RUN (R337). -/
def execModeRequestRun (c : Chip) (mtick : BitVec 16) (s : State) : Result :=
  .next (s.onKv c (modeRequestRunKv mtick.toNat))

/-- MODE_REQUEST_STOP (R337). -/
def execModeRequestStop (c : Chip) (mtick : BitVec 16) (s : State) : Result :=
  .next (s.onKv c (modeRequestStopKv mtick.toNat))

/-- MODE_REQUEST_HOLD (R337). -/
def execModeRequestHold (c : Chip) (mtick : BitVec 16) (s : State) : Result :=
  .next (s.onKv c (modeRequestHoldKv mtick.toNat))

/-- T0_RELEASE (R338). -/
def execT0Release (c : Chip) (n : BitVec 48) (s : State) : Result :=
  .next (s.onKv c (t0ReleaseKv n.toNat))

/-- EVENT_TASK_RELEASE (R338). -/
def execEventTaskRelease (c : Chip) (k : BitVec 5) (n : BitVec 48) (s : State) : Result :=
  .next (s.onKv c (eventTaskReleaseKv k.toNat n.toNat))

/-- STALL_FILL (R342). -/
def execStallFill (c : Chip) (s : State) : Result :=
  .next (s.onKv c stallFillKv)

/-- PREEMPTION (R343). -/
def execPreemption (c : Chip) (s : State) : Result :=
  .next (s.onKv c preemptionKv)

/-- ARM_REFERENCE_DEADLINE (R351). -/
def execArmReferenceDeadline (c : Chip) (n : BitVec 48) (s : State) : Result :=
  .next (s.onKv c (armReferenceDeadlineKv n.toNat))

/-- T0_KILL (R353). -/
def execT0Kill (c : Chip) (n : BitVec 48) (s : State) : Result :=
  .next (s.onKv c (t0KillKv n.toNat))

/-- CORE_RESET (R368). -/
def execCoreReset (c : Chip) (n : BitVec 4) (s : State) : Result :=
  .next (s.onKv c (coreResetKv n.toNat))

/-- CORE_DISABLE (R344). -/
def execCoreDisable (c : Chip) (n : BitVec 4) (s : State) : Result :=
  .next (s.onKv c (coreDisableKv n.toNat))

/-- FORCE_READ_ENTRY (R367). -/
def execForceReadEntry (c : Chip) (e : BitVec 6) (s : State) : Result :=
  .next (s.onKv c (forceReadEntryKv e.toNat))

/-- FORCE_SET (R356). -/
def execForceSet (c : Chip) (e : BitVec 6) (ftick : BitVec 16) (s : State) : Result :=
  .next (s.onKv c (forceSetKv e.toNat ftick.toNat))

/-- FORCE_DEL (R356). -/
def execForceDel (c : Chip) (e : BitVec 6) (ftick : BitVec 16) (s : State) : Result :=
  .next (s.onKv c (forceDelKv e.toNat ftick.toNat))

/-- OLC_LOAD (R358). -/
def execOlcLoad (c : Chip) (s : State) : Result :=
  .next (s.onKv c olcLoadKv)

/-- OLC_IMAGE_LOADED (R358). -/
def execOlcImageLoaded (c : Chip) (i : Image) (s : State) : Result :=
  .next (s.onKv c (olcImageLoadedKv i))

/-- OLC_CHECKED (R358). -/
def execOlcChecked (c : Chip) (s : State) : Result :=
  .next (s.onKv c olcCheckedKv)

/-- OLC_COMMIT (R358). -/
def execOlcCommit (c : Chip) (ctick : BitVec 16) (s : State) : Result :=
  .next (s.onKv c (olcCommitKv ctick.toNat))

/-- OLC_ABORT (R358). -/
def execOlcAbort (c : Chip) (s : State) : Result :=
  .next (s.onKv c olcAbortKv)

end Sys2Proof.Machine
end

