-- ==== Sys2Proof/Machine/ExecFaulting.lean ====
section
/-! DEFINITION. Meanings: faults and events (R405 to R435). -/

namespace Sys2Proof.Machine

/-- FAULT_OCCURRENCE (R414). -/
def execFaultOccurrence (c : Chip) (src : BitVec 7) (kind : BitVec 5) (addr : Word) (s : State) : Result :=
  .next (s.onKv c (faultOccurrenceKv src.toNat kind.toNat addr.toNat))

/-- FAULT_WINDOW_END (R416). -/
def execFaultWindowEnd (c : Chip) (src : BitVec 7) (s : State) : Result :=
  .next (s.onKv c (faultWindowEndKv src.toNat))

/-- FAULT_ACKNOWLEDGE (R417). -/
def execFaultAcknowledge (c : Chip) (m : BitVec 2) (mask : Word) (s : State) : Result :=
  .next (s.onKv c (faultAcknowledgeKv m.toNat mask.toNat))

/-- FLT_WIN_WRITE (R416). -/
def execFltWinWrite (c : Chip) (src : BitVec 7) (v : Word) (s : State) : Result :=
  .next (s.onKv c (fltWinWriteKv src.toNat v.toNat))

/-- FLT_INJ_GO (R434). -/
def execFltInjGo (c : Chip) (src : BitVec 7) (kind : BitVec 5) (s : State) : Result :=
  .next (s.onKv c (fltInjGoKv src.toNat kind.toNat))

/-- FIRST_FAULT_CLEAR (R433). -/
def execFirstFaultClear (c : Chip) (s : State) : Result :=
  .next (s.onKv c firstFaultClearKv)

/-- LOG_READ_POINTER_WRITE (R423). -/
def execLogReadPointerWrite (c : Chip) (rp : BitVec 8) (s : State) : Result :=
  .next (s.onKv c (logReadPointerWriteKv rp.toNat))

/-- EVENT_UNMASK (R426). -/
def execEventUnmask (c : Chip) (m : BitVec 2) (v : Word) (s : State) : Result :=
  .next (s.onKv c (eventUnmaskKv m.toNat v.toNat))

end Sys2Proof.Machine
end

