-- ==== Sys2Proof/Machine/ExecFeedback.lean ====
section
/-! DEFINITION. Meanings: the state-feedback engines (R256 to R285). -/

namespace Sys2Proof.Machine

/-- SFE_LOOP_EXECUTE (R257). -/
def execSfeLoopExecute (c : Chip) (e : BitVec 2) (j : BitVec 4) (n : BitVec 48) (s : State) : Result :=
  .next (s.onKv c (sfeLoopExecuteKv e.toNat j.toNat n.toNat))

/-- SFE_LOOP_SKIP (R268). -/
def execSfeLoopSkip (c : Chip) (e : BitVec 2) (j : BitVec 4) (n : BitVec 48) (s : State) : Result :=
  .next (s.onKv c (sfeLoopSkipKv e.toNat j.toNat n.toNat))

/-- SFE_BANK_SW (R271). -/
def execSfeBankSw (c : Chip) (e : BitVec 2) (stick : BitVec 16) (s : State) : Result :=
  .next (s.onKv c (sfeBankSwKv e.toNat stick.toNat))

/-- SFE_LIVE_STATE_WRITE (R272). -/
def execSfeLiveStateWrite (c : Chip) (e : BitVec 2) (j : BitVec 4) (i : BitVec 5) (v : Word) (s : State) : Result :=
  .next (s.onKv c (sfeLiveStateWriteKv e.toNat j.toNat i.toNat v))

/-- SFE_INJ_ENABLE (R273). -/
def execSfeInjEnable (c : Chip) (e : BitVec 2) (v : Word) (s : State) : Result :=
  .next (s.onKv c (sfeInjEnableKv e.toNat v.toNat))

/-- SFE_INJ_DONE (R275). -/
def execSfeInjDone (c : Chip) (e : BitVec 2) (s : State) : Result :=
  .next (s.onKv c (sfeInjDoneKv e.toNat))

/-- SFE_DISABLE (R277). -/
def execSfeDisable (c : Chip) (e : BitVec 2) (s : State) : Result :=
  .next (s.onKv c (sfeDisableKv e.toNat))

end Sys2Proof.Machine
end

