-- ==== Sys2Proof/Machine/ExecFixedPoint.lean ====
section
/-! DEFINITION. Meanings: the accumulator instructions (R308 to R314). -/

namespace Sys2Proof.Machine

/-- MAC (R310). -/
def execMac (r : CoreRef) (ad : BitVec 3) (ra rb : Gpr) (sh : BitVec 6) (s : State) : Result :=
  .next (s.onCore r (.mac .mac ad ra rb sh))

/-- MSU (R310). -/
def execMsu (r : CoreRef) (ad : BitVec 3) (ra rb : Gpr) (sh : BitVec 6) (s : State) : Result :=
  .next (s.onCore r (.mac .msu ad ra rb sh))

/-- MULA (R310). -/
def execMula (r : CoreRef) (ad : BitVec 3) (ra rb : Gpr) (sh : BitVec 6) (s : State) : Result :=
  .next (s.onCore r (.mac .mula ad ra rb sh))

/-- MACU (R310). -/
def execMacu (r : CoreRef) (ad : BitVec 3) (ra rb : Gpr) (sh : BitVec 6) (s : State) : Result :=
  .next (s.onCore r (.mac .macu ad ra rb sh))

/-- MACS (R310). -/
def execMacs (r : CoreRef) (ad : BitVec 3) (ra rb : Gpr) (sh : BitVec 6) (s : State) : Result :=
  .next (s.onCore r (.mac .macs ad ra rb sh))

/-- EXTR (R312). -/
def execExtr (r : CoreRef) (ad : BitVec 3) (ra rb : Gpr) (sh : BitVec 6) (s : State) : Result :=
  .next (s.onCore r (.acc .extr ad ra rb sh))

/-- EXTRT (R312). -/
def execExtrt (r : CoreRef) (ad : BitVec 3) (ra rb : Gpr) (sh : BitVec 6) (s : State) : Result :=
  .next (s.onCore r (.acc .extrt ad ra rb sh))

/-- MOVA (R312). -/
def execMova (r : CoreRef) (ad : BitVec 3) (ra rb : Gpr) (sh : BitVec 6) (s : State) : Result :=
  .next (s.onCore r (.acc .mova ad ra rb sh))

/-- MVLO (R312). -/
def execMvlo (r : CoreRef) (ad : BitVec 3) (ra rb : Gpr) (sh : BitVec 6) (s : State) : Result :=
  .next (s.onCore r (.acc .mvlo ad ra rb sh))

/-- MVMI (R312). -/
def execMvmi (r : CoreRef) (ad : BitVec 3) (ra rb : Gpr) (sh : BitVec 6) (s : State) : Result :=
  .next (s.onCore r (.acc .mvmi ad ra rb sh))

/-- MVHI (R312). -/
def execMvhi (r : CoreRef) (ad : BitVec 3) (ra rb : Gpr) (sh : BitVec 6) (s : State) : Result :=
  .next (s.onCore r (.acc .mvhi ad ra rb sh))

/-- AWLO (R312). -/
def execAwlo (r : CoreRef) (ad : BitVec 3) (ra rb : Gpr) (sh : BitVec 6) (s : State) : Result :=
  .next (s.onCore r (.acc .awlo ad ra rb sh))

/-- AWMI (R312). -/
def execAwmi (r : CoreRef) (ad : BitVec 3) (ra rb : Gpr) (sh : BitVec 6) (s : State) : Result :=
  .next (s.onCore r (.acc .awmi ad ra rb sh))

/-- AWHI (R312). -/
def execAwhi (r : CoreRef) (ad : BitVec 3) (ra rb : Gpr) (sh : BitVec 6) (s : State) : Result :=
  .next (s.onCore r (.acc .awhi ad ra rb sh))

/-- ACLR (R312). -/
def execAclr (r : CoreRef) (ad : BitVec 3) (ra rb : Gpr) (sh : BitVec 6) (s : State) : Result :=
  .next (s.onCore r (.acc .aclr ad ra rb sh))

/-- AADD (R312). -/
def execAadd (r : CoreRef) (ad : BitVec 3) (ra rb : Gpr) (sh : BitVec 6) (s : State) : Result :=
  .next (s.onCore r (.acc .aadd ad ra rb sh))

/-- EXTRR (R312). -/
def execExtrr (r : CoreRef) (ad : BitVec 3) (ra rb : Gpr) (sh : BitVec 6) (s : State) : Result :=
  .next (s.onCore r (.acc .extrr ad ra rb sh))

/-- DOT4 (R313). -/
def execDot4 (r : CoreRef) (ad : BitVec 3) (ra rb : Gpr) (sh : BitVec 6) (s : State) : Result :=
  .next (s.onCore r (.dot4 ad ra rb sh))

/-- DOT4C (R313). -/
def execDot4c (r : CoreRef) (ad : BitVec 3) (ra rb : Gpr) (s : State) : Result :=
  .next (s.onCore r (.dot4c ad ra rb))

end Sys2Proof.Machine
end

