-- ==== Sys2Proof/Machine/ExecFrames.lean ====
section
/-! DEFINITION. Meanings: frames at the modules and at the string ports (R99 to R141). -/

namespace Sys2Proof.Machine

/-- HEADER_RECEIVED (R105). -/
def execHeaderReceived (a : BitVec 13) (p : Port) (h : Header) (arr : Arrival) (lat : Nat) (ppm : Int) (s : State) : Result :=
  .next (s.onCell a (headerReceivedCell p h arr.cyc arr.frac lat ppm))

/-- CELL_TICK_BOUNDARY (R172). -/
def execCellTickBoundary (a : BitVec 13) (act : TripIn) (s : State) : Result :=
  .next (s.onCell a (cellTickBoundaryCell act.toNat))

/-- COMMAND_SLOT_RECEIVED (R112). -/
def execCommandSlotReceived (a : BitVec 13) (p : Port) (slot : CmdSlot) (s : State) : Result :=
  .next (s.onCell a (commandSlotReceivedCell p slot))

/-- REPORT_SLOT_WRITE (R116). -/
def execReportSlotWrite (a : BitVec 13) (p : Port) (s : State) : Result :=
  .next (s.onCell a (reportSlotWriteCell p))

/-- TRAILER_FORWARD (R110). -/
def execTrailerForward (a : BitVec 13) (p : Port) (t : TrailerIn) (s : State) : Result :=
  .next (s.onCell a (trailerForwardCell p t.tr t.t))

/-- CELL_COMMAND_DEADLINE (R119). -/
def execCellCommandDeadline (a : BitVec 13) (s : State) : Result :=
  .next (s.onCell a cellCommandDeadlineCell)

/-- HOLD_LIMIT (R120). -/
def execHoldLimit (a : BitVec 13) (s : State) : Result :=
  .next (s.onCell a holdLimitCell)

/-- MODE_PARK (R170). -/
def execModePark (a : BitVec 13) (s : State) : Result :=
  .next (s.onCell a modeParkCell)

/-- MODE_ACTIVE (R170). -/
def execModeActive (a : BitVec 13) (slot : CmdSlot) (s : State) : Result :=
  .next (s.onCell a (modeActiveCell slot.toNat))

/-- MODE_HOLDLAST (R170). -/
def execModeHoldlast (a : BitVec 13) (s : State) : Result :=
  .next (s.onCell a modeHoldlastCell)

/-- MODE_BYPASS_FIRE (R181). -/
def execModeBypassFire (a : BitVec 13) (side : Word) (s : State) : Result :=
  .next (s.onCell a (modeBypassFireCell side.toNat))

/-- MODE_DISCHARGE (R182). -/
def execModeDischarge (a : BitVec 13) (s : State) : Result :=
  .next (s.onCell a modeDischargeCell)

/-- MODE_SENSOR (R160). -/
def execModeSensor (a : BitVec 13) (s : State) : Result :=
  .next (s.onCell a modeSensorCell)

/-- BCMD_TALLY_LATCH (R499). -/
def execBcmdTallyLatch (a : BitVec 13) (no : BitVec 16) (s : State) : Result :=
  .next (s.onCell a (bcmdTallyLatchCell no.toNat))

/-- BCMD_CAPTURE_ARM (R211). -/
def execBcmdCaptureArm (a : BitVec 13) (s : State) : Result :=
  .next (s.onCell a bcmdCaptureArmCell)

/-- BCMD_TRIP_CLEAR (R179). -/
def execBcmdTripClear (a : BitVec 13) (act : TripIn) (s : State) : Result :=
  .next (s.onCell a (bcmdTripClearCell act.toNat))

/-- BCMD_CLEAR_SHDW (R384). -/
def execBcmdClearShdw (a : BitVec 13) (s : State) : Result :=
  .next (s.onCell a bcmdClearShdwCell)

/-- BCMD_ACKNOWLEDGE (R162). -/
def execBcmdAcknowledge (a : BitVec 13) (s : State) : Result :=
  .next (s.onCell a bcmdAcknowledgeCell)

/-- SIDE_RD (R134). -/
def execSideRd (a : BitVec 13) (p : Port) (s : State) : Result :=
  .next (s.onCell a (sideRdCell p))

/-- SIDE_WA (R134). -/
def execSideWa (a : BitVec 13) (p : Port) (s : State) : Result :=
  .next (s.onCell a (sideWaCell p))

/-- SIDE_WD (R134). -/
def execSideWd (a : BitVec 13) (p : Port) (s : State) : Result :=
  .next (s.onCell a (fun x => (sideWdCell p x).runStep))

/-- POSITION_DROP (R115). -/
def execPositionDrop (a : BitVec 13) (s : State) : Result :=
  .next (s.onCell a positionDropCell)

/-- FOLD_ONSET (R121). -/
def execFoldOnset (a : BitVec 13) (p : Port) (s : State) : Result :=
  .next (s.onCell a (foldOnsetCell p))

/-- FOLD_END (R121). -/
def execFoldEnd (a : BitVec 13) (p : Port) (s : State) : Result :=
  .next (s.onCell a (foldEndCell p))

/-- FOLD_FRAME_LAUNCH (R122). -/
def execFoldFrameLaunch (a : BitVec 13) (p : Port) (lofs : BitVec 10) (s : State) : Result :=
  .next (s.onCell a (foldFrameLaunchCell p lofs.toNat))

/-- MID_FRAME_LOCK_LOSS (R70). -/
def execMidFrameLockLoss (h : FrameCut) (s : State) : Result :=
  .next (s.onMidFrame h.hop h.blk h.part)

/-- REPORT_SLOT_ACCEPT (R113). -/
def execReportSlotAccept (c : Chip) (n : BitVec 5) (k : BitVec 9) (slot : RepSlot) (s : State) : Result :=
  .next (s.onKv c (reportSlotAcceptKv n.toNat k.toNat slot))

/-- REPORT_STAGING_WRITE (R349). -/
def execReportStagingWrite (c : Chip) (s : State) : Result :=
  .next (s.onKv c reportStagingWriteKv)

/-- REPORT_ARRIVAL_POINT (R128). -/
def execReportArrivalPoint (c : Chip) (n : BitVec 48) (s : State) : Result :=
  .next (s.onKv c (reportArrivalPointKv n.toNat))

/-- FOLD_FRAME_ARRIVAL (R141). -/
def execFoldFrameArrival (c : Chip) (n : BitVec 5) (h : Header) (s : State) : Result :=
  .next (s.onKv c (foldFrameArrivalKv n.toNat h))

/-- STRING_PORT_HEADER_RECEIVED (R47). -/
def execStringPortHeaderReceived (c : Chip) (n : BitVec 5) (h : Header) (arr lat : Nat) (s : State) : Result :=
  .next (s.onKv c (stringPortHeaderReceivedKv n.toNat h arr lat))

/-- STRING_PORT_TRAILER_RECEIVED (R138). -/
def execStringPortTrailerReceived (c : Chip) (n : BitVec 5) (t : Trailer) (s : State) : Result :=
  .next (s.onKv c (stringPortTrailerReceivedKv n.toNat t))

end Sys2Proof.Machine
end

