-- ==== Sys2Proof/Machine/ExecHop.lean ====
section
/-! DEFINITION. Meanings: hops, castle lanes and ports (R60 to R98). -/

namespace Sys2Proof.Machine

/-- SIGNAL_DETECT (R71). -/
def execSignalDetect (h : HopEnd) (s : State) : Result :=
  .next (s.onHop h signalDetectStep)

/-- SIGNAL_LOSS (R71). -/
def execSignalLoss (h : HopEnd) (s : State) : Result :=
  .next (s.onHop h signalLossStep)

/-- TRAINING_BLOCK_RECEIVED (R66). -/
def execTrainingBlockReceived (h : HopEnd) (pos : BitVec 4) (marker kind sig : BitVec 10) (rest : List (BitVec 10)) (s : State) : Result :=
  .next (s.onHop h (trainingBlockStep pos.toNat (marker :: kind :: sig :: rest)))

/-- TRAIN_READY (R71). -/
def execTrainReady (h : HopEnd) (s : State) : Result :=
  .next (s.onHop h trainReadyStep)

/-- TRAIN_TIMEOUT (R71). -/
def execTrainTimeout (h : HopEnd) (s : State) : Result :=
  .next (s.onHop h trainTimeoutStep)

/-- SHIFT_END (R71). -/
def execShiftEnd (h : HopEnd) (s : State) : Result :=
  .next (s.onHop h shiftEndStep)

/-- BLOCK_LOCK (R70). -/
def execBlockLock (h : HopBlocks) (s : State) : Result :=
  .next (s.onHop h.hop (blockLockStep h.l))

/-- BLOCK_LOCK_LOSS (R70). -/
def execBlockLockLoss (h : HopBlocks) (s : State) : Result :=
  .next (s.onHop h.hop (blockLockLossStep h.l))

/-- HUNT_POLARITY_INVERT (R72). -/
def execHuntPolarityInvert (h : HopBlocks) (s : State) : Result :=
  .next (s.onHop h.hop (huntInvertStep h.l))

/-- HOP_UP (R71). -/
def execHopUp (h : HopEnd) (s : State) : Result :=
  .next (s.onHop h hopUpStep)

/-- HUNT_TIMEOUT (R71). -/
def execHuntTimeout (h : HopEnd) (s : State) : Result :=
  .next (s.onHop h huntTimeoutStep)

/-- BLIND_START_FAIL (R73). -/
def execBlindStartFail (h : HopEnd) (s : State) : Result :=
  .next (s.onHop h blindFailStep)

/-- BLIND_RETRY (R73). -/
def execBlindRetry (h : HopEnd) (s : State) : Result :=
  .next (s.onHop h blindRetryStep)

/-- TEST_PATTERN_DESELECT (R71). -/
def execTestPatternDeselect (h : HopEnd) (s : State) : Result :=
  .next (s.onHop h deselectStep)

/-- ADAPTATION_FREEZE (R68). -/
def execAdaptationFreeze (h : HopEnd) (s : State) : Result :=
  .next (s.onHop h (freezeStep true))

/-- ADAPTATION_RESUME (R68). -/
def execAdaptationResume (h : HopEnd) (s : State) : Result :=
  .next (s.onHop h (freezeStep false))

/-- ADAPTATION_STEP (R67). -/
def execAdaptationStep (h : HopEnd) (dir : Adapting) (s : State) : Result :=
  .next (s.onHop h (adaptStep dir.dir.toNat dir.rx))

/-- LANE_MARKER_RECEIVED (R76). -/
def execLaneMarkerReceived (c : Chip) (n : BitVec 3) (lane : Marker) (s : State) : Result :=
  .next (s.onKv c (laneMarkerReceivedKv n.toNat lane.lane.toNat lane.skew))

/-- CASTLE_LINK_DOWN (R78). -/
def execCastleLinkDown (c : Chip) (s : State) : Result :=
  .next (s.onKv c castleLinkDownKv)

/-- CASTLE_LANE_LOST (R78). -/
def execCastleLaneLost (c : Chip) (i : BitVec 3) (s : State) : Result :=
  .next (s.onKv c (castleLaneLostKv i.toNat))

/-- CASTLE_LINK_UP (R78). -/
def execCastleLinkUp (c : Chip) (s : State) : Result :=
  .next (s.onKv c castleLinkUpKv)

/-- ERROR_INJECT_GO (R80). -/
def execErrorInjectGo (h : HopEnd) (s : State) : Result :=
  .next (s.onInject h)

/-- PORT_EN_CLEAR (R88). -/
def execPortEnClear (c : Chip) (n : BitVec 5) (s : State) : Result :=
  .next (s.onKv c (portEnClearKv n.toNat))

/-- PORT_EN_SET (R88). -/
def execPortEnSet (c : Chip) (n : BitVec 5) (s : State) : Result :=
  .next (s.onKv c (portEnSetKv n.toNat))

/-- PORT_TXEN_CLEAR (R88). -/
def execPortTxenClear (c : Chip) (n : BitVec 5) (s : State) : Result :=
  .next (s.onKv c (portTxenClearKv n.toNat))

/-- LASER_INTERLOCK_CUT (R84). -/
def execLaserInterlockCut (c : Chip) (n : BitVec 5) (pwrok : PowerCause) (s : State) : Result :=
  .next (s.onKv c (laserInterlockCutKv n.toNat pwrok.pwrok pwrok.fault))

/-- PROBE_OFF_TIME_END (R86). -/
def execProbeOffTimeEnd (c : Chip) (n : BitVec 5) (s : State) : Result :=
  .next (s.onKv c (probeOffTimeEndKv n.toNat))

/-- PROBE_RESULT (R86). -/
def execProbeResult (c : Chip) (n : BitVec 5) (pwrok : Bool) (s : State) : Result :=
  .next (s.onKv c (probeResultKv n.toNat pwrok))

end Sys2Proof.Machine
end

