-- ==== Sys2Proof/Machine/ExecHosting.lean ====
section
/-! DEFINITION. Meanings: host interfaces and network time (R483 to R515), and the write of a register (R8). -/

namespace Sys2Proof.Machine

/-- BAR0_WRITE (R484). -/
def execBar0Write (c : Chip) (off : Word) (data : List Byte) (whole : Bool) (s : State) : Result :=
  .next (s.onKv c (fun x => (bar0WriteKv off.toNat data whole x).runSteps))

/-- BAR0_UNMAPPED_ACCESS (R484). -/
def execBar0UnmappedAccess (c : Chip) (off : Word) (s : State) : Result :=
  .next (s.onKv c (bar0UnmappedAccessKv off.toNat))

/-- BAR2_ACCESS (R484). -/
def execBar2Access (c : Chip) (off : Word) (n : Nat) (w : Option (List Byte)) (s : State) : Result :=
  .next (s.onKv c (bar2AccessKv off.toNat n w))

/-- PCIE_LINK_LOSS (R484). -/
def execPcieLinkLoss (c : Chip) (s : State) : Result :=
  .next (s.onKv c pcieLinkLossKv)

/-- PCIE_LINK_UP (R485). -/
def execPcieLinkUp (c : Chip) (speed width : BitVec 3) (s : State) : Result :=
  .next (s.onKv c (pcieLinkUpKv speed.toNat width.toNat))

/-- MSIX_VECTOR_UNMASK (R485). -/
def execMsixVectorUnmask (c : Chip) (v : BitVec 7) (s : State) : Result :=
  .next (s.onKv c (msixVectorUnmaskKv v.toNat))

/-- SYS_XD_ACCESS (R615). -/
def execSysXdAccess (c : Chip) (w : Option Word) (s : State) : Result :=
  .next (s.onKv c (sysXdAccessKv w))

/-- IMG_CFG_WRITE (R494). -/
def execImgCfgWrite (c : Chip) (v : Word) (s : State) : Result :=
  .next (s.onKv c (imgCfgWriteKv v.toNat))

/-- MAILBOX_SEND (R495). -/
def execMailboxSend (c : Chip) (mt : BitVec 16) (een : Bool) (etask : BitVec 5) (s : State) : Result :=
  .next (s.onKv c (mailboxSendKv mt.toNat een etask.toNat))

/-- MAILBOX_DELIVERY (R496). -/
def execMailboxDelivery (c : Chip) (s : State) : Result :=
  .next (s.onKv c mailboxDeliveryKv)

/-- TALLY_REQUEST (R497). -/
def execTallyRequest (c : Chip) (no tt : BitVec 16) (s : State) : Result :=
  .next (s.onKv c (tallyRequestKv no.toNat tt.toNat))

/-- TALLY_CLOSE (R502). -/
def execTallyClose (c : Chip) (s : State) : Result :=
  .next (s.onKv c tallyCloseKv)

/-- ETH_FRAME_RECEIVED (R504). -/
def execEthFrameReceived (c : Chip) (n : BitVec 1) (frame : List Byte) (fcs : Bool) (s : State) : Result :=
  .next (s.onKv c (ethFrameReceivedKv n.toNat frame fcs))

/-- ETH_TX_DESCRIPTOR (R505). -/
def execEthTxDescriptor (c : Chip) (n : BitVec 1) (s : State) : Result :=
  .next (s.onKv c (ethTxDescriptorKv n.toNat))

/-- ETH_TIMED_LAUNCH (R506). -/
def execEthTimedLaunch (c : Chip) (n : BitVec 1) (s : State) : Result :=
  .next (s.onKv c (ethTimedLaunchKv n.toNat))

/-- ETH_LINK_CHANGE (R409). -/
def execEthLinkChange (c : Chip) (n : BitVec 1) (up : Bool) (s : State) : Result :=
  .next (s.onKv c (ethLinkChangeKv n.toNat up))

/-- PTP_SYNC_SEND (R508). -/
def execPtpSyncSend (c : Chip) (s : State) : Result :=
  .next (s.onKv c ptpSyncSendKv)

/-- PTP_MESSAGE_RECEIVED (R507). -/
def execPtpMessageReceived (c : Chip) (n : BitVec 1) (dom : BitVec 8) (m : PtpMsg) (s : State) : Result :=
  .next (s.onKv c (ptpMessageReceivedKv n.toNat dom.toNat m))

/-- ANNOUNCE_TIMEOUT (R512). -/
def execAnnounceTimeout (c : Chip) (s : State) : Result :=
  .next (s.onKv c announceTimeoutKv)

/-- REGISTER_WRITE (R8). -/
def execRegisterWrite (r : RegBy) (off v : Word) (s : State) : Result :=
  .next (s.onRegister r off v)

end Sys2Proof.Machine
end

