-- ==== Sys2Proof/Machine/ExecInteger.lean ====
section
/-! DEFINITION. Meanings: the integer instructions of the Thimir cores (R296 to R299). -/

namespace Sys2Proof.Machine

/-- ADD (R297). -/
def execAdd (r : CoreRef) (rd ra rb : Gpr) (f : Bool) (s : State) : Result :=
  .next (s.onCore r (.alu .add rd ra rb f))

/-- SUB (R297). -/
def execSub (r : CoreRef) (rd ra rb : Gpr) (f : Bool) (s : State) : Result :=
  .next (s.onCore r (.alu .sub rd ra rb f))

/-- ADDS (R297). -/
def execAdds (r : CoreRef) (rd ra rb : Gpr) (f : Bool) (s : State) : Result :=
  .next (s.onCore r (.alu .adds rd ra rb f))

/-- SUBS (R297). -/
def execSubs (r : CoreRef) (rd ra rb : Gpr) (f : Bool) (s : State) : Result :=
  .next (s.onCore r (.alu .subs rd ra rb f))

/-- AND (R297). -/
def execAnd (r : CoreRef) (rd ra rb : Gpr) (f : Bool) (s : State) : Result :=
  .next (s.onCore r (.alu .and rd ra rb f))

/-- OR (R297). -/
def execOr (r : CoreRef) (rd ra rb : Gpr) (f : Bool) (s : State) : Result :=
  .next (s.onCore r (.alu .or rd ra rb f))

/-- XOR (R297). -/
def execXor (r : CoreRef) (rd ra rb : Gpr) (f : Bool) (s : State) : Result :=
  .next (s.onCore r (.alu .xor rd ra rb f))

/-- ANDN (R297). -/
def execAndn (r : CoreRef) (rd ra rb : Gpr) (f : Bool) (s : State) : Result :=
  .next (s.onCore r (.alu .andn rd ra rb f))

/-- SLL (R297). -/
def execSll (r : CoreRef) (rd ra rb : Gpr) (f : Bool) (s : State) : Result :=
  .next (s.onCore r (.alu .sll rd ra rb f))

/-- SRL (R297). -/
def execSrl (r : CoreRef) (rd ra rb : Gpr) (f : Bool) (s : State) : Result :=
  .next (s.onCore r (.alu .srl rd ra rb f))

/-- SRA (R297). -/
def execSra (r : CoreRef) (rd ra rb : Gpr) (f : Bool) (s : State) : Result :=
  .next (s.onCore r (.alu .sra rd ra rb f))

/-- ROR (R297). -/
def execRor (r : CoreRef) (rd ra rb : Gpr) (f : Bool) (s : State) : Result :=
  .next (s.onCore r (.alu .ror rd ra rb f))

/-- MUL (R297). -/
def execMul (r : CoreRef) (rd ra rb : Gpr) (f : Bool) (s : State) : Result :=
  .next (s.onCore r (.alu .mul rd ra rb f))

/-- MULH (R297). -/
def execMulh (r : CoreRef) (rd ra rb : Gpr) (f : Bool) (s : State) : Result :=
  .next (s.onCore r (.alu .mulh rd ra rb f))

/-- MULHU (R297). -/
def execMulhu (r : CoreRef) (rd ra rb : Gpr) (f : Bool) (s : State) : Result :=
  .next (s.onCore r (.alu .mulhu rd ra rb f))

/-- MIN (R297). -/
def execMin (r : CoreRef) (rd ra rb : Gpr) (f : Bool) (s : State) : Result :=
  .next (s.onCore r (.alu .min rd ra rb f))

/-- MAX (R297). -/
def execMax (r : CoreRef) (rd ra rb : Gpr) (f : Bool) (s : State) : Result :=
  .next (s.onCore r (.alu .max rd ra rb f))

/-- MINU (R297). -/
def execMinu (r : CoreRef) (rd ra rb : Gpr) (f : Bool) (s : State) : Result :=
  .next (s.onCore r (.alu .minu rd ra rb f))

/-- MAXU (R297). -/
def execMaxu (r : CoreRef) (rd ra rb : Gpr) (f : Bool) (s : State) : Result :=
  .next (s.onCore r (.alu .maxu rd ra rb f))

/-- ABS (R297). -/
def execAbs (r : CoreRef) (rd ra rb : Gpr) (f : Bool) (s : State) : Result :=
  .next (s.onCore r (.alu .abs rd ra rb f))

/-- NEG (R297). -/
def execNeg (r : CoreRef) (rd ra rb : Gpr) (f : Bool) (s : State) : Result :=
  .next (s.onCore r (.alu .neg rd ra rb f))

/-- CLZ (R297). -/
def execClz (r : CoreRef) (rd ra rb : Gpr) (f : Bool) (s : State) : Result :=
  .next (s.onCore r (.alu .clz rd ra rb f))

/-- DIV (R297). -/
def execDiv (r : CoreRef) (rd ra rb : Gpr) (f : Bool) (s : State) : Result :=
  .next (s.onCore r (.alu .div rd ra rb f))

/-- DIVU (R297). -/
def execDivu (r : CoreRef) (rd ra rb : Gpr) (f : Bool) (s : State) : Result :=
  .next (s.onCore r (.alu .divu rd ra rb f))

/-- REM (R297). -/
def execRem (r : CoreRef) (rd ra rb : Gpr) (f : Bool) (s : State) : Result :=
  .next (s.onCore r (.alu .rem rd ra rb f))

/-- REMU (R297). -/
def execRemu (r : CoreRef) (rd ra rb : Gpr) (f : Bool) (s : State) : Result :=
  .next (s.onCore r (.alu .remu rd ra rb f))

/-- CMP (R297). -/
def execCmp (r : CoreRef) (rd ra rb : Gpr) (f : Bool) (s : State) : Result :=
  .next (s.onCore r (.alu .cmp rd ra rb f))

/-- SLT (R297). -/
def execSlt (r : CoreRef) (rd ra rb : Gpr) (f : Bool) (s : State) : Result :=
  .next (s.onCore r (.alu .slt rd ra rb f))

/-- SLTU (R297). -/
def execSltu (r : CoreRef) (rd ra rb : Gpr) (f : Bool) (s : State) : Result :=
  .next (s.onCore r (.alu .sltu rd ra rb f))

/-- ADDI (R296). -/
def execAddi (r : CoreRef) (rd ra : Gpr) (v : BitVec 16) (s : State) : Result :=
  .next (s.onCore r (.imm .add rd ra v))

/-- ANDI (R296). -/
def execAndi (r : CoreRef) (rd ra : Gpr) (v : BitVec 16) (s : State) : Result :=
  .next (s.onCore r (.imm .and rd ra v))

/-- ORI (R296). -/
def execOri (r : CoreRef) (rd ra : Gpr) (v : BitVec 16) (s : State) : Result :=
  .next (s.onCore r (.imm .or rd ra v))

/-- XORI (R296). -/
def execXori (r : CoreRef) (rd ra : Gpr) (v : BitVec 16) (s : State) : Result :=
  .next (s.onCore r (.imm .xor rd ra v))

/-- LUI (R296). -/
def execLui (r : CoreRef) (rd : Gpr) (v : BitVec 16) (s : State) : Result :=
  .next (s.onCore r (.lui rd v))

/-- CMPI (R298). -/
def execCmpi (r : CoreRef) (ra : Gpr) (v : BitVec 16) (s : State) : Result :=
  .next (s.onCore r (.cmpi ra v))

/-- SLLI (R296). -/
def execSlli (r : CoreRef) (rd ra : Gpr) (amt : BitVec 5) (s : State) : Result :=
  .next (s.onCore r (.shi .sll rd ra amt))

/-- SRLI (R296). -/
def execSrli (r : CoreRef) (rd ra : Gpr) (amt : BitVec 5) (s : State) : Result :=
  .next (s.onCore r (.shi .srl rd ra amt))

/-- SRAI (R296). -/
def execSrai (r : CoreRef) (rd ra : Gpr) (amt : BitVec 5) (s : State) : Result :=
  .next (s.onCore r (.shi .sra rd ra amt))

/-- RORI (R296). -/
def execRori (r : CoreRef) (rd ra : Gpr) (amt : BitVec 5) (s : State) : Result :=
  .next (s.onCore r (.shi .ror rd ra amt))

/-- LI (R299). -/
def execLi (r : CoreRef) (rd : Gpr) (v : Word) (s : State) : Result :=
  .next (s.onCore r (.li rd v))

/-- ADDL (R299). -/
def execAddl (r : CoreRef) (rd ra : Gpr) (v : Word) (s : State) : Result :=
  .next (s.onCore r (.long .add rd ra v))

/-- ANDL (R299). -/
def execAndl (r : CoreRef) (rd ra : Gpr) (v : Word) (s : State) : Result :=
  .next (s.onCore r (.long .and rd ra v))

/-- ORL (R299). -/
def execOrl (r : CoreRef) (rd ra : Gpr) (v : Word) (s : State) : Result :=
  .next (s.onCore r (.long .or rd ra v))

/-- XORL (R299). -/
def execXorl (r : CoreRef) (rd ra : Gpr) (v : Word) (s : State) : Result :=
  .next (s.onCore r (.long .xor rd ra v))

/-- CMPL (R299). -/
def execCmpl (r : CoreRef) (ra : Gpr) (v : Word) (s : State) : Result :=
  .next (s.onCore r (.cmpl ra v))

end Sys2Proof.Machine
end

