-- ==== Sys2Proof/Machine/ExecMeasuring.lean ====
section
/-! DEFINITION. Meanings: measurement and capture of a cell (R193 to R215). -/

namespace Sys2Proof.Machine

/-- CELL_SAMPLE (R51). -/
def execCellSample (a : BitVec 13) (s0 : AinCodes) (offs : List Nat) (codes : List AinCodes) (die : BitVec 10) (s : State) : Result :=
  .next (s.onCell a (cellSampleCell ((0, s0) :: offs.zip codes) die.toNat))

/-- REPORT_FREEZE (R206). -/
def execReportFreeze (a : BitVec 13) (offs : List Nat) (codes : List AinCodes) (s : State) : Result :=
  .next (s.onCell a (reportFreezeCell (offs.zip codes)))

/-- ADC_INJ_GO (R200). -/
def execAdcInjGo (a : BitVec 13) (inp : InjRequest) (s : State) : Result :=
  .next (s.onCell a (adcInjGoCell inp.inp.toNat inp.t))

/-- INJECTED_CONVERSION_DONE (R200). -/
def execInjectedConversionDone (a : BitVec 13) (code : InjDone) (s : State) : Result :=
  .next (s.onCell a (injectedConversionDoneCell code.inp code.t))

/-- ADC_CAL_GO (R202). -/
def execAdcCalGo (a : BitVec 13) (s : State) : Result :=
  .next (s.onCell a adcCalGoCell)

/-- CALIBRATION_RUN_START (R201). -/
def execCalibrationRunStart (a : BitVec 13) (s : State) : Result :=
  .next (s.onCell a calibrationRunStartCell)

/-- CALIBRATION_RUN_END (R201). -/
def execCalibrationRunEnd (a : BitVec 13) (ofs gain : Int) (res : BitVec 16) (s : State) : Result :=
  .next (s.onCell a (calibrationRunEndCell ofs gain res.toNat))

/-- CAP_ARM (R211). -/
def execCapArm (a : CellInstant) (s : State) : Result :=
  .next (s.onCell a.cell (capArmCell a.tofs.toNat))

/-- CAP_ABORT (R215). -/
def execCapAbort (a : CellInstant) (s : State) : Result :=
  .next (s.onCell a.cell (capAbortCell a.tofs.toNat))

/-- CAP_TRIG (R212). -/
def execCapTrig (a tofs : BitVec 13) (s : State) : Result :=
  .next (s.onCell a (capTrigCell tofs.toNat))

/-- CAP_TRIGGER (R214). -/
def execCapTrigger (a : BitVec 13) (src : BitVec 3) (tofs : BitVec 13) (s : State) : Result :=
  .next (s.onCell a (capTriggerCell src.toNat tofs.toNat))

/-- CAP_POST_COMPLETE (R211). -/
def execCapPostComplete (a : BitVec 13) (s : State) : Result :=
  .next (s.onCell a capPostCompleteCell)

end Sys2Proof.Machine
end

