-- ==== Sys2Proof/Machine/ExecMemories.lean ====
section
/-! DEFINITION. Meanings: memories and check values (R460 to R482). -/

namespace Sys2Proof.Machine

/-- MEMORY_READ_CORRECTED (R467). -/
def execMemoryReadCorrected (w : MemOf) (addr : BitVec 36) (e : Symbols) (s : State) : Result :=
  .next (s.onMem w (memoryReadCorrectedKv e.toNat addr.toNat) (memoryReadCorrectedCell e.toNat addr.toNat))

/-- MEMORY_READ_UNCORRECTABLE (R468). -/
def execMemoryReadUncorrectable (r : ReadBy) (s : State) : Result :=
  .next (s.onReadBy r)

/-- PARTIAL_STORE_MERGE (R469). -/
def execPartialStoreMerge (w : MemOf) (addr : BitVec 36) (v : BitVec 64) (n : BitVec 3) (s : State) : Result :=
  .next (s.onMem w (partialStoreMergeKv v.toNat n.toNat addr.toNat) (partialStoreMergeCell v.toNat n.toNat addr.toNat))

/-- PATROL_SCRUB_READ (R472). -/
def execPatrolScrubRead (w : MemOf) (addr : BitVec 36) (e : Symbols) (detected : Bool) (s : State) : Result :=
  .next (s.onMem w (patrolScrubReadKv e.toNat detected addr.toNat) (patrolScrubReadCell e.toNat detected addr.toNat))

/-- MEM_INIT (R465). -/
def execMemInit (c : Chip) (s : State) : Result :=
  .next (s.onKv c memInitKv)

/-- MEM_INIT_DONE (R465). -/
def execMemInitDone (c : Chip) (s : State) : Result :=
  .next (s.onKv c memInitDoneKv)

/-- MEM_HWIN_WRITE (R464). -/
def execMemHwinWrite (c : Chip) (v : Word) (s : State) : Result :=
  .next (s.onKv c (memHwinWriteKv v.toNat))

/-- CRC_GO (R474). -/
def execCrcGo (c : Chip) (n : BitVec 2) (v : Word) (s : State) : Result :=
  .next (s.onKv c (crcGoKv n.toNat v.toNat))

/-- CRC_EN_CLEAR (R476). -/
def execCrcEnClear (c : Chip) (n : BitVec 2) (k : Nat) (s : State) : Result :=
  .next (s.onKv c (crcEnClearKv n.toNat k))

/-- CRC_SCAN_DONE (R474). -/
def execCrcScanDone (c : Chip) (n : BitVec 2) (s : State) : Result :=
  .next (s.onKv c (crcScanDoneKv n.toNat))

/-- CRC_REPEAT (R474). -/
def execCrcRepeat (c : Chip) (n : BitVec 2) (s : State) : Result :=
  .next (s.onKv c (crcRepeatKv n.toNat))

/-- CRC_PREEMPT (R478). -/
def execCrcPreempt (c : Chip) (k : Nat) (s : State) : Result :=
  .next (s.onKv c (crcPreemptKv k))

end Sys2Proof.Machine
end

