-- ==== Sys2Proof/Machine/ExecModule.lean ====
section
/-! DEFINITION. Meanings: the module around the cell (R142 to R167, R606, R623). -/

namespace Sys2Proof.Machine

/-- PASS_THROUGH_CLOSE (R144). -/
def execPassThroughClose (a : BitVec 13) (s : State) : Result :=
  .next (s.onCell a passThroughCloseCell)

/-- PASS_THROUGH_OPEN (R145). -/
def execPassThroughOpen (a : BitVec 13) (s : State) : Result :=
  .next (s.onCell a passThroughOpenCell)

/-- PASS_THROUGH_OPEN_FAIL (R145). -/
def execPassThroughOpenFail (a : BitVec 13) (s : State) : Result :=
  .next (s.onCell a passThroughOpenFailCell)

/-- PASS_THROUGH_RETRY (R145). -/
def execPassThroughRetry (a : BitVec 13) (s : State) : Result :=
  .next (s.onCell a passThroughRetryCell)

/-- POWER_STATE_FALL (R148). -/
def execPowerStateFall (a : BitVec 13) (pvw pve : BitVec 8) (lpw lpe vaux : Bool) (s : State) : Result :=
  .next (s.onCell a (powerStateFallCell pvw.toNat pve.toNat lpw lpe vaux))

/-- POWER_STATE_RISE (R148). -/
def execPowerStateRise (a : BitVec 13) (pvw pve : BitVec 8) (lpw lpe vaux : Bool) (s : State) : Result :=
  .next (s.onCell a (powerStateRiseCell pvw.toNat pve.toNat lpw lpe vaux))

/-- GUARD_POWER_ON (R159). -/
def execGuardPowerOn (a : BitVec 13) (pvw pve : BitVec 8) (lpw lpe vaux : Bool) (s : State) : Result :=
  .next (s.onCell a (guardPowerOnCell pvw.toNat pve.toNat lpw lpe vaux))

/-- GUARD_SAMPLE (R151). -/
def execGuardSample (a : BitVec 13) (uv : Int) (t : Nat) (s : State) : Result :=
  .next (s.onCell a (guardSampleCell uv t))

/-- GUARD_BYP_FIRE (R152). -/
def execGuardBypFire (a : BitVec 13) (s : State) : Result :=
  .next (s.onCell a guardBypFireCell)

/-- GUARD_CLEAR (R154). -/
def execGuardClear (a : BitVec 13) (ov md : Bool) (s : State) : Result :=
  .next (s.onCell a (guardClearCell ov md))

/-- GUARD_MAIN_RETRY (R156). -/
def execGuardMainRetry (a : BitVec 13) (s : State) : Result :=
  .next (s.onCell a guardMainRetryCell)

/-- WATCHDOG_EXPIRY (R158). -/
def execWatchdogExpiry (a : BitVec 13) (s : State) : Result :=
  .next (s.onCell a watchdogExpiryCell)

/-- CELL_CORE_RESET (R159). -/
def execCellCoreReset (a : BitVec 13) (s : State) : Result :=
  .next (s.onCell a cellCoreResetCell)

/-- MAIN_DOMAIN_RESET (R159). -/
def execMainDomainReset (a : BitVec 13) (written : Bool) (s : State) : Result :=
  .next (s.onCell a (mainDomainResetCell written))

/-- MAIN_DOMAIN_START (R623). -/
def execMainDomainStart (a : BitVec 13) (b0 b1 : ImgChk) (fail : CellStart) (s : State) : Result :=
  .next (s.onCell a (mainDomainStartCell b0 b1 fail))

/-- CELL_CORE_EXCEPTION (R332). -/
def execCellCoreException (a : BitVec 13) (cause : BitVec 4) (pc : BitVec 16) (s : State) : Result :=
  .next (s.onCell a (cellCoreExceptionCell cause.toNat pc.toNat))

/-- CELL_EVENT_RAISE (R162). -/
def execCellEventRaise (a : BitVec 13) (src : BitVec 5) (s : State) : Result :=
  .next (s.onCell a (cellEventRaiseCell src.toNat))

/-- CC_EVP_WRITE (R162). -/
def execCcEvpWrite (a : BitVec 13) (v : Word) (s : State) : Result :=
  .next (s.onCell a (ccEvpWriteCell v.toNat))

/-- CELL_TEMP_RESET (R606). -/
def execCellTempReset (a : BitVec 13) (s : State) : Result :=
  .next (s.onCell a cellTempResetCell)

end Sys2Proof.Machine
end

