-- ==== Sys2Proof/Machine/ExecSecuring.lean ====
section
/-! DEFINITION. Meanings: key stores and debug ports (R543 to R558). -/

namespace Sys2Proof.Machine

/-- KEY_PROG (R547). -/
def execKeyProg (p : Part) (slot : BitVec 3) (code : BitVec 16) (s : State) : Result :=
  .next (s.onPart p (keyProgKv slot.toNat code) (keyProgCell slot.toNat code))

/-- KEY_REVOKE (R547). -/
def execKeyRevoke (p : Part) (slot : BitVec 3) (code : BitVec 16) (s : State) : Result :=
  .next (s.onPart p (keyRevokeKv slot.toNat code) (keyRevokeCell slot.toNat code))

/-- SEAL (R544). -/
def execSealPart (p : Part) (code : BitVec 16) (s : State) : Result :=
  .next (s.onPart p (sealKv code) (sealCell code))

/-- RETIRE (R545). -/
def execRetire (p : Part) (code : BitVec 16) (s : State) : Result :=
  .next (s.onPart p (retireKv code) (retireCell code))

/-- SVUP (R547). -/
def execSvup (p : Part) (code : BitVec 16) (s : State) : Result :=
  .next (s.onPart p (svupKv code) (svupCell code))

/-- DEBUG_CHAL (R553). -/
def execDebugChal (p : Part) (probe : Bool) (s : State) : Result :=
  .next (s.onPart p (debugChalKv (pathOf probe)) (debugChalCell (pathOf probe)))

/-- DEBUG_VERIFY (R553). -/
def execDebugVerify (p : Part) (probe : Bool) (level : BitVec 2) (svc : Bool) (dslot : BitVec 1) (s : State) : Result :=
  .next (s.onPart p (debugVerifyKv (pathOf probe) level.toNat svc dslot.toNat) (debugVerifyCell (pathOf probe) level.toNat svc))

/-- DEBUG_VERIFY_DONE (R553). -/
def execDebugVerifyDone (p : Part) (hash : BitVec 384) (sig : Bool) (s : State) : Result :=
  .next (s.onPart p (debugVerifyDoneKv hash sig) (debugVerifyDoneCell hash sig))

/-- DEBUG_CLOSE (R555). -/
def execDebugClose (p : Part) (probe : Bool) (s : State) : Result :=
  .next (s.onPart p (debugCloseKv (pathOf probe)) (debugCloseCell (pathOf probe)))

/-- SESSION_IDLE_TIMEOUT (R555). -/
def execSessionIdleTimeout (p : Part) (s : State) : Result :=
  .next (s.onPart p sessionIdleTimeoutKv sessionIdleTimeoutCell)

/-- PROBE_DISCONNECT (R555). -/
def execProbeDisconnect (p : Part) (s : State) : Result :=
  .next (s.onPart p probeDisconnectKv probeDisconnectCell)

/-- AUTH_LOCKOUT_END (R553). -/
def execAuthLockoutEnd (p : Part) (s : State) : Result :=
  .next (s.onPart p authLockoutEndKv authLockoutEndCell)

/-- DEBUG_NONCE_EXPIRY (R554). -/
def execDebugNonceExpiry (p : Part) (s : State) : Result :=
  .next (s.onPart p debugNonceExpiryKv debugNonceExpiryCell)

/-- CORE_HALT (R556). -/
def execCoreHalt (c : Chip) (probe : Bool) (mask : BitVec 16) (s : State) : Result :=
  .next (s.onKv c (coreHaltKv (pathOf probe) mask.toNat))

/-- CORE_RESUME (R556). -/
def execCoreResume (c : Chip) (probe : Bool) (mask : BitVec 16) (s : State) : Result :=
  .next (s.onKv c (coreResumeKv (pathOf probe) mask.toNat))

/-- CORE_STEP (R556). -/
def execCoreStep (c : Chip) (probe : Bool) (mask : BitVec 16) (s : State) : Result :=
  .next (s.onKv c (coreStepKv (pathOf probe) mask.toNat))

/-- CELL_HALT (R557). -/
def execCellHalt (a : BitVec 13) (probe : Bool) (s : State) : Result :=
  .next (s.onCell a (cellHaltCell (pathOf probe)))

/-- CELL_RESUME (R557). -/
def execCellResume (a : BitVec 13) (probe : Bool) (s : State) : Result :=
  .next (s.onCell a (cellResumeCell (pathOf probe)))

/-- CELL_STEP (R557). -/
def execCellStep (a : BitVec 13) (probe : Bool) (s : State) : Result :=
  .next (s.onCell a (cellStepCell (pathOf probe)))

/-- CC_BOOT_CHK (R551). -/
def execCcBootChk (a : BitVec 13) (i : ImgChk) (s : State) : Result :=
  .next (s.onCell a (ccBootChkCell i))

/-- CC_BOOT_SEL_WRITE (R551). -/
def execCcBootSelWrite (a : BitVec 13) (v : Word) (s : State) : Result :=
  .next (s.onCell a (ccBootSelWriteCell v.toNat))

end Sys2Proof.Machine
end

