-- ==== Sys2Proof/Machine/ExecStarting.lean ====
section
/-! DEFINITION. Meanings: power states, resets and start-up (R559 to R584, R605). -/

namespace Sys2Proof.Machine

/-- POWER_REQUEST_RUN (R559). -/
def execPowerRequestRun (c : Chip) (s : State) : Result :=
  .next (s.onKv c powerRequestRunKv)

/-- POWER_REQUEST_PARKED (R559). -/
def execPowerRequestParked (c : Chip) (s : State) : Result :=
  .next (s.onKv c powerRequestParkedKv)

/-- POWER_REQUEST_STANDBY (R559). -/
def execPowerRequestStandby (c : Chip) (s : State) : Result :=
  .next (s.onKv c powerRequestStandbyKv)

/-- POWER_ON_RESET (R569). -/
def execPowerOnReset (c : Chip) (s : State) : Result :=
  .next (s.onKvAlways c powerOnResetKv)

/-- RESET_RELEASE (R572). -/
def execResetRelease (c : Chip) (bench kflt : Bool) (s : State) : Result :=
  .next (s.onKvAlways c (resetReleaseKv bench kflt))

/-- RESETN_ASSERT (R569). -/
def execResetnAssert (c : Chip) (s : State) : Result :=
  .next (s.onKv c resetnAssertKv)

/-- CHIP_RESET (R569). -/
def execChipReset (c : Chip) (code : BitVec 16) (s : State) : Result :=
  .next (s.onKv c (chipResetKv code))

/-- SERDES_WEST_RESET (R569). -/
def execSerdesWestReset (c : Chip) (code : BitVec 16) (s : State) : Result :=
  .next (s.onKv c (serdesWestResetKv code))

/-- SERDES_EAST_RESET (R569). -/
def execSerdesEastReset (c : Chip) (code : BitVec 16) (s : State) : Result :=
  .next (s.onKv c (serdesEastResetKv code))

/-- OVER_TEMPERATURE_RESET (R606). -/
def execOverTemperatureReset (c : Chip) (s : State) : Result :=
  .next (s.onKv c overTemperatureResetKv)

/-- PHASE_COMPLETE (R572). -/
def execPhaseComplete (c : Chip) (mem : Bool) (primary secondary : Image) (s : State) : Result :=
  .next (s.onKv c (phaseCompleteKv mem primary secondary))

/-- PROBE_START_ROLE_A (R574). -/
def execProbeStartRoleA (c : Chip) (n : BitVec 5) (s : State) : Result :=
  .next (s.onKv c (probeStartRoleAKv n.toNat))

/-- PROBE_START_ROLE_B (R574). -/
def execProbeStartRoleB (c : Chip) (n : BitVec 5) (late : Bool) (s : State) : Result :=
  .next (s.onKv c (probeStartRoleBKv n.toNat late))

/-- DISCOVERY_STABLE (R577). -/
def execDiscoveryStable (c : Chip) (s : State) : Result :=
  .next (s.onKv c discoveryStableKv)

/-- CELL_IDENTITY_CHECK (R579). -/
def execCellIdentityCheck (c : Chip) (a : BitVec 13) (ident : Option Word) (s : State) : Result :=
  .next (s.onKv c (cellIdentityCheckKv a.toNat ident))

/-- SYS_BOOT_LOAD (R582). -/
def execSysBootLoad (c : Chip) (slot : Bool) (s : State) : Result :=
  .next (s.onKv c (sysBootLoadKv slot))

/-- SYS_BOOT_RECHK (R582). -/
def execSysBootRechk (c : Chip) (s : State) : Result :=
  .next (s.onKv c sysBootRechkKv)

/-- DIE_TEMPERATURE_WARNING (R605). -/
def execDieTemperatureWarning (c : Chip) (s : State) : Result :=
  .next (s.onKv c dieTemperatureWarningKv)

end Sys2Proof.Machine
end

