-- ==== Sys2Proof/Machine/ExecStorage.lean ====
section
/-! DEFINITION. Meanings: the loads, stores, atomic and cell record instructions (R301 to R307). -/

namespace Sys2Proof.Machine

/-- LDW (R301). -/
def execLdw (r : CoreRef) (rd ra : Gpr) (v : BitVec 16) (s : State) : Result :=
  .next (s.onCore r (.load .w rd ra v))

/-- LDH (R301). -/
def execLdh (r : CoreRef) (rd ra : Gpr) (v : BitVec 16) (s : State) : Result :=
  .next (s.onCore r (.load .h rd ra v))

/-- LDHU (R301). -/
def execLdhu (r : CoreRef) (rd ra : Gpr) (v : BitVec 16) (s : State) : Result :=
  .next (s.onCore r (.load .hu rd ra v))

/-- LDB (R301). -/
def execLdb (r : CoreRef) (rd ra : Gpr) (v : BitVec 16) (s : State) : Result :=
  .next (s.onCore r (.load .b rd ra v))

/-- LDBU (R301). -/
def execLdbu (r : CoreRef) (rd ra : Gpr) (v : BitVec 16) (s : State) : Result :=
  .next (s.onCore r (.load .bu rd ra v))

/-- LDD (R301). -/
def execLdd (r : CoreRef) (rd ra : Gpr) (v : BitVec 16) (s : State) : Result :=
  .next (s.onCore r (.load .d rd ra v))

/-- STW (R301). -/
def execStw (r : CoreRef) (rd ra : Gpr) (v : BitVec 16) (s : State) : Result :=
  .next (s.onCore r (.store .w rd ra v))

/-- STH (R301). -/
def execSth (r : CoreRef) (rd ra : Gpr) (v : BitVec 16) (s : State) : Result :=
  .next (s.onCore r (.store .h rd ra v))

/-- STB (R301). -/
def execStb (r : CoreRef) (rd ra : Gpr) (v : BitVec 16) (s : State) : Result :=
  .next (s.onCore r (.store .b rd ra v))

/-- STD (R301). -/
def execStd (r : CoreRef) (rd ra : Gpr) (v : BitVec 16) (s : State) : Result :=
  .next (s.onCore r (.store .d rd ra v))

/-- SWAP (R302). -/
def execSwap (r : CoreRef) (rd ra rb : Gpr) (s : State) : Result :=
  .next (s.onCore r (.atom .swap rd ra rb))

/-- ADDA (R302). -/
def execAdda (r : CoreRef) (rd ra rb : Gpr) (s : State) : Result :=
  .next (s.onCore r (.atom .adda rd ra rb))

/-- ANDA (R302). -/
def execAnda (r : CoreRef) (rd ra rb : Gpr) (s : State) : Result :=
  .next (s.onCore r (.atom .anda rd ra rb))

/-- ORA (R302). -/
def execOra (r : CoreRef) (rd ra rb : Gpr) (s : State) : Result :=
  .next (s.onCore r (.atom .ora rd ra rb))

/-- CAS (R302). -/
def execCas (r : CoreRef) (rd ra rb : Gpr) (s : State) : Result :=
  .next (s.onCore r (.atom .cas rd ra rb))

/-- CFX (R306). -/
def execCfx (r : CoreRef) (rd ra : Gpr) (lsb : BitVec 8) (w : BitVec 5) (sgn bank : Bool) (s : State) : Result :=
  .next (s.onCore r (.cfx rd ra lsb w sgn bank))

/-- CLW (R305). -/
def execClw (r : CoreRef) (rd ra : Gpr) (off : BitVec 8) (s : State) : Result :=
  .next (s.onCore r (.clw rd ra off))

/-- CSW (R307). -/
def execCsw (r : CoreRef) (rd ra : Gpr) (off : BitVec 8) (s : State) : Result :=
  .next (s.onCore r (.csw rd ra off))

end Sys2Proof.Machine
end

