-- ==== Sys2Proof/Machine/ExecSwitching.lean ====
section
/-! DEFINITION. Meanings: the switching generator (R168 to R191). -/

namespace Sys2Proof.Machine

/-- GEN_EDGE (R171). -/
def execGenEdge (a : BitVec 13) (s : State) : Result :=
  .next (s.onCell a genEdgeCell)

/-- GATE_TURN_ON (R173). -/
def execGateTurnOn (a : BitVec 13) (i : BitVec 2) (s : State) : Result :=
  .next (s.onCell a (gateTurnOnCell i.toNat))

/-- STRETCH_END (R175). -/
def execStretchEnd (a : BitVec 13) (s : State) : Result :=
  .next (s.onCell a stretchEndCell)

/-- TRIP_INPUT_ACTIVE (R178). -/
def execTripInputActive (a : BitVec 13) (i : BitVec 3) (t : TripChange) (s : State) : Result :=
  .next (s.onCell a (tripInputActiveCell i.toNat t.t t.now))

/-- BYPASS_ARMED_FIRE (R181). -/
def execBypassArmedFire (a : BitVec 13) (s : State) : Result :=
  .next (s.onCell a bypassArmedFireCell)

/-- GEN_MINP_DT_WRITE (R174). -/
def execGenMinpDtWrite (a : BitVec 13) (dt : Bool) (v : Word) (s : State) : Result :=
  .next (s.onCell a (genMinpDtWriteCell dt v.toNat))

/-- GEN_SRC_SET (R177). -/
def execGenSrcSet (a : BitVec 13) (s : State) : Result :=
  .next (s.onCell a genSrcSetCell)

/-- GEN_LPA_WRITE (R177). -/
def execGenLpaWrite (a : BitVec 13) (v : Word) (s : State) : Result :=
  .next (s.onCell a (genLpaWriteCell v.toNat))

/-- GEN_LPB_WRITE (R177). -/
def execGenLpbWrite (a : BitVec 13) (v : Word) (s : State) : Result :=
  .next (s.onCell a (genLpbWriteCell v.toNat))

/-- LOCAL_PAIR_TORN (R177). -/
def execLocalPairTorn (a : BitVec 13) (s : State) : Result :=
  .next (s.onCell a localPairTornCell)

/-- GEN_FREEZE (R185). -/
def execGenFreeze (a : BitVec 13) (s : State) : Result :=
  .next (s.onCell a genFreezeCell)

/-- GEN_FREEZE_RELEASE (R185). -/
def execGenFreezeRelease (a : BitVec 13) (s : State) : Result :=
  .next (s.onCell a genFreezeReleaseCell)

/-- PARK_HALT_TAKES_EFFECT (R185). -/
def execParkHaltTakesEffect (a : BitVec 13) (s : State) : Result :=
  .next (s.onCell a parkHaltTakesEffectCell)

end Sys2Proof.Machine
end

