-- ==== Sys2Proof/Machine/ExecSystem.lean ====
section
/-! DEFINITION. Meanings: the system instructions, and what ends a wait (R317 to R328). -/

namespace Sys2Proof.Machine

/-- TICKWAIT (R317). -/
def execTickwait (r : CoreRef) (ra : Gpr) (mode : Bool) (s : State) : Result :=
  .next (s.onCore r (.tickwait ra mode))

/-- TICKWAIT_COMPLETE (R317). -/
def execTickwaitComplete (r : CoreRef) (s : State) : Result :=
  .next (s.onCoreBy r (fun n => tickwaitCompleteKv n) tickwaitCompleteCell)

/-- POST (R318). -/
def execPost (r : CoreRef) (ra : Gpr) (s : State) : Result :=
  .next (s.onCore r (.post ra))

/-- TAKE (R319). -/
def execTakeItem (r : CoreRef) (s : State) : Result :=
  .next (s.onCore r .take)

/-- YIELD (R320). -/
def execYieldItem (r : CoreRef) (ra : Gpr) (s : State) : Result :=
  .next (s.onCore r (.yield ra))

/-- FLOWEND (R321). -/
def execFlowend (r : CoreRef) (s : State) : Result :=
  .next (s.onCore r .flowend)

/-- PUB (R322). -/
def execPub (r : CoreRef) (ra rb : Gpr) (s : State) : Result :=
  .next (s.onCore r (.pub ra rb))

/-- LEDG (R323). -/
def execLedg (r : CoreRef) (ra rb : Gpr) (s : State) : Result :=
  .next (s.onCore r (.ledg ra rb))

/-- MFC (R324). -/
def execMfc (r : CoreRef) (rd num : BitVec 5) (s : State) : Result :=
  .next (s.onCore r (.mfc rd num))

/-- MTC (R324). -/
def execMtc (r : CoreRef) (num ra : BitVec 5) (s : State) : Result :=
  .next (s.onCore r (.mtc num ra))

/-- RTT (R326). -/
def execRtt (r : CoreRef) (adv : Bool) (s : State) : Result :=
  .next (s.onCore r (.rtt adv))

/-- TRAP (R324). -/
def execTrap (r : CoreRef) (code : BitVec 5) (s : State) : Result :=
  .next (s.onCore r (.trap code))

/-- BREAK (R328). -/
def execBrk (r : CoreRef) (s : State) : Result :=
  .next (s.onCore r .brk)

/-- CLRQ (R324). -/
def execClrq (r : CoreRef) (s : State) : Result :=
  .next (s.onCore r .clrq)

/-- FENCE (R303). -/
def execFence (r : CoreRef) (s : State) : Result :=
  .next (s.onCore r .fence)

/-- ILLEGAL_INSTRUCTION (R294). -/
def execIllegalInstruction (r : CoreRef) (w imm : Word) (s : State) : Result :=
  .next (s.onCoreBy r (fun n => illegalInstructionKv n w imm) (illegalInstructionCell w imm))

end Sys2Proof.Machine
end

