-- ==== Sys2Proof/Machine/ExecTime.lean ====
section
/-! DEFINITION. Meanings: the time base (R30 to R59, R509). -/

namespace Sys2Proof.Machine

/-- TICK_BOUNDARY (R35). -/
def execTickBoundary (c : Chip) (meas : Option ClStamps) (s : State) : Result :=
  .next (s.onKvAlways c (tickBoundaryKv (s.chip c.other) meas))

/-- ALIGNED_SET (R39). -/
def execAlignedSet (c : Chip) (s : State) : Result :=
  .next (s.onKv c alignedSetKv)

/-- TIM_INCI_WRITE (R31). -/
def execTimInciWrite (c : Chip) (v : Word) (s : State) : Result :=
  .next (s.onKv c (timInciWriteKv v.toNat))

/-- TIM_TICKL_READ (R34). -/
def execTimTicklRead (c : Chip) (s : State) : Result :=
  .next (s.onKv c timTicklReadKv)

/-- TIM_TICKLEN_WRITE (R36). -/
def execTimTicklenWrite (c : Chip) (v : Word) (s : State) : Result :=
  .next (s.onKv c (timTicklenWriteKv v.toNat))

/-- TIM_SPRD_WRITE (R42). -/
def execTimSprdWrite (c : Chip) (v : Word) (s : State) : Result :=
  .next (s.onKv c (timSprdWriteKv v.toNat))

/-- REFCLK_LOSS (R54). -/
def execRefclkLoss (c : Chip) (s : State) : Result :=
  .next (s.onKvAlways c refclkLossKv)

/-- REGION_DIFFERENCE (R53). -/
def execRegionDifference (c : Chip) (mv : BitVec 16) (s : State) : Result :=
  .next (s.onKvAlways c (regionDifferenceKv mv.toNat))

/-- TIM_CBASE_WRITE (R509). -/
def execTimCbaseWrite (c : Chip) (v : Word) (s : State) : Result :=
  .next (s.onKv c (timCbaseWriteKv v.toNat))

/-- MAPPING_STALE (R509). -/
def execMappingStale (c : Chip) (s : State) : Result :=
  .next (s.onKv c mappingStaleKv)

end Sys2Proof.Machine
end

