-- ==== Sys2Proof/Machine/Dispatch.lean ====
section
/-! DEFINITION. One arm per command. -/

namespace Sys2Proof.Machine

/-- The effect of a command on everything but the queue. -/
def exec (i : Instr) (s : State) : Host.Outcome State Fault Refusal :=
  match i with
  | .tickBoundary c meas => Sys2Proof.Machine.execTickBoundary c meas s
  | .alignedSet c => Sys2Proof.Machine.execAlignedSet c s
  | .timInciWrite c v => Sys2Proof.Machine.execTimInciWrite c v s
  | .timTicklRead c => Sys2Proof.Machine.execTimTicklRead c s
  | .timTicklenWrite c v => Sys2Proof.Machine.execTimTicklenWrite c v s
  | .timSprdWrite c v => Sys2Proof.Machine.execTimSprdWrite c v s
  | .refclkLoss c => Sys2Proof.Machine.execRefclkLoss c s
  | .regionDifference c mv => Sys2Proof.Machine.execRegionDifference c mv s
  | .timCbaseWrite c v => Sys2Proof.Machine.execTimCbaseWrite c v s
  | .mappingStale c => Sys2Proof.Machine.execMappingStale c s
  | .headerReceived a p h arr lat ppm => Sys2Proof.Machine.execHeaderReceived a p h arr lat ppm s
  | .cellTickBoundary a act => Sys2Proof.Machine.execCellTickBoundary a act s
  | .commandSlotReceived a p slot => Sys2Proof.Machine.execCommandSlotReceived a p slot s
  | .reportSlotWrite a p => Sys2Proof.Machine.execReportSlotWrite a p s
  | .trailerForward a p t => Sys2Proof.Machine.execTrailerForward a p t s
  | .cellCommandDeadline a => Sys2Proof.Machine.execCellCommandDeadline a s
  | .holdLimit a => Sys2Proof.Machine.execHoldLimit a s
  | .modePark a => Sys2Proof.Machine.execModePark a s
  | .modeActive a slot => Sys2Proof.Machine.execModeActive a slot s
  | .modeHoldlast a => Sys2Proof.Machine.execModeHoldlast a s
  | .modeBypassFire a side => Sys2Proof.Machine.execModeBypassFire a side s
  | .modeDischarge a => Sys2Proof.Machine.execModeDischarge a s
  | .modeSensor a => Sys2Proof.Machine.execModeSensor a s
  | .bcmdTallyLatch a no => Sys2Proof.Machine.execBcmdTallyLatch a no s
  | .bcmdCaptureArm a => Sys2Proof.Machine.execBcmdCaptureArm a s
  | .bcmdTripClear a act => Sys2Proof.Machine.execBcmdTripClear a act s
  | .bcmdClearShdw a => Sys2Proof.Machine.execBcmdClearShdw a s
  | .bcmdAcknowledge a => Sys2Proof.Machine.execBcmdAcknowledge a s
  | .sideRd a p => Sys2Proof.Machine.execSideRd a p s
  | .sideWa a p => Sys2Proof.Machine.execSideWa a p s
  | .sideWd a p => Sys2Proof.Machine.execSideWd a p s
  | .positionDrop a => Sys2Proof.Machine.execPositionDrop a s
  | .foldOnset a p => Sys2Proof.Machine.execFoldOnset a p s
  | .foldEnd a p => Sys2Proof.Machine.execFoldEnd a p s
  | .foldFrameLaunch a p lofs => Sys2Proof.Machine.execFoldFrameLaunch a p lofs s
  | .midFrameLockLoss h => Sys2Proof.Machine.execMidFrameLockLoss h s
  | .reportSlotAccept c n k slot => Sys2Proof.Machine.execReportSlotAccept c n k slot s
  | .reportStagingWrite c => Sys2Proof.Machine.execReportStagingWrite c s
  | .reportArrivalPoint c n => Sys2Proof.Machine.execReportArrivalPoint c n s
  | .foldFrameArrival c n h => Sys2Proof.Machine.execFoldFrameArrival c n h s
  | .signalDetect h => Sys2Proof.Machine.execSignalDetect h s
  | .signalLoss h => Sys2Proof.Machine.execSignalLoss h s
  | .trainingBlockReceived h pos marker kind sig rest => Sys2Proof.Machine.execTrainingBlockReceived h pos marker kind sig rest s
  | .trainReady h => Sys2Proof.Machine.execTrainReady h s
  | .trainTimeout h => Sys2Proof.Machine.execTrainTimeout h s
  | .shiftEnd h => Sys2Proof.Machine.execShiftEnd h s
  | .blockLock h => Sys2Proof.Machine.execBlockLock h s
  | .blockLockLoss h => Sys2Proof.Machine.execBlockLockLoss h s
  | .huntPolarityInvert h => Sys2Proof.Machine.execHuntPolarityInvert h s
  | .hopUp h => Sys2Proof.Machine.execHopUp h s
  | .huntTimeout h => Sys2Proof.Machine.execHuntTimeout h s
  | .blindStartFail h => Sys2Proof.Machine.execBlindStartFail h s
  | .blindRetry h => Sys2Proof.Machine.execBlindRetry h s
  | .testPatternDeselect h => Sys2Proof.Machine.execTestPatternDeselect h s
  | .adaptationFreeze h => Sys2Proof.Machine.execAdaptationFreeze h s
  | .adaptationResume h => Sys2Proof.Machine.execAdaptationResume h s
  | .adaptationStep h dir => Sys2Proof.Machine.execAdaptationStep h dir s
  | .laneMarkerReceived c n lane => Sys2Proof.Machine.execLaneMarkerReceived c n lane s
  | .castleLinkDown c => Sys2Proof.Machine.execCastleLinkDown c s
  | .castleLaneLost c n => Sys2Proof.Machine.execCastleLaneLost c n s
  | .castleLinkUp c => Sys2Proof.Machine.execCastleLinkUp c s
  | .errorInjectGo h => Sys2Proof.Machine.execErrorInjectGo h s
  | .portEnClear c n => Sys2Proof.Machine.execPortEnClear c n s
  | .portEnSet c n => Sys2Proof.Machine.execPortEnSet c n s
  | .portTxenClear c n => Sys2Proof.Machine.execPortTxenClear c n s
  | .laserInterlockCut c n pwrok => Sys2Proof.Machine.execLaserInterlockCut c n pwrok s
  | .probeOffTimeEnd c n => Sys2Proof.Machine.execProbeOffTimeEnd c n s
  | .probeResult c n pwrok => Sys2Proof.Machine.execProbeResult c n pwrok s
  | .passThroughClose a => Sys2Proof.Machine.execPassThroughClose a s
  | .passThroughOpen a => Sys2Proof.Machine.execPassThroughOpen a s
  | .passThroughOpenFail a => Sys2Proof.Machine.execPassThroughOpenFail a s
  | .passThroughRetry a => Sys2Proof.Machine.execPassThroughRetry a s
  | .powerStateFall a pvw pve lpw lpe vaux => Sys2Proof.Machine.execPowerStateFall a pvw pve lpw lpe vaux s
  | .powerStateRise a pvw pve lpw lpe vaux => Sys2Proof.Machine.execPowerStateRise a pvw pve lpw lpe vaux s
  | .guardPowerOn a pvw pve lpw lpe vaux => Sys2Proof.Machine.execGuardPowerOn a pvw pve lpw lpe vaux s
  | .guardSample a uv t => Sys2Proof.Machine.execGuardSample a uv t s
  | .guardBypFire a => Sys2Proof.Machine.execGuardBypFire a s
  | .guardClear a ov md => Sys2Proof.Machine.execGuardClear a ov md s
  | .guardMainRetry a => Sys2Proof.Machine.execGuardMainRetry a s
  | .watchdogExpiry a => Sys2Proof.Machine.execWatchdogExpiry a s
  | .cellCoreReset a => Sys2Proof.Machine.execCellCoreReset a s
  | .mainDomainReset a written => Sys2Proof.Machine.execMainDomainReset a written s
  | .mainDomainStart a b0 b1 fail => Sys2Proof.Machine.execMainDomainStart a b0 b1 fail s
  | .cellCoreException a cause pc => Sys2Proof.Machine.execCellCoreException a cause pc s
  | .cellEventRaise a src => Sys2Proof.Machine.execCellEventRaise a src s
  | .ccEvpWrite a v => Sys2Proof.Machine.execCcEvpWrite a v s
  | .cellTempReset a => Sys2Proof.Machine.execCellTempReset a s
  | .genEdge a => Sys2Proof.Machine.execGenEdge a s
  | .gateTurnOn a w => Sys2Proof.Machine.execGateTurnOn a w s
  | .stretchEnd a => Sys2Proof.Machine.execStretchEnd a s
  | .tripInputActive a inp t => Sys2Proof.Machine.execTripInputActive a inp t s
  | .bypassArmedFire a => Sys2Proof.Machine.execBypassArmedFire a s
  | .genMinpDtWrite a dt v => Sys2Proof.Machine.execGenMinpDtWrite a dt v s
  | .genSrcSet a => Sys2Proof.Machine.execGenSrcSet a s
  | .genLpaWrite a v => Sys2Proof.Machine.execGenLpaWrite a v s
  | .genLpbWrite a v => Sys2Proof.Machine.execGenLpbWrite a v s
  | .localPairTorn a => Sys2Proof.Machine.execLocalPairTorn a s
  | .genFreeze a => Sys2Proof.Machine.execGenFreeze a s
  | .genFreezeRelease a => Sys2Proof.Machine.execGenFreezeRelease a s
  | .parkHaltTakesEffect a => Sys2Proof.Machine.execParkHaltTakesEffect a s
  | .cellSample a s0 offs codes die => Sys2Proof.Machine.execCellSample a s0 offs codes die s
  | .reportFreeze a offs codes => Sys2Proof.Machine.execReportFreeze a offs codes s
  | .adcInjGo a inp => Sys2Proof.Machine.execAdcInjGo a inp s
  | .injectedConversionDone a code => Sys2Proof.Machine.execInjectedConversionDone a code s
  | .adcCalGo a => Sys2Proof.Machine.execAdcCalGo a s
  | .calibrationRunStart a => Sys2Proof.Machine.execCalibrationRunStart a s
  | .calibrationRunEnd a ofs gain res => Sys2Proof.Machine.execCalibrationRunEnd a ofs gain res s
  | .capArm a => Sys2Proof.Machine.execCapArm a s
  | .capAbort a => Sys2Proof.Machine.execCapAbort a s
  | .capTrig a tofs => Sys2Proof.Machine.execCapTrig a tofs s
  | .capTrigger a src tofs => Sys2Proof.Machine.execCapTrigger a src tofs s
  | .capPostComplete a => Sys2Proof.Machine.execCapPostComplete a s
  | .allocatorPlace c k n => Sys2Proof.Machine.execAllocatorPlace c k n s
  | .allocatorDeadline c k n => Sys2Proof.Machine.execAllocatorDeadline c k n s
  | .allocatorDisable c k => Sys2Proof.Machine.execAllocatorDisable c k s
  | .cvuStringPass c str n => Sys2Proof.Machine.execCvuStringPass c str n s
  | .cvuPassDeadline c n => Sys2Proof.Machine.execCvuPassDeadline c n s
  | .cvuDisable c => Sys2Proof.Machine.execCvuDisable c s
  | .cvuBineWrite c m v => Sys2Proof.Machine.execCvuBineWrite c m v s
  | .sfeLoopExecute c e j n => Sys2Proof.Machine.execSfeLoopExecute c e j n s
  | .sfeLoopSkip c e j n => Sys2Proof.Machine.execSfeLoopSkip c e j n s
  | .sfeBankSw c e stick => Sys2Proof.Machine.execSfeBankSw c e stick s
  | .sfeLiveStateWrite c e j w v => Sys2Proof.Machine.execSfeLiveStateWrite c e j w v s
  | .sfeInjEnable c e v => Sys2Proof.Machine.execSfeInjEnable c e v s
  | .sfeInjDone c e => Sys2Proof.Machine.execSfeInjDone c e s
  | .sfeDisable c e => Sys2Proof.Machine.execSfeDisable c e s
  | .add r rd ra rb f => Sys2Proof.Machine.execAdd r rd ra rb f s
  | .sub r rd ra rb f => Sys2Proof.Machine.execSub r rd ra rb f s
  | .adds r rd ra rb f => Sys2Proof.Machine.execAdds r rd ra rb f s
  | .subs r rd ra rb f => Sys2Proof.Machine.execSubs r rd ra rb f s
  | .and r rd ra rb f => Sys2Proof.Machine.execAnd r rd ra rb f s
  | .or r rd ra rb f => Sys2Proof.Machine.execOr r rd ra rb f s
  | .xor r rd ra rb f => Sys2Proof.Machine.execXor r rd ra rb f s
  | .andn r rd ra rb f => Sys2Proof.Machine.execAndn r rd ra rb f s
  | .sll r rd ra rb f => Sys2Proof.Machine.execSll r rd ra rb f s
  | .srl r rd ra rb f => Sys2Proof.Machine.execSrl r rd ra rb f s
  | .sra r rd ra rb f => Sys2Proof.Machine.execSra r rd ra rb f s
  | .ror r rd ra rb f => Sys2Proof.Machine.execRor r rd ra rb f s
  | .mul r rd ra rb f => Sys2Proof.Machine.execMul r rd ra rb f s
  | .mulh r rd ra rb f => Sys2Proof.Machine.execMulh r rd ra rb f s
  | .mulhu r rd ra rb f => Sys2Proof.Machine.execMulhu r rd ra rb f s
  | .min r rd ra rb f => Sys2Proof.Machine.execMin r rd ra rb f s
  | .max r rd ra rb f => Sys2Proof.Machine.execMax r rd ra rb f s
  | .minu r rd ra rb f => Sys2Proof.Machine.execMinu r rd ra rb f s
  | .maxu r rd ra rb f => Sys2Proof.Machine.execMaxu r rd ra rb f s
  | .abs r rd ra rb f => Sys2Proof.Machine.execAbs r rd ra rb f s
  | .neg r rd ra rb f => Sys2Proof.Machine.execNeg r rd ra rb f s
  | .clz r rd ra rb f => Sys2Proof.Machine.execClz r rd ra rb f s
  | .div r rd ra rb f => Sys2Proof.Machine.execDiv r rd ra rb f s
  | .divu r rd ra rb f => Sys2Proof.Machine.execDivu r rd ra rb f s
  | .rem r rd ra rb f => Sys2Proof.Machine.execRem r rd ra rb f s
  | .remu r rd ra rb f => Sys2Proof.Machine.execRemu r rd ra rb f s
  | .cmp r rd ra rb f => Sys2Proof.Machine.execCmp r rd ra rb f s
  | .slt r rd ra rb f => Sys2Proof.Machine.execSlt r rd ra rb f s
  | .sltu r rd ra rb f => Sys2Proof.Machine.execSltu r rd ra rb f s
  | .addi r rd ra v => Sys2Proof.Machine.execAddi r rd ra v s
  | .andi r rd ra v => Sys2Proof.Machine.execAndi r rd ra v s
  | .ori r rd ra v => Sys2Proof.Machine.execOri r rd ra v s
  | .xori r rd ra v => Sys2Proof.Machine.execXori r rd ra v s
  | .lui r rd v => Sys2Proof.Machine.execLui r rd v s
  | .cmpi r ra v => Sys2Proof.Machine.execCmpi r ra v s
  | .slli r rd ra amt => Sys2Proof.Machine.execSlli r rd ra amt s
  | .srli r rd ra amt => Sys2Proof.Machine.execSrli r rd ra amt s
  | .srai r rd ra amt => Sys2Proof.Machine.execSrai r rd ra amt s
  | .rori r rd ra amt => Sys2Proof.Machine.execRori r rd ra amt s
  | .ldw r rd ra v => Sys2Proof.Machine.execLdw r rd ra v s
  | .ldh r rd ra v => Sys2Proof.Machine.execLdh r rd ra v s
  | .ldhu r rd ra v => Sys2Proof.Machine.execLdhu r rd ra v s
  | .ldb r rd ra v => Sys2Proof.Machine.execLdb r rd ra v s
  | .ldbu r rd ra v => Sys2Proof.Machine.execLdbu r rd ra v s
  | .stw r rd ra v => Sys2Proof.Machine.execStw r rd ra v s
  | .sth r rd ra v => Sys2Proof.Machine.execSth r rd ra v s
  | .stb r rd ra v => Sys2Proof.Machine.execStb r rd ra v s
  | .ldd r rd ra v => Sys2Proof.Machine.execLdd r rd ra v s
  | .std r rd ra v => Sys2Proof.Machine.execStd r rd ra v s
  | .swap r rd ra rb => Sys2Proof.Machine.execSwap r rd ra rb s
  | .adda r rd ra rb => Sys2Proof.Machine.execAdda r rd ra rb s
  | .anda r rd ra rb => Sys2Proof.Machine.execAnda r rd ra rb s
  | .ora r rd ra rb => Sys2Proof.Machine.execOra r rd ra rb s
  | .cas r rd ra rb => Sys2Proof.Machine.execCas r rd ra rb s
  | .cfx r rd ra lsb w sgn bank => Sys2Proof.Machine.execCfx r rd ra lsb w sgn bank s
  | .clw r rd ra off => Sys2Proof.Machine.execClw r rd ra off s
  | .csw r rd ra off => Sys2Proof.Machine.execCsw r rd ra off s
  | .bcc r cond off => Sys2Proof.Machine.execBcc r cond off s
  | .jump r off => Sys2Proof.Machine.execJump r off s
  | .call r off => Sys2Proof.Machine.execCall r off s
  | .jr r ra => Sys2Proof.Machine.execJr r ra s
  | .callr r rd ra => Sys2Proof.Machine.execCallr r rd ra s
  | .cbeq r ra rb off => Sys2Proof.Machine.execCbeq r ra rb off s
  | .cbne r ra rb off => Sys2Proof.Machine.execCbne r ra rb off s
  | .cblt r ra rb off => Sys2Proof.Machine.execCblt r ra rb off s
  | .cbltu r ra rb off => Sys2Proof.Machine.execCbltu r ra rb off s
  | .mac r ad ra rb sh => Sys2Proof.Machine.execMac r ad ra rb sh s
  | .msu r ad ra rb sh => Sys2Proof.Machine.execMsu r ad ra rb sh s
  | .mula r ad ra rb sh => Sys2Proof.Machine.execMula r ad ra rb sh s
  | .macu r ad ra rb sh => Sys2Proof.Machine.execMacu r ad ra rb sh s
  | .macs r ad ra rb sh => Sys2Proof.Machine.execMacs r ad ra rb sh s
  | .extr r ad ra rb sh => Sys2Proof.Machine.execExtr r ad ra rb sh s
  | .extrt r ad ra rb sh => Sys2Proof.Machine.execExtrt r ad ra rb sh s
  | .mova r ad ra rb sh => Sys2Proof.Machine.execMova r ad ra rb sh s
  | .mvlo r ad ra rb sh => Sys2Proof.Machine.execMvlo r ad ra rb sh s
  | .mvmi r ad ra rb sh => Sys2Proof.Machine.execMvmi r ad ra rb sh s
  | .mvhi r ad ra rb sh => Sys2Proof.Machine.execMvhi r ad ra rb sh s
  | .awlo r ad ra rb sh => Sys2Proof.Machine.execAwlo r ad ra rb sh s
  | .awmi r ad ra rb sh => Sys2Proof.Machine.execAwmi r ad ra rb sh s
  | .awhi r ad ra rb sh => Sys2Proof.Machine.execAwhi r ad ra rb sh s
  | .aclr r ad ra rb sh => Sys2Proof.Machine.execAclr r ad ra rb sh s
  | .aadd r ad ra rb sh => Sys2Proof.Machine.execAadd r ad ra rb sh s
  | .extrr r ad ra rb sh => Sys2Proof.Machine.execExtrr r ad ra rb sh s
  | .dot4 r ad ra rb sh => Sys2Proof.Machine.execDot4 r ad ra rb sh s
  | .dot4c r ad ra rb => Sys2Proof.Machine.execDot4c r ad ra rb s
  | .tickwait r ra mode => Sys2Proof.Machine.execTickwait r ra mode s
  | .tickwaitComplete r => Sys2Proof.Machine.execTickwaitComplete r s
  | .post r ra => Sys2Proof.Machine.execPost r ra s
  | .takeItem r => Sys2Proof.Machine.execTakeItem r s
  | .yieldItem r ra => Sys2Proof.Machine.execYieldItem r ra s
  | .flowend r => Sys2Proof.Machine.execFlowend r s
  | .pub r ra rb => Sys2Proof.Machine.execPub r ra rb s
  | .ledg r ra rb => Sys2Proof.Machine.execLedg r ra rb s
  | .mfc r rd num => Sys2Proof.Machine.execMfc r rd num s
  | .mtc r num ra => Sys2Proof.Machine.execMtc r num ra s
  | .rtt r adv => Sys2Proof.Machine.execRtt r adv s
  | .trap r code => Sys2Proof.Machine.execTrap r code s
  | .brk r => Sys2Proof.Machine.execBrk r s
  | .clrq r => Sys2Proof.Machine.execClrq r s
  | .fence r => Sys2Proof.Machine.execFence r s
  | .li r rd v => Sys2Proof.Machine.execLi r rd v s
  | .addl r rd ra v => Sys2Proof.Machine.execAddl r rd ra v s
  | .andl r rd ra v => Sys2Proof.Machine.execAndl r rd ra v s
  | .orl r rd ra v => Sys2Proof.Machine.execOrl r rd ra v s
  | .xorl r rd ra v => Sys2Proof.Machine.execXorl r rd ra v s
  | .cmpl r ra v => Sys2Proof.Machine.execCmpl r ra v s
  | .jl r v => Sys2Proof.Machine.execJl r v s
  | .calll r v => Sys2Proof.Machine.execCalll r v s
  | .contextSwitch c n => Sys2Proof.Machine.execContextSwitch c n s
  | .modeRequestRun c mtick => Sys2Proof.Machine.execModeRequestRun c mtick s
  | .modeRequestStop c mtick => Sys2Proof.Machine.execModeRequestStop c mtick s
  | .modeRequestHold c mtick => Sys2Proof.Machine.execModeRequestHold c mtick s
  | .t0Release c n => Sys2Proof.Machine.execT0Release c n s
  | .eventTaskRelease c k n => Sys2Proof.Machine.execEventTaskRelease c k n s
  | .stallFill c => Sys2Proof.Machine.execStallFill c s
  | .preemption c => Sys2Proof.Machine.execPreemption c s
  | .armReferenceDeadline c n => Sys2Proof.Machine.execArmReferenceDeadline c n s
  | .t0Kill c n => Sys2Proof.Machine.execT0Kill c n s
  | .coreReset c n => Sys2Proof.Machine.execCoreReset c n s
  | .coreDisable c n => Sys2Proof.Machine.execCoreDisable c n s
  | .forceReadEntry c e => Sys2Proof.Machine.execForceReadEntry c e s
  | .forceSet c e ftick => Sys2Proof.Machine.execForceSet c e ftick s
  | .forceDel c e ftick => Sys2Proof.Machine.execForceDel c e ftick s
  | .olcLoad c => Sys2Proof.Machine.execOlcLoad c s
  | .olcImageLoaded c w => Sys2Proof.Machine.execOlcImageLoaded c w s
  | .olcChecked c => Sys2Proof.Machine.execOlcChecked c s
  | .olcCommit c ctick => Sys2Proof.Machine.execOlcCommit c ctick s
  | .olcAbort c => Sys2Proof.Machine.execOlcAbort c s
  | .kfHeartbeatReceived c x => Sys2Proof.Machine.execKfHeartbeatReceived c x s
  | .heartbeatTimeout c => Sys2Proof.Machine.execHeartbeatTimeout c s
  | .kfRestartGrant => Sys2Proof.Machine.execKfRestartGrant s
  | .confReceived c n cseq xfer lapsed ctick => Sys2Proof.Machine.execConfReceived c n cseq xfer lapsed ctick s
  | .grantReceived c cseq ctick at_ => Sys2Proof.Machine.execGrantReceived c cseq ctick at_ s
  | .statReceived c inputs src b6 b7 => Sys2Proof.Machine.execStatReceived c inputs src b6 b7 s
  | .stateMessage c e m => Sys2Proof.Machine.execStateMessage c e m s
  | .digestMessage c e t ds inTime => Sys2Proof.Machine.execDigestMessage c e t ds inTime s
  | .endorseMessage c e t mask seq inTime => Sys2Proof.Machine.execEndorseMessage c e t mask seq inTime s
  | .relayMessage c e l => Sys2Proof.Machine.execRelayMessage c e l s
  | .castleOffer c e ctick ready => Sys2Proof.Machine.execCastleOffer c e ctick ready s
  | .castleAccept c e => Sys2Proof.Machine.execCastleAccept c e s
  | .castleRefuse c e => Sys2Proof.Machine.execCastleRefuse c e s
  | .castleCommitreq c e ctick => Sys2Proof.Machine.execCastleCommitreq c e ctick s
  | .evrelMessage c e b tasks => Sys2Proof.Machine.execEvrelMessage c e b tasks s
  | .forceMessage c e x => Sys2Proof.Machine.execForceMessage c e x s
  | .ledgerMessage c e n l => Sys2Proof.Machine.execLedgerMessage c e n l s
  | .epochendMessage c e n count bytes crc => Sys2Proof.Machine.execEpochendMessage c e n count bytes crc s
  | .sweepMessage c e a n l => Sys2Proof.Machine.execSweepMessage c e a n l s
  | .healthMessage c e w0 w1 w2 w3 => Sys2Proof.Machine.execHealthMessage c e w0 w1 w2 w3 s
  | .epochMiss c n => Sys2Proof.Machine.execEpochMiss c n s
  | .ledgerResync c => Sys2Proof.Machine.execLedgerResync c s
  | .castleReq c ctick => Sys2Proof.Machine.execCastleReq c ctick s
  | .transferLapse c => Sys2Proof.Machine.execTransferLapse c s
  | .selfTestStep c logic sram arena => Sys2Proof.Machine.execSelfTestStep c logic sram arena s
  | .healthReport c => Sys2Proof.Machine.execHealthReport c s
  | .faultOccurrence c src kind addr => Sys2Proof.Machine.execFaultOccurrence c src kind addr s
  | .faultWindowEnd c src => Sys2Proof.Machine.execFaultWindowEnd c src s
  | .faultAcknowledge c m mask => Sys2Proof.Machine.execFaultAcknowledge c m mask s
  | .fltWinWrite c src v => Sys2Proof.Machine.execFltWinWrite c src v s
  | .fltInjGo c src kind => Sys2Proof.Machine.execFltInjGo c src kind s
  | .firstFaultClear c => Sys2Proof.Machine.execFirstFaultClear c s
  | .logReadPointerWrite c rp => Sys2Proof.Machine.execLogReadPointerWrite c rp s
  | .eventUnmask c m v => Sys2Proof.Machine.execEventUnmask c m v s
  | .acqArmGo c atick cells => Sys2Proof.Machine.execAcqArmGo c atick cells s
  | .acqArmFire c => Sys2Proof.Machine.execAcqArmFire c s
  | .acqEnable c n v => Sys2Proof.Machine.execAcqEnable c n v s
  | .acqDisable c n v => Sys2Proof.Machine.execAcqDisable c n v s
  | .acqRowGather c n t => Sys2Proof.Machine.execAcqRowGather c n t s
  | .acqRowMissed c n t => Sys2Proof.Machine.execAcqRowMissed c n t s
  | .acqCellFire c n f t => Sys2Proof.Machine.execAcqCellFire c n f t s
  | .acqOtherChipFire c n h => Sys2Proof.Machine.execAcqOtherChipFire c n h s
  | .acqCrossArm c n h => Sys2Proof.Machine.execAcqCrossArm c n h s
  | .acqRecordClose c n => Sys2Proof.Machine.execAcqRecordClose c n s
  | .memoryReadCorrected w addr e => Sys2Proof.Machine.execMemoryReadCorrected w addr e s
  | .memoryReadUncorrectable r => Sys2Proof.Machine.execMemoryReadUncorrectable r s
  | .partialStoreMerge w addr v n => Sys2Proof.Machine.execPartialStoreMerge w addr v n s
  | .patrolScrubRead w addr e detected => Sys2Proof.Machine.execPatrolScrubRead w addr e detected s
  | .memInit c => Sys2Proof.Machine.execMemInit c s
  | .memInitDone c => Sys2Proof.Machine.execMemInitDone c s
  | .memHwinWrite c v => Sys2Proof.Machine.execMemHwinWrite c v s
  | .crcGo c n v => Sys2Proof.Machine.execCrcGo c n v s
  | .crcEnClear c n k => Sys2Proof.Machine.execCrcEnClear c n k s
  | .crcScanDone c n => Sys2Proof.Machine.execCrcScanDone c n s
  | .crcRepeat c n => Sys2Proof.Machine.execCrcRepeat c n s
  | .crcPreempt c k => Sys2Proof.Machine.execCrcPreempt c k s
  | .bar0Write c off data whole => Sys2Proof.Machine.execBar0Write c off data whole s
  | .bar0UnmappedAccess c off => Sys2Proof.Machine.execBar0UnmappedAccess c off s
  | .bar2Access c off n w => Sys2Proof.Machine.execBar2Access c off n w s
  | .pcieLinkLoss c => Sys2Proof.Machine.execPcieLinkLoss c s
  | .msixVectorUnmask c v => Sys2Proof.Machine.execMsixVectorUnmask c v s
  | .sysXdAccess c w => Sys2Proof.Machine.execSysXdAccess c w s
  | .imgCfgWrite c v => Sys2Proof.Machine.execImgCfgWrite c v s
  | .mailboxSend c mt een etask => Sys2Proof.Machine.execMailboxSend c mt een etask s
  | .mailboxDelivery c => Sys2Proof.Machine.execMailboxDelivery c s
  | .tallyRequest c no tt => Sys2Proof.Machine.execTallyRequest c no tt s
  | .tallyClose c => Sys2Proof.Machine.execTallyClose c s
  | .ethFrameReceived c n frame fcs => Sys2Proof.Machine.execEthFrameReceived c n frame fcs s
  | .ethTxDescriptor c n => Sys2Proof.Machine.execEthTxDescriptor c n s
  | .ethTimedLaunch c n => Sys2Proof.Machine.execEthTimedLaunch c n s
  | .ptpSyncSend c => Sys2Proof.Machine.execPtpSyncSend c s
  | .ptpMessageReceived c n dom m => Sys2Proof.Machine.execPtpMessageReceived c n dom m s
  | .announceTimeout c => Sys2Proof.Machine.execAnnounceTimeout c s
  | .fieldInputSample vs cs => Sys2Proof.Machine.execFieldInputSample vs cs s
  | .stinSample v => Sys2Proof.Machine.execStinSample v s
  | .tripSourceActive => Sys2Proof.Machine.execTripSourceActive s
  | .outputSelfOff w => Sys2Proof.Machine.execOutputSelfOff w s
  | .outputRestart w => Sys2Proof.Machine.execOutputRestart w s
  | .kfCmdReceived c out ref resume safe trip tclr => Sys2Proof.Machine.execKfCmdReceived c out ref resume safe trip tclr s
  | .kfRegReceived c op num data tag => Sys2Proof.Machine.execKfRegReceived c op num data tag s
  | .svlMessageDiscard e => Sys2Proof.Machine.execSvlMessageDiscard e s
  | .silenceTimerExpiry => Sys2Proof.Machine.execSilenceTimerExpiry s
  | .kfSupplyReset => Sys2Proof.Machine.execKfSupplyReset s
  | .kfResetRelease vsup => Sys2Proof.Machine.execKfResetRelease vsup s
  | .kfRefclkFail => Sys2Proof.Machine.execKfRefclkFail s
  | .svlReqRead c num => Sys2Proof.Machine.execSvlReqRead c num s
  | .svlReqWrite c num => Sys2Proof.Machine.execSvlReqWrite c num s
  | .svlRdataReceived c status data => Sys2Proof.Machine.execSvlRdataReceived c status data s
  | .svlCtrlSafe c => Sys2Proof.Machine.execSvlCtrlSafe c s
  | .svlCtrlTclr c => Sys2Proof.Machine.execSvlCtrlTclr c s
  | .svlCtrlResume c => Sys2Proof.Machine.execSvlCtrlResume c s
  | .svlLinkLoss c => Sys2Proof.Machine.execSvlLinkLoss c s
  | .keyProg p slot code => Sys2Proof.Machine.execKeyProg p slot code s
  | .keyRevoke p slot code => Sys2Proof.Machine.execKeyRevoke p slot code s
  | .sealPart p code => Sys2Proof.Machine.execSealPart p code s
  | .retire p code => Sys2Proof.Machine.execRetire p code s
  | .svup p code => Sys2Proof.Machine.execSvup p code s
  | .debugChal p probe => Sys2Proof.Machine.execDebugChal p probe s
  | .debugVerify p probe level svc dslot => Sys2Proof.Machine.execDebugVerify p probe level svc dslot s
  | .debugVerifyDone p hash sig => Sys2Proof.Machine.execDebugVerifyDone p hash sig s
  | .debugClose p probe => Sys2Proof.Machine.execDebugClose p probe s
  | .sessionIdleTimeout p => Sys2Proof.Machine.execSessionIdleTimeout p s
  | .probeDisconnect p => Sys2Proof.Machine.execProbeDisconnect p s
  | .authLockoutEnd p => Sys2Proof.Machine.execAuthLockoutEnd p s
  | .coreHalt c probe mask => Sys2Proof.Machine.execCoreHalt c probe mask s
  | .coreResume c probe mask => Sys2Proof.Machine.execCoreResume c probe mask s
  | .coreStep c probe mask => Sys2Proof.Machine.execCoreStep c probe mask s
  | .cellHalt a probe => Sys2Proof.Machine.execCellHalt a probe s
  | .cellResume a probe => Sys2Proof.Machine.execCellResume a probe s
  | .cellStep a probe => Sys2Proof.Machine.execCellStep a probe s
  | .ccBootChk a w => Sys2Proof.Machine.execCcBootChk a w s
  | .ccBootSelWrite a v => Sys2Proof.Machine.execCcBootSelWrite a v s
  | .powerRequestRun c => Sys2Proof.Machine.execPowerRequestRun c s
  | .powerRequestParked c => Sys2Proof.Machine.execPowerRequestParked c s
  | .powerRequestStandby c => Sys2Proof.Machine.execPowerRequestStandby c s
  | .powerOnReset c => Sys2Proof.Machine.execPowerOnReset c s
  | .resetRelease c bench kflt => Sys2Proof.Machine.execResetRelease c bench kflt s
  | .resetnAssert c => Sys2Proof.Machine.execResetnAssert c s
  | .chipReset c code => Sys2Proof.Machine.execChipReset c code s
  | .serdesWestReset c code => Sys2Proof.Machine.execSerdesWestReset c code s
  | .serdesEastReset c code => Sys2Proof.Machine.execSerdesEastReset c code s
  | .overTemperatureReset c => Sys2Proof.Machine.execOverTemperatureReset c s
  | .phaseComplete c mem primary secondary => Sys2Proof.Machine.execPhaseComplete c mem primary secondary s
  | .probeStartRoleA c n => Sys2Proof.Machine.execProbeStartRoleA c n s
  | .probeStartRoleB c n late => Sys2Proof.Machine.execProbeStartRoleB c n late s
  | .discoveryStable c => Sys2Proof.Machine.execDiscoveryStable c s
  | .cellIdentityCheck c a ident => Sys2Proof.Machine.execCellIdentityCheck c a ident s
  | .sysBootLoad c slot => Sys2Proof.Machine.execSysBootLoad c slot s
  | .sysBootRechk c => Sys2Proof.Machine.execSysBootRechk c s
  | .registerWrite r off v => Sys2Proof.Machine.execRegisterWrite r off v s
  | .stringPortHeaderReceived c n h arr lat => Sys2Proof.Machine.execStringPortHeaderReceived c n h arr lat s
  | .stringPortTrailerReceived c n t => Sys2Proof.Machine.execStringPortTrailerReceived c n t s
  | .illegalInstruction r w imm => Sys2Proof.Machine.execIllegalInstruction r w imm s
  | .dieTemperatureWarning c => Sys2Proof.Machine.execDieTemperatureWarning c s
  | .kfSupplyWarning vsup => Sys2Proof.Machine.execKfSupplyWarning vsup s
  | .kfDieOverTemperature die => Sys2Proof.Machine.execKfDieOverTemperature die s
  | .pcieLinkUp c speed width => Sys2Proof.Machine.execPcieLinkUp c speed width s
  | .ethLinkChange c n up => Sys2Proof.Machine.execEthLinkChange c n up s
  | .debugNonceExpiry p => Sys2Proof.Machine.execDebugNonceExpiry p s

end Sys2Proof.Machine
end

