-- ==== Sys2Proof/Safety.lean ====
section
/-! DEFINITION. The terms in which statements speak of the chip set: which part a command reaches, what a part is when a command comes
to it, and the forms that a run is to keep. -/

namespace Sys2Proof.Machine

/-! ### Parts -/

/-- A part of the chip set (R2). -/
inductive Site where
  | chip (c : Chip)
  | companion
  | cell (a : BitVec 13)
deriving DecidableEq, Repr

/-- The parts behind an operand that names where a command goes. -/
def Part.sites : Part → List Site
  | .chip c => [.chip c]
  | .cell a => [.cell a]

def CoreRef.sites : CoreRef → List Site
  | .kv c _ => [.chip c]
  | .cell a => [.cell a]

def HopEnd.sites : HopEnd → List Site
  | .sp c _ => [.chip c]
  | .cl c _ => [.chip c]
  | .opt a _ => [.cell a]

def SvlEnd.sites : SvlEnd → List Site
  | .chip c => [.chip c]
  | .companion _ => [.companion]

def RegBy.sites : RegBy → List Site
  | .chip c _ => [.chip c]
  | .cell a => [.cell a]

def ReadBy.sites : ReadBy → List Site
  | .chip c _ _ _ => [.chip c]
  | .cell a _ _ => [.cell a]

def MemOf.sites : MemOf → List Site
  | .chip c => [.chip c]
  | .cell a => [.cell a]

end Sys2Proof.Machine

namespace Sys2Proof

open Sys2Proof.Machine

/-- The parts a command reaches. A force that arrives in time also marks the change at the chip that sent it (R356). -/
def Instr.sites (i : Instr) : List Site :=
  match i with
  | .tickBoundary c .. => [.chip c]
  | .alignedSet c => [.chip c]
  | .timInciWrite c .. => [.chip c]
  | .timTicklRead c => [.chip c]
  | .timTicklenWrite c .. => [.chip c]
  | .timSprdWrite c .. => [.chip c]
  | .refclkLoss c => [.chip c]
  | .regionDifference c .. => [.chip c]
  | .timCbaseWrite c .. => [.chip c]
  | .mappingStale c => [.chip c]
  | .headerReceived a .. => [.cell a]
  | .cellTickBoundary a .. => [.cell a]
  | .commandSlotReceived a .. => [.cell a]
  | .reportSlotWrite a .. => [.cell a]
  | .trailerForward a .. => [.cell a]
  | .cellCommandDeadline a => [.cell a]
  | .holdLimit a => [.cell a]
  | .modePark a => [.cell a]
  | .modeActive a .. => [.cell a]
  | .modeHoldlast a => [.cell a]
  | .modeBypassFire a .. => [.cell a]
  | .modeDischarge a => [.cell a]
  | .modeSensor a => [.cell a]
  | .bcmdTallyLatch a .. => [.cell a]
  | .bcmdCaptureArm a => [.cell a]
  | .bcmdTripClear a .. => [.cell a]
  | .bcmdClearShdw a => [.cell a]
  | .bcmdAcknowledge a => [.cell a]
  | .sideRd a .. => [.cell a]
  | .sideWa a .. => [.cell a]
  | .sideWd a .. => [.cell a]
  | .positionDrop a => [.cell a]
  | .foldOnset a .. => [.cell a]
  | .foldEnd a .. => [.cell a]
  | .foldFrameLaunch a .. => [.cell a]
  | .midFrameLockLoss h => h.hop.sites
  | .reportSlotAccept c .. => [.chip c]
  | .reportStagingWrite c => [.chip c]
  | .reportArrivalPoint c .. => [.chip c]
  | .foldFrameArrival c .. => [.chip c]
  | .signalDetect h => h.sites
  | .signalLoss h => h.sites
  | .trainingBlockReceived h .. => h.sites
  | .trainReady h => h.sites
  | .trainTimeout h => h.sites
  | .shiftEnd h => h.sites
  | .blockLock h => h.hop.sites
  | .blockLockLoss h => h.hop.sites
  | .huntPolarityInvert h => h.hop.sites
  | .hopUp h => h.sites
  | .huntTimeout h => h.sites
  | .blindStartFail h => h.sites
  | .blindRetry h => h.sites
  | .testPatternDeselect h => h.sites
  | .adaptationFreeze h => h.sites
  | .adaptationResume h => h.sites
  | .adaptationStep h .. => h.sites
  | .laneMarkerReceived c .. => [.chip c]
  | .castleLinkDown c => [.chip c]
  | .castleLaneLost c .. => [.chip c]
  | .castleLinkUp c => [.chip c]
  | .errorInjectGo h => h.sites
  | .portEnClear c .. => [.chip c]
  | .portEnSet c .. => [.chip c]
  | .portTxenClear c .. => [.chip c]
  | .laserInterlockCut c .. => [.chip c]
  | .probeOffTimeEnd c .. => [.chip c]
  | .probeResult c .. => [.chip c]
  | .passThroughClose a => [.cell a]
  | .passThroughOpen a => [.cell a]
  | .passThroughOpenFail a => [.cell a]
  | .passThroughRetry a => [.cell a]
  | .powerStateFall a .. => [.cell a]
  | .powerStateRise a .. => [.cell a]
  | .guardPowerOn a .. => [.cell a]
  | .guardSample a .. => [.cell a]
  | .guardBypFire a => [.cell a]
  | .guardClear a .. => [.cell a]
  | .guardMainRetry a => [.cell a]
  | .watchdogExpiry a => [.cell a]
  | .cellCoreReset a => [.cell a]
  | .mainDomainReset a .. => [.cell a]
  | .mainDomainStart a .. => [.cell a]
  | .cellCoreException a .. => [.cell a]
  | .cellEventRaise a .. => [.cell a]
  | .ccEvpWrite a .. => [.cell a]
  | .cellTempReset a => [.cell a]
  | .genEdge a => [.cell a]
  | .gateTurnOn a .. => [.cell a]
  | .stretchEnd a => [.cell a]
  | .tripInputActive a .. => [.cell a]
  | .bypassArmedFire a => [.cell a]
  | .genMinpDtWrite a .. => [.cell a]
  | .genSrcSet a => [.cell a]
  | .genLpaWrite a .. => [.cell a]
  | .genLpbWrite a .. => [.cell a]
  | .localPairTorn a => [.cell a]
  | .genFreeze a => [.cell a]
  | .genFreezeRelease a => [.cell a]
  | .parkHaltTakesEffect a => [.cell a]
  | .cellSample a .. => [.cell a]
  | .reportFreeze a .. => [.cell a]
  | .adcInjGo a .. => [.cell a]
  | .injectedConversionDone a .. => [.cell a]
  | .adcCalGo a => [.cell a]
  | .calibrationRunStart a => [.cell a]
  | .calibrationRunEnd a .. => [.cell a]
  | .capArm a => [.cell a.cell]
  | .capAbort a => [.cell a.cell]
  | .capTrig a .. => [.cell a]
  | .capTrigger a .. => [.cell a]
  | .capPostComplete a => [.cell a]
  | .allocatorPlace c .. => [.chip c]
  | .allocatorDeadline c .. => [.chip c]
  | .allocatorDisable c .. => [.chip c]
  | .cvuStringPass c .. => [.chip c]
  | .cvuPassDeadline c .. => [.chip c]
  | .cvuDisable c => [.chip c]
  | .cvuBineWrite c .. => [.chip c]
  | .sfeLoopExecute c .. => [.chip c]
  | .sfeLoopSkip c .. => [.chip c]
  | .sfeBankSw c .. => [.chip c]
  | .sfeLiveStateWrite c .. => [.chip c]
  | .sfeInjEnable c .. => [.chip c]
  | .sfeInjDone c .. => [.chip c]
  | .sfeDisable c .. => [.chip c]
  | .add r .. => r.sites
  | .sub r .. => r.sites
  | .adds r .. => r.sites
  | .subs r .. => r.sites
  | .and r .. => r.sites
  | .or r .. => r.sites
  | .xor r .. => r.sites
  | .andn r .. => r.sites
  | .sll r .. => r.sites
  | .srl r .. => r.sites
  | .sra r .. => r.sites
  | .ror r .. => r.sites
  | .mul r .. => r.sites
  | .mulh r .. => r.sites
  | .mulhu r .. => r.sites
  | .min r .. => r.sites
  | .max r .. => r.sites
  | .minu r .. => r.sites
  | .maxu r .. => r.sites
  | .abs r .. => r.sites
  | .neg r .. => r.sites
  | .clz r .. => r.sites
  | .div r .. => r.sites
  | .divu r .. => r.sites
  | .rem r .. => r.sites
  | .remu r .. => r.sites
  | .cmp r .. => r.sites
  | .slt r .. => r.sites
  | .sltu r .. => r.sites
  | .addi r .. => r.sites
  | .andi r .. => r.sites
  | .ori r .. => r.sites
  | .xori r .. => r.sites
  | .lui r .. => r.sites
  | .cmpi r .. => r.sites
  | .slli r .. => r.sites
  | .srli r .. => r.sites
  | .srai r .. => r.sites
  | .rori r .. => r.sites
  | .ldw r .. => r.sites
  | .ldh r .. => r.sites
  | .ldhu r .. => r.sites
  | .ldb r .. => r.sites
  | .ldbu r .. => r.sites
  | .stw r .. => r.sites
  | .sth r .. => r.sites
  | .stb r .. => r.sites
  | .ldd r .. => r.sites
  | .std r .. => r.sites
  | .swap r .. => r.sites
  | .adda r .. => r.sites
  | .anda r .. => r.sites
  | .ora r .. => r.sites
  | .cas r .. => r.sites
  | .cfx r .. => r.sites
  | .clw r .. => r.sites
  | .csw r .. => r.sites
  | .bcc r .. => r.sites
  | .jump r .. => r.sites
  | .call r .. => r.sites
  | .jr r .. => r.sites
  | .callr r .. => r.sites
  | .cbeq r .. => r.sites
  | .cbne r .. => r.sites
  | .cblt r .. => r.sites
  | .cbltu r .. => r.sites
  | .mac r .. => r.sites
  | .msu r .. => r.sites
  | .mula r .. => r.sites
  | .macu r .. => r.sites
  | .macs r .. => r.sites
  | .extr r .. => r.sites
  | .extrt r .. => r.sites
  | .mova r .. => r.sites
  | .mvlo r .. => r.sites
  | .mvmi r .. => r.sites
  | .mvhi r .. => r.sites
  | .awlo r .. => r.sites
  | .awmi r .. => r.sites
  | .awhi r .. => r.sites
  | .aclr r .. => r.sites
  | .aadd r .. => r.sites
  | .extrr r .. => r.sites
  | .dot4 r .. => r.sites
  | .dot4c r .. => r.sites
  | .tickwait r .. => r.sites
  | .tickwaitComplete r => r.sites
  | .post r .. => r.sites
  | .takeItem r => r.sites
  | .yieldItem r .. => r.sites
  | .flowend r => r.sites
  | .pub r .. => r.sites
  | .ledg r .. => r.sites
  | .mfc r .. => r.sites
  | .mtc r .. => r.sites
  | .rtt r .. => r.sites
  | .trap r .. => r.sites
  | .brk r => r.sites
  | .clrq r => r.sites
  | .fence r => r.sites
  | .li r .. => r.sites
  | .addl r .. => r.sites
  | .andl r .. => r.sites
  | .orl r .. => r.sites
  | .xorl r .. => r.sites
  | .cmpl r .. => r.sites
  | .jl r .. => r.sites
  | .calll r .. => r.sites
  | .contextSwitch c .. => [.chip c]
  | .modeRequestRun c .. => [.chip c]
  | .modeRequestStop c .. => [.chip c]
  | .modeRequestHold c .. => [.chip c]
  | .t0Release c .. => [.chip c]
  | .eventTaskRelease c .. => [.chip c]
  | .stallFill c => [.chip c]
  | .preemption c => [.chip c]
  | .armReferenceDeadline c .. => [.chip c]
  | .t0Kill c .. => [.chip c]
  | .coreReset c .. => [.chip c]
  | .coreDisable c .. => [.chip c]
  | .forceReadEntry c .. => [.chip c]
  | .forceSet c .. => [.chip c]
  | .forceDel c .. => [.chip c]
  | .olcLoad c => [.chip c]
  | .olcImageLoaded c .. => [.chip c]
  | .olcChecked c => [.chip c]
  | .olcCommit c .. => [.chip c]
  | .olcAbort c => [.chip c]
  | .kfHeartbeatReceived .. => [.companion]
  | .heartbeatTimeout .. => [.companion]
  | .kfRestartGrant => [.companion]
  | .confReceived c .. => [.chip c]
  | .grantReceived c .. => [.chip c]
  | .statReceived c .. => [.chip c]
  | .stateMessage c .. => [.chip c]
  | .digestMessage c .. => [.chip c]
  | .endorseMessage c .. => [.chip c]
  | .relayMessage c .. => [.chip c]
  | .castleOffer c .. => [.chip c]
  | .castleAccept c .. => [.chip c]
  | .castleRefuse c .. => [.chip c]
  | .castleCommitreq c .. => [.chip c]
  | .evrelMessage c .. => [.chip c]
  | .forceMessage c .. => [.chip c, .chip c.other]
  | .ledgerMessage c .. => [.chip c]
  | .epochendMessage c .. => [.chip c]
  | .sweepMessage c .. => [.chip c]
  | .healthMessage c .. => [.chip c]
  | .epochMiss c .. => [.chip c]
  | .ledgerResync c => [.chip c]
  | .castleReq c .. => [.chip c]
  | .transferLapse c => [.chip c]
  | .selfTestStep c .. => [.chip c]
  | .healthReport c => [.chip c]
  | .faultOccurrence c .. => [.chip c]
  | .faultWindowEnd c .. => [.chip c]
  | .faultAcknowledge c .. => [.chip c]
  | .fltWinWrite c .. => [.chip c]
  | .fltInjGo c .. => [.chip c]
  | .firstFaultClear c => [.chip c]
  | .logReadPointerWrite c .. => [.chip c]
  | .eventUnmask c .. => [.chip c]
  | .acqArmGo c .. => [.chip c]
  | .acqArmFire c => [.chip c]
  | .acqEnable c .. => [.chip c]
  | .acqDisable c .. => [.chip c]
  | .acqRowGather c .. => [.chip c]
  | .acqRowMissed c .. => [.chip c]
  | .acqCellFire c .. => [.chip c]
  | .acqOtherChipFire c .. => [.chip c]
  | .acqCrossArm c .. => [.chip c]
  | .acqRecordClose c .. => [.chip c]
  | .memoryReadCorrected w .. => w.sites
  | .memoryReadUncorrectable r => r.sites
  | .partialStoreMerge w .. => w.sites
  | .patrolScrubRead w .. => w.sites
  | .memInit c => [.chip c]
  | .memInitDone c => [.chip c]
  | .memHwinWrite c .. => [.chip c]
  | .crcGo c .. => [.chip c]
  | .crcEnClear c .. => [.chip c]
  | .crcScanDone c .. => [.chip c]
  | .crcRepeat c .. => [.chip c]
  | .crcPreempt c .. => [.chip c]
  | .bar0Write c .. => [.chip c]
  | .bar0UnmappedAccess c .. => [.chip c]
  | .bar2Access c .. => [.chip c]
  | .pcieLinkLoss c => [.chip c]
  | .msixVectorUnmask c .. => [.chip c]
  | .sysXdAccess c .. => [.chip c]
  | .imgCfgWrite c .. => [.chip c]
  | .mailboxSend c .. => [.chip c]
  | .mailboxDelivery c => [.chip c]
  | .tallyRequest c .. => [.chip c]
  | .tallyClose c => [.chip c]
  | .ethFrameReceived c .. => [.chip c]
  | .ethTxDescriptor c .. => [.chip c]
  | .ethTimedLaunch c .. => [.chip c]
  | .ptpSyncSend c => [.chip c]
  | .ptpMessageReceived c .. => [.chip c]
  | .announceTimeout c => [.chip c]
  | .fieldInputSample .. => [.companion]
  | .stinSample .. => [.companion]
  | .tripSourceActive => [.companion]
  | .outputSelfOff .. => [.companion]
  | .outputRestart .. => [.companion]
  | .kfCmdReceived .. => [.companion]
  | .kfRegReceived .. => [.companion]
  | .svlMessageDiscard e => e.sites
  | .silenceTimerExpiry => [.companion]
  | .kfSupplyReset => [.companion]
  | .kfResetRelease .. => [.companion]
  | .kfRefclkFail => [.companion]
  | .svlReqRead c .. => [.chip c]
  | .svlReqWrite c .. => [.chip c]
  | .svlRdataReceived c .. => [.chip c]
  | .svlCtrlSafe c => [.chip c]
  | .svlCtrlTclr c => [.chip c]
  | .svlCtrlResume c => [.chip c]
  | .svlLinkLoss c => [.chip c]
  | .keyProg p .. => p.sites
  | .keyRevoke p .. => p.sites
  | .sealPart p .. => p.sites
  | .retire p .. => p.sites
  | .svup p .. => p.sites
  | .debugChal p .. => p.sites
  | .debugVerify p .. => p.sites
  | .debugVerifyDone p .. => p.sites
  | .debugClose p .. => p.sites
  | .sessionIdleTimeout p => p.sites
  | .probeDisconnect p => p.sites
  | .authLockoutEnd p => p.sites
  | .coreHalt c .. => [.chip c]
  | .coreResume c .. => [.chip c]
  | .coreStep c .. => [.chip c]
  | .cellHalt a .. => [.cell a]
  | .cellResume a .. => [.cell a]
  | .cellStep a .. => [.cell a]
  | .ccBootChk a .. => [.cell a]
  | .ccBootSelWrite a .. => [.cell a]
  | .powerRequestRun c => [.chip c]
  | .powerRequestParked c => [.chip c]
  | .powerRequestStandby c => [.chip c]
  | .powerOnReset c => [.chip c]
  | .resetRelease c .. => [.chip c]
  | .resetnAssert c => [.chip c]
  | .chipReset c .. => [.chip c]
  | .serdesWestReset c .. => [.chip c]
  | .serdesEastReset c .. => [.chip c]
  | .overTemperatureReset c => [.chip c]
  | .phaseComplete c .. => [.chip c]
  | .probeStartRoleA c .. => [.chip c]
  | .probeStartRoleB c .. => [.chip c]
  | .discoveryStable c => [.chip c]
  | .cellIdentityCheck c .. => [.chip c]
  | .sysBootLoad c .. => [.chip c]
  | .sysBootRechk c => [.chip c]
  | .registerWrite r .. => r.sites
  | .stringPortHeaderReceived c .. => [.chip c]
  | .stringPortTrailerReceived c .. => [.chip c]
  | .illegalInstruction r .. => r.sites
  | .dieTemperatureWarning c => [.chip c]
  | .kfSupplyWarning .. => [.companion]
  | .kfDieOverTemperature .. => [.companion]
  | .pcieLinkUp c .. => [.chip c]
  | .ethLinkChange c .. => [.chip c]
  | .debugNonceExpiry p => p.sites

end Sys2Proof

namespace Sys2Proof.Machine

/-- What stands at a part. -/
inductive Content where
  | kv (k : Kv)
  | kf (k : Kf)
  | kc (x : Cell)
deriving DecidableEq, Repr

/-- The part `p` of a state. -/
def State.at (s : State) : Site → Content
  | .chip c => .kv (s.chip c)
  | .companion => .kf s.kf
  | .cell a => .kc (s.cell a)

/-- The state with the module at `a` replaced. -/
def State.setCell (s : State) (a : BitVec 13) (x : Cell) : State := { s with cells := Tab.set {} a.toNat x s.cells }

/-- The state with the KF-120 replaced. -/
def State.setKf (s : State) (k : Kf) : State := { s with kf := k }

/-- Chip `c` as a command finds it: it has sent nothing yet for this command. -/
def State.kvAt (s : State) (c : Chip) : Kv := { s.chip c with out := [] }

/-- The module at `a` as a command finds it. -/
def State.kcAt (s : State) (a : BitVec 13) : Cell := { s.cell a with out := [] }

/-- The KF-120 as a command finds it. -/
def State.kfAt (s : State) : Kf := { s.kf with out := [] }

/-- Chip `c` is out of reset and takes commands (R569). -/
def State.live (s : State) (c : Chip) : Prop := (s.chip c).boot.inReset = false

/-- The modules are kept in canonical form, each at a cell address (R6, R18). -/
def State.cellsWf (s : State) : Bool := Tab.wf {} s.cells && s.cells.all (fun e => decide (e.1 < 8192))

/-- A memory is in canonical form: addresses strictly rising, and no entry equal to 0, which an unlisted address reads as. -/
def Memory.wf (m : List Host.Cell) : Bool := Tab.wf 0 m

/-- The memories of a chip, of a module, are (R460, R329, R551). -/
def Kv.memWf (k : Kv) : Bool := Memory.wf k.mem && Tab.wf 0 k.unc
def Cell.memWf (x : Cell) : Bool := Memory.wf x.mem && Memory.wf x.banks && Tab.wf 0 x.unc

/-! ### Hop ends (R71) -/

/-- The register fields of a hop end. -/
def HopEnd.flds : HopEnd → HopFlds
  | .sp .. => spFlds
  | .cl .. => clFlds
  | .opt .. => optFlds

/-- The number of its port or lane. -/
def HopEnd.num : HopEnd → Nat
  | .sp _ n => n.toNat
  | .cl _ n => n.toNat
  | .opt _ p => p.idx

/-- What governs a hop end from outside it. -/
def State.hopCfg (s : State) : HopEnd → HopCfg
  | .sp c n => (s.kvAt c).spCfg n.toNat
  | .cl c n => (s.kvAt c).clCfg n.toNat
  | .opt a p => (s.kcAt a).optCfg p.idx

/-- A hop end as a command finds it. -/
def State.hopSt (s : State) : HopEnd → HopSt
  | .sp c n => { h := ((s.kvAt c).spP n.toNat).hop, r := (s.kvAt c).regs }
  | .cl c n => { h := Tab.get {} n.toNat (s.kvAt c).cl, r := (s.kvAt c).regs }
  | .opt a p => { h := ((s.kcAt a).port p).hop, r := (s.kcAt a).regs }

/-- The chip set with a hop end left in `y`: a lost lock counts in ALOSS, voids the frame in reception and (on a string port) raises
SP_LINK; a failed blind start raises SP_BLIND there; a module's port that left UP raises LINK_W or LINK_E, and one that is UP ends the
run of failed openings (R70, R90, R145, R163). -/
def State.hopAs (s : State) (h : HopEnd) (y : HopSt) : State := s.onHop h (fun _ _ _ _ => y)

/-! ### Cores -/

/-- Core `n` may issue the instruction that stands at the PC of its running context: it is not halted, it issues, and the words there
are readable, at an aligned address below 0xFFF8 (R288, R293, R468, R556). No core of the chip waits to be stepped, and it is not
traced. -/
def Kv.ready (k : Kv) (n : Nat) : Prop :=
  let pc := ((k.core n).ctx (k.ctxOf n)).pc.toNat
  k.coreHalted n = false ∧ k.issues n = true ∧ pc % 4 = 0 ∧ pc < 0xFFF8 ∧
  k.bad (sysImem n + pc) = false ∧ k.bad (sysImem n + pc + 4) = false ∧
  (∀ i, (k.core i).stepOk = false) ∧ k.on Kv.DBG_TRC.EN = false

/-- The same of a cell core (R329, R332, R468, R557); it is in no debug session, and so not traced (R552). -/
def Cell.ready (x : Cell) : Prop :=
  let pc := x.core.pc.toNat
  x.on Kc.CC_DSTAT.HALTED = false ∧ x.issues = true ∧ pc % 4 = 0 ∧ pc < 0xFFF8 ∧ x.bad pc = false ∧ x.bad (pc + 4) = false ∧
  x.stepOk = false ∧ x.rd Kc.CC_DSTAT.LEVEL = 0

/-- The core `r` may issue. -/
def State.coreReady (s : State) : CoreRef → Prop
  | .kv c n => s.live c ∧ (s.kvAt c).ready n.toNat
  | .cell a => (s.kcAt a).ready

/-- The running context of core `n`. -/
def Kv.running (k : Kv) (n : Nat) : Ctx := (k.core n).ctx (k.ctxOf n)

/-- Chip `k` with `y` for the running context of core `n`. -/
def Kv.withCtx (k : Kv) (n : Nat) (y : Ctx) : Kv := k.onCore n (fun q => q.setCtx (k.ctxOf n) y)

/-- The running context of the core `r`. -/
def State.ctxAt (s : State) : CoreRef → Ctx
  | .kv c n => (s.kvAt c).running n.toNat
  | .cell a => (s.kcAt a).core

/-- The chip set with `y` for the running context of the core `r`, and nothing else changed. -/
def State.withCtx (s : State) (r : CoreRef) (y : Ctx) : State :=
  match r with
  | .kv c n => s.setChip c ((s.kvAt c).withCtx n.toNat y)
  | .cell a => s.setCell a { s.kcAt a with core := y }

/-- The accumulators of a core: eight, on a cell core two (R308, R330). -/
def CoreRef.accs : CoreRef → Nat
  | .kv .. => 8
  | .cell _ => 2

/-- The context after an integer instruction: `v` in `rd`; where F is 1 the flags Z and N of the result, C and V; Q set where `q`; and
the next instruction (R287, R290, R298). -/
def Ctx.result (x : Ctx) (rd : Gpr) (v : Word) (f c o q : Bool) : Ctx :=
  let y := x.setReg rd v
  let y := if f then { y with z := v == 0, n := v.getLsbD 31, c := c, v := o } else y
  { y with q := x.q || q, pc := x.pc + 4 }

/-- An accumulator takes an exact sum, saturated to 72 bits; Q is set where that changed it (R308). -/
def Ctx.accumulate (x : Ctx) (a : BitVec 3) (v : Int) : Ctx :=
  { x.setAcc a (BitVec.ofInt 72 (satS 72 v)) with q := x.q || satS 72 v != v, pc := x.pc + 4 }

/-- The context after a register has taken a value, and nothing else: `len` bytes on. -/
def Ctx.took (x : Ctx) (rd : Gpr) (v : Word) (len : BitVec 16) : Ctx := { x.setReg rd v with pc := x.pc + len }

/-- The context at another address. -/
def Ctx.jumped (x : Ctx) (t : Word) : Ctx := { x with pc := t.extractLsb' 0 16 }

/-! ### Safe outputs -/

/-- Both gates of a pair are never on at once (R173). -/
def Cell.noShootThrough (x : Cell) : Prop :=
  let g := x.rd Kc.GEN_OUT.G
  (bit g 0 && bit g 1) = false ∧ (bit g 2 && bit g 3) = false

/-- Out of reset, every trip output whose enabled source is active is latched, and every trip output stands at the level that its latch
and its sense ask for, unless it turned itself off (R527). -/
def Kf.tripsHeld (k : Kf) : Prop :=
  k.inReset = false → ∀ i, i < 4 →
    (k.tripActive false i = true → bit (k.rd Kf.TRP_STAT.LAT) i = true) ∧
    bit (k.rd Kf.TRP_STAT.LVL) i = ((bit (k.rd Kf.TRP_CFG.POL) i == bit (k.rd Kf.TRP_STAT.LAT) i) && !bit k.off (16 + i))

end Sys2Proof.Machine
end

