-- ==== Sys2Proof/WellFormed.lean ====
section
/-! DEFINITION. What the operands of a command must satisfy beyond their types for it to be one of the opcode table. -/

namespace Sys2Proof

open Sys2Proof.Machine

/-- A well-formed command: the trip inputs are five (R178); the trigger sources of a capture other than a host command are 1 to 7
(R212); a sample takes 32 field inputs (R518); a DIGEST has one digest a string (R381); RELAY, EVREL and LEDGER messages have
content (R124, R339, R386); a SWEEP record has 116 bytes (R390); a partial store has 1 to 7 bytes (R469); register offsets are
word offsets (R8, R484); the reserved fields of CMP, EXTR, EXTRT, AADD and EXTRR are 0 (R297, R312); an illegal word spells no instruction of the core (R294, R329); an exception has a cause (R325). -/
def Instr.wf (i : Instr) : Bool :=
  match i with
  | .cellCoreException _ cause _ => decide (1 ≤ cause.toNat)
  | .tripInputActive _ i _ => decide (i.toNat ≤ 4)
  | .capTrigger _ src _ => decide (1 ≤ src.toNat)
  | .digestMessage _ _ _ ds _ => decide (ds.length ≤ 32)
  | .relayMessage _ _ l => !l.isEmpty
  | .evrelMessage _ _ _ l => !l.isEmpty && decide (l.length ≤ 32)
  | .ledgerMessage _ _ _ l => l.all (fun e => !e.bytes.isEmpty)
  | .sweepMessage _ _ _ _ l => l.length == 116
  | .partialStoreMerge _ _ _ n => n != 0
  | .bar0UnmappedAccess _ off => off.toNat % 4 == 0
  | .fieldInputSample vs cs => vs.length == 32 && cs.length == 32
  | .registerWrite _ off _ => off.toNat % 4 == 0
  | .cmp _ rd _ _ _ => rd == 0
  | .extr _ _ _ rb _ | .extrt _ _ _ rb _ => rb == 0
  | .aadd _ _ ra _ _ => decide (ra.toNat < 8)
  | .extrr _ _ _ _ sh => sh == 0
  | .illegalInstruction (.kv ..) w imm => (decodeOp w imm).isNone
  | .illegalInstruction (.cell _) w imm => (decodeOp w imm).all (fun o => !o.inTisC)
  | .tickBoundary .. | .alignedSet .. | .timInciWrite .. | .timTicklRead .. | .timTicklenWrite .. | .timSprdWrite ..
  | .refclkLoss .. | .regionDifference .. | .timCbaseWrite .. | .mappingStale .. | .headerReceived ..
  | .cellTickBoundary .. | .commandSlotReceived .. | .reportSlotWrite .. | .trailerForward .. | .cellCommandDeadline ..
  | .holdLimit .. | .modePark .. | .modeActive .. | .modeHoldlast .. | .modeBypassFire .. | .modeDischarge ..
  | .modeSensor .. | .bcmdTallyLatch .. | .bcmdCaptureArm .. | .bcmdTripClear .. | .bcmdClearShdw .. | .bcmdAcknowledge ..
  | .sideRd .. | .sideWa .. | .sideWd .. | .positionDrop .. | .foldOnset .. | .foldEnd .. | .foldFrameLaunch ..
  | .midFrameLockLoss .. | .reportSlotAccept .. | .reportStagingWrite .. | .reportArrivalPoint .. | .foldFrameArrival ..
  | .signalDetect .. | .signalLoss .. | .trainingBlockReceived .. | .trainReady .. | .trainTimeout .. | .shiftEnd ..
  | .blockLock .. | .blockLockLoss .. | .huntPolarityInvert .. | .hopUp .. | .huntTimeout .. | .blindStartFail ..
  | .blindRetry .. | .testPatternDeselect .. | .adaptationFreeze .. | .adaptationResume .. | .adaptationStep ..
  | .laneMarkerReceived .. | .castleLinkDown .. | .castleLaneLost .. | .castleLinkUp .. | .errorInjectGo ..
  | .portEnClear .. | .portEnSet .. | .portTxenClear .. | .laserInterlockCut .. | .probeOffTimeEnd .. | .probeResult ..
  | .passThroughClose .. | .passThroughOpen .. | .passThroughOpenFail .. | .passThroughRetry .. | .powerStateFall ..
  | .powerStateRise .. | .guardPowerOn .. | .guardSample .. | .guardBypFire .. | .guardClear .. | .guardMainRetry ..
  | .watchdogExpiry .. | .cellCoreReset .. | .mainDomainReset .. | .mainDomainStart .. | .cellEventRaise ..
  | .ccEvpWrite .. | .cellTempReset .. | .genEdge .. | .gateTurnOn .. | .stretchEnd .. | .bypassArmedFire ..
  | .genMinpDtWrite .. | .genSrcSet .. | .genLpaWrite .. | .genLpbWrite .. | .localPairTorn .. | .genFreeze ..
  | .genFreezeRelease .. | .parkHaltTakesEffect .. | .cellSample .. | .reportFreeze .. | .adcInjGo ..
  | .injectedConversionDone .. | .adcCalGo .. | .calibrationRunStart .. | .calibrationRunEnd .. | .capArm .. | .capAbort ..
  | .capTrig .. | .capPostComplete .. | .allocatorPlace .. | .allocatorDeadline .. | .allocatorDisable ..
  | .cvuStringPass .. | .cvuPassDeadline .. | .cvuDisable .. | .cvuBineWrite .. | .sfeLoopExecute .. | .sfeLoopSkip ..
  | .sfeBankSw .. | .sfeLiveStateWrite .. | .sfeInjEnable .. | .sfeInjDone .. | .sfeDisable .. | .add .. | .sub ..
  | .adds .. | .subs .. | .and .. | .or .. | .xor .. | .andn .. | .sll .. | .srl .. | .sra .. | .ror .. | .mul ..
  | .mulh .. | .mulhu .. | .min .. | .max .. | .minu .. | .maxu .. | .abs .. | .neg .. | .clz .. | .div .. | .divu ..
  | .rem .. | .remu .. | .slt .. | .sltu .. | .addi .. | .andi .. | .ori .. | .xori .. | .lui .. | .cmpi ..
  | .slli .. | .srli .. | .srai .. | .rori .. | .ldw .. | .ldh .. | .ldhu .. | .ldb .. | .ldbu .. | .stw .. | .sth ..
  | .stb .. | .ldd .. | .std .. | .swap .. | .adda .. | .anda .. | .ora .. | .cas .. | .cfx .. | .clw .. | .csw ..
  | .bcc .. | .jump .. | .call .. | .jr .. | .callr .. | .cbeq .. | .cbne .. | .cblt .. | .cbltu .. | .mac .. | .msu ..
  | .mula .. | .macu .. | .macs .. | .mova .. | .mvlo .. | .mvmi .. | .mvhi .. | .awlo .. | .awmi ..
  | .awhi .. | .aclr .. | .dot4 .. | .dot4c .. | .tickwait .. | .tickwaitComplete .. | .post ..
  | .takeItem .. | .yieldItem .. | .flowend .. | .pub .. | .ledg .. | .mfc .. | .mtc .. | .rtt .. | .trap .. | .brk ..
  | .clrq .. | .fence .. | .li .. | .addl .. | .andl .. | .orl .. | .xorl .. | .cmpl .. | .jl .. | .calll ..
  | .contextSwitch .. | .modeRequestRun .. | .modeRequestStop .. | .modeRequestHold .. | .t0Release ..
  | .eventTaskRelease .. | .stallFill .. | .preemption .. | .armReferenceDeadline .. | .t0Kill .. | .coreReset ..
  | .coreDisable .. | .forceReadEntry .. | .forceSet .. | .forceDel .. | .olcLoad .. | .olcImageLoaded .. | .olcChecked ..
  | .olcCommit .. | .olcAbort .. | .kfHeartbeatReceived .. | .heartbeatTimeout .. | .kfRestartGrant .. | .confReceived ..
  | .grantReceived .. | .statReceived .. | .stateMessage .. | .endorseMessage .. | .castleOffer .. | .castleAccept ..
  | .castleRefuse .. | .castleCommitreq .. | .forceMessage .. | .epochendMessage .. | .healthMessage .. | .epochMiss ..
  | .ledgerResync .. | .castleReq .. | .transferLapse .. | .selfTestStep .. | .healthReport .. | .faultOccurrence ..
  | .faultWindowEnd .. | .faultAcknowledge .. | .fltWinWrite .. | .fltInjGo .. | .firstFaultClear ..
  | .logReadPointerWrite .. | .eventUnmask .. | .acqArmGo .. | .acqArmFire .. | .acqEnable .. | .acqDisable ..
  | .acqRowGather .. | .acqRowMissed .. | .acqCellFire .. | .acqOtherChipFire .. | .acqCrossArm .. | .acqRecordClose ..
  | .memoryReadCorrected .. | .memoryReadUncorrectable .. | .patrolScrubRead .. | .memInit .. | .memInitDone ..
  | .memHwinWrite .. | .crcGo .. | .crcEnClear .. | .crcScanDone .. | .crcRepeat .. | .crcPreempt .. | .bar0Write ..
  | .bar2Access .. | .pcieLinkLoss .. | .msixVectorUnmask .. | .sysXdAccess .. | .imgCfgWrite .. | .mailboxSend ..
  | .mailboxDelivery .. | .tallyRequest .. | .tallyClose .. | .ethFrameReceived .. | .ethTxDescriptor ..
  | .ethTimedLaunch .. | .ptpSyncSend .. | .ptpMessageReceived .. | .announceTimeout .. | .stinSample ..
  | .tripSourceActive .. | .outputSelfOff .. | .outputRestart .. | .kfCmdReceived .. | .kfRegReceived ..
  | .svlMessageDiscard .. | .silenceTimerExpiry .. | .kfSupplyReset .. | .kfResetRelease .. | .kfRefclkFail ..
  | .svlReqRead .. | .svlReqWrite .. | .svlRdataReceived .. | .svlCtrlSafe .. | .svlCtrlTclr .. | .svlCtrlResume ..
  | .svlLinkLoss .. | .keyProg .. | .keyRevoke .. | .sealPart .. | .retire .. | .svup .. | .debugChal .. | .debugVerify ..
  | .debugVerifyDone .. | .debugClose .. | .sessionIdleTimeout .. | .probeDisconnect .. | .authLockoutEnd .. | .coreHalt ..
  | .coreResume .. | .coreStep .. | .cellHalt .. | .cellResume .. | .cellStep .. | .ccBootChk .. | .ccBootSelWrite ..
  | .powerRequestRun .. | .powerRequestParked .. | .powerRequestStandby .. | .powerOnReset .. | .resetRelease ..
  | .resetnAssert .. | .chipReset .. | .serdesWestReset .. | .serdesEastReset .. | .overTemperatureReset ..
  | .phaseComplete .. | .probeStartRoleA .. | .probeStartRoleB .. | .discoveryStable .. | .cellIdentityCheck ..
  | .sysBootLoad .. | .sysBootRechk .. | .stringPortHeaderReceived .. | .stringPortTrailerReceived ..
  | .dieTemperatureWarning .. | .kfSupplyWarning .. | .kfDieOverTemperature .. | .pcieLinkUp .. | .ethLinkChange ..
  | .debugNonceExpiry .. => true

end Sys2Proof
end

