-- ==== Sys2Proof/Certificates/Slice0/Obligations.lean ====
section
/-! DEFINITION. The statements about the model. -/

open Sys2Proof Sys2Proof.Machine

/-- A step runs the command at the front of the queue with the queue's rest; on an empty queue it is one REFCLK edge
at both chips -/
def Obligations.Step_takes_the_front_command : Prop :=
  ∀ (s : State) (i : Instr) (rest : List Instr),
    step { s with pending := i :: rest } = exec i { s with pending := rest } ∧
    step { s with pending := [] } = .next { s with pending := [], a := refclkEdgeKv (s.kvAt .a), b := refclkEdgeKv (s.kvAt .b) }

/-- No command ever faults or is refused: exec answers a next state for every command in every state, and never
touches the queue -/
def Obligations.Every_command_completes_and_leaves_the_queue : Prop :=
  ∀ (i : Instr) (s : State), ∃ t : State, exec i s = .next t ∧ t.pending = s.pending

/-- Isolation: a command leaves every chip, module and companion that it does not address exactly as it was -/
def Obligations.A_command_changes_only_the_parts_it_reaches : Prop :=
  ∀ (i : Instr) (s t : State) (p : Site), exec i s = .next t → p ∉ i.sites → t.at p = s.at p

/-- A command on a module or on the KF-120 does the same to it whatever the rest of the chip set holds -/
def Obligations.What_a_command_does_depends_only_on_its_parts : Prop :=
  ∀ (i : Instr) (s s' t t' : State) (p : Site), i.sites = [p] → (∀ c, p ≠ .chip c) → s.at p = s'.at p →
    exec i s = .next t → exec i s' = .next t' → t.at p = t'.at p

/-- Every step keeps the set of modules in canonical form: cell addresses strictly rising below 8,192, none listed
that is as unpowered -/
def Obligations.Modules_stay_in_canonical_form : Prop :=
  ∀ s t : State, s.cellsWf = true → step s = .next t → t.cellsWf = true

/-- The invariants of this file hold at reset: modules in canonical form, every trip judged, no gate pair on -/
def Obligations.Reset_has_the_canonical_form : Prop :=
  State.reset.cellsWf = true ∧ State.reset.kf.tripsHeld ∧ (∀ a, (State.reset.cell a).noShootThrough) ∧ State.reset.pending = []

/-- What a power-on reset leaves: nominal increment, tick length and mode at their reset values, PHASE 0, the KF-120
held, no module powered -/
def Obligations.Reset_values : Prop :=
  let s := State.reset
  (∀ c : Chip, (s.chip c).boot.inReset = false ∧ (s.chip c).rd Kv.SYS_STAT.PHASE = 0 ∧ (s.chip c).tim.inc = 0x0A00000000 ∧
    (s.chip c).tim.tick = 0 ∧ (s.chip c).rd Kv.TIM_TICKLEN.LEN = Kv.TIM_TICKLEN.LEN.rst 0 ∧ (s.chip c).mode = 0 ∧
    (s.chip c).rd Kv.DBG_STAT.HALTED = 0 ∧ (s.chip c).on Kv.SYS_STAT.HELD = false) ∧
  s.kf.inReset = true ∧ s.kf.rd Kf.FOUT_LVL.LVL = 0 ∧ s.kf.rd Kf.TRP_STAT.LVL = 0 ∧ (∀ a, (s.cell a).power = 0 ∧ (s.cell a).mainOn = false)

/-- A chip held in reset is changed only by POWER_ON_RESET, RESET_RELEASE, and what its always-on time base takes -/
def Obligations.A_chip_in_reset_takes_no_command : Prop :=
  ∀ (i : Instr) (s t : State) (c : Chip), (s.chip c).boot.inReset = true → exec i s = .next t →
    (∀ x y, i ≠ .powerOnReset c ∧ i ≠ .resetRelease c x y) →
    (∀ m v, i ≠ .tickBoundary c m ∧ i ≠ .refclkLoss c ∧ i ≠ .regionDifference c v) → (∀ e x, i ≠ .forceMessage c.other e x) →
    { t.chip c with out := [] } = { s.chip c with out := [] }

/-- TIM_TICKL, ALIGNED, increment, tick length, spreading, REFCLK loss, region difference and PTP mapping: every
outcome of each command -/
def Obligations.Time_unit_commands : Prop :=
  ∀ (s : State) (c : Chip) (v : Word) (mv : BitVec 16),
    let k := s.kvAt c
    let goes := fun (i : Instr) (y : Kv) => exec i s = .next (s.setChip c y)
    let inc := v.toNat % 256 * 2 ^ 32 + k.rd Kv.TIM_INCF.INCF
    let len := v.toNat % 2 ^ 13
    let K := bits v.toNat 1 4
    let en := bits v.toNat 0 1
    let bad := fun (y : Kv) (kind : Nat) (f : Fld) => (y.mark Kv.TIM_STAT.SPRFUSE).raise Src.REGACC kind f.base
    let lost := k.mark Kv.TIM_STAT.REFLOSS
    let apart := k.mark Kv.TIM_STAT.REGDIFF
    (s.live c →
      (let t := (k.wr Kv.TIM_TICKH.TH (k.tim.tick.toNat / 2 ^ 32)).wr Kv.TIM_BNDRY.B k.tim.bn.toNat
       goes (.timTicklRead c) t ∧ t.rd Kv.TIM_TICKH.TH = k.tim.tick.toNat / 2 ^ 32 ∧ t.rd Kv.TIM_BNDRY.B = k.tim.bn.toNat) ∧
      (k.duty = false → 64 ≤ k.tim.alignRun → goes (.alignedSet c) (k.mark Kv.TIM_STAT.ALIGNED)) ∧
      (k.servoRuns = true → goes (.timInciWrite c v) (k.raise Src.REGACC 17 Kv.TIM_INCI.INCI.base)) ∧
      (k.servoRuns = false → goes (.timInciWrite c v)
        (if 9995 * 2 ^ 32 ≤ inc * 1000 ∧ inc * 1000 ≤ 10005 * 2 ^ 32 then
          { k.wr Kv.TIM_INCI.INCI v.toNat with tim := { k.tim with incNext := some (BitVec.ofNat 40 inc) } }
        else k.raise Src.REGACC 18 Kv.TIM_INCI.INCI.base)) ∧
      goes (.timTicklenWrite c v)
        (if k.alignedStandby = true ∨ len = k.rd Kv.TIM_TICKLEN.LEN then k
         else if k.parked = false then bad k 17 Kv.TIM_TICKLEN.LEN
         else if 500 ≤ len ∧ len ≤ 8000 ∧ tickFits len k.frameTime (k.on Kv.TIM_SPRD.EN) = true ∧
            (k.on Kv.TIM_SPRD.EN = true → sprdPermitted (k.rd Kv.TIM_SPRD.K) len = true) then k.wr Kv.TIM_TICKLEN.LEN len
         else bad k 18 Kv.TIM_TICKLEN.LEN) ∧
      (Kv.TIM_SPRD.K.ok K = true → goes (.timSprdWrite c v)
        (if k.alignedStandby = true ∨ (K = k.rd Kv.TIM_SPRD.K ∧ en = k.rd Kv.TIM_SPRD.EN) then k
         else if k.parked = false then bad k 17 Kv.TIM_SPRD.K
         else if en = 0 ∨ (25 * (K * k.rd Kv.TIM_TICKLEN.LEN * 10) ≤ 1000000 ∧ 1000000 ≤ 45 * (K * k.rd Kv.TIM_TICKLEN.LEN * 10)) then
           (k.wr Kv.TIM_SPRD.K K).wr Kv.TIM_SPRD.EN en
         else bad k 18 Kv.TIM_SPRD.K)) ∧
      (Kv.TIM_SPRD.K.ok K = false → k.alignedStandby = false → en = k.rd Kv.TIM_SPRD.EN →
        goes (.timSprdWrite c v) (k.raise Src.REGACC 16 Kv.TIM_SPRD.K.base)) ∧
      (let t := (k.wr Kv.TIM_CBASE.CB v.toNat).wr Kv.ETH_PTPST.STALE 0
       goes (.timCbaseWrite c v) { t with tim := { t.tim with
         mapSec := t.rd Kv.TIM_BSECH.SECH * 2 ^ 32 + t.rd Kv.TIM_BSECL.SECL, mapNs := t.rd Kv.TIM_BNS.NS, mapC := v.toNat, mapAt := k.tim.up / 2 ^ 32 } }) ∧
      goes (.mappingStale c) (if 2 ^ 31 < k.tim.up / 2 ^ 32 - k.tim.mapAt then k.mark Kv.ETH_PTPST.STALE else k)) ∧
    goes (.refclkLoss c) (if (s.chip c).boot.inReset = true then lost else lost.raise Src.TIM_REFCLK 0 0) ∧
    goes (.regionDifference c mv)
      (if mv.toNat ≤ 50 then k else if (s.chip c).boot.inReset = true then apart else apart.raise Src.TIM_REGION 0 0)

/-- A tick boundary counts one tick on at B + 10 ns × LEN on a running duty; in STANDBY it advances only the time;
without REFCLK none comes -/
def Obligations.Tick_boundary_time : Prop :=
  ∀ (s : State) (c : Chip) (meas : Option ClStamps),
    let k := s.kvAt c
    let off := (k.wr Kv.TIM_STAT.STBY 0).wr Kv.TIM_STAT.ALIGNED 0
    (k.on Kv.TIM_STAT.REFLOSS = true → exec (.tickBoundary c meas) s = .next (s.setChip c k)) ∧
    (k.on Kv.TIM_STAT.REFLOSS = false → k.boot.inReset = false → k.rd Kv.SYS_PWR.STATE ≠ 2 → k.duty = true →
      ∃ t : Kv, exec (.tickBoundary c meas) s = .next (s.setChip c t) ∧
        t.tim.tick = k.tim.tick + 1 ∧ t.tim.bn = k.tim.bn + BitVec.ofNat 32 (10 * k.tim.len)) ∧
    (k.on Kv.TIM_STAT.REFLOSS = false → (k.boot.inReset = true ∨ k.rd Kv.SYS_PWR.STATE = 2) →
      ∃ t : Tim,
        exec (.tickBoundary c meas) s = .next (s.setChip c { off with tim := t }) ∧
        t.tick = k.tim.tick + 1 ∧ t.bn = k.tim.bn + BitVec.ofNat 32 (10 * k.tim.len) ∧ t.len = k.rd Kv.TIM_TICKLEN.LEN ∧
        (if (k.tim.tick + 1).toNat % k.rd Kv.TIM_SPRD.K = 0 then t.sprdK = k.rd Kv.TIM_SPRD.K ∧ t.sprdEn = k.on Kv.TIM_SPRD.EN
         else t.sprdK = k.tim.sprdK ∧ t.sprdEn = k.tim.sprdEn) ∧
        (∃ edges : Nat, t.ns = k.tim.ns + BitVec.ofNat 64 (edges * t.inc.toNat)) ∧
        t.mapSec = k.tim.mapSec ∧ t.mapNs = k.tim.mapNs ∧ t.mapC = k.tim.mapC)

/-- At every REFCLK edge TIM adds the increment in force to the nanosecond counter, and a committed increment comes
into force -/
def Obligations.REFCLK_edge_adds_the_increment : Prop :=
  (∀ s : State, s.pending = [] → ∃ t : State, step s = .next t ∧ ∀ c : Chip,
    (s.chip c).on Kv.TIM_STAT.REFLOSS = false →
    let inc := match (s.chip c).tim.incNext with | some i => i | none => (s.chip c).tim.inc
    (t.chip c).tim.ns = (s.chip c).tim.ns + inc.setWidth 64 ∧ (t.chip c).tim.inc = inc ∧ (t.chip c).tim.incNext = none ∧
    (t.chip c).tim.tick = (s.chip c).tim.tick ∧ (t.chip c).tim.bn = (s.chip c).tim.bn) ∧
  (∀ c : Chip, (State.reset.chip c).tim.inc = 0x0A00000000 ∧
    (State.reset.chip c).rd Kv.TIM_INCI.INCI = 0x0A ∧ (State.reset.chip c).rd Kv.TIM_INCF.INCF = 0)

/-- The link state machine at every hop end: DARK, TRAIN, SHIFT, HUNT, UP, its polarity, lock, blind starts, timeouts
and saved settings -/
def Obligations.Hop_start_and_loss : Prop :=
  ∀ (s : State) (h : HopEnd) (l : List (BitVec 66)) (pos kind : BitVec 4) (sig lane shift : BitVec 8) (ready : Bool),
    let F := h.flds
    let i := h.num
    let c := s.hopCfg h
    let x := s.hopSt h
    let q := x.h
    let st := x.rd F.lstate i
    let lit := x.wr F.los i 0
    let goes := fun (j : Instr) (y : HopSt) => exec j s = .next (s.hopAs h y)
    let train := fun (z : HopSt) =>
      let y := (z.wr F.lstate i lTrain).wr F.alock i 0
      let y := y.wr F.rxinv i (if c.pauto then y.rd F.rxinv i else c.invrx)
      hopSend F c i { y with h := { z.h with
        readyRun := 0, blind := false, failed := false, service := false, commas := 0, chars := [], sigOk := false, shift := 0 } }
    let blind := fun (z : HopSt) =>
      let y := ((z.wr F.lstate i lHunt).wr F.alock i 0).wr F.rxinv i (if c.pauto then q.savedInv else c.invrx)
      let pk := if z.rd F.saved i = 1 then q.savedPk else 8
      let y := (y.wr F.pk i pk).wr F.pksat i (if pk = 0 ∨ pk = 15 then 1 else 0)
      hopToService F c i { y with h := { z.h with blind := true, failed := false } }
    let unlock := fun (z : HopSt) => { ((z.wr F.alock i 0).wr F.losta i 1) with
      lost := true, h := { z.h with goodRun := 0, hdrs := [], foreign := 0, commas := 0, chars := [], sigOk := false } }
    let dark := fun (z : HopSt) =>
      if hopGoesBlind F c i z = true ∨ (c.run ∧ c.nrz = false) then hopToService F c i z
      else hopSend F c i { z with h := { z.h with service := false, shift := 0 } }
    let wire := fun (rd : Bool) (sg : Nat) (inv : Bool) =>
      (encodeChars rd (trainingBlock sg kind.toNat lane.toNat ready shift.toNat).chars).1.map (fun v => BitVec.ofNat 10 (if inv then 1023 - v else v))
    let again := c.nrz = false ∧ (c.bring = 1 ∨ c.bring = 2) ∧ x.rd F.saved i = 1 ∧ ¬ (q.auto ∧ c.bring = 1 ∧ c.run = false)
    (st = lDark → ¬ again → goes (.signalDetect h) (if c.run then lit else train lit)) ∧
    (st = lDark → again → goes (.signalDetect h) (blind lit)) ∧
    (st = lUp → x.rd F.alock i = 1 → goes (.signalLoss h)
      (dark { (((unlock x).wr F.los i 1).wr F.lstate i lDark) with
        leftUp := true, h := { (unlock x).h with afterLoss := true, auto := false, blind := false, failed := false, readyRun := 0 } })) ∧
    (st = lTrain → goes (.signalLoss h) (dark { (((x.wr F.alock i 0).wr F.los i 1).wr F.lstate i lDark) with
      h := { q with afterLoss := true, auto := false, blind := false, failed := false, readyRun := 0, goodRun := 0,
                    commas := 0, chars := [], sigOk := false } })) ∧
    (st = lTrain → c.run = false → x.rd F.alock i = 1 → (∀ b ∈ q.chars, b = false) →
      (∀ mk ty sg rest, wire q.rxRd sig.toNat (x.rd F.rxinv i == 1) = mk :: ty :: sg :: rest →
        ∃ y : HopSt, goes (.trainingBlockReceived h pos mk ty sg rest) y ∧ y.rd F.lstate i = lTrain ∧ y.rd F.alock i = 1 ∧
        (sig = 0xC5 → y.h.peer = kind.toNat ∧ y.h.lane = lane.toNat ∧ y.h.farShift = shift.toNat ∧
          y.h.readyRun = (if ready then q.readyRun + 1 else 0) ∧ y.rd F.rxinv i = x.rd F.rxinv i) ∧
        (sig ≠ 0xC5 → y.h.readyRun = 0 ∧
          y.rd F.rxinv i = (if c.pauto then 1 - x.rd F.rxinv i else x.rd F.rxinv i))) ∧
      (∀ mk ty sg rest, wire (!q.rxRd) 0xC5 (x.rd F.rxinv i != 1) = mk :: ty :: sg :: rest →
        ∃ y : HopSt, goes (.trainingBlockReceived h pos mk ty sg rest) y ∧ y.h.readyRun = 0 ∧
          y.rd F.rxinv i = (if c.pauto then 1 - x.rd F.rxinv i else x.rd F.rxinv i))) ∧
    (st = lTrain → 16 ≤ q.readyRun → c.run = false → c.nrz = false →
      goes (.trainReady h) { (x.wr F.lstate i lShift) with h := { q with shift := 63 } }) ∧
    (st = lTrain → goes (.trainTimeout h) (dark { ((x.wr F.lstate i lDark).wr F.alock i 0) with
      h := { q with readyRun := 0, auto := true, commas := 0, chars := [], sigOk := false } })) ∧
    (st = lShift → c.run = false →
      let z := hopCountDown F c i q.shift x
      let y := (z.wr F.lstate i lHunt).wr F.alock i 0
      goes (.shiftEnd h) (hopToService F c i { y with h := { z.h with blind := false, failed := false, pre := 0, rpre := 0 } })) ∧
    (let y := l.foldl (hopTake F c i) x
     goes (.blockLock ⟨h, l⟩) y ∧ goes (.blockLockLoss ⟨h, l⟩) y ∧ goes (.huntPolarityInvert ⟨h, l⟩) y) ∧
    (∀ (x : HopSt) (v : BitVec 66),
      let st := x.rd F.lstate i
      let r := hopBlock F i v.toNat x
      let y := r.1
      (st = lHunt → x.rd F.alock i = 0 → hopTake F c i x v =
        (if r.2.1 = false then { y with h := { y.h with goodRun := 0, huntPos := (x.h.huntPos + 1) % 33 } }
         else if x.h.goodRun < 63 then { y with h := { y.h with goodRun := x.h.goodRun + 1 } }
         else { (y.wr F.alock i 1) with h := { y.h with goodRun := 0, hdrs := List.replicate 64 true, foreign := 0 } })) ∧
      (st = lHunt ∨ (st = lUp ∧ x.h.service = true) → x.rd F.alock i ≠ 0 →
        let odd := r.2.1 = true ∧ r.2.2.control = true ∧ st = lHunt ∧ ¬ r.2.2.kind ∈ assignedTypes
        let z := { y with h := { y.h with
          hdrs := (r.2.1 :: x.h.hdrs).take 64, foreign := if odd then x.h.foreign + 1 else 0 } }
        let w := (unlock z).wr F.lstate i lHunt
        hopTake F c i x v =
          (if 16 ≤ (z.h.hdrs.filter (fun b => !b)).length then
             (if st = lUp then { w with leftUp := true, h := { w.h with
               blind := (c.bring == 1 || c.bring == 2) && x.rd F.saved i == 1, afterLoss := true, auto := false, failed := false } }
              else w)
           else if c.pauto ∧ 8 ≤ z.h.foreign then
             { ((z.wr F.rxinv i (1 - x.rd F.rxinv i)).wr F.alock i 0) with h := { z.h with foreign := 0, goodRun := 0, hdrs := [] } }
           else z))) ∧
    (st = lHunt → x.rd F.alock i = 1 →
      let y := (x.wr F.lstate i lUp).wr F.saved i 1
      goes (.hopUp h) { y with h := { q with
        savedInv := y.rd F.rxinv i, savedPk := if y.rd F.man i = 1 then y.rd F.mpk i else y.rd F.pk i
        blind := false, failed := false, auto := false, afterLoss := false } }) ∧
    (st = lHunt → q.blind = false → c.run = false → goes (.huntTimeout h) (train x)) ∧
    (st = lHunt → q.blind = true →
      let w := { (x.wr F.blindf i 1) with blindFail := true }
      goes (.blindStartFail h)
        (if c.run ∨ c.bring = 2 then { w with h := { q with failed := true } } else train { w with h := { q with auto := true } })) ∧
    (st = lHunt → q.blind = true → q.failed = true → (c.bring = 2 ∨ (c.run ∧ c.bring = 1)) → goes (.blindRetry h) (blind x))

/-- Patterns deselected, adaptation frozen, resumed and stepped, a lane learnt from training, and one error injected
-/
def Obligations.Hop_patterns_peaking_and_injection : Prop :=
  ∀ (s : State) (h : HopEnd) (dir : BitVec 2) (rx : List Bool) (pos : BitVec 4),
    let F := h.flds
    let i := h.num
    let x := s.hopSt h
    let goes := fun (j : Instr) (y : HopSt) => exec j s = .next (s.hopAs h y)
    let v := if dir = 1 then min 15 (x.rd F.pk i + 1) else if dir = 2 then x.rd F.pk i - 1 else x.rd F.pk i
    let moved := if x.rd F.man i = 0 ∧ x.rd F.frozen i = 0 ∧ x.rd F.alock i = 1 then
      (x.wr F.pk i v).wr F.pksat i (if v = 0 ∨ v = 15 then 1 else 0) else x
    (let y := (x.wr F.gpat i 0).wr F.cpat i 0
     goes (.testPatternDeselect h) (if y.rd F.lstate i = lTest then
       hopDark F (s.hopCfg h) i { ((y.wr F.lstate i lDark).wr F.csync i 0) with h := { y.h with chk := {} } } else y)) ∧
    goes (.adaptationFreeze h) (x.wr F.frozen i 1) ∧ goes (.adaptationResume h) (x.wr F.frozen i 0) ∧
    (x.rd F.lstate i ≠ lTest → goes (.adaptationStep h ⟨dir, rx⟩) moved) ∧
    (x.rd F.lstate i = lTest → x.rd F.gpat i = 0 → x.rd F.cpat i ≠ 0 →
      let bits := if x.rd F.rxinv i ≠ 1 then rx else if x.h.service then invertPairs rx else rx.map (!·)
      let k := bits.foldl (Checker.take (x.rd F.cpat i) x.h.service) x.h.chk
      goes (.adaptationStep h ⟨dir, rx⟩)
        { (moved.wr F.csync i (if k.sync then 1 else 0)) with h := { x.h with chk := { k with errs := 0 } }, errs := k.errs }) ∧
    ((x.rd F.emode i = 1 ∨ x.rd F.emode i = 3 ∨ x.rd F.emode i = 4) → x.rd F.lstate i = lTest → x.rd F.elive i = 0 →
      goes (.errorInjectGo h) { x with h := { x.h with inject := x.rd F.emode i } }) ∧
    ((x.rd F.emode i = 1 ∨ x.rd F.emode i = 3 ∨ x.rd F.emode i = 4) → x.rd F.elive i = 1 → (∀ c n, h ≠ .cl c n) →
      (∀ d, h.sites = [.chip d] → (s.kvAt d).duty = false) →
      goes (.errorInjectGo h) { x with h := { x.h with inject := x.rd F.emode i } }) ∧
    (∀ (c : Chip) (n : BitVec 5), s.live c → (s.kvAt c).on Kv.SPn_PCTL.ELIVE n.toNat = true → (s.kvAt c).duty = true →
      (s.kvAt c).rd Kv.SYS_PWR.STATE = 0 →
      exec (.errorInjectGo (.sp c n)) s = .next (s.setChip c ((s.kvAt c).raise Src.REGACC 17 (Kv.SPn_PCTL.EGO.addr n.toNat 0)))) ∧
    (∀ (c : Chip) (n lane : BitVec 3) (ready : Bool) (shift : BitVec 8), s.live c → h = .cl c n →
      x.rd F.lstate i = lTrain → x.rd F.alock i = 1 → (∀ b ∈ x.h.chars, b = false) → (s.kvAt c).on Kv.CL_CTRL.LAUTO = true →
      let sent := (encodeChars x.h.rxRd (trainingBlock 0xC5 3 lane.toNat ready shift.toNat).chars).1
      let codes := sent.map (fun v => BitVec.ofNat 10 (if x.rd F.rxinv i = 1 then 1023 - v else v))
      ∀ mk ty sg rest, codes = mk :: ty :: sg :: rest → ∃ y : Kv, exec (.trainingBlockReceived h pos mk ty sg rest) s = .next (s.setChip c y) ∧
        y.rd Kv.CL_LMAP.MAP = putBits ((s.kvAt c).rd Kv.CL_LMAP.MAP) (3 * lane.toNat) 3 n.toNat ∧ y.on Kv.CLn_STAT.ALOCK n.toNat = true)

/-- The castle link goes up, loses lanes and goes down; ports leave and join service; the power handshake probes,
lights and cuts -/
def Obligations.Castle_link_and_port_service : Prop :=
  ∀ (s : State) (c : Chip) (n lane : BitVec 3) (p : BitVec 5) (ok fault : Bool) (skew : Nat), s.live c →
    let k := s.kvAt c
    let i := p.toNat
    let goes := fun (j : Instr) (y : Kv) => exec j s = .next (s.setChip c y)
    let act := k.rd Kv.CL_STAT.ACT
    let less := setBit act n.toNat false
    (k.laneOf lane.toNat = n.toNat → skew ≤ 32 → k.rd Kv.CLn_STAT.LSTATE n.toNat = lHunt → k.on Kv.CLn_STAT.ALOCK n.toNat = true →
      ∃ t : Kv, goes (.laneMarkerReceived c n ⟨lane, skew⟩) t ∧ t.rd Kv.CLn_STAT.LSTATE n.toNat = lUp ∧
        t.on Kv.CLn_PEAK.SAVED n.toNat = true ∧ (Tab.get {} n.toNat t.cl).skew = skew ∧
        (k.on Kv.CL_STAT.UP = true → act &&& k.lanesUp = act → t.on Kv.CL_STAT.UP = true ∧ t.rd Kv.CL_STAT.ACT = setBit act lane.toNat true)) ∧
    (k.laneOf lane.toNat = n.toNat → 32 < skew → goes (.laneMarkerReceived c n ⟨lane, skew⟩) (k.laneGoneBy n.toNat)) ∧
    (k.laneOf lane.toNat ≠ n.toNat → k.rd Kv.CLn_STAT.LSTATE n.toNat = lHunt → (Tab.get {} n.toNat k.cl).blind = true →
      ∃ t : Kv, goes (.laneMarkerReceived c n ⟨lane, skew⟩) t ∧ t.on Kv.CLn_STAT.BLINDF n.toNat = true ∧
        (if k.rd Kv.CL_CTRL.BRING = 2 then (Tab.get {} n.toNat t.cl).failed = true
         else t.rd Kv.CLn_STAT.LSTATE n.toNat = lTrain)) ∧
    (k.on Kv.CL_CTRL.EN = true → k.on Kv.CL_STAT.UP = false → lanesCarry k.lanesUp = true →
      goes (.castleLinkUp c)
        (((k.mark Kv.CL_STAT.UP).wr Kv.CL_STAT.ACT k.lanesUp).wr Kv.CL_STAT.DEG (if k.lanesUp = 0xFF then 0 else 1)).startResync) ∧
    (k.on Kv.CL_STAT.UP = true → bit act n.toNat = true → lanesCarry less = true →
      goes (.castleLaneLost c n) (((k.wr Kv.CL_STAT.ACT less).wr Kv.CL_STAT.DEG 1).raise Src.CL_LANE 0 n.toNat)) ∧
    (k.on Kv.CL_STAT.UP = true → (k.on Kv.CL_CTRL.EN = false ∨ lanesCarry (act &&& k.lanesUp) = false) →
      let y := ((((k.wr Kv.CL_STAT.UP 0).wr Kv.CL_STAT.ACT 0).wr Kv.CL_STAT.DEG 0).wr Kv.TIM_STAT.ALIGNED 0).wr Kv.TIM_STAT.STBY 0
      goes (.castleLinkDown c) ({ y with tim := { k.tim with alignRun := 0 } }.raise Src.CL_DOWN 0 0)) ∧
    (∃ t : Kv, goes (.portEnClear c p) t ∧ t.on Kv.SPn_CTRL.EN i = false ∧ (t.spP i).frame = (k.spP i).frame ∧
      (t.spP i).launched = (k.spP i).launched ∧
      t.rd Kv.SPn_STAT.LSTATE i = (if (k.rd Kv.SPn_PCTL.GPAT i ≠ 0 ∨ k.rd Kv.SPn_PCTL.CPAT i ≠ 0) ∧ (k.spP i).frame = none ∧
        (k.spP i).launched = none then lTest else k.rd Kv.SPn_STAT.LSTATE i)) ∧
    (let st := k.rd Kv.SPn_STAT.LSTATE i
     ∃ t : Kv, goes (.portEnSet c p) t ∧ t.on Kv.SPn_CTRL.EN i = true ∧ t.rd Kv.SPn_STAT.LSTATE i = (if st = lTest then lDark else st) ∧
      (st = lTest ∨ st = lDark → (t.spP i).hop.auto = false ∧ (t.spP i).hop.afterLoss = false)) ∧
    (∃ t : Kv, goes (.portTxenClear c p) t ∧ t.on Kv.SPn_CTRL.EN i = false ∧ t.on Kv.SPn_CTRL.TXEN i = false ∧
      t.on Kv.SPn_PWR.PWREN i = false ∧ (t.spP i).frame = (k.spP i).frame ∧
      (t.spP i).txOut = ((k.spP i).txOut && (k.spP i).launched.isSome)) ∧
    (let y := k.wr Kv.SPn_PWR.PWROK (if ok then 1 else 0) i
     (let z := (y.wr Kv.SPn_PWR.PWREN 0 i).mark Kv.SPn_PWR.CUT i
      goes (.laserInterlockCut c p ⟨ok, fault⟩)
        (if ((k.on Kv.SPn_PWR.PWROK i = true ∧ ok = false) ∨ fault = true) ∧ k.on Kv.SPn_PWR.PWREN i = true then
          (z.wr Kv.SPn_PWR.PSTATE (if z.on Kv.SPn_PWR.EN i then 1 else 0) i).raise Src.SP_PWR 0 i
         else y)) ∧
     (k.rd Kv.SPn_PWR.PSTATE i = 2 → ok = true → y.probeLight i = true →
      goes (.probeResult c p ok) ((y.wr Kv.SPn_PWR.PSTATE 3 i).onSp i (fun q => { q with fails := 0 }))) ∧
     (k.rd Kv.SPn_PWR.PSTATE i = 2 → (ok = false ∨ y.probeLight i = false) →
      let z := ((y.wr Kv.SPn_PWR.PWREN 0 i).count Kv.SPn_PWR.TRIES Kv.SPn_PWR.TSAT Src.SYS_SAT i).onSp i
        (fun q => { q with fails := q.fails + 1 })
      goes (.probeResult c p ok)
        (if z.rd Kv.SPn_PWR.MAXT i ≠ 0 ∧ z.rd Kv.SPn_PWR.MAXT i ≤ (z.spP i).fails then
          ((z.mark Kv.SPn_PWR.GIVEUP i).wr Kv.SPn_PWR.PSTATE 0 i).raise Src.SP_GIVEUP 0 i
         else z.wr Kv.SPn_PWR.PSTATE 1 i))) ∧
    (k.rd Kv.SPn_PWR.PSTATE i = 1 → k.on Kv.SPn_PWR.EN i = true → k.on Kv.SPn_PWR.GIVEUP i = false → k.on Kv.SPn_CTRL.TXEN i = true →
      goes (.probeOffTimeEnd c p) ((k.mark Kv.SPn_PWR.PWREN i).wr Kv.SPn_PWR.PSTATE 2 i))

/-- A module receives a header, its command slot and a trailer, writes its report, and sends each on; a lock lost in
mid-frame voids the rest -/
def Obligations.Frames_passing_a_module : Prop :=
  ∀ (s : State) (a : BitVec 13) (p : Port) (h : Header) (cyc frac lat t blk : Nat) (ppm : Int) (slot : CmdSlot) (tr0 : Trailer),
    let x := s.kcAt a
    let q := p.other
    let passed := fun (y : Cell) (out : Header) (good : Bool) =>
      let y := y.onPort q (fun r => { r with sent := some (toBits 64 (y.instant cyc frac + lat)) })
      let y := y.onPort p (fun r => { r with pass := some out, passing := true, voided := false, filled := false, sentHop := out.hop.toNat })
      (y.putHeader q (out.seal (x.checkStr h) good)).gapped q
    let gone := fun (y : Cell) => y.onPort p (fun r => { r with hop := r.hop.unknownRx })
    let stopped := fun (y : Cell) => y.onPort p (fun r => { r with pass := none, passing := false, voided := false, filled := false })
    let r := x.port p
    (x.live = true → h.valid (x.checkStr h) = true →
      let y := gone (x.takeHeader p h (x.instant cyc frac) ppm)
      let out := y.forwardHeader q h lat
      exec (.headerReceived a p h ⟨cyc, frac⟩ lat ppm) s = .next (s.setCell a
        (if y.forwards = true ∧ y.w.hop.service = y.e.hop.service then passed y out true else stopped y)) ∧
      out.hop = BitVec.ofNat 9 (h.hop.toNat + 1) ∧ out.lrx = y.rxUp q ∧
      (∀ k, y.pos = some k → out.lpos = BitVec.ofNat 9 k ∧ out.lhop = out.hop) ∧
      (y.pos = none → out.lpos = h.lpos ∧ out.lhop = h.lhop)) ∧
    (x.live = true → h.valid (x.checkStr h) = false →
      let y := gone (x.onPort p (fun r => { r with inFrame := none, badFrame := true, seen := false }))
      exec (.headerReceived a p h ⟨cyc, frac⟩ lat ppm) s = .next (s.setCell a
        (if y.forwards = true ∧ y.w.hop.service = y.e.hop.service then passed y (y.forwardHeader q h lat) false else stopped y))) ∧
    (x.live = true → x.pos.isSome = true → (x.w.folded = false ∨ x.e.folded = false) → r.inFrame = some h → r.voided = false → copyValid h x.addr slot = true →
      exec (.commandSlotReceived a p slot) s = .next (s.setCell a
        { x with copies := x.copies ++ [⟨p, h.target, h.cseq.toNat, slot, !tickAhead x.stagedFor h.target⟩] })) ∧
    (x.live = true → r.passing = true → r.pass = some h →
      let n := h.tickno.toNat
      let own := fun (x : Cell) =>
        let y := x.fixReport n
        ((y.putSlots q [(3, y.reportSlot n (p == .w))]).gapped q).wrote n
      let place := fun (addr : Nat) (x : Cell) => (x.putSlots q [(3, x.placeSlot addr n)]).gapped q
      (x.pos.isSome = true → (∀ e, x.place = some e → n ≠ e.2) → exec (.reportSlotWrite a p) s = .next (s.setCell a (own x))) ∧
      (∀ addr, x.place = some (addr, n) → (x.pos = none ∨ x.addr = addr) → exec (.reportSlotWrite a p) s = .next (s.setCell a (place addr x))) ∧
      (∀ addr, x.place = some (addr, n) → x.pos.isSome = true → x.addr ≠ addr →
        exec (.reportSlotWrite a p) s = .next (s.setCell a
          (if (p = .w ∧ addr % 256 < x.addr % 256) ∨ (p = .e ∧ x.addr % 256 < addr % 256) then own (place addr x) else place addr (own x)))) ∧
      (x.pos.isSome = true →
        let tr := if r.voided then { cfire := false, fpos := 0, evtany := false, nlive := 0, tcrc := 0 } else tr0
        let good := tr.valid x.str n && !r.voided
        let out := x.markTrailer q r.sentHop tr
        let y := x.onPort p (fun r => { r with passing := false, inFrame := none, badFrame := false, voided := false, filled := false })
        let y := (y.onPort q (fun r => { r with evAny := false, fire := false })).putTrailer q (out.seal x.str n good)
        exec (.trailerForward a p ⟨tr0, t⟩) s = .next (s.setCell a (if good && tr.cfire then y.capTrigger 7 (y.gen.bT + t) else y)) ∧
        out.nlive = BitVec.ofNat 9 r.sentHop ∧ out.cfire = (tr.cfire || (x.port q).fire) ∧
        out.evtany = (tr.evtany || (x.port q).evAny)) ∧
      (r.filled = false →
        let y := x.onPort p (fun r => { r with inFrame := none, voided := true, filled := true })
        ∀ part, exec (.midFrameLockLoss ⟨.opt a p, blk, part⟩) s = .next (s.setCell a
          (y.putSlots q (y.voidSlots h h.str.toNat n (max 32 blk) none))))) ∧
    (x.live = true → r.passing = false → x.forwards = true → 1 ≤ blk →
      let y := x.onPort p (fun r => { r with inFrame := none })
      let out := ((y.forwardHeader q (h.cut blk) 0).cut blk).seal (y.checkStr h) false
      let n := if 2 ≤ blk then h.tickno.toNat else x.tick
      let y := y.onPort p (fun r => { r with
        pass := some { out with tickno := BitVec.ofNat 48 n }, passing := true, voided := true, filled := true, sentHop := out.hop.toNat })
      exec (.midFrameLockLoss ⟨.opt a p, blk, some h⟩) s = .next (s.setCell a
        ((y.putHeader q out).putSlots q (y.voidSlots h h.str.toNat n 32 none)))) ∧
    (∀ c (n : BitVec 5) part, s.live c → exec (.midFrameLockLoss ⟨.sp c n, blk, part⟩) s =
      .next (s.setChip c ((s.kvAt c).onSp n.toNat (fun r => { r with frame := none })))) ∧
    (∀ c n part, exec (.midFrameLockLoss ⟨.cl c n, blk, part⟩) s = .next s)

/-- At its deadline a module stages the copy it obeys; at the boundary the tick counts on, copies of past targets go
and nothing stays staged -/
def Obligations.Module_boundary_and_deadline : Prop :=
  ∀ (s : State) (a : BitVec 13) (act : TripIn),
    let x := s.kcAt a
    let next := (x.tick + 1) % 2 ^ 48
    (x.mainOn = true → x.held = false →
      let r := x.select next
      let y := { x.genTo (x.gen.bT + x.tickUnits - 128) with staged := r.1, stagedFor := next }
      exec (.cellCommandDeadline a) s = .next (s.setCell a (if r.2 then y.event Ev.DCONF else y))) ∧
    (x.mainOn = true → x.held = false →
      ∃ y : Cell,
        exec (.cellTickBoundary a act) s = .next (s.setCell a y) ∧
        (x.timed = true ∨ x.endSource = none → y.tick = next ∧ y.gen.bT = x.gen.bT + x.tickUnits) ∧
        (x.timed = false → x.endSource = none → y.on Kc.CTM_STAT.FREE = true) ∧
        y.grd.quiet = none ∧ y.staged = none ∧
        (∀ c ∈ y.copies, c ∈ x.copies ∧ tickAhead y.tick c.target = true) ∧
        (∀ w ∈ y.wa, w ∈ x.wa ∧ tickAhead w.2.2 y.tick = false)) ∧
    (x.holding = true → x.holdLimit < x.hold → x.genDeaf = false →
      exec (.holdLimit a) s = .next (s.setCell a x.applyPark))

/-- Side-channel RD, WA and WD and the five BCMD requests: what each does at a module and how it is answered -/
def Obligations.Requests_to_a_module : Prop :=
  ∀ (s : State) (a : BitVec 13) (p : Port) (c : Copy) (no : BitVec 16) (act : TripIn),
    let x := s.kcAt a
    let v := c.slot.toNat
    let n := (x.tick + 2) % 2 ^ 48
    (x.request p (fun op => op == 1 || decide (4 ≤ op)) = some c →
      exec (.sideRd a p) s = .next (s.setCell a
        (if 4 ≤ cOp v then x.answer p n 4 (cTid v) 4
         else if Kc.isReg (cSide v) = false then x.answer p n 4 (cTid v) 2
         else if x.readBarred (cSide v) then x.answer p n 4 (cTid v) 3
         else x.answer p n 1 (cTid v) (x.regRead (cSide v))))) ∧
    (x.request p (· == 2) = some c →
      exec (.sideWa a p) s = .next (s.setCell a
        (if x.obeyedDuty c then { x with wa := x.wa.filter (fun w => w.1 != cTid v) ++ [(cTid v, cSide v, c.target)] }
         else x.answer p n 4 (cTid v) 3))) ∧
    (∀ (w : Nat × Nat × Nat) (y : Cell) (ok : Bool), x.request p (· == 3) = some c → x.obeyedDuty c = true →
      x.wa.find? (fun w => w.1 == cTid v && (w.2.2 + 1) % 2 ^ 48 == c.target) = some w →
      x.writeReg 1 x.deadlineOfs w.2.1 (cSide v) = some (y, ok) →
      exec (.sideWd a p) s = .next (s.setCell a (if ok then y.answer p n 2 (cTid v) 0 else y.answer p n 4 (cTid v) 3).runStep)) ∧
    (x.runs = false → ∀ i : Instr, (i = .bcmdTallyLatch a no ∨ i = .bcmdCaptureArm a ∨ i = .bcmdTripClear a act ∨ i = .bcmdClearShdw a ∨
      i = .bcmdAcknowledge a) → exec i s = .next (s.setCell a x)) ∧
    (x.runs = true → x.tallyAt = none → x.pos.isSome = true → exec (.bcmdTallyLatch a no) s = .next (s.setCell a (x.latchTally no.toNat))) ∧
    (x.tallyAt.isSome = true → exec (.bcmdTallyLatch a no) s = .next (s.setCell a x)) ∧
    (x.runs = true → (x.rd Kc.CAP_STAT.STATE = capIdle ∨ x.rd Kc.CAP_STAT.STATE = capDone) → x.capOk = true →
      exec (.bcmdCaptureArm a) s = .next (s.setCell a
        (((((x.wr Kc.CAP_STAT.STATE capArmed).wr Kc.CAP_STAT.PRE 0).wr Kc.CAP_NPOST.NPOST 0).onMeas
          (fun m => { m with fired := false, acc := 0, accN := 0, capN := 0, trigs := [], armT := x.gen.bT, stop := none }))))) ∧
    (let y := x.wr Kc.GEN_TRIP.ACT act.toNat
     x.runs = true → y.rd Kc.GEN_TRIP.LAT ≠ 0 → y.genDeaf = false →
      exec (.bcmdTripClear a act) s = .next (s.setCell a
        (if y.rd Kc.GEN_TRIP.LAT &&& act.toNat % 32 = 0 then ((y.wr Kc.GEN_TRIP.LAT 0).wr Kc.GEN_STAT.TRIPL 0).applyPark.redrive
         else y.event Ev.TRCLR))) ∧
    (x.runs = true → exec (.bcmdClearShdw a) s = .next (s.setCell a { x with shdw := 0 })) ∧
    (x.runs = true → exec (.bcmdAcknowledge a) s = .next (s.setCell a (x.ack (x.shownSrc ((x.tick + 2 ^ 48 - 1) % 2 ^ 48)))))

/-- A module drops its position after two ticks of other candidates, folds at an unusable port, unfolds after 8 usable
ticks, sends fold frames -/
def Obligations.Positions_and_folds : Prop :=
  ∀ (s : State) (a : BitVec 13) (p : Port) (lofs : BitVec 10) (h : Header),
    let x := s.kcAt a
    (x.pos.isSome = true → 2 ≤ x.posRun →
      let y := { x with place := some (x.addr, (x.tick + 1) % 2 ^ 48) }
      let y := if x.genDeaf then y else y.applyPark
      exec (.positionDrop a) s = .next (s.setCell a (({ y with pos := none, str := 0, posRun := 0 } : Cell).event Ev.PLACE))) ∧
    (x.live = true → (x.rxUp p = false ∨ 2 ≤ (x.port p).noHdr ∨ 2 ≤ (x.port p).noLrx) →
      exec (.foldOnset a p) s = .next (s.setCell a (x.onPort p (fun r => { r with folded := true, okRun := 0 })))) ∧
    ((x.port p).folded = true → 8 ≤ (x.port p).okRun →
      exec (.foldEnd a p) s = .next (s.setCell a (x.onPort p (fun r => { r with folded := false })))) ∧
    (x.live = true → (x.port p.other).folded = true → (x.port p).folded = false → (x.port p.other).passing = false →
      x.foldHeader p lofs.toNat = some h →
      let n := x.tick
      let y := x.fixReport n
      let y := y.putHeader p (h.seal y.str true)
      let y := (y.putSlots p (y.voidSlots h y.str n 32 (some (y.reportSlot n (p == .e))))).wrote n
      let t := (y.markTrailer p 1 { cfire := false, fpos := 0, evtany := false, nlive := 0, tcrc := 0 }).seal y.str n true
      let y := y.onPort p (fun r => { r with evAny := false, fire := false, sent := some (20 * y.gen.bT + lofs.toNat) })
      exec (.foldFrameLaunch a p lofs) s = .next (s.setCell a (y.putTrailer p t))) ∧
    (x.pos = none → exec (.foldFrameLaunch a p lofs) s = .next (s.setCell a x))

/-- A string port takes headers, fold frames, reports and trailers; staged reports wait for T0; the report arrival
point closes a tick -/
def Obligations.Frames_arriving_at_a_chip : Prop :=
  ∀ (s : State) (c : Chip) (n : BitVec 5) (h : Header) (arr lat : Nat) (k : BitVec 9) (r : RepSlot) (t : Trailer) (e : BitVec 48)
    (w : Held), s.live c →
    let x := s.kvAt c
    let i := n.toNat
    let places := (x.positions i).length
    let f := h.tickno.toNat
    let cell := i * 256 + h.reportPos places k.toNat
    let gone := x.onSp i (fun p => { p with hop := p.hop.unknownRx })
    (x.spJoins i = false → exec (.stringPortHeaderReceived c n h arr lat) s = .next (s.setChip c (gone.rxEnd i))) ∧
    (x.spJoins i = true → h.valid i = false →
      exec (.stringPortHeaderReceived c n h arr lat) s = .next (s.setChip c (gone.onSp i (fun p =>
        { p with frame := none, rxTick := some (match p.rxTick with | some t => tickPlus t 1 | none => x.tick), came := true, misnumbered := p.misnumbered || (h.str.toNat != i && h.valid h.str.toNat) })))) ∧
    (x.spJoins i = true → h.valid i = true →
      let y := gone.onSp i (fun p => { p with
        frame := some h, rxTick := some f, came := true, recv := some arr, farSeen := true
        quietRun := if h.mode.toNat == 1 || h.duty then 0 else p.quietRun })
      let y := y.measureHop i h
      let d := min (2 ^ 20 - 1) (h.pd.toNat + lat)
      exec (.stringPortHeaderReceived c n h arr lat) s = .next (s.setChip c
        (if h.isFold then y.foldArrives i h
         else if y.fromOther h then ((y.wr Kv.SPn_PDLY.P d i).onSp i (fun q => { q with pMax := max q.pMax d })).measureAsym i h arr d
         else y))) ∧
    (x.spJoins i = true → h.valid i = true → h.isFold = true →
      exec (.foldFrameArrival c n h) s = .next (s.setChip c ((x.onSp i (fun p => { p with
        frame := some h, rxTick := some f, came := true, hop := p.hop.unknownRx })).foldArrives i h))) ∧
    let sect := fun (t : Nat) (fold : Bool) (z : Kv) => if k.toNat + 1 = places then z.reportsEnd i t fold else z
    (x.spLive i = true → k.toNat < places → (x.spP i).frame = some h → x.closedFor f = true →
      exec (.reportSlotAccept c n k r) s = .next (s.setChip c x)) ∧
    (x.spLive i = true → k.toNat < places → (x.spP i).frame = none →
      let t := match (x.spP i).rxTick with | some t => t | none => x.tick
      let b := i * 256 + (if x.roleB then k.toNat else places - 1 - k.toNat)
      x.closedFor t = false → exec (.reportSlotAccept c n k r) s = .next (s.setChip c (sect t false
        ((x.setGot b t (x.gotOf b t ||| 4)).count Kv.SPn_SERR.BAD Kv.SPn_SERR.SAT Src.SYS_SAT i)))) ∧
    (x.spLive i = true → k.toNat < places → (x.spP i).frame = some h → x.closedFor f = false →
      let y := x.setGot cell f (x.gotOf cell f ||| 4)
      (repCrcOk r cell f = true → rSeq r.toNat = f % 256 →
        let z := if h.isFold then y.castleSend 0x04 [cell, r.toNat] else y
        exec (.reportSlotAccept c n k r) s = .next (s.setChip c
          (sect f h.isFold (if z.gotOf cell f % 2 = 1 then z else z.enterReport cell f r.toNat false)))) ∧
      ((repCrcOk r cell f = false ∨ rSeq r.toNat ≠ f % 256) →
        exec (.reportSlotAccept c n k r) s = .next (s.setChip c
          (sect f h.isFold (y.count Kv.SPn_SERR.BAD Kv.SPn_SERR.SAT Src.SYS_SAT i))))) ∧
    (x.col.held = [w] → x.bankHeld w.tick = false → w.valid = true →
      exec (.reportStagingWrite c) s = .next (s.setChip c
        (({ x with col := { x.col with held := [] } } : Kv).bankPut w.addr w.tick w.slot.toNat w.relay))) ∧
    (x.closedFor e.toNat = false → tickAhead x.tick e.toNat = false →
      ∃ y : Kv, exec (.reportArrivalPoint c e) s = .next (s.setChip c y) ∧ y.col.closed = e.toNat + 1) ∧
    ((x.spP i).frame = some h →
      ∃ y : Kv, exec (.stringPortTrailerReceived c n t) s = .next (s.setChip c y) ∧ (y.spP i).frame = none ∧
        (t.valid i f = true → y.rd Kv.SPn_GEOM.NLIVE i = t.nlive.toNat ∧ (x.fromOther h = true → (y.spP i).liveSeen = true)))

/-- A module's pass-through, its power states, and the resets of its main domain: what each command does -/
def Obligations.Module_power_and_pass_through : Prop :=
  ∀ (s : State) (a : BitVec 13) (pvw pve : BitVec 8) (lpw lpe vaux written : Bool),
    let x := s.kcAt a
    let goes := fun (j : Instr) (y : Cell) => exec j s = .next (s.setCell a y)
    let power := pvw.toNat + pve.toNat + (if vaux then 200 else 0)
    let seen := x.monitor pvw.toNat pve.toNat lpw lpe vaux
    (x.runs = false → goes (.passThroughClose a) { x.wr Kc.OPT_PT.OPEN 0 with ptOpen := false }) ∧
    (x.mayOpen = true → goes (.passThroughOpen a) { x.mark Kc.OPT_PT.OPEN with ptOpen := true }) ∧
    (x.mayOpen = true → x.rd Kc.OPT_PT.TRIES ≠ 0 → goes (.passThroughRetry a) { x.mark Kc.OPT_PT.OPEN with ptOpen := true }) ∧
    (x.on Kc.OPT_PT.OPEN = true → x.rxUp .w = false → x.rxUp .e = false →
      let n := x.rd Kc.OPT_PT.TRIES + 1
      let y := x.shut.wr Kc.OPT_PT.TRIES (min 8 n)
      goes (.passThroughOpenFail a) ((if 8 ≤ n then y.mark Kc.OPT_PT.STUCK else y).event Ev.PT)) ∧
    (105 ≤ power → power < 170 → x.power = 3 →
      goes (.powerStateFall a pvw pve lpw lpe vaux) ((({ seen with power := 2 } : Cell).wr Kc.OPT_PWR.PSTATE 1).eventIf Ev.PSTATE)) ∧
    (15 ≤ power → power < 105 → 2 ≤ x.power →
      ∃ y : Cell, goes (.powerStateFall a pvw pve lpw lpe vaux) y ∧
        y.power = 1 ∧ y.mainOn = false ∧ y.held = true ∧ y.cause = 1 ∧ y.grd = x.grd ∧ y.banks = x.banks ∧ y.pos = none ∧ y.core = {}) ∧
    (power < 15 → 1 ≤ x.power →
      ∃ y : Cell, goes (.powerStateFall a pvw pve lpw lpe vaux) y ∧
        y.power = 0 ∧ y.mainOn = false ∧ y.grd = {} ∧ y.banks = x.banks ∧ y.on Kc.OPT_PT.STUCK = false ∧ y.on Kc.GRD_STAT.BYPF = false) ∧
    (175 ≤ power → x.power = 2 →
      goes (.powerStateRise a pvw pve lpw lpe vaux) ((({ seen with power := 3 } : Cell).wr Kc.OPT_PWR.PSTATE 0).eventIf Ev.PSTATE)) ∧
    (15 ≤ power → x.power = 0 →
      ∃ y : Cell, goes (.guardPowerOn a pvw pve lpw lpe vaux) y ∧
        y.power = 1 ∧ y.held = true ∧ y.mainOn = false ∧ y.grd = {} ∧ y.banks = x.banks ∧ y.on Kc.OPT_PT.OPEN = false ∧
        y.rd Kc.OPT_PWR.PVW = pvw.toNat ∧ y.rd Kc.OPT_PWR.PVE = pve.toNat) ∧
    (x.power ≠ 0 →
      ∃ y : Cell, goes (.mainDomainReset a written) y ∧
        y.held = true ∧ y.mainOn = false ∧ y.cause = (if written then 2 else 1) ∧ y.grd = x.grd ∧ y.power = x.power ∧
        y.rd Kc.GEN_OUT.G = 0 ∧ y.rd Kc.GRD_STAT.VF = x.rd Kc.GRD_STAT.VF) ∧
    (x.power ≠ 0 →
      ∃ y : Cell, goes (.cellTempReset a) y ∧ y.held = true ∧ y.mainOn = false ∧ y.grd = x.grd ∧ y.power = x.power ∧ y.rd Kc.GEN_OUT.G = 0)

/-- The main domain starts with a bank that passes; events rise, CC_EVP acknowledges them; exceptions and the watchdog
reset the core -/
def Obligations.Module_start_events_and_core : Prop :=
  ∀ (s : State) (a : BitVec 13) (b0 b1 : ImgChk) (fail : CellStart) (cause : BitVec 4) (src : BitVec 5) (pc : BitVec 16) (v : Word),
    let x := s.kcAt a
    let goes := fun (j : Instr) (y : Cell) => exec j s = .next (s.setCell a y)
    let resets := fun (y : Cell) => y.progOn = false ∧ y.wa = [] ∧ y.replies = [] ∧ y.restart.isSome = true ∧
      y.restart.getD 0 < max 1 (16000000 / x.tickUnits)
    (2 ≤ x.power → x.mainOn = false → x.grd.gaveUp = false →
      ∃ y : Cell, goes (.mainDomainStart a b0 b1 fail) y ∧
        y.mainOn = true ∧ y.held = false ∧ y.rd Kc.CC_RST.CAUSE = x.cause % 8 ∧ bit y.pend Ev.RESET = true ∧
        y.rd Kc.ADC_CAL.FAIL = fail.fail.toNat ∧ y.on Kc.CC_SEC.BENCH = fail.bench ∧ y.sec.fault = fail.kflt ∧
        (∀ k, (x.sampled fail).bootBank b0 b1 = some k →
          let i := if k = 0 then b0 else b1
          y.progOn = true ∧ y.entry = i.entry ∧ y.core.pc = i.entry ∧ y.rd Kc.CC_BOOT.RUN = k ∧ y.rd Kc.CC_ID.IDENT = i.ident.toNat) ∧
        ((x.sampled fail).bootBank b0 b1 = none → y.progOn = x.progOn) ∧ (fail.kflt = true → y.progOn = x.progOn) ∧
        ((x.sampled fail).bootBank b0 b1 ≠ some (x.rd Kc.CC_BOOT.SEL) → bit y.pend Ev.SEC = true) ∧ y.ptOpen = false) ∧
    (x.runs = true →
      ∃ y : Cell, goes (.cellEventRaise a src) y ∧
        y.rd Kc.CC_EVP.PEND = setBit (x.rd Kc.CC_EVP.PEND) src.toNat true ∧
        y.w.evAny = (x.w.evAny || x.rd Kc.CC_EVP.PEND == 0) ∧ y.e.evAny = (x.e.evAny || x.rd Kc.CC_EVP.PEND == 0)) ∧
    (∃ y : Cell, goes (.ccEvpWrite a v) y ∧
      ∀ i, i < 32 → bit (y.rd Kc.CC_EVP.PEND) i = (bit (x.rd Kc.CC_EVP.PEND) i && !v.getLsbD i)) ∧
    (x.runs = true → x.progOn = true → x.on Kc.CC_DSTAT.HALTED = false →
      ∃ y : Cell, goes (.watchdogExpiry a) y ∧
        y.rd Kc.CC_XC.CAUSE = 11 ∧ y.rd Kc.CC_XC.PC = 0 ∧ y.core = { pc := x.entry } ∧ resets y ∧ bit y.pend Ev.CC_EXC = true ∧ y.gen = x.gen ∧
        y.rd Kc.GEN_OUT.G = x.rd Kc.GEN_OUT.G) ∧
    (x.runs = true → x.progOn = true →
      ∃ y : Cell, goes (.cellCoreException a cause pc) y ∧
        y.rd Kc.CC_XC.CAUSE = cause.toNat ∧ y.rd Kc.CC_XC.PC = pc.toNat ∧ y.core = { pc := x.entry } ∧ resets y ∧ bit y.pend Ev.CC_EXC = true ∧
        y.gen = x.gen ∧ y.rd Kc.GEN_OUT.G = x.rd Kc.GEN_OUT.G) ∧
    (x.runs = true →
      ∃ y : Cell, goes (.cellCoreReset a) y ∧ y.core = { pc := x.entry } ∧
        (if x.progOn = true ∨ x.restart.isSome = true then resets y else y.progOn = false ∧ y.restart = none) ∧ bit y.pend Ev.CC_EXC = true ∧
        y.gen = x.gen ∧ y.rd Kc.GEN_OUT.G = x.rd Kc.GEN_OUT.G ∧ y.rd Kc.CC_XC.CAUSE = x.rd Kc.CC_XC.CAUSE)

/-- The guard samples, filters and decides; a decision inhibits and makes its actions due; bypass firing, clearing,
and eight restarts -/
def Obligations.Guard_decisions : Prop :=
  ∀ (s : State) (a : BitVec 13) (uv : Int) (t : Nat) (ov md : Bool),
    let x := s.kcAt a
    let goes := fun (j : Instr) (y : Cell) => exec j s = .next (s.setCell a y)
    let win := (guardCount uv :: x.grd.win).take x.guardWindow
    let vf := win.foldl (· + ·) 0 / win.length
    let y := x.wr Kc.GRD_STAT.VF vf
    let run := if x.rd Kc.GRD_TH.OVTH < vf then x.grd.ovRun + 1 else 0
    let quiet := match x.grd.quiet with | some q => q + 8000 | none => t
    let z := { y with grd := { x.grd with win := win, quiet := some quiet, ovRun := min 255 run } }
    let newOv := decide (x.rd Kc.GRD_TH.OVCNT ≤ run) && !x.on Kc.GRD_STAT.OV
    let newMd := z.mainDead && !x.on Kc.GRD_STAT.MDEAD
    (x.power ≠ 0 → (x.on Kc.GRD_CFG.EN = false ∨ x.sensor = true) →
      goes (.guardSample a uv t) { y with grd := { x.grd with win := win, quiet := some quiet, ovRun := 0 } }) ∧
    (x.power ≠ 0 → x.on Kc.GRD_CFG.EN = true → x.sensor = false → newOv = false → newMd = false → goes (.guardSample a uv t) z) ∧
    (x.power ≠ 0 → x.on Kc.GRD_CFG.EN = true → x.sensor = false → (newOv || newMd) = true →
      let act := (if newOv then x.rd Kc.GRD_CFG.OVACT else 0) ||| (if newMd then x.rd Kc.GRD_CFG.MDACT else 0)
      ∃ u : Cell, goes (.guardSample a uv t) u ∧
        u.on Kc.GRD_STAT.INH = true ∧ (newOv = true → u.on Kc.GRD_STAT.OV = true) ∧ (newMd = true → u.on Kc.GRD_STAT.MDEAD = true) ∧
        u.grd.dis = (x.grd.dis || bit act 0) ∧ u.grd.bypDue = (x.grd.bypDue || (bit act 1 && !x.on Kc.GRD_STAT.BYPF)) ∧
        u.rd Kc.GRD_STAT.VF = vf % 4096) ∧
    (x.grd.bypDue = true → x.on Kc.GRD_STAT.BYPF = false →
      goes (.guardBypFire a)
        (({ x.mark Kc.GRD_STAT.BYPF with grd := { x.grd with bypDue := false, byp := true } } : Cell).syncJ3.eventIf Ev.BYP)) ∧
    (x.runs = true → ov = true → md = false → x.on Kc.GRD_STAT.OV = true → x.on Kc.GRD_STAT.MDEAD = false →
      goes (.guardClear a ov md)
        (if x.on Kc.GRD_STAT.BYPF = true ∨ x.rd Kc.GRD_TH.OVTH < x.rd Kc.GRD_STAT.VF then x.event Ev.GRD_CLR
         else { x.wr Kc.GRD_STAT.OV 0 with grd := { x.grd with releaseInh := true } })) ∧
    (x.on Kc.GRD_STAT.MDEAD = true → x.grd.gaveUp = false → (x.runs = false ∨ ∃ q, x.grd.quiet = some q ∧ 80000 * x.rd Kc.GRD_CFG.MDTO ≤ q) →
      ∃ u : Cell, goes (.guardMainRetry a) u ∧ u.mainOn = false ∧ u.held = true ∧ u.cause = 3 ∧
        u.grd = (if x.grd.tries < 8 then { x.grd with tries := x.grd.tries + 1 } else { x.grd with gaveUp := true }))

/-- PARK, ACTIVE, HOLDLAST, BYPASS_FIRE, DISCHARGE and SENSOR: what each obeyed mode makes of the tick -/
def Obligations.Modes_applied_at_a_boundary : Prop :=
  ∀ (s : State) (a : BitVec 13) (slot : CmdSlot) (side : Word),
    let x := s.kcAt a
    let c := slot.toNat
    let b := x.gen.bT
    let goes := fun (j : Instr) (y : Cell) => exec j s = .next (s.setCell a y)
    let clean : Cell := { x.wr Kc.GEN_STAT.ARMED 0 with gen := { x.gen with fireDue := false } }
    let free := (clean.wr Kc.GEN_STAT.DISON 0).syncJ3
    let parked : Cell := { free.genPlan [(b, 0)] with parkApplied := true }
    (x.runs = false ∨ x.genDeaf = true → ∀ i ∈ ([.modePark a, .modeActive a slot, .modeHoldlast a, .modeBypassFire a side, .modeDischarge a,
      .modeSensor a] : List Instr), goes i x) ∧
    (x.runs = true → x.genDeaf = false →
    goes (.modePark a) parked ∧
    goes (.modeSensor a) (if x.sensor then parked else parked.event Ev.CFG) ∧
    (x.sensor = true → ∀ i ∈ ([.modeActive a slot, .modeHoldlast a, .modeBypassFire a side, .modeDischarge a] : List Instr),
      goes i (parked.event Ev.CFG)) ∧
    (x.sensor = false →
      (x.on Kc.GEN_CTRL.SRC = false →
        let y := free.countVoid (cSt0 c) (cSt1 c) (cT1 c) (cSt2 c) (cT2 c)
        goes (.modeActive a slot) { y.genPlan
          (edgePlan b y.tickUnits (y.subst (cSt0 c)) (y.subst (cSt1 c)) (cT1 c) (y.subst (cSt2 c)) (cT2 c)) with parkApplied := false } ∧
        goes (.modeHoldlast a) { clean with gen := { clean.gen with edges := [] }, parkApplied := false }) ∧
      (x.on Kc.GEN_CTRL.SRC = true →
        let g := x.gen
        let run := fun (y : Cell) =>
          let z := y.countVoid g.lp0 g.lp1 g.lpT1 g.lp2 g.lpT2
          ({ z.genPlan (edgePlan b z.tickUnits (z.subst g.lp0) (z.subst g.lp1) g.lpT1 (z.subst g.lp2) g.lpT2) with parkApplied := false } : Cell)
        goes (.modeActive a slot) (run free) ∧ goes (.modeHoldlast a) (run clean)) ∧
      (side.toNat = 0xB7F1 * 2 ^ 16 + x.addr % 8192 → x.on Kc.GEN_STAT.ARMED = false →
        let y := { x with gen := { x.gen with edges := [], stretch := none, want := 0, entered := none }, parkApplied := true }
        goes (.modeBypassFire a side) (((y.mark Kc.GEN_STAT.ARMED).wr Kc.GEN_STAT.STATE 0).drive b 0)) ∧
      (side.toNat = 0xB7F1 * 2 ^ 16 + x.addr % 8192 → x.on Kc.GEN_STAT.ARMED = true →
        goes (.modeBypassFire a side) { x with gen := { x.gen with fireDue := true, edges := [] } }) ∧
      (side.toNat ≠ 0xB7F1 * 2 ^ 16 + x.addr % 8192 →
        goes (.modeBypassFire a side) ((x.mark Kc.GEN_STAT.BADARM).applyPark)) ∧
      (let y := (clean.mark Kc.GEN_STAT.DISON).syncJ3
       let z := if x.on Kc.GEN_STAT.DISON then y else y.event Ev.DIS
       goes (.modeDischarge a) { z.genPlan [(b, 0)] with parkApplied := true })))

/-- Edges, turn-ons, stretches, trips, the armed firing, local pairs, MINP and DT, freeze and park-first halt of a
module's GEN -/
def Obligations.Switching_within_a_tick : Prop :=
  ∀ (s : State) (a : BitVec 13) (i : BitVec 2) (inp : BitVec 3) (t : Nat) (v : Word) (e : Nat × Nat) (rest : List (Nat × Nat)),
    let x := s.kcAt a
    let w := v.toNat
    let goes := fun (j : Instr) (y : Cell) => exec j s = .next (s.setCell a y)
    let due := Tab.get 0 i.toNat x.gen.on
    (x.gen.edges = e :: rest → x.on Kc.GEN_STAT.FROZEN = false → x.genTo e.1 = x →
      goes (.genEdge a) (({ x with gen := { x.gen with edges := rest } } : Cell).genChange e.1 e.2)) ∧
    (due ≠ 0 → (x.on Kc.GEN_STAT.FROZEN = false ∨ (x.tripped = true ∧ bit x.genTarget i.toNat = true)) → x.genTo (due - 1) = x →
      let y : Cell := { x with gen := { x.gen with on := Tab.set 0 i.toNat 0 x.gen.on } }
      goes (.gateTurnOn a i) (if bit (x.rd Kc.GEN_OUT.G) (partner i.toNat) then y
        else y.setG (due - 1) (setBit (x.rd Kc.GEN_OUT.G) i.toNat true))) ∧
    (x.gen.stretch = some t → x.on Kc.GEN_STAT.FROZEN = false → x.gen.resume = false → x.genTo t = x →
      goes (.stretchEnd a) (({ x with gen := { x.gen with stretch := none } } : Cell).genEdge t x.gen.want)) ∧
    (x.mainOn = true → x.held = false → bit (x.rd Kc.GEN_TRIP.TEN) inp.toNat = true → bit (x.rd Kc.GEN_TRIP.LAT) inp.toNat = false →
      let y := (x.wr Kc.GEN_TRIP.ACT (setBit (x.rd Kc.GEN_TRIP.ACT) inp.toNat true)).genTo (x.gen.bT + t)
      let y := (y.wr Kc.GEN_TRIP.LAT (setBit (x.rd Kc.GEN_TRIP.LAT) inp.toNat true)).mark Kc.GEN_STAT.TRIPL
      goes (.tripInputActive a inp ⟨t, true⟩)
        (((y.force (x.gen.bT + t)).event (if inp = 4 then Ev.OVP else Ev.DESAT)).capTrigger 4 (x.gen.bT + t))) ∧
    (x.mainOn = true → x.held = false →
      goes (.tripInputActive a inp ⟨t, false⟩) (x.wr Kc.GEN_TRIP.ACT (setBit (x.rd Kc.GEN_TRIP.ACT) inp.toNat false))) ∧
    (x.on Kc.GEN_STAT.FROZEN = true ∨ x.gen.resume = true → goes (.bypassArmedFire a) x) ∧
    (x.gen.fireDue = true → x.on Kc.GEN_STAT.FROZEN = false → x.gen.resume = false →
      ∃ y : Cell, goes (.bypassArmedFire a) y ∧
        y.on Kc.GEN_STAT.BYPF = true ∧ y.on Kc.GEN_OUT.BYP = true ∧ y.rd Kc.GEN_OUT.G = 0 ∧ y.gen.fireDue = false ∧
        bit y.pend Ev.BYP = true) ∧
    (x.runs = true → w % 2 ^ 16 ≠ x.rd Kc.GEN_MINP.MINP → x.rwlOpen = true →
      (w % 2 ^ 16 = 0 ∨ (x.rd Kc.GEN_DT.DT0 < w % 2 ^ 16 ∧ (x.on Kc.GEN_CTRL.TOPO = true → x.rd Kc.GEN_DT.DT1 < w % 2 ^ 16))) →
      goes (.genMinpDtWrite a false v) (x.wr Kc.GEN_MINP.MINP (w % 2 ^ 16))) ∧
    (x.runs = true → Kc.GEN_DT.DT0.ok (bits w 0 14) = true → Kc.GEN_DT.DT1.ok (bits w 16 14) = true → x.rwlOpen = true → x.rd Kc.GEN_MINP.MINP = 0 →
      (bits w 0 14 ≠ x.rd Kc.GEN_DT.DT0 ∨ bits w 16 14 ≠ x.rd Kc.GEN_DT.DT1) →
      goes (.genMinpDtWrite a true v) ((x.wr Kc.GEN_DT.DT0 (bits w 0 14)).wr Kc.GEN_DT.DT1 (bits w 16 14))) ∧
    (x.runs = true → x.on Kc.GEN_CTRL.SRC = false → x.rwlOpen = true → x.hmode = 2 →
      goes (.genSrcSet a) { x.wr Kc.GEN_CTRL.SRC 1 with gen := { x.gen with
        lp0 := 0, lp1 := 0, lpT1 := 0, lp2 := 0, lpT2 := 0 } }) ∧
    (x.runs = true → x.rwlOpen = true → x.on Kc.GEN_STAT.OPEN = false → bits w 19 3 ≤ 4 → bits w 16 3 ≤ 4 →
      let y := ((x.wr Kc.GEN_LPA.ST0 (bits w 19 3)).wr Kc.GEN_LPA.ST1 (bits w 16 3)).wr Kc.GEN_LPA.T1 (bits w 0 16)
      goes (.genLpaWrite a v) { y.mark Kc.GEN_STAT.OPEN with gen := { x.gen with lpAge := 0 } }) ∧
    (x.runs = true → x.rwlOpen = true → x.on Kc.GEN_STAT.OPEN = true → bits w 16 3 ≤ 4 →
      let y := ((x.wr Kc.GEN_LPB.ST2 (bits w 16 3)).wr Kc.GEN_LPB.T2 (bits w 0 16)).wr Kc.GEN_STAT.OPEN 0
      goes (.genLpbWrite a v) { y with gen := { x.gen with lpAge := 0, lpWait := some (y.rd Kc.GEN_LPA.ST0, y.rd Kc.GEN_LPA.ST1,
        y.rd Kc.GEN_LPA.T1, y.rd Kc.GEN_LPB.ST2, y.rd Kc.GEN_LPB.T2) } }) ∧
    (x.on Kc.GEN_STAT.OPEN = true → 16 ≤ x.gen.lpAge →
      let y : Cell := { x.wr Kc.GEN_STAT.OPEN 0 with torn := true, gen := { x.gen with lpAge := 0 } }
      goes (.localPairTorn a) ((y.count Kc.GEN_STAT.TCNT Kc.GEN_STAT.SAT).event Ev.TORN)) ∧
    (x.runs = true → goes (.genFreeze a) { x.mark Kc.GEN_STAT.FROZEN with gen := { x.gen with resume := false } }) ∧
    (x.on Kc.GEN_STAT.FROZEN = true →
      goes (.genFreezeRelease a) { x.wr Kc.GEN_STAT.FROZEN 0 with gen := { x.gen with
        resume := true, edges := [], stretch := none, want := x.rd Kc.GEN_STAT.STATE, fireDue := false, on := if x.tripped then x.gen.on else [] } }) ∧
    (x.haltReq = true → x.rd Kc.GEN_OUT.G = 0 →
      goes (.parkHaltTakesEffect a) { x.mark Kc.CC_DSTAT.HALTED with haltReq := false })

/-- No boundary, mode, edge, turn-on, stretch, trip, firing or freeze ever turns on both gates of a pair -/
def Obligations.Gates_of_a_pair_are_never_on_together : Prop :=
  ∀ (s t : State) (a : BitVec 13) (slot : CmdSlot) (side v : Word) (i : BitVec 2) (inp : BitVec 3) (n : Nat) (now : Bool) (act : TripIn),
    (s.kcAt a).noShootThrough →
    ∀ j ∈ ([.modePark a, .modeActive a slot, .modeHoldlast a, .modeBypassFire a side, .modeDischarge a, .modeSensor a, .genEdge a,
        .gateTurnOn a i, .stretchEnd a, .tripInputActive a inp ⟨n, now⟩, .bypassArmedFire a, .genFreeze a, .genFreezeRelease a,
        .holdLimit a, .positionDrop a, .cellTickBoundary a act, .genMinpDtWrite a true v, .genSrcSet a, .guardBypFire a] : List Instr),
      exec j s = .next t → (t.kcAt a).noShootThrough

/-- The sample instant, the frozen report fields, injected conversions, calibration runs, and the capture unit of a
module -/
def Obligations.Measuring_and_capture_at_a_module : Prop :=
  ∀ (s : State) (a : BitVec 13) (s0 : AinCodes) (offs : List Nat) (codes : List AinCodes) (inp : AinRun) (die : BitVec 10) (ch src : BitVec 3) (t : Nat) (code : BitVec 16) (res : BitVec 16)
    (ofs gain : Int) (tofs : BitVec 13),
    let x := s.kcAt a
    let goes := fun (j : Instr) (y : Cell) => exec j s = .next (s.setCell a y)
    let st := x.rd Kc.CAP_STAT.STATE
    (x.runs = false → ∀ i ∈ ([.cellSample a s0 offs codes die, .reportFreeze a offs codes, .adcInjGo a ⟨ch, t⟩, .injectedConversionDone a ⟨inp, t⟩,
      .adcCalGo a, .calibrationRunStart a, .calibrationRunEnd a ofs gain res, .capArm ⟨a, tofs⟩, .capAbort ⟨a, tofs⟩, .capTrig a tofs,
      .capTrigger a src tofs, .capPostComplete a] : List Instr), goes i x) ∧
    (x.runs = true →
    (
      let at_ := x.sampleAt
      let y := (x.seeInputs ((0, s0) :: offs.zip codes)).convertTo at_.1
      let hot := decide (660 < die.toNat) && !decide (660 < y.rd Kc.ADC_DIE.DIE)
      let z := (y.wr Kc.ADC_DIE.DIE die.toNat).when hot (fun z => z.event Ev.TEMP)
      let m := z.meas
      let w : Cell := { z with meas := { m with
        mSum := m.sum, mCnt := m.cnt, sum := 0, cnt := 0, chMSum := m.chSum, chMCnt := m.chCnt, chSum := [], chCnt := []
        sample := sx 16 (z.codeAt z.fastInput at_.1), sT := at_.1, sTick := at_.2
        fT := at_.1 + (if m.single = true ∨ m.slices < 2 then 640 else 192), fastT := if m.slices = 0 then 0 else at_.1 + z.grid
        slotT := if z.sharedRow then at_.1 + z.grid else at_.1, todo := z.ungated, rot := 0, wasRep := false } }
      goes (.cellSample a s0 offs codes die) ((if m.slices = 0 then w else w.fastConv at_.1).looked at_.1 at_.1)) ∧
    (
      let y := (x.seeInputs (offs.zip codes)).convertTo (x.meas.fT - 112)
      ∃ t : Cell, goes (.reportFreeze a offs codes) t ∧
        t.meas.frozenTick = y.meas.sTick + 1 ∧ t.meas.newConv = 0 ∧
        t.meas.vceA = (if bit y.meas.newConv 0 then y.vce 0 else y.meas.vceA) ∧
        t.meas.vceB = (if bit y.meas.newConv 1 then y.vce 1 else y.meas.vceB) ∧
        t.meas.temp = (if bit y.meas.newConv 2 then y.tempField else y.meas.temp) ∧
        (y.meas.slices = 0 → t.meas.frozen = 0) ∧
        (y.meas.slices ≠ 0 → y.sensor = false → y.meas.mCnt ≠ 0 →
          t.meas.frozen = (((y.vcap y.meas.sample 1 * 2 ^ 16 + y.vcap y.meas.mSum y.meas.mCnt) * 2 ^ 12 + t.meas.vceA) * 2 ^ 12 +
            t.meas.vceB) * 2 ^ 10 + t.meas.temp)) ∧
    (x.on Kc.ADC_IRES.PEND = true → goes (.adcInjGo a ⟨ch, t⟩) ((x.wr Kc.ADC_INJ.INP ch.toNat).mark Kc.ADC_IRES.IOVR)) ∧
    (x.on Kc.ADC_IRES.PEND = false →
      goes (.adcInjGo a ⟨ch, t⟩) { (x.wr Kc.ADC_INJ.INP ch.toNat).mark Kc.ADC_IRES.PEND with
        meas := { x.meas with inj := some (x.gen.bT + t, ch.toNat), injCode := none } }) ∧
    (x.on Kc.ADC_IRES.PEND = true →
      let u := x.gen.bT + t
      let y := (x.seeInputs inp).convertTo (u - 111)
      y.meas.injCode = some code →
      let z := ((y.wr Kc.ADC_IRES.PEND 0).wr Kc.ADC_IRES.CODE code.toNat).mark Kc.ADC_IRES.VALID
      let z : Cell := { z.wr Kc.ADC_IRES.CLIP (if code = 0x8000 ∨ code = 0x7FFF then 1 else 0) with meas := { y.meas with injCode := none } }
      goes (.injectedConversionDone a ⟨inp, t⟩)
        ((if z.on Kc.ADC_CAL.WAIT then (z.wr Kc.ADC_CAL.WAIT 0).mark Kc.ADC_CAL.BUSY else z).looked u (u - 111))) ∧
    (x.on Kc.ADC_CAL.BUSY = false → x.on Kc.ADC_CAL.WAIT = false → x.sharedRow = false →
      let z := if x.on Kc.ADC_IRES.PEND then x.mark Kc.ADC_CAL.WAIT else x.mark Kc.ADC_CAL.BUSY
      goes (.adcCalGo a) z ∧ (x.rd Kc.ADC_CAL.ROT ≠ 0 → goes (.calibrationRunStart a) z)) ∧
    (x.on Kc.ADC_CAL.BUSY = true →
      let z := (x.wr Kc.ADC_CAL.BUSY 0).count Kc.ADC_CAL.RUNS Kc.ADC_CAL.SAT
      goes (.calibrationRunEnd a ofs gain res)
        (if ofs.natAbs ≤ 64 ∧ gain.natAbs ≤ 100 ∧ res.toNat ≤ 128 then
          { z with meas := { x.meas with
              handover := true, age := Tab.set 0 (x.rd Kc.ADC_CAL.SPARE) (x.meas.clock + 1) x.meas.age, clock := x.meas.clock + 1 } }
         else (z.wr Kc.ADC_CAL.FAIL (setBit (z.rd Kc.ADC_CAL.FAIL) (x.rd Kc.ADC_CAL.SPARE) true)).event Ev.ADCCAL)) ∧
    ((st = capIdle ∨ st = capDone) → x.capOk = true →
      goes (.capArm ⟨a, tofs⟩) { ((x.wr Kc.CAP_STAT.STATE capArmed).wr Kc.CAP_STAT.PRE 0).wr Kc.CAP_NPOST.NPOST 0 with
        meas := { x.meas with fired := false, acc := 0, accN := 0, capN := 0, trigs := [], armT := x.gen.bT + 8 * tofs.toNat, stop := none } }) ∧
    (st = capArmed → goes (.capAbort ⟨a, tofs⟩)
      { x.wr Kc.CAP_STAT.STATE capIdle with meas := { x.meas with stop := some (x.gen.bT + 8 * tofs.toNat, st, x.meas.trigs) } }) ∧
    (st = capPost → goes (.capAbort ⟨a, tofs⟩) { (x.wr Kc.CAP_STAT.STATE capDone).mark Kc.CAP_STAT.SHORT with
      meas := { x.meas with trigs := [], stop := some (x.gen.bT + 8 * tofs.toNat, st, x.meas.trigs) } }) ∧
    (st = capArmed → x.capOk = true →
      let v := x.gen.bT + 8 * tofs.toNat
      let k := x.capAhead v
      let u := x.capNext.1 + k * x.capNext.2
      let fires := fun (j : Instr) (src : Nat) => ∃ t : Cell, goes j t ∧
        t.rd Kc.CAP_STAT.STATE = capPost ∧ t.rd Kc.CAP_STAT.CAUSE = src ∧ t.rd Kc.CAP_NPOST.NPOST = 0 ∧
        t.rd Kc.CAP_TTIK.TT = x.tickAt u % 2 ^ 32 ∧ t.rd Kc.CAP_TPOS.IDX = (x.meas.wp + k) % 32768 ∧
        bit t.pend Ev.CAPTRG = true ∧ t.meas.trigs = [(src, v)] ∧
        (x.on Kc.CAP_CFG.FIRE = true → src ≤ 5 → x.meas.fired = false → t.w.fire = true ∧ t.e.fire = true)
      fires (.capTrig a tofs) 0 ∧
      (src.toNat ≠ 0 → bit (x.rd Kc.CAP_CFG.SRC) src.toNat = true → fires (.capTrigger a src tofs) src.toNat)) ∧
    (st = capPost → x.meas.trigs = [] → x.rd Kc.CAP_NPOST.NPOST = x.rd Kc.CAP_CFG.POST →
      goes (.capPostComplete a) (x.wr Kc.CAP_STAT.STATE capDone)))

/-- An allocator places with its reference, extrapolates twice, drains without EN, and goes void; the deadline, and
the CVU's commands -/
def Obligations.Allocation_and_cell_vector_unit : Prop :=
  ∀ (s : State) (c : Chip) (a : Fin 12) (n : BitVec 48) (m : BitVec 1) (v : Word), s.live c →
    let k := s.kvAt c
    let t := tickPlus n.toNat k.lead
    let o := k.overrideCells a t
    let last := (k.arm a).last
    let z := match o.refBad a t with
      | some b => (o.logUnc b).raiseUnc b 0
      | none => o
    let goes := fun (j : Instr) (y : Kv) => exec j s = .next (s.setChip c y)
    let fin := fun (y : Kv) => ((y.armDone a t).sendDigests t).endorse t
    let drop := fun (y : Kv) => fin ((y.armCells a).foldl (fun y x => y.voidCommand x t) y)
    ((k.closedFor n.toNat = false ∨ tickDone (k.arm a).done t = true) → goes (.allocatorPlace c a n) (k.endorse t)) ∧
    (tickDone (k.arm a).done t = true → goes (.allocatorDeadline c a n) (k.endorse t)) ∧
    (k.closedFor n.toNat = true → tickDone (k.arm a).done t = false →
      (o.on Kv.ALk_CFG.EN a = false →
        goes (.allocatorPlace c a n)
          (fin (((o.wr Kv.ALk_STAT.XTRP 0 a).onArm a (fun x => { x with last := none })).placeArm a n.toNat t none))) ∧
      (o.on Kv.ALk_CFG.EN a = true →
        (∀ r, k.ref a t = some r →
          goes (.allocatorPlace c a n) (fin ((((o.wr Kv.ALk_STAT.XCNT 0 a).wr Kv.ALk_STAT.XTRP 0 a).onArm a
            (fun x => { x with last := some r })).placeArm a n.toNat t (some r)))) ∧
        (k.ref a t = none → tickDone k.dsp.t0Judged n.toNat = false → goes (.allocatorPlace c a n) (k.endorse t)) ∧
        (∀ r, k.ref a t = none → tickDone k.dsp.t0Judged n.toNat = true → last = some r → z.rd Kv.ALk_STAT.XCNT a < 2 →
          let e := { r with tgt := t % 2 ^ 32, va := r.vb, vb := satS 32 (2 * r.vb - r.va), ia := r.ib, ib := satS 16 (2 * r.ib - r.ia) }
          let y := (((z.wr Kv.ALk_STAT.XCNT (z.rd Kv.ALk_STAT.XCNT a + 1) a).mark Kv.ALk_STAT.XTRP a).raise Src.AL_XTRP 0 a).onArm a
            (fun x => { x with last := some e })
          goes (.allocatorPlace c a n) (fin (y.placeArm a n.toNat t (some e)))) ∧
        (k.ref a t = none → tickDone k.dsp.t0Judged n.toNat = true → (last = none ∨ 2 ≤ z.rd Kv.ALk_STAT.XCNT a) →
          goes (.allocatorPlace c a n) (drop (z.wr Kv.ALk_STAT.XCNT 3 a))))) ∧
    (tickDone (k.arm a).done t = false → goes (.allocatorDeadline c a n) (drop ((k.mark Kv.ALk_STAT.LATE a).raise Src.AL_LATE 0 a))) ∧
    goes (.allocatorDisable c a) ((k.wr Kv.ALk_CFG.EN 0 a).onArm a (fun x => { x with last := none })) ∧
    goes (.cvuDisable c) { k.wr Kv.CVU_CTRL.EN 0 with al := { k.al with passStr := 0, passRun := false } } ∧
    (k.on Kv.CVU_CTRL.EN = true → k.passAt n.toNat = true → (∀ x ∈ k.strings, x < k.al.passStr) →
      goes (.cvuPassDeadline c n) (((k.mark Kv.CVU_STAT.LATE).raise Src.CVU_LATE 0 n.toNat).passEnd n.toNat)) ∧
    (∀ str : BitVec 5, k.on Kv.CVU_CTRL.EN = true → k.passAt n.toNat = true → k.reportsIn str.toNat n.toNat = true →
      k.strings.find? (fun x => decide (k.al.passStr ≤ x)) = some str.toNat →
      let first := if n = 0 ∧ k.al.passed = 0 then 0 else tickPrev n.toNat + 1
      let y := { k with al := { k.al with passed := first, passRun := true } }
      let more := k.strings.any (fun x => decide (str.toNat < x))
      (k.powerCells str.toNat = [] → goes (.cvuStringPass c str n)
        (if more = true then { y with al := { y.al with passStr := str.toNat + 1 } } else y.passEnd n.toNat)) ∧
      ∃ t : Kv, goes (.cvuStringPass c str n) t ∧ t.al.passRun = true ∧
        t.al.passed = (if more = true then first else n.toNat + 1) ∧ t.al.passStr = (if more = true then str.toNat + 1 else 0)) ∧
    (let edge := fun (b : Nat) =>
        if m = 0 then (if b < 4 then v.toNat / 256 ^ b % 256 else k.rd Kv.CVU_BINE1.E / 256 ^ (b - 4) % 256)
        else (if b < 4 then k.rd Kv.CVU_BINE0.E / 256 ^ b % 256 else v.toNat / 256 ^ (b - 4) % 256)
     let f := if m = 0 then Kv.CVU_BINE0.E else Kv.CVU_BINE1.E
     ((∀ b, b < 7 → edge b < edge (b + 1)) → goes (.cvuBineWrite c m v) (k.wr f v.toNat)) ∧
     ((∃ b, b < 7 ∧ edge (b + 1) ≤ edge b) → goes (.cvuBineWrite c m v) (k.raise Src.REGACC 18 f.base)))

/-- A chosen loop executes x' = A x in 72-bit exact sums rounded once; skips, bank switches, live state, injection and
disable of an engine -/
def Obligations.State_feedback_commands : Prop :=
  ∀ (s : State) (c : Chip) (e : BitVec 2) (j : BitVec 4) (n : BitVec 48) (i : BitVec 5) (st : BitVec 16) (v : Word), s.live c →
    let k := s.kvAt c
    let u := e.toNat
    let goes := fun (x : Instr) (y : Kv) => exec x s = .next (s.setChip c y)
    (∀ q : SfeJob, k.sfeNext u = some q → q.tick = n.toNat → q.loop = j.toNat →
      let b := q.bank
      let d := k.desc u b j.toNat
      let x := fun (i : Nat) => sx 32 (k.rdLe (sfeLiveAt u j.toNat i) 4)
      let row := fun (r : Nat) => (List.range d.ns).foldl (fun a i => a + k.coef u b (d.ab + r * d.ns + i) * x i) 0
      d.ok = true → k.sfeUnc u q d false = none → d.np = 0 → d.nm = 0 → d.nz = 0 → d.cen = false →
      k.injActs u j.toNat n.toNat = false → tickDone k.dsp.t0Judged n.toNat = false → k.sfeStartsBank u q = false →
      k.on Kv.SFEn_TRC.EN u = false → (∀ r, r < d.ns → satS 32 (divNear (row r) (2 ^ 55)) = divNear (row r) (2 ^ 55)) →
      ∃ t : Kv, goes (.sfeLoopExecute c e j n) t ∧
        (∀ r, r < d.ns → t.rdLe (sfeLiveAt u j.toNat r) 4 = toBits 32 (divNear (row r) (2 ^ 55))) ∧
        (∀ r, d.ns ≤ r → r < 32 → t.rdLe (sfeLiveAt u j.toNat r) 4 = k.rdLe (sfeLiveAt u j.toNat r) 4) ∧
        t.sfeJob u j.toNat n.toNat = none) ∧
    (∀ q : SfeJob, k.sfeJob u j.toNat n.toNat = some q → k.sfeOverdue u n.toNat = true →
      goes (.sfeLoopSkip c e j n)
        ((((k.mark Kv.SFEn_LSTATj.SKIP u q.loop).count Kv.SFEn_STAT.SKCNT Kv.SFEn_STAT.SAT Src.SYS_SAT u).raise Src.SFE_SKIP 0 u).sfeFinished
          u q (k.jobDesc u q))) ∧
    (let ahead := (st.toNat + 65536 - k.tick % 65536) % 65536
     let y := k.wr Kv.SFEn_BANK.STICK st.toNat u
     (1 ≤ ahead → ahead ≤ 32767 → k.on Kv.SFEn_BANK.PEND u = false →
      goes (.sfeBankSw c e st) ((y.mark Kv.SFEn_BANK.PEND u).onSfe u (fun q => { q with swAt := some st.toNat }))) ∧
     (1 ≤ ahead → ahead ≤ 32767 → k.on Kv.SFEn_BANK.PEND u = true →
      goes (.sfeBankSw c e st) (y.raise Src.REGACC 17 (Kv.SFEn_BANK.SW.addr u 0))) ∧
     ((ahead = 0 ∨ 32767 < ahead) → goes (.sfeBankSw c e st) (y.raise Src.REGACC 19 (Kv.SFEn_BANK.SW.addr u 0)))) ∧
    (k.forced (sfeLiveAt u j.toNat i.toNat) 4 = true → goes (.sfeLiveStateWrite c e j i v) k) ∧
    (k.forced (sfeLiveAt u j.toNat i.toNat) 4 = false → k.bad (sfeLiveAt u j.toNat i.toNat) = false →
      goes (.sfeLiveStateWrite c e j i v)
        ((k.wrLe (sfeLiveAt u j.toNat i.toNat) v.toNat 4).setErrs (sfeLiveAt u j.toNat i.toNat) 0)) ∧
    (let start := bits v.toNat 0 16
     let ahead := (start + 65536 - k.tick % 65536) % 65536
     let busy := k.rd Kv.SFEn_ISTAT.STATE u = 1 ∨ k.rd Kv.SFEn_ISTAT.STATE u = 2
     let y := (k.wr Kv.SFEn_INJ.SIG (bits v.toNat 28 2) u).wr Kv.SFEn_INJ.LOOP (bits v.toNat 24 4) u
     let y := ((y.wr Kv.SFEn_INJ.NODE (bits v.toNat 21 3) u).wr Kv.SFEn_INJ.IDX (bits v.toNat 16 5) u).wr Kv.SFEn_INJ.START start u
     let off := Kv.SFEn_INJ.EN.addr u 0
     let log0 := bits v.toNat 28 2 = 3 ∧ k.rd Kv.SFEn_IF0.F0 u = 0
     (busy → goes (.sfeInjEnable c e v) (k.raise Src.REGACC 17 off)) ∧
     (¬busy → bits v.toNat 21 3 ≤ 4 → (ahead = 0 ∨ 32767 < ahead) → goes (.sfeInjEnable c e v) (y.raise Src.REGACC 19 off)) ∧
     (¬busy → bits v.toNat 21 3 ≤ 4 → 1 ≤ ahead → ahead ≤ 32767 → log0 → goes (.sfeInjEnable c e v) (y.raise Src.REGACC 18 off)) ∧
     (¬busy → bits v.toNat 21 3 ≤ 4 → 1 ≤ ahead → ahead ≤ 32767 → ¬log0 →
      goes (.sfeInjEnable c e v) ((((y.mark Kv.SFEn_INJ.EN u).wr Kv.SFEn_ISTAT.STATE 1 u).wr Kv.SFEn_ISTAT.K 0 u).onSfe u
        (fun q => { q with phi := 0, lfsr := 32767, hold := 0 })))) ∧
    (k.rd Kv.SFEn_ISTAT.STATE u = 2 → k.rd Kv.SFEn_ILEN.LEN u ≤ k.rd Kv.SFEn_ISTAT.K u →
      goes (.sfeInjDone c e) (k.wr Kv.SFEn_ISTAT.STATE 3 u)) ∧
    (k.on Kv.SFEn_CTRL.EN u = true → (k.sfeE u).queue = [] →
      goes (.sfeDisable c e) (((k.wr Kv.SFEn_CTRL.EN 0 u).wr Kv.SFEn_INJ.EN 0 u).wr Kv.SFEn_ISTAT.STATE 0 u))

/-- ADD, SUB, ADDS, SUBS, AND, OR, XOR, ANDN and the four register shifts: result, flags under F, Q, and nothing else
-/
def Obligations.Integer_arithmetic_logic_and_shifts : Prop :=
  ∀ (s : State) (r : CoreRef) (rd ra rb : Gpr) (f : Bool), s.coreReady r →
    let x := s.ctxAt r
    let a := x.reg ra
    let b := x.reg rb
    let k := b.toNat % 32
    ∀ p ∈ ([
      (.add r rd ra rb f, a + b, decide (2 ^ 32 ≤ a.toNat + b.toNat), ovf (a.toInt + b.toInt), false),
      (.sub r rd ra rb f, a - b, decide (b.toNat ≤ a.toNat), ovf (a.toInt - b.toInt), false),
      (.adds r rd ra rb f, BitVec.ofInt 32 (satS 32 (a.toInt + b.toInt)), decide (2 ^ 32 ≤ a.toNat + b.toNat),
        ovf (a.toInt + b.toInt), ovf (a.toInt + b.toInt)),
      (.subs r rd ra rb f, BitVec.ofInt 32 (satS 32 (a.toInt - b.toInt)), decide (b.toNat ≤ a.toNat),
        ovf (a.toInt - b.toInt), ovf (a.toInt - b.toInt)),
      (.and r rd ra rb f, a &&& b, false, false, false),
      (.or r rd ra rb f, a ||| b, false, false, false),
      (.xor r rd ra rb f, a ^^^ b, false, false, false),
      (.andn r rd ra rb f, a &&& ~~~b, false, false, false),
      (.sll r rd ra rb f, a <<< k, decide (0 < k) && a.getLsbD (32 - k), false, false),
      (.srl r rd ra rb f, a >>> k, decide (0 < k) && a.getLsbD (k - 1), false, false),
      (.sra r rd ra rb f, a.sshiftRight k, decide (0 < k) && a.getLsbD (k - 1), false, false),
      (.ror r rd ra rb f, a.rotateRight k, (a.rotateRight k).getLsbD 31, false, false)] :
        List (Instr × Word × Bool × Bool × Bool)),
      exec p.1 s = .next (s.withCtx r (x.result rd p.2.1 f p.2.2.1 p.2.2.2.1 p.2.2.2.2))

/-- MUL, MULH, MULHU, DIV, DIVU, REM, REMU, MIN, MAX, MINU, MAXU, ABS, NEG, CLZ, SLT, SLTU and CMP: result, flags, Q,
frame -/
def Obligations.Integer_products_divisions_and_orders : Prop :=
  ∀ (s : State) (r : CoreRef) (rd ra rb : Gpr) (f : Bool), s.coreReady r →
    let x := s.ctxAt r
    let a := x.reg ra
    let b := x.reg rb
    let i := a.toInt
    let j := b.toInt
    let top : Word := if i < 0 then 0x80000000 else 0x7FFFFFFF
    let z := b == 0
    let corner := z || (a == 0x80000000 && b == 0xFFFFFFFF)
    (∀ p ∈ ([
      (.mul r rd ra rb f, a * b, ovf (i * j), false),
      (.mulh r rd ra rb f, BitVec.ofInt 32 (i * j / 2 ^ 32), false, false),
      (.mulhu r rd ra rb f, BitVec.ofNat 32 (a.toNat * b.toNat / 2 ^ 32), false, false),
      (.div r rd ra rb f, if corner then top else BitVec.ofInt 32 (Int.tdiv i j), corner, corner),
      (.divu r rd ra rb f, if z then 0x7FFFFFFF else BitVec.ofNat 32 (a.toNat / b.toNat), z, z),
      (.rem r rd ra rb f, if z then a else BitVec.ofInt 32 (Int.tmod i j), z, z),
      (.remu r rd ra rb f, if z then a else BitVec.ofNat 32 (a.toNat % b.toNat), z, z),
      (.min r rd ra rb f, if i ≤ j then a else b, false, false),
      (.max r rd ra rb f, if i ≤ j then b else a, false, false),
      (.minu r rd ra rb f, if a.toNat ≤ b.toNat then a else b, false, false),
      (.maxu r rd ra rb f, if a.toNat ≤ b.toNat then b else a, false, false),
      (.abs r rd ra rb f, if a = 0x80000000 then 0x7FFFFFFF else if i < 0 then -a else a, a == 0x80000000, a == 0x80000000),
      (.neg r rd ra rb f, if a = 0x80000000 then 0x7FFFFFFF else -a, a == 0x80000000, a == 0x80000000),
      (.clz r rd ra rb f, BitVec.ofNat 32 (clz32 a), false, false),
      (.slt r rd ra rb f, if i < j then 1 else 0, false, false),
      (.sltu r rd ra rb f, if a.toNat < b.toNat then 1 else 0, false, false)] : List (Instr × Word × Bool × Bool)),
      exec p.1 s = .next (s.withCtx r (x.result rd p.2.1 f false p.2.2.1 p.2.2.2))) ∧
    exec (.cmp r 0 ra rb f) s =
      .next (s.withCtx r (x.result 0 (a - b) true (decide (b.toNat ≤ a.toNat)) (ovf (i - j)) false))

/-- The 16-bit immediate, shift-amount and 32-bit immediate forms: result, length, flags of CMPI and CMPL only -/
def Obligations.Immediate_forms : Prop :=
  ∀ (s : State) (r : CoreRef) (rd ra : Gpr) (v : BitVec 16) (m : BitVec 5) (w : Word), s.coreReady r →
    let x := s.ctxAt r
    let a := x.reg ra
    let e := v.signExtend 32
    let u := v.zeroExtend 32
    let cmp := fun (i : Word) (len : BitVec 16) =>
      { x with z := a - i == 0, n := (a - i).getLsbD 31, c := decide (i.toNat ≤ a.toNat), v := ovf (a.toInt - i.toInt), pc := x.pc + len }
    (∀ p ∈ ([
      (.addi r rd ra v, a + e, 4), (.andi r rd ra v, a &&& u, 4), (.ori r rd ra v, a ||| u, 4), (.xori r rd ra v, a ^^^ u, 4),
      (.lui r rd v, v ++ (0 : BitVec 16), 4),
      (.slli r rd ra m, a <<< m.toNat, 4), (.srli r rd ra m, a >>> m.toNat, 4), (.srai r rd ra m, a.sshiftRight m.toNat, 4),
      (.rori r rd ra m, a.rotateRight m.toNat, 4),
      (.li r rd w, w, 8), (.addl r rd ra w, a + w, 8), (.andl r rd ra w, a &&& w, 8), (.orl r rd ra w, a ||| w, 8),
      (.xorl r rd ra w, a ^^^ w, 8)] : List (Instr × Word × BitVec 16)),
      exec p.1 s = .next (s.withCtx r (x.took rd p.2.1 p.2.2))) ∧
    exec (.cmpi r ra v) s = .next (s.withCtx r (cmp e 4)) ∧
    exec (.cmpl r ra w) s = .next (s.withCtx r (cmp w 8))

/-- ADDI through SHI set no flags, CMPI sets them as CMP does, and LUI then ORI, or LI, loads any 32-bit constant -/
def Obligations.Immediate_forms_and_flags : Prop :=
  ∀ (s : State) (r : CoreRef) (rd ra rb : Gpr) (v hi lo : BitVec 16) (m : BitVec 5) (f : Bool), s.coreReady r →
    let flags := fun (t : State) => ((t.ctxAt r).z, (t.ctxAt r).n, (t.ctxAt r).c, (t.ctxAt r).v)
    (∀ i ∈ ([.addi r rd ra v, .andi r rd ra v, .ori r rd ra v, .xori r rd ra v, .lui r rd v, .slli r rd ra m, .srli r rd ra m,
        .srai r rd ra m, .rori r rd ra m] : List Instr), ∃ t, exec i s = .next t ∧ flags t = flags s) ∧
    ((s.ctxAt r).reg rb = v.signExtend 32 →
      ∃ t u, exec (.cmpi r ra v) s = .next t ∧ exec (.cmp r 0 ra rb f) s = .next u ∧ flags t = flags u) ∧
    (rd ≠ 0 →
      (∃ t, exec (.lui r rd hi) s = .next t ∧
        (t.coreReady r → ∃ u, exec (.ori r rd rd lo) t = .next u ∧ (u.ctxAt r).reg rd = hi ++ lo)) ∧
      (∃ t, exec (.li r rd (hi ++ lo)) s = .next t ∧ (t.ctxAt r).reg rd = hi ++ lo))

/-- BCC and its sixteen conditions, JUMP, CALL, JR, CALLR, CBEQ to CBLTU, JL and CALLL go to their targets; CALL forms
link -/
def Obligations.Branches_jumps_and_calls : Prop :=
  ∀ (s : State) (r : CoreRef), s.coreReady r →
    let x := s.ctxAt r
    let pc : Word := x.pc.zeroExtend 32
    let dest := fun (off : Int) => pc + BitVec.ofInt 32 (4 * off)
    let isCode := fun (t : Word) => t.toNat < 0x10000 ∧ t.toNat % 4 = 0
    (∀ (cond : BitVec 4) (off : BitVec 22), isCode (dest off.toInt) →
      let holds := [x.z, x.n, x.c, x.v, x.n != x.v, x.z || (x.n != x.v), !x.c || x.z, x.q,
        !x.z, !x.n, !x.c, !x.v, x.n == x.v, !(x.z || (x.n != x.v)), x.c && !x.z, true].getD cond.toNat false
      exec (.bcc r cond off) s = .next (s.withCtx r (x.jumped (if holds then dest off.toInt else pc + 4)))) ∧
    (∀ (off : BitVec 26), isCode (dest off.toInt) →
      exec (.jump r off) s = .next (s.withCtx r (x.jumped (dest off.toInt))) ∧
      exec (.call r off) s = .next (s.withCtx r ((x.setReg 31 (pc + 4)).jumped (dest off.toInt)))) ∧
    (∀ (rd ra : Gpr), isCode (x.reg ra) →
      exec (.jr r ra) s = .next (s.withCtx r (x.jumped (x.reg ra))) ∧
      exec (.callr r rd ra) s = .next (s.withCtx r ((x.setReg rd (pc + 4)).jumped (x.reg ra)))) ∧
    (∀ (ra rb : Gpr) (off : BitVec 16), isCode (dest off.toInt) →
      let a := x.reg ra
      let b := x.reg rb
      ∀ p ∈ ([(.cbeq r ra rb off, a == b), (.cbne r ra rb off, a != b), (.cblt r ra rb off, decide (a.toInt < b.toInt)),
          (.cbltu r ra rb off, decide (a.toNat < b.toNat))] : List (Instr × Bool)),
        exec p.1 s = .next (s.withCtx r (x.jumped (if p.2 then dest off.toInt else pc + 4)))) ∧
    (∀ (v : BitVec 16), v.toNat % 4 = 0 →
      exec (.jl r v) s = .next (s.withCtx r (x.jumped (v.zeroExtend 32))) ∧
      exec (.calll r v) s = .next (s.withCtx r ((x.setReg 31 (pc + 8)).jumped (v.zeroExtend 32))))

/-- MAC, MSU, MULA, MACU and MACS: the shifted product joins the accumulator, saturated, with Q; nothing else changes
-/
def Obligations.Multiply_accumulate : Prop :=
  ∀ (s : State) (r : CoreRef) (ad : BitVec 3) (ra rb : Gpr) (sh : BitVec 6),
    s.coreReady r → ad.toNat < r.accs → sh.toInt ≤ 7 →
    let x := s.ctxAt r
    let a := x.reg ra
    let b := x.reg rb
    let acc := (x.accOf ad).toInt
    let shifted := fun (p : Int) => if 0 ≤ sh.toInt then p * 2 ^ sh.toInt.toNat else divNear p (2 ^ (-sh.toInt).toNat)
    ∀ p ∈ ([
      (.mac r ad ra rb sh, acc + shifted (a.toInt * b.toInt)),
      (.msu r ad ra rb sh, acc - shifted (a.toInt * b.toInt)),
      (.mula r ad ra rb sh, shifted (a.toInt * b.toInt)),
      (.macu r ad ra rb sh, acc + shifted ((a.toNat : Int) * b.toNat)),
      (.macs r ad ra rb sh, acc + shifted ((a.extractLsb' 0 16).toInt * (b.extractLsb' 0 16).toInt))] : List (Instr × Int)),
      exec p.1 s = .next (s.withCtx r (x.accumulate ad p.2))

/-- EXTR, EXTRT, EXTRR, MOVA, MVLO, MVMI, MVHI, AWLO, AWMI, AWHI, ACLR and AADD, for every shift they admit -/
def Obligations.Accumulator_moves_and_extracts : Prop :=
  ∀ (s : State) (r : CoreRef) (ad : BitVec 3) (ra rb : Gpr) (sh : BitVec 6), s.coreReady r → ad.toNat < r.accs →
    let x := s.ctxAt r
    let acc := x.accOf ad
    let v := x.reg ra
    let ran := fun (i : Instr) (y : Ctx) => exec i s = .next (s.withCtx r { y with pc := x.pc + 4 })
    let out := fun (t : Int) => { x.setReg ra (BitVec.ofInt 32 (satS 32 t)) with q := x.q || ovf t }
    let rounded := fun (k : Int) => if 0 ≤ k then acc.toInt * 2 ^ k.toNat else divNear acc.toInt (2 ^ (-k).toNat)
    let k := ((x.reg rb).extractLsb' 0 7).toInt
    ran (.extr r ad ra 0 sh) (out (rounded sh.toInt)) ∧
    ran (.extrt r ad ra 0 sh) (out (if 0 ≤ sh.toInt then acc.toInt * 2 ^ sh.toInt.toNat else acc.toInt / 2 ^ (-sh.toInt).toNat)) ∧
    (k ≤ 31 → ran (.extrr r ad ra rb 0) (out (rounded k))) ∧
    (0 ≤ sh.toInt → ran (.mova r ad ra rb sh) (x.setAcc ad (BitVec.ofInt 72 (v.toInt * 2 ^ sh.toNat)))) ∧
    ran (.mvlo r ad ra rb sh) (x.setReg ra (acc.extractLsb' 0 32)) ∧
    ran (.mvmi r ad ra rb sh) (x.setReg ra (acc.extractLsb' 32 32)) ∧
    ran (.mvhi r ad ra rb sh) (x.setReg ra ((acc.extractLsb' 64 8).signExtend 32)) ∧
    ran (.awlo r ad ra rb sh) (x.setAcc ad (acc.extractLsb' 32 40 ++ v)) ∧
    ran (.awmi r ad ra rb sh) (x.setAcc ad (acc.extractLsb' 64 8 ++ v ++ acc.extractLsb' 0 32)) ∧
    ran (.awhi r ad ra rb sh) (x.setAcc ad (v.extractLsb' 0 8 ++ acc.extractLsb' 0 64)) ∧
    ran (.aclr r ad ra rb sh) (x.setAcc ad 0) ∧
    (ra.toNat < r.accs →
      ran (.aadd r ad ra rb sh) (x.accumulate ad (acc.toInt + (x.accOf (ra.extractLsb' 0 3)).toInt)))

/-- LDW, LDH, LDHU, LDB, LDBU and LDD on a chip's core: value, extension and frame, from every region of its address
map -/
def Obligations.Chip_core_loads : Prop :=
  ∀ (s : State) (c : Chip) (n : BitVec 4) (rd ra : Gpr) (v : BitVec 16), s.live c → (s.kvAt c).ready n.toNat →
    let k := s.kvAt c
    let x := k.running n.toNat
    let a := (x.reg ra + v.signExtend 32).toNat
    let low := fun (w : Nat) => BitVec.ofNat 32 w
    ∀ p ∈ ([
      (.ldw (.kv c n) rd ra v, 4, fun w => x.took rd (low w) 4),
      (.ldh (.kv c n) rd ra v, 2, fun w => x.took rd ((BitVec.ofNat 16 w).signExtend 32) 4),
      (.ldhu (.kv c n) rd ra v, 2, fun w => x.took rd (low (w % 2 ^ 16)) 4),
      (.ldb (.kv c n) rd ra v, 1, fun w => x.took rd ((BitVec.ofNat 8 w).signExtend 32) 4),
      (.ldbu (.kv c n) rd ra v, 1, fun w => x.took rd (low (w % 2 ^ 8)) 4),
      (.ldd (.kv c n) rd ra v, 8, fun w => (x.setReg rd (low w)).took (rd + 1) (low (w / 2 ^ 32)) 4)] :
        List (Instr × Nat × (Nat → Ctx))),
      a % p.2.1 = 0 → (p.2.1 = 8 → rd.getLsbD 0 = false) →
      match corePlace n.toNat a with
      | .mem at_ => k.bad at_ = false →
          exec p.1 s = .next (s.setChip c (k.withCtx n.toNat ({ p.2.2 (k.rdLe at_ p.2.1) with pc := x.pc + 4 })))
      | .sfe at_ => k.bad at_ = false →
          exec p.1 s = .next (s.setChip c (k.withCtx n.toNat ({ p.2.2 (k.rdLe at_ p.2.1) with pc := x.pc + 4 })))
      | .arena at_ => k.bad at_ = false →
          exec p.1 s = .next (s.setChip c (k.withCtx n.toNat ({ p.2.2 (k.rdBe at_ p.2.1) with pc := x.pc + 4 })))
      | .reg off =>
          exec p.1 s = .next (s.setChip c
            (((k.withCtx n.toNat ({ p.2.2 (k.winLoad off p.2.1).1 with pc := x.pc + 4 })).winLoad off p.2.1).2.runSteps))
      | .none => True

/-- STW, STH, STB and STD on a chip's core write exactly their bytes, least significant first, and change nothing else
-/
def Obligations.Chip_core_stores : Prop :=
  ∀ (s : State) (c : Chip) (n : BitVec 4) (rd ra : Gpr) (v : BitVec 16), s.live c → (s.kvAt c).ready n.toNat →
    let k := s.kvAt c
    let x := k.running n.toNat
    let a := (x.reg ra + v.signExtend 32).toNat
    let y := { x with pc := x.pc + 4 }
    ∀ p ∈ ([
      (.stw (.kv c n) rd ra v, 4, (x.reg rd).toNat),
      (.sth (.kv c n) rd ra v, 2, (x.reg rd).toNat),
      (.stb (.kv c n) rd ra v, 1, (x.reg rd).toNat),
      (.std (.kv c n) rd ra v, 8, (x.reg rd).toNat + 2 ^ 32 * (x.reg (rd + 1)).toNat)] : List (Instr × Nat × Nat)),
      a % p.2.1 = 0 → (p.2.1 = 8 → rd.getLsbD 0 = false) →
      match corePlace n.toNat a with
      | .mem at_ =>
        if k.forced at_ p.2.1 then exec p.1 s = .next (s.setChip c (k.withCtx n.toNat y))
        else (p.2.1 < 8 → k.bad at_ = false) →
          ∃ t : Kv,
            exec p.1 s = .next (s.setChip c t) ∧
            (∀ b, t.rdByte b =
              if at_ ≤ b ∧ b < at_ + p.2.1 then BitVec.ofNat 8 (p.2.2 / 256 ^ (b - at_)) else k.rdByte b) ∧
            (∀ b, t.bad b = if p.2.1 = 8 ∧ b / 8 = at_ / 8 then false else k.bad b) ∧
            t = { k.withCtx n.toNat y with mem := t.mem, unc := t.unc }
      | _ => True

/-- SWAP, ADDA, ANDA, ORA and CAS read a word, write the combined word in the same step and answer the old one in rd
-/
def Obligations.Atomic_operations : Prop :=
  ∀ (s : State) (c : Chip) (n : BitVec 4) (rd ra rb : Gpr) (at_ : Nat), s.live c → (s.kvAt c).ready n.toNat →
    let k := s.kvAt c
    let x := k.running n.toNat
    let a := (x.reg ra).toNat
    let b := x.reg rb
    let old : Word := BitVec.ofNat 32 (k.rdLe at_ 4)
    let y := x.took rd old 4
    a % 4 = 0 → corePlace n.toNat a = .mem at_ → k.bad at_ = false → k.forced at_ 4 = false →
    (∀ p ∈ ([(.swap (.kv c n) rd ra rb, b), (.adda (.kv c n) rd ra rb, old + b), (.anda (.kv c n) rd ra rb, old &&& b),
        (.ora (.kv c n) rd ra rb, old ||| b)] : List (Instr × Word)),
      exec p.1 s = .next (s.setChip c (((k.withCtx n.toNat y).wrLe at_ p.2.toNat 4).setErrs at_ 0))) ∧
    exec (.cas (.kv c n) rd ra rb) s = .next (s.setChip c
      (if old = x.reg rd then ((k.withCtx n.toNat { y with z := true }).wrLe at_ b.toNat 4).setErrs at_ 0 else k.withCtx n.toNat { y with z := false }))

/-- CFX, CLW and CSW: a field of the bound bank's report with its validity, a record word, a store to CTL word 0 or
PRG -/
def Obligations.Cell_record_instructions : Prop :=
  ∀ (s : State) (c : Chip) (n : BitVec 4) (rd ra : Gpr), s.live c → (s.kvAt c).ready n.toNat →
    let k := s.kvAt c
    let x := k.running n.toNat
    let a := (x.reg ra).toNat % 8192
    let r := recAddr a
    (∀ (lsb : BitVec 8) (w : BitVec 5) (sgn other : Bool),
      let bank := r + 32 * (if other then 1 - x.bank else x.bank)
      let f := bits (k.rdBe bank 24) lsb.toNat (w.toNat + 1)
      let v : Word := if sgn then BitVec.ofInt 32 (sx (w.toNat + 1) f) else BitVec.ofNat 32 f
      lsb.toNat + w.toNat ≤ 191 → (∀ i, i < 4 → k.bad (bank + 8 * i) = false) →
      exec (.cfx (.kv c n) rd ra lsb w sgn other) s = .next (s.setChip c (k.withCtx n.toNat
        { x.took rd v 4 with z := v == 0, n := v.getLsbD 31, c := false, v := !(k.rdByte (bank + 28)).getLsbD 7 }))) ∧
    (∀ off : BitVec 8,
      let o := off.toNat
      let at_ := r + (if o < 0x20 then 32 * x.bank + o else if o < 0x40 then 32 * (1 - x.bank) + (o - 0x20) else o)
      o % 4 = 0 → k.bad at_ = false →
      exec (.clw (.kv c n) rd ra off) s =
        .next (s.setChip c (k.withCtx n.toNat (x.took rd (BitVec.ofNat 32 (k.rdBe at_ 4)) 4)))) ∧
    (∀ off : BitVec 8,
      let o := off.toNat
      let v := (x.reg rd).toNat
      let moved := k.withCtx n.toNat { x with pc := x.pc + 4 }
      k.forced (r + o) 4 = false → k.bad (r + o) = false →
      (o % 4 = 0 → 0xD0 ≤ o →
        exec (.csw (.kv c n) rd ra off) s = .next (s.setChip c ((moved.wrBe (r + o) v 4).setErrs (r + o) 0))) ∧
      (o = 0x40 → bits v 12 3 ≤ 4 → bits v 8 4 ≤ 5 →
        exec (.csw (.kv c n) rd ra off) s = .next (s.setChip c
          ((moved.wrBe (r + o) (putBits (putBits (putBits (k.ctl0 a) 0 3 v) 12 3 (bits v 12 3)) 8 4 (bits v 8 4)) 4).setErrs
            (r + o) 0))))

/-- Loads and stores of a cell core in its code and data SRAM: value, extension, bytes written, and the frame -/
def Obligations.Cell_core_loads_and_stores : Prop :=
  ∀ (s : State) (m : BitVec 13) (rd ra : Gpr) (v : BitVec 16), (s.kcAt m).ready →
    let k := s.kcAt m
    let x := k.core
    let a := (x.reg ra + v.signExtend 32).toNat
    let low := fun (w : Nat) => BitVec.ofNat 32 w
    cellSram a = true → k.bad a = false →
    (∀ p ∈ ([
      (.ldw (.cell m) rd ra v, 4, fun w => x.took rd (low w) 4),
      (.ldh (.cell m) rd ra v, 2, fun w => x.took rd ((BitVec.ofNat 16 w).signExtend 32) 4),
      (.ldhu (.cell m) rd ra v, 2, fun w => x.took rd (low (w % 2 ^ 16)) 4),
      (.ldb (.cell m) rd ra v, 1, fun w => x.took rd ((BitVec.ofNat 8 w).signExtend 32) 4),
      (.ldbu (.cell m) rd ra v, 1, fun w => x.took rd (low (w % 2 ^ 8)) 4),
      (.ldd (.cell m) rd ra v, 8, fun w => { (x.setReg rd (low w)).setReg (rd + 1) (low (w / 2 ^ 32)) with pc := x.pc + 4 })] :
        List (Instr × Nat × (Nat → Ctx))),
      a % p.2.1 = 0 → (p.2.1 = 8 → rd.getLsbD 0 = false) →
      exec p.1 s = .next (s.setCell m { k with core := p.2.2 (k.rdLe a p.2.1) })) ∧
    ∀ p ∈ ([
      (.stw (.cell m) rd ra v, 4, (x.reg rd).toNat), (.sth (.cell m) rd ra v, 2, (x.reg rd).toNat),
      (.stb (.cell m) rd ra v, 1, (x.reg rd).toNat),
      (.std (.cell m) rd ra v, 8, (x.reg rd).toNat + 2 ^ 32 * (x.reg (rd + 1)).toNat)] : List (Instr × Nat × Nat)),
      a % p.2.1 = 0 → (p.2.1 = 8 → rd.getLsbD 0 = false) →
      exec p.1 s = .next (s.setCell m { k with
        core := { x with pc := x.pc + 4 }
        mem := (k.wrLe a p.2.2 p.2.1).mem
        unc := Tab.set 0 (a / 8) 0 k.unc })

/-- DOT4 and DOT4C add four products of words in data SRAM to an accumulator and move both pointers on -/
def Obligations.Dot_products : Prop :=
  ∀ (s : State) (c : Chip) (n : BitVec 4) (ad : BitVec 3) (ra rb : Gpr) (sh : BitVec 6), s.live c → (s.kvAt c).ready n.toNat →
    let k := s.kvAt c
    let x := k.running n.toNat
    let a := (x.reg ra).toNat
    let b := (x.reg rb).toNat
    let w := fun (i : Nat) => k.dataWord n.toNat i
    let shifted := fun (p e : Int) => if 0 ≤ e then p * 2 ^ e.toNat else divNear p (2 ^ (-e).toNat)
    let ends := fun (sum : Int) (la : Nat) =>
      let y := x.loadAcc ad ((x.accOf ad).toInt + sum)
      let y := (y.setReg ra (x.reg ra + BitVec.ofNat 32 la)).setReg rb (x.reg rb + 16)
      s.setChip c { k.withCtx n.toNat { y with pc := x.pc + 4 } with free := k.free + 1 }
    ra ≠ rb → b % 16 = 0 → 0x100000 ≤ a → a + 32 ≤ 0x120000 → 0x100000 ≤ b → b + 16 ≤ 0x120000 →
    (∀ i, i < 4 → k.bad (sysDmem n.toNat + (a - 0x100000) + 8 * i) = false) →
    (∀ i, i < 2 → k.bad (sysDmem n.toNat + (b - 0x100000) + 8 * i) = false) →
    (a % 16 = 0 → sh.toInt ≤ 7 →
      let t := fun (i : Nat) => shifted (w (a + 4 * i) * w (b + 4 * i)) sh.toInt
      exec (.dot4 (.kv c n) ad ra rb sh) s = .next (ends (t 0 + t 1 + t 2 + t 3) 16)) ∧
    (let entry := fun (i : Nat) => sx 6 (bits (k.rdLe (sysDmem n.toNat + (a - 0x100000) + 8 * i + 4) 4) 0 6)
     let t := fun (i : Nat) => shifted (w (a + 8 * i) * w (b + 4 * i)) (entry i - 31)
     a % 32 = 0 → (∀ i, i < 4 → -24 ≤ entry i ∧ entry i ≤ 7) →
      exec (.dot4c (.kv c n) ad ra rb) s = .next (ends (t 0 + t 1 + t 2 + t 3) 32))

/-- TICKWAIT completes at once with C = 1 where its instant has passed, else suspends issue; TICKWAIT_COMPLETE resumes
with C = 0 -/
def Obligations.Waiting_for_ticks : Prop :=
  ∀ (s : State) (c : Chip) (n : BitVec 4) (m : BitVec 13) (ra : Gpr) (mode : Bool),
    let k := s.kvAt c
    let x := k.running n.toNat
    let q := s.kcAt m
    (s.live c → k.ready n.toNat →
      exec (.tickwait (.kv c n) ra mode) s = .next (s.setChip c (k.withCtx n.toNat
        (if k.waitOver x mode (x.reg ra) then { x with c := true, pc := x.pc + 4 } else { x with wait := some (mode, x.reg ra) })))) ∧
    (q.ready →
      exec (.tickwait (.cell m) ra mode) s = .next (s.setCell m { q with
        free := q.free + 1
        core := if q.waitOver mode (q.core.reg ra) then { q.core with c := true, pc := q.core.pc + 4 }
          else { q.core with wait := some (mode, q.core.reg ra) }
        waitT := if q.waitOver mode (q.core.reg ra) then q.waitT else 5 * (q.gen.bT : Int) + 4 * (q.core.reg ra).toInt })) ∧
    (∀ v : Word, s.live c → k.coreHalted n.toNat = false → x.stopped = false → x.wait = some (mode, v) →
      x.pc.toNat % 4 = 0 → x.pc.toNat < 0xFFFC → k.waitOver x mode v = true →
      exec (.tickwaitComplete (.kv c n)) s =
        .next (s.setChip c (k.withCtx n.toNat { x with wait := none, c := false, pc := x.pc + 4 }))) ∧
    (∀ v : Word, q.runs = true → q.progOn = true → q.on Kc.CC_DSTAT.HALTED = false → q.core.wait = some (mode, v) →
      q.core.pc ≠ 0xFFFC →
      (if mode then q.waitT < 5 * ((q.gen.bT + q.tickUnits : Nat) : Int) else q.waitOver false v = true) →
      exec (.tickwaitComplete (.cell m)) s =
        .next (s.setCell m { q with core := { q.core with wait := none, c := false, pc := q.core.pc + 4 } }))

/-- POST counts a dependence counter down, TAKE and YIELD end the item, FLOWEND releases its flow, LEDG marks a ledger
range -/
def Obligations.Dispatch_instructions : Prop :=
  ∀ (s : State) (c : Chip) (n : BitVec 4) (ra rb : Gpr), s.live c → (s.kvAt c).ready n.toNat →
    let k := s.kvAt c
    let x := k.running n.toNat
    let moved := k.withCtx n.toNat { x with pc := x.pc + 4 }
    let j := (x.reg ra).toNat
    let a := (x.reg ra).toNat
    let len := (x.reg rb).toNat
    (j < 256 → k.on Kv.DSP_CNTj.EN j = true → 1 < k.rd Kv.DSP_CNTj.VAL j →
      Tab.get 0 j k.dsp.cntTick = x.tick.toNat + 1 →
      exec (.post (.kv c n) ra) s = .next (s.setChip c { moved.wr Kv.DSP_CNTj.VAL (k.rd Kv.DSP_CNTj.VAL j - 1) j with
        dsp := { moved.dsp with cntTick := Tab.set 0 j (x.tick.toNat + 1) k.dsp.cntTick } })) ∧
    exec (.takeItem (.kv c n)) s = .next (s.setChip c (((k.endItem n.toNat (k.ctxOf n.toNat) true).nextItem n.toNat).t0Try.runSteps)) ∧
    (∀ i : Item, (k.core n.toNat).item (k.ctxOf n.toNat) = some i →
      let e := k.endItem n.toNat (k.ctxOf n.toNat) false
      let held := match i.flow with | some f => Tab.get 0 f k.dsp.flows == i.task + 1 | none => false
      let next := { i with entry := x.pc + 4, arg := x.reg ra, cont := true, held := held, order := k.dsp.orders }
      exec (.yieldItem (.kv c n) ra) s = .next (s.setChip c
        ((({ e with dsp := { e.dsp with ready := e.dsp.ready ++ [next], orders := e.dsp.orders + 1 } } : Kv).nextItem n.toNat).runSteps))) ∧
    (∀ (i : Item) (f : Nat), (k.core n.toNat).item (k.ctxOf n.toNat) = some i → i.flow = some f →
      let held := Tab.get 0 f k.dsp.flows == i.task + 1
      exec (.flowend (.kv c n)) s = .next (s.setChip c
        (((k.withCtx n.toNat { x with c := held, item := x.item &&& ~~~0x400000, pc := x.pc + 4 }).freeFlow i).runSteps))) ∧
    (0x100000 ≤ a → a + len ≤ 0x120000 → a % 8 = 0 → len % 8 = 0 → 0 < len → len ≤ 4096 →
      let r : Range := { addr := sysDmem n.toNat + (a - 0x100000), len := len, task := (x.item.extractLsb' 24 8).toNat,
                         tick := x.tick.toNat, ended := !x.busy }
      exec (.ledg (.kv c n) ra rb) s = .next (s.setChip c
        (if k.duty || k.epochDuty x.tick.toNat then { moved with cas := { k.cas with marks := k.cas.marks ++ [r] } } else moved)))

/-- PUB copies 32 bytes of data SRAM to an arm reference record, or to a state image block; a late reference is
dropped with C = 1 -/
def Obligations.Publishing : Prop :=
  ∀ (s : State) (c : Chip) (n : BitVec 4) (ra rb : Gpr), s.live c → (s.kvAt c).ready n.toNat →
    let k := s.kvAt c
    let x := k.running n.toNat
    let a := (x.reg ra).toNat
    let v := (x.reg rb).toNat
    let at_ := sysDmem n.toNat + (a - 0x100000)
    a % 32 = 0 → 0x100000 ≤ a → a + 32 ≤ 0x120000 → (∀ i, i < 4 → k.bad (at_ + 8 * i) = false) →
    (0x1000 ≤ v → v < 0x1000 + k.rd Kv.IMG_CFG.NBLK → v < 0x2000 →
      exec (.pub (.kv c n) ra rb) s = .next (s.setChip c
        { k.withCtx n.toNat { x with pc := x.pc + 4 } with
          dsp := { (k.withCtx n.toNat { x with pc := x.pc + 4 }).dsp with
            pubs := Tab.set 0 (v - 0x1000) (ofLe (k.bytesAt at_ 32)) k.dsp.pubs } })) ∧
    (v < 12 → k.usedArms.contains v = true → x.busy = true → x.item.extractLsb' 24 8 = 0 →
      let t := k.targetOf (k.refAt n.toNat a 0)
      let late := k.refLate v t
      let moved := k.withCtx n.toNat { x with c := late, pc := x.pc + 4 }
      exec (.pub (.kv c n) ra rb) s = .next (s.setChip c
        (if late then moved else moved.putRef v t (k.refAt n.toNat a))))

/-- MFC and MTC read and write the control registers, RTT returns from a trap, CLRQ clears Q, FENCE only goes on -/
def Obligations.Control_registers_and_return : Prop :=
  ∀ (s : State) (r : CoreRef) (c : Chip) (n : BitVec 4) (rd : Gpr) (ra : Gpr),
    let k := s.kvAt c
    let x := k.running n.toNat
    let v := x.reg ra
    let cx := k.ctxOf n.toNat
    let next := fun (y : Ctx) => k.withCtx n.toNat { y with pc := x.pc + 4 }
    (s.coreReady r →
      exec (.clrq r) s = .next (s.withCtx r { s.ctxAt r with q := false, pc := (s.ctxAt r).pc + 4 }) ∧
      exec (.fence r) s = .next (s.withCtx r { s.ctxAt r with pc := (s.ctxAt r).pc + 4 })) ∧
    (s.live c → k.ready n.toNat → x.priv = true →
      (∀ num : BitVec 5, num.toNat < 12 →
        let w := [x.status cx, x.tpc, x.twhy, x.taddr, (k.core n.toNat).tbase, x.item, x.arg, x.tick.extractLsb' 0 32,
          (k.core n.toNat).cyc + BitVec.ofNat 32 (Config.unstated k.free), (k.core n.toNat).scratch,
          BitVec.ofNat 32 (n.toNat + b2n k.roleB * 64 + b2n k.duty * 128), x.tstat].getD num.toNat 0
        exec (.mfc (.kv c n) rd num) s = .next (s.setChip c { next (x.setReg rd w) with free := k.free + 1 })) ∧
      (∀ p ∈ ([
          (0, next (x.setStatus v)), (1, next { x with tpc := v }), (2, next { x with twhy := v &&& 0x1F3F }),
          (3, next { x with taddr := v }), (4, (next x).onCore n.toNat (fun q => { q with tbase := v &&& ~~~0x3F })),
          (8, (next x).onCore n.toNat (fun q => { q with cyc := v })), (9, (next x).onCore n.toNat (fun q => { q with scratch := v })),
          (11, next { x with tstat := (v &&& 0x7F) ||| (x.status cx &&& 0x100) })] : List (BitVec 5 × Kv)),
        exec (.mtc (.kv c n) p.1 ra) s = .next (s.setChip c p.2)) ∧
      (∀ adv : Bool,
        let t := x.tpc + (if adv then (if x.twhy.getLsbD 5 then 8 else 4) else 0)
        x.tl = true → t.toNat < 0x10000 → t.toNat % 4 = 0 →
        exec (.rtt (.kv c n) adv) s = .next (s.setChip c
          (k.withCtx n.toNat { x.setStatus x.tstat with tl := false, pc := t.extractLsb' 0 16 }))))

/-- Taking an exception: TRAP, BREAK without a session, a reserved word, a misaligned load, an access outside the map,
RTT outside a trap -/
def Obligations.Exceptions_of_a_chip_core : Prop :=
  ∀ (s : State) (c : Chip) (n : BitVec 4) (rd ra rb : Gpr) (v : BitVec 16) (ad : BitVec 3) (sh : BitVec 6) (f : Bool),
    s.live c → (s.kvAt c).ready n.toNat →
    let k := s.kvAt c
    let x := k.running n.toNat
    let tbase := (k.core n.toNat).tbase
    let cnt := k.rd Kv.Cn_XCNT.EXC n.toNat
    let a := (x.reg ra + v.signExtend 32).toNat
    let trapped := fun (cause code : Nat) (long : Bool) (ad : Option Nat) =>
      let y := { x with
        tstat := x.status (k.ctxOf n.toNat), tpc := x.pc.zeroExtend 32, twhy := BitVec.ofNat 32 (cause + b2n long * 32 + code * 256)
        taddr := BitVec.ofNat 32 (ad.getD (Config.unstated k.free)), priv := true, tl := true
        pc := (tbase + BitVec.ofNat 32 (0x40 * cause)).extractLsb' 0 16 }
      s.setChip c { (k.wr Kv.Cn_XCNT.EXC (cnt + 1) n.toNat).withCtx n.toNat y with olcDirty := true, free := k.free + 1 }
    let taken := fun (cause code : Nat) (ad : Option Nat) => trapped cause code false ad
    x.tl = false → cnt + 1 < Kv.Cn_XCNT.EXC.max → tbase.toNat + 0x40 * 15 < 0x10000 →
    (∀ code : BitVec 5, exec (.trap (.kv c n) code) s = .next (taken 9 code.toNat none)) ∧
    (k.rd Kv.DBG_STAT.LEVEL ≠ 2 → exec (.brk (.kv c n)) s = .next (taken 10 0 none)) ∧
    (∀ w imm : Word, decodeOp w imm = none → exec (.illegalInstruction (.kv c n) w imm) s = .next (trapped 1 0 (isLongWord w) none)) ∧
    (a % 4 ≠ 0 → exec (.ldw (.kv c n) rd ra v) s = .next (taken 4 0 (some a)) ∧
      exec (.stw (.kv c n) rd ra v) s = .next (taken 4 0 (some a))) ∧
    (a % 4 = 0 → corePlace n.toNat a = .none → exec (.ldw (.kv c n) rd ra v) s = .next (taken 5 0 (some a)) ∧
      exec (.stw (.kv c n) rd ra v) s = .next (taken 5 0 (some a))) ∧
    (∀ adv : Bool, exec (.rtt (.kv c n) adv) s = .next (taken 1 0 none)) ∧
    (rd ≠ 0 → exec (.cmp (.kv c n) rd ra rb f) s = .next (taken 1 0 none)) ∧
    (rb ≠ 0 → exec (.extr (.kv c n) ad ra rb sh) s = .next (taken 1 0 none) ∧
      exec (.extrt (.kv c n) ad ra rb sh) s = .next (taken 1 0 none)) ∧
    (8 ≤ ra.toNat → exec (.aadd (.kv c n) ad ra rb sh) s = .next (taken 1 0 none)) ∧
    (sh ≠ 0 → exec (.extrr (.kv c n) ad ra rb sh) s = .next (taken 1 0 none)) ∧
    (7 < sh.toInt → exec (.mac (.kv c n) ad ra rb sh) s = .next (taken 1 0 none)) ∧
    (sh.toInt < 0 → exec (.mova (.kv c n) ad ra rb sh) s = .next (taken 1 0 none))

/-- An instruction that TIS-C lacks or whose reserved field is not 0 is ILLEGAL on a cell core: it records CC_XC and
resets the core -/
def Obligations.Exceptions_of_a_cell_core : Prop :=
  ∀ (s : State) (m : BitVec 13) (rd ra rb : Gpr) (sh : BitVec 6) (ad : BitVec 3) (off : BitVec 8) (adv other : Bool)
    (code : BitVec 5),
    (s.kcAt m).ready → 2 ≤ ad.toNat →
    let k := s.kcAt m
    (∀ f : Bool, ∀ z : BitVec 3, rd ≠ 0 → ∀ i ∈ ([.cmp (.cell m) rd ra rb f, .extr (.cell m) z ra rd sh, .extrt (.cell m) z ra rd sh] : List Instr),
      exec i s = .next (s.setCell m (((k.wr Kc.CC_XC.CAUSE 1).wr Kc.CC_XC.PC k.core.pc.toNat).coreReset))) ∧
    ∀ i ∈ ([
      .swap (.cell m) rd ra rb, .adda (.cell m) rd ra rb, .anda (.cell m) rd ra rb, .ora (.cell m) rd ra rb, .cas (.cell m) rd ra rb,
      .cfx (.cell m) rd ra off code adv other, .clw (.cell m) rd ra off, .csw (.cell m) rd ra off, .dot4 (.cell m) ad ra rb sh, .dot4c (.cell m) ad ra rb,
      .post (.cell m) ra, .takeItem (.cell m), .yieldItem (.cell m) ra,
      .flowend (.cell m), .pub (.cell m) ra rb, .ledg (.cell m) ra rb, .rtt (.cell m) adv, .trap (.cell m) code,
      .mac (.cell m) ad ra rb sh, .msu (.cell m) ad ra rb sh, .mula (.cell m) ad ra rb sh, .macu (.cell m) ad ra rb sh,
      .macs (.cell m) ad ra rb sh, .aadd (.cell m) ad ra rb sh, .illegalInstruction (.cell m) 0 0] : List Instr),
      exec i s = .next (s.setCell m (((k.wr Kc.CC_XC.CAUSE 1).wr Kc.CC_XC.PC k.core.pc.toNat).coreReset))

/-- Mode requests, releases of T0 and E-tasks, stall fill, preemption, context switch, T0's deadline and kill, core
reset and disable -/
def Obligations.Dispatching_items : Prop :=
  ∀ (s : State) (c : Chip) (q : BitVec 4) (e : BitVec 5) (n : BitVec 48) (mt : BitVec 16), s.live c →
    let k := s.kvAt c
    let i := q.toNat
    let goes := fun (j : Instr) (y : Kv) => exec j s = .next (s.setChip c y)
    let ahead := (mt.toNat + 65536 - k.tick % 65536) % 65536
    let asked := k.wr Kv.DSP_CTRL.MTICK mt.toNat
    let fault := fun (kind : Nat) => asked.raise Src.REGACC kind Kv.DSP_CTRL.MREQ.base
    let item := fun (t : Nat) (bank : Bool) => ({
      task := t, tick := n.toNat, arg := BitVec.ofNat 32 (Config.unstated k.free), entry := BitVec.ofNat 16 (Tab.get 0 t k.dsp.entries)
      prio := k.taskPrio t, flow := k.taskFlow t, bank := bank, cont := false, order := k.dsp.orders } : Item)
    (∀ p ∈ ([(.modeRequestStop c mt, 0), (.modeRequestRun c mt, 1), (.modeRequestHold c mt, 2)] : List (Instr × Nat)),
      ((ahead = 0 ∨ 32767 < ahead) → goes p.1 (fault 19)) ∧
      (1 ≤ ahead → ahead ≤ 32767 → k.dsp.modeReq.isSome = true → goes p.1 (fault 17)) ∧
      (1 ≤ ahead → ahead ≤ 32767 → k.dsp.modeReq = none → p.2 ≠ 0 → 
        (k.dsp.img = none ∨ k.rd Kv.SYS_STAT.PHASE ≠ 7 ∨ k.on Kv.SYS_STAT.HELD = true) → goes p.1 (fault 17)) ∧
      (1 ≤ ahead → ahead ≤ 32767 → k.dsp.modeReq = none →
        (p.2 = 0 ∨ (k.dsp.img.isSome = true ∧ k.rd Kv.SYS_STAT.PHASE = 7 ∧ k.on Kv.SYS_STAT.HELD = false)) →
        goes p.1 { asked.mark Kv.DSP_STAT.PEND with
          dsp := { k.dsp with modeReq := some (p.2, (k.tick + ahead) % 2 ^ 48) } })) ∧
    ((k.core i).swReq = true →
      goes (.contextSwitch c q) ((k.wr Kv.Cn_STAT.CTX (1 - k.rd Kv.Cn_STAT.CTX i) i).onCore i (fun y => { y with swReq := false }))) ∧
    (k.on Kv.DSP_T0CFG.CEN = false → k.closedFor n.toNat = true → k.mode ≠ 0 → tickDone k.dsp.t0Rel n.toNat = false → k.dsp.t0Due = [] → k.dsp.t0Run = none →
      k.col.held = [] → k.ldgHolds n.toNat = false →
      goes (.t0Release c n) { k with free := k.free + 1, dsp := { k.dsp with
        t0Due := [], t0Run := some n.toNat, t0Rel := n.toNat + 1, ready := k.dsp.ready ++ [item 0 (n.toNat % 2 == 1)]
        orders := k.dsp.orders + 1 } }) ∧
    (k.on Kv.DSP_ECFGk.EN e.toNat = true → (k.mode = 1 ∨ (k.mode = 2 ∧ k.on Kv.DSP_ECFGk.HOLDRUN e.toNat = true)) →
      ((∃ w ∈ k.dsp.ready, w.task = 64 + e.toNat ∧ w.cont = false) →
        goes (.eventTaskRelease c e n)
          ((k.count Kv.DSP_ESTATk.LOST Kv.DSP_ESTATk.SAT Src.SYS_SAT e.toNat).raise Src.DSP_ELOST 0 (64 + e.toNat))) ∧
      ((∀ w ∈ k.dsp.ready, w.task = 64 + e.toNat → w.cont = true) →
        goes (.eventTaskRelease c e n) { k with free := k.free + 1, dsp := { k.dsp with
          ready := k.dsp.ready ++ [item (64 + e.toNat) k.bankBound], orders := k.dsp.orders + 1 } })) ∧
    (∀ (w : Item) (rest : List Item), k.queue = w :: rest → k.taskMask w.task = 2 ^ i → k.coreServes i = true → (k.core i).stall = none →
      let y := (k.takeReady w).onCore i (fun z => { z with stall := some w })
      (k.coreIdle i = false → goes (.stallFill c) y) ∧
      (k.coreIdle i = true → k.ctxOff i (k.ctxOf i) = false →
        goes (.stallFill c) (((y.onCore i (fun z => { z with stall := none })).runCtx i (k.ctxOf i)).startItem i (k.ctxOf i) w))) ∧
    (∀ (w r : Item) (rest : List Item), k.queue = w :: rest → k.taskMask w.task = 2 ^ i → k.taskPreempts w.task = true →
      k.coreServes i = true → (k.core i).item (k.ctxOf i) = some r → r.task ≠ 0 → (w.task = 0 ∨ r.prio < w.prio) →
      (k.core i).item (1 - k.ctxOf i) = none → k.ctxOff i (1 - k.ctxOf i) = false →
      goes (.preemption c) (((k.takeReady w).startItem i (1 - k.ctxOf i) w).onCore i (fun z => { z with swReq := true }))) ∧
    (tickDone k.dsp.t0Judged n.toNat = false →
      let y := k.cntDiscard n.toNat
      let y := { y with dsp := { y.dsp with t0Judged := n.toNat + 1 } }
      (tickDone y.dsp.t0End n.toNat = true → goes (.armReferenceDeadline c n) y) ∧
      (tickDone y.dsp.t0End n.toNat = false → (y.mode ≠ 0 ∨ tickDone y.dsp.t0Rel n.toNat = true) →
        let z := { (y.count Kv.DSP_T0STAT.OVR Kv.DSP_T0STAT.SAT).raise Src.DSP_T0OVR 0 n.toNat with olcDirty := true }
        let was : Nat := z.rd Kv.DSP_STAT.T0CONS
        let w := z.wr Kv.DSP_STAT.T0CONS (min 3 (was + 1))
        goes (.armReferenceDeadline c n) (if was = 2 then w.raise Src.DSP_T0BLK 0 n.toNat else w)) ∧
      (tickDone y.dsp.t0End n.toNat = false → y.mode = 0 → tickDone y.dsp.t0Rel n.toNat = false →
        goes (.armReferenceDeadline c n) ((y.wr Kv.DSP_STAT.T0CONS 0).blockRecords ((n.toNat + y.lead) % 2 ^ 48)))) ∧
    (∀ (p x : Nat), k.dsp.t0Run = some n.toNat → tickDone k.dsp.t0Judged ((n.toNat + 1) % 2 ^ 48) = true → k.t0Place = some (p, x) → k.coreHalted p = false →
      goes (.t0Kill c n) ((((k.count Kv.DSP_T0STAT.KILL Kv.DSP_T0STAT.SAT).endItem p x true).nextItem p).t0Try)) ∧
    ((k.core i).item0 = none → (k.core i).item1 = none → (k.core i).stall = none →
      goes (.coreReset c q) (((((k.mark Kv.Cn_CTRL.EN i).wr Kv.Cn_STAT.CTX 0 i).wr Kv.Cn_STAT.OFF0 0 i).wr Kv.Cn_STAT.OFF1 0 i).onCore i
        (fun _ => { c0 := { boot := true } }))) ∧
    ((k.core i).item0.isSome = true → goes (.coreReset c q) (k.raise Src.REGACC 17 (Kv.Cn_CTRL.RST.addr i 0))) ∧
    (∀ w : Item, (k.core i).stall = some w → w.flow = none →
      goes (.coreDisable c q) { (k.wr Kv.Cn_CTRL.EN 0 i).onCore i (fun y => { y with stall := none }) with
        dsp := { (k.onCore i (fun y => { y with stall := none })).dsp with ready := k.dsp.ready ++ [w] } })

/-- A force entry is read, set and deleted; an on-line change is loaded, checked, committed or aborted, on the standby
alone -/
def Obligations.Forces_and_on_line_change : Prop :=
  ∀ (s : State) (c : Chip) (e : BitVec 6) (ft : BitVec 16) (im : Image), s.live c →
    let k := s.kvAt c
    let goes := fun (j : Instr) (y : Kv) => exec j s = .next (s.setChip c y)
    let i := e.toNat
    let ahead := (ft.toNat + 65536 - k.tick % 65536) % 65536
    let size := 2 ^ k.rd Kv.DSP_FRCS.SIZE
    let st := k.rd Kv.DSP_OLC.STATE
    let no := k.raise Src.REGACC 17 Kv.DSP_OLC.CMD.base
    let y := (k.wr Kv.DSP_FRCC.ENTRY i).wr Kv.DSP_FRCC.FTICK ft.toNat
    let asks := fun (set : Bool) =>
      let val := (y.rd Kv.DSP_FRCV.VLO + 2 ^ 32 * y.rd Kv.DSP_FRCH.VHI) % 2 ^ (8 * size)
      let t := (k.tick + ahead) % 2 ^ 48
      let z : Kv := { y with dsp := { k.dsp with changes := k.dsp.changes ++
        [⟨t, i, set, k.rd Kv.DSP_FRCS.VID, k.rd Kv.DSP_FRCS.OFS, size, val, false⟩] } }
      z.castleSend 0x07 [t, i, b2n set, k.rd Kv.DSP_FRCS.VID, k.rd Kv.DSP_FRCS.OFS, size, val]
    (∀ f : Force, Tab.get none i k.dsp.forces = some f →
      goes (.forceReadEntry c e) ((((((k.wr Kv.DSP_FRCC.ENTRY i).wr Kv.DSP_FRCS.VID f.vid).wr Kv.DSP_FRCS.OFS f.ofs).wr
        Kv.DSP_FRCS.SIZE (Nat.log2 f.size)).wr Kv.DSP_FRCV.VLO f.val).wr Kv.DSP_FRCH.VHI (f.val / 2 ^ 32))) ∧
    (k.duty = true → 2 ≤ ahead → ahead ≤ 32767 →
      ((forceTarget k.dsp.vars (k.rd Kv.DSP_FRCS.VID) (k.rd Kv.DSP_FRCS.OFS) size).isSome = true → goes (.forceSet c e ft) (asks true)) ∧
      ((forceTarget k.dsp.vars (k.rd Kv.DSP_FRCS.VID) (k.rd Kv.DSP_FRCS.OFS) size) = none →
        goes (.forceSet c e ft) (y.raise Src.REGACC 18 Kv.DSP_FRCC.CMD.base)) ∧
      goes (.forceDel c e ft) (asks false)) ∧
    (k.duty = true → (ahead < 2 ∨ 32767 < ahead) → ∀ j ∈ ([.forceSet c e ft, .forceDel c e ft] : List Instr),
      goes j (y.raise Src.REGACC 19 Kv.DSP_FRCC.CMD.base)) ∧
    (k.duty = false → ∀ j ∈ ([.forceSet c e ft, .forceDel c e ft] : List Instr), goes j (y.raise Src.REGACC 17 Kv.DSP_FRCC.CMD.base)) ∧
    (k.duty = false → st = 0 → goes (.olcLoad c) (k.wr Kv.DSP_OLC.STATE 1)) ∧
    ((k.duty = true ∨ st ≠ 0) → goes (.olcLoad c) no) ∧
    (k.duty = false → st = 1 → k.dsp.olcReload = false →
      (k.imageAccepted (!k.boot.slot) im = true → im.formed = true →
        goes (.olcImageLoaded c im)
          (((({ k with dsp := { k.dsp with oldImg := k.dsp.img }, olcDirty := false } : Kv).changeImage (!k.boot.slot) im).wr Kv.DSP_OLCN.DONE 0).wr
            Kv.DSP_OLC.STATE 2)) ∧
      ((k.imageAccepted (!k.boot.slot) im = false ∨ im.formed = false) →
        let y := (k.wr Kv.DSP_OLC.STATE 5).raise Src.DSP_OLC 0 0
        goes (.olcImageLoaded c im) { y with dsp := { y.dsp with olcReload := true } })) ∧
    (st = 2 → k.rd Kv.DSP_OLCN.NCHK ≤ k.rd Kv.DSP_OLCN.DONE → goes (.olcChecked c) (k.wr Kv.DSP_OLC.STATE 3)) ∧
    (k.duty = false → st = 3 →
      let y := (k.wr Kv.DSP_OLC.CTICK ft.toNat).wr Kv.DSP_OLC.STATE 4
      goes (.olcCommit c ft) { y.castleSend 0x05 [4, ft.toNat, y.rd Kv.CL_RDY.COND] with
        dsp := { k.dsp with olcTick := (k.tick + ahead) % 2 ^ 48 } }) ∧
    ((k.duty = true ∨ st ≠ 3) →
      goes (.olcCommit c ft) ((k.wr Kv.DSP_OLC.CTICK ft.toNat).raise Src.REGACC 17 Kv.DSP_OLC.CMD.base)) ∧
    (k.duty = false → (st = 1 ∨ st = 2 ∨ st = 3) → goes (.olcAbort c) { k with dsp := { k.dsp with olcReload := true } }) ∧
    ((k.duty = true ∨ (st ≠ 1 ∧ st ≠ 2 ∧ st ≠ 3)) → goes (.olcAbort c) no)

/-- The KF-120 grants, confirms, moves and restores the token; the chips follow CONF, GRANT and STAT and agree on a
planned castling -/
def Obligations.Token_and_planned_castling : Prop :=
  ∀ (s : State) (c : Chip) (x : Hb) (e : Envelope) (n q ct src : BitVec 16) (w : Word) (b6 b7 rdy : BitVec 8), s.live c →
    let k := s.kvAt c
    let f := s.kfAt
    let me := c.isB
    let goes := fun (j : Instr) (y : Kv) => exec j s = .next (s.setChip c y)
    let kf := fun (j : Instr) (y : Kf) => exec j s = .next (s.setKf y)
    let other : Option Hb := if me then (if f.on Kf.TOK_STAT.HBA then f.hbA else none) else (if f.on Kf.TOK_STAT.HBB then f.hbB else none)
    let beat := if me then { f.wr Kf.TOK_STAT.HBB 1 with hbB := some x, osc := false } else { f.wr Kf.TOK_STAT.HBA 1 with hbA := some x, osc := false }
    let next := (f.rd Kf.TOK_STAT.CSEQ + 1) % 2 ^ 16
    let ahead := (ct.toNat + 65536 - k.tick % 65536) % 65536
    let at_ := (k.tick + ahead) % 2 ^ 48
    let h := (k.stripe.map k.laneOf).foldl Kv.laneGoneBy k
    (f.inReset = false → f.held = false → me = false → x.claim = false → x.ready = true → f.xfer = none →
      (∀ y, other = some y → y.claim = false ∧ (f.readyB = true → later16 x.n.toNat y.n.toNat = false)) →
      ∃ t : Kf, kf (.kfHeartbeatReceived c x) t ∧ t.isHolder false = true ∧ t.rd Kf.TOK_STAT.CSEQ = next ∧ t.timer = true) ∧
    (f.inReset = false → f.isHolder me = true → f.xfer = none → x.release = false → x.xreq = false → f.refused = false → f.lapsed = none →
      let y := beat.reply me 0x81 (beBytes 2 x.n.toNat ++ beBytes 2 (f.rd Kf.TOK_STAT.CSEQ) ++ [0] ++ beBytes 2 0 ++ [0])
      kf (.kfHeartbeatReceived c x) ((({ y with refused := false, lapsedSaid := false } : Kf).stat me).tripEval false)) ∧
    (f.inReset = false → f.isHolder me = true → f.xfer = none → x.release = true → (∃ y, other = some y ∧ y.ready = true) →
      ∃ t : Kf, kf (.kfHeartbeatReceived c x) t ∧ t.isHolder (!me) = true ∧ t.rd Kf.TOK_STAT.CSEQ = next) ∧
    (f.inReset = false → f.isHolder me = true → f.xfer = none → x.release = false → x.xreq = true → f.lapsed ≠ some x.ctick.toNat →
      (∃ y, other = some y ∧ y.ready = true) →
      (let d := (x.ctick.toNat + 65536 - x.n.toNat) % 65536; 4 ≤ d ∧ d ≤ 32767) →
      ∃ t : Kf, kf (.kfHeartbeatReceived c x) t ∧ t.isHolder me = true ∧ t.xfer = some (!me, x.ctick.toNat, next)) ∧
    (f.inReset = false → f.isHolder me = true → f.xfer = none → f.on (if me then Kf.TOK_STAT.HBB else Kf.TOK_STAT.HBA) = true →
      (∃ y, other = some y ∧ y.able = true) →
      ∃ t : Kf, kf (.heartbeatTimeout c) t ∧ t.isHolder (!me) = true ∧ t.rd Kf.TOK_STAT.CSEQ = next ∧
        bit (t.rd Kf.SVL_SRC.SRC) 8 = true) ∧
    (∀ y : Hb, f.inReset = false → f.held = false → f.on Kf.TOK_STAT.HBA = true → f.hbA = some y → y.claim = true →
      f.on Kf.TOK_STAT.HBB = false →
      ∃ t : Kf, kf .kfRestartGrant t ∧ t.isHolder false = true ∧ t.rd Kf.TOK_STAT.CSEQ = y.cseq.toNat) ∧
    (let y := (({ k with cas := { k.cas with svlTick := k.tick + 1 } } : Kv).mark Kv.CL_CASST.TOKEN).wr Kv.CL_CASST.CSEQ q.toNat
     goes (.confReceived c n q false false ct) { y with 
       cas := { y.cas with conf := some ((k.tick + 2 ^ 48 - (k.tick + 65536 - n.toNat) % 65536) % 2 ^ 48, q.toNat) } }) ∧
    (goes (.grantReceived c q ct true) { k.wr Kv.CL_CASST.PSTATE 3 with
      cas := { k.cas with svlTick := k.tick + 1, grant := some (q.toNat, some at_, k.tick), ctick := some at_ } }) ∧
    (k.duty = false → k.dsp.killWait = false →
      ∃ t : Kv, goes (.grantReceived c q ct false) t ∧ t.duty = true ∧ t.rd Kv.CL_CASST.CSEQ = q.toNat ∧
        t.on Kv.TIM_STAT.STBY = false ∧ t.cas.grant = some (q.toNat, none, k.tick)) ∧
    (let old := k.rd Kv.SVL_FST.ST % 65536
     let y := (k.wr Kv.SVL_FIN.IN w.toNat).wr Kv.SVL_FST.ST (b7.toNat * 2 ^ 24 + b6.toNat * 2 ^ 16 + src.toNat)
     let y := if tickIs k.svlLast (tickPrev k.tick) then y.mark Kv.SVL_STAT.UP else y
     let y := if k.cas.causeOpen && src.getLsbD 8 && !old.testBit 8 then y.wr Kv.CL_CASST.CAUSE 3 else y
     let y := { y with svlLast := k.tick + 1, cas := { k.cas with svlTick := k.tick + 1, causeOpen := false } }
     let rose := (List.range 16).filter (fun i => src.getLsbD i && !old.testBit i)
     goes (.statReceived c w src b6 b7) (rose.foldl (fun y i => y.raise (Src.KF i) 0 0) y)) ∧
    (k.duty = true → (k.rd Kv.CL_CASST.PSTATE = 0 ∨ 4 ≤ k.rd Kv.CL_CASST.PSTATE) → 16 ≤ ahead → ahead ≤ 32767 →
      goes (.castleReq c ct) (({ (k.wr Kv.CL_CAS.CTICK ct.toNat).wr Kv.CL_CASST.PSTATE 1 with
        cas := { k.cas with ctick := some at_, olc := false, accepted := false } } : Kv).castleSend 0x05 [1, ct.toNat, k.rd Kv.CL_RDY.COND])) ∧
    (k.duty = false → goes (.castleReq c ct) ((k.wr Kv.CL_CAS.CTICK ct.toNat).raise Src.REGACC 17 Kv.CL_CAS.REQ.base)) ∧
    (let done := fun (y : Kv) =>
       let off := (y.wr Kv.CL_CASST.PSTATE 4).raise Src.CL_REFUSE 0 0
       { off with cas := { off.cas with accepted := false, ctick := none, olc := false } }
     k.duty = true → k.rd Kv.CL_CASST.PSTATE = 1 →
      (k.cas.ctick.any (tickAhead (k.tick + 4)) = false → goes (.transferLapse c) (done k)) ∧
      (k.on Kv.CL_STAT.UP = true → e.ok = true → e.claim = false →
        goes (.castleRefuse c e) (done h) ∧ goes (.castleAccept c e) { h with cas := { h.cas with accepted := true } })) ∧
    (k.on Kv.CL_STAT.UP = true → e.ok = true → e.claim = false →
      let commit := k.rd Kv.DSP_OLC.STATE = 4 ∧ k.dsp.olcTick % 65536 = ct.toNat
      let accepts := fun (olc : Bool) => goes (.castleOffer c e ct rdy)
        (({ h with cas := { h.cas with ctick := some at_, olc := olc } } : Kv).castleSend 0x05 [2, ct.toNat, k.rd Kv.CL_RDY.COND])
      (k.duty = false → ¬ commit → k.on Kv.CL_RDY.READY = true → accepts false) ∧
      (k.duty = false → commit → k.rd Kv.CL_RDY.COND &&& 0xF3 = 0xF3 → accepts true) ∧
      (k.duty = false → ¬ commit → k.on Kv.CL_RDY.READY = false →
        goes (.castleOffer c e ct rdy) (h.castleSend 0x05 [3, ct.toNat, k.rd Kv.CL_RDY.COND])) ∧
      (k.duty = true → (k.rd Kv.CL_CASST.PSTATE = 0 ∨ 4 ≤ k.rd Kv.CL_CASST.PSTATE) → 16 ≤ ahead → ahead ≤ 32767 →
        goes (.castleCommitreq c e ct) (({ (h.wr Kv.CL_CAS.CTICK ct.toNat).wr Kv.CL_CASST.PSTATE 1 with
          cas := { h.cas with ctick := some at_, olc := true, accepted := false } } : Kv).castleSend 0x05
            [1, ct.toNat, k.rd Kv.CL_RDY.COND])))

/-- STATE, DIGEST, ENDORSE, RELAY, EVREL, FORCE, LEDGER, EPOCHEND, SWEEP, HEALTH, a missed epoch, resync, self-test,
health report -/
def Obligations.Castle_messages_and_the_ledger : Prop :=
  ∀ (s : State) (c : Chip) (logic sram arena : Bool) (e : Envelope) (m : StateMsg) (n : BitVec 48) (ds : List (BitVec 64)) (mask : Word) (seq : BitVec 16)
    (l : List (BitVec 13 × RepSlot)) (tasks : List (BitVec 5)) (x : FrcChange) (es : List Entry) (a : BitVec 13) (bytes : List Byte)
    (count size crc : BitVec 32) (w0 w1 w2 w3 : Word), s.live c →
    let k := s.kvAt c
    let h := (k.stripe.map k.laneOf).foldl Kv.laneGoneBy k
    let goes := fun (j : Instr) (y : Kv) => exec j s = .next (s.setChip c y)
    (k.on Kv.CL_STAT.UP = true → e.ok = false → ∀ j ∈ ([.stateMessage c e m, .digestMessage c e n ds true, .endorseMessage c e n mask seq true,
        .relayMessage c e l, .evrelMessage c e n tasks, .ledgerMessage c e n es, .sweepMessage c e a n bytes, .healthMessage c e w0 w1 w2 w3] :
        List Instr), goes j ((h.count Kv.CL_MERR.ERR Kv.CL_MERR.SAT).raise Src.CL_MERR 0 0)) ∧
    (k.on Kv.CL_STAT.UP = true → e.ok = true → e.claim = false →
      (m.missed = none →
        let y := { h with cas := { h.cas with other := some m, otherSeq := e.cseq.toNat, otherTick := k.tick + 1 } }
        goes (.stateMessage c e m) (if m.claim && !k.duty then y.wr Kv.CL_CASST.CSEQ e.cseq.toNat else y)) ∧
      (let kept := (k.served.zip ds).foldl (fun d p => Tab.set 0 (p.1 * 8 + n.toNat % 8) ((n.toNat + 1) * 2 ^ 64 + p.2.toNat) d) k.cas.digests
       goes (.digestMessage c e n ds true) (({ h with cas := { h.cas with digests := kept } } : Kv).endorse n.toNat)) ∧
      (k.tokenAt (k.frameFor n.toNat) = false → seq.toNat = k.seqAt (k.frameFor n.toNat) →
        goes (.endorseMessage c e n mask seq true) (h.settleEndorse n.toNat mask.toNat)) ∧
      goes (.relayMessage c e l) (l.foldl (fun y p => y.relayEntry p.1.toNat p.2) h) ∧
      (k.duty = false → tickAhead k.tick n.toNat = true →
        goes (.evrelMessage c e n tasks) { h with dsp := { h.dsp with evrel := h.dsp.evrel ++ tasks.map BitVec.toNat } }) ∧
      (k.duty = false → tickAhead k.tick n.toNat = false →
        goes (.evrelMessage c e n tasks) (tasks.foldl (fun y t => y.releaseTask (64 + t.toNat) n.toNat) h)) ∧
      (k.duty = false → tickAhead k.tick x.tick = true →
        exec (.forceMessage c e x) s = .next
          ((s.setChip c { h with dsp := { h.dsp with changes := h.dsp.changes ++ [{ x with arrived := true }] } }).setChip c.other
            ((s.chip c.other).forceMarked x))) ∧
      (k.epochSink n.toNat = true → tickDone k.cas.epochDone n.toNat = false →
        ((∀ z ∈ k.cas.epochs, z.n ≠ n.toNat) →
          goes (.ledgerMessage c e n es) { h with cas := { h.cas with epochs := h.cas.epochs ++ [⟨n.toNat, es, false⟩] } }) ∧
        (∀ had : List Entry, k.cas.epochs = [⟨n.toNat, had, false⟩] →
          goes (.ledgerMessage c e n es) { h with cas := { h.cas with epochs := [⟨n.toNat, had ++ es, false⟩] } }) ∧
        (∀ here : List Entry, k.cas.epochs = [⟨n.toNat, here, false⟩] →
         let y := ({ h with cas := { h.cas with epochs := [⟨n.toNat, here, true⟩] } } : Kv).stageEpoch n.toNat here
         let agrees := y.crcRes 3 = crc.toNat ∧ here.length = count.toNat ∧ (here.map (fun z => z.bytes.length)).sum = size.toNat
         (s.chip c.other).ldgSource = false →
          goes (.epochendMessage c e n count size crc) (if agrees then y.applyEpoch.t0Try else (y.missEpoch n.toNat).t0Try))) ∧
      (k.ldgSink = true → k.cvuDone a.toNat ((n.toNat + 1) % 2 ^ 48) = false → bytes.length = 116 →
        goes (.sweepMessage c e a n bytes)
          (Kv.forcedBytes 2 (recAddr a.toNat + 0x54) (bytes.drop 112) (Kv.forcedBytes 20 (recAddr a.toNat + 0x60) (bytes.take 112) h))) ∧
      (w0.getLsbD 0 = false →
        ∃ y : Kv, goes (.healthMessage c e w0 w1 w2 w3) (y.raise Src.CL_HEALTH 0 0) ∧
          y.rd Kv.LDG_HLTH0.PNUM = w0.toNat / 2 ^ 16 ∧ y.rd Kv.LDG_HLTH0.RDY = w0.toNat / 2 ^ 8 % 256 ∧
          y.rd Kv.LDG_HLTH1.NRDY = w1.toNat / 2 ^ 16 ∧ y.rd Kv.LDG_HLTH1.UNT = w1.toNat % 2 ^ 16 ∧
          y.rd Kv.LDG_HLTH2.PATH = w2.toNat / 2 ^ 16 ∧ y.rd Kv.LDG_HLTH2.UNEND = w2.toNat % 2 ^ 16 ∧
          y.rd Kv.LDG_HLTH3.AMAX = w3.toNat / 2 ^ 16)) ∧
    (k.epochSink n.toNat = true → tickDone k.cas.epochDone n.toNat = false → goes (.epochMiss c n) (k.missEpoch n.toNat).t0Try) ∧
    goes (.ledgerResync c) k.startResync ∧
    (let p := (k.rd Kv.CL_BIST.POS + 1) % 2848
     k.duty = false → k.on Kv.CL_BIST.EN = true → k.bistFree p = true →
      let y := k.wr Kv.CL_BIST.POS p
      let z := (y.mark Kv.CL_BIST.FAIL).raise Src.CL_BIST 0 p
      goes (.selfTestStep c logic sram arena)
        (if (if p < 32 then logic else if p < 800 then sram else arena) then y else { z with cas := { z.cas with bfail := true } })) ∧
    (k.duty = false → 100000000 / k.tickNs ≤ k.cas.period →
      ∃ y : Kv, goes (.healthReport c) y ∧ y.cas.period = 0 ∧ y.cas.nrdy = 0 ∧ y.cas.unt = 0 ∧ y.cas.pathN = 0 ∧ y.cas.unendN = 0 ∧
        y.cas.amax = 0 ∧ y.cas.lagm = 0 ∧ y.cas.missN = 0 ∧ y.cas.bfail = false ∧
        y.rd Kv.LDG_HLTH0.PNUM = (k.rd Kv.LDG_HLTH0.PNUM + 1) % 65536)

/-- One occurrence of a fault source, its window, the acknowledge, the injection, the first-fault latch, the log
pointer and the event mask -/
def Obligations.Fault_collector_and_event_commands : Prop :=
  ∀ (s : State) (c : Chip) (src : BitVec 7) (kind : BitVec 5) (addr mask v : Word) (m : BitVec 2) (rp : BitVec 8) (i : Nat), s.live c →
    let k := s.kvAt c
    let n := src.toNat
    let goes := fun (j : Instr) (y : Kv) => exec j s = .next (s.setChip c y)
    let sev := k.rd Kv.FLT_SEVn.SEV n
    let calm := sev < 4 ∨ k.olcFails (k.rd Kv.DSP_OLC.STATE) = false
    (k.on Kv.FLT_WINn.EN n = false → k.rd Kv.FLT_SSTn.OCC n + 1 < 65535 →
      (k.on Kv.FLT_SSTn.PEND n = true → k.on Kv.FLT_CFG.MERGE = true → sev ≤ k.rd Kv.FLT_SSTn.CSEV n →
        goes (.faultOccurrence c src kind addr) (k.wr Kv.FLT_SSTn.OCC (k.rd Kv.FLT_SSTn.OCC n + 1) n)) ∧
      (k.on Kv.FLT_SSTn.PEND n = false → k.on Kv.FLT_STAT.LFULL = false →
        ∃ y : Kv, goes (.faultOccurrence c src kind addr) y ∧
          (calm → y.rd Kv.FLT_SSTn.OCC n = k.rd Kv.FLT_SSTn.OCC n + 1) ∧
          (1 ≤ sev → y.on Kv.FLT_SSTn.PEND n = true) ∧ (1 ≤ sev → calm → y.rd Kv.FLT_SSTn.CSEV n = max (k.rd Kv.FLT_SSTn.CSEV n) sev) ∧
          (3 ≤ sev → addrIsCell ⟨n, kind.toNat, addr.toNat⟩ = true →
            addr.toNat < 8192 ∧ y.on Kv.FLT_STAT.CBLK = true ∧
            (Tab.get 0 addr.toNat k.ovrAt = 0 → Tab.get 0 addr.toNat y.ovrAt = (k.tick + k.lead + 1) % 2 ^ 48 + 1)) ∧
          (¬ calm → y.rd Kv.DSP_OLC.STATE = 5 ∧ y.dsp.olcReload = true) ∧
          (4 ≤ sev → y.on Kv.FLT_STAT.CBLK = true ∧ y.on Kv.FLT_STAT.STOPR = true ∧ y.rd Kv.DSP_STAT.PEND = 0 ∧ y.stopNext = true) ∧
          (5 ≤ sev → k.duty = true → y.on Kv.FLT_STAT.TRIPR = true) ∧
          (k.rd Kv.FLT_CFG.FFMIN ≤ sev → k.on Kv.FLT_FF0.VALID = false →
            y.on Kv.FLT_FF0.VALID = true ∧ y.rd Kv.FLT_FF0.SRC = n ∧ y.rd Kv.FLT_FF0.KIND = kind.toNat ∧
            y.rd Kv.FLT_FF0.SEV = sev ∧ y.rd Kv.FLT_FF1.ADDR = addr.toNat) ∧
          (k.rd Kv.EVT_RTn.MINSEV n ≤ sev → y.evPend n = true))) ∧
    (let o := Tab.get 0 n k.winOpen
     let len := 1000000 * k.rd Kv.FLT_WINn.WLEN n
     let now := k.upNs + 1001
     let again := k.on Kv.FLT_SSTn.LAST n = true ∧ k.rd Kv.FLT_WINn.THR n ≤ k.rd Kv.FLT_SSTn.WCNT n ∧ now < o + 2 * len
     o ≠ 0 →
      (now < o + len → goes (.faultWindowEnd c src) k) ∧
      (o + len ≤ now → again →
        goes (.faultWindowEnd c src) { (k.wr Kv.FLT_SSTn.WCNT 0 n) with winOpen := Tab.set 0 n (o + len) k.winOpen }) ∧
      (o + len ≤ now → ¬ again →
        goes (.faultWindowEnd c src) { ((k.wr Kv.FLT_SSTn.LAST 0 n).wr Kv.FLT_SSTn.WCNT 0 n) with winOpen := Tab.set 0 n 0 k.winOpen })) ∧
    (∃ y : Kv, goes (.faultAcknowledge c m mask) y ∧
      (∀ b : Nat, b < 32 → mask.toNat.testBit b = true →
        y.rd Kv.FLT_SSTn.PEND (32 * m.toNat + b) = 0 ∧ y.rd Kv.FLT_SSTn.CSEV (32 * m.toNat + b) = 0) ∧
      (∀ q : Nat, (q / 32 ≠ m.toNat ∨ mask.toNat.testBit (q % 32) = false) →
        y.rd Kv.FLT_SSTn.PEND q = k.rd Kv.FLT_SSTn.PEND q ∧ y.rd Kv.FLT_SSTn.CSEV q = k.rd Kv.FLT_SSTn.CSEV q)) ∧
    (Kv.FLT_WINn.WLEN.ok (bits v.toNat 16 16) = true → Kv.FLT_WINn.THR.ok (bits v.toNat 8 8) = true →
      let y := ((k.wr Kv.FLT_WINn.WLEN (bits v.toNat 16 16) n).wr Kv.FLT_WINn.THR (bits v.toNat 8 8) n).wr Kv.FLT_WINn.EN v.toNat n
      let z := (y.wr Kv.FLT_SSTn.LAST 0 n).wr Kv.FLT_SSTn.WCNT 0 n
      goes (.fltWinWrite c src v) { z with winOpen := Tab.set 0 n 0 k.winOpen }) ∧
    (let y := (k.wr Kv.FLT_INJ.SRC n).wr Kv.FLT_INJ.KIND kind.toNat
     ((k.parked = true ∨ k.duty = false) → goes (.fltInjGo c src kind) (y.raise n kind.toNat (y.rd Kv.FLT_INJA.ADDR))) ∧
     (k.parked = false → k.duty = true → goes (.fltInjGo c src kind) (y.raise Src.REGACC 17 Kv.FLT_INJ.GO.base))) ∧
    (∃ y : Kv, goes (.firstFaultClear c) y ∧ y.on Kv.FLT_FF0.VALID = false ∧ y.on Kv.FLT_FF0.OVF = false ∧ y.on Kv.FLT_FF0.TIE = false ∧
      y.rd Kv.FLT_FF0.SRC = 0 ∧ y.rd Kv.FLT_FF1.ADDR = 0 ∧ y.rd Kv.FLT_FF2.TICK = 0 ∧ y.rd Kv.FLT_FF3.NS = 0) ∧
    goes (.logReadPointerWrite c rp) ((k.wr Kv.FLT_LOGP.RP rp.toNat).wr Kv.FLT_STAT.LFULL 0) ∧
    (let old := k.rd Kv.EVT_MSKm.MSK m.toNat
     (v.toNat = old → goes (.eventUnmask c m v) (k.wr Kv.EVT_MSKm.MSK v.toNat m.toNat)) ∧
     (i < 32 → old.testBit i = true → v.toNat = old - 2 ^ i →
      k.evPend (32 * m.toNat + i) = true → k.on Kv.EVT_RTn.MEN (32 * m.toNat + i) = true →
      goes (.eventUnmask c m v) ((k.wr Kv.EVT_MSKm.MSK v.toNat m.toNat).msix (k.rd Kv.EVT_RTn.VEC (32 * m.toNat + i)))))

/-- Enabling, disabling, arming, firing, gathering and closing of the acquisition units -/
def Obligations.Acquisition_unit_commands : Prop :=
  ∀ (s : State) (c : Chip) (at_ : BitVec 16) (cells : Bool) (n : BitVec 2) (v : Word) (f : BitVec 48) (p : BitVec 5) (x : Trailer)
    (h : Header), s.live c →
    let k := s.kvAt c
    let u := n.toNat
    let t := f.toNat
    let goes := fun (j : Instr) (y : Kv) => exec j s = .next (s.setChip c y)
    let off := Kv.ACQn_CFG.EN.addr u 0
    let st := k.rd Kv.ACQn_STAT.STATE u
    let d := (at_.toNat + 65536 - k.tick % 65536) % 65536
    let ms := k.acqMembers
    (k.on Kv.ACQn_CFG.EN u = false →
      let y := k.writeReg off (setBit v.toNat 31 true)
      goes (.acqEnable c n v) (if y.acqFits u = true then y.wr Kv.ACQn_STAT.C (y.acqChans u).length u else k.raise Src.REGACC 18 off)) ∧
    (let y := k.writeReg off (setBit v.toNat 31 false)
     let z := y.setAcq u { y.acqU u with armAt := none }
     ((k.on Kv.ACQn_CFG.EN u = false ∨ (st ≠ 1 ∧ st ≠ 2)) → goes (.acqDisable c n v) z) ∧
     (k.on Kv.ACQn_CFG.EN u = true → (st = 1 ∨ st = 2) →
       let w := ((z.acqMeasCatch u).acqGap u).acqPut u z.tick (2 ^ 31 + 2 ^ 29) 0 [] []
       goes (.acqDisable c n v) ((w.mark Kv.ACQn_STAT.SHORT u).acqClose u))) ∧
    (k.lead + 2 ≤ d → d ≤ 32767 → k.on Kv.ACQn_CFG.EN (k.rd Kv.ACQ_CTRL.MSTR) = true →
      (∀ q ∈ ms, k.rd Kv.ACQn_STAT.STATE q ≠ 1 ∧ k.rd Kv.ACQn_STAT.STATE q ≠ 2) →
      ∃ y : Kv, goes (.acqArmGo c at_ cells) y ∧ y.rd Kv.ACQ_ARM.ATICK = at_.toNat ∧
        (∀ q ∈ ms, k.on Kv.ACQn_CFG.EN q = true → (y.acqU q).armAt = some (tickFrom k.tick at_.toNat)) ∧
        (cells = true → y.cellArm = some (tickFrom k.tick at_.toNat) ∧ y.rd Kv.ACQ_CTRL.NARM = 0)) ∧
    ((d < k.lead + 2 ∨ 32767 < d) → goes (.acqArmGo c at_ cells)
      (((k.wr Kv.ACQ_ARM.ATICK at_.toNat).wr Kv.ACQ_ARM.CELLARM (b2n cells)).raise Src.REGACC 19 Kv.ACQ_ARM.GO.base)) ∧
    (let ticks := ms.flatMap (fun q => ((k.acqU q).rows.filter (fun r => !r.gap)).map (·.tick))
     (∀ z : Nat, z ∈ ticks → (∀ w ∈ ticks, w = z ∨ tickAhead w z = true) → goes (.acqArmFire c) (k.acqFire (fun _ => true) z 0)) ∧
     (ticks = [] → goes (.acqArmFire c) k)) ∧
    (k.acqDue u t = false → goes (.acqRowGather c n f) k ∧ goes (.acqRowMissed c n f) k) ∧
    (k.acqDue u t = true → (k.acqU u).gap = none →
      (st = 2 → (k.acqU u).fireWait = none → k.rd Kv.ACQn_CFG.MACT u = 0 →
        ∃ y : Kv, goes (.acqRowGather c n f) y ∧
          (y.acqU u).wp = ((k.acqU u).wp + 1) % k.rd Kv.ACQn_ROWS.ROWS u ∧
          y.rd Kv.ACQn_NPOST.NPOST u = (k.rd Kv.ACQn_NPOST.NPOST u + 1) % 2 ^ Kv.ACQn_NPOST.NPOST.w ∧
          y.rdLe (k.acqSlot u (k.acqU u).wp) 4 = t % 2 ^ 32) ∧
      goes (.acqRowMissed c n f) (k.setAcq u { k.acqU u with gap := some (t, k.rd Kv.ACQn_CFG.DEC u + 1) })) ∧
    (∀ g l : Nat, k.acqDue u t = true → (k.acqU u).gap = some (g, l) → tickAhead t ((g + l) % 2 ^ 48) = false →
      goes (.acqRowMissed c n f) (k.setAcq u { k.acqU u with gap := some (g, ticksTo g t + (k.rd Kv.ACQn_CFG.DEC u + 1)) })) ∧
    (k.spLive p.toNat = true → x.cfire = true → x.valid p.toNat t = true →
      let asked := fun q => k.acqSrcOn 1 q && bit (k.rd Kv.ACQn_SMSK.SMSK q) p.toNat
      let r := k.acqFire asked t 6
      let first := fun q => asked q && r.rd Kv.ACQn_STAT.STATE q == 2 && r.rd Kv.ACQn_FTIK.F q == t % 2 ^ 32 && !(r.acqU q).cellFire
      goes (.acqCellFire c p f x) ((r.acqMembers.filter first).foldl (fun r q =>
        ((r.wr Kv.ACQn_FPOS.FSTR p.toNat q).wr Kv.ACQn_FPOS.FPOS x.fpos.toNat q).setAcq q { r.acqU q with cellFire := true }) r)) ∧
    (k.spLive p.toNat = true → h.valid p.toNat = true → h.isFold = false → k.fromOther h = true →
      (h.bfire = true → goes (.acqOtherChipFire c p h) 
        (k.acqFire (k.acqSrcOn 2) ((h.tickno.toNat + (2 ^ 48 - k.rd Kv.ACQ_CTRL.XLAG)) % 2 ^ 48) 7)) ∧
      (h.barm = true → k.on Kv.ACQ_CTRL.XARM = true → (∀ q ∈ ms, k.rd Kv.ACQn_STAT.STATE q = 0 ∨ k.rd Kv.ACQn_STAT.STATE q = 3) →
        goes (.acqCrossArm c p h) ((ms.filter (fun q => k.on Kv.ACQn_CFG.EN q)).foldl (fun y q => y.acqArmAt q h.tickno.toNat) k))) ∧
    (st = 2 → (k.acqU u).fireWait = none → k.rd Kv.ACQn_PTRIG.POST u ≤ k.rd Kv.ACQn_NPOST.NPOST u →
      goes (.acqRecordClose c n) (k.acqClose u))

/-- Corrected and uncorrectable reads, partial stores, scrubbing, initialisation, the host window and the check-value
engines -/
def Obligations.Memory_errors_and_check_engines : Prop :=
  ∀ (s : State) (c : Chip) (addr : BitVec 36) (e : Symbols) (v : BitVec 64) (len : BitVec 3) (w : Word) (n : BitVec 2)
    (q : Nat) (a : BitVec 13) (ca : Word) (det : Bool), s.live c →
    let k := s.kvAt c
    let x := s.kcAt a
    let at_ := addr.toNat
    let u := n.toNat
    let goes := fun (j : Instr) (y : Kv) => exec j s = .next (s.setChip c y)
    let cell := fun (j : Instr) (y : Cell) => exec j s = .next (s.setCell a y)
    let inDram := at_ < k.dramSize
    let found := k.sought at_ e.toNat
    let fixed := k.setErrs at_ 0
    let corrected := fun (d : Nat) => ((((fixed.mark Kv.MEM_STAT.CORF).wr Kv.MEM_ELOG0.CADDR (memFaultAddr at_)).wr Kv.MEM_ELOG2.LDEV d).raise
      Src.MEM_COR 0 (memFaultAddr at_)).countDevice d
    let lost := (if k.bad at_ then k else k.setErrs at_ e.toNat).logUnc at_
    (k.bad at_ = true → goes (.memoryReadCorrected (.chip c) addr e) k) ∧
    (k.bad at_ = false →
      (∀ d : Nat, d < 20 → found = 2 ^ d →
        (inDram → goes (.memoryReadCorrected (.chip c) addr e) (corrected d)) ∧
        (¬ inDram → inSram at_ = true → goes (.memoryReadCorrected (.chip c) addr e)
          ((fixed.raise Src.SRAM_COR 0 (memFaultAddr at_)).count Kv.MEM_ELOG2.SCOR Kv.MEM_ELOG2.SAT Src.SRAM_COR))) ∧
      ((symbols found = 0 ∨ symbols found = 2) → goes (.memoryReadCorrected (.chip c) addr e) k)) ∧
    ((inDram ∨ (inSram at_ = true ∧ inRegs at_ = false)) → (k.bad at_ = true ∨ 2 ≤ symbols found) →
      goes (.memoryReadUncorrectable (.chip c .other addr e)) (lost.raiseUnc at_ 0) ∧
      goes (.memoryReadUncorrectable (.chip c .host addr e)) ((lost.send ⟨.pcie, 0, [1]⟩).raiseUnc at_ 0) ∧
      goes (.memoryReadUncorrectable (.chip c .record addr e)) (lost.raise Src.SRAM_UNC 0 (memFaultAddr at_)) ∧
      goes (.memoryReadUncorrectable (.chip c .sfe addr e)) lost ∧ goes (.memoryReadUncorrectable (.chip c .crc addr e)) lost) ∧
    (k.bad at_ = false → symbols found < 2 → ∀ m : Master, goes (.memoryReadUncorrectable (.chip c m addr e)) k) ∧
    (cellSram ca.toNat = true → x.runs = true →
      (let y := if x.bad ca.toNat then x else x.setErrs ca.toNat e.toNat
       (x.bad ca.toNat = true ∨ 2 ≤ symbols e.toNat) →
         cell (.memoryReadUncorrectable (.cell a ca e))
           (if y.issues = true ∧ y.on Kc.CC_DSTAT.HALTED = false then y.memUnc y.core.pc.toNat else y)) ∧
      (x.bad ca.toNat = false → symbols e.toNat = 1 → ∀ j ∈ ([.memoryReadCorrected (.cell a) (ca.setWidth 36) e, .patrolScrubRead (.cell a) (ca.setWidth 36) e det] : List Instr),
        cell j ((x.setErrs ca.toNat 0).event Ev.MEMCOR)) ∧
      (ca.toNat % 8 + len.toNat ≤ 8 → cell (.partialStoreMerge (.cell a) (ca.setWidth 36) v len)
        (if x.bad ca.toNat then x.event Ev.MEMUNC else (x.wrLe ca.toNat v.toNat len.toNat).setErrs ca.toNat 0))) ∧
    ((inDram ∨ inSram at_ = true) → at_ % 8 + len.toNat ≤ 8 →
      (k.bad at_ = false → goes (.partialStoreMerge (.chip c) addr v len) ((k.wrLe at_ v.toNat len.toNat).setErrs at_ 0)) ∧
      (k.bad at_ = true → goes (.partialStoreMerge (.chip c) addr v len) ((k.logUnc at_).raiseUnc at_ 16))) ∧
    (inDram → k.rd Kv.MEM_SCRUB.PER = 0 → goes (.patrolScrubRead (.chip c) addr e det) k) ∧
    (inDram → k.rd Kv.MEM_SCRUB.PER ≠ 0 →
      (k.bad at_ = true → goes (.patrolScrubRead (.chip c) addr e det) ((k.logUnc at_).raiseUnc at_ 0)) ∧
      (k.bad at_ = false →
        (symbols found = 0 → goes (.patrolScrubRead (.chip c) addr e det) k) ∧
        (∀ d : Nat, d < 20 → found = 2 ^ d → goes (.patrolScrubRead (.chip c) addr e det) (corrected d)) ∧
        (symbols found = 2 ∨ (3 ≤ symbols found ∧ det = true) →
          goes (.patrolScrubRead (.chip c) addr e det) (((k.setErrs at_ e.toNat).logUnc at_).raiseUnc at_ 0)))) ∧
    (∃ y : Kv, goes (.memInit c) y ∧ y.on Kv.MEM_STAT.INITB = true ∧ y.on Kv.MEM_STAT.READY = false ∧
      (∀ z : Nat, z < k.dramSize → y.rdByte z = 0) ∧ (∀ z : Nat, k.dramSize ≤ z → y.rdByte z = k.rdByte z)) ∧
    goes (.memInitDone c) ((k.wr Kv.MEM_STAT.INITB 0).mark Kv.MEM_STAT.READY) ∧
    (let b := bits w.toNat 24 8
     goes (.memHwinWrite c w) (if (b + 1) * 2 ^ 26 ≤ k.dramSize then k.wr Kv.MEM_HWIN.BASE b
       else k.raise Src.REGACC 18 Kv.MEM_HWIN.BASE.base)) ∧
    (k.crcOwned u = true → goes (.crcGo c n w) (k.raise Src.REGACC 17 (Kv.CRCn_CTRL.EN.addr u 0)) ∧
      goes (.crcEnClear c n q) (k.raise Src.REGACC 17 (Kv.CRCn_CTRL.EN.addr u 0))) ∧
    (k.crcOwned u = false →
      (let y := k.crcControl u w.toNat
       k.rd Kv.CRCn_STAT.STATE u ≠ 1 → y.on Kv.CRCn_CTRL.EN u = true →
        ((k.rd Kv.CRCn_STAT.STATE u = 0 ∧ y.rd Kv.CRCn_LEN.LEN u = 0 → goes (.crcGo c n w) (y.raise Src.REGACC 18 (Kv.CRCn_CTRL.EN.addr u 0))) ∧
         (y.rd Kv.CRCn_LEN.LEN u ≠ 0 → goes (.crcGo c n w) (Kv.crcStart { y with
          crcFrom := Tab.set 0 u (y.rd Kv.CRCn_START.START u) k.crcFrom, crcLen := Tab.set 0 u (y.rd Kv.CRCn_LEN.LEN u) k.crcLen } u)))) ∧
      (k.rd Kv.CRCn_STAT.STATE u = 1 → w.getLsbD 31 = false → goes (.crcGo c n w)
        ((((k.crcOn u).crcStop u 0).crcControl u w.toNat).raise Src.REGACC 17 (Kv.CRCn_CTRL.EN.addr u 0))) ∧
      (k.rd Kv.CRCn_STAT.STATE u = 1 → q = 0 → k.rd Kv.CRCn_LEN.LEN u ≠ 0 →
        goes (.crcEnClear c n q) ((k.wr Kv.CRCn_CTRL.EN 0 u).wr Kv.CRCn_STAT.STATE 2 u))) ∧
    (k.crcOwned u = false → k.on Kv.CRCn_CTRL.EN u = true → k.rd Kv.CRCn_STAT.STATE u = 1 → k.rd Kv.CRCn_LEN.LEN u = 1 →
      k.crcWordOk u (k.rd Kv.CRCn_START.START u) = true →
      let i := k.rd Kv.CRCn_START.START u
      let y := (k.wr Kv.CRCn_RUN.RUN (crcBytes 32 0x04C11DB7 (k.rd Kv.CRCn_RUN.RUN u) (k.crcWord u i)) u).wr Kv.CRCn_START.START (i + 1) u
      goes (.crcScanDone c n) ((y.wr Kv.CRCn_LEN.LEN 0 u).crcFinish u)) ∧
    (k.crcOwned u = false → k.rd Kv.CRCn_STAT.STATE u = 3 → k.on Kv.CRCn_CTRL.REP u = true → k.on Kv.CRCn_CTRL.EN u = true →
      goes (.crcRepeat c n) (((k.wr Kv.CRCn_START.START (Tab.get 0 u k.crcFrom) u).wr Kv.CRCn_LEN.LEN (Tab.get 0 u k.crcLen) u).crcStart u)) ∧
    (k.crcOwned u = true → goes (.crcScanDone c n) k ∧ goes (.crcRepeat c n) k) ∧
    (k.rd Kv.CRCn_STAT.STATE 0 = 1 → q = 0 → k.rd Kv.CRCn_LEN.LEN 0 ≠ 0 →
      goes (.crcPreempt c q) ((k.wr Kv.CRCn_STAT.STATE 2).mark Kv.CRCn_STAT.PRE))

/-- Register writes, BAR0 and BAR2, the PCIe link, MSI-X, SYS_XD, the image configuration, the mailbox and the tally
-/
def Obligations.Host_accesses_image_mailbox_and_tally : Prop :=
  ∀ (s : State) (c : Chip) (off v : Word) (data : List Byte) (m : BitVec 7) (speed width : BitVec 3) (mt no tt : BitVec 16) (een : Bool)
    (task : BitVec 5) (bytes : Nat) (b : Byte) (a : BitVec 13), s.live c →
    let k := s.kvAt c
    let goes := fun (j : Instr) (y : Kv) => exec j s = .next (s.setChip c y)
    let host := fun (y : Kv) => goes (.registerWrite (.chip c false) off v) y
    let served := k.rd Kv.SYS_PWR.STATE ≠ 2
    let o := off.toNat
    let free := k.forced (sysRegs + o) 4 = false
    (∀ i : Nat, i < 16 → (k.core i).stepOk = false) →
    ((s.kcAt a).runs = false → exec (.registerWrite (.cell a) off v) s = .next (s.setCell a (s.kcAt a))) ∧
    (served → free → o = Kv.IMG_MBHk.D.addr 3 0 → host (k.wr Kv.IMG_MBHk.D v.toNat 3)) ∧
    (free → o = Kv.EVT_PENDm.PEND.addr 1 0 →
      host (k.wr Kv.EVT_PENDm.PEND (k.rd Kv.EVT_PENDm.PEND 1 - (k.rd Kv.EVT_PENDm.PEND 1 &&& v.toNat)) 1)) ∧
    (o = Kv.TIM_NS.NS.base → host k) ∧
    (Kv.isReg o = false → ∃ y : Kv, y = k.raise Src.REGACC 18 o ∧ host y.runSteps) ∧
    (k.rd Kv.DBG_STAT.PATH ≠ 2 → o / 0x1000 ≠ 3 → o / 0x1000 ≠ 4 → goes (.registerWrite (.chip c true) off v) k) ∧
    ((o % 4 ≠ 0 ∨ data = [] ∨ data.length % 4 ≠ 0) → goes (.bar0Write c off data true) (k.pciErr 16).runSteps) ∧
    (k.forced (sysRegs + o) 4 = true → Kv.isReg o = true → host k) ∧
    (served → free → o = Kv.IMG_MBHk.D.addr 3 0 → data.length = 4 → goes (.bar0Write c off data true) (k.wr Kv.IMG_MBHk.D (ofLe data) 3)) ∧
    (Kv.isReg o = false → goes (.bar0UnmappedAccess c off) ((k.send ⟨.pcie, 0, [1]⟩).raise Src.REGACC 18 o)) ∧
    (served →
      goes (.bar2Access c off 1 (some [b])) (k.forcedStore (k.bar2Addr o) b.toNat 1) ∧
      ((∀ i : Nat, i < bytes → k.bad (k.bar2Addr o + i) = false) →
        goes (.bar2Access c off bytes none)
          (k.send ⟨.pcie, 0, 0 :: (List.range bytes).map (fun i => (k.rdByte (k.bar2Addr o + i)).toNat)⟩))) ∧
    (k.on Kv.PCI_STAT.DLUP = true →
      goes (.pcieLinkLoss c) ((((k.wr Kv.PCI_STAT.DLUP 0).wr Kv.PCI_STAT.SPEED 0).wr Kv.PCI_STAT.WIDTH 0).pciErr 17)) ∧
    ((∀ i : Nat, i < 4 → k.rd Kv.PCI_PBAm.PEND i = 0) →
      (1 ≤ speed.toNat → speed.toNat ≤ 4 → (width = 1 ∨ width = 2 ∨ width = 4) →
        goes (.pcieLinkUp c speed width)
          (((k.mark Kv.PCI_STAT.DLUP).wr Kv.PCI_STAT.SPEED speed.toNat).wr Kv.PCI_STAT.WIDTH width.toNat)) ∧
      goes (.msixVectorUnmask c m) (k.wr Kv.PCI_MSIX_VC.MASK 0 m.toNat)) ∧
    (k.on Kv.PCI_STAT.DLUP = true → bit (k.rd Kv.PCI_PBAm.PEND (m.toNat / 32)) (m.toNat % 32) = true →
      let y := k.wr Kv.PCI_MSIX_VC.MASK 0 m.toNat
      let p := m.toNat / 32
      goes (.msixVectorUnmask c m) ((y.wr Kv.PCI_PBAm.PEND (setBit (k.rd Kv.PCI_PBAm.PEND p) (m.toNat % 32) false) p).send
        ⟨.msix, m.toNat, [k.rd Kv.PCI_MSIX_ALO.A m.toNat, k.rd Kv.PCI_MSIX_AHI.A m.toNat, k.rd Kv.PCI_MSIX_DATA.D m.toNat]⟩)) ∧
    (k.xaddr < k.dramSize → k.bad k.xaddr = false →
      goes (.sysXdAccess c none) (((k.wr Kv.SYS_XD.D (k.rdLe k.xaddr 4)).xnext).send ⟨.pcie, 0, [0, k.rdLe k.xaddr 4]⟩) ∧
      goes (.sysXdAccess c (some v)) (((k.wr Kv.SYS_XD.D v.toNat).forcedStore k.xaddr v.toNat 4).xnext)) ∧
    (let y := k.writeReg Kv.IMG_CFG.EN.base v.toNat
     goes (.imgCfgWrite c v) (if y.imgTooFast = true then k.raise Src.REGACC 18 Kv.IMG_CFG.EN.base else y)) ∧
    (let d := (mt.toNat + 65536 - k.tick % 65536) % 65536
     2 ≤ d → d ≤ 32767 → k.hst.mail.length < 8 →
      ∃ y : Kv, goes (.mailboxSend c mt een task) y ∧ y.rd Kv.IMG_MBC.QN = k.hst.mail.length + 1 ∧
        y.hst.mail = k.hst.mail ++ [(⟨tickFrom k.tick mt.toNat, (List.range 16).map (fun i => k.rd Kv.IMG_MBHk.D i), een, task.toNat⟩ : Mail)]) ∧
    (∀ (x : Mail) (rest : List Mail), k.hst.mail = x :: rest → tickAhead k.tick x.mt = false →
      (∀ t, k.hst.lastMail = some t → 8 ≤ ticksTo t k.tick) →
      ∃ y : Kv, goes (.mailboxDelivery c) (if x.een = true ∧ k.duty = true then
          (y.castleSend 0x06 [k.tick, x.etask]).releaseTask (64 + x.etask) k.tick else y) ∧ y.hst.mail = rest ∧ y.hst.lastMail = some k.tick ∧
        y.rd Kv.IMG_MBC.QN = rest.length % 2 ^ Kv.IMG_MBC.QN.w ∧
        ∀ i : Nat, i < 16 → y.rd Kv.IMG_MBRk.D i = (x.words.getD i 0) % 2 ^ 32) ∧
    (let d := (tt.toNat + 65536 - k.tick % 65536) % 65536
     let slot := tallyAt no.toNat
     k.lead + 1 ≤ d → d ≤ 6 → k.rd Kv.IMG_TSTAT.STATE ≠ 1 → k.rd Kv.IMG_TSTAT.STATE ≠ 2 →
      ∃ y : Kv, goes (.tallyRequest c no tt) y ∧ y.rd Kv.IMG_TSTAT.STATE = 1 ∧
        y.col.tallyOf = some (no.toNat, tickFrom k.tick tt.toNat) ∧ y.col.tally = [] ∧
        ∀ z : Nat, slot ≤ z → z < slot + 0x400000 → y.rdByte z = 0) ∧
    (∀ (t : Nat), k.col.tallyOf = some (no.toNat, t) → k.rd Kv.IMG_TSTAT.STATE = 2 → k.closedFor ((t + 32) % 2 ^ 48) = true →
      ∃ y : Kv, goes (.tallyClose c) (if y.on Kv.IMG_TSTAT.INC = true then y.raise Src.TALLY 0 no.toNat else y) ∧ y.rd Kv.IMG_TSTAT.STATE = 3 ∧ y.rd Kv.IMG_TSTAT.LAST = no.toNat ∧
        y.col.tallyOf = none)

/-- Ethernet frames, descriptors, timed launches and link changes; PTP Sync, messages and a vanished master -/
def Obligations.Ethernet_and_network_time_commands : Prop :=
  ∀ (s : State) (c : Chip) (n : BitVec 1) (frame : List Byte) (fcs up two : Bool) (ofs : Word), s.live c →
    let k := s.kvAt c
    let u := n.toNat
    let goes := fun (j : Instr) (y : Kv) => exec j s = .next (s.setChip c y)
    let b := fun (i : Nat) => ((frame[i]?).getD 0).toNat
    let type := b 12 * 256 + b 13
    let dst := ofBe ((List.range 6).map b)
    let mine := dst = k.ethMac u ∨ dst = 2 ^ 48 - 1 ∨ (bit (b 0) 0 = true ∧ k.on Kv.ETHn_CFG.MCAST u = true)
    let rx := k.ethRxd u
    let readable := fun (d : Nat) => d + 15 < k.dramSize ∧ k.badWords d 16 = []
    let serves := k.on Kv.ETHn_CFG.EN u = true ∧ k.on Kv.ETHn_CFG.LINK u = true
    let owned := bit (k.rdLe (k.ethTxd u + 4) 4) 31
    let timed := bit (k.rdLe (k.ethTxd u + 4) 4) 30
    let passed := if -(k.rd Kv.ETHn_CFG.LMAX u : Int) ≤ k.ethAhead u then k.ethSend u (k.txStamp u) else (k.ethTxDone u 0).ethLate u
    (k.on Kv.ETHn_CFG.EN u = true →
      (type = 0x88F7 → goes (.ethFrameReceived c n frame fcs) k) ∧
      (type ≠ 0x88F7 → (frame.length < 64 ∨ 1522 < frame.length ∨ fcs = false ∨ ¬ mine) → goes (.ethFrameReceived c n frame fcs) (k.ethDrop u)) ∧
      (type ≠ 0x88F7 → 64 ≤ frame.length → frame.length ≤ 1522 → fcs = true → mine →
        (k.dramSize ≤ rx + 15 →
          goes (.ethFrameReceived c n frame fcs) ((k.raise Src.REGACC 18 (Kv.ETHn_RXB.BASE.addr u 0)).ethDrop u)) ∧
        (readable rx → bit (k.rdLe (rx + 4) 4) 31 = false → goes (.ethFrameReceived c n frame fcs) (k.ethDrop u)) ∧
        (readable rx → bit (k.rdLe (rx + 4) 4) 31 = true → 8 * k.rdLe rx 4 + 1522 < k.dramSize →
          let p := k.storeBytes (8 * k.rdLe rx 4) frame
          let y := (p.storeLe (rx + 12) ((16 * p.nowNs + 2 ^ 36 - p.rd Kv.ETHn_LAT.RXL u) / 16 % 2 ^ 32) 4).storeLe (rx + 4) frame.length 4
          let h := y.rd Kv.ETHn_HEAD.RXH u + 1
          goes (.ethFrameReceived c n frame fcs) (y.wr Kv.ETHn_HEAD.RXH (if y.rd Kv.ETHn_RSZ.RXN u ≤ h then 0 else h) u)))) ∧
    ((¬ serves ∨ (readable (k.ethTxd u) ∧ owned = false)) → goes (.ethTxDescriptor c n) k ∧ goes (.ethTimedLaunch c n) k) ∧
    (serves → readable (k.ethTxd u) → owned = true →
      (timed = false → goes (.ethTxDescriptor c n) (k.ethSend u (k.txStamp u))) ∧
      (timed = true → 0 < k.ethAhead u → goes (.ethTxDescriptor c n) k ∧
        ∃ stamp : Nat, goes (.ethTimedLaunch c n) (Kv.ethSend { k with free := k.free + 1 } u stamp) ∧
          ∃ err : Int, -4 ≤ err ∧ err ≤ 4 ∧ stamp = toBits 32 ((k.rdLe (k.ethTxd u + 8) 4 : Int) + err)) ∧
      (timed = true → k.ethAhead u ≤ 0 → goes (.ethTxDescriptor c n) passed ∧ goes (.ethTimedLaunch c n) passed)) ∧
    (goes (.ethLinkChange c n up) (if k.on Kv.ETHn_CFG.LINK u = up then k else
      (k.wr Kv.ETHn_CFG.LINK (if up then 1 else 0) u).raise Src.ETH_LINK 0 u)) ∧
    (k.on Kv.ETH_PTP.EN = true →
      (k.on Kv.ETH_PTP.MCAP = true → k.rd Kv.ETH_PTPST.PSTATE = 3 → k.on Kv.ETH_PTPST.STALE = false →
        let p := k.rd Kv.ETH_PTP.PORT
        goes (.ptpSyncSend c) (k.send ⟨.ptp, p, 0 :: k.rd Kv.ETH_PTP.DOM :: k.ptpSecNs (k.txStamp p)⟩)) ∧
      (k.rd Kv.ETH_PTP.PORT = u →
        let dom := BitVec.ofNat 8 (k.rd Kv.ETH_PTP.DOM)
        (∃ turn : Nat, goes (.ptpMessageReceived c n dom .pdelayReq)
          (Kv.send { k with free := k.free + 1 } ⟨.ptp, u, [3, k.rd Kv.ETH_PTP.DOM, turn]⟩)) ∧
        goes (.ptpMessageReceived c n dom .management) k ∧ goes (.ptpMessageReceived c n dom .pdelayResp) k ∧
        (k.rd Kv.ETH_PTPST.PSTATE = 2 → k.on Kv.ETH_PTPST.FREE = false →
          let y := (k.wr Kv.ETH_PTPOFS.OFS ofs.toNat).wr Kv.ETH_PTPST.BIG (if 1000000 < ofs.toInt.natAbs then 1 else 0)
          let z := if y.servoRuns = true ∧ ofs.toInt.natAbs ≤ 1000000 then y.ptpSteer else y
          goes (.ptpMessageReceived c n dom (.followUp ofs)) z ∧
          goes (.ptpMessageReceived c n dom (.sync two ofs)) (if two then k else z))) ∧
      (k.rd Kv.ETH_PTPST.PSTATE = 2 →
        goes (.announceTimeout c) ((k.wr Kv.ETH_PTPST.PSTATE (if k.on Kv.ETH_PTP.MCAP then 3 else 1)).ptpFree 16)))

/-- KF-120 samples, self-off, CMD, REG, discarded messages, silence, supply, clock and temperature; the chip's end of
the supervisor link -/
def Obligations.Companion_inputs_outputs_trips_and_supervisor_link : Prop :=
  ∀ (s : State) (c : Chip) (vs cs : List (BitVec 16)) (v out : BitVec 16) (i : Fin 20) (ref resume safe trip tclr : Bool)
    (op num tag vsup die status : BitVec 8) (data : Word),
    let f := s.kfAt
    let k := s.kvAt c
    let b := c.isB
    let kf := fun (j : Instr) (y : Kf) => exec j s = .next (s.setKf y)
    let goes := fun (j : Instr) (y : Kv) => exec j s = .next (s.setChip c y)
    let fs := Kf.fieldsAt num.toNat
    let sampled := (List.range 32).foldl (fun y q => y.sampleInput q ((vs.map BitVec.toNat).getD q 0) ((cs.map BitVec.toNat).getD q 0)) f
    (f.inReset = false →
      kf (.fieldInputSample vs cs) (sampled.tripEval false) ∧
      (∀ q x cur : Nat, q < 32 → 110 ≤ x → bit (f.rd Kf.FIN_WBEN.WBEN) q = false → bit (f.rd Kf.FIN_WBA.WBA) q = false →
        let lim := bits (f.rd Kf.FIN_FLTm.LIM (q / 4)) (8 * (q % 4)) 8
        let y := f.sampleInput q x cur
        bit (y.rd Kf.FIN_RAW.RAW) q = true ∧ Tab.get 0 q y.cnt = min lim (Tab.get 0 q f.cnt + 1) ∧
        (lim ≤ Tab.get 0 q f.cnt + 1 → bit (y.rd Kf.FIN_VAL.VAL) q = true)) ∧
      (v.toNat < 90 → f.rd Kf.TRP_CFG.STLIM ≠ 0 → f.stCnt ≤ 1 → f.on Kf.TRP_STAT.STIN = true →
        kf (.stinSample v) ((((({ f with stRaw := false, stCnt := 0 } : Kf).wr Kf.TRP_STAT.STIN 0).raise 2)).tripEval false)) ∧
      kf .tripSourceActive (f.tripEval false) ∧
      (∀ q : Nat, q < 4 → i.val = 16 + q → bit f.off i.val = false → bit (f.rd Kf.TRP_STAT.LVL) q = true →
        let y : Kf := { f with off := setBit f.off (16 + q) true }
        kf (.outputSelfOff i) (((y.wr Kf.TRP_STAT.TFLT (setBit (f.rd Kf.TRP_STAT.TFLT) q true)).raise 13).tripEval false)) ∧
      (i.val < 16 → bit f.off i.val = false → bit (f.rd Kf.FOUT_LVL.LVL) i.val = true → f.on Kf.FOUT_STAT.FAULT = false →
        let y := Kf.count { f with off := setBit f.off i.val true } Kf.FOUT_STAT.FCNT Kf.FOUT_STAT.SAT 0
        kf (.outputSelfOff i) ((y.wr Kf.FOUT_STAT.FAULT 1).raise 0)) ∧
      kf (.outputRestart i) (({ f with off := setBit f.off i.val false } : Kf).tripEval false) ∧
      (f.isHolder b = false → kf (.kfCmdReceived c out ref resume safe trip tclr) f) ∧
      (f.isHolder b = true → ∃ y : Kf, kf (.kfCmdReceived c out ref resume safe trip tclr) y ∧
        y.cmdOut = out.toNat ∧ y.timer = (f.timer || ref) ∧
        (resume = true → ref = true → y.live = true ∧ y.rd Kf.FOUT_LVL.LVL = out.toNat) ∧
        (resume = false → safe = true → y.live = false) ∧
        (trip = true → tclr = false → ∀ q : Nat, q < 4 → bit (f.rd Kf.TRP_SRCk.SRC q) 0 = true → bit (f.rd Kf.TRP_SRCk.SRC q) 1 = true →
          bit (y.rd Kf.TRP_STAT.LAT) q = true)) ∧
      (fs = [] → kf (.kfRegReceived c op num data tag) (f.rdata b 3 num.toNat 0 tag.toNat)) ∧
      (fs ≠ [] → op = 1 → kf (.kfRegReceived c op num data tag) (f.rdata b 0 num.toNat (f.readReg num.toNat) tag.toNat)) ∧
      (fs ≠ [] → op = 2 → f.isHolder b = false → kf (.kfRegReceived c op num data tag) (f.rdata b 1 num.toNat 0 tag.toNat)) ∧
      (op = 2 → f.isHolder b = true → f.live = true → (∃ p ∈ fs, p.1.acc = .rwl ∧ f.rd p.1 p.2 ≠ bits data.toNat p.1.lo p.1.w) →
        kf (.kfRegReceived c op num data tag) ((f.raise 14).rdata b 2 num.toNat 0 tag.toNat)) ∧
      (fs ≠ [] → op = 2 → f.isHolder b = true →
        (f.live = false ∨ ∀ p ∈ fs, p.1.acc = .rwl → f.rd p.1 p.2 = bits data.toNat p.1.lo p.1.w) →
        (∀ p ∈ fs, p.1.acc = .rwl ∨ p.1.acc = .rw → p.1.ok (bits data.toNat p.1.lo p.1.w) = true) →
        kf (.kfRegReceived c op num data tag)
          (((fs.foldl (fun y p => y.writeField p data.toNat) f).settle).rdata b 0 num.toNat data.toNat tag.toNat)) ∧
      (let e := if b then Kf.SVL_ERR.EB else Kf.SVL_ERR.EA
       f.rd e + 1 < e.max → kf (.svlMessageDiscard (.companion c)) ((f.wr e (f.rd e + 1)).raise 9)) ∧
      (f.timer = true → kf .silenceTimerExpiry (({ (f.raise 5).enterSafe with sil := true, timer := false } : Kf).settle)) ∧
      kf .kfRefclkFail (({ f.raise 12 with osc := true } : Kf).tripEval false) ∧
      (f.supply = false → 80 ≤ vsup.toNat → vsup.toNat < 96 →
        kf (.kfSupplyWarning vsup) (({ (f.wr Kf.SVL_SUP.VSUP vsup.toNat).raise 10 with supply := true } : Kf).tripEval false)) ∧
      (f.temp = false → 180 < die.toNat →
        kf (.kfDieOverTemperature die) (({ (f.wr Kf.SVL_SUP.DIE die.toNat).raise 11 with temp := true } : Kf).tripEval false))) ∧
    kf .kfSupplyReset { inReset := true } ∧
    (f.inReset = false → vsup.toNat < 80 → kf (.kfSupplyWarning vsup) { inReset := true }) ∧
    (f.inReset = true → 85 < vsup.toNat →
      let y : Kf := ({ f with inReset := false } : Kf).wr Kf.SVL_SUP.VSUP vsup.toNat
      (96 ≤ vsup.toNat → vsup.toNat ≤ 150 → f.supply = false → kf (.kfResetRelease vsup) ((y.tripEval false).settle)) ∧
      (vsup.toNat < 96 → f.supply = false → kf (.kfResetRelease vsup) ((({ y.raise 10 with supply := true } : Kf).tripEval false).settle))) ∧
    (s.live c →
      goes (.svlMessageDiscard (.chip c)) (k.count Kv.SVL_STAT.ERR Kv.SVL_STAT.SAT Src.SVL_LINK) ∧
      (k.on Kv.SVL_REQ.BUSY = false → ∃ y z : Kv, goes (.svlReqRead c num) y ∧ goes (.svlReqWrite c num) z ∧
        y.on Kv.SVL_REQ.BUSY = true ∧ z.on Kv.SVL_REQ.BUSY = true ∧ y.rd Kv.SVL_REQ.NUM = num.toNat ∧ y.hst.regRead = true ∧
        z.hst.regRead = false ∧
        (∃ t : Nat, y.out = [⟨.svlReg, 0, svlMessage 3 ([1, num.toNat] ++ beBytes 4 0 ++ [t % 256, 0])⟩]) ∧
        (∃ t : Nat, z.out = [⟨.svlReg, 0, svlMessage 3 ([2, num.toNat] ++ beBytes 4 (k.rd Kv.SVL_WD.D) ++ [t % 256, 0])⟩])) ∧
      (k.on Kv.SVL_REQ.BUSY = true → goes (.svlReqRead c num) ((k.wr Kv.SVL_REQ.NUM num.toNat).raise Src.REGACC 18 Kv.SVL_REQ.OP.base) ∧
        ∃ y : Kv, goes (.svlRdataReceived c status data) y ∧ y.on Kv.SVL_REQ.BUSY = false ∧
          y.rd Kv.SVL_REQ.RSTAT = status.toNat % 2 ^ Kv.SVL_REQ.RSTAT.w ∧
          (k.hst.regRead = true → status = 0 → y.rd Kv.SVL_RD.D = data.toNat)) ∧
      goes (.svlCtrlSafe c) { k with svlSafe := true } ∧ goes (.svlCtrlTclr c) { k with svlTclr := true } ∧
      (k.on Kv.SYS_STAT.HELD = false → goes (.svlCtrlResume c) { k with svlResume := true }) ∧
      (k.on Kv.SYS_STAT.HELD = true → goes (.svlCtrlResume c) (k.raise Src.REGACC 17 Kv.SVL_CTRL.RESUME.base)) ∧
      (k.on Kv.SVL_STAT.UP = true → tickIs k.svlLast k.tick = false → tickIs k.svlLast (tickPrev k.tick) = false → goes (.svlLinkLoss c) ((k.wr Kv.SVL_STAT.UP 0).raise Src.SVL_LINK 0 0)))

/-- Every step keeps the KF-120's trip chain judged: an active enabled source is latched, and each trip output follows
its latch and sense -/
def Obligations.Trips_stay_latched : Prop :=
  ∀ s t : State, s.kf.tripsHeld → step s = .next t → t.kf.tripsHeld

/-- PROG, REVOKE, SEAL, RETIRE, SVUP; challenge, VERIFY, session, close, timeouts; halt, resume and step of cores; the
cell's boot bank -/
def Obligations.Key_store_and_debug_sessions : Prop :=
  ∀ (s : State) (c : Chip) (a : BitVec 13) (p : Part) (slot : BitVec 3) (code mask : BitVec 16) (probe svc sig : Bool) (level : BitVec 2)
    (dslot : BitVec 1) (hash : BitVec 384) (w : Word) (i : ImgChk), s.live c →
    let k := s.kvAt c
    let x := s.kcAt a
    let path := if probe then 2 else 1
    let kv := fun (j : Instr) (y : Kv) => exec j s = .next (s.setChip c y)
    let kc := fun (j : Instr) (y : Cell) => exec j s = .next (s.setCell a y)
    let good : BitVec 16 := 0x5E4C
    let refused := k.raise Src.REGACC 20 Kv.SEC_CTRL.CODE.base
    let mine := (k.sec.holder = 0 ∨ k.sec.holder = path) ∧ (k.sec.verify = none ∨ k.sec.verPath = path)
    let mineX := (x.sec.holder = 0 ∨ x.sec.holder = path) ∧ (x.sec.verify = none ∨ x.sec.verPath = path)
    let ended := fun (z : SecSt) => z.holder = 0 ∧ z.verify = none ∧ z.nonce = false
    (slot.toNat < 6 →
      let t := k.sec.progKey k.secState slot.toNat (hashOf ((List.range 12).map (fun q => k.rd Kv.SEC_KDATAk.H q)))
      let r := k.sec.revoke k.secState [0, 1, 2, 3] slot.toNat
      (k.secState = 0 → k.sec.prog.testBit slot.toNat = false → k.sec.fault = false →
        ∃ y : SecSt, t = some y ∧ y.prog.testBit slot.toNat = true ∧ kv (.keyProg (.chip c) slot good) { k with sec := y }) ∧
      ((code ≠ good ∨ t = none ∨ k.sec.fault = true) → kv (.keyProg (.chip c) slot code) refused) ∧
      (∀ y, r = some y → k.sec.fault = false → kv (.keyRevoke (.chip c) slot good) { k with sec := y }) ∧
      (r = none → kv (.keyRevoke (.chip c) slot code) refused)) ∧
    (k.secState = 0 → k.sec.anyImage [0, 1, 2, 3] = true → k.sec.fault = false →
      kv (.sealPart (.chip c) good) { k with sec := { k.sec with sealNext := true } }) ∧
    (k.secState ≠ 0 → kv (.sealPart (.chip c) code) refused) ∧
    ((k.secState = 0 ∨ k.secState = 2) → k.parked = true → k.sec.svn ≤ k.sec.imgSvn → k.sec.fault = false →
      kv (.svup (.chip c) good) { k with sec := { k.sec with svn := k.sec.imgSvn } }) ∧
    (k.parked = false → kv (.svup (.chip c) code) refused ∧ kv (.retire (.chip c) code) refused) ∧
    (k.parked = true → k.mode = 0 → k.duty = false → k.sec.fault = false → (k.secState = 0 ∨ k.secState = 2) →
      kv (.retire (.chip c) good) (Kv.chipReset 3 { k with sec := k.sec.retire (List.range 6) })) ∧
    (x.runs = true → x.secState = 0 → x.sec.fault = false →
      (slot = 0 ∨ slot = 1 ∨ slot = 4 → ∀ y, x.sec.progKey 0 slot.toNat x.keyData = some y → kc (.keyProg (.cell a) slot good) { x with sec := y }) ∧
      (slot = 0 ∨ slot = 1 ∨ slot = 4 → ∀ y, x.sec.revoke 0 [0, 1] slot.toNat = some y → kc (.keyRevoke (.cell a) slot good) { x with sec := y }) ∧
      (x.sec.anyImage [0, 1] = true → kc (.sealPart (.cell a) good) { x with sec := { x.sec with sealNext := true } }) ∧
      (x.hmode = 0 → x.sec.svn ≤ x.sec.imgSvn →
        kc (.svup (.cell a) good) (({ x with sec := { x.sec with svn := x.sec.imgSvn } } : Cell).wr Kc.CC_SEC.SVN x.sec.imgSvn)) ∧
      (x.hmode = 0 → kc (.retire (.cell a) good)
        ((({ x with sec := x.sec.retire [0, 1, 4] } : Cell).mark Kc.GRD_STAT.LOCK).mainReset 2))) ∧
    (¬ mine → kv (.debugChal (.chip c) probe) (k.wr Kv.DBG_STAT.RES 6) ∧ kv (.debugClose (.chip c) probe) (k.wr Kv.DBG_STAT.RES 6) ∧
      kv (.coreHalt c probe mask) ((k.wr Kv.DBG_CORE.CMASK mask.toNat).wr Kv.DBG_STAT.RES 6)) ∧
    (mine → ∃ y : Kv, kv (.debugChal (.chip c) probe) y ∧ y.sec.nonce = true ∧ y.sec.holder = path ∧ y.free = k.free + 12 ∧
      ∀ q : Nat, q < 12 → y.rd Kv.DBG_CHALk.N q = (Config.nonceWord (k.free + q)).toNat) ∧
    (mine → k.sec.verify = none → (level = 1 ∨ level = 2) →
      let y := ((k.wr Kv.DBG_REQ.LEVEL level.toNat).wr Kv.DBG_REQ.SVC (if svc then 1 else 0)).wr Kv.DBG_REQ.DSLOT dslot.toNat
      (k.sec.lockout = true → kv (.debugVerify (.chip c) probe level svc dslot) (y.wr Kv.DBG_STAT.RES 5)) ∧
      (k.sec.lockout = false → kv (.debugVerify (.chip c) probe level svc dslot)
        { y with sec := { k.sec with verPath := path, verify := some (level.toNat, svc, dslot.toNat) } })) ∧
    (∀ (l : Nat) (v : Bool) (d : Nat), k.sec.verify = some (l, v, d) → l < 4 →
      let r := k.sec.judge k.secState (4 + d) hash sig
      let st := judgedState k.secState v
      (r ≠ 0 → ∃ y : Kv, kv (.debugVerifyDone (.chip c) hash sig) (Kv.raise (y.count Kv.SEC_STAT.AFAIL Kv.SEC_STAT.SAT Src.SEC_AUTH) Src.SEC_AUTH 0 0) ∧
        y.rd Kv.DBG_STAT.RES = r ∧ y.sec.verify = none ∧ y.sec.nonce = false ∧ y.sec.fails = k.sec.fails + 1 ∧
        (8 ≤ k.sec.fails + 1 → y.sec.lockout = true)) ∧
      (r = 0 → k.dbgPermits st l = false → ∃ y : Kv, kv (.debugVerifyDone (.chip c) hash sig) y ∧ y.rd Kv.DBG_STAT.RES = 4 ∧
        y.sec.fails = 0 ∧ y.rd Kv.DBG_STAT.LEVEL = k.rd Kv.DBG_STAT.LEVEL) ∧
      (r = 0 → k.dbgPermits st l = true → ∃ y : Kv, kv (.debugVerifyDone (.chip c) hash sig) (y.raise Src.DBG_SESS 0 0) ∧
        y.rd Kv.DBG_STAT.RES = 0 ∧ y.rd Kv.DBG_STAT.LEVEL = l ∧ y.secState = st % 4 ∧ y.sec.fails = 0 ∧ y.sec.holder = k.sec.verPath)) ∧
    (mine → k.rd Kv.DBG_STAT.LEVEL ≠ 0 → k.secState ≤ 3 → k.dsp.killWait = false →
      ∃ y : Kv, kv (.debugClose (.chip c) probe) y ∧ kv (.sessionIdleTimeout (.chip c)) y ∧
        (k.rd Kv.DBG_STAT.PATH = 2 → kv (.probeDisconnect (.chip c)) y) ∧
        y.rd Kv.DBG_STAT.LEVEL = 0 ∧ y.rd Kv.DBG_STAT.HALTED = 0 ∧ ended y.sec ∧ y.secState = if k.secState = 2 then 1 else k.secState) ∧
    kv (.authLockoutEnd (.chip c)) { k with sec := { k.sec with lockout := false, fails := 0 } } ∧
    kc (.authLockoutEnd (.cell a)) { x with sec := { x.sec with lockout := false, fails := 0 } } ∧
    (k.rd Kv.DBG_STAT.LEVEL = 0 → kv (.debugNonceExpiry (.chip c)) { k with sec := { k.sec with nonce := false, holder := 0 } }) ∧
    (x.rd Kc.CC_DSTAT.LEVEL ≠ 0 → kc (.debugNonceExpiry (.cell a)) { x with sec := { x.sec with nonce := false } }) ∧
    (mine → k.rd Kv.DBG_STAT.LEVEL = 2 →
      let y := k.wr Kv.DBG_CORE.CMASK mask.toNat
      kv (.coreHalt c probe mask) (((List.range 16).filter (fun n => bit mask.toNat n && !y.coreHalted n)).foldl Kv.haltCore y) ∧
      (k.dsp.killWait = false → kv (.coreResume c probe mask) (y.wr Kv.DBG_STAT.HALTED
        ((List.range 16).foldl (fun v n => if bit mask.toNat n then setBit v n false else v) (k.rd Kv.DBG_STAT.HALTED)))) ∧
      kv (.coreStep c probe mask) (y.stepCores mask.toNat).runSteps) ∧
    (mine → k.rd Kv.DBG_STAT.LEVEL ≠ 2 →
      let y := (k.wr Kv.DBG_CORE.CMASK mask.toNat).raise Src.REGACC 20 Kv.DBG_CORE.CMD.base
      kv (.coreHalt c probe mask) y ∧ kv (.coreResume c probe mask) y ∧ kv (.coreStep c probe mask) y.runSteps) ∧
    (x.runs = true → ¬ mineX →
      let y := (x.wr Kc.CC_DSTAT.RES 6).event Ev.SEC
      kc (.debugChal (.cell a) probe) y ∧ kc (.debugClose (.cell a) probe) y ∧ kc (.cellHalt a probe) y) ∧
    (x.runs = true → mineX →
      (∃ y : Cell, kc (.debugChal (.cell a) probe) y ∧ y.sec.nonce = true ∧ y.sec.holder = path) ∧
      (x.rd Kc.CC_DSTAT.LEVEL = 2 →
        (x.secState = 1 ∨ x.secState = 2 → kc (.cellHalt a probe) { x with haltReq := true, haltPark := true }) ∧
        kc (.cellResume a probe) x.resume ∧
        kc (.cellStep a probe) (Cell.runStep { x with stepOk := x.on Kc.CC_DSTAT.HALTED })) ∧
      (x.rd Kc.CC_DSTAT.LEVEL ≠ 2 → x.stepOk = false → kc (.cellHalt a probe) (x.event Ev.SEC) ∧ kc (.cellResume a probe) (x.event Ev.SEC))) ∧
    (x.runs = true → x.secState ≠ 3 →
      kc (.ccBootChk a i)
        (if x.sec.imagePasses x.secState [0, 1] i = true then x.wr Kc.CC_BOOT.CRES 2 else (x.wr Kc.CC_BOOT.CRES 3).event Ev.SEC) ∧
      ((w.toNat % 2 = x.rd Kc.CC_BOOT.RUN ∨ x.rd Kc.CC_BOOT.CRES = 2) → w.toNat % 2 ≠ x.rd Kc.CC_BOOT.SEL →
        kc (.ccBootSelWrite a w) (x.wr Kc.CC_BOOT.SEL (w.toNat % 2))) ∧
      (w.toNat % 2 ≠ x.rd Kc.CC_BOOT.RUN → x.rd Kc.CC_BOOT.CRES ≠ 2 → kc (.ccBootSelWrite a w) x))

/-- Chip and SerDes resets, the start-up phases and their checks, HELD, SYS_BOOT, port probing and the power states -/
def Obligations.Resets_start_up_phases_and_power_states : Prop :=
  ∀ (s : State) (c : Chip) (code : BitVec 16) (n : BitVec 5) (late slot mem bench kflt : Bool) (a : BitVec 13) (ident : Option Word)
    (im jm : Image),
    let k := s.kvAt c
    let u := n.toNat
    let goes := fun (j : Instr) (y : Kv) => exec j s = .next (s.setChip c y)
    (∃ y : Kv, goes (.powerOnReset c) y ∧ y.boot.inReset = true ∧ y.tim.tick = 0 ∧ y.tim.ns = 0 ∧ y.tim.inc = 10 * 2 ^ 32 ∧ y.mem = [] ∧
      y.rd Kv.SYS_RST.CAUSE = 0 ∧ y.on Kv.FLT_FF0.VALID = false ∧ y.on Kv.TIM_STAT.ALIGNED = false ∧ y.roleB = k.roleB ∧
      y.sec.keys = k.sec.keys ∧ y.sec.prog = k.sec.prog ∧ y.sec.rev = k.sec.rev ∧ y.sec.svn = k.sec.svn) ∧
    (k.boot.inReset = true →
      let fuses := { k.sec with fault := kflt }
      let y : Kv := { k with boot := {}, sec := fuses, tim := k.tim.reload }
      let y := (y.wr Kv.SEC_STAT.BENCH (if bench then 1 else 0)).wr Kv.SEC_STAT.STATE
        (if k.sec.retired then 3 else if k.sec.sealed || kflt then 1 else 0)
      let y := if k.boot.powerOn then y else y.raise Src.SYS_RST 0 0
      goes (.resetRelease c bench kflt) (if kflt then (y.mark Kv.SEC_STAT.KFLT).raise Src.SEC_KEY 0 0 else y)) ∧
    (s.live c →
    let phase := k.rd Kv.SYS_STAT.PHASE
    let reset := fun (j : Instr) (cause : Nat) => ∃ y : Kv, goes j y ∧ y.boot.inReset = true ∧ y.rd Kv.SYS_RST.CAUSE = cause ∧
      y.tim.tick = k.tim.tick ∧ y.mem = [] ∧ y.rd Kv.FLT_FF0.VALID = k.rd Kv.FLT_FF0.VALID ∧ y.roleB = k.roleB ∧
      y.on Kv.TIM_STAT.ALIGNED = false ∧ y.on Kv.CL_STAT.UP = false
    let end_ := .phaseComplete c mem im jm
    let refused := k.raise Src.REGACC 17 Kv.SYS_PWR.REQ.base
    reset (.resetnAssert c) 1 ∧ reset (.chipReset c 0x7E57) 2 ∧ reset (.overTemperatureReset c) 4 ∧
    (code ≠ 0x7E57 → goes (.chipReset c code) k ∧ goes (.serdesWestReset c code) k ∧ goes (.serdesEastReset c code) k) ∧
    (k.parked = true → k.on Kv.CL_STAT.UP = false →
      goes (.serdesWestReset c 0x7E57) (k.serdesReset (List.range 16) [0, 1, 2, 3]) ∧
      goes (.serdesEastReset c 0x7E57) (k.serdesReset ((List.range 16).map (· + 16)) [4, 5, 6, 7])) ∧
    (k.parked = false → goes (.serdesWestReset c 0x7E57) (k.raise Src.REGACC 17 Kv.SYS_RST.SDE.base) ∧
      goes (.serdesEastReset c 0x7E57) (k.raise Src.REGACC 17 Kv.SYS_RST.SDE.base)) ∧
    goes (.dieTemperatureWarning c) (k.raise Src.SYS_TEMP 0 0) ∧
    (k.boot.run = true → k.rd Kv.SYS_PWR.STATE = 1 →
      (phase = 0 → goes end_ (if k.sec.fault = true then k.bootFail 0 [6] none else k.bootPass 0)) ∧
      (phase = 1 → (mem = false → goes end_ (k.bootFail 1 [5] none)) ∧
        (mem = true → k.on Kv.MEM_STAT.READY = true → goes end_ (k.bootPass 1))) ∧
      (phase = 2 → k.rd Kv.SYS_STAT.BOOTSRC ≠ 2 → goes end_ (k.bootQspi im jm)) ∧
      (phase = 2 → k.rd Kv.SYS_STAT.BOOTSRC = 2 → goes end_ (k.bootHost im)) ∧
      (phase = 3 → (∀ q ∈ k.strings, k.rd Kv.SPn_STAT.LSTATE q = 4 ∧ k.on Kv.SPn_CTRL.NRZ q = false) → goes end_ (k.bootPass 3)) ∧
      (phase = 4 → (∀ q ∈ k.strings, k.mapPasses q = true) → k.boot.disc = true → goes end_ (k.bootPass 4)) ∧
      (phase = 5 → goes end_ (if k.timingMeasured (fun q => (k.spP q).pMax) = true then k.bootPass 5 else k.bootFail 5 [2] none)) ∧
      (phase = 6 → let y := k.silentCells.foldl Kv.identityFails k
        goes end_ (if y.cellsPass = true then y.bootPass 6 else y.bootFail 6 [7] none)) ∧
      (phase = 4 → (∀ q ∈ k.strings, (k.spP q).found ≠ 0 ∧ 64 ≤ (k.spP q).foundRun) →
        goes (.discoveryStable c) { k with boot := { k.boot with disc := true } }) ∧
      (∀ img : Image, phase = 6 → k.dsp.img = some img →
        let y : Kv := { k with boot := { k.boot with idSeen := Tab.set 0 a.toNat 1 k.boot.idSeen } }
        let want := img.cellId (ctlClass (k.ctl0 a.toNat))
        (ident ≠ none → ident = want → goes (.cellIdentityCheck c a ident) y) ∧
        ((ident = none ∨ ident ≠ want) →
          goes (.cellIdentityCheck c a ident) (y.setCtl0 a.toNat (putBits (y.ctl0 a.toNat) 12 3 1))))) ∧
    (k.mapped u = true → 3 ≤ phase →
      (k.roleB = false → goes (.probeStartRoleA c n) (probeOffTimeEndKv u k) ∧ goes (.probeStartRoleB c n late) k) ∧
      (k.roleB = true → ((k.spP u).farSeen = true ∨ late = true) →
        goes (.probeStartRoleB c n late) (probeOffTimeEndKv u k) ∧ goes (.probeStartRoleA c n) k)) ∧
    ((k.on Kv.SYS_STAT.HELD = true ∨ (k.parked = true ∧ k.mode = 0 ∧ k.duty = false)) →
      (∃ y : Kv, goes (.sysBootLoad c slot) y ∧ y.rd Kv.SYS_STAT.PHASE = 2 ∧ y.rd Kv.SYS_STAT.BOOTSRC = 2 ∧ y.boot.run = true ∧
        y.rd Kv.SYS_BOOT.SLOT = if slot then 1 else 0) ∧
      (k.boot.run = false → k.boot.fail = 3 →
        ∃ y : Kv, goes (.sysBootRechk c) y ∧ y.rd Kv.SYS_STAT.PHASE = 2 ∧ y.boot.run = true)) ∧
    (k.on Kv.SYS_STAT.HELD = false → k.duty = true →
      goes (.sysBootLoad c slot) ((k.wr Kv.SYS_BOOT.SLOT (if slot then 1 else 0)).raise Src.REGACC 17 Kv.SYS_BOOT.CMD.base) ∧
      goes (.sysBootRechk c) (k.raise Src.REGACC 17 Kv.SYS_BOOT.CMD.base)) ∧
    (k.rd Kv.SYS_PWR.STATE = 0 → goes (.powerRequestParked c) (k.wr Kv.SYS_PWR.STATE 1) ∧ goes (.powerRequestRun c) k ∧
      goes (.powerRequestStandby c) refused) ∧
    (k.parked = true → k.mode = 0 → k.duty = false → k.rd Kv.DBG_STAT.LEVEL = 0 →
      goes (.powerRequestStandby c) ((k.darken).wr Kv.SYS_PWR.STATE 2)) ∧
    (k.rd Kv.SYS_PWR.STATE = 2 → ∃ y : Kv, goes (.powerRequestParked c) y ∧ y.rd Kv.SYS_PWR.STATE = 1 ∧ y.on Kv.TIM_STAT.ALIGNED = false ∧
      y.tim.alignRun = 0) ∧
    (k.parked = true →
      ((k.on Kv.SYS_STAT.HELD = true ∨ k.boot.run = true ∨ k.secState = 3) → goes (.powerRequestRun c) refused) ∧
      (k.on Kv.SYS_STAT.HELD = false → k.boot.run = false → k.secState ≠ 3 → (k.secState = 2 → k.rd Kv.DBG_STAT.HALTED = 0) →
        (∀ q : Nat, q < 32 → k.on Kv.SPn_CTRL.EN q = true → k.on Kv.SPn_CTRL.TEST q = false ∧ k.on Kv.SPn_CTRL.NRZ q = false) →
        (∀ q ∈ k.strings, k.portFails q = false) → k.timingSet = true → k.timingMeasured (fun q => k.rd Kv.SPn_PDLY.P q) = true →
        goes (.powerRequestRun c) (k.wr Kv.SYS_PWR.STATE 0))))
end

