-- ==== Sys2Proof/Laws/Tab.lean ====
section
/-! SUPPORT. Tables: reading after writing, and the canonical form that every write keeps. -/

namespace Sys2Proof.Machine

variable {α : Type}

theorem Tab.get_put_same (d : α) (k : Nat) (v : α) (t : Tab α) : Tab.get d k (Tab.put k v t) = v := by
  induction t with
  | nil => simp [Tab.put, Tab.get]
  | cons e rest ih =>
    obtain ⟨j, w⟩ := e
    simp only [Tab.put]
    split
    · simp [Tab.get]
    · split
      · simp [Tab.get]
      · rename_i h
        simp [Tab.get, h, ih]

theorem Tab.get_put_ne (d : α) {i k : Nat} (v : α) (t : Tab α) (h : i ≠ k) : Tab.get d i (Tab.put k v t) = Tab.get d i t := by
  induction t with
  | nil => simp [Tab.put, Tab.get, h]
  | cons e rest ih =>
    obtain ⟨j, w⟩ := e
    simp only [Tab.put]
    split
    · simp [Tab.get, h]
    · split
      · rename_i hk
        subst hk
        simp [Tab.get, h]
      · simp [Tab.get, ih]

theorem Tab.get_del_same (d : α) (k : Nat) (t : Tab α) : Tab.get d k (Tab.del k t) = d := by
  induction t with
  | nil => rfl
  | cons e rest ih =>
    obtain ⟨j, w⟩ := e
    simp only [Tab.del]
    split
    · exact ih
    · rename_i h
      simp [Tab.get, h, ih]

theorem Tab.get_del_ne (d : α) {i k : Nat} (t : Tab α) (h : i ≠ k) : Tab.get d i (Tab.del k t) = Tab.get d i t := by
  induction t with
  | nil => rfl
  | cons e rest ih =>
    obtain ⟨j, w⟩ := e
    simp only [Tab.del]
    split
    · rename_i hk
      subst hk
      simp [Tab.get, h, ih]
    · simp [Tab.get, ih]

variable [DecidableEq α]

/-- A read after a write to the same key gives the value written. -/
@[simp] theorem Tab.get_set_same (d : α) (k : Nat) (v : α) (t : Tab α) : Tab.get d k (Tab.set d k v t) = v := by
  unfold Tab.set
  split
  · rename_i h
    rw [h, Tab.get_del_same]
  · exact Tab.get_put_same d k v t

/-- A write leaves every other key alone. -/
theorem Tab.get_set_ne (d : α) {i k : Nat} (v : α) (t : Tab α) (h : i ≠ k) : Tab.get d i (Tab.set d k v t) = Tab.get d i t := by
  unfold Tab.set
  split
  · exact Tab.get_del_ne d t h
  · exact Tab.get_put_ne d v t h

@[simp] theorem Tab.get_upd_same (d : α) (k : Nat) (f : α → α) (t : Tab α) : Tab.get d k (Tab.upd d k f t) = f (Tab.get d k t) :=
  Tab.get_set_same d k _ t

theorem Tab.get_upd_ne (d : α) {i k : Nat} (f : α → α) (t : Tab α) (h : i ≠ k) : Tab.get d i (Tab.upd d k f t) = Tab.get d i t :=
  Tab.get_set_ne d _ t h

theorem Tab.wfFrom_mono (d : α) {lo lo' : Nat} (h : lo' ≤ lo) (t : Tab α) (w : Tab.wfFrom d lo t = true) : Tab.wfFrom d lo' t = true := by
  cases t with
  | nil => rfl
  | cons e rest =>
    obtain ⟨j, v⟩ := e
    simp only [Tab.wfFrom, Bool.and_eq_true, decide_eq_true_eq] at w ⊢
    exact ⟨⟨le_trans h w.1.1, w.1.2⟩, w.2⟩

theorem Tab.wfFrom_del (d : α) (k lo : Nat) (t : Tab α) (w : Tab.wfFrom d lo t = true) : Tab.wfFrom d lo (Tab.del k t) = true := by
  induction t generalizing lo with
  | nil => rfl
  | cons e rest ih =>
    obtain ⟨j, v⟩ := e
    simp only [Tab.wfFrom, Bool.and_eq_true, decide_eq_true_eq] at w
    simp only [Tab.del]
    split
    · exact ih lo (Tab.wfFrom_mono d (by omega) rest w.2)
    · simp only [Tab.wfFrom, Bool.and_eq_true, decide_eq_true_eq]
      exact ⟨w.1, ih (j + 1) w.2⟩

theorem Tab.wfFrom_put (d : α) {k : Nat} {v : α} (hv : v ≠ d) (lo : Nat) (hk : lo ≤ k) (t : Tab α) (w : Tab.wfFrom d lo t = true) :
    Tab.wfFrom d lo (Tab.put k v t) = true := by
  induction t generalizing lo with
  | nil => simp [Tab.put, Tab.wfFrom, hv, hk]
  | cons e rest ih =>
    obtain ⟨j, x⟩ := e
    have w' := w
    simp only [Tab.wfFrom, Bool.and_eq_true, decide_eq_true_eq] at w
    simp only [Tab.put]
    split
    · rename_i h
      simp only [Tab.wfFrom, Bool.and_eq_true, decide_eq_true_eq]
      exact ⟨⟨hk, hv⟩, ⟨⟨by omega, w.1.2⟩, w.2⟩⟩
    · split
      · rename_i h
        simp only [Tab.wfFrom, Bool.and_eq_true, decide_eq_true_eq]
        exact ⟨⟨hk, hv⟩, h ▸ w.2⟩
      · simp only [Tab.wfFrom, Bool.and_eq_true, decide_eq_true_eq]
        exact ⟨w.1, ih (j + 1) (by omega) w.2⟩

/-- Every write keeps the canonical form. -/
theorem Tab.wf_set (d : α) (k : Nat) (v : α) (t : Tab α) (w : Tab.wf d t = true) : Tab.wf d (Tab.set d k v t) = true := by
  unfold Tab.wf at *
  unfold Tab.set
  split
  · exact Tab.wfFrom_del d k 0 t w
  · rename_i h
    exact Tab.wfFrom_put d h 0 (Nat.zero_le k) t w

theorem Tab.wf_upd (d : α) (k : Nat) (f : α → α) (t : Tab α) (w : Tab.wf d t = true) : Tab.wf d (Tab.upd d k f t) = true :=
  Tab.wf_set d k _ t w

/-- A write adds no key but its own. -/
theorem Tab.mem_set (d : α) (k : Nat) (v : α) (t : Tab α) (e : Nat × α) (h : e ∈ Tab.set d k v t) : e ∈ t ∨ e.1 = k := by
  have del : ∀ t : Tab α, e ∈ Tab.del k t → e ∈ t := by
    intro t
    induction t with
    | nil => exact fun h => h
    | cons a rest ih =>
      obtain ⟨j, w⟩ := a
      simp only [Tab.del]
      split <;> intro h
      · exact List.mem_cons_of_mem _ (ih h)
      · rcases List.mem_cons.mp h with h | h
        · exact h ▸ List.mem_cons_self ..
        · exact List.mem_cons_of_mem _ (ih h)
  have put : ∀ t : Tab α, e ∈ Tab.put k v t → e ∈ t ∨ e.1 = k := by
    intro t
    induction t with
    | nil =>
      intro h
      simp only [Tab.put, List.mem_singleton] at h
      exact Or.inr (by rw [h])
    | cons a rest ih =>
      obtain ⟨j, w⟩ := a
      simp only [Tab.put]
      split
      · intro h
        rcases List.mem_cons.mp h with h | h
        · exact Or.inr (by rw [h])
        · exact Or.inl h
      · split <;> intro h
        · rcases List.mem_cons.mp h with h | h
          · exact Or.inr (by rw [h])
          · exact Or.inl (List.mem_cons_of_mem _ h)
        · rcases List.mem_cons.mp h with h | h
          · exact Or.inl (h ▸ List.mem_cons_self ..)
          · exact (ih h).imp (List.mem_cons_of_mem _) id
  unfold Tab.set at h
  split at h
  · exact Or.inl (del t h)
  · exact put t h

end Sys2Proof.Machine
end

