-- ==== Sys2Proof/Laws/Core.lean ====
section
/-! SUPPORT. What one instruction does on a core that may issue, once for every instruction that touches only its context. -/

namespace Sys2Proof.Machine

/-- The address `d` bytes on from a PC whose instruction fits the code SRAM. -/
theorem next_address (pc : BitVec 16) (d : Nat) (hd : d ≤ 8) (h : pc.toNat < 0xFFF8) :
    (pc.zeroExtend 32 + BitVec.ofNat 32 d).extractLsb' 0 16 = pc + BitVec.ofNat 16 d ∧
    (pc.zeroExtend 32 + BitVec.ofNat 32 d).toNat = pc.toNat + d := by
  have h2 : (pc.zeroExtend 32 + BitVec.ofNat 32 d).toNat = pc.toNat + d := by
    simp only [BitVec.toNat_add, BitVec.truncate_eq_setWidth, BitVec.toNat_setWidth, BitVec.toNat_ofNat]
    omega
  refine ⟨BitVec.eq_of_toNat_eq ?_, h2⟩
  rw [BitVec.extractLsb'_toNat, h2]
  simp only [BitVec.toNat_add, BitVec.toNat_ofNat]
  omega

/-- What follows from what an instruction comes to within its context. -/
def didOf (n : Nat) (x : Ctx) (op : Op) : Option Res → Did
  | some (.go y next) => .go y next (fun s => if op.takes x then s.traceWord n else s)
  | some (.trap cause addr) => .exc { cause := cause, addr := addr }
  | none => .exc { cause := 1 }

/-- The operation is one of those that touch only their context. -/
def Op.local? : Op → Bool
  | .alu .. | .imm .. | .lui .. | .cmpi .. | .shi .. | .bcc .. | .jump .. | .call .. | .jr .. | .callr .. | .cb .. | .mac .. | .acc ..
  | .clrq | .fence | .li .. | .long .. | .cmpl .. | .jl .. | .calll .. => true
  | _ => false

/-- An instruction that touches only its context comes to the same on a chip's core. -/
theorem opDo_local {k : Kv} {n c : Nat} {x : Ctx} {op : Op} (h : op.local? = true) : k.opDo n c x op = didOf n x op (op.pure x) := by
  cases op <;> first | (exact absurd (show false = true from h) Bool.false_ne_true) | rfl

/-! Each other instruction comes to what its own definition says. -/

theorem opDo_load {k : Kv} {n c : Nat} {x : Ctx} (fn rd ra v) :
    k.opDo n c x (.load fn rd ra v) = k.opLoad n x (.load fn rd ra v) fn rd ra v := rfl
theorem opDo_store {k : Kv} {n c : Nat} {x : Ctx} (fn rd ra v) :
    k.opDo n c x (.store fn rd ra v) = k.opStore n x (.store fn rd ra v) fn rd ra v := rfl
theorem opDo_atom {k : Kv} {n c : Nat} {x : Ctx} (fn rd ra rb) :
    k.opDo n c x (.atom fn rd ra rb) = k.opAtom n x (.atom fn rd ra rb) fn rd ra rb := rfl
theorem opDo_cfx {k : Kv} {n c : Nat} {x : Ctx} (rd ra lsb w sgn o) :
    k.opDo n c x (.cfx rd ra lsb w sgn o) = k.opCfx x (.cfx rd ra lsb w sgn o) rd ra lsb w sgn o := rfl
theorem opDo_clw {k : Kv} {n c : Nat} {x : Ctx} (rd ra off) :
    k.opDo n c x (.clw rd ra off) = k.opClw x (.clw rd ra off) rd ra off := rfl
theorem opDo_csw {k : Kv} {n c : Nat} {x : Ctx} (rd ra off) :
    k.opDo n c x (.csw rd ra off) = k.opCsw x (.csw rd ra off) rd ra off := rfl
theorem opDo_dot4 {k : Kv} {n c : Nat} {x : Ctx} (ad ra rb sh) :
    k.opDo n c x (.dot4 ad ra rb sh) = k.opDot n x (.dot4 ad ra rb sh) ad ra rb sh false := rfl
theorem opDo_dot4c {k : Kv} {n c : Nat} {x : Ctx} (ad ra rb) :
    k.opDo n c x (.dot4c ad ra rb) = k.opDot n x (.dot4c ad ra rb) ad ra rb 0 true := rfl
theorem opDo_take {k : Kv} {n c : Nat} {x : Ctx} :
    k.opDo n c x (.take) = Did.done (k.takeItem n) := rfl
theorem opDo_yield {k : Kv} {n c : Nat} {x : Ctx} (ra) :
    k.opDo n c x (.yield ra) = Did.done (k.yieldItem n (x.pc + 4) (x.reg ra)) := rfl
theorem opDo_pub {k : Kv} {n c : Nat} {x : Ctx} (ra rb) :
    k.opDo n c x (.pub ra rb) = k.opPub n x (.pub ra rb) ra rb := rfl
theorem opDo_ledg {k : Kv} {n c : Nat} {x : Ctx} (ra rb) :
    k.opDo n c x (.ledg ra rb) = k.opLedg n x (.ledg ra rb) ra rb := rfl
theorem opDo_mfc {k : Kv} {n c : Nat} {x : Ctx} (rd num) :
    k.opDo n c x (.mfc rd num) = k.opMfc n c x (.mfc rd num) rd num := rfl
theorem opDo_mtc {k : Kv} {n c : Nat} {x : Ctx} (num ra) :
    k.opDo n c x (.mtc num ra) = k.opMtc n c x (.mtc num ra) num ra := rfl
theorem opDo_trap {k : Kv} {n c : Nat} {x : Ctx} (code) :
    k.opDo n c x (.trap code) = Did.exc { cause := 9, code := code.toNat } := rfl
theorem opDo_brk {k : Kv} {n c : Nat} {x : Ctx} :
    k.opDo n c x (.brk) = k.opBreak n c x .brk := rfl
theorem opDo_tickwait {k : Kv} {n c : Nat} {x : Ctx} (ra mode) :
    k.opDo n c x (.tickwait ra mode) =
      if k.waitOver x mode (x.reg ra) then .go { x with c := true } (x.after (.tickwait ra mode)) id
      else .done (k.onCore n (fun q => q.setCtx c { x with wait := some (mode, x.reg ra) })) := rfl
theorem opDo_post {k : Kv} {n c : Nat} {x : Ctx} (ra) :
    k.opDo n c x (.post ra) =
      if 256 ≤ (x.reg ra).toNat then .exc { cause := 7 }
      else if !k.on Kv.DSP_CNTj.EN (x.reg ra).toNat then .exc { cause := 8 }
      else .go x (x.after (.post ra)) (fun s => (s.cntDec (x.reg ra).toNat x.tick.toNat).traceWord n) := rfl
theorem opDo_rtt {k : Kv} {n c : Nat} {x : Ctx} (adv) :
    k.opDo n c x (.rtt adv) =
      if !x.tl then .exc { cause := 1 } else if !x.priv then .exc { cause := 2 } else .go (x.leaveTrap adv).1 (x.leaveTrap adv).2 id := rfl
theorem opDo_flowend {k : Kv} {n c : Nat} {x : Ctx} :
    k.opDo n c x .flowend =
      match (k.core n).item c with
      | some i =>
        .go { x with
          c := (match i.flow with | some f => Tab.get 0 f k.dsp.flows == i.task + 1 | none => false), item := x.item &&& ~~~0x400000 }
          (x.after .flowend) (fun s => s.freeFlow i)
      | none => .go { x with c := false } (x.after .flowend) id := rfl

theorem traceWord_off {k : Kv} {n : Nat} (h : k.on Kv.DBG_TRC.EN = false) : k.traceWord n = k := by
  simp [Kv.traceWord, h]

theorem runSteps_none {k : Kv} (h : ∀ i, (k.core i).stepOk = false) : k.runSteps = k := by
  have : (List.range 16).filter (fun n => (k.core n).stepOk) = [] := by simp [h]
  simp [Kv.runSteps, this, Kv.each]

/-- The operation exists on the core `r`. -/
def CoreRef.has (r : CoreRef) (op : Op) : Bool :=
  match r with
  | .kv .. => true
  | .cell _ => op.inTisC

/-- No core waits to be stepped after a context has changed, where none did before. -/
theorem stepOk_withCtx {k : Kv} (n : Nat) (y : Ctx) (h : ∀ i, (k.core i).stepOk = false) (i : Nat) : ((k.withCtx n y).core i).stepOk = false := by
  by_cases hi : i = n
  · subst hi
    have h' := h i
    simp only [Kv.withCtx, Kv.onCore, Kv.core, Tab.get_upd_same, CoreSt.setCtx] at h' ⊢
    split <;> exact h'
  · have h' := h i
    simp only [Kv.withCtx, Kv.onCore, Kv.core] at h' ⊢
    rw [Tab.get_upd_ne _ _ _ hi]
    exact h'

/-- What an instruction that may issue comes to: the outcome of `opDo`, taken. -/
theorem runOp_of_did {k : Kv} {n : Nat} {op : Op} (h : k.ready n) :
    k.runOp n (some op) op.isLong = match k.opDo n (k.ctxOf n) (k.running n) op with
      | .go y next f => k.goAfter n (k.ctxOf n) y next f
      | .exc e => k.takeTrap n (k.ctxOf n) ((k.running n).pc.zeroExtend 32) op.isLong e
      | .done t => t := by
  obtain ⟨-, h2, h3, h4, h5, h6, -, -⟩ := h
  have hpc : ((k.core n).ctx (k.ctxOf n)).pc ≠ 0xFFFC#16 := by
    intro e; rw [e] at h4; exact absurd h4 (by decide)
  unfold Kv.runOp
  simp only [h2, Bool.not_true, Bool.false_eq_true, if_false, h5, h6, Bool.and_false, beq_iff_eq, hpc, Bool.and_eq_true, and_false]
  rfl

/-- An instruction whose outcome is to go on at a code address. -/
theorem kv_op_go {k : Kv} {n : Nat} {op : Op} {y : Ctx} {next : Word} {f : Kv → Kv} (h : k.ready n)
    (hd : k.opDo n (k.ctxOf n) (k.running n) op = .go y next f) (ht : next.toNat < 0x10000 ∧ next.toNat % 4 = 0) :
    opKv n op k = (f (k.withCtx n { y with pc := next.extractLsb' 0 16 })).runSteps := by
  unfold opKv
  rw [h.1, runOp_of_did h, hd]
  simp only [Bool.false_eq_true, if_false, Kv.goAfter, ht, and_self, true_or, if_true]
  rfl

/-- One that goes on at the next instruction. -/
theorem kv_op_next {k : Kv} {n : Nat} {op : Op} {y : Ctx} {f : Kv → Kv} (h : k.ready n)
    (hd : k.opDo n (k.ctxOf n) (k.running n) op = .go y ((k.running n).pc.zeroExtend 32 + 4) f) :
    opKv n op k = (f (k.withCtx n { y with pc := (k.running n).pc + 4 })).runSteps := by
  have h3 : (k.running n).pc.toNat % 4 = 0 := h.2.2.1
  have h4 : (k.running n).pc.toNat < 0xFFF8 := h.2.2.2.1
  have hn := next_address (k.running n).pc 4 (by omega) h4
  rw [show (4 : BitVec 32) = BitVec.ofNat 32 4 from rfl] at hd
  rw [kv_op_go h hd (by rw [hn.2]; omega), hn.1]
  rfl

/-- On a chip's core that may issue, an instruction that touches only its context leaves that context and goes on where it says. -/
theorem kv_op_local {k : Kv} {n : Nat} {op : Op} {y : Ctx} {next : Word} (h : k.ready n) (hl : op.local? = true)
    (hp : op.pure (k.running n) = some (.go y next)) (ht : next.toNat < 0x10000 ∧ next.toNat % 4 = 0) :
    opKv n op k = k.withCtx n { y with pc := next.extractLsb' 0 16 } := by
  have hd := opDo_local (k := k) (n := n) (c := k.ctxOf n) (x := k.running n) hl
  rw [hp] at hd
  have hw : (k.withCtx n { y with pc := next.extractLsb' 0 16 }).on Kv.DBG_TRC.EN = false := h.2.2.2.2.2.2.2
  rw [kv_op_go h hd ht]
  split
  · rw [traceWord_off hw]
    exact runSteps_none (stepOk_withCtx n _ h.2.2.2.2.2.2.1)
  · exact runSteps_none (stepOk_withCtx n _ h.2.2.2.2.2.2.1)

/-- A command on a chip that takes commands. -/
theorem onKv_live {s : State} {c : Chip} (h : s.live c) (f : Kv → Kv) : s.onKv c f = s.setChip c (f (s.kvAt c)) := by
  simp only [State.onKv, State.onKvAlways]
  rw [show ({ s.chip c with out := [] } : Kv).boot.inReset = false from h]
  rfl

/-- An instruction that touches only its context comes to the same on a cell core that has it. -/
theorem cell_opDo_local {s : Cell} {x : Ctx} {op : Op} {y : Ctx} {next : Word} (hl : op.local? = true) (ht : op.inTisC = true)
    (hp : op.pure x = some (.go y next)) : s.opDo x op = .go s y next := by
  unfold Cell.opDo
  rw [ht]
  cases op <;> first
    | (exact absurd (show false = true from hl) Bool.false_ne_true)
    | (simp only [Bool.not_true, Bool.false_eq_true, if_false, hp])

theorem cell_op_local {s : Cell} {op : Op} {y : Ctx} {next : Word} (h : s.ready) (hl : op.local? = true) (hc : op.inTisC = true)
    (hp : op.pure s.core = some (.go y next)) (ht : next.toNat < 0x10000 ∧ next.toNat % 4 = 0) :
    opCell op s = { s with core := { y with pc := next.extractLsb' 0 16 } } := by
  obtain ⟨h1, h2, h3, h4, h5, h6, h7, h8⟩ := h
  have hd := cell_opDo_local (s := s) hl hc hp
  have hr : s.runOp (some op) op.isLong = { s with core := { y with pc := next.extractLsb' 0 16 } } := by
    unfold Cell.runOp
    have hpc : (s.core.pc.toNat == 0xFFFC) = false := by
      simp only [beq_eq_false_iff_ne]
      omega
    have htr : s.traceWord next = s := by simp [Cell.traceWord, h8]
    simp only [h2, Bool.not_true, Bool.false_eq_true, if_false, hpc, h5, h6, Bool.and_false, Bool.or_self, hd, htr, ite_self, ht,
      and_self, if_true]
  unfold opCell
  rw [h1, hr]
  simp only [Bool.false_eq_true, if_false]
  unfold Cell.runStep
  rw [show ({ s with core := { y with pc := next.extractLsb' 0 16 } } : Cell).stepOk = false from h7]
  rfl

/-- On any core that may issue and has it, an instruction that touches only its context leaves that context, goes on where it says,
and changes nothing else. -/
theorem core_op_local {s : State} {r : CoreRef} {op : Op} {y : Ctx} {next : Word} (h : s.coreReady r) (hl : op.local? = true)
    (hr : r.has op = true) (hp : op.pure (s.ctxAt r) = some (.go y next)) (ht : next.toNat < 0x10000 ∧ next.toNat % 4 = 0) :
    s.onCore r op = s.withCtx r { y with pc := next.extractLsb' 0 16 } := by
  cases r with
  | kv c n =>
    obtain ⟨hlive, hready⟩ := h
    have := kv_op_local hready hl hp ht
    rw [State.onCore, State.onCoreBy, onKv_live hlive, this]
    rfl
  | cell a =>
    have := cell_op_local h hl hr hp ht
    simp only [State.onCore, State.onCoreBy, State.onCell, State.withCtx, State.setCell]
    rw [show s.ctxAt (.cell a) = (s.kcAt a).core from rfl] at *
    rw [← this]
    rfl

/-- A core that may issue stands at an aligned address whose instruction fits the code SRAM. -/
theorem pc_of_ready {s : State} {r : CoreRef} (h : s.coreReady r) : (s.ctxAt r).pc.toNat < 0xFFF8 ∧ (s.ctxAt r).pc.toNat % 4 = 0 := by
  cases r with
  | kv c n => exact ⟨h.2.2.2.2.1, h.2.2.2.1⟩
  | cell a => exact ⟨h.2.2.2.1, h.2.2.1⟩

/-- The same for one that goes on at the next instruction, `d` bytes on. -/
theorem core_op_next {s : State} {r : CoreRef} {op : Op} {y : Ctx} (d : Nat) (hd : d = 4 ∨ d = 8) (h : s.coreReady r)
    (hl : op.local? = true) (hr : r.has op = true)
    (hp : op.pure (s.ctxAt r) = some (.go y ((s.ctxAt r).pc.zeroExtend 32 + BitVec.ofNat 32 d))) :
    s.onCore r op = s.withCtx r { y with pc := (s.ctxAt r).pc + BitVec.ofNat 16 d } := by
  obtain ⟨h1, h2⟩ := pc_of_ready h
  have hn := next_address (s.ctxAt r).pc d (by omega) h1
  rw [core_op_local h hl hr hp (by rw [hn.2]; omega), hn.1]

/-- A load of an aligned address finds what stands there. -/
theorem coreLoad_mem {k : Kv} {n a m at_ : Nat} (ha : a % m = 0) (hp : corePlace n a = .mem at_) (hb : k.bad at_ = false) :
    k.coreLoad n a m = .inl (k.rdLe at_ m, k) := by
  unfold Kv.coreLoad
  simp [ha, hp, hb]

theorem coreLoad_sfe {k : Kv} {n a m at_ : Nat} (ha : a % m = 0) (hp : corePlace n a = .sfe at_) (hb : k.bad at_ = false) :
    k.coreLoad n a m = .inl (k.rdLe at_ m, k) := by
  unfold Kv.coreLoad
  simp [ha, hp, hb]

theorem coreLoad_arena {k : Kv} {n a m at_ : Nat} (ha : a % m = 0) (hp : corePlace n a = .arena at_) (hb : k.bad at_ = false) :
    k.coreLoad n a m = .inl (k.rdBe at_ m, k) := by
  unfold Kv.coreLoad
  simp [ha, hp, hb]

theorem coreLoad_reg {k : Kv} {n a m at_ : Nat} (ha : a % m = 0) (hp : corePlace n a = .reg at_) :
    k.coreLoad n a m = .inl (k.winLoad at_ m) := by
  unfold Kv.coreLoad
  simp [ha, hp]

/-- A load that finds a value. -/
theorem kv_load {k : Kv} {n : Nat} {fn : LoadFn} {rd ra : Gpr} {v : BitVec 16} {w : Nat} {t : Kv} (h : k.ready n)
    (hd : ¬ (fn = .d ∧ rd.getLsbD 0 = true))
    (hc : k.coreLoad n (effAddr (k.running n) ra v) fn.size = .inl (w, t)) :
    opKv n (.load fn rd ra v) k =
      (match (k.withCtx n { (k.running n).loaded fn rd w with pc := (k.running n).pc + 4 }).coreLoad n (effAddr (k.running n) ra v) fn.size with
        | .inl q => q.2 | .inr _ => (k.withCtx n { (k.running n).loaded fn rd w with pc := (k.running n).pc + 4 })).runSteps := by
  refine (kv_op_next (f := fun s => match s.coreLoad n (effAddr (k.running n) ra v) fn.size with | .inl q => q.2 | .inr _ => s) (y := (k.running n).loaded fn rd w) h ?_)
  rw [opDo_load]
  unfold Kv.opLoad
  rw [if_neg hd]
  simp only [hc]
  rfl

end Sys2Proof.Machine
end

