-- ==== Sys2Proof/Laws/State.lean ====
section
/-! SUPPORT. Reading the state after an update of it: one lemma per field per update, each true by unfolding. -/

namespace Sys2Proof.Machine

/-! ### The chip set -/

variable (s : State) (c : Chip) (k : Kv) (a : BitVec 13) (x : Cell) (f : Kf)

@[simp] theorem State.setChip_chip : (s.setChip c k).chip c = k := by cases c <;> rfl
@[simp] theorem State.setChip_other : (s.setChip c k).chip c.other = s.chip c.other := by cases c <;> rfl
@[simp] theorem State.setChip_kf : (s.setChip c k).kf = s.kf := by cases c <;> rfl
@[simp] theorem State.setChip_cells : (s.setChip c k).cells = s.cells := by cases c <;> rfl
@[simp] theorem State.setChip_cell : (s.setChip c k).cell a = s.cell a := by cases c <;> rfl
@[simp] theorem State.setChip_pending : (s.setChip c k).pending = s.pending := by cases c <;> rfl
@[simp] theorem State.setChip_setChip (y : Kv) : (s.setChip c k).setChip c y = s.setChip c y := by cases c <;> rfl
@[simp] theorem State.setCell_chip : (s.setCell a x).chip c = s.chip c := by cases c <;> rfl
@[simp] theorem State.setCell_kf : (s.setCell a x).kf = s.kf := rfl
@[simp] theorem State.setCell_cell : (s.setCell a x).cell a = x := Tab.get_set_same ..
@[simp] theorem State.setCell_pending : (s.setCell a x).pending = s.pending := rfl
@[simp] theorem State.setKf_chip : (s.setKf f).chip c = s.chip c := by cases c <;> rfl
@[simp] theorem State.setKf_kf : (s.setKf f).kf = f := rfl
@[simp] theorem State.setKf_cells : (s.setKf f).cells = s.cells := rfl
@[simp] theorem State.setKf_pending : (s.setKf f).pending = s.pending := rfl
@[simp] theorem State.kvAt_out : (s.kvAt c).out = [] := rfl
@[simp] theorem State.kcAt_out : (s.kcAt a).out = [] := rfl
@[simp] theorem State.kfAt_out : s.kfAt.out = [] := rfl
@[simp] theorem Chip.other_other : c.other.other = c := by cases c <;> rfl

/-- A module at another address is as it was. -/
theorem State.setCell_cell_ne {b : BitVec 13} (h : b ≠ a) : (s.setCell a x).cell b = s.cell b :=
  Tab.get_set_ne _ _ _ (fun e => h (BitVec.eq_of_toNat_eq e))

/-- A chip held in reset does nothing (R569); for one that takes commands see `onKv_live`. -/
theorem State.onKv_reset {s : State} {c : Chip} (h : (s.chip c).boot.inReset = true) (g : Kv → Kv) :
    s.onKv c g = s.setChip c (s.kvAt c) := by
  simp only [State.onKv, State.onKvAlways, h, if_true]; rfl

/-- A command on a module, on the KF-120, always runs the handler. -/
theorem State.onCell_eq (g : Cell → Cell) : s.onCell a g = s.setCell a (g (s.kcAt a)) := rfl
theorem State.onKf_eq (g : Kf → Kf) : s.onKf g = s.setKf (g s.kfAt) := rfl

theorem State.onPart_chip (g : Kv → Kv) (h : Cell → Cell) : s.onPart (.chip c) g h = s.onKv c g := rfl
theorem State.onPart_cell (g : Kv → Kv) (h : Cell → Cell) : s.onPart (.cell a) g h = s.setCell a (h (s.kcAt a)) := rfl

/-! ### One register field

A write to a field leaves every field with another key as it was. -/

theorem Fld.get_set_same (F : Fld) (i j v : Nat) (t : Tab Nat) : F.get i j (F.set i j v t) = v % 2 ^ F.w := by
  rw [Fld.get, Fld.set, Tab.get_set_same, Nat.xor_assoc, Nat.xor_self, Nat.xor_zero, Nat.mod_mod]

theorem Fld.get_set_ne {F G : Fld} {i j p q : Nat} (v : Nat) (t : Tab Nat) (h : F.key i j ≠ G.key p q) :
    F.get i j (G.set p q v t) = F.get i j t := by
  rw [Fld.get, Fld.get, Fld.set, Tab.get_set_ne _ _ _ h]

theorem Fld.get_lt (F : Fld) (i j : Nat) (t : Tab Nat) : F.get i j t < 2 ^ F.w := Nat.mod_lt _ (Nat.two_pow_pos _)

@[simp] theorem Kv.rd_wr_same (s : Kv) (F : Fld) (v i j : Nat) : (s.wr F v i j).rd F i j = v % 2 ^ F.w := Fld.get_set_same ..
theorem Kv.rd_wr_ne (s : Kv) {F G : Fld} (v : Nat) {i j p q : Nat} (h : F.key i j ≠ G.key p q) :
    (s.wr G v p q).rd F i j = s.rd F i j := Fld.get_set_ne _ _ h
theorem Kv.rd_lt (s : Kv) (F : Fld) (i j : Nat) : s.rd F i j < 2 ^ F.w := Fld.get_lt ..
theorem Kv.on_wr_ne (s : Kv) {F G : Fld} (v : Nat) {i j p q : Nat} (h : F.key i j ≠ G.key p q) :
    (s.wr G v p q).on F i j = s.on F i j := by rw [Kv.on, Kv.on, Kv.rd_wr_ne _ _ h]
@[simp] theorem Kv.when_true (s : Kv) (f : Kv → Kv) : s.when true f = f s := rfl
@[simp] theorem Kv.when_false (s : Kv) (f : Kv → Kv) : s.when false f = s := rfl

@[simp] theorem Cell.rd_wr_same (s : Cell) (F : Fld) (v i : Nat) : (s.wr F v i).rd F i = v % 2 ^ F.w := Fld.get_set_same ..
theorem Cell.rd_wr_ne (s : Cell) {F G : Fld} (v : Nat) {i p : Nat} (h : F.key i 0 ≠ G.key p 0) :
    (s.wr G v p).rd F i = s.rd F i := Fld.get_set_ne _ _ h
theorem Cell.rd_lt (s : Cell) (F : Fld) (i : Nat) : s.rd F i < 2 ^ F.w := Fld.get_lt ..
theorem Cell.on_wr_ne (s : Cell) {F G : Fld} (v : Nat) {i p : Nat} (h : F.key i 0 ≠ G.key p 0) :
    (s.wr G v p).on F i = s.on F i := by rw [Cell.on, Cell.on, Cell.rd_wr_ne _ _ h]
@[simp] theorem Cell.when_true (s : Cell) (f : Cell → Cell) : s.when true f = f s := rfl
@[simp] theorem Cell.when_false (s : Cell) (f : Cell → Cell) : s.when false f = s := rfl

@[simp] theorem Kf.rd_wr_same (s : Kf) (F : Fld) (v i : Nat) : (s.wr F v i).rd F i = v % 2 ^ F.w := Fld.get_set_same ..
theorem Kf.rd_wr_ne (s : Kf) {F G : Fld} (v : Nat) {i p : Nat} (h : F.key i 0 ≠ G.key p 0) :
    (s.wr G v p).rd F i = s.rd F i := Fld.get_set_ne _ _ h
theorem Kf.rd_lt (s : Kf) (F : Fld) (i : Nat) : s.rd F i < 2 ^ F.w := Fld.get_lt ..
theorem Kf.on_wr_ne (s : Kf) {F G : Fld} (v : Nat) {i p : Nat} (h : F.key i 0 ≠ G.key p 0) :
    (s.wr G v p).on F i = s.on F i := by rw [Kf.on, Kf.on, Kf.rd_wr_ne _ _ h]
@[simp] theorem Kf.when_true (s : Kf) (f : Kf → Kf) : s.when true f = f s := rfl
@[simp] theorem Kf.when_false (s : Kf) (f : Kf → Kf) : s.when false f = s := rfl

/-! ### A register field of a chip is written -/

@[simp] theorem Kv.wr_mem (s : Kv) (F : Fld) (v i j : Nat) : (s.wr F v i j).mem = s.mem := rfl
@[simp] theorem Kv.wr_unc (s : Kv) (F : Fld) (v i j : Nat) : (s.wr F v i j).unc = s.unc := rfl
@[simp] theorem Kv.wr_tim (s : Kv) (F : Fld) (v i j : Nat) : (s.wr F v i j).tim = s.tim := rfl
@[simp] theorem Kv.wr_winOpen (s : Kv) (F : Fld) (v i j : Nat) : (s.wr F v i j).winOpen = s.winOpen := rfl
@[simp] theorem Kv.wr_logSeq (s : Kv) (F : Fld) (v i j : Nat) : (s.wr F v i j).logSeq = s.logSeq := rfl
@[simp] theorem Kv.wr_ovrAt (s : Kv) (F : Fld) (v i j : Nat) : (s.wr F v i j).ovrAt = s.ovrAt := rfl
@[simp] theorem Kv.wr_stopNext (s : Kv) (F : Fld) (v i j : Nat) : (s.wr F v i j).stopNext = s.stopNext := rfl
@[simp] theorem Kv.wr_evRelease (s : Kv) (F : Fld) (v i j : Nat) : (s.wr F v i j).evRelease = s.evRelease := rfl
@[simp] theorem Kv.wr_t0Ended (s : Kv) (F : Fld) (v i j : Nat) : (s.wr F v i j).t0Ended = s.t0Ended := rfl
@[simp] theorem Kv.wr_svlLast (s : Kv) (F : Fld) (v i j : Nat) : (s.wr F v i j).svlLast = s.svlLast := rfl
@[simp] theorem Kv.wr_svlSafe (s : Kv) (F : Fld) (v i j : Nat) : (s.wr F v i j).svlSafe = s.svlSafe := rfl
@[simp] theorem Kv.wr_svlTclr (s : Kv) (F : Fld) (v i j : Nat) : (s.wr F v i j).svlTclr = s.svlTclr := rfl
@[simp] theorem Kv.wr_svlResume (s : Kv) (F : Fld) (v i j : Nat) : (s.wr F v i j).svlResume = s.svlResume := rfl
@[simp] theorem Kv.wr_olcDirty (s : Kv) (F : Fld) (v i j : Nat) : (s.wr F v i j).olcDirty = s.olcDirty := rfl
@[simp] theorem Kv.wr_acq (s : Kv) (F : Fld) (v i j : Nat) : (s.wr F v i j).acq = s.acq := rfl
@[simp] theorem Kv.wr_sp (s : Kv) (F : Fld) (v i j : Nat) : (s.wr F v i j).sp = s.sp := rfl
@[simp] theorem Kv.wr_cl (s : Kv) (F : Fld) (v i j : Nat) : (s.wr F v i j).cl = s.cl := rfl
@[simp] theorem Kv.wr_col (s : Kv) (F : Fld) (v i j : Nat) : (s.wr F v i j).col = s.col := rfl
@[simp] theorem Kv.wr_al (s : Kv) (F : Fld) (v i j : Nat) : (s.wr F v i j).al = s.al := rfl
@[simp] theorem Kv.wr_dsp (s : Kv) (F : Fld) (v i j : Nat) : (s.wr F v i j).dsp = s.dsp := rfl
@[simp] theorem Kv.wr_sfe (s : Kv) (F : Fld) (v i j : Nat) : (s.wr F v i j).sfe = s.sfe := rfl
@[simp] theorem Kv.wr_cas (s : Kv) (F : Fld) (v i j : Nat) : (s.wr F v i j).cas = s.cas := rfl
@[simp] theorem Kv.wr_sec (s : Kv) (F : Fld) (v i j : Nat) : (s.wr F v i j).sec = s.sec := rfl
@[simp] theorem Kv.wr_hst (s : Kv) (F : Fld) (v i j : Nat) : (s.wr F v i j).hst = s.hst := rfl
@[simp] theorem Kv.wr_boot (s : Kv) (F : Fld) (v i j : Nat) : (s.wr F v i j).boot = s.boot := rfl
@[simp] theorem Kv.wr_crcFrom (s : Kv) (F : Fld) (v i j : Nat) : (s.wr F v i j).crcFrom = s.crcFrom := rfl
@[simp] theorem Kv.wr_crcLen (s : Kv) (F : Fld) (v i j : Nat) : (s.wr F v i j).crcLen = s.crcLen := rfl
@[simp] theorem Kv.wr_bfireAt (s : Kv) (F : Fld) (v i j : Nat) : (s.wr F v i j).bfireAt = s.bfireAt := rfl
@[simp] theorem Kv.wr_cellArm (s : Kv) (F : Fld) (v i j : Nat) : (s.wr F v i j).cellArm = s.cellArm := rfl
@[simp] theorem Kv.wr_lane (s : Kv) (F : Fld) (v i j : Nat) : (s.wr F v i j).lane = s.lane := rfl
@[simp] theorem Kv.wr_laneTime (s : Kv) (F : Fld) (v i j : Nat) : (s.wr F v i j).laneTime = s.laneTime := rfl
@[simp] theorem Kv.wr_free (s : Kv) (F : Fld) (v i j : Nat) : (s.wr F v i j).free = s.free := rfl
@[simp] theorem Kv.wr_out (s : Kv) (F : Fld) (v i j : Nat) : (s.wr F v i j).out = s.out := rfl

/-! ### A byte of a chip's memories is written -/

@[simp] theorem Kv.wrByte_regs (s : Kv) (a : Nat) (v : Byte) : (s.wrByte a v).regs = s.regs := rfl
@[simp] theorem Kv.wrByte_unc (s : Kv) (a : Nat) (v : Byte) : (s.wrByte a v).unc = s.unc := rfl
@[simp] theorem Kv.wrByte_tim (s : Kv) (a : Nat) (v : Byte) : (s.wrByte a v).tim = s.tim := rfl
@[simp] theorem Kv.wrByte_winOpen (s : Kv) (a : Nat) (v : Byte) : (s.wrByte a v).winOpen = s.winOpen := rfl
@[simp] theorem Kv.wrByte_logSeq (s : Kv) (a : Nat) (v : Byte) : (s.wrByte a v).logSeq = s.logSeq := rfl
@[simp] theorem Kv.wrByte_ovrAt (s : Kv) (a : Nat) (v : Byte) : (s.wrByte a v).ovrAt = s.ovrAt := rfl
@[simp] theorem Kv.wrByte_stopNext (s : Kv) (a : Nat) (v : Byte) : (s.wrByte a v).stopNext = s.stopNext := rfl
@[simp] theorem Kv.wrByte_evRelease (s : Kv) (a : Nat) (v : Byte) : (s.wrByte a v).evRelease = s.evRelease := rfl
@[simp] theorem Kv.wrByte_t0Ended (s : Kv) (a : Nat) (v : Byte) : (s.wrByte a v).t0Ended = s.t0Ended := rfl
@[simp] theorem Kv.wrByte_svlLast (s : Kv) (a : Nat) (v : Byte) : (s.wrByte a v).svlLast = s.svlLast := rfl
@[simp] theorem Kv.wrByte_svlSafe (s : Kv) (a : Nat) (v : Byte) : (s.wrByte a v).svlSafe = s.svlSafe := rfl
@[simp] theorem Kv.wrByte_svlTclr (s : Kv) (a : Nat) (v : Byte) : (s.wrByte a v).svlTclr = s.svlTclr := rfl
@[simp] theorem Kv.wrByte_svlResume (s : Kv) (a : Nat) (v : Byte) : (s.wrByte a v).svlResume = s.svlResume := rfl
@[simp] theorem Kv.wrByte_olcDirty (s : Kv) (a : Nat) (v : Byte) : (s.wrByte a v).olcDirty = s.olcDirty := rfl
@[simp] theorem Kv.wrByte_acq (s : Kv) (a : Nat) (v : Byte) : (s.wrByte a v).acq = s.acq := rfl
@[simp] theorem Kv.wrByte_sp (s : Kv) (a : Nat) (v : Byte) : (s.wrByte a v).sp = s.sp := rfl
@[simp] theorem Kv.wrByte_cl (s : Kv) (a : Nat) (v : Byte) : (s.wrByte a v).cl = s.cl := rfl
@[simp] theorem Kv.wrByte_col (s : Kv) (a : Nat) (v : Byte) : (s.wrByte a v).col = s.col := rfl
@[simp] theorem Kv.wrByte_al (s : Kv) (a : Nat) (v : Byte) : (s.wrByte a v).al = s.al := rfl
@[simp] theorem Kv.wrByte_dsp (s : Kv) (a : Nat) (v : Byte) : (s.wrByte a v).dsp = s.dsp := rfl
@[simp] theorem Kv.wrByte_sfe (s : Kv) (a : Nat) (v : Byte) : (s.wrByte a v).sfe = s.sfe := rfl
@[simp] theorem Kv.wrByte_cas (s : Kv) (a : Nat) (v : Byte) : (s.wrByte a v).cas = s.cas := rfl
@[simp] theorem Kv.wrByte_sec (s : Kv) (a : Nat) (v : Byte) : (s.wrByte a v).sec = s.sec := rfl
@[simp] theorem Kv.wrByte_hst (s : Kv) (a : Nat) (v : Byte) : (s.wrByte a v).hst = s.hst := rfl
@[simp] theorem Kv.wrByte_boot (s : Kv) (a : Nat) (v : Byte) : (s.wrByte a v).boot = s.boot := rfl
@[simp] theorem Kv.wrByte_crcFrom (s : Kv) (a : Nat) (v : Byte) : (s.wrByte a v).crcFrom = s.crcFrom := rfl
@[simp] theorem Kv.wrByte_crcLen (s : Kv) (a : Nat) (v : Byte) : (s.wrByte a v).crcLen = s.crcLen := rfl
@[simp] theorem Kv.wrByte_bfireAt (s : Kv) (a : Nat) (v : Byte) : (s.wrByte a v).bfireAt = s.bfireAt := rfl
@[simp] theorem Kv.wrByte_cellArm (s : Kv) (a : Nat) (v : Byte) : (s.wrByte a v).cellArm = s.cellArm := rfl
@[simp] theorem Kv.wrByte_lane (s : Kv) (a : Nat) (v : Byte) : (s.wrByte a v).lane = s.lane := rfl
@[simp] theorem Kv.wrByte_laneTime (s : Kv) (a : Nat) (v : Byte) : (s.wrByte a v).laneTime = s.laneTime := rfl
@[simp] theorem Kv.wrByte_free (s : Kv) (a : Nat) (v : Byte) : (s.wrByte a v).free = s.free := rfl
@[simp] theorem Kv.wrByte_out (s : Kv) (a : Nat) (v : Byte) : (s.wrByte a v).out = s.out := rfl

/-! ### A word of a chip's memories becomes uncorrectable, or is repaired -/

@[simp] theorem Kv.setErrs_regs (s : Kv) (a m : Nat) : (s.setErrs a m).regs = s.regs := rfl
@[simp] theorem Kv.setErrs_mem (s : Kv) (a m : Nat) : (s.setErrs a m).mem = s.mem := rfl
@[simp] theorem Kv.setErrs_tim (s : Kv) (a m : Nat) : (s.setErrs a m).tim = s.tim := rfl
@[simp] theorem Kv.setErrs_winOpen (s : Kv) (a m : Nat) : (s.setErrs a m).winOpen = s.winOpen := rfl
@[simp] theorem Kv.setErrs_logSeq (s : Kv) (a m : Nat) : (s.setErrs a m).logSeq = s.logSeq := rfl
@[simp] theorem Kv.setErrs_ovrAt (s : Kv) (a m : Nat) : (s.setErrs a m).ovrAt = s.ovrAt := rfl
@[simp] theorem Kv.setErrs_stopNext (s : Kv) (a m : Nat) : (s.setErrs a m).stopNext = s.stopNext := rfl
@[simp] theorem Kv.setErrs_evRelease (s : Kv) (a m : Nat) : (s.setErrs a m).evRelease = s.evRelease := rfl
@[simp] theorem Kv.setErrs_t0Ended (s : Kv) (a m : Nat) : (s.setErrs a m).t0Ended = s.t0Ended := rfl
@[simp] theorem Kv.setErrs_svlLast (s : Kv) (a m : Nat) : (s.setErrs a m).svlLast = s.svlLast := rfl
@[simp] theorem Kv.setErrs_svlSafe (s : Kv) (a m : Nat) : (s.setErrs a m).svlSafe = s.svlSafe := rfl
@[simp] theorem Kv.setErrs_svlTclr (s : Kv) (a m : Nat) : (s.setErrs a m).svlTclr = s.svlTclr := rfl
@[simp] theorem Kv.setErrs_svlResume (s : Kv) (a m : Nat) : (s.setErrs a m).svlResume = s.svlResume := rfl
@[simp] theorem Kv.setErrs_olcDirty (s : Kv) (a m : Nat) : (s.setErrs a m).olcDirty = s.olcDirty := rfl
@[simp] theorem Kv.setErrs_acq (s : Kv) (a m : Nat) : (s.setErrs a m).acq = s.acq := rfl
@[simp] theorem Kv.setErrs_sp (s : Kv) (a m : Nat) : (s.setErrs a m).sp = s.sp := rfl
@[simp] theorem Kv.setErrs_cl (s : Kv) (a m : Nat) : (s.setErrs a m).cl = s.cl := rfl
@[simp] theorem Kv.setErrs_col (s : Kv) (a m : Nat) : (s.setErrs a m).col = s.col := rfl
@[simp] theorem Kv.setErrs_al (s : Kv) (a m : Nat) : (s.setErrs a m).al = s.al := rfl
@[simp] theorem Kv.setErrs_dsp (s : Kv) (a m : Nat) : (s.setErrs a m).dsp = s.dsp := rfl
@[simp] theorem Kv.setErrs_sfe (s : Kv) (a m : Nat) : (s.setErrs a m).sfe = s.sfe := rfl
@[simp] theorem Kv.setErrs_cas (s : Kv) (a m : Nat) : (s.setErrs a m).cas = s.cas := rfl
@[simp] theorem Kv.setErrs_sec (s : Kv) (a m : Nat) : (s.setErrs a m).sec = s.sec := rfl
@[simp] theorem Kv.setErrs_hst (s : Kv) (a m : Nat) : (s.setErrs a m).hst = s.hst := rfl
@[simp] theorem Kv.setErrs_boot (s : Kv) (a m : Nat) : (s.setErrs a m).boot = s.boot := rfl
@[simp] theorem Kv.setErrs_crcFrom (s : Kv) (a m : Nat) : (s.setErrs a m).crcFrom = s.crcFrom := rfl
@[simp] theorem Kv.setErrs_crcLen (s : Kv) (a m : Nat) : (s.setErrs a m).crcLen = s.crcLen := rfl
@[simp] theorem Kv.setErrs_bfireAt (s : Kv) (a m : Nat) : (s.setErrs a m).bfireAt = s.bfireAt := rfl
@[simp] theorem Kv.setErrs_cellArm (s : Kv) (a m : Nat) : (s.setErrs a m).cellArm = s.cellArm := rfl
@[simp] theorem Kv.setErrs_lane (s : Kv) (a m : Nat) : (s.setErrs a m).lane = s.lane := rfl
@[simp] theorem Kv.setErrs_laneTime (s : Kv) (a m : Nat) : (s.setErrs a m).laneTime = s.laneTime := rfl
@[simp] theorem Kv.setErrs_free (s : Kv) (a m : Nat) : (s.setErrs a m).free = s.free := rfl
@[simp] theorem Kv.setErrs_out (s : Kv) (a m : Nat) : (s.setErrs a m).out = s.out := rfl

/-! ### A chip sends something -/

@[simp] theorem Kv.send_regs (s : Kv) (o : Out) : (s.send o).regs = s.regs := rfl
@[simp] theorem Kv.send_mem (s : Kv) (o : Out) : (s.send o).mem = s.mem := rfl
@[simp] theorem Kv.send_unc (s : Kv) (o : Out) : (s.send o).unc = s.unc := rfl
@[simp] theorem Kv.send_tim (s : Kv) (o : Out) : (s.send o).tim = s.tim := rfl
@[simp] theorem Kv.send_winOpen (s : Kv) (o : Out) : (s.send o).winOpen = s.winOpen := rfl
@[simp] theorem Kv.send_logSeq (s : Kv) (o : Out) : (s.send o).logSeq = s.logSeq := rfl
@[simp] theorem Kv.send_ovrAt (s : Kv) (o : Out) : (s.send o).ovrAt = s.ovrAt := rfl
@[simp] theorem Kv.send_stopNext (s : Kv) (o : Out) : (s.send o).stopNext = s.stopNext := rfl
@[simp] theorem Kv.send_evRelease (s : Kv) (o : Out) : (s.send o).evRelease = s.evRelease := rfl
@[simp] theorem Kv.send_t0Ended (s : Kv) (o : Out) : (s.send o).t0Ended = s.t0Ended := rfl
@[simp] theorem Kv.send_svlLast (s : Kv) (o : Out) : (s.send o).svlLast = s.svlLast := rfl
@[simp] theorem Kv.send_svlSafe (s : Kv) (o : Out) : (s.send o).svlSafe = s.svlSafe := rfl
@[simp] theorem Kv.send_svlTclr (s : Kv) (o : Out) : (s.send o).svlTclr = s.svlTclr := rfl
@[simp] theorem Kv.send_svlResume (s : Kv) (o : Out) : (s.send o).svlResume = s.svlResume := rfl
@[simp] theorem Kv.send_olcDirty (s : Kv) (o : Out) : (s.send o).olcDirty = s.olcDirty := rfl
@[simp] theorem Kv.send_acq (s : Kv) (o : Out) : (s.send o).acq = s.acq := rfl
@[simp] theorem Kv.send_sp (s : Kv) (o : Out) : (s.send o).sp = s.sp := rfl
@[simp] theorem Kv.send_cl (s : Kv) (o : Out) : (s.send o).cl = s.cl := rfl
@[simp] theorem Kv.send_col (s : Kv) (o : Out) : (s.send o).col = s.col := rfl
@[simp] theorem Kv.send_al (s : Kv) (o : Out) : (s.send o).al = s.al := rfl
@[simp] theorem Kv.send_dsp (s : Kv) (o : Out) : (s.send o).dsp = s.dsp := rfl
@[simp] theorem Kv.send_sfe (s : Kv) (o : Out) : (s.send o).sfe = s.sfe := rfl
@[simp] theorem Kv.send_cas (s : Kv) (o : Out) : (s.send o).cas = s.cas := rfl
@[simp] theorem Kv.send_sec (s : Kv) (o : Out) : (s.send o).sec = s.sec := rfl
@[simp] theorem Kv.send_hst (s : Kv) (o : Out) : (s.send o).hst = s.hst := rfl
@[simp] theorem Kv.send_boot (s : Kv) (o : Out) : (s.send o).boot = s.boot := rfl
@[simp] theorem Kv.send_crcFrom (s : Kv) (o : Out) : (s.send o).crcFrom = s.crcFrom := rfl
@[simp] theorem Kv.send_crcLen (s : Kv) (o : Out) : (s.send o).crcLen = s.crcLen := rfl
@[simp] theorem Kv.send_bfireAt (s : Kv) (o : Out) : (s.send o).bfireAt = s.bfireAt := rfl
@[simp] theorem Kv.send_cellArm (s : Kv) (o : Out) : (s.send o).cellArm = s.cellArm := rfl
@[simp] theorem Kv.send_lane (s : Kv) (o : Out) : (s.send o).lane = s.lane := rfl
@[simp] theorem Kv.send_laneTime (s : Kv) (o : Out) : (s.send o).laneTime = s.laneTime := rfl
@[simp] theorem Kv.send_free (s : Kv) (o : Out) : (s.send o).free = s.free := rfl

/-! ### The state of an acquisition unit changes -/

@[simp] theorem Kv.setAcq_regs (s : Kv) (n : Nat) (u : AcqUnit) : (s.setAcq n u).regs = s.regs := rfl
@[simp] theorem Kv.setAcq_mem (s : Kv) (n : Nat) (u : AcqUnit) : (s.setAcq n u).mem = s.mem := rfl
@[simp] theorem Kv.setAcq_unc (s : Kv) (n : Nat) (u : AcqUnit) : (s.setAcq n u).unc = s.unc := rfl
@[simp] theorem Kv.setAcq_tim (s : Kv) (n : Nat) (u : AcqUnit) : (s.setAcq n u).tim = s.tim := rfl
@[simp] theorem Kv.setAcq_winOpen (s : Kv) (n : Nat) (u : AcqUnit) : (s.setAcq n u).winOpen = s.winOpen := rfl
@[simp] theorem Kv.setAcq_logSeq (s : Kv) (n : Nat) (u : AcqUnit) : (s.setAcq n u).logSeq = s.logSeq := rfl
@[simp] theorem Kv.setAcq_ovrAt (s : Kv) (n : Nat) (u : AcqUnit) : (s.setAcq n u).ovrAt = s.ovrAt := rfl
@[simp] theorem Kv.setAcq_stopNext (s : Kv) (n : Nat) (u : AcqUnit) : (s.setAcq n u).stopNext = s.stopNext := rfl
@[simp] theorem Kv.setAcq_evRelease (s : Kv) (n : Nat) (u : AcqUnit) : (s.setAcq n u).evRelease = s.evRelease := rfl
@[simp] theorem Kv.setAcq_t0Ended (s : Kv) (n : Nat) (u : AcqUnit) : (s.setAcq n u).t0Ended = s.t0Ended := rfl
@[simp] theorem Kv.setAcq_svlLast (s : Kv) (n : Nat) (u : AcqUnit) : (s.setAcq n u).svlLast = s.svlLast := rfl
@[simp] theorem Kv.setAcq_svlSafe (s : Kv) (n : Nat) (u : AcqUnit) : (s.setAcq n u).svlSafe = s.svlSafe := rfl
@[simp] theorem Kv.setAcq_svlTclr (s : Kv) (n : Nat) (u : AcqUnit) : (s.setAcq n u).svlTclr = s.svlTclr := rfl
@[simp] theorem Kv.setAcq_svlResume (s : Kv) (n : Nat) (u : AcqUnit) : (s.setAcq n u).svlResume = s.svlResume := rfl
@[simp] theorem Kv.setAcq_olcDirty (s : Kv) (n : Nat) (u : AcqUnit) : (s.setAcq n u).olcDirty = s.olcDirty := rfl
@[simp] theorem Kv.setAcq_sp (s : Kv) (n : Nat) (u : AcqUnit) : (s.setAcq n u).sp = s.sp := rfl
@[simp] theorem Kv.setAcq_cl (s : Kv) (n : Nat) (u : AcqUnit) : (s.setAcq n u).cl = s.cl := rfl
@[simp] theorem Kv.setAcq_col (s : Kv) (n : Nat) (u : AcqUnit) : (s.setAcq n u).col = s.col := rfl
@[simp] theorem Kv.setAcq_al (s : Kv) (n : Nat) (u : AcqUnit) : (s.setAcq n u).al = s.al := rfl
@[simp] theorem Kv.setAcq_dsp (s : Kv) (n : Nat) (u : AcqUnit) : (s.setAcq n u).dsp = s.dsp := rfl
@[simp] theorem Kv.setAcq_sfe (s : Kv) (n : Nat) (u : AcqUnit) : (s.setAcq n u).sfe = s.sfe := rfl
@[simp] theorem Kv.setAcq_cas (s : Kv) (n : Nat) (u : AcqUnit) : (s.setAcq n u).cas = s.cas := rfl
@[simp] theorem Kv.setAcq_sec (s : Kv) (n : Nat) (u : AcqUnit) : (s.setAcq n u).sec = s.sec := rfl
@[simp] theorem Kv.setAcq_hst (s : Kv) (n : Nat) (u : AcqUnit) : (s.setAcq n u).hst = s.hst := rfl
@[simp] theorem Kv.setAcq_boot (s : Kv) (n : Nat) (u : AcqUnit) : (s.setAcq n u).boot = s.boot := rfl
@[simp] theorem Kv.setAcq_crcFrom (s : Kv) (n : Nat) (u : AcqUnit) : (s.setAcq n u).crcFrom = s.crcFrom := rfl
@[simp] theorem Kv.setAcq_crcLen (s : Kv) (n : Nat) (u : AcqUnit) : (s.setAcq n u).crcLen = s.crcLen := rfl
@[simp] theorem Kv.setAcq_bfireAt (s : Kv) (n : Nat) (u : AcqUnit) : (s.setAcq n u).bfireAt = s.bfireAt := rfl
@[simp] theorem Kv.setAcq_cellArm (s : Kv) (n : Nat) (u : AcqUnit) : (s.setAcq n u).cellArm = s.cellArm := rfl
@[simp] theorem Kv.setAcq_lane (s : Kv) (n : Nat) (u : AcqUnit) : (s.setAcq n u).lane = s.lane := rfl
@[simp] theorem Kv.setAcq_laneTime (s : Kv) (n : Nat) (u : AcqUnit) : (s.setAcq n u).laneTime = s.laneTime := rfl
@[simp] theorem Kv.setAcq_free (s : Kv) (n : Nat) (u : AcqUnit) : (s.setAcq n u).free = s.free := rfl
@[simp] theorem Kv.setAcq_out (s : Kv) (n : Nat) (u : AcqUnit) : (s.setAcq n u).out = s.out := rfl

/-! ### A register field of a module is written -/

@[simp] theorem Cell.wr_mem (s : Cell) (F : Fld) (v i : Nat) : (s.wr F v i).mem = s.mem := rfl
@[simp] theorem Cell.wr_unc (s : Cell) (F : Fld) (v i : Nat) : (s.wr F v i).unc = s.unc := rfl
@[simp] theorem Cell.wr_banks (s : Cell) (F : Fld) (v i : Nat) : (s.wr F v i).banks = s.banks := rfl
@[simp] theorem Cell.wr_power (s : Cell) (F : Fld) (v i : Nat) : (s.wr F v i).power = s.power := rfl
@[simp] theorem Cell.wr_mainOn (s : Cell) (F : Fld) (v i : Nat) : (s.wr F v i).mainOn = s.mainOn := rfl
@[simp] theorem Cell.wr_held (s : Cell) (F : Fld) (v i : Nat) : (s.wr F v i).held = s.held := rfl
@[simp] theorem Cell.wr_progOn (s : Cell) (F : Fld) (v i : Nat) : (s.wr F v i).progOn = s.progOn := rfl
@[simp] theorem Cell.wr_core (s : Cell) (F : Fld) (v i : Nat) : (s.wr F v i).core = s.core := rfl
@[simp] theorem Cell.wr_free (s : Cell) (F : Fld) (v i : Nat) : (s.wr F v i).free = s.free := rfl
@[simp] theorem Cell.wr_cyc (s : Cell) (F : Fld) (v i : Nat) : (s.wr F v i).cyc = s.cyc := rfl
@[simp] theorem Cell.wr_tbuf (s : Cell) (F : Fld) (v i : Nat) : (s.wr F v i).tbuf = s.tbuf := rfl
@[simp] theorem Cell.wr_restart (s : Cell) (F : Fld) (v i : Nat) : (s.wr F v i).restart = s.restart := rfl
@[simp] theorem Cell.wr_ptOpen (s : Cell) (F : Fld) (v i : Nat) : (s.wr F v i).ptOpen = s.ptOpen := rfl
@[simp] theorem Cell.wr_bns (s : Cell) (F : Fld) (v i : Nat) : (s.wr F v i).bns = s.bns := rfl
@[simp] theorem Cell.wr_timed (s : Cell) (F : Fld) (v i : Nat) : (s.wr F v i).timed = s.timed := rfl
@[simp] theorem Cell.wr_tsrc (s : Cell) (F : Fld) (v i : Nat) : (s.wr F v i).tsrc = s.tsrc := rfl
@[simp] theorem Cell.wr_stepOk (s : Cell) (F : Fld) (v i : Nat) : (s.wr F v i).stepOk = s.stepOk := rfl
@[simp] theorem Cell.wr_sec (s : Cell) (F : Fld) (v i : Nat) : (s.wr F v i).sec = s.sec := rfl
@[simp] theorem Cell.wr_haltReq (s : Cell) (F : Fld) (v i : Nat) : (s.wr F v i).haltReq = s.haltReq := rfl
@[simp] theorem Cell.wr_haltPark (s : Cell) (F : Fld) (v i : Nat) : (s.wr F v i).haltPark = s.haltPark := rfl
@[simp] theorem Cell.wr_entry (s : Cell) (F : Fld) (v i : Nat) : (s.wr F v i).entry = s.entry := rfl
@[simp] theorem Cell.wr_cause (s : Cell) (F : Fld) (v i : Nat) : (s.wr F v i).cause = s.cause := rfl
@[simp] theorem Cell.wr_w (s : Cell) (F : Fld) (v i : Nat) : (s.wr F v i).w = s.w := rfl
@[simp] theorem Cell.wr_e (s : Cell) (F : Fld) (v i : Nat) : (s.wr F v i).e = s.e := rfl
@[simp] theorem Cell.wr_tick (s : Cell) (F : Fld) (v i : Nat) : (s.wr F v i).tick = s.tick := rfl
@[simp] theorem Cell.wr_ofs (s : Cell) (F : Fld) (v i : Nat) : (s.wr F v i).ofs = s.ofs := rfl
@[simp] theorem Cell.wr_freeRun (s : Cell) (F : Fld) (v i : Nat) : (s.wr F v i).freeRun = s.freeRun := rfl
@[simp] theorem Cell.wr_rateRun (s : Cell) (F : Fld) (v i : Nat) : (s.wr F v i).rateRun = s.rateRun := rfl
@[simp] theorem Cell.wr_pos (s : Cell) (F : Fld) (v i : Nat) : (s.wr F v i).pos = s.pos := rfl
@[simp] theorem Cell.wr_str (s : Cell) (F : Fld) (v i : Nat) : (s.wr F v i).str = s.str := rfl
@[simp] theorem Cell.wr_posRun (s : Cell) (F : Fld) (v i : Nat) : (s.wr F v i).posRun = s.posRun := rfl
@[simp] theorem Cell.wr_place (s : Cell) (F : Fld) (v i : Nat) : (s.wr F v i).place = s.place := rfl
@[simp] theorem Cell.wr_hmode (s : Cell) (F : Fld) (v i : Nat) : (s.wr F v i).hmode = s.hmode := rfl
@[simp] theorem Cell.wr_hdr (s : Cell) (F : Fld) (v i : Nat) : (s.wr F v i).hdr = s.hdr := rfl
@[simp] theorem Cell.wr_copies (s : Cell) (F : Fld) (v i : Nat) : (s.wr F v i).copies = s.copies := rfl
@[simp] theorem Cell.wr_staged (s : Cell) (F : Fld) (v i : Nat) : (s.wr F v i).staged = s.staged := rfl
@[simp] theorem Cell.wr_stagedFor (s : Cell) (F : Fld) (v i : Nat) : (s.wr F v i).stagedFor = s.stagedFor := rfl
@[simp] theorem Cell.wr_obey (s : Cell) (F : Fld) (v i : Nat) : (s.wr F v i).obey = s.obey := rfl
@[simp] theorem Cell.wr_oport (s : Cell) (F : Fld) (v i : Nat) : (s.wr F v i).oport = s.oport := rfl
@[simp] theorem Cell.wr_hold (s : Cell) (F : Fld) (v i : Nat) : (s.wr F v i).hold = s.hold := rfl
@[simp] theorem Cell.wr_holding (s : Cell) (F : Fld) (v i : Nat) : (s.wr F v i).holding = s.holding := rfl
@[simp] theorem Cell.wr_parkApplied (s : Cell) (F : Fld) (v i : Nat) : (s.wr F v i).parkApplied = s.parkApplied := rfl
@[simp] theorem Cell.wr_torn (s : Cell) (F : Fld) (v i : Nat) : (s.wr F v i).torn = s.torn := rfl
@[simp] theorem Cell.wr_shdw (s : Cell) (F : Fld) (v i : Nat) : (s.wr F v i).shdw = s.shdw := rfl
@[simp] theorem Cell.wr_lastAck (s : Cell) (F : Fld) (v i : Nat) : (s.wr F v i).lastAck = s.lastAck := rfl
@[simp] theorem Cell.wr_wa (s : Cell) (F : Fld) (v i : Nat) : (s.wr F v i).wa = s.wa := rfl
@[simp] theorem Cell.wr_replies (s : Cell) (F : Fld) (v i : Nat) : (s.wr F v i).replies = s.replies := rfl
@[simp] theorem Cell.wr_reports (s : Cell) (F : Fld) (v i : Nat) : (s.wr F v i).reports = s.reports := rfl
@[simp] theorem Cell.wr_tallyReq (s : Cell) (F : Fld) (v i : Nat) : (s.wr F v i).tallyReq = s.tallyReq := rfl
@[simp] theorem Cell.wr_tallyAt (s : Cell) (F : Fld) (v i : Nat) : (s.wr F v i).tallyAt = s.tallyAt := rfl
@[simp] theorem Cell.wr_tally (s : Cell) (F : Fld) (v i : Nat) : (s.wr F v i).tally = s.tally := rfl
@[simp] theorem Cell.wr_gen (s : Cell) (F : Fld) (v i : Nat) : (s.wr F v i).gen = s.gen := rfl
@[simp] theorem Cell.wr_meas (s : Cell) (F : Fld) (v i : Nat) : (s.wr F v i).meas = s.meas := rfl
@[simp] theorem Cell.wr_grd (s : Cell) (F : Fld) (v i : Nat) : (s.wr F v i).grd = s.grd := rfl
@[simp] theorem Cell.wr_out (s : Cell) (F : Fld) (v i : Nat) : (s.wr F v i).out = s.out := rfl

/-! ### A module sends something -/

@[simp] theorem Cell.send_regs (s : Cell) (o : Out) : (s.send o).regs = s.regs := rfl
@[simp] theorem Cell.send_mem (s : Cell) (o : Out) : (s.send o).mem = s.mem := rfl
@[simp] theorem Cell.send_unc (s : Cell) (o : Out) : (s.send o).unc = s.unc := rfl
@[simp] theorem Cell.send_banks (s : Cell) (o : Out) : (s.send o).banks = s.banks := rfl
@[simp] theorem Cell.send_power (s : Cell) (o : Out) : (s.send o).power = s.power := rfl
@[simp] theorem Cell.send_mainOn (s : Cell) (o : Out) : (s.send o).mainOn = s.mainOn := rfl
@[simp] theorem Cell.send_held (s : Cell) (o : Out) : (s.send o).held = s.held := rfl
@[simp] theorem Cell.send_progOn (s : Cell) (o : Out) : (s.send o).progOn = s.progOn := rfl
@[simp] theorem Cell.send_core (s : Cell) (o : Out) : (s.send o).core = s.core := rfl
@[simp] theorem Cell.send_free (s : Cell) (o : Out) : (s.send o).free = s.free := rfl
@[simp] theorem Cell.send_cyc (s : Cell) (o : Out) : (s.send o).cyc = s.cyc := rfl
@[simp] theorem Cell.send_tbuf (s : Cell) (o : Out) : (s.send o).tbuf = s.tbuf := rfl
@[simp] theorem Cell.send_restart (s : Cell) (o : Out) : (s.send o).restart = s.restart := rfl
@[simp] theorem Cell.send_ptOpen (s : Cell) (o : Out) : (s.send o).ptOpen = s.ptOpen := rfl
@[simp] theorem Cell.send_bns (s : Cell) (o : Out) : (s.send o).bns = s.bns := rfl
@[simp] theorem Cell.send_timed (s : Cell) (o : Out) : (s.send o).timed = s.timed := rfl
@[simp] theorem Cell.send_tsrc (s : Cell) (o : Out) : (s.send o).tsrc = s.tsrc := rfl
@[simp] theorem Cell.send_stepOk (s : Cell) (o : Out) : (s.send o).stepOk = s.stepOk := rfl
@[simp] theorem Cell.send_sec (s : Cell) (o : Out) : (s.send o).sec = s.sec := rfl
@[simp] theorem Cell.send_haltReq (s : Cell) (o : Out) : (s.send o).haltReq = s.haltReq := rfl
@[simp] theorem Cell.send_haltPark (s : Cell) (o : Out) : (s.send o).haltPark = s.haltPark := rfl
@[simp] theorem Cell.send_entry (s : Cell) (o : Out) : (s.send o).entry = s.entry := rfl
@[simp] theorem Cell.send_cause (s : Cell) (o : Out) : (s.send o).cause = s.cause := rfl
@[simp] theorem Cell.send_w (s : Cell) (o : Out) : (s.send o).w = s.w := rfl
@[simp] theorem Cell.send_e (s : Cell) (o : Out) : (s.send o).e = s.e := rfl
@[simp] theorem Cell.send_tick (s : Cell) (o : Out) : (s.send o).tick = s.tick := rfl
@[simp] theorem Cell.send_ofs (s : Cell) (o : Out) : (s.send o).ofs = s.ofs := rfl
@[simp] theorem Cell.send_freeRun (s : Cell) (o : Out) : (s.send o).freeRun = s.freeRun := rfl
@[simp] theorem Cell.send_rateRun (s : Cell) (o : Out) : (s.send o).rateRun = s.rateRun := rfl
@[simp] theorem Cell.send_pos (s : Cell) (o : Out) : (s.send o).pos = s.pos := rfl
@[simp] theorem Cell.send_str (s : Cell) (o : Out) : (s.send o).str = s.str := rfl
@[simp] theorem Cell.send_posRun (s : Cell) (o : Out) : (s.send o).posRun = s.posRun := rfl
@[simp] theorem Cell.send_place (s : Cell) (o : Out) : (s.send o).place = s.place := rfl
@[simp] theorem Cell.send_hmode (s : Cell) (o : Out) : (s.send o).hmode = s.hmode := rfl
@[simp] theorem Cell.send_hdr (s : Cell) (o : Out) : (s.send o).hdr = s.hdr := rfl
@[simp] theorem Cell.send_copies (s : Cell) (o : Out) : (s.send o).copies = s.copies := rfl
@[simp] theorem Cell.send_staged (s : Cell) (o : Out) : (s.send o).staged = s.staged := rfl
@[simp] theorem Cell.send_stagedFor (s : Cell) (o : Out) : (s.send o).stagedFor = s.stagedFor := rfl
@[simp] theorem Cell.send_obey (s : Cell) (o : Out) : (s.send o).obey = s.obey := rfl
@[simp] theorem Cell.send_oport (s : Cell) (o : Out) : (s.send o).oport = s.oport := rfl
@[simp] theorem Cell.send_hold (s : Cell) (o : Out) : (s.send o).hold = s.hold := rfl
@[simp] theorem Cell.send_holding (s : Cell) (o : Out) : (s.send o).holding = s.holding := rfl
@[simp] theorem Cell.send_parkApplied (s : Cell) (o : Out) : (s.send o).parkApplied = s.parkApplied := rfl
@[simp] theorem Cell.send_torn (s : Cell) (o : Out) : (s.send o).torn = s.torn := rfl
@[simp] theorem Cell.send_shdw (s : Cell) (o : Out) : (s.send o).shdw = s.shdw := rfl
@[simp] theorem Cell.send_lastAck (s : Cell) (o : Out) : (s.send o).lastAck = s.lastAck := rfl
@[simp] theorem Cell.send_wa (s : Cell) (o : Out) : (s.send o).wa = s.wa := rfl
@[simp] theorem Cell.send_replies (s : Cell) (o : Out) : (s.send o).replies = s.replies := rfl
@[simp] theorem Cell.send_reports (s : Cell) (o : Out) : (s.send o).reports = s.reports := rfl
@[simp] theorem Cell.send_tallyReq (s : Cell) (o : Out) : (s.send o).tallyReq = s.tallyReq := rfl
@[simp] theorem Cell.send_tallyAt (s : Cell) (o : Out) : (s.send o).tallyAt = s.tallyAt := rfl
@[simp] theorem Cell.send_tally (s : Cell) (o : Out) : (s.send o).tally = s.tally := rfl
@[simp] theorem Cell.send_gen (s : Cell) (o : Out) : (s.send o).gen = s.gen := rfl
@[simp] theorem Cell.send_meas (s : Cell) (o : Out) : (s.send o).meas = s.meas := rfl
@[simp] theorem Cell.send_grd (s : Cell) (o : Out) : (s.send o).grd = s.grd := rfl

/-! ### A register field of the KF-120 is written -/

@[simp] theorem Kf.wr_inReset (s : Kf) (F : Fld) (v i : Nat) : (s.wr F v i).inReset = s.inReset := rfl
@[simp] theorem Kf.wr_hbA (s : Kf) (F : Fld) (v i : Nat) : (s.wr F v i).hbA = s.hbA := rfl
@[simp] theorem Kf.wr_hbB (s : Kf) (F : Fld) (v i : Nat) : (s.wr F v i).hbB = s.hbB := rfl
@[simp] theorem Kf.wr_readyB (s : Kf) (F : Fld) (v i : Nat) : (s.wr F v i).readyB = s.readyB := rfl
@[simp] theorem Kf.wr_xfer (s : Kf) (F : Fld) (v i : Nat) : (s.wr F v i).xfer = s.xfer := rfl
@[simp] theorem Kf.wr_refused (s : Kf) (F : Fld) (v i : Nat) : (s.wr F v i).refused = s.refused := rfl
@[simp] theorem Kf.wr_lapsed (s : Kf) (F : Fld) (v i : Nat) : (s.wr F v i).lapsed = s.lapsed := rfl
@[simp] theorem Kf.wr_lapsedSaid (s : Kf) (F : Fld) (v i : Nat) : (s.wr F v i).lapsedSaid = s.lapsedSaid := rfl
@[simp] theorem Kf.wr_timer (s : Kf) (F : Fld) (v i : Nat) : (s.wr F v i).timer = s.timer := rfl
@[simp] theorem Kf.wr_sil (s : Kf) (F : Fld) (v i : Nat) : (s.wr F v i).sil = s.sil := rfl
@[simp] theorem Kf.wr_supply (s : Kf) (F : Fld) (v i : Nat) : (s.wr F v i).supply = s.supply := rfl
@[simp] theorem Kf.wr_temp (s : Kf) (F : Fld) (v i : Nat) : (s.wr F v i).temp = s.temp := rfl
@[simp] theorem Kf.wr_osc (s : Kf) (F : Fld) (v i : Nat) : (s.wr F v i).osc = s.osc := rfl
@[simp] theorem Kf.wr_cmdOut (s : Kf) (F : Fld) (v i : Nat) : (s.wr F v i).cmdOut = s.cmdOut := rfl
@[simp] theorem Kf.wr_heldOut (s : Kf) (F : Fld) (v i : Nat) : (s.wr F v i).heldOut = s.heldOut := rfl
@[simp] theorem Kf.wr_off (s : Kf) (F : Fld) (v i : Nat) : (s.wr F v i).off = s.off := rfl
@[simp] theorem Kf.wr_cnt (s : Kf) (F : Fld) (v i : Nat) : (s.wr F v i).cnt = s.cnt := rfl
@[simp] theorem Kf.wr_wbRun (s : Kf) (F : Fld) (v i : Nat) : (s.wr F v i).wbRun = s.wbRun := rfl
@[simp] theorem Kf.wr_stRaw (s : Kf) (F : Fld) (v i : Nat) : (s.wr F v i).stRaw = s.stRaw := rfl
@[simp] theorem Kf.wr_stCnt (s : Kf) (F : Fld) (v i : Nat) : (s.wr F v i).stCnt = s.stCnt := rfl
@[simp] theorem Kf.wr_out (s : Kf) (F : Fld) (v i : Nat) : (s.wr F v i).out = s.out := rfl

/-! ### The KF-120 answers -/

@[simp] theorem Kf.reply_regs (s : Kf) (b : Bool) (t : Nat) (p : List Nat) : (s.reply b t p).regs = s.regs := rfl
@[simp] theorem Kf.reply_inReset (s : Kf) (b : Bool) (t : Nat) (p : List Nat) : (s.reply b t p).inReset = s.inReset := rfl
@[simp] theorem Kf.reply_hbA (s : Kf) (b : Bool) (t : Nat) (p : List Nat) : (s.reply b t p).hbA = s.hbA := rfl
@[simp] theorem Kf.reply_hbB (s : Kf) (b : Bool) (t : Nat) (p : List Nat) : (s.reply b t p).hbB = s.hbB := rfl
@[simp] theorem Kf.reply_readyB (s : Kf) (b : Bool) (t : Nat) (p : List Nat) : (s.reply b t p).readyB = s.readyB := rfl
@[simp] theorem Kf.reply_xfer (s : Kf) (b : Bool) (t : Nat) (p : List Nat) : (s.reply b t p).xfer = s.xfer := rfl
@[simp] theorem Kf.reply_refused (s : Kf) (b : Bool) (t : Nat) (p : List Nat) : (s.reply b t p).refused = s.refused := rfl
@[simp] theorem Kf.reply_lapsed (s : Kf) (b : Bool) (t : Nat) (p : List Nat) : (s.reply b t p).lapsed = s.lapsed := rfl
@[simp] theorem Kf.reply_lapsedSaid (s : Kf) (b : Bool) (t : Nat) (p : List Nat) : (s.reply b t p).lapsedSaid = s.lapsedSaid := rfl
@[simp] theorem Kf.reply_timer (s : Kf) (b : Bool) (t : Nat) (p : List Nat) : (s.reply b t p).timer = s.timer := rfl
@[simp] theorem Kf.reply_sil (s : Kf) (b : Bool) (t : Nat) (p : List Nat) : (s.reply b t p).sil = s.sil := rfl
@[simp] theorem Kf.reply_supply (s : Kf) (b : Bool) (t : Nat) (p : List Nat) : (s.reply b t p).supply = s.supply := rfl
@[simp] theorem Kf.reply_temp (s : Kf) (b : Bool) (t : Nat) (p : List Nat) : (s.reply b t p).temp = s.temp := rfl
@[simp] theorem Kf.reply_osc (s : Kf) (b : Bool) (t : Nat) (p : List Nat) : (s.reply b t p).osc = s.osc := rfl
@[simp] theorem Kf.reply_cmdOut (s : Kf) (b : Bool) (t : Nat) (p : List Nat) : (s.reply b t p).cmdOut = s.cmdOut := rfl
@[simp] theorem Kf.reply_heldOut (s : Kf) (b : Bool) (t : Nat) (p : List Nat) : (s.reply b t p).heldOut = s.heldOut := rfl
@[simp] theorem Kf.reply_off (s : Kf) (b : Bool) (t : Nat) (p : List Nat) : (s.reply b t p).off = s.off := rfl
@[simp] theorem Kf.reply_cnt (s : Kf) (b : Bool) (t : Nat) (p : List Nat) : (s.reply b t p).cnt = s.cnt := rfl
@[simp] theorem Kf.reply_wbRun (s : Kf) (b : Bool) (t : Nat) (p : List Nat) : (s.reply b t p).wbRun = s.wbRun := rfl
@[simp] theorem Kf.reply_stRaw (s : Kf) (b : Bool) (t : Nat) (p : List Nat) : (s.reply b t p).stRaw = s.stRaw := rfl
@[simp] theorem Kf.reply_stCnt (s : Kf) (b : Bool) (t : Nat) (p : List Nat) : (s.reply b t p).stCnt = s.stCnt := rfl

end Sys2Proof.Machine
end

