-- ==== Sys2Proof/Laws/Faults.lean ====
section
/-! SUPPORT. What raising a fault message can change, said once: an observation of a chip that each of the collector's own
    updates leaves
alone is left alone by the whole occurrence (R414 to R427). -/

namespace Sys2Proof.Machine

/-- The register fields that an occurrence of a fault source may write. -/
def raiseFlds : List Fld :=
  [Kv.FLT_SSTn.OCC, Kv.FLT_SSTn.SAT, Kv.FLT_SSTn.WCNT, Kv.FLT_SSTn.LAST, Kv.FLT_SSTn.PEND, Kv.FLT_SSTn.CSEV,
   Kv.FLT_LOGP.RP, Kv.FLT_LOGP.LOST, Kv.FLT_LOGP.SAT, Kv.FLT_LOGP.WP, Kv.FLT_LOGWk.W, Kv.FLT_STAT.LFULL, Kv.FLT_STAT.CBLK,
   Kv.FLT_STAT.STOPR, Kv.FLT_STAT.TRIPR, Kv.FLT_FF0.VALID, Kv.FLT_FF0.SRC, Kv.FLT_FF0.KIND, Kv.FLT_FF0.SEV, Kv.FLT_FF0.OVF,
   Kv.FLT_FF0.TIE, Kv.FLT_FF1.ADDR, Kv.FLT_FF2.TICK, Kv.FLT_FF3.NS, Kv.DSP_OLC.STATE, Kv.DSP_STAT.PEND, Kv.EVT_PENDm.PEND,
   Kv.PCI_PBAm.PEND, Kv.ACQn_STAT.STATE, Kv.ACQn_STAT.CAUSE, Kv.ACQn_STAT.REFIRE, Kv.ACQn_STAT.XLATE, Kv.ACQn_FTIK.F,
   Kv.ACQn_NPOST.NPOST]

/-- A relation of a chip to one that it came from, which every update of the collector keeps. -/
structure Untouched (R : Kv → Kv → Prop) : Prop where
  same : ∀ s, R s s
  tr : ∀ {r s t}, R r s → R s t → R r t
  wr : ∀ (s : Kv) (F : Fld) (v i j : Nat), F ∈ raiseFlds → R (s.wr F v i j) s
  byte : ∀ (s : Kv) (a : Nat) (v : Byte), R (s.wrByte a v) s
  send : ∀ (s : Kv) (o : Out), R (s.send o) s
  acq : ∀ (s : Kv) (n : Nat) (u : AcqUnit), R (s.setAcq n u) s
  win : ∀ (s : Kv) (t : Tab Nat), R { s with winOpen := t } s
  log : ∀ (s : Kv) (n : Nat), R { s with logSeq := n } s
  ovr : ∀ (s : Kv) (t : Tab Nat), R { s with ovrAt := t } s
  stop : ∀ (s : Kv) (m : Option (Nat × Nat)), R { s with stopNext := true, dsp := { s.dsp with modeReq := m } } s
  rel : ∀ (s : Kv) (l : List Nat), R { s with evRelease := l } s
  dirty : ∀ (s : Kv), R { s with olcDirty := true } s
  reload : ∀ (s : Kv), R { s with dsp := { s.dsp with olcReload := true } } s
  fire : ∀ (s : Kv) (t : Option Nat), R { s with bfireAt := t } s
  once : ∀ (s : Kv), R { s with svlSafe := false, svlTclr := false, svlResume := false } s

variable {R : Kv → Kv → Prop} (u : Untouched R)
include u

theorem Untouched.each (s : Kv) (l : List Nat) (f : Kv → Nat → Kv) (h : ∀ s n, R (f s n) s) : R (s.each l f) s := by
  unfold Kv.each
  induction l generalizing s with
  | nil => exact u.same s
  | cons n l ih => exact u.tr (ih (f s n)) (h s n)

theorem Untouched.when (s : Kv) (b : Bool) (f : Kv → Kv) (h : R (f s) s) : R (s.when b f) s := by
  cases b
  · exact u.same s
  · exact h

theorem Untouched.mark (s : Kv) (F : Fld) (i j : Nat) (h : F ∈ raiseFlds) : R (s.mark F i j) s := u.wr s F 1 i j h

theorem Untouched.bump (s : Kv) (F G : Fld) (i j : Nat) (h : F ∈ raiseFlds) (g : G ∈ raiseFlds) : R (s.bump F G i j).1 s := by
  unfold Kv.bump
  dsimp only
  split
  · exact u.same _
  · split
    · exact u.tr (u.mark _ _ _ _ g) (u.wr _ _ _ _ _ h)
    · exact u.wr _ _ _ _ _ h

theorem Untouched.fltCount (s : Kv) (n : Nat) : R (s.fltCount n).1 s := u.bump _ _ _ _ _ (by simp [raiseFlds]) (by simp
    [raiseFlds])

theorem Untouched.winEnd (s : Kv) (n e : Nat) : R (s.winEnd n e) s := by
  unfold Kv.winEnd
  dsimp only
  split
  · exact u.same _
  · split
    · exact u.tr (u.win _ _) (u.wr _ _ _ _ _ (by simp [raiseFlds]))
    · exact u.tr (u.win _ _) (u.tr (u.wr _ _ _ _ _ (by simp [raiseFlds])) (u.wr _ _ _ _ _ (by simp [raiseFlds])))

theorem Untouched.fltWindow (s : Kv) (n : Nat) : R (s.fltWindow n) s := by
  unfold Kv.fltWindow
  split
  · dsimp only
    refine u.tr (u.when _ _ _ (u.mark _ _ _ _ (by simp [raiseFlds]))) (u.tr (u.wr _ _ _ _ _ (by simp [raiseFlds])) ?_)
    split
    · exact u.winEnd _ _ _
    · exact u.tr (u.win _ _) (u.winEnd _ _ _)
  · exact u.same _

theorem Untouched.fltLog (s : Kv) (m : Msg) (v : Nat) (e f : Bool) : R (s.fltLog m v e f).1 s := by
  unfold Kv.fltLog
  split
  · dsimp only
    refine u.tr (u.log _ _) (u.tr (u.when _ _ _ (u.mark _ _ _ _ (by simp [raiseFlds]))) ?_)
    refine u.tr (u.wr _ _ _ _ _ (by simp [raiseFlds])) (u.tr (u.wr _ _ _ _ _ (by simp [raiseFlds]))
        (u.tr (u.wr _ _ _ _ _ (by simp [raiseFlds]))
      (u.tr (u.wr _ _ _ _ _ (by simp [raiseFlds])) (u.tr (u.wr _ _ _ _ _ (by simp [raiseFlds])) ?_))))
    split
    · exact u.tr (u.bump _ _ _ _ _ (by simp [raiseFlds]) (by simp [raiseFlds])) (u.wr _ _ _ _ _ (by simp [raiseFlds]))
    · exact u.same _
  · exact u.same _

theorem Untouched.fltLatch (s : Kv) (m : Msg) (v : Nat) : R (s.fltLatch m v) s := by
  unfold Kv.fltLatch
  split
  · dsimp only
    refine u.tr (u.wr _ _ _ _ _ (by simp [raiseFlds])) (u.tr (u.wr _ _ _ _ _ (by simp [raiseFlds]))
        (u.tr (u.wr _ _ _ _ _ (by simp [raiseFlds]))
      (u.tr (u.wr _ _ _ _ _ (by simp [raiseFlds])) (u.tr (u.wr _ _ _ _ _ (by simp [raiseFlds]))
          (u.tr (u.wr _ _ _ _ _ (by simp [raiseFlds]))
        (u.mark _ _ _ _ (by simp [raiseFlds])))))))
  · split
    · exact u.tr (u.when _ _ _ (u.mark _ _ _ _ (by simp [raiseFlds]))) (u.mark _ _ _ _ (by simp [raiseFlds]))
    · exact u.same _

theorem Untouched.sendCmd (s : Kv) (b : Bool) : R (s.sendCmd b) s := by
  unfold Kv.sendCmd
  split
  · exact u.tr (u.once _) (u.send _ _)
  · exact u.same _

theorem Untouched.parkAt (s : Kv) (a t : Nat) : R (s.parkAt a t) s := by
  unfold Kv.parkAt
  dsimp only
  split
  · exact u.same _
  · exact u.ovr _ _

theorem Untouched.fltReact (s : Kv) (m : Msg) (t v : Nat) : R (s.fltReact m t v) s := by
  unfold Kv.fltReact
  dsimp only
  refine u.tr (u.when _ _ _ ?_) (u.tr (u.when _ _ _ ?_) (u.tr (u.when _ _ _ ?_) (u.when _ _ _ ?_)))
  · exact u.tr (u.sendCmd _ _) (u.mark _ _ _ _ (by simp [raiseFlds]))
  · refine u.tr (u.stop _ _) (u.tr (u.wr _ _ _ _ _ (by simp [raiseFlds])) (u.tr (u.mark _ _ _ _ (by simp [raiseFlds]))
      (u.when _ _ _ ?_)))
    exact u.tr (u.reload _) (u.wr _ _ _ _ _ (by simp [raiseFlds]))
  · exact u.parkAt _ _ _
  · exact u.mark _ _ _ _ (by simp [raiseFlds])

theorem Untouched.acqFireUnit (s : Kv) (n f c : Nat) : R (s.acqFireUnit n f c) s := by
  unfold Kv.acqFireUnit
  dsimp only
  split
  · split
    · exact u.same _
    · split
      · exact u.tr (u.wr _ _ _ _ _ (by simp [raiseFlds])) (u.tr (u.acq _ _ _) (u.tr (u.byte _ _ _)
          (u.tr (u.wr _ _ _ _ _ (by simp [raiseFlds])) (u.tr (u.wr _ _ _ _ _ (by simp [raiseFlds]))
              (u.wr _ _ _ _ _ (by simp [raiseFlds]))))))
      · exact u.tr (u.acq _ _ _) (u.tr (u.wr _ _ _ _ _ (by simp [raiseFlds])) (u.tr (u.wr _ _ _ _ _ (by simp [raiseFlds]))
          (u.wr _ _ _ _ _ (by simp [raiseFlds]))))
  · split
    · split
      · exact u.wr _ _ _ _ _ (by simp [raiseFlds])
      · exact u.mark _ _ _ _ (by simp [raiseFlds])
    · split
      · exact u.mark _ _ _ _ (by simp [raiseFlds])
      · exact u.same _

theorem Untouched.acqFire (s : Kv) (src : Nat → Bool) (f c : Nat) : R (s.acqFire src f c) s := by
  have own : ∀ (t : Kv) (l : List Nat) (d : Nat), R (t.each l (fun s n => s.acqFireUnit n f d)) t :=
    fun t l d => u.each t l _ (fun s n => u.acqFireUnit s n f d)
  unfold Kv.acqFire
  dsimp only
  split
  · exact own _ _ _
  · split
    · exact u.tr (u.fire _ _) (u.tr (u.each _ _ _ (fun s n => u.mark s _ n 0 (by simp [raiseFlds]))) (u.tr (own _ _ _)
        (own _ _ _)))
    · exact u.tr (u.fire _ _) (u.tr (own _ _ _) (own _ _ _))

theorem Untouched.msix (s : Kv) (v : Nat) : R (s.msix v) s := by
  unfold Kv.msix
  split
  · exact u.wr _ _ _ _ _ (by simp [raiseFlds])
  · exact u.send _ _

theorem Untouched.fltEvent (s : Kv) (n v : Nat) : R (s.fltEvent n v) s := by
  unfold Kv.fltEvent
  split
  · dsimp only
    exact u.tr (u.acqFire _ _ _ _) (u.tr (u.when _ _ _ (u.rel _ _)) (u.tr (u.when _ _ _ (u.msix _ _))
      (u.wr _ _ _ _ _ (by simp [raiseFlds]))))
  · exact u.same _

theorem Untouched.accept (s : Kv) (n : Nat) (m : Msg) : R (s.accept n m).1 s := by
  unfold Kv.accept
  dsimp only
  split
  · exact u.tr (u.fltWindow _ _) (u.fltCount _ _)
  · refine u.tr (u.fltEvent _ _ _) (u.tr (u.fltReact _ _ _ _) (u.tr (u.fltLatch _ _ _) (u.tr (u.fltLog _ _ _ _ _) ?_)))
    refine u.tr (u.when _ _ _ (u.dirty _)) (u.tr (u.when _ _ _ ?_) (u.tr (u.fltWindow _ _) (u.fltCount _ _)))
    exact u.tr (u.wr _ _ _ _ _ (by simp [raiseFlds])) (u.mark _ _ _ _ (by simp [raiseFlds]))

theorem Untouched.acceptAll (t n : Nat) (s : Kv) (l : List Msg) : R (Kv.acceptAll t n s l) s := by
  induction n generalizing s l with
  | zero => exact u.same _
  | succ n ih =>
    cases l with
    | nil => exact u.same _
    | cons m rest => exact u.tr (ih _ _) (u.accept s t m)

/-- Raising a fault message leaves such an observation alone. -/
theorem Untouched.raise (s : Kv) (src kind addr : Nat) : R (s.raise src kind addr) s := u.acceptAll _ _ _ _

/-- So does counting with a saturating counter that no observation here shows. -/
theorem Untouched.count (s : Kv) (F G : Fld) (src i j : Nat) (h : ∀ (s : Kv) (v : Nat), R (s.wr F v i j) s)
    (g : ∀ (s : Kv), R (s.mark G i j) s) : R (s.count F G src i j) s := by
  have b : R (s.bump F G i j).1 s := by
    unfold Kv.bump
    dsimp only
    split
    · exact u.same _
    · split
      · exact u.tr (g _) (h _ _)
      · exact h _ _
  unfold Kv.count
  dsimp only
  split
  · exact u.tr (u.raise _ _ _ _) b
  · exact b

omit u

/-! ### What an occurrence leaves alone -/

/-- An observation that every update of the collector leaves alone. -/
theorem untouched_of {α : Type} (p : Kv → α) (wr : ∀ (s : Kv) (F : Fld) (v i j : Nat), F ∈ raiseFlds → p (s.wr F v i j) = p s)
    (byte : ∀ (s : Kv) (a : Nat) (v : Byte), p (s.wrByte a v) = p s) (send : ∀ (s : Kv) (o : Out), p (s.send o) = p s)
    (acq : ∀ (s : Kv) (n : Nat) (u : AcqUnit), p (s.setAcq n u) = p s) (win : ∀ (s : Kv) (t : Tab Nat), p { s with winOpen := t } = p s)
    (log : ∀ (s : Kv) (n : Nat), p { s with logSeq := n } = p s) (ovr : ∀ (s : Kv) (t : Tab Nat), p { s with ovrAt := t } = p s)
    (stop : ∀ (s : Kv) (m : Option (Nat × Nat)), p { s with stopNext := true, dsp := { s.dsp with modeReq := m } } = p s)
    (rel : ∀ (s : Kv) (l : List Nat), p { s with evRelease := l } = p s) (dirty : ∀ (s : Kv), p { s with olcDirty := true } = p s)
    (fire : ∀ (s : Kv) (t : Option Nat), p { s with bfireAt := t } = p s)
    (once : ∀ (s : Kv), p { s with svlSafe := false, svlTclr := false, svlResume := false } = p s)
    (reload : ∀ (s : Kv), p { s with dsp := { s.dsp with olcReload := true } } = p s) :
    Untouched (fun t s => p t = p s) :=
  ⟨fun _ => rfl, fun a b => a.trans b, wr, byte, send, acq, win, log, ovr, stop, rel, dirty, reload, fire, once⟩

/-- A register field that the collector does not write. -/
theorem untouched_rd (F : Fld) (i j : Nat) (h : ∀ G ∈ raiseFlds, ∀ a b : Nat, F.key i j ≠ G.key a b) :
    Untouched (fun t s => t.rd F i j = s.rd F i j) :=
  untouched_of (fun s => s.rd F i j) (fun s G v a b hG => s.rd_wr_ne v (h G hG a b)) (fun _ _ _ => rfl) (fun _ _ => rfl) (fun _ _ _ => rfl)
    (fun _ _ => rfl) (fun _ _ => rfl) (fun _ _ => rfl) (fun _ _ => rfl) (fun _ _ => rfl) (fun _ => rfl) (fun _ _ => rfl) (fun _ => rfl) (fun _ => rfl)

@[simp] theorem Kv.raise_unc (s : Kv) (src kind addr : Nat) : (s.raise src kind addr).unc = s.unc :=
  (untouched_of Kv.unc (fun _ _ _ _ _ _ => rfl) (fun _ _ _ => rfl) (fun _ _ => rfl) (fun _ _ _ => rfl) (fun _ _ => rfl) (fun _ _ => rfl)
    (fun _ _ => rfl) (fun _ _ => rfl) (fun _ _ => rfl) (fun _ => rfl) (fun _ _ => rfl) (fun _ => rfl) (fun _ => rfl)).raise s src kind addr

@[simp] theorem Kv.raise_tim (s : Kv) (src kind addr : Nat) : (s.raise src kind addr).tim = s.tim :=
  (untouched_of Kv.tim (fun _ _ _ _ _ _ => rfl) (fun _ _ _ => rfl) (fun _ _ => rfl) (fun _ _ _ => rfl) (fun _ _ => rfl) (fun _ _ => rfl)
    (fun _ _ => rfl) (fun _ _ => rfl) (fun _ _ => rfl) (fun _ => rfl) (fun _ _ => rfl) (fun _ => rfl) (fun _ => rfl)).raise s src kind addr

@[simp] theorem Kv.raise_t0Ended (s : Kv) (src kind addr : Nat) : (s.raise src kind addr).t0Ended = s.t0Ended :=
  (untouched_of Kv.t0Ended (fun _ _ _ _ _ _ => rfl) (fun _ _ _ => rfl) (fun _ _ => rfl) (fun _ _ _ => rfl) (fun _ _ => rfl) (fun _ _ => rfl)
    (fun _ _ => rfl) (fun _ _ => rfl) (fun _ _ => rfl) (fun _ => rfl) (fun _ _ => rfl) (fun _ => rfl) (fun _ => rfl)).raise s src kind addr

@[simp] theorem Kv.raise_svlLast (s : Kv) (src kind addr : Nat) : (s.raise src kind addr).svlLast = s.svlLast :=
  (untouched_of Kv.svlLast (fun _ _ _ _ _ _ => rfl) (fun _ _ _ => rfl) (fun _ _ => rfl) (fun _ _ _ => rfl) (fun _ _ => rfl) (fun _ _ => rfl)
    (fun _ _ => rfl) (fun _ _ => rfl) (fun _ _ => rfl) (fun _ => rfl) (fun _ _ => rfl) (fun _ => rfl) (fun _ => rfl)).raise s src kind addr

@[simp] theorem Kv.raise_sp (s : Kv) (src kind addr : Nat) : (s.raise src kind addr).sp = s.sp :=
  (untouched_of Kv.sp (fun _ _ _ _ _ _ => rfl) (fun _ _ _ => rfl) (fun _ _ => rfl) (fun _ _ _ => rfl) (fun _ _ => rfl) (fun _ _ => rfl)
    (fun _ _ => rfl) (fun _ _ => rfl) (fun _ _ => rfl) (fun _ => rfl) (fun _ _ => rfl) (fun _ => rfl) (fun _ => rfl)).raise s src kind addr

@[simp] theorem Kv.raise_cl (s : Kv) (src kind addr : Nat) : (s.raise src kind addr).cl = s.cl :=
  (untouched_of Kv.cl (fun _ _ _ _ _ _ => rfl) (fun _ _ _ => rfl) (fun _ _ => rfl) (fun _ _ _ => rfl) (fun _ _ => rfl) (fun _ _ => rfl)
    (fun _ _ => rfl) (fun _ _ => rfl) (fun _ _ => rfl) (fun _ => rfl) (fun _ _ => rfl) (fun _ => rfl) (fun _ => rfl)).raise s src kind addr

@[simp] theorem Kv.raise_col (s : Kv) (src kind addr : Nat) : (s.raise src kind addr).col = s.col :=
  (untouched_of Kv.col (fun _ _ _ _ _ _ => rfl) (fun _ _ _ => rfl) (fun _ _ => rfl) (fun _ _ _ => rfl) (fun _ _ => rfl) (fun _ _ => rfl)
    (fun _ _ => rfl) (fun _ _ => rfl) (fun _ _ => rfl) (fun _ => rfl) (fun _ _ => rfl) (fun _ => rfl) (fun _ => rfl)).raise s src kind addr

@[simp] theorem Kv.raise_al (s : Kv) (src kind addr : Nat) : (s.raise src kind addr).al = s.al :=
  (untouched_of Kv.al (fun _ _ _ _ _ _ => rfl) (fun _ _ _ => rfl) (fun _ _ => rfl) (fun _ _ _ => rfl) (fun _ _ => rfl) (fun _ _ => rfl)
    (fun _ _ => rfl) (fun _ _ => rfl) (fun _ _ => rfl) (fun _ => rfl) (fun _ _ => rfl) (fun _ => rfl) (fun _ => rfl)).raise s src kind addr

@[simp] theorem Kv.raise_sfe (s : Kv) (src kind addr : Nat) : (s.raise src kind addr).sfe = s.sfe :=
  (untouched_of Kv.sfe (fun _ _ _ _ _ _ => rfl) (fun _ _ _ => rfl) (fun _ _ => rfl) (fun _ _ _ => rfl) (fun _ _ => rfl) (fun _ _ => rfl)
    (fun _ _ => rfl) (fun _ _ => rfl) (fun _ _ => rfl) (fun _ => rfl) (fun _ _ => rfl) (fun _ => rfl) (fun _ => rfl)).raise s src kind addr

@[simp] theorem Kv.raise_cas (s : Kv) (src kind addr : Nat) : (s.raise src kind addr).cas = s.cas :=
  (untouched_of Kv.cas (fun _ _ _ _ _ _ => rfl) (fun _ _ _ => rfl) (fun _ _ => rfl) (fun _ _ _ => rfl) (fun _ _ => rfl) (fun _ _ => rfl)
    (fun _ _ => rfl) (fun _ _ => rfl) (fun _ _ => rfl) (fun _ => rfl) (fun _ _ => rfl) (fun _ => rfl) (fun _ => rfl)).raise s src kind addr

@[simp] theorem Kv.raise_sec (s : Kv) (src kind addr : Nat) : (s.raise src kind addr).sec = s.sec :=
  (untouched_of Kv.sec (fun _ _ _ _ _ _ => rfl) (fun _ _ _ => rfl) (fun _ _ => rfl) (fun _ _ _ => rfl) (fun _ _ => rfl) (fun _ _ => rfl)
    (fun _ _ => rfl) (fun _ _ => rfl) (fun _ _ => rfl) (fun _ => rfl) (fun _ _ => rfl) (fun _ => rfl) (fun _ => rfl)).raise s src kind addr

@[simp] theorem Kv.raise_hst (s : Kv) (src kind addr : Nat) : (s.raise src kind addr).hst = s.hst :=
  (untouched_of Kv.hst (fun _ _ _ _ _ _ => rfl) (fun _ _ _ => rfl) (fun _ _ => rfl) (fun _ _ _ => rfl) (fun _ _ => rfl) (fun _ _ => rfl)
    (fun _ _ => rfl) (fun _ _ => rfl) (fun _ _ => rfl) (fun _ => rfl) (fun _ _ => rfl) (fun _ => rfl) (fun _ => rfl)).raise s src kind addr

@[simp] theorem Kv.raise_boot (s : Kv) (src kind addr : Nat) : (s.raise src kind addr).boot = s.boot :=
  (untouched_of Kv.boot (fun _ _ _ _ _ _ => rfl) (fun _ _ _ => rfl) (fun _ _ => rfl) (fun _ _ _ => rfl) (fun _ _ => rfl) (fun _ _ => rfl)
    (fun _ _ => rfl) (fun _ _ => rfl) (fun _ _ => rfl) (fun _ => rfl) (fun _ _ => rfl) (fun _ => rfl) (fun _ => rfl)).raise s src kind addr

@[simp] theorem Kv.raise_crcFrom (s : Kv) (src kind addr : Nat) : (s.raise src kind addr).crcFrom = s.crcFrom :=
  (untouched_of Kv.crcFrom (fun _ _ _ _ _ _ => rfl) (fun _ _ _ => rfl) (fun _ _ => rfl) (fun _ _ _ => rfl) (fun _ _ => rfl) (fun _ _ => rfl)
    (fun _ _ => rfl) (fun _ _ => rfl) (fun _ _ => rfl) (fun _ => rfl) (fun _ _ => rfl) (fun _ => rfl) (fun _ => rfl)).raise s src kind addr

@[simp] theorem Kv.raise_crcLen (s : Kv) (src kind addr : Nat) : (s.raise src kind addr).crcLen = s.crcLen :=
  (untouched_of Kv.crcLen (fun _ _ _ _ _ _ => rfl) (fun _ _ _ => rfl) (fun _ _ => rfl) (fun _ _ _ => rfl) (fun _ _ => rfl) (fun _ _ => rfl)
    (fun _ _ => rfl) (fun _ _ => rfl) (fun _ _ => rfl) (fun _ => rfl) (fun _ _ => rfl) (fun _ => rfl) (fun _ => rfl)).raise s src kind addr

@[simp] theorem Kv.raise_cellArm (s : Kv) (src kind addr : Nat) : (s.raise src kind addr).cellArm = s.cellArm :=
  (untouched_of Kv.cellArm (fun _ _ _ _ _ _ => rfl) (fun _ _ _ => rfl) (fun _ _ => rfl) (fun _ _ _ => rfl) (fun _ _ => rfl) (fun _ _ => rfl)
    (fun _ _ => rfl) (fun _ _ => rfl) (fun _ _ => rfl) (fun _ => rfl) (fun _ _ => rfl) (fun _ => rfl) (fun _ => rfl)).raise s src kind addr

@[simp] theorem Kv.raise_free (s : Kv) (src kind addr : Nat) : (s.raise src kind addr).free = s.free :=
  (untouched_of Kv.free (fun _ _ _ _ _ _ => rfl) (fun _ _ _ => rfl) (fun _ _ => rfl) (fun _ _ _ => rfl) (fun _ _ => rfl) (fun _ _ => rfl)
    (fun _ _ => rfl) (fun _ _ => rfl) (fun _ _ => rfl) (fun _ => rfl) (fun _ _ => rfl) (fun _ => rfl) (fun _ => rfl)).raise s src kind addr

end Sys2Proof.Machine
end

