-- ==== Sys2Proof/Laws/Memory.lean ====
section
/-! SUPPORT. The memories: reads after writes, and that every operation over a memory keeps its canonical form. -/

namespace Sys2Proof.Machine

/-! ### Bytes and words of a chip -/

@[simp] theorem Kv.rdByte_wrByte_same (s : Kv) (a : Nat) (v : Byte) : (s.wrByte a v).rdByte a = v := Tab.get_set_same ..

theorem Kv.rdByte_wrByte_ne (s : Kv) {a b : Nat} (v : Byte) (h : b ≠ a) : (s.wrByte a v).rdByte b = s.rdByte b := Tab.get_set_ne _ _ _ h

/-- A write of `n` bytes leaves every byte outside them alone, and sets each of them. -/
theorem Kv.rdByte_wrLe_out (s : Kv) (a v n b : Nat) (h : b < a ∨ a + n ≤ b) : (s.wrLe a v n).rdByte b = s.rdByte b := by
  induction n generalizing s a v with
  | zero => rfl
  | succ n ih => rw [Kv.wrLe, ih _ _ _ (by omega), Kv.rdByte_wrByte_ne _ _ (by omega)]

theorem Kv.rdByte_wrLe_in (s : Kv) (a v n i : Nat) (h : i < n) : (s.wrLe a v n).rdByte (a + i) = BitVec.ofNat 8 (v / 256 ^ i) := by
  induction n generalizing s a v i with
  | zero => omega
  | succ n ih =>
    cases i with
    | zero => rw [Kv.wrLe, Kv.rdByte_wrLe_out _ _ _ _ _ (by omega)]; simp
    | succ i =>
      rw [Kv.wrLe, show a + (i + 1) = a + 1 + i by omega, ih _ _ _ _ (by omega), Nat.div_div_eq_div_mul, ← Nat.pow_succ']

theorem Kv.rdByte_wrBe_out (s : Kv) (a v n b : Nat) (h : b < a ∨ a + n ≤ b) : (s.wrBe a v n).rdByte b = s.rdByte b := by
  induction n generalizing s a with
  | zero => rfl
  | succ n ih => rw [Kv.wrBe, ih _ _ (by omega), Kv.rdByte_wrByte_ne _ _ (by omega)]

theorem Kv.rdByte_zero (s : Kv) (a n b : Nat) : (s.zero a n).rdByte b = if a ≤ b ∧ b < a + n then 0 else s.rdByte b := by
  induction n generalizing s a with
  | zero => simp [Kv.zero, show ¬ (a ≤ b ∧ b < a) by omega]
  | succ n ih =>
    rw [Kv.zero, ih]
    by_cases h : b = a
    · subst h; simp
    · rw [Kv.rdByte_wrByte_ne _ _ h]
      exact if_congr (by omega) rfl rfl

/-- Equal bytes read as equal words. -/
theorem Kv.rdLe_congr (s t : Kv) (a n : Nat) (h : ∀ i, i < n → s.rdByte (a + i) = t.rdByte (a + i)) : s.rdLe a n = t.rdLe a n := by
  induction n generalizing a with
  | zero => rfl
  | succ n ih =>
    have h0 := h 0 (by omega)
    rw [Nat.add_zero] at h0
    rw [Kv.rdLe, Kv.rdLe, h0, ih (a + 1) (fun i hi => by rw [show a + 1 + i = a + (i + 1) by omega]; exact h (i + 1) (by omega))]

/-- A word is read back, but for the bits it has no bytes for. -/
theorem Kv.rdLe_wrLe_same (s : Kv) (a v n : Nat) : (s.wrLe a v n).rdLe a n = v % 256 ^ n := by
  induction n generalizing s a v with
  | zero => simp [Kv.rdLe, Nat.mod_one]
  | succ n ih =>
    have h := Kv.rdByte_wrLe_in s a v (n + 1) 0 (by omega)
    rw [Nat.pow_zero, Nat.div_one] at h
    rw [show a + 0 = a from rfl] at h
    rw [Kv.rdLe, h, Kv.wrLe, ih, BitVec.toNat_ofNat, show 256 ^ (n + 1) = 256 * 256 ^ n from Nat.pow_succ']
    exact (Nat.mod_mul (x := v) (a := 256) (b := 256 ^ n)).symm

/-- A word that no byte written overlaps reads as before. -/
theorem Kv.rdLe_wrLe_ne (s : Kv) (a v n b m : Nat) (h : b + m ≤ a ∨ a + n ≤ b) : (s.wrLe a v n).rdLe b m = s.rdLe b m :=
  Kv.rdLe_congr _ _ _ _ (fun i hi => Kv.rdByte_wrLe_out _ _ _ _ _ (by omega))

/-- Writing registers leaves memory words alone. -/
@[simp] theorem Kv.rdByte_wr (s : Kv) (F : Fld) (v i j a : Nat) : (s.wr F v i j).rdByte a = s.rdByte a := rfl
@[simp] theorem Kv.rdLe_wr (s : Kv) (F : Fld) (v i j a n : Nat) : (s.wr F v i j).rdLe a n = s.rdLe a n :=
  Kv.rdLe_congr _ _ _ _ (fun _ _ => rfl)

/-- The symbols in error of a word are those last put there, and a repaired word is not uncorrectable. -/
@[simp] theorem Kv.errs_setErrs_same (s : Kv) (a m : Nat) : (s.setErrs a m).errs a = m % 2 ^ 20 := by
  rw [Kv.errs, Kv.setErrs, Tab.get_set_same]

@[simp] theorem Kv.bad_setErrs_zero (s : Kv) (a : Nat) : (s.setErrs a 0).bad a = false := by
  rw [Kv.bad, Kv.errs_setErrs_same]
  rfl

theorem Kv.bad_setErrs_ne (s : Kv) {a c : Nat} (m : Nat) (h : c / 8 ≠ a / 8) : (s.setErrs a m).bad c = s.bad c := by
  have e : (s.setErrs a m).errs c = s.errs c := Tab.get_set_ne _ _ _ h
  rw [Kv.bad, Kv.bad, e]
  rfl

/-! ### The canonical form -/

/-- Keeping a part of a table keeps its form. -/
theorem Tab.wfFrom_filter {α : Type} [DecidableEq α] (d : α) (q : Nat × α → Bool) (lo : Nat) (t : Tab α) (w : Tab.wfFrom d lo t = true) :
    Tab.wfFrom d lo (t.filter q) = true := by
  induction t generalizing lo with
  | nil => rfl
  | cons e rest ih =>
    obtain ⟨j, v⟩ := e
    simp only [Tab.wfFrom, Bool.and_eq_true, decide_eq_true_eq] at w
    simp only [List.filter_cons]
    split
    · simp only [Tab.wfFrom, Bool.and_eq_true, decide_eq_true_eq]
      exact ⟨w.1, ih (j + 1) w.2⟩
    · exact ih lo (Tab.wfFrom_mono d (by omega) rest w.2)

theorem Memory.wf_filter (q : Host.Cell → Bool) (m : List Host.Cell) (w : Memory.wf m = true) : Memory.wf (m.filter q) = true :=
  Tab.wfFrom_filter 0 q 0 m w

theorem Memory.wf_set (a : Nat) (v : Byte) (m : List Host.Cell) (w : Memory.wf m = true) : Memory.wf (Tab.set 0 a v m) = true :=
  Tab.wf_set 0 a v m w

theorem Kv.memWf_iff (s : Kv) : s.memWf = true ↔ Memory.wf s.mem = true ∧ Tab.wf 0 s.unc = true := by
  simp only [Kv.memWf, Bool.and_eq_true]

theorem Kv.memWf_wrByte (s : Kv) (a : Nat) (v : Byte) (w : s.memWf = true) : (s.wrByte a v).memWf = true := by
  rw [Kv.memWf_iff] at *
  exact ⟨Memory.wf_set a v s.mem w.1, w.2⟩

theorem Kv.memWf_setErrs (s : Kv) (a m : Nat) (w : s.memWf = true) : (s.setErrs a m).memWf = true := by
  rw [Kv.memWf_iff] at *
  exact ⟨w.1, Tab.wf_set 0 _ _ _ w.2⟩

theorem Kv.memWf_wrLe (s : Kv) (a v n : Nat) (w : s.memWf = true) : (s.wrLe a v n).memWf = true := by
  induction n generalizing s a v with
  | zero => exact w
  | succ n ih => exact ih _ _ _ (Kv.memWf_wrByte s _ _ w)

theorem Kv.memWf_wrBe (s : Kv) (a v n : Nat) (w : s.memWf = true) : (s.wrBe a v n).memWf = true := by
  induction n generalizing s a with
  | zero => exact w
  | succ n ih => exact ih _ _ (Kv.memWf_wrByte s _ _ w)

theorem Kv.memWf_zero (s : Kv) (a n : Nat) (w : s.memWf = true) : (s.zero a n).memWf = true := by
  induction n generalizing s a with
  | zero => exact w
  | succ n ih => exact ih _ _ (Kv.memWf_wrByte s _ _ w)

theorem Kv.memWf_putBytes (s : Kv) (a : Nat) (l : List Byte) (w : s.memWf = true) : (s.putBytes a l).memWf = true := by
  have h : ∀ (l : List Byte) (q : Kv × Nat), q.1.memWf = true →
      (l.foldl (fun (q : Kv × Nat) b => (q.1.wrByte q.2 b, q.2 + 1)) q).1.memWf = true := by
    intro l
    induction l with
    | nil => exact fun _ h => h
    | cons b l ih => exact fun q h => ih _ (Kv.memWf_wrByte _ _ _ h)
  exact h l (s, a) w

/-- Initialising DRAM, clearing a tally slot and clearing the records keep a part of the memory each. -/
theorem Kv.memWf_memInit (s : Kv) (w : s.memWf = true) : (memInitKv s).memWf = true := by
  rw [Kv.memWf_iff] at *
  exact ⟨Memory.wf_filter _ _ w.1, Tab.wfFrom_filter 0 _ 0 _ w.2⟩

theorem Kv.memWf_wr (s : Kv) (F : Fld) (v i j : Nat) (w : s.memWf = true) : (s.wr F v i j).memWf = true := w

/-- An occurrence of a fault source writes memory only by whole bytes. -/
theorem Kv.memWf_raise (s : Kv) (src kind addr : Nat) (w : s.memWf = true) : (s.raise src kind addr).memWf = true := by
  have u : Untouched (fun t s : Kv => s.memWf = true → t.memWf = true) :=
    ⟨fun _ h => h, fun a b h => a (b h), fun _ _ _ _ _ _ h => h, fun s a v h => s.memWf_wrByte a v h, fun _ _ h => h, fun _ _ _ h => h,
      fun _ _ h => h, fun _ _ h => h, fun _ _ h => h, fun _ _ h => h, fun _ _ h => h, fun _ h => h, fun _ h => h, fun _ _ h => h, fun _ h => h⟩
  exact u.raise s src kind addr w

/-- Reset has it. -/
theorem reset_memWf : (∀ c, (State.reset.chip c).memWf = true) ∧ ∀ a, (State.reset.cell a).memWf = true :=
  ⟨fun c => by cases c <;> rfl, fun _ => rfl⟩

end Sys2Proof.Machine
end

