-- ==== Sys2Proof/Laws/CellImage.lean ====
section
/-! SUPPORT. What loading a cell program image changes: the fields of R624, and memory in canonical form. -/

namespace Sys2Proof.Machine

theorem Fld.at?_lt {f : Fld} {a i j : Nat} (h : f.at? a = some (i, j)) : i < f.c1 := by
  simp only [Fld.at?] at h
  split at h
  · rename_i w; cases h; exact w.2.2.1
  · cases h

/-- Loading an image keeps every part of a module that a write of a field of R624 and a write of a byte keep. -/
theorem Cell.loadImage_keeps {α : Type} (g : Cell → α) (i : ImgChk) (s : Cell)
    (hw : ∀ f ∈ Kc.imageFlds, ∀ n < f.c1, ∀ v (t : Cell), g (t.wr f v n) = g t)
    (hm : ∀ (t : Cell) m, g { t with mem := m } = g t) : g (s.loadImage i) = g s := by
  have one : ∀ (l : List Fld), (∀ f ∈ l, f ∈ Kc.imageFlds) → ∀ (p : Nat × Word) (t : Cell),
      g (l.foldl (fun s f => match f.at? p.1 with
        | some (n, _) => s.when (f.ok (f.clean (bits p.2.toNat f.lo f.w))) (fun s => s.wr f (f.clean (bits p.2.toNat f.lo f.w)) n)
        | none => s) t) = g t := by
    intro l
    induction l with
    | nil => intros; rfl
    | cons f l ih =>
      intro hl p t
      rw [List.foldl_cons, ih (fun x hx => hl x (by simp [hx]))]
      split
      · rename_i n _ e
        unfold Cell.when
        split
        · exact hw f (hl f (by simp)) n (Fld.at?_lt e) _ _
        · rfl
      · rfl
  have regs : ∀ (l : List (Nat × Word)) (t : Cell), g (l.foldl Cell.imageReg t) = g t := by
    intro l
    induction l with
    | nil => intros; rfl
    | cons p l ih => intro t; rw [List.foldl_cons, ih]; exact one _ (fun _ h => h) p t
  have bytes : ∀ (l : List (BitVec 8)) (q : Cell × Nat),
      g (l.foldl (fun (p : Cell × Nat) b => ({ p.1 with mem := Tab.set 0 p.2 b p.1.mem }, p.2 + 1)) q).1 = g q.1 := by
    intro l
    induction l with
    | nil => intros; rfl
    | cons b l ih => intro q; rw [List.foldl_cons, ih]; exact hm _ _
  unfold Cell.loadImage Cell.putBytes
  rw [bytes, bytes, regs]

/-- A field that is none of R624 reads as before. -/
theorem Cell.rd_loadImage (s : Cell) (i : ImgChk) (F : Fld) (p : Nat)
    (h : ∀ f ∈ Kc.imageFlds, ∀ n < f.c1, F.key p 0 ≠ f.key n 0) : (s.loadImage i).rd F p = s.rd F p :=
  Cell.loadImage_keeps (fun t => t.rd F p) i s (fun f hf n hn v t => Cell.rd_wr_ne t v (h f hf n hn)) (fun _ _ => rfl)

/-- Loading keeps memory in canonical form. -/
theorem Cell.memWf_putBytes (s : Cell) (a : Nat) (l : List (BitVec 8)) (w : s.memWf = true) : (s.putBytes a l).memWf = true := by
  have h : ∀ (l : List (BitVec 8)) (q : Cell × Nat), q.1.memWf = true →
      (l.foldl (fun (p : Cell × Nat) b => ({ p.1 with mem := Tab.set 0 p.2 b p.1.mem }, p.2 + 1)) q).1.memWf = true := by
    intro l
    induction l with
    | nil => exact fun _ h => h
    | cons b l ih =>
      intro q h
      refine ih _ ?_
      simp only [Cell.memWf, Bool.and_eq_true] at h ⊢
      exact ⟨⟨Memory.wf_set _ _ _ h.1.1, h.1.2⟩, h.2⟩
  exact h l (s, a) w

end Sys2Proof.Machine
end

