-- ==== Sys2Proof/Laws/Checks.lean ====
section
/-! SUPPORT. The checks of headers, slots and trailers: a register of `w` bits stays one, and what is sealed passes (R104 to R111). -/

namespace Sys2Proof.Machine

/-- Computing first changes nothing. -/
@[simp] theorem computed_eq {α : Type} (r : Nat) (f : Nat → α) : computed r f = f r := by cases r <;> rfl

/-- A step of a check register keeps it within its width. -/
theorem crcBit_lt {w poly r : Nat} {b : Bool} (hw : 0 < 2 ^ w) (hp : poly < 2 ^ w) : crcBit w poly r b < 2 ^ w := by
  unfold crcBit
  split
  · exact Nat.xor_lt_two_pow (Nat.mod_lt _ hw) hp
  · exact Nat.mod_lt _ hw

/-- So do many steps. -/
theorem crcBits_lt {w poly : Nat} (hp : poly < 2 ^ w) : ∀ {n v r : Nat}, r < 2 ^ w → crcBits w poly n v r < 2 ^ w
  | 0, _, _, h => h
  | n + 1, v, r, _ => by
    rw [crcBits, computed_eq]
    exact crcBits_lt hp (crcBit_lt (Nat.two_pow_pos w) hp)

/-- The check of a header fits its field. -/
theorem Header.check_lt (h : Header) {s : Nat} (hs : s < 2 ^ 32) : h.check s < 2 ^ 32 := by
  unfold Header.check
  refine Nat.xor_lt_two_pow (crcBits_lt (by decide) ?_) (by decide)
  suffices ∀ (l : List Nat) r, r < 2 ^ 32 → l.foldl (fun r k => crcBits 32 0x04C11DB7 64 (h.block k) r) r < 2 ^ 32 from
    this _ _ (Nat.xor_lt_two_pow (by decide) hs)
  intro l
  induction l with
  | nil => exact fun _ h => h
  | cons k l ih => exact fun r hr => ih _ (crcBits_lt (by decide) hr)

/-- Sealing a header changes its HCRC alone. -/
theorem Header.seal_hcrc (h : Header) (s : Nat) : (h.seal s true).hcrc = BitVec.ofNat 32 (h.check s) := by
  unfold Header.seal
  generalize h.check s = c
  rfl

theorem Header.seal_block (h : Header) (s : Nat) : (h.seal s true).block = h.block := by
  funext k
  unfold Header.block
  split <;> simp only [Header.seal]

theorem Header.seal_check (h : Header) (s : Nat) : (h.seal s true).check s = h.check s := by
  unfold Header.check
  rw [Header.seal_block]

theorem Header.seal_fieldsOk (h : Header) (s : Nat) (hf : h.fieldsOk = true) : (h.seal s true).fieldsOk = true := by
  unfold Header.fieldsOk at hf ⊢
  simp only [Header.seal]
  exact hf

/-- A header whose fields hold no reserved value is valid once it is sealed (R104, R105). -/
theorem Header.seal_valid (h : Header) {s : Nat} (hs : s < 2 ^ 32) (hf : h.fieldsOk = true) : (h.seal s true).valid s = true := by
  unfold Header.valid
  rw [Header.seal_fieldsOk h s hf, Header.seal_check, Header.seal_hcrc, BitVec.toNat_ofNat, Nat.mod_eq_of_lt (h.check_lt hs)]
  simp only [Bool.true_and, beq_self_eq_true]

/-- A seed of a slot check fits 24 bits. -/
theorem slotSeed_lt (addr t : Nat) : slotSeed addr t < 2 ^ 24 := by unfold slotSeed; omega

/-- A check of a slot fits 24 bits. -/
theorem slotCrc_lt (n v addr t : Nat) : slotCrc n v addr t < 2 ^ 24 := crcBits_lt (by decide) (slotSeed_lt addr t)

/-- What a sealed slot holds: its check below, its content above. -/
theorem sealSlot_parts (n body addr t : Nat) :
    bits (sealSlot n body addr t) 0 24 = slotCrc n (body % 2 ^ n * 2 ^ 24) addr t ∧
    sealSlot n body addr t / 2 ^ 24 = body % 2 ^ n := by
  have := slotCrc_lt n (body % 2 ^ n * 2 ^ 24) addr t
  unfold sealSlot bits
  omega

/-- A sealed command slot and a sealed report slot pass their checks (R111). -/
theorem cmdCrcOk_seal (body addr t : Nat) : cmdCrcOk (BitVec.ofNat 128 (sealSlot 104 body addr t)) addr t = true := by
  obtain ⟨h1, h2⟩ := sealSlot_parts 104 body addr t
  have hl : sealSlot 104 body addr t < 2 ^ 128 := by omega
  unfold cmdCrcOk
  rw [BitVec.toNat_ofNat, Nat.mod_eq_of_lt hl, h1]
  simp only [slotCrc, h2, Nat.mul_div_cancel _ (Nat.two_pow_pos 24), beq_self_eq_true]

theorem repCrcOk_seal (body addr t : Nat) : repCrcOk (BitVec.ofNat 192 (sealSlot 168 body addr t)) addr t = true := by
  obtain ⟨h1, h2⟩ := sealSlot_parts 168 body addr t
  have hl : sealSlot 168 body addr t < 2 ^ 192 := by omega
  unfold repCrcOk
  rw [BitVec.toNat_ofNat, Nat.mod_eq_of_lt hl, h1]
  simp only [slotCrc, h2, Nat.mul_div_cancel _ (Nat.two_pow_pos 24), beq_self_eq_true]

/-- Of two report slots with one content and different check fields at most one passes (R111). -/
theorem repCrcOk_unique {r q : RepSlot} {addr t : Nat} (h : r.toNat / 2 ^ 24 = q.toNat / 2 ^ 24)
    (hr : repCrcOk r addr t = true) (hq : repCrcOk q addr t = true) : r = q := by
  unfold repCrcOk slotCrc at hr hq
  rw [beq_iff_eq] at hr hq
  rw [h, ← hq] at hr
  unfold bits at hr
  exact BitVec.eq_of_toNat_eq (by omega)

/-- A sealed trailer passes its check (R110). -/
theorem Trailer.seal_valid (t : Trailer) (s n : Nat) : (t.seal s n true).valid s n = true := by
  have hlt : t.check s n < 2 ^ 24 := by
    unfold Trailer.check
    refine crcBits_lt (by decide) (crcBits_lt (by decide) (crcBits_lt (by decide) (crcBits_lt (by decide) ?_)))
    omega
  have hb : (t.seal s n true).block0 = t.block0 := by simp only [Trailer.block0, Trailer.seal]
  have he : (t.seal s n true).check s n = t.check s n := by unfold Trailer.check; rw [hb]
  have hc : (t.seal s n true).tcrc = BitVec.ofNat 24 (t.check s n) := by
    unfold Trailer.seal
    generalize t.check s n = c
    rfl
  rw [Trailer.valid, he, hc, BitVec.toNat_ofNat, Nat.mod_eq_of_lt hlt, beq_iff_eq]

end Sys2Proof.Machine
end

