-- ==== Sys2Proof/Laws/LineCode.lean ====
section
/-! SUPPORT. The receiver's side of the line code undoes the sender's, from the same past of the line. -/

namespace Sys2Proof.Machine

theorem descramble_scramble (r : BitVec 58) (l : List Bool) : descramble r (scramble r l) = l := by
  induction l generalizing r with
  | nil => rfl
  | cons b l ih =>
    simp only [scramble, descramble, List.cons.injEq]
    refine ⟨?_, ih _⟩
    simp only [scrambleBit, descrambleBit]
    cases b <;> cases r.getLsbD 38 <;> cases r.getLsbD 57 <;> rfl

theorem unprecode_precode (p : Nat) (l : List Nat) (h : ∀ g ∈ l, g < 4) : unprecode (p % 4) (precode p l) = l := by
  induction l generalizing p with
  | nil => rfl
  | cons g l ih =>
    have hg : g < 4 := h g (by simp)
    have e := ih ((g + 4 - p % 4) % 4) (fun x hx => h x (by simp [hx]))
    simp only [precode, unprecode, List.cons.injEq]
    refine ⟨by omega, ?_⟩
    simpa using e

/-- A sync-header symbol has an odd Gray value, so it differs from the symbol before it (R63). -/
theorem sync_changes (p : Nat) (c : Bool) : (grayOf c (!c) + 4 - p % 4) % 4 ≠ p % 4 := by
  cases c <;> simp [grayOf] <;> omega

end Sys2Proof.Machine
end

