-- ==== Sys2Proof/Laws/PerInstr.lean ====
section
/-! SUPPORT. A law of every command as syntax: which parts it names. -/

namespace Sys2Proof.Laws.Part

open Sys2Proof Sys2Proof.Machine

/-- A command reaches at least one part, and names none twice. -/
def Statement (i : Instr) : Prop := i.sites ≠ [] ∧ i.sites.Nodup

/-- One part. -/
theorem one (p : Site) : [p] ≠ [] ∧ [p].Nodup := ⟨List.cons_ne_nil _ _, List.nodup_singleton _⟩

theorem tickBoundary (c) (meas) : Statement (.tickBoundary c meas) := one _
theorem alignedSet (c) : Statement (.alignedSet c) := one _
theorem timInciWrite (c) (v) : Statement (.timInciWrite c v) := one _
theorem timTicklRead (c) : Statement (.timTicklRead c) := one _
theorem timTicklenWrite (c) (v) : Statement (.timTicklenWrite c v) := one _
theorem timSprdWrite (c) (v) : Statement (.timSprdWrite c v) := one _
theorem refclkLoss (c) : Statement (.refclkLoss c) := one _
theorem regionDifference (c) (mv) : Statement (.regionDifference c mv) := one _
theorem timCbaseWrite (c) (v) : Statement (.timCbaseWrite c v) := one _
theorem mappingStale (c) : Statement (.mappingStale c) := one _
theorem headerReceived (a) (p) (h) (arr) (lat) (ppm) : Statement (.headerReceived a p h arr lat ppm) := one _
theorem cellTickBoundary (a) (act) : Statement (.cellTickBoundary a act) := one _
theorem commandSlotReceived (a) (p) (slot) : Statement (.commandSlotReceived a p slot) := one _
theorem reportSlotWrite (a) (p) : Statement (.reportSlotWrite a p) := one _
theorem trailerForward (a) (p) (t) : Statement (.trailerForward a p t) := one _
theorem cellCommandDeadline (a) : Statement (.cellCommandDeadline a) := one _
theorem holdLimit (a) : Statement (.holdLimit a) := one _
theorem modePark (a) : Statement (.modePark a) := one _
theorem modeActive (a) (slot) : Statement (.modeActive a slot) := one _
theorem modeHoldlast (a) : Statement (.modeHoldlast a) := one _
theorem modeBypassFire (a) (side) : Statement (.modeBypassFire a side) := one _
theorem modeDischarge (a) : Statement (.modeDischarge a) := one _
theorem modeSensor (a) : Statement (.modeSensor a) := one _
theorem bcmdTallyLatch (a) (no) : Statement (.bcmdTallyLatch a no) := one _
theorem bcmdCaptureArm (a) : Statement (.bcmdCaptureArm a) := one _
theorem bcmdTripClear (a) (act) : Statement (.bcmdTripClear a act) := one _
theorem bcmdClearShdw (a) : Statement (.bcmdClearShdw a) := one _
theorem bcmdAcknowledge (a) : Statement (.bcmdAcknowledge a) := one _
theorem sideRd (a) (p) : Statement (.sideRd a p) := one _
theorem sideWa (a) (p) : Statement (.sideWa a p) := one _
theorem sideWd (a) (p) : Statement (.sideWd a p) := one _
theorem positionDrop (a) : Statement (.positionDrop a) := one _
theorem foldOnset (a) (p) : Statement (.foldOnset a p) := one _
theorem foldEnd (a) (p) : Statement (.foldEnd a p) := one _
theorem foldFrameLaunch (a) (p) (lofs) : Statement (.foldFrameLaunch a p lofs) := one _
theorem midFrameLockLoss (h) : Statement (.midFrameLockLoss h) := by obtain ⟨x⟩ := h; cases x <;> exact one _
theorem reportSlotAccept (c) (n) (k) (slot) : Statement (.reportSlotAccept c n k slot) := one _
theorem reportStagingWrite (c) : Statement (.reportStagingWrite c) := one _
theorem reportArrivalPoint (c) (n) : Statement (.reportArrivalPoint c n) := one _
theorem foldFrameArrival (c) (n) (h) : Statement (.foldFrameArrival c n h) := one _
theorem signalDetect (h) : Statement (.signalDetect h) := by cases h <;> exact one _
theorem signalLoss (h) : Statement (.signalLoss h) := by cases h <;> exact one _
theorem trainingBlockReceived (h) (pos) (marker) (kind) (sig) (rest) :
    Statement (.trainingBlockReceived h pos marker kind sig rest) := by cases h <;> exact one _
theorem trainReady (h) : Statement (.trainReady h) := by cases h <;> exact one _
theorem trainTimeout (h) : Statement (.trainTimeout h) := by cases h <;> exact one _
theorem shiftEnd (h) : Statement (.shiftEnd h) := by cases h <;> exact one _
theorem blockLock (h) : Statement (.blockLock h) := by obtain ⟨x⟩ := h; cases x <;> exact one _
theorem blockLockLoss (h) : Statement (.blockLockLoss h) := by obtain ⟨x⟩ := h; cases x <;> exact one _
theorem huntPolarityInvert (h) : Statement (.huntPolarityInvert h) := by obtain ⟨x⟩ := h; cases x <;> exact one _
theorem hopUp (h) : Statement (.hopUp h) := by cases h <;> exact one _
theorem huntTimeout (h) : Statement (.huntTimeout h) := by cases h <;> exact one _
theorem blindStartFail (h) : Statement (.blindStartFail h) := by cases h <;> exact one _
theorem blindRetry (h) : Statement (.blindRetry h) := by cases h <;> exact one _
theorem testPatternDeselect (h) : Statement (.testPatternDeselect h) := by cases h <;> exact one _
theorem adaptationFreeze (h) : Statement (.adaptationFreeze h) := by cases h <;> exact one _
theorem adaptationResume (h) : Statement (.adaptationResume h) := by cases h <;> exact one _
theorem adaptationStep (h) (dir) : Statement (.adaptationStep h dir) := by cases h <;> exact one _
theorem laneMarkerReceived (c) (n) (lane) : Statement (.laneMarkerReceived c n lane) := one _
theorem castleLinkDown (c) : Statement (.castleLinkDown c) := one _
theorem castleLaneLost (c) (n) : Statement (.castleLaneLost c n) := one _
theorem castleLinkUp (c) : Statement (.castleLinkUp c) := one _
theorem errorInjectGo (h) : Statement (.errorInjectGo h) := by cases h <;> exact one _
theorem portEnClear (c) (n) : Statement (.portEnClear c n) := one _
theorem portEnSet (c) (n) : Statement (.portEnSet c n) := one _
theorem portTxenClear (c) (n) : Statement (.portTxenClear c n) := one _
theorem laserInterlockCut (c) (n) (pwrok) : Statement (.laserInterlockCut c n pwrok) := one _
theorem probeOffTimeEnd (c) (n) : Statement (.probeOffTimeEnd c n) := one _
theorem probeResult (c) (n) (pwrok) : Statement (.probeResult c n pwrok) := one _
theorem passThroughClose (a) : Statement (.passThroughClose a) := one _
theorem passThroughOpen (a) : Statement (.passThroughOpen a) := one _
theorem passThroughOpenFail (a) : Statement (.passThroughOpenFail a) := one _
theorem passThroughRetry (a) : Statement (.passThroughRetry a) := one _
theorem powerStateFall (a) (pvw) (pve) (lpw) (lpe) (vaux) : Statement (.powerStateFall a pvw pve lpw lpe vaux) := one _
theorem powerStateRise (a) (pvw) (pve) (lpw) (lpe) (vaux) : Statement (.powerStateRise a pvw pve lpw lpe vaux) := one _
theorem guardPowerOn (a) (pvw) (pve) (lpw) (lpe) (vaux) : Statement (.guardPowerOn a pvw pve lpw lpe vaux) := one _
theorem guardSample (a) (uv) (t) : Statement (.guardSample a uv t) := one _
theorem guardBypFire (a) : Statement (.guardBypFire a) := one _
theorem guardClear (a) (ov) (md) : Statement (.guardClear a ov md) := one _
theorem guardMainRetry (a) : Statement (.guardMainRetry a) := one _
theorem watchdogExpiry (a) : Statement (.watchdogExpiry a) := one _
theorem cellCoreReset (a) : Statement (.cellCoreReset a) := one _
theorem mainDomainReset (a) (written) : Statement (.mainDomainReset a written) := one _
theorem mainDomainStart (a) (b0) (b1) (fail) : Statement (.mainDomainStart a b0 b1 fail) := one _
theorem cellCoreException (a) (cause) (pc) : Statement (.cellCoreException a cause pc) := one _
theorem cellEventRaise (a) (src) : Statement (.cellEventRaise a src) := one _
theorem ccEvpWrite (a) (v) : Statement (.ccEvpWrite a v) := one _
theorem cellTempReset (a) : Statement (.cellTempReset a) := one _
theorem genEdge (a) : Statement (.genEdge a) := one _
theorem gateTurnOn (a) (w) : Statement (.gateTurnOn a w) := one _
theorem stretchEnd (a) : Statement (.stretchEnd a) := one _
theorem tripInputActive (a) (inp) (t) : Statement (.tripInputActive a inp t) := one _
theorem bypassArmedFire (a) : Statement (.bypassArmedFire a) := one _
theorem genMinpDtWrite (a) (dt) (v) : Statement (.genMinpDtWrite a dt v) := one _
theorem genSrcSet (a) : Statement (.genSrcSet a) := one _
theorem genLpaWrite (a) (v) : Statement (.genLpaWrite a v) := one _
theorem genLpbWrite (a) (v) : Statement (.genLpbWrite a v) := one _
theorem localPairTorn (a) : Statement (.localPairTorn a) := one _
theorem genFreeze (a) : Statement (.genFreeze a) := one _
theorem genFreezeRelease (a) : Statement (.genFreezeRelease a) := one _
theorem parkHaltTakesEffect (a) : Statement (.parkHaltTakesEffect a) := one _
theorem cellSample (a) (s0) (offs) (codes) (die) : Statement (.cellSample a s0 offs codes die) := one _
theorem reportFreeze (a) (offs) (codes) : Statement (.reportFreeze a offs codes) := one _
theorem adcInjGo (a) (inp) : Statement (.adcInjGo a inp) := one _
theorem injectedConversionDone (a) (code) : Statement (.injectedConversionDone a code) := one _
theorem adcCalGo (a) : Statement (.adcCalGo a) := one _
theorem calibrationRunStart (a) : Statement (.calibrationRunStart a) := one _
theorem calibrationRunEnd (a) (ofs) (gain) (res) : Statement (.calibrationRunEnd a ofs gain res) := one _
theorem capArm (a) : Statement (.capArm a) := one _
theorem capAbort (a) : Statement (.capAbort a) := one _
theorem capTrig (a) (tofs) : Statement (.capTrig a tofs) := one _
theorem capTrigger (a) (src) (tofs) : Statement (.capTrigger a src tofs) := one _
theorem capPostComplete (a) : Statement (.capPostComplete a) := one _
theorem allocatorPlace (c) (k) (n) : Statement (.allocatorPlace c k n) := one _
theorem allocatorDeadline (c) (k) (n) : Statement (.allocatorDeadline c k n) := one _
theorem allocatorDisable (c) (k) : Statement (.allocatorDisable c k) := one _
theorem cvuStringPass (c) (str) (n) : Statement (.cvuStringPass c str n) := one _
theorem cvuPassDeadline (c) (n) : Statement (.cvuPassDeadline c n) := one _
theorem cvuDisable (c) : Statement (.cvuDisable c) := one _
theorem cvuBineWrite (c) (m) (v) : Statement (.cvuBineWrite c m v) := one _
theorem sfeLoopExecute (c) (e) (j) (n) : Statement (.sfeLoopExecute c e j n) := one _
theorem sfeLoopSkip (c) (e) (j) (n) : Statement (.sfeLoopSkip c e j n) := one _
theorem sfeBankSw (c) (e) (stick) : Statement (.sfeBankSw c e stick) := one _
theorem sfeLiveStateWrite (c) (e) (j) (w) (v) : Statement (.sfeLiveStateWrite c e j w v) := one _
theorem sfeInjEnable (c) (e) (v) : Statement (.sfeInjEnable c e v) := one _
theorem sfeInjDone (c) (e) : Statement (.sfeInjDone c e) := one _
theorem sfeDisable (c) (e) : Statement (.sfeDisable c e) := one _
theorem add (r) (rd) (ra) (rb) (f) : Statement (.add r rd ra rb f) := by cases r <;> exact one _
theorem sub (r) (rd) (ra) (rb) (f) : Statement (.sub r rd ra rb f) := by cases r <;> exact one _
theorem adds (r) (rd) (ra) (rb) (f) : Statement (.adds r rd ra rb f) := by cases r <;> exact one _
theorem subs (r) (rd) (ra) (rb) (f) : Statement (.subs r rd ra rb f) := by cases r <;> exact one _
theorem and (r) (rd) (ra) (rb) (f) : Statement (.and r rd ra rb f) := by cases r <;> exact one _
theorem or (r) (rd) (ra) (rb) (f) : Statement (.or r rd ra rb f) := by cases r <;> exact one _
theorem xor (r) (rd) (ra) (rb) (f) : Statement (.xor r rd ra rb f) := by cases r <;> exact one _
theorem andn (r) (rd) (ra) (rb) (f) : Statement (.andn r rd ra rb f) := by cases r <;> exact one _
theorem sll (r) (rd) (ra) (rb) (f) : Statement (.sll r rd ra rb f) := by cases r <;> exact one _
theorem srl (r) (rd) (ra) (rb) (f) : Statement (.srl r rd ra rb f) := by cases r <;> exact one _
theorem sra (r) (rd) (ra) (rb) (f) : Statement (.sra r rd ra rb f) := by cases r <;> exact one _
theorem ror (r) (rd) (ra) (rb) (f) : Statement (.ror r rd ra rb f) := by cases r <;> exact one _
theorem mul (r) (rd) (ra) (rb) (f) : Statement (.mul r rd ra rb f) := by cases r <;> exact one _
theorem mulh (r) (rd) (ra) (rb) (f) : Statement (.mulh r rd ra rb f) := by cases r <;> exact one _
theorem mulhu (r) (rd) (ra) (rb) (f) : Statement (.mulhu r rd ra rb f) := by cases r <;> exact one _
theorem min (r) (rd) (ra) (rb) (f) : Statement (.min r rd ra rb f) := by cases r <;> exact one _
theorem max (r) (rd) (ra) (rb) (f) : Statement (.max r rd ra rb f) := by cases r <;> exact one _
theorem minu (r) (rd) (ra) (rb) (f) : Statement (.minu r rd ra rb f) := by cases r <;> exact one _
theorem maxu (r) (rd) (ra) (rb) (f) : Statement (.maxu r rd ra rb f) := by cases r <;> exact one _
theorem abs (r) (rd) (ra) (rb) (f) : Statement (.abs r rd ra rb f) := by cases r <;> exact one _
theorem neg (r) (rd) (ra) (rb) (f) : Statement (.neg r rd ra rb f) := by cases r <;> exact one _
theorem clz (r) (rd) (ra) (rb) (f) : Statement (.clz r rd ra rb f) := by cases r <;> exact one _
theorem div (r) (rd) (ra) (rb) (f) : Statement (.div r rd ra rb f) := by cases r <;> exact one _
theorem divu (r) (rd) (ra) (rb) (f) : Statement (.divu r rd ra rb f) := by cases r <;> exact one _
theorem rem (r) (rd) (ra) (rb) (f) : Statement (.rem r rd ra rb f) := by cases r <;> exact one _
theorem remu (r) (rd) (ra) (rb) (f) : Statement (.remu r rd ra rb f) := by cases r <;> exact one _
theorem cmp (r) (rd) (ra) (rb) (f) : Statement (.cmp r rd ra rb f) := by cases r <;> exact one _
theorem slt (r) (rd) (ra) (rb) (f) : Statement (.slt r rd ra rb f) := by cases r <;> exact one _
theorem sltu (r) (rd) (ra) (rb) (f) : Statement (.sltu r rd ra rb f) := by cases r <;> exact one _
theorem addi (r) (rd) (ra) (v) : Statement (.addi r rd ra v) := by cases r <;> exact one _
theorem andi (r) (rd) (ra) (v) : Statement (.andi r rd ra v) := by cases r <;> exact one _
theorem ori (r) (rd) (ra) (v) : Statement (.ori r rd ra v) := by cases r <;> exact one _
theorem xori (r) (rd) (ra) (v) : Statement (.xori r rd ra v) := by cases r <;> exact one _
theorem lui (r) (rd) (v) : Statement (.lui r rd v) := by cases r <;> exact one _
theorem cmpi (r) (ra) (v) : Statement (.cmpi r ra v) := by cases r <;> exact one _
theorem slli (r) (rd) (ra) (amt) : Statement (.slli r rd ra amt) := by cases r <;> exact one _
theorem srli (r) (rd) (ra) (amt) : Statement (.srli r rd ra amt) := by cases r <;> exact one _
theorem srai (r) (rd) (ra) (amt) : Statement (.srai r rd ra amt) := by cases r <;> exact one _
theorem rori (r) (rd) (ra) (amt) : Statement (.rori r rd ra amt) := by cases r <;> exact one _
theorem ldw (r) (rd) (ra) (v) : Statement (.ldw r rd ra v) := by cases r <;> exact one _
theorem ldh (r) (rd) (ra) (v) : Statement (.ldh r rd ra v) := by cases r <;> exact one _
theorem ldhu (r) (rd) (ra) (v) : Statement (.ldhu r rd ra v) := by cases r <;> exact one _
theorem ldb (r) (rd) (ra) (v) : Statement (.ldb r rd ra v) := by cases r <;> exact one _
theorem ldbu (r) (rd) (ra) (v) : Statement (.ldbu r rd ra v) := by cases r <;> exact one _
theorem stw (r) (rd) (ra) (v) : Statement (.stw r rd ra v) := by cases r <;> exact one _
theorem sth (r) (rd) (ra) (v) : Statement (.sth r rd ra v) := by cases r <;> exact one _
theorem stb (r) (rd) (ra) (v) : Statement (.stb r rd ra v) := by cases r <;> exact one _
theorem ldd (r) (rd) (ra) (v) : Statement (.ldd r rd ra v) := by cases r <;> exact one _
theorem std (r) (rd) (ra) (v) : Statement (.std r rd ra v) := by cases r <;> exact one _
theorem swap (r) (rd) (ra) (rb) : Statement (.swap r rd ra rb) := by cases r <;> exact one _
theorem adda (r) (rd) (ra) (rb) : Statement (.adda r rd ra rb) := by cases r <;> exact one _
theorem anda (r) (rd) (ra) (rb) : Statement (.anda r rd ra rb) := by cases r <;> exact one _
theorem ora (r) (rd) (ra) (rb) : Statement (.ora r rd ra rb) := by cases r <;> exact one _
theorem cas (r) (rd) (ra) (rb) : Statement (.cas r rd ra rb) := by cases r <;> exact one _
theorem cfx (r) (rd) (ra) (lsb) (w) (sgn) (bank) : Statement (.cfx r rd ra lsb w sgn bank) := by cases r <;> exact one _
theorem clw (r) (rd) (ra) (off) : Statement (.clw r rd ra off) := by cases r <;> exact one _
theorem csw (r) (rd) (ra) (off) : Statement (.csw r rd ra off) := by cases r <;> exact one _
theorem bcc (r) (cond) (off) : Statement (.bcc r cond off) := by cases r <;> exact one _
theorem jump (r) (off) : Statement (.jump r off) := by cases r <;> exact one _
theorem call (r) (off) : Statement (.call r off) := by cases r <;> exact one _
theorem jr (r) (ra) : Statement (.jr r ra) := by cases r <;> exact one _
theorem callr (r) (rd) (ra) : Statement (.callr r rd ra) := by cases r <;> exact one _
theorem cbeq (r) (ra) (rb) (off) : Statement (.cbeq r ra rb off) := by cases r <;> exact one _
theorem cbne (r) (ra) (rb) (off) : Statement (.cbne r ra rb off) := by cases r <;> exact one _
theorem cblt (r) (ra) (rb) (off) : Statement (.cblt r ra rb off) := by cases r <;> exact one _
theorem cbltu (r) (ra) (rb) (off) : Statement (.cbltu r ra rb off) := by cases r <;> exact one _
theorem mac (r) (ad) (ra) (rb) (sh) : Statement (.mac r ad ra rb sh) := by cases r <;> exact one _
theorem msu (r) (ad) (ra) (rb) (sh) : Statement (.msu r ad ra rb sh) := by cases r <;> exact one _
theorem mula (r) (ad) (ra) (rb) (sh) : Statement (.mula r ad ra rb sh) := by cases r <;> exact one _
theorem macu (r) (ad) (ra) (rb) (sh) : Statement (.macu r ad ra rb sh) := by cases r <;> exact one _
theorem macs (r) (ad) (ra) (rb) (sh) : Statement (.macs r ad ra rb sh) := by cases r <;> exact one _
theorem extr (r) (ad) (ra) (rb) (sh) : Statement (.extr r ad ra rb sh) := by cases r <;> exact one _
theorem extrt (r) (ad) (ra) (rb) (sh) : Statement (.extrt r ad ra rb sh) := by cases r <;> exact one _
theorem mova (r) (ad) (ra) (rb) (sh) : Statement (.mova r ad ra rb sh) := by cases r <;> exact one _
theorem mvlo (r) (ad) (ra) (rb) (sh) : Statement (.mvlo r ad ra rb sh) := by cases r <;> exact one _
theorem mvmi (r) (ad) (ra) (rb) (sh) : Statement (.mvmi r ad ra rb sh) := by cases r <;> exact one _
theorem mvhi (r) (ad) (ra) (rb) (sh) : Statement (.mvhi r ad ra rb sh) := by cases r <;> exact one _
theorem awlo (r) (ad) (ra) (rb) (sh) : Statement (.awlo r ad ra rb sh) := by cases r <;> exact one _
theorem awmi (r) (ad) (ra) (rb) (sh) : Statement (.awmi r ad ra rb sh) := by cases r <;> exact one _
theorem awhi (r) (ad) (ra) (rb) (sh) : Statement (.awhi r ad ra rb sh) := by cases r <;> exact one _
theorem aclr (r) (ad) (ra) (rb) (sh) : Statement (.aclr r ad ra rb sh) := by cases r <;> exact one _
theorem aadd (r) (ad) (ra) (rb) (sh) : Statement (.aadd r ad ra rb sh) := by cases r <;> exact one _
theorem extrr (r) (ad) (ra) (rb) (sh) : Statement (.extrr r ad ra rb sh) := by cases r <;> exact one _
theorem dot4 (r) (ad) (ra) (rb) (sh) : Statement (.dot4 r ad ra rb sh) := by cases r <;> exact one _
theorem dot4c (r) (ad) (ra) (rb) : Statement (.dot4c r ad ra rb) := by cases r <;> exact one _
theorem tickwait (r) (ra) (mode) : Statement (.tickwait r ra mode) := by cases r <;> exact one _
theorem tickwaitComplete (r) : Statement (.tickwaitComplete r) := by cases r <;> exact one _
theorem post (r) (ra) : Statement (.post r ra) := by cases r <;> exact one _
theorem takeItem (r) : Statement (.takeItem r) := by cases r <;> exact one _
theorem yieldItem (r) (ra) : Statement (.yieldItem r ra) := by cases r <;> exact one _
theorem flowend (r) : Statement (.flowend r) := by cases r <;> exact one _
theorem pub (r) (ra) (rb) : Statement (.pub r ra rb) := by cases r <;> exact one _
theorem ledg (r) (ra) (rb) : Statement (.ledg r ra rb) := by cases r <;> exact one _
theorem mfc (r) (rd) (num) : Statement (.mfc r rd num) := by cases r <;> exact one _
theorem mtc (r) (num) (ra) : Statement (.mtc r num ra) := by cases r <;> exact one _
theorem rtt (r) (adv) : Statement (.rtt r adv) := by cases r <;> exact one _
theorem trap (r) (code) : Statement (.trap r code) := by cases r <;> exact one _
theorem brk (r) : Statement (.brk r) := by cases r <;> exact one _
theorem clrq (r) : Statement (.clrq r) := by cases r <;> exact one _
theorem fence (r) : Statement (.fence r) := by cases r <;> exact one _
theorem li (r) (rd) (v) : Statement (.li r rd v) := by cases r <;> exact one _
theorem addl (r) (rd) (ra) (v) : Statement (.addl r rd ra v) := by cases r <;> exact one _
theorem andl (r) (rd) (ra) (v) : Statement (.andl r rd ra v) := by cases r <;> exact one _
theorem orl (r) (rd) (ra) (v) : Statement (.orl r rd ra v) := by cases r <;> exact one _
theorem xorl (r) (rd) (ra) (v) : Statement (.xorl r rd ra v) := by cases r <;> exact one _
theorem cmpl (r) (ra) (v) : Statement (.cmpl r ra v) := by cases r <;> exact one _
theorem jl (r) (v) : Statement (.jl r v) := by cases r <;> exact one _
theorem calll (r) (v) : Statement (.calll r v) := by cases r <;> exact one _
theorem contextSwitch (c) (n) : Statement (.contextSwitch c n) := one _
theorem modeRequestRun (c) (mtick) : Statement (.modeRequestRun c mtick) := one _
theorem modeRequestStop (c) (mtick) : Statement (.modeRequestStop c mtick) := one _
theorem modeRequestHold (c) (mtick) : Statement (.modeRequestHold c mtick) := one _
theorem t0Release (c) (n) : Statement (.t0Release c n) := one _
theorem eventTaskRelease (c) (k) (n) : Statement (.eventTaskRelease c k n) := one _
theorem stallFill (c) : Statement (.stallFill c) := one _
theorem preemption (c) : Statement (.preemption c) := one _
theorem armReferenceDeadline (c) (n) : Statement (.armReferenceDeadline c n) := one _
theorem t0Kill (c) (n) : Statement (.t0Kill c n) := one _
theorem coreReset (c) (n) : Statement (.coreReset c n) := one _
theorem coreDisable (c) (n) : Statement (.coreDisable c n) := one _
theorem forceReadEntry (c) (e) : Statement (.forceReadEntry c e) := one _
theorem forceSet (c) (e) (ftick) : Statement (.forceSet c e ftick) := one _
theorem forceDel (c) (e) (ftick) : Statement (.forceDel c e ftick) := one _
theorem olcLoad (c) : Statement (.olcLoad c) := one _
theorem olcImageLoaded (c) (w) : Statement (.olcImageLoaded c w) := one _
theorem olcChecked (c) : Statement (.olcChecked c) := one _
theorem olcCommit (c) (ctick) : Statement (.olcCommit c ctick) := one _
theorem olcAbort (c) : Statement (.olcAbort c) := one _
theorem kfHeartbeatReceived (c) (x) : Statement (.kfHeartbeatReceived c x) := one _
theorem heartbeatTimeout (c) : Statement (.heartbeatTimeout c) := one _
theorem kfRestartGrant : Statement (.kfRestartGrant) := one _
theorem confReceived (c) (n) (cseq) (xfer) (lapsed) (ctick) : Statement (.confReceived c n cseq xfer lapsed ctick) := one _
theorem grantReceived (c) (cseq) (ctick) (at_) : Statement (.grantReceived c cseq ctick at_) := one _
theorem statReceived (c) (inputs) (src) (b6) (b7) : Statement (.statReceived c inputs src b6 b7) := one _
theorem stateMessage (c) (e) (m) : Statement (.stateMessage c e m) := one _
theorem digestMessage (c) (e) (t) (ds) (inTime) : Statement (.digestMessage c e t ds inTime) := one _
theorem endorseMessage (c) (e) (t) (mask) (seq) (inTime) : Statement (.endorseMessage c e t mask seq inTime) := one _
theorem relayMessage (c) (e) (l) : Statement (.relayMessage c e l) := one _
theorem castleOffer (c) (e) (ctick) (ready) : Statement (.castleOffer c e ctick ready) := one _
theorem castleAccept (c) (e) : Statement (.castleAccept c e) := one _
theorem castleRefuse (c) (e) : Statement (.castleRefuse c e) := one _
theorem castleCommitreq (c) (e) (ctick) : Statement (.castleCommitreq c e ctick) := one _
theorem evrelMessage (c) (e) (b) (tasks) : Statement (.evrelMessage c e b tasks) := one _
theorem forceMessage (c) (e) (x) :
    Statement (.forceMessage c e x) := by cases c <;> exact ⟨List.cons_ne_nil _ _, by simp [Instr.sites, Chip.other]⟩
theorem ledgerMessage (c) (e) (n) (l) : Statement (.ledgerMessage c e n l) := one _
theorem epochendMessage (c) (e) (n) (count) (bytes) (crc) : Statement (.epochendMessage c e n count bytes crc) := one _
theorem sweepMessage (c) (e) (a) (n) (l) : Statement (.sweepMessage c e a n l) := one _
theorem healthMessage (c) (e) (w0) (w1) (w2) (w3) : Statement (.healthMessage c e w0 w1 w2 w3) := one _
theorem epochMiss (c) (n) : Statement (.epochMiss c n) := one _
theorem ledgerResync (c) : Statement (.ledgerResync c) := one _
theorem castleReq (c) (ctick) : Statement (.castleReq c ctick) := one _
theorem transferLapse (c) : Statement (.transferLapse c) := one _
theorem selfTestStep (c) (logic) (sram) (arena) : Statement (.selfTestStep c logic sram arena) := one _
theorem healthReport (c) : Statement (.healthReport c) := one _
theorem faultOccurrence (c) (src) (kind) (addr) : Statement (.faultOccurrence c src kind addr) := one _
theorem faultWindowEnd (c) (src) : Statement (.faultWindowEnd c src) := one _
theorem faultAcknowledge (c) (m) (mask) : Statement (.faultAcknowledge c m mask) := one _
theorem fltWinWrite (c) (src) (v) : Statement (.fltWinWrite c src v) := one _
theorem fltInjGo (c) (src) (kind) : Statement (.fltInjGo c src kind) := one _
theorem firstFaultClear (c) : Statement (.firstFaultClear c) := one _
theorem logReadPointerWrite (c) (rp) : Statement (.logReadPointerWrite c rp) := one _
theorem eventUnmask (c) (m) (v) : Statement (.eventUnmask c m v) := one _
theorem acqArmGo (c) (atick) (cells) : Statement (.acqArmGo c atick cells) := one _
theorem acqArmFire (c) : Statement (.acqArmFire c) := one _
theorem acqEnable (c) (n) (v) : Statement (.acqEnable c n v) := one _
theorem acqDisable (c) (n) (v) : Statement (.acqDisable c n v) := one _
theorem acqRowGather (c) (n) (t) : Statement (.acqRowGather c n t) := one _
theorem acqRowMissed (c) (n) (t) : Statement (.acqRowMissed c n t) := one _
theorem acqCellFire (c) (n) (f) (t) : Statement (.acqCellFire c n f t) := one _
theorem acqOtherChipFire (c) (n) (h) : Statement (.acqOtherChipFire c n h) := one _
theorem acqCrossArm (c) (n) (h) : Statement (.acqCrossArm c n h) := one _
theorem acqRecordClose (c) (n) : Statement (.acqRecordClose c n) := one _
theorem memoryReadCorrected (w) (addr) (e) : Statement (.memoryReadCorrected w addr e) := by cases w <;> exact one _
theorem memoryReadUncorrectable (r) : Statement (.memoryReadUncorrectable r) := by cases r <;> exact one _
theorem partialStoreMerge (w) (addr) (v) (n) : Statement (.partialStoreMerge w addr v n) := by cases w <;> exact one _
theorem patrolScrubRead (w) (addr) (e) (detected) : Statement (.patrolScrubRead w addr e detected) := by cases w <;> exact one _
theorem memInit (c) : Statement (.memInit c) := one _
theorem memInitDone (c) : Statement (.memInitDone c) := one _
theorem memHwinWrite (c) (v) : Statement (.memHwinWrite c v) := one _
theorem crcGo (c) (n) (v) : Statement (.crcGo c n v) := one _
theorem crcEnClear (c) (n) (k) : Statement (.crcEnClear c n k) := one _
theorem crcScanDone (c) (n) : Statement (.crcScanDone c n) := one _
theorem crcRepeat (c) (n) : Statement (.crcRepeat c n) := one _
theorem crcPreempt (c) (k) : Statement (.crcPreempt c k) := one _
theorem bar0Write (c) (off) (data) (whole) : Statement (.bar0Write c off data whole) := one _
theorem bar0UnmappedAccess (c) (off) : Statement (.bar0UnmappedAccess c off) := one _
theorem bar2Access (c) (off) (n) (w) : Statement (.bar2Access c off n w) := one _
theorem pcieLinkLoss (c) : Statement (.pcieLinkLoss c) := one _
theorem msixVectorUnmask (c) (v) : Statement (.msixVectorUnmask c v) := one _
theorem sysXdAccess (c) (w) : Statement (.sysXdAccess c w) := one _
theorem imgCfgWrite (c) (v) : Statement (.imgCfgWrite c v) := one _
theorem mailboxSend (c) (mt) (een) (etask) : Statement (.mailboxSend c mt een etask) := one _
theorem mailboxDelivery (c) : Statement (.mailboxDelivery c) := one _
theorem tallyRequest (c) (no) (tt) : Statement (.tallyRequest c no tt) := one _
theorem tallyClose (c) : Statement (.tallyClose c) := one _
theorem ethFrameReceived (c) (n) (frame) (fcs) : Statement (.ethFrameReceived c n frame fcs) := one _
theorem ethTxDescriptor (c) (n) : Statement (.ethTxDescriptor c n) := one _
theorem ethTimedLaunch (c) (n) : Statement (.ethTimedLaunch c n) := one _
theorem ptpSyncSend (c) : Statement (.ptpSyncSend c) := one _
theorem ptpMessageReceived (c) (n) (dom) (m) : Statement (.ptpMessageReceived c n dom m) := one _
theorem announceTimeout (c) : Statement (.announceTimeout c) := one _
theorem fieldInputSample (vs) (cs) : Statement (.fieldInputSample vs cs) := one _
theorem stinSample (v) : Statement (.stinSample v) := one _
theorem tripSourceActive : Statement (.tripSourceActive) := one _
theorem outputSelfOff (w) : Statement (.outputSelfOff w) := one _
theorem outputRestart (w) : Statement (.outputRestart w) := one _
theorem kfCmdReceived (c) (out) (ref) (resume) (safe) (trip) (tclr) : Statement (.kfCmdReceived c out ref resume safe trip tclr) := one _
theorem kfRegReceived (c) (op) (num) (data) (tag) : Statement (.kfRegReceived c op num data tag) := one _
theorem svlMessageDiscard (e) : Statement (.svlMessageDiscard e) := by cases e <;> exact one _
theorem silenceTimerExpiry : Statement (.silenceTimerExpiry) := one _
theorem kfSupplyReset : Statement (.kfSupplyReset) := one _
theorem kfResetRelease (vsup) : Statement (.kfResetRelease vsup) := one _
theorem kfRefclkFail : Statement (.kfRefclkFail) := one _
theorem svlReqRead (c) (num) : Statement (.svlReqRead c num) := one _
theorem svlReqWrite (c) (num) : Statement (.svlReqWrite c num) := one _
theorem svlRdataReceived (c) (status) (data) : Statement (.svlRdataReceived c status data) := one _
theorem svlCtrlSafe (c) : Statement (.svlCtrlSafe c) := one _
theorem svlCtrlTclr (c) : Statement (.svlCtrlTclr c) := one _
theorem svlCtrlResume (c) : Statement (.svlCtrlResume c) := one _
theorem svlLinkLoss (c) : Statement (.svlLinkLoss c) := one _
theorem keyProg (p) (slot) (code) : Statement (.keyProg p slot code) := by cases p <;> exact one _
theorem keyRevoke (p) (slot) (code) : Statement (.keyRevoke p slot code) := by cases p <;> exact one _
theorem sealPart (p) (code) : Statement (.sealPart p code) := by cases p <;> exact one _
theorem retire (p) (code) : Statement (.retire p code) := by cases p <;> exact one _
theorem svup (p) (code) : Statement (.svup p code) := by cases p <;> exact one _
theorem debugChal (p) (probe) : Statement (.debugChal p probe) := by cases p <;> exact one _
theorem debugVerify (p) (probe) (level) (svc) (dslot) : Statement (.debugVerify p probe level svc dslot) := by cases p <;> exact one _
theorem debugVerifyDone (p) (hash) (sig) : Statement (.debugVerifyDone p hash sig) := by cases p <;> exact one _
theorem debugClose (p) (probe) : Statement (.debugClose p probe) := by cases p <;> exact one _
theorem sessionIdleTimeout (p) : Statement (.sessionIdleTimeout p) := by cases p <;> exact one _
theorem probeDisconnect (p) : Statement (.probeDisconnect p) := by cases p <;> exact one _
theorem authLockoutEnd (p) : Statement (.authLockoutEnd p) := by cases p <;> exact one _
theorem coreHalt (c) (probe) (mask) : Statement (.coreHalt c probe mask) := one _
theorem coreResume (c) (probe) (mask) : Statement (.coreResume c probe mask) := one _
theorem coreStep (c) (probe) (mask) : Statement (.coreStep c probe mask) := one _
theorem cellHalt (a) (probe) : Statement (.cellHalt a probe) := one _
theorem cellResume (a) (probe) : Statement (.cellResume a probe) := one _
theorem cellStep (a) (probe) : Statement (.cellStep a probe) := one _
theorem ccBootChk (a) (w) : Statement (.ccBootChk a w) := one _
theorem ccBootSelWrite (a) (v) : Statement (.ccBootSelWrite a v) := one _
theorem powerRequestRun (c) : Statement (.powerRequestRun c) := one _
theorem powerRequestParked (c) : Statement (.powerRequestParked c) := one _
theorem powerRequestStandby (c) : Statement (.powerRequestStandby c) := one _
theorem powerOnReset (c) : Statement (.powerOnReset c) := one _
theorem resetRelease (c) (bench) (kflt) : Statement (.resetRelease c bench kflt) := one _
theorem resetnAssert (c) : Statement (.resetnAssert c) := one _
theorem chipReset (c) (code) : Statement (.chipReset c code) := one _
theorem serdesWestReset (c) (code) : Statement (.serdesWestReset c code) := one _
theorem serdesEastReset (c) (code) : Statement (.serdesEastReset c code) := one _
theorem overTemperatureReset (c) : Statement (.overTemperatureReset c) := one _
theorem phaseComplete (c) (mem) (primary) (secondary) : Statement (.phaseComplete c mem primary secondary) := one _
theorem probeStartRoleA (c) (n) : Statement (.probeStartRoleA c n) := one _
theorem probeStartRoleB (c) (n) (late) : Statement (.probeStartRoleB c n late) := one _
theorem discoveryStable (c) : Statement (.discoveryStable c) := one _
theorem cellIdentityCheck (c) (a) (ident) : Statement (.cellIdentityCheck c a ident) := one _
theorem sysBootLoad (c) (slot) : Statement (.sysBootLoad c slot) := one _
theorem sysBootRechk (c) : Statement (.sysBootRechk c) := one _
theorem registerWrite (r) (off) (v) : Statement (.registerWrite r off v) := by cases r <;> exact one _
theorem stringPortHeaderReceived (c) (n) (h) (arr) (lat) : Statement (.stringPortHeaderReceived c n h arr lat) := one _
theorem stringPortTrailerReceived (c) (n) (t) : Statement (.stringPortTrailerReceived c n t) := one _
theorem illegalInstruction (r) (w) (imm) : Statement (.illegalInstruction r w imm) := by cases r <;> exact one _
theorem dieTemperatureWarning (c) : Statement (.dieTemperatureWarning c) := one _
theorem kfSupplyWarning (vsup) : Statement (.kfSupplyWarning vsup) := one _
theorem kfDieOverTemperature (die) : Statement (.kfDieOverTemperature die) := one _
theorem pcieLinkUp (c) (speed) (width) : Statement (.pcieLinkUp c speed width) := one _
theorem ethLinkChange (c) (n) (up) : Statement (.ethLinkChange c n up) := one _
theorem debugNonceExpiry (p) : Statement (.debugNonceExpiry p) := by cases p <;> exact one _

end Sys2Proof.Laws.Part
end

