-- ==== Sys2Proof/Tests/Slice0.lean ====
section
/-! SUPPORT. Tests: words written out from the spec's encoding, terms that the well-formedness check refuses, single steps on small
states, and for each obligation with hypotheses states that meet the hypotheses of its clauses. -/

namespace Sys2Proof.Tests

open Sys2Proof.Machine

/-! ### Small states -/

/-- A chip just out of reset with some of its register fields set: field, index, value. -/
def kv (l : List (Fld × Nat × Nat)) : Kv := l.foldl (fun k e => k.wr e.1 e.2.2 e.2.1) (State.reset.kvAt .a)

/-- A supplied module whose main domain and program run, with some of its register fields set. -/
def kc (l : List (Fld × Nat × Nat)) : Cell :=
  l.foldl (fun x e => x.wr e.1 e.2.2 e.2.1) { power := 3, mainOn := true, progOn := true }

/-- The chip set with that chip A, with that module at cell address 5, with that KF-120. -/
def atA (k : Kv) : State := { State.reset with a := k }
def atCell (x : Cell) : State := State.reset.setCell 5 x
def atKf (k : Kf) : State := { State.reset with kf := k }

/-- Chip A takes commands and is as `p` says; module 5 is as `p` says; hop end `h` is as `p` says, its settings too. -/
def okA (k : Kv) (p : Kv → Bool) : Bool := !((atA k).chip .a).boot.inReset && p ((atA k).kvAt .a)
def okC (x : Cell) (p : Cell → Bool) : Bool := p ((atCell x).kcAt 5)
def okH (k : Kv) (p : HopSt → HopCfg → Bool) : Bool := p ((atA k).hopSt (.sp .a 3)) ((atA k).hopCfg (.sp .a 3))

/-! ### The instruction words of the spec's own examples (R294, R308) -/

theorem test_word_cfx : decodeOp 0x6CC5A47C 0 = some (.cfx 6 5 164 15 true false) := by decide
theorem test_word_mac : decodeOp 0xA11D3881 0 = some (.mac .mac 2 7 9 (-15)) := by decide
theorem test_word_nop : decodeOp 0x04000000 0 = some (.imm .add 0 0 0) := by decide

/-! ### Terms that the well-formedness check refuses, each beside one that it takes -/

theorem test_wf_machine :
    [Instr.wf (.tripInputActive 5 4 ⟨0, true⟩), Instr.wf (.tripInputActive 5 5 ⟨0, true⟩), Instr.wf (.capTrigger 5 1 0), Instr.wf (.capTrigger 5 0 0),
     Instr.wf (.cellCoreException 5 1 0), Instr.wf (.cellCoreException 5 0 0),
     Instr.wf (.fieldInputSample (List.replicate 32 0) (List.replicate 32 0)),
     Instr.wf (.fieldInputSample (List.replicate 31 0) (List.replicate 32 0))] =
    [true, false, true, false, true, false, true, false] := by decide

/-- An envelope with nothing in it. -/
def env : Envelope := { cseq := 7, claim := false, ok := true }

theorem test_wf_messages :
    [Instr.wf (.digestMessage .a env 0 (List.replicate 32 0) true), Instr.wf (.digestMessage .a env 0 (List.replicate 33 0) true),
     Instr.wf (.relayMessage .a env [(5, 0)]), Instr.wf (.relayMessage .a env []),
     Instr.wf (.evrelMessage .a env 0 [1]), Instr.wf (.evrelMessage .a env 0 []),
     Instr.wf (.sweepMessage .a env 5 0 (List.replicate 116 0)), Instr.wf (.sweepMessage .a env 5 0 (List.replicate 115 0))] =
    [true, false, true, false, true, false, true, false] := by decide

theorem test_wf_accesses :
    [Instr.wf (.partialStoreMerge (.chip .a) 0 0 4), Instr.wf (.partialStoreMerge (.chip .a) 0 0 0),
     Instr.wf (.bar0UnmappedAccess .a 4), Instr.wf (.bar0UnmappedAccess .a 5),
     Instr.wf (.registerWrite (.cell 5) 8 0), Instr.wf (.registerWrite (.cell 5) 9 0),
     Instr.wf (.illegalInstruction (.kv .a 0) 0 0), Instr.wf (.illegalInstruction (.kv .a 0) 0x04000000 0),
     Instr.wf (.illegalInstruction (.cell 5) 0x6CC5A47C 0), Instr.wf (.illegalInstruction (.cell 5) 0x04000000 0)] =
    [true, false, true, false, true, false, true, false, true, false] := by decide

/-! ### The machine as a whole -/

/-- O3: a command that reaches chip A alone, and a part it does not reach. -/
theorem witness_isolation : (Site.companion ∈ (Instr.refclkLoss .a).sites) = False := by decide

/-- O4: a command that reaches module 5 alone, and two different chip sets that hold the same there. -/
theorem witness_locality :
    (Instr.genFreeze 5).sites = [.cell 5] ∧ (atA (kv [(Kv.TIM_STAT.REFLOSS, 0, 1)])).at (.cell 5) = State.reset.at (.cell 5) ∧
    (atA (kv [(Kv.TIM_STAT.REFLOSS, 0, 1)])).at (.chip .a) ≠ State.reset.at (.chip .a) := by decide

/-- O5: a state with a module in it that meets the invariant. -/
theorem witness_modules : (atCell (kc [(Kc.GEN_OUT.G, 0, 1)])).cellsWf = true ∧ (atCell (kc [])).cells.length = 1 := by decide

/-- O8: a chip held in reset, and a command that is none of those it takes. -/
theorem witness_held_in_reset :
    ((State.setChip State.reset .a { State.reset.a with boot := { State.reset.a.boot with inReset := true } }).chip .a).boot.inReset = true ∧
    (∀ x y, Instr.mappingStale .a ≠ .powerOnReset .a ∧ Instr.mappingStale .a ≠ .resetRelease .a x y) ∧
    (∀ m v, Instr.mappingStale .a ≠ .tickBoundary .a m ∧ Instr.mappingStale .a ≠ .refclkLoss .a ∧
      Instr.mappingStale .a ≠ .regionDifference .a v) ∧
    (∀ e x, Instr.mappingStale .a ≠ .forceMessage Chip.a.other e x) := by
  refine ⟨by decide, fun _ _ => ⟨?_, ?_⟩, fun _ _ => ⟨?_, ?_, ?_⟩, fun _ _ => ?_⟩ <;> intro h <;> cases h

/-! ### Time -/

/-- O9: 64 aligned ticks on a standby; the increment without a servo; LEN and SPRD in PARKED and out of it. -/
theorem witness_time_commands :
    (okA { kv [] with tim := { (kv []).tim with alignRun := 64 } } (fun k => !k.duty && decide (64 ≤ k.tim.alignRun)) &&
     okA (kv [(Kv.CL_CASST.TOKEN, 0, 1), (Kv.ETH_PTP.EN, 0, 1), (Kv.ETH_PTP.SERVO, 0, 1), (Kv.ETH_PTPST.STALE, 0, 0), (Kv.ETH_PTPST.FREE, 0, 0)]) (·.servoRuns) &&
     okA (kv [(Kv.TIM_STAT.STBY, 0, 1), (Kv.TIM_STAT.ALIGNED, 0, 1)]) (·.alignedStandby) &&
     okA (kv []) (fun k => !k.servoRuns && !k.alignedStandby && k.parked && tickFits 1000 k.frameTime (k.on Kv.TIM_SPRD.EN) &&
       k.rd Kv.TIM_TICKLEN.LEN != 1001 && tickFits 1001 k.frameTime (k.on Kv.TIM_SPRD.EN) && !k.on Kv.TIM_SPRD.EN) &&
     okA (kv [(Kv.TIM_SPRD.EN, 0, 1)]) (fun k => !k.alignedStandby && k.parked && k.rd Kv.TIM_TICKLEN.LEN != 900 &&
       tickFits 900 k.frameTime (k.on Kv.TIM_SPRD.EN) && k.on Kv.TIM_SPRD.EN && sprdPermitted (k.rd Kv.TIM_SPRD.K) 900) &&
     okA (kv [(Kv.SYS_PWR.STATE, 0, 0)]) (fun k => !k.alignedStandby && !k.parked && k.rd Kv.TIM_TICKLEN.LEN != 1001) &&
     okA (kv []) (fun k => Kv.TIM_SPRD.K.ok 3 && !Kv.TIM_SPRD.K.ok 0 && k.rd Kv.TIM_SPRD.EN == 0 &&
       decide (25 * (3 * k.rd Kv.TIM_TICKLEN.LEN * 10) ≤ 1000000 ∧ 1000000 ≤ 45 * (3 * k.rd Kv.TIM_TICKLEN.LEN * 10)))) = true := by
  decide

/-- O10: a chip without REFCLK; one in STANDBY with it; the duty running; a chip in reset. -/
theorem witness_tick_boundary :
    (okA (kv [(Kv.TIM_STAT.REFLOSS, 0, 1)]) (fun k => k.on Kv.TIM_STAT.REFLOSS) &&
     okA (kv [(Kv.SYS_PWR.STATE, 0, 2)]) (fun k => !k.on Kv.TIM_STAT.REFLOSS && k.rd Kv.SYS_PWR.STATE == 2) &&
     okA (kv [(Kv.CL_CASST.TOKEN, 0, 1)]) (fun k => !k.on Kv.TIM_STAT.REFLOSS && !k.boot.inReset && k.rd Kv.SYS_PWR.STATE != 2 && k.duty) &&
     !({ kv [] with boot := { inReset := true } } : Kv).on Kv.TIM_STAT.REFLOSS) = true := by decide

/-- R30, R36: the boundary after reset brings tick 1 at 10 µs. -/
theorem test_tick_boundary :
    (match exec (.tickBoundary .a none) (atA (kv [(Kv.SYS_PWR.STATE, 0, 2)])) with
     | .next t => (t.a.tim.tick.toNat, t.a.tim.bn.toNat)
     | _ => (0, 0)) = (1, 10 * Kv.TIM_TICKLEN.LEN.rst 0) := by decide

/-- R36, R126, the spec's example: 169 modules need 5,814.6 ns, and 5,832.1 ns on a spread line. -/
theorem test_minimum_tick :
    (let f := (36 + 5 * 169) * (kv []).blockTime 0; [tickFits 582 f false, tickFits 581 f false, tickFits 584 f true, tickFits 583 f true]) = [true, false, true, false] := by decide

/-- O11: nothing waits, and REFCLK is there. -/
theorem witness_refclk : State.reset.pending = [] ∧ (State.reset.chip .a).on Kv.TIM_STAT.REFLOSS = false := by decide

/-! ### Hop ends -/

/-- String port 3 in link state `st`, with or without block lock. -/
def link (st lock : Nat) : List (Fld × Nat × Nat) :=
  [(Kv.SPn_STAT.LSTATE, 3, st), (Kv.SPn_STAT.ALOCK, 3, lock), (Kv.SYS_PWR.STATE, 0, 1), (Kv.SPn_CTRL.PAUTO, 3, 1)]

/-- Chip `k` with port 3's hop in the state `h`. -/
def withHop (k : Kv) (h : Hop) : Kv := k.onSp 3 (fun p => { p with hop := h })

/-- O12: DARK towards training and towards a blind start; UP, TRAIN and HUNT with and without lock, aligned and not; RUN and not. -/
theorem witness_link_start :
    (okH (kv (link 0 0)) (fun x c => x.rd spFlds.lstate 3 == lDark && !hopGoesBlind spFlds c 3 (x.wr spFlds.los 3 0)) &&
     okH (kv ((Kv.SPn_PEAK.SAVED, 3, 1) :: (Kv.SPn_CTRL.BRING, 3, 1) :: link 0 0)) (fun x c =>
       x.rd spFlds.lstate 3 == lDark && !c.nrz && c.bring == 1 && x.rd spFlds.saved 3 == 1 && !(x.h.auto && c.bring == 1 && !c.run)) &&
     okH (withHop (kv (link 4 1)) { service := true }) (fun x _ => x.rd spFlds.lstate 3 == lUp && x.rd spFlds.alock 3 == 1 && x.h.service) &&
     okH (withHop (kv (link 1 0)) { readyRun := 16 }) (fun x c =>
       x.rd spFlds.lstate 3 == lTrain && decide (16 ≤ x.h.readyRun) && !c.run && !c.nrz) &&
     okH (kv (link 1 1)) (fun x c => x.rd spFlds.lstate 3 == lTrain && !c.run && x.rd spFlds.alock 3 == 1 && !x.h.chars.any id && c.pauto) &&
     okH (kv ((Kv.SPn_CTRL.PAUTO, 3, 0) :: (link 1 1).take 3)) (fun x c => x.rd spFlds.alock 3 == 1 && !x.h.chars.any id && !c.pauto) &&
     okH (kv (link 2 0)) (fun x c => x.rd spFlds.lstate 3 == lShift && !c.run)) = true := by decide

/-- R62, R66: a training block received as sent tells lane 5 and its ready bit; 64 blocks with a valid header give lock. -/
theorem test_training_block :
    (let sent := (encodeChars false (trainingBlock 0xC5 1 5 true 9).chars).1
     let c := sent.map (BitVec.ofNat 10)
     match exec (.trainingBlockReceived (.sp .a 3) 0 (c.getD 0 0) (c.getD 1 0) (c.getD 2 0) (c.drop 3)) (atA (kv (link 1 1))) with
     | .next t => let h := ((t.chip .a).spP 3).hop; (h.peer, h.lane, h.farShift, h.readyRun, h.sigOk)
     | _ => (0, 0, 0, 0, false)) = (1, 5, 9, 1, true) := by decide +kernel

theorem witness_link_hunt :
    (okH (kv (link 3 1)) (fun x c => x.rd spFlds.lstate 3 == lHunt && x.rd spFlds.alock 3 == 1 && c.pauto && !x.h.blind && !c.run) &&
     okH (kv (link 3 0)) (fun x _ => x.rd spFlds.lstate 3 == lHunt && x.rd spFlds.alock 3 == 0) &&
     okH (withHop (kv (link 3 0)) { blind := true }) (fun x c => x.h.blind && !c.run && c.bring != 2) &&
     okH (withHop (kv ((Kv.SPn_CTRL.BRING, 3, 2) :: link 3 0)) { blind := true, failed := true }) (fun x c =>
       x.rd spFlds.lstate 3 == lHunt && x.h.blind && x.h.failed && (c.bring == 2 || (c.run && c.bring == 1)))) = true := by decide

/-- R71, R77: an aligned castle lane in TRAIN, with LAUTO. -/
theorem witness_lane_training :
    okA (kv [(Kv.CLn_STAT.LSTATE, 2, 1), (Kv.CLn_STAT.ALOCK, 2, 1), (Kv.CL_CTRL.LAUTO, 0, 1)]) (fun k =>
      k.rd Kv.CLn_STAT.LSTATE 2 == lTrain && k.rd Kv.CLn_STAT.ALOCK 2 == 1 && k.on Kv.CL_CTRL.LAUTO && !(Tab.get {} 2 k.cl).chars.any id) = true := by
  decide

/-- O13: adaptation under lock; an injection in TEST, into live frames in PARKED, and on the duty in RUN. -/
theorem witness_patterns :
    (okH (kv (link 4 1)) (fun x _ => x.rd spFlds.man 3 == 0 && x.rd spFlds.frozen 3 == 0 && x.rd spFlds.alock 3 == 1) &&
     okH (kv ((Kv.SPn_PCTL.EMODE, 3, 1) :: link 5 0)) (fun x _ =>
       x.rd spFlds.emode 3 == 1 && x.rd spFlds.lstate 3 == lTest && x.rd spFlds.elive 3 == 0) &&
     okH (kv ((Kv.SPn_PCTL.CPAT, 3, 2) :: link 5 0)) (fun x _ => x.rd spFlds.lstate 3 == lTest && x.rd spFlds.gpat 3 == 0 && x.rd spFlds.cpat 3 != 0) &&
     okA (kv ((Kv.SPn_PCTL.EMODE, 3, 3) :: (Kv.SPn_PCTL.ELIVE, 3, 1) :: link 4 1)) (fun k =>
       k.rd Kv.SPn_PCTL.EMODE 3 == 3 && k.on Kv.SPn_PCTL.ELIVE 3 && !k.duty) &&
     okA (kv [(Kv.SPn_PCTL.ELIVE, 3, 1), (Kv.CL_CASST.TOKEN, 0, 1), (Kv.SYS_PWR.STATE, 0, 0)]) (fun k =>
       k.on Kv.SPn_PCTL.ELIVE 3 && k.duty && k.rd Kv.SYS_PWR.STATE == 0)) = true := by decide

/-- O14: lanes that agree and disagree with the map; the link coming up, degraded, down; the power handshake's states. -/
theorem witness_castle_and_ports :
    (okA (kv [(Kv.CLn_STAT.LSTATE, 2, 3), (Kv.CLn_STAT.ALOCK, 2, 1), (Kv.CL_STAT.UP, 0, 1)]) (fun k => k.laneOf 2 == 2 && k.laneOf 3 != 2 &&
       k.rd Kv.CLn_STAT.LSTATE 2 == lHunt && k.on Kv.CLn_STAT.ALOCK 2 && k.on Kv.CL_STAT.UP && k.rd Kv.CL_STAT.ACT &&& k.lanesUp == k.rd Kv.CL_STAT.ACT) &&
     okA { kv [(Kv.CLn_STAT.LSTATE, 2, 3)] with cl := [(2, { blind := true })] } (fun k => k.laneOf 3 != 2 && k.rd Kv.CLn_STAT.LSTATE 2 == lHunt &&
       (Tab.get {} 2 k.cl).blind) &&
     okA (kv ((Kv.CL_CTRL.EN, 0, 1) :: (List.range 4).map (fun i => (Kv.CLn_STAT.LSTATE, i, 4)))) (fun k =>
       k.on Kv.CL_CTRL.EN && !k.on Kv.CL_STAT.UP && lanesCarry k.lanesUp) &&
     okA (kv [(Kv.CL_STAT.UP, 0, 1), (Kv.CL_STAT.ACT, 0, 0x1F)]) (fun k => k.on Kv.CL_STAT.UP && bit (k.rd Kv.CL_STAT.ACT) 4 &&
       lanesCarry (setBit (k.rd Kv.CL_STAT.ACT) 4 false)) &&
     okA (kv [(Kv.CL_STAT.UP, 0, 1), (Kv.CL_CTRL.EN, 0, 0)]) (fun k => k.on Kv.CL_STAT.UP && !k.on Kv.CL_CTRL.EN) &&
     okA (kv [(Kv.SPn_PCTL.GPAT, 3, 1), (Kv.SPn_CTRL.EN, 3, 1)]) (fun k => k.rd Kv.SPn_PCTL.GPAT 3 != 0 && (k.spP 3).frame == none &&
       (k.spP 3).launched == none) &&
     okA (kv [(Kv.SPn_PWR.PWREN, 3, 1), (Kv.SPn_PWR.PWROK, 3, 1)]) (fun k => k.on Kv.SPn_PWR.PWROK 3 && k.on Kv.SPn_PWR.PWREN 3) &&
     okA (kv [(Kv.SPn_PWR.PSTATE, 3, 2), (Kv.SPn_PWR.EN, 3, 1), (Kv.SPn_PWR.PWREN, 3, 1), (Kv.SPn_CTRL.EN, 3, 1),
         (Kv.SPn_STAT.LSTATE, 3, 1)]) (fun k =>
       (k.wr Kv.SPn_PWR.PWROK 1 3).rd Kv.SPn_PWR.PSTATE 3 == 2 && (k.wr Kv.SPn_PWR.PWROK 1 3).probeLight 3) &&
     okA (kv [(Kv.SPn_PWR.PSTATE, 3, 1), (Kv.SPn_PWR.EN, 3, 1), (Kv.SPn_CTRL.TXEN, 3, 1)]) (fun k => k.rd Kv.SPn_PWR.PSTATE 3 == 1 &&
       k.on Kv.SPn_PWR.EN 3 && !k.on Kv.SPn_PWR.GIVEUP 3 && k.on Kv.SPn_CTRL.TXEN 3)) = true := by decide

/-! ### Frames -/

/-- A header from the A end of string 0, its HCRC still open: duty, RUN, CARRY 1, tick 7, HOLDN 2, TLEN 1,000, no position before it. -/
def rawHeader : Header :=
  { str := 0, origin := 0, duty := true, mode := 1, layout := false, carry := 1, disc := false, nmod := 40, cseq := 5, holdn := 2
    tickno := 7, ticktime := 70000, sk := 0, sph := 0, spen := false, tlen := 1000, lofs := 0, pd := 0, turn := 0, asym := 0, hop := 0
    lpos := 0x1FF, lhop := 0, lrx := true, foldp := 0x1FF, barm := false, bfire := false, treq := false, tally := 0, ttick := 0, hcrc := 0 }

/-- The same with its HCRC, and a fold frame from the far end. -/
def header : Header := rawHeader.seal 0 true
def foldIn : Header := { rawHeader with origin := 2, duty := false, foldp := 3 }.seal 0 true

/-- A module in frames at position 0 of string 0 with both links up. -/
def placed (l : List (Fld × Nat × Nat)) : Cell :=
  { kc ([(Kc.OPT_PT.OPEN, 0, 1), (Kc.OPTn_STAT.LSTATE, 0, 4), (Kc.OPTn_STAT.LSTATE, 1, 4)] ++ l) with pos := some 0, tick := 7 }

/-- The command slot with these bits [127:24] for cell 0 and tick `t`, with its check. -/
def slotFor (body t : Nat) : CmdSlot := BitVec.ofNat 128 (sealSlot 104 body 0 t)

/-- A duty copy of tick 8 with side-channel operation `op` on the register at `side`. -/
def copyOf (op side : Nat) : Copy :=
  ⟨.w, 8, 5, slotFor (8 * 2 ^ 96 + 2 ^ 50 + 2 ^ 48 + op * 2 ^ 36 + 3 * 2 ^ 32 + side) 8, false⟩

/-- A trailer of string 0 and tick 7 with its check. -/
def trailer : Trailer := ({ cfire := false, fpos := 0, evtany := false, nlive := 1, tcrc := 0 } : Trailer).seal 0 7 true

/-- O15: a valid header, an invalid one, the module's own slot, and a frame in passage. -/
theorem witness_header_checks :
    (header.valid 0 && !rawHeader.valid 0 && copyValid header 0 (copyOf 0 0).slot && foldIn.valid 0 && foldIn.isFold) = true := by
  decide +kernel

theorem witness_passing_frame :
    (okC (placed []) (fun x => x.live && header.valid (x.checkStr header) && (x.takeHeader .w header 1000 0).forwards && x.w.hop.service == x.e.hop.service &&
       (x.takeHeader .w header 1000 0).pos.isSome && x.forwards && !rawHeader.valid (x.checkStr rawHeader) && !(x.port .w).passing) &&
     okC { placed [] with pos := none } (fun x => x.live && header.valid (x.checkStr header) && (x.takeHeader .w header 1000 0).forwards &&
       (x.takeHeader .w header 1000 0).pos == none) &&
     okC { placed [] with w := { inFrame := some header, passing := true, pass := some header } } (fun x => x.live && x.pos.isSome &&
       (x.port .w).inFrame == some header && !(x.port .w).voided && !x.w.folded && (x.port .w).passing && (x.port .w).pass == some header && x.place == none &&
       !(x.port .w).filled && copyValid header x.addr (copyOf 0 0).slot) &&
     okC { placed [] with place := some (9, 7), w := { passing := true, pass := some header } } (fun x => x.live && (x.port .w).passing &&
       (x.port .w).pass == some header && x.place == some (9, header.tickno.toNat) && x.pos.isSome && x.addr != 9) &&
     okC { placed [] with pos := none, place := some (9, 7), w := { passing := true, pass := some header } } (fun x => x.live &&
       (x.port .w).passing && x.place == some (9, header.tickno.toNat) && x.pos == none)) = true := by
  decide +kernel

/-- R103, R110: a module sends the header on with HOP one more and its own position. -/
theorem test_header_forwarded :
    (let out := ((placed []).takeHeader .w header 1000 0).forwardHeader .e header 0
     (out.hop.toNat, out.lpos.toNat, out.lhop.toNat)) = (1, 0, 1) := by decide +kernel

/-- O16: a module whose main domain runs, its tick timed by a header, by none, and by one judged at its end; holding beyond HOLDN. -/
theorem witness_module_boundary :
    (okC (kc []) (fun x => x.mainOn && !x.held && !x.timed && x.endSource == none) && okC { kc [] with timed := true } (·.timed) &&
     okC { kc [] with holding := true, hold := 3 } (fun x => x.holding && decide (x.holdLimit < x.hold) && !x.genDeaf)) = true := by decide

/-- R119, R120: a module that obeys no copy applies PARK after HOLDN ticks, and its tick counts on. -/
theorem test_module_boundary :
    (match exec (.cellTickBoundary 5 0) (atCell (placed [])) with
     | .next t => ((t.cell 5).tick, (t.cell 5).hold)
     | _ => (0, 0)) = (8, 1) := by decide

/-- O17: a read, an address, a write after its address, each in an in-time copy; the BCMD requests. -/
theorem witness_side_channel :
    (okC { placed [] with copies := [copyOf 1 0x1000] } (fun x =>
       x.request .w (fun op => op == 1 || decide (4 ≤ op)) == some (copyOf 1 0x1000)) &&
     okC { placed [] with copies := [copyOf 2 0x1000] } (fun x => x.request .w (· == 2) == some (copyOf 2 0x1000)) &&
     okC { placed [] with copies := [copyOf 3 0x55], staged := some (copyOf 3 0x55), stagedFor := 8, wa := [(3, Kc.CC_DSIGk.S.addr 0 0, 7)] }
       (fun x => x.request .w (· == 3) == some (copyOf 3 0x55) && x.obeyedDuty (copyOf 3 0x55) &&
         x.wa.find? (fun w => w.1 == 3 && w.2.2 + 1 == 8) == some (3, Kc.CC_DSIGk.S.addr 0 0, 7) &&
         (match x.writeReg 1 x.deadlineOfs (Kc.CC_DSIGk.S.addr 0 0) 0x55 with | some (_, true) => true | _ => false))) = true := by
  decide +kernel

theorem witness_bcmd :
    (okC { placed [] with held := true } (fun x => !x.runs) && okC (placed []) (fun x => x.runs && x.tallyAt == none && x.pos.isSome && x.rd Kc.CAP_STAT.STATE == capIdle && x.capOk) &&
     okC { placed [] with tallyAt := some 7 } (fun x => x.tallyAt.isSome) &&
     okC (placed [(Kc.GEN_TRIP.LAT, 0, 2)]) (fun x => x.runs && (x.wr Kc.GEN_TRIP.ACT 0).rd Kc.GEN_TRIP.LAT != 0 && !(x.wr Kc.GEN_TRIP.ACT 0).genDeaf)) = true := by
  decide

/-- O18: a position contradicted twice; fold conditions, their end, and a fold frame's launch. -/
theorem witness_folds :
    (okC { placed [] with posRun := 2 } (fun x => x.pos.isSome && decide (2 ≤ x.posRun)) &&
     okC (placed [(Kc.OPTn_STAT.LSTATE, 1, 3)]) (fun x => x.live && !x.rxUp .e) &&
     okC { placed [] with e := { folded := true, okRun := 8 } } (fun x => (x.port .e).folded && decide (8 ≤ (x.port .e).okRun)) &&
     okC { placed [] with e := { folded := true }, w := { last := some header } } (fun x => x.live && (x.port (Port.other .w)).folded &&
       !(x.port .w).folded && !(x.port (Port.other .w)).passing && (x.foldHeader .w 5).isSome)) = true := by decide

/-- A chip with string 0 of one module in service. -/
def port0 : Kv := kv [(Kv.SPn_CTRL.EN, 0, 1), (Kv.SPn_STAT.LSTATE, 0, 4), (Kv.SPn_GEOM.NMOD, 0, 1)]

/-- A report of cell 0 for tick 7, with its check. -/
def report : RepSlot := BitVec.ofNat 192 (sealSlot 168 (7 * 2 ^ 160 + 123) 0 7)

/-- O19: headers at a live port; a report for an open tick, good and failing; a staged report; the arrival point; a trailer. -/
theorem witness_port_frames :
    (okA port0 (fun k => k.spJoins 0 && header.valid 0 && !rawHeader.valid 0 && foldIn.valid 0 && foldIn.isFold) &&
     okA (port0.onSp 0 (fun p => { p with frame := some header })) (fun k => k.spLive 0 && decide (0 < (k.positions 0).length) &&
       (k.spP 0).frame == some header && !k.closedFor 7 && header.reportPos 1 0 == 0 && repCrcOk report 0 7 && rSeq report.toNat == 7 &&
       !header.isFold && ((k.setGot 0 7 (k.gotOf 0 7 ||| 4)).gotOf 0 7) % 2 == 0 && !repCrcOk 0 0 7) &&
     okA { port0.onSp 0 (fun p => { p with frame := some header }) with col := { closed := 8 } } (fun k => k.spLive 0 &&
       (k.spP 0).frame == some header && k.closedFor 7) &&
     okA (port0.onSp 0 (fun p => { p with rxTick := some 7 })) (fun k => k.spLive 0 && decide (0 < (k.positions 0).length) &&
       (k.spP 0).frame == none && (k.spP 0).rxTick == some 7 && !k.closedFor 7)) = true := by decide +kernel

theorem witness_report_staging :
    (okA { port0 with col := { held := [⟨0, 7, report, false, true⟩] } } (fun k => k.col.held == [⟨0, 7, report, false, true⟩] && !k.bankHeld 7) &&
     okA port0 (fun k => !k.closedFor 0 && !tickAhead k.tick 0)) = true := by decide +kernel

/-- R111, the spec's example: the seed of cell 7.113 for target tick 0x1245A3. -/
theorem test_slot_seed : slotSeed 0x771 0x1245A3 = 0x3B8DA3 := by decide

/-- R109, R110: a report whose check holds is entered; one bit wrong fails it. -/
theorem test_report_check : (repCrcOk report 0 7, repCrcOk (report ^^^ 1#192 <<< 40) 0 7, trailer.valid 0 7) = (true, false, true) := by
  decide +kernel

/-! ### Module: power, start, guard -/

/-- An image bank that passes in OPEN with the unprogrammed slots' key hash. -/
def bank : ImgChk :=
  { form := true, keyHash := 0, sig := true, svn := 0, ident := 0x1234, gcfg := 0, gth := 0, entry := 0x100 }

/-- R550, R624: a running image sets dead times and its first code byte; a reserved dead time stays. -/
theorem test_image_values :
    (let x := (kc []).loadImage { bank with regs := [(0x2001004, 0x004F0060)], code := [0xAB] }
     (x.rd Kc.GEN_DT.DT0, x.rd Kc.GEN_DT.DT1, Tab.get 0 0 x.mem)) = (0x60, 1600, 0xAB) := by decide

/-- O20: every power state, and the power at the monitors for each change. -/
theorem witness_power_states :
    (okC { kc [] with held := true } (fun x => !x.runs) && okC (kc []) (fun x => x.mayOpen && x.power == 3) &&
     okC (kc [(Kc.OPT_PT.TRIES, 0, 1)]) (fun x => x.mayOpen && x.rd Kc.OPT_PT.TRIES != 0) &&
     okC (kc [(Kc.OPT_PT.OPEN, 0, 1)]) (fun x => x.on Kc.OPT_PT.OPEN && !x.rxUp .w && !x.rxUp .e) &&
     okC { kc [] with power := 2 } (fun x => x.power == 2) && okC { power := 1 } (fun x => decide (1 ≤ x.power) && x.power != 0) &&
     okC {} (fun x => x.power == 0) &&
     decide (105 ≤ 80 + 30 ∧ 80 + 30 < 170 ∧ 15 ≤ 10 + 10 ∧ 10 + 10 < 105 ∧ 5 + 5 < 15 ∧ 175 ≤ 100 + 80 ∧ 15 ≤ 0 + 200)) = true := by decide

/-- O21: a supplied module held back, one whose program runs, one halted no core. -/
theorem witness_module_start :
    (okC { power := 2, held := true } (fun x => decide (2 ≤ x.power) && !x.mainOn && !x.grd.gaveUp &&
       (x.sampled { fail := 0, bench := true }).on Kc.CC_SEC.BENCH && (x.sampled { fail := 0, kflt := true }).bootBank bank bank == none) &&
     okC { power := 2, held := true, sec := { prog := 1 } } (fun x => (x.sampled { fail := 0 }).bootBank bank bank == some 0) &&
     okC (kc []) (fun x => x.runs && x.progOn && !x.on Kc.CC_DSTAT.HALTED)) = true := by decide

/-- R162: the first event is announced on both ports, and acknowledged by writing 1. -/
theorem test_event :
    (match exec (.cellEventRaise 5 21) (atCell (kc [(Kc.CC_EVP.PEND, 0, 0)])) with
     | .next t => ((t.cell 5).rd Kc.CC_EVP.PEND, (t.cell 5).w.evAny, (t.cell 5).e.evAny)
     | _ => (0, false, false)) = (2 ^ 21, true, true) := by decide

/-- A supplied module whose guard is enabled. -/
def guarded (l : List (Fld × Nat × Nat)) : Cell := kc ((Kc.GRD_CFG.EN, 0, 1) :: l)

/-- O22: the guard disabled, quiet, deciding; its bypass due; a decision to clear; a dead main domain, held and silent. -/
theorem witness_guard :
    (okC (kc [(Kc.GRD_CFG.EN, 0, 0)]) (fun x => x.power != 0 && !x.on Kc.GRD_CFG.EN) &&
     okC (guarded []) (fun x => x.power != 0 && x.on Kc.GRD_CFG.EN && !x.sensor && decide (0 < x.rd Kc.GRD_TH.OVCNT) && !x.mainDead) &&
     okC { guarded [(Kc.GRD_TH.OVTH, 0, 3100), (Kc.GRD_TH.OVCNT, 0, 3)] with grd := { ovRun := 2 } } (fun x =>
       x.on Kc.GRD_CFG.EN && !x.sensor && decide (x.rd Kc.GRD_TH.OVTH < guardCount 1600000) &&
       decide (x.rd Kc.GRD_TH.OVCNT ≤ x.grd.ovRun + 1) && !x.on Kc.GRD_STAT.OV) &&
     okC { guarded [] with grd := { bypDue := true } } (fun x => x.grd.bypDue && !x.on Kc.GRD_STAT.BYPF) &&
     okC (guarded [(Kc.GRD_STAT.OV, 0, 1)]) (fun x => x.runs && x.on Kc.GRD_STAT.OV && !x.on Kc.GRD_STAT.MDEAD) &&
     okC { guarded [(Kc.GRD_STAT.MDEAD, 0, 1)] with held := true } (fun x => x.on Kc.GRD_STAT.MDEAD && !x.grd.gaveUp && !x.runs) &&
     okC { guarded [(Kc.GRD_CFG.MDTO, 0, 2)] with grd := { quiet := some 160000 } } (fun x => x.grd.quiet == some 160000 &&
       decide (80000 * x.rd Kc.GRD_CFG.MDTO ≤ 160000))) = true := by
  decide

/-! ### Module: switching -/

/-- R173 to R176, the spec's example at cell 4.50 (times in 1.25 ns): before tick t a half-bridge cell stands in ZERO_LO with G1 on, and
commits the copy of tick t. -/
def gen0 : Cell :=
  { kc [(Kc.GEN_DT.DT0, 0, 2000), (Kc.GEN_MINP.MINP, 0, 4800), (Kc.GEN_CTRL.MPMODE, 0, 1), (Kc.GEN_STAT.STATE, 0, 4), (Kc.GEN_OUT.G, 0, 2)]
    with gen := { want := 4 } }
def slotT : CmdSlot := BitVec.ofNat 128 (1 * 2 ^ 116 + 4 * 2 ^ 113 + 1 * 2 ^ 110 + 3617 * 2 ^ 94 + 1 * 2 ^ 91 + 6399 * 2 ^ 75)
def slotT1 : CmdSlot := BitVec.ofNat 128 (1 * 2 ^ 116 + 1 * 2 ^ 113 + 4 * 2 ^ 110 + 1000 * 2 ^ 94 + 4 * 2 ^ 91 + 6399 * 2 ^ 75)
def gen1 : Cell := match exec (.modeActive 5 slotT) (atCell gen0) with | .next t => (t.cell 5).genTo 6400 | _ => {}
def gen2 : Cell :=
  match exec (.modeActive 5 slotT1) (atCell { gen1 with gen := { gen1.gen with bT := 6400 } }) with | .next t => t.cell 5 | _ => {}

theorem test_gen_edge : ((gen1.genTo 6400).rd Kc.GEN_OUT.G, gen1.gen.entered) = (1, some 3617) := by decide
theorem test_gen_stretch :
    ((gen2.genTo 7401).gen.stretch, (gen2.genTo 7401).rd Kc.GEN_OUT.G, (gen2.genTo 7401).rd Kc.GEN_STAT.PCNT,
     (gen2.genTo 8418).rd Kc.GEN_OUT.G, (gen2.genTo 10417).rd Kc.GEN_OUT.G, (gen2.genTo 10418).rd Kc.GEN_OUT.G) =
    (some 8417, 1, 1, 0, 0, 2) := by decide

/-- O23: a power cell and a sensor; SRC; the code that fires the bypass. -/
theorem witness_modes :
    (okC { kc [] with held := true } (fun x => !x.runs) && okC (kc [(Kc.GEN_CTRL.SRC, 0, 0)]) (fun x => x.runs && !x.genDeaf && !x.sensor && !x.on Kc.GEN_CTRL.SRC && !x.on Kc.GEN_STAT.ARMED &&
       x.addr == 0 && (0xB7F10000 : Word).toNat == 0xB7F1 * 2 ^ 16 + x.addr % 8192) &&
     okC (kc [(Kc.GEN_CTRL.SRC, 0, 1)]) (fun x => x.runs && !x.genDeaf && !x.sensor && x.on Kc.GEN_CTRL.SRC && (0 : Word).toNat != 0xB7F1 * 2 ^ 16 + x.addr % 8192) &&
     okC (kc [(Kc.GEN_STAT.ARMED, 0, 1)]) (fun x => x.runs && !x.genDeaf && !x.sensor && x.on Kc.GEN_STAT.ARMED) &&
     okC (kc [(Kc.CC_ROLE.SENSOR, 0, 1)]) (fun x => x.runs && !x.genDeaf && x.sensor)) = true := by decide

/-- R181: the second BYPASS_FIRE makes the firing due, and it drives BYP with every gate off. -/
theorem test_bypass_fire :
    (match exec (.modeBypassFire 5 0xB7F10000) (atCell (kc [(Kc.GEN_STAT.ARMED, 0, 1), (Kc.GEN_OUT.G, 0, 1)])) with
     | .next t => (match exec (.bypassArmedFire 5) t with
       | .next u => ((u.cell 5).on Kc.GEN_STAT.BYPF, (u.cell 5).on Kc.GEN_OUT.BYP, (u.cell 5).rd Kc.GEN_OUT.G)
       | _ => (false, false, 9))
     | _ => (false, false, 9)) = (true, true, 0) := by decide

/-- O24: one state for each event of a tick. -/
theorem witness_switching :
    (okC { gen0 with gen := { want := 4, edges := [(3617, 1)] } } (fun x => x.gen.edges == [(3617, 1)] && !x.on Kc.GEN_STAT.FROZEN &&
       x.genTo 3617 == x) &&
     okC { gen0 with gen := { want := 1, on := [(0, 5618)] } } (fun x => Tab.get 0 0 x.gen.on == 5618 && !x.on Kc.GEN_STAT.FROZEN &&
       x.genTo 5617 == x) &&
     okC { kc [(Kc.GEN_TRIP.LAT, 0, 1), (Kc.GEN_CTRL.SAFE0, 0, 1), (Kc.GEN_STAT.FROZEN, 0, 1)] with gen := { on := [(1, 5618)] } } (fun x =>
       x.on Kc.GEN_STAT.FROZEN && x.tripped && bit x.genTarget 1 && x.genTo 5617 == x) &&
     okC { gen0 with gen := { want := 4, stretch := some 8417 } } (fun x => x.gen.stretch == some 8417 && !x.on Kc.GEN_STAT.FROZEN &&
       !x.gen.resume && x.genTo 8417 == x) &&
     okC (kc [(Kc.GEN_TRIP.TEN, 0, 0x1F)]) (fun x => x.mainOn && !x.held && bit (x.rd Kc.GEN_TRIP.TEN) 4 && !bit (x.rd Kc.GEN_TRIP.LAT) 4) &&
     okC { kc [] with gen := { fireDue := true } } (fun x => x.gen.fireDue && !x.on Kc.GEN_STAT.FROZEN && !x.gen.resume) &&
     okC { kc [] with gen := { resume := true } } (fun x => x.gen.resume)) = true := by decide

theorem witness_switching_registers :
    (okC (kc [(Kc.GEN_DT.DT0, 0, 2000)]) (fun x => x.runs && x.rd Kc.GEN_MINP.MINP != 4800 && x.rwlOpen && decide (x.rd Kc.GEN_DT.DT0 < 4800) &&
       !x.on Kc.GEN_CTRL.TOPO) &&
     okC (kc [(Kc.GEN_MINP.MINP, 0, 0)]) (fun x => Kc.GEN_DT.DT0.ok 1000 && Kc.GEN_DT.DT1.ok 1000 && x.runs && x.rwlOpen && x.rd Kc.GEN_MINP.MINP == 0 &&
       x.rd Kc.GEN_DT.DT0 != 1000) &&
     okC { kc [] with hmode := 2 } (fun x => x.runs && !x.on Kc.GEN_CTRL.SRC && x.rwlOpen && x.hmode == 2 && !x.on Kc.GEN_STAT.OPEN) &&
     okC { kc [(Kc.GEN_STAT.OPEN, 0, 1)] with gen := { lpAge := 16 } } (fun x => x.runs && x.rwlOpen && x.on Kc.GEN_STAT.OPEN && decide (16 ≤ x.gen.lpAge) &&
       decide (bits 0x00190005 19 3 ≤ 4 ∧ bits 0x00190005 16 3 ≤ 4)) &&
     okC (kc [(Kc.GEN_STAT.FROZEN, 0, 1)]) (fun x => x.on Kc.GEN_STAT.FROZEN) &&
     okC { kc [] with haltReq := true } (fun x => x.haltReq && x.rd Kc.GEN_OUT.G == 0)) = true := by decide

/-- O25: a module with one gate of a pair on. -/
theorem witness_no_shoot_through : ((atCell gen0).kcAt 5).noShootThrough := by
  constructor <;> decide

/-! ### Module: measuring and capture -/

/-- R207, the spec's example of the reference station: 2,500.0 V, 1.850 V, 55.0 °C. -/
theorem test_scaling :
    (let x := kc [(Kc.ADC_VSC.CGAIN, 0, 20480), (Kc.ADC_VSC.COFS, 0, 0), (Kc.ADC_ESC.EGAIN, 0, 2048), (Kc.ADC_ESC.EOFS, 0, 0),
       (Kc.ADC_TSC.TGAIN, 0, 410), (Kc.ADC_TSC.TOFS, 0, 8000), (Kc.ADC_RESn.CODE, 0, 14800), (Kc.ADC_RESn.CODE, 2, 16800)]
     (x.vcap 20000 1, x.vce 0, x.tempField)) = (25000, 1850, 380) := by decide

/-- O26: conversions, calibration, and every state of the capture unit. -/
theorem witness_measuring :
    (okC { kc [] with held := true } (fun x => !x.runs) && okC (kc []) (fun x => x.runs && !x.on Kc.ADC_IRES.PEND && !x.on Kc.ADC_CAL.BUSY && !x.on Kc.ADC_CAL.WAIT && !x.sharedRow &&
       x.meas.slices != 0) &&
     okC { kc [] with meas := { cnt := 4, mCnt := 4 } } (fun x =>
       let y := (x.seeInputs []).convertTo (x.meas.fT - 112)
       x.runs && y.meas.slices != 0 && !y.sensor && y.meas.mCnt != 0) &&
     okC { kc [] with meas := { slices := 0 } } (fun x => ((x.seeInputs []).convertTo (x.meas.fT - 112)).meas.slices == 0) &&
     okC { kc [(Kc.ADC_IRES.PEND, 0, 1)] with meas := { sT := 1, fastT := 80, slotT := 80, inj := some (10, 5) } } (fun x => x.on Kc.ADC_IRES.PEND &&
       ((x.seeInputs [(0, #v[0, 0, 0, 0, 0, 7, 0, 0])]).convertTo (x.gen.bT + 400 - 111)).meas.injCode == some 7) &&
     okC (kc [(Kc.ADC_CAL.ROT, 0, 1)]) (fun x => x.rd Kc.ADC_CAL.ROT != 0) && okC (kc [(Kc.ADC_CAL.BUSY, 0, 1)]) (fun x => x.on Kc.ADC_CAL.BUSY)) =
    true := by decide +kernel

theorem witness_capture :
    (okC (kc []) (fun x => x.rd Kc.CAP_STAT.STATE == capIdle && x.capOk) &&
     okC (kc [(Kc.CAP_STAT.STATE, 0, 1), (Kc.CAP_CFG.SRC, 0, 0xFF), (Kc.CAP_CFG.FIRE, 0, 1)]) (fun x => x.rd Kc.CAP_STAT.STATE == capArmed &&
       x.capOk && bit (x.rd Kc.CAP_CFG.SRC) 3 && x.on Kc.CAP_CFG.FIRE && !x.meas.fired) &&
     okC (kc [(Kc.CAP_STAT.STATE, 0, 2), (Kc.CAP_CFG.POST, 0, 8), (Kc.CAP_NPOST.NPOST, 0, 8)]) (fun x => x.rd Kc.CAP_STAT.STATE == capPost &&
       x.meas.trigs == [] && x.rd Kc.CAP_NPOST.NPOST == x.rd Kc.CAP_CFG.POST)) = true := by decide

/-! ### Allocators, cell vector unit, state feedback -/

/-- A reference record for tick 2, and its words. -/
def refRec : Ref := { tgt := 2, va := 100, vb := 200, ia := 0, ib := 0, vc := 0, amode := 0 }
def refWords (i : Nat) : Nat := [2, 100, 200].getD i 0

/-- A chip whose tick 0 is closed, with arm 2 as `al`. -/
def armed (en : Nat) (al : Alloc) : Kv :=
  let k := kv [(Kv.ALk_CFG.EN, 2, en)]
  { k with col := { closed := 1 }, al := { arms := [(2, al)] } }

/-- The same with the latest point of arm references of tick 0 passed. -/
def judged (k : Kv) : Kv := { k with dsp := { k.dsp with t0Judged := 1 } }

/-- O27: no EN; a reference; one awaited; one to extrapolate; none left; the deadline. -/
theorem witness_allocation :
    (okA (armed 0 {}) (fun k => k.closedFor 0 && !tickDone (k.arm 2).done k.lead && !(k.overrideCells 2 k.lead).on Kv.ALk_CFG.EN 2) &&
     okA ((armed 1 {}).putRef 2 2 refWords) (fun k => k.closedFor 0 && (k.overrideCells 2 k.lead).on Kv.ALk_CFG.EN 2 &&
       k.ref 2 k.lead == some refRec) &&
     okA (armed 1 {}) (fun k => k.ref 2 k.lead == none && !tickDone k.dsp.t0Judged 0) &&
     okA (armed 0 { done := 9 }) (fun k => tickDone (k.arm 2).done k.lead) && okA (kv []) (fun k => !k.closedFor 0) &&
     okA (judged (armed 1 { last := some refRec })) (fun k => k.closedFor 0 && (k.overrideCells 2 k.lead).on Kv.ALk_CFG.EN 2 &&
       k.ref 2 k.lead == none && tickDone k.dsp.t0Judged 0 && k.refBad 2 k.lead == none && (k.arm 2).last == some refRec &&
       decide ((k.overrideCells 2 k.lead).rd Kv.ALk_STAT.XCNT 2 < 2)) &&
     okA (judged (armed 1 {})) (fun k => k.closedFor 0 && tickDone k.dsp.t0Judged 0 && k.ref 2 k.lead == none && k.refBad 2 k.lead == none && (k.arm 2).last == none)) = true := by
  decide

theorem witness_cvu :
    (okA (kv [(Kv.CVU_CTRL.EN, 0, 1)]) (fun k => k.on Kv.CVU_CTRL.EN && k.passAt 0 && k.strings.isEmpty) &&
     okA { kv [(Kv.CVU_CTRL.EN, 0, 1), (Kv.SPn_GEOM.NMOD, 4, 1)] with col := { closed := 1 } } (fun k => k.on Kv.CVU_CTRL.EN && k.passAt 0 &&
       k.reportsIn 4 0 && k.strings.find? (fun x => decide (k.al.passStr ≤ x)) == some 4 &&
       ((k.setCtl0 (4 * 256) (2 ^ 29)).powerCells 4).isEmpty) &&
     [1, 2, 3].all (fun b => decide (b < b + 1))) = true := by decide

/-- R225: 100 then 200 extrapolates to 200 then 300. -/
theorem test_extrapolation : ((refRec.extrapolate 4).va, (refRec.extrapolate 4).vb, (refRec.extrapolate 4).tgt) = (200, 300, 4) := by decide

/-- Engine 0 with loop 0 of one state, x = 100, and A = 51.2 as the spec's example writes it: SH 6, c 0x66666666 (R259, R280). -/
def loop1 : Kv :=
  let k := kv [(Kv.SFEn_CTRL.EN, 0, 1)]
  let k := (k.wrLe (sfeDescAt 0 0 0) (2 ^ 31) 4).wrLe (sfeDescAt 0 0 0 + 4) (2 ^ 26) 4
  let k := (k.wrLe (sfeCoefAt 0 0 0) 0x66666666 4).wrLe (sfeCoefAt 0 0 0 + 4) 6 4
  let k := k.wrLe (sfeLiveAt 0 0 0) 100 4
  { k with col := { closed := 1 }, sfe := [(0, { queue := [⟨0, 0, 0, 0⟩], ran := [(0, 1)] })] }

/-- O28: a loop that may execute; one to be skipped; a bank switch; the injection; an engine with nothing waiting. -/
theorem witness_loop :
    okA loop1 (fun k =>
      let d := k.desc 0 0 0
      k.sfeNext 0 == some ⟨0, 0, 0, 0⟩ && d.ok && k.sfeUnc 0 ⟨0, 0, 0, 0⟩ d false == none && !k.sfeStartsBank 0 ⟨0, 0, 0, 0⟩ && d.np == 0 && d.nm == 0 && d.nz == 0 && !d.cen &&
      !k.injActs 0 0 0 && !tickDone k.dsp.t0Judged 0 && !k.on Kv.SFEn_TRC.EN 0 && d.ns == 1 &&
      satS 32 (divNear (0 + k.coef 0 0 0 * 100) (2 ^ 55)) == divNear (0 + k.coef 0 0 0 * 100) (2 ^ 55)) = true := by
  decide +kernel

/-- R259, R260: 51.2 × 100 = 5,120. -/
theorem test_loop :
    (match exec (.sfeLoopExecute .a 0 0 0) (atA loop1) with
     | .next t => (t.chip .a).rdLe (sfeLiveAt 0 0 0) 4
     | _ => 0) = 5120 := by decide +kernel

theorem witness_engine :
    (okA { loop1.wr Kv.SFEn_DL.DL 50 0 with tim := { loop1.tim with ns := 600 * 2 ^ 32 } } (fun k => k.sfeJob 0 0 0 == some ⟨0, 0, 0, 0⟩ &&
       k.sfeOverdue 0 0) &&
     okA (kv [(Kv.SFEn_IF0.F0, 0, 5)]) (fun k => decide (1 ≤ (9 + 65536 - k.tick % 65536) % 65536 ∧ (9 + 65536 - k.tick % 65536) % 65536 ≤ 32767) &&
       !k.on Kv.SFEn_BANK.PEND 0 && k.rd Kv.SFEn_ISTAT.STATE 0 == 0 && bits 0x30000009 28 2 == 3 && bits 0x30000009 21 3 == 0 &&
       k.rd Kv.SFEn_IF0.F0 0 != 0) &&
     okA (kv [(Kv.SFEn_CTRL.EN, 0, 1)]) (fun k => k.on Kv.SFEn_CTRL.EN 0 && (k.sfeE 0).queue == [] && k.rd Kv.SFEn_IF0.F0 0 == 0) &&
     okA (kv [(Kv.SFEn_BANK.PEND, 0, 1)]) (fun k => k.on Kv.SFEn_BANK.PEND 0) &&
     okA (kv [(Kv.SFEn_ISTAT.STATE, 0, 2), (Kv.SFEn_ILEN.LEN, 0, 5), (Kv.SFEn_ISTAT.K, 0, 5)]) (fun k => k.rd Kv.SFEn_ISTAT.STATE 0 == 2 && decide (k.rd Kv.SFEn_ILEN.LEN 0 ≤ k.rd Kv.SFEn_ISTAT.K 0))) =
    true := by decide +kernel

/-! ### Instructions -/

/-- Chip `k` whose core 3 runs the context `x`, in context 0. -/
def core3 (k : Kv) (x : Ctx) : Kv := k.onCore 3 (fun q => { q with c0 := x })

/-- A context that runs an item, with these registers. -/
def ctx (g : List (Nat × Word)) : Ctx := { g := g, busy := true }

/-- What `Kv.ready` says of core 3, but for the cores that wait to be stepped. -/
def ready3 (k : Kv) : Bool :=
  let pc := ((k.core 3).ctx (k.ctxOf 3)).pc.toNat
  !k.coreHalted 3 && k.issues 3 && pc % 4 == 0 && decide (pc < 0xFFF8) && !k.bad (sysImem 3 + pc) && !k.bad (sysImem 3 + pc + 4) &&
    !k.on Kv.DBG_TRC.EN

theorem core3_ready {k : Kv} {x : Ctx} (hk : k.dsp.cores = []) (h : okA (core3 k x) ready3 = true) :
    (atA (core3 k x)).coreReady (.kv .a 3) := by
  simp only [okA, ready3, Bool.and_eq_true, Bool.not_eq_true', decide_eq_true_eq, beq_iff_eq] at h
  obtain ⟨h0, ⟨⟨⟨⟨⟨h1, h2⟩, h3⟩, h4⟩, h5⟩, h6⟩, h7⟩ := h
  refine ⟨h0, h1, h2, h3, h4, h5, h6, fun i => ?_, h7⟩
  show (Tab.get ({} : CoreSt) i (Tab.upd {} 3 (fun q : CoreSt => { q with c0 := x }) k.dsp.cores)).stepOk = false
  rw [hk]
  by_cases hi : i = 3
  · rw [hi, Tab.get_upd_same]; rfl
  · rw [Tab.get_upd_ne _ _ _ hi]; rfl

/-- A module whose cell core runs the context `x`. -/
def cell5 (x : Ctx) : Cell := { kc [] with core := x }

/-- O29 to O32, O35: a core of a chip and a cell core that may issue; constants that fit. -/
theorem witness_core : (atA (core3 (kv []) (ctx [(1, 5), (2, 7)]))).coreReady (.kv .a 3) := core3_ready (by decide) (by decide)
theorem witness_cell_core : (atCell (cell5 {})).coreReady (.cell 5) := by
  refine ⟨?_, ?_, ?_, ?_, ?_, ?_, ?_, ?_⟩ <;> decide
theorem witness_constant :
    ((atA (core3 (kv []) (ctx [(1, 5), (2, 7)]))).ctxAt (.kv .a 3)).reg 2 = (7#16).signExtend 32 ∧ (4 : Gpr) ≠ 0 := by decide

/-- The context that one instruction leaves on core 3, and on the cell core. -/
def ran (x : Ctx) (f : CoreRef → Instr) : Ctx :=
  match exec (f (.kv .a 3)) (atA (core3 (kv []) x)) with | .next t => t.ctxAt (.kv .a 3) | _ => {}
def ranCell (x : Ctx) (f : CoreRef → Instr) : Ctx :=
  match exec (f (.cell 5)) (atCell (cell5 x)) with | .next t => t.ctxAt (.cell 5) | _ => {}

/-- R297, R298: ADD sets C and V, ADDS saturates and sets Q; DIV by 0; the shifted-out bit. -/
theorem test_add :
    (let x := ran (ctx [(1, 0x80000000), (2, 0xFFFFFFFF)]) (fun r => .add r 4 1 2 true)
     (x.reg 4, x.z, x.n, x.c, x.v, x.q, x.pc)) = (0x7FFFFFFF, false, false, true, true, false, 4) := by decide
theorem test_adds :
    (let x := ran (ctx [(1, 0x80000000), (2, 0xFFFFFFFF)]) (fun r => .adds r 4 1 2 true)
     (x.reg 4, x.n, x.v, x.q)) = (0x80000000, true, true, true) := by decide
theorem test_div_by_zero : (let x := ran (ctx [(1, 0xFFFFFFFB)]) (fun r => .div r 4 1 2 false); (x.reg 4, x.q)) = (0x80000000, true) := by decide
theorem test_shift : (let x := ranCell (ctx [(1, 0x80000001), (2, 33)]) (fun r => .sll r 4 1 2 true); (x.reg 4, x.c)) = (2, true) := by decide
theorem test_g0 : (ran (ctx [(1, 5)]) (fun r => .addi r 0 1 9)).reg 0 = 0 := by decide
theorem test_branch : (ran (ctx []) (fun r => .bcc r 15 6)).pc = 24 ∧ (ran (ctx []) (fun r => .call r 6)).reg 31 = 4 := by decide

/-- O33: a target that is an address of an instruction, forward, by register and by a 16-bit address. -/
theorem witness_targets :
    (((0 : Word) + BitVec.ofInt 32 (4 * (6#22).toInt)).toNat < 0x10000 ∧ ((0 : Word) + BitVec.ofInt 32 (4 * (6#22).toInt)).toNat % 4 = 0) ∧
    ((ctx [(1, 0x40)]).reg 1).toNat % 4 = 0 ∧ (0x40#16).toNat % 4 = 0 := by decide

/-- R308, R313, the spec's example: 4 × 3,518,437,208,000 read out with a shift of −39 rounds to 26; a term of its own to 6. -/
theorem test_rounding :
    (let x := ran { ctx [(2, 0x59)] with acc := [(1, 14073748832000)] } (fun r => .extrr r 1 4 2 0); x.reg 4) = 26 ∧
    divNear (0x68DB8BAC * 2000) (2 ^ 39) = 6 := by decide

/-- O34, O35: accumulators each core has, and shifts. -/
theorem witness_accumulators :
    (1#3).toNat < (CoreRef.kv .a 3).accs ∧ (1#3).toNat < (CoreRef.cell 5).accs ∧ (-15#6).toInt ≤ 7 ∧ 0 ≤ (7#6).toInt ∧
    (((ctx [(2, 0x59)]).reg 2).extractLsb' 0 7).toInt ≤ 31 ∧ (1#5).toNat < (CoreRef.cell 5).accs := by decide

/-- O36, O37: an address of each region of the map, aligned for every width, readable; a forced range, and one that is not. -/
theorem witness_loads :
    (okA (core3 (kv []) (ctx [])) (fun k =>
       corePlace 3 0x100000 == .mem (sysDmem 3) && !k.bad (sysDmem 3) && !k.forced (sysDmem 3) 8 &&
       corePlace 3 0x1000000 == .arena sysArena && !k.bad sysArena && corePlace 3 0x4000000 == .sfe (sysSfe 0) && !k.bad (sysSfe 0) &&
       corePlace 3 0x2000000 == .reg 0 && corePlace 3 0x80000000 == .mem 0 && corePlace 3 0 == .none)) = true ∧
    (((ctx [(1, 0x100000)]).reg 1 + (0#16).signExtend 32).toNat = 0x100000 ∧ 0x100000 % 8 = 0 ∧ (4 : Gpr).getLsbD 0 = false) := by decide
theorem witness_forced :
    okA { core3 (kv []) (ctx [(1, 0x100000)]) with dsp :=
      { (core3 (kv []) (ctx [(1, 0x100000)])).dsp with forces := [(0, some ⟨1, 0, 4, 9, sysDmem 3, true, false⟩)] } }
      (fun k => k.forced (sysDmem 3) 4) = true := by decide

/-- A data SRAM of core 3 that holds 0x81828384 at its start. -/
def data3 : Kv := (kv []).wrLe (sysDmem 3) 0x81828384 4

/-- R301, R302: a byte sign-extended, and a compare-and-swap that succeeds. -/
theorem test_ldb :
    (match exec (.ldb (.kv .a 3) 4 1 3) (atA (core3 data3 (ctx [(1, 0x100000)]))) with
     | .next t => (t.ctxAt (.kv .a 3)).reg 4 | _ => 0) = 0xFFFFFF81 := by decide
theorem test_cas :
    (match exec (.cas (.kv .a 3) 4 1 2) (atA (core3 data3 (ctx [(1, 0x100000), (2, 7), (4, 0x81828384)]))) with
     | .next t => ((t.chip .a).rdLe (sysDmem 3) 4, (t.ctxAt (.kv .a 3)).z) | _ => (0, false)) = (7, true) := by decide
theorem test_cell_store :
    (match exec (.sth (.cell 5) 2 1 2) (atCell (cell5 (ctx [(1, 0x100000), (2, 0xABCD)]))) with
     | .next t => ((t.cell 5).rdLe 0x100002 2, (t.cell 5).rdLe 0x100000 2) | _ => (0, 0)) = (0xABCD, 0) := by decide

/-- O38 to O40: a readable, unforced word; fields of a record; a word of a cell core's SRAM. -/
theorem witness_atomic :
    okA (core3 data3 (ctx [(1, 0x100000)])) (fun k => ((k.running 3).reg 1).toNat % 4 == 0 && corePlace 3 0x100000 == .mem (sysDmem 3) &&
      !k.bad (sysDmem 3) && !k.forced (sysDmem 3) 4) = true := by decide
theorem witness_records :
    okA (core3 data3 (ctx [(1, 5)])) (fun k => decide ((164#8).toNat + (15#5).toNat ≤ 191) &&
      (List.range 4).all (fun i => !k.bad (recAddr 5 + 8 * i)) && !k.bad (recAddr 5 + 0xD0) && !k.forced (recAddr 5 + 0xD0) 4 &&
      !k.forced (recAddr 5 + 0x40) 4 && !k.bad (recAddr 5 + 0x40) && decide (bits 0x1200 12 3 ≤ 4 ∧ bits 0x1200 8 4 ≤ 5)) = true := by decide
theorem witness_cell_sram :
    cellSram 0x100000 = true ∧ ((atCell (cell5 (ctx [(1, 0x100000)]))).kcAt 5).bad 0x100000 = false := by decide

/-- O41: two pointers into data SRAM whose words are readable, and entries of coefficients of 0.0032. -/
def dots : Kv :=
  (List.range 4).foldl (fun k i => (k.wrLe (sysDmem 3 + 8 * i) 0x68DB8BAC 4).wrLe (sysDmem 3 + 8 * i + 4) 0x38 4) (kv [])
theorem witness_dot :
    okA (core3 dots (ctx [(1, 0x100000), (2, 0x100040)])) (fun k =>
      let x := k.running 3
      x.reg 1 == 0x100000 && x.reg 2 == 0x100040 && 0x100000 % 32 == 0 && 0x100040 % 16 == 0 &&
      (List.range 4).all (fun i => !k.bad (sysDmem 3 + 8 * i)) && (List.range 2).all (fun i => !k.bad (sysDmem 3 + 0x40 + 8 * i)) &&
      (List.range 4).all (fun i => sx 6 (bits (k.rdLe (sysDmem 3 + 8 * i + 4) 4) 0 6) == -8)) = true := by decide

/-- R313, the spec's example: DOT4C of four values of 2,000 gives 24. -/
theorem test_dot4c :
    (match exec (.dot4c (.kv .a 3) 1 1 2) (atA (core3
        ((List.range 4).foldl (fun k i => k.wrLe (sysDmem 3 + 0x40 + 4 * i) 2000 4) dots) (ctx [(1, 0x100000), (2, 0x100040)]))) with
     | .next t => (t.ctxAt (.kv .a 3)).accOf 1 | _ => 0) = 24 := by decide

/-- O42: contexts that wait, their instants come. -/
theorem witness_waiting :
    (okA (core3 (kv []) { ctx [] with wait := some (false, 0) }) (fun k => !k.coreHalted 3 && !(k.running 3).stopped &&
       (k.running 3).wait == some (false, 0) && k.waitOver (k.running 3) false 0 && !k.waitOver (k.running 3) false 1 &&
       (k.running 3).pc.toNat % 4 == 0 && decide ((k.running 3).pc.toNat < 0xFFFC) && k.waitOver (k.running 3) true 0) &&
     okC (cell5 { wait := some (false, 0) }) (fun q => q.runs && q.progOn && !q.on Kc.CC_DSTAT.HALTED && q.core.wait == some (false, 0) &&
       q.core.pc != 0xFFFC && q.waitOver false 0)) = true := by decide

/-- An item of task `t`. -/
def item (t : Nat) (flow : Option Nat) : Item :=
  { task := t, tick := 0, arg := 0, entry := 0, prio := 3, flow := flow, bank := false, cont := false, order := 0 }

/-- Chip `k` whose core 3 runs an item in context 0. -/
def core3Item (k : Kv) (x : Ctx) (i : Item) : Kv := k.onCore 3 (fun q => { q with c0 := x, item0 := some i })

/-- O43: a loaded counter of this tick; an item with a flow; a ledger range, on the duty and on the standby. -/
theorem witness_dispatch :
    (okA (let k := core3 (kv [(Kv.DSP_CNTj.EN, 9, 1), (Kv.DSP_CNTj.VAL, 9, 2)]) (ctx [(1, 9)])
          { k with dsp := { k.dsp with cntTick := [(9, 1)] } }) (fun k =>
       ready3 k && (k.running 3).reg 1 == 9 && k.on Kv.DSP_CNTj.EN 9 && decide (1 < k.rd Kv.DSP_CNTj.VAL 9) &&
       Tab.get 0 9 k.dsp.cntTick == (k.running 3).tick.toNat + 1) &&
     okA (core3Item (kv []) (ctx []) (item 70 (some 2))) (fun k => ready3 k && (k.core 3).item (k.ctxOf 3) == some (item 70 (some 2))) &&
     okA (core3 (kv [(Kv.CL_CASST.TOKEN, 0, 1)]) (ctx [(1, 0x100000), (2, 64)])) (fun k => ready3 k && k.duty &&
       ((k.running 3).reg 1).toNat == 0x100000 && ((k.running 3).reg 2).toNat == 64)) = true := by decide

/-- O44: a block that the image holds; a record of T0 for an arm in use, in time and late. -/
theorem witness_publish :
    (okA (core3 (kv [(Kv.IMG_CFG.NBLK, 0, 4)]) (ctx [(1, 0x100000), (2, 0x1002)])) (fun k => ready3 k &&
       (List.range 4).all (fun i => !k.bad (sysDmem 3 + 8 * i)) && decide (0x1002 < 0x1000 + k.rd Kv.IMG_CFG.NBLK)) &&
     okA (core3 ((kv [(Kv.SPn_GEOM.NMOD, 0, 1)]).wrLe (sysDmem 3) 5 4) (ctx [(1, 0x100000), (2, 0)])) (fun k => ready3 k &&
       k.usedArms.contains 0 && (k.running 3).busy && (k.running 3).item.extractLsb' 24 8 == 0 && !k.refLate 0 (k.targetOf (k.refAt 3 0x100000 0))) &&
     okA (let k := core3 (kv [(Kv.SPn_GEOM.NMOD, 0, 1)]) (ctx [(1, 0x100000), (2, 0)])
          { k with dsp := { k.dsp with t0Judged := 9 } }) (fun k => k.refLate 0 (k.targetOf (k.refAt 3 0x100000 0)))) = true := by decide

/-- O45, O46: level S, in and out of a trap handler. -/
theorem witness_levels :
    (okA (core3 (kv []) { ctx [] with tl := true, tpc := 0x40 }) (fun k => ready3 k && (k.running 3).priv && (k.running 3).tl &&
       decide (((k.running 3).tpc + 8).toNat < 0x10000) && ((k.running 3).tpc + 8).toNat % 4 == 0) &&
     okA (core3 (kv []) (ctx [(1, 2)])) (fun k => ready3 k && !(k.running 3).tl && decide (k.rd Kv.Cn_XCNT.EXC 3 + 1 < Kv.Cn_XCNT.EXC.max) &&
       decide ((k.core 3).tbase.toNat + 0x40 * 15 < 0x10000) && k.rd Kv.DBG_STAT.LEVEL != 2 && decodeOp 0 0 == none &&
       decodeOp 0xFC010000 0 == none && isLongWord 0xFC010000 &&
       ((k.running 3).reg 1 + (0#16).signExtend 32).toNat % 4 != 0 && corePlace 3 0x40 == .none)) = true := by decide

/-- R325, R326: a TRAP saves its address and cause and goes to its vector; on a cell core it is ILLEGAL and resets the core. -/
theorem test_trap :
    (let x := ran { ctx [] with pc := 0x20 } (fun r => .trap r 3)
     (x.tpc, x.twhy, x.pc, x.tl, x.priv)) = (0x20, 0x309, 0x240, true, true) := by decide
theorem test_cell_trap :
    (match exec (.trap (.cell 5) 3) (atCell (cell5 { pc := 0x20 })) with
     | .next t => ((t.cell 5).rd Kc.CC_XC.CAUSE, (t.cell 5).rd Kc.CC_XC.PC, (t.cell 5).core.pc) | _ => (0, 0, 9)) = (1, 0x20, 0) := by decide

/-! ### Dispatcher, forces, on-line change -/

/-- The chip `k` with its dispatcher changed. -/
def onDsp (k : Kv) (f : DspSt → DspSt) : Kv := { k with dsp := f k.dsp }

/-- An image as its checks ask, each section empty (and so with its own number as check value), one code section for every core. -/
def image : Image :=
  { raw := [], forKv := true, length := 0
    sections := [⟨.header, 0, 0, 0⟩, ⟨.timing, 0, 0, 1⟩, ⟨.map, 0, 0, 2⟩, ⟨.code, 0, 0, 3⟩, ⟨.data, 0, 0, 4⟩, ⟨.tasks, 0, 0, 5⟩,
      ⟨.counters, 0, 0, 6⟩, ⟨.vars, 0, 0, 7⟩, ⟨.settings, 0, 0, 8⟩, ⟨.signature, 0, 0, 9⟩]
    keyHash := 0, sig := true, svn := 0, ident := 1, version := 1, wp := 3000, regs := []
    code := [(0xFFFF, [])], data := [], entries := [], vars := [⟨7, 0x1000, 16, true⟩], arms := [], cells := [], cellProgs := [] }

/-- Key slot 0 programmed with hash 0. -/
def keyed (k : Kv) : Kv := { k with sec := { k.sec with prog := 1 } }

/-- O48: MTICK at 0, ahead, while one pends, without an image, and held. -/
theorem witness_mode_requests :
    (okA (kv []) (fun k => decide ((0 + 65536 - k.tick % 65536) % 65536 = 0) && decide ((5 + 65536 - k.tick % 65536) % 65536 = 5) &&
       k.dsp.modeReq == none && k.dsp.img == none) &&
     okA (onDsp (kv []) (fun d => { d with modeReq := some (1, 5) })) (fun k => k.dsp.modeReq.isSome) &&
     okA (onDsp (kv [(Kv.SYS_STAT.PHASE, 0, 7)]) (fun d => { d with img := some image })) (fun k => k.dsp.modeReq == none && k.dsp.img.isSome &&
       k.rd Kv.SYS_STAT.PHASE == 7 && !k.on Kv.SYS_STAT.HELD)) = true := by decide

theorem witness_releases :
    (okA (onDsp (kv []) (fun d => { d with cores := [(3, { swReq := true })] })) (fun k => (k.core 3).swReq) &&
     okA { kv [(Kv.DSP_STAT.MODE, 0, 1)] with col := { closed := 1 } } (fun k => !k.on Kv.DSP_T0CFG.CEN && k.closedFor 0 && k.mode != 0 &&
       !tickDone k.dsp.t0Rel 0 && k.dsp.t0Due == [] && k.dsp.t0Run == none && k.col.held == [] && !k.ldgHolds 0) &&
     okA (onDsp (kv [(Kv.DSP_STAT.MODE, 0, 1), (Kv.DSP_ECFGk.EN, 6, 1)]) (fun d => { d with ready := [item 70 none] })) (fun k =>
       k.on Kv.DSP_ECFGk.EN 6 && k.mode == 1 && k.dsp.ready.any (fun w => w.task == 64 + 6 && !w.cont)) &&
     okA (kv [(Kv.DSP_STAT.MODE, 0, 1), (Kv.DSP_ECFGk.EN, 6, 1)]) (fun k => k.on Kv.DSP_ECFGk.EN 6 && k.mode == 1 && k.dsp.ready == [])) = true := by
  decide

/-- Core 3 in dispatcher service, an E-item ready for it alone, and what it runs. -/
def waiting (run : Option Item) : Kv :=
  onDsp (kv [(Kv.Cn_CTRL.EN, 3, 1), (Kv.DSP_ECFGk.CMASK, 6, 8), (Kv.DSP_ECFGk.PREEMPT, 6, 1)]) (fun d => { d with
    ready := [item 70 none], cores := match run with | some i => [(3, { c0 := ctx [], item0 := some i })] | none => [] })

theorem witness_stall_and_preemption :
    (okA (waiting (some { item 65 none with prio := 1 })) (fun k => k.queue == [item 70 none] && k.taskMask 70 == 2 ^ 3 && k.coreServes 3 &&
       (k.core 3).stall == none && !k.coreIdle 3 && k.taskPreempts 70 && (k.core 3).item (k.ctxOf 3) == some { item 65 none with prio := 1 } &&
       decide (1 < (item 70 none).prio) && (k.core 3).item (1 - k.ctxOf 3) == none && !k.ctxOff 3 (1 - k.ctxOf 3)) &&
     okA (waiting none) (fun k => k.queue == [item 70 none] && k.coreServes 3 && (k.core 3).stall == none && k.coreIdle 3 && !k.ctxOff 3 (k.ctxOf 3))) =
    true := by decide

/-- T0 of tick 7 in context 0 of core 3. -/
def t0Running : Kv :=
  onDsp (kv []) (fun d => { d with t0Run := some 7, t0Judged := 9, cores := [(3, { c0 := ctx [], item0 := some (item 0 none) })] })

theorem witness_t0_deadline :
    (okA (kv []) (fun k => !tickDone k.dsp.t0Judged 7 && !tickDone (k.cntDiscard 7).dsp.t0End 7 && (k.cntDiscard 7).mode == 0 &&
       !tickDone (k.cntDiscard 7).dsp.t0Rel 7) &&
     okA (onDsp (kv [(Kv.DSP_STAT.MODE, 0, 1), (Kv.DSP_STAT.T0CONS, 0, 2)]) (fun d => { d with t0End := 0 })) (fun k =>
       !tickDone k.dsp.t0Judged 7 && !tickDone (k.cntDiscard 7).dsp.t0End 7 && (k.cntDiscard 7).mode != 0) &&
     okA (onDsp (kv []) (fun d => { d with t0End := 8 })) (fun k => !tickDone k.dsp.t0Judged 7 && tickDone (k.cntDiscard 7).dsp.t0End 7) &&
     okA t0Running (fun k => k.dsp.t0Run == some 7 && tickDone k.dsp.t0Judged 8 && k.t0Place == some (3, 0) && !k.coreHalted 3)) = true := by
  decide

theorem witness_core_service :
    (okA (kv []) (fun k => (k.core 3).item0 == none && (k.core 3).item1 == none && (k.core 3).stall == none) &&
     okA t0Running (fun k => (k.core 3).item0.isSome) &&
     okA (onDsp (kv []) (fun d => { d with cores := [(3, { stall := some (item 70 none) })] })) (fun k =>
       (k.core 3).stall == some (item 70 none) && (item 70 none).flow == none)) = true := by decide

/-- O49: an entry of the force table; a forceable range on the duty, one too soon; the states of an on-line change. -/
theorem witness_forces :
    (okA (onDsp (kv []) (fun d => { d with forces := [(2, some ⟨7, 0, 4, 9, 0x1000, true, false⟩)] })) (fun k => (Tab.get none 2 k.dsp.forces).isSome) &&
     okA (onDsp (kv [(Kv.CL_CASST.TOKEN, 0, 1), (Kv.DSP_FRCS.VID, 0, 7)]) (fun d => { d with vars := image.vars })) (fun k => k.duty &&
       decide (2 ≤ (5 + 65536 - k.tick % 65536) % 65536) && decide ((1 + 65536 - k.tick % 65536) % 65536 < 2) &&
       (forceTarget k.dsp.vars (k.rd Kv.DSP_FRCS.VID) (k.rd Kv.DSP_FRCS.OFS) (2 ^ k.rd Kv.DSP_FRCS.SIZE)).isSome) &&
     okA (kv [(Kv.CL_CASST.TOKEN, 0, 1)]) (fun k => k.duty &&
       forceTarget k.dsp.vars (k.rd Kv.DSP_FRCS.VID) (k.rd Kv.DSP_FRCS.OFS) (2 ^ k.rd Kv.DSP_FRCS.SIZE) == none) &&
     okA (kv []) (fun k => !k.duty && k.rd Kv.DSP_OLC.STATE == 0)) = true := by decide

theorem witness_online_change :
    (okA (keyed (kv [(Kv.DSP_OLC.STATE, 0, 1)])) (fun k => !k.duty && k.rd Kv.DSP_OLC.STATE == 1 && !k.dsp.olcReload &&
       k.imageAccepted (!k.boot.slot) image && image.formed && !k.imageAccepted (!k.boot.slot) { image with sections := [⟨.header, 0, 0, 9⟩] }) &&
     okA (kv [(Kv.DSP_OLC.STATE, 0, 2), (Kv.DSP_OLCN.NCHK, 0, 3), (Kv.DSP_OLCN.DONE, 0, 3)]) (fun k => k.rd Kv.DSP_OLC.STATE == 2 &&
       decide (k.rd Kv.DSP_OLCN.NCHK ≤ k.rd Kv.DSP_OLCN.DONE)) &&
     okA (kv [(Kv.DSP_OLC.STATE, 0, 3)]) (fun k => !k.duty && k.rd Kv.DSP_OLC.STATE == 3)) = true := by decide +kernel

/-! ### Token, castling, ledger -/

/-- The KF-120 in service with some of its register fields set. -/
def kf (l : List (Fld × Nat)) : Kf := l.foldl (fun k e => k.wr e.1 e.2) { ({} : Kf) with inReset := false }
def okKf (k : Kf) (p : Kf → Bool) : Bool := p ((atKf k).kfAt)

/-- A heartbeat. -/
def hb (claim ready able release xreq : Bool) : Hb :=
  { n := 4, cseq := 6, ctick := 20, claim := claim, ready := ready, able := able, release := release, xreq := xreq, mode := 1 }

/-- O50: a free token; A as holder with B silent, READY, able; a restart with A claiming. -/
theorem witness_token :
    (okKf (kf []) (fun f => !f.inReset && !f.held && f.xfer == none && (hb false true true false false).ready && !f.on Kf.TOK_STAT.HBB) &&
     okKf (kf [(Kf.TOK_STAT.HELD, 1)]) (fun f => !f.inReset && f.isHolder false && f.xfer == none && !f.refused && f.lapsed == none) &&
     okKf { kf [(Kf.TOK_STAT.HELD, 1), (Kf.TOK_STAT.HBB, 1)] with hbB := some (hb false true true false false) } (fun f => f.isHolder false &&
       f.xfer == none && f.on Kf.TOK_STAT.HBB && f.hbB == some (hb false true true false false) && f.lapsed != some 20 &&
       (20 + 65536 - 4) % 65536 == 16) &&
     okKf { kf [(Kf.TOK_STAT.HELD, 1), (Kf.TOK_STAT.HBA, 1), (Kf.TOK_STAT.HBB, 1)] with hbB := some (hb false true true false false) } (fun f =>
       f.isHolder false && f.xfer == none && f.on Kf.TOK_STAT.HBA && f.on Kf.TOK_STAT.HBB && (hb false true true false false).able) &&
     okKf { kf [(Kf.TOK_STAT.HBA, 1)] with hbA := some (hb true true true false false) } (fun f => !f.inReset && !f.held && f.on Kf.TOK_STAT.HBA &&
       f.hbA == some (hb true true true false false) && !f.on Kf.TOK_STAT.HBB)) = true := by decide

/-- O50, the chips' side: a standby, the duty before, in and after an offer, the link up, READY and not. -/
theorem witness_castling :
    (okA (kv [(Kv.CL_STAT.UP, 0, 1), (Kv.CL_RDY.READY, 0, 1)]) (fun k => !k.duty && !k.dsp.killWait && k.on Kv.CL_STAT.UP && k.on Kv.CL_RDY.READY &&
       env.ok && !env.claim && (20 + 65536 - k.tick % 65536) % 65536 == 20) &&
     okA (kv [(Kv.CL_STAT.UP, 0, 1), (Kv.CL_RDY.READY, 0, 0)]) (fun k => !k.duty && k.on Kv.CL_STAT.UP && !k.on Kv.CL_RDY.READY) &&
     okA (kv [(Kv.CL_STAT.UP, 0, 1), (Kv.CL_CASST.TOKEN, 0, 1)]) (fun k => k.duty && k.on Kv.CL_STAT.UP && k.rd Kv.CL_CASST.PSTATE == 0) &&
     okA (kv [(Kv.CL_STAT.UP, 0, 1), (Kv.CL_CASST.TOKEN, 0, 1), (Kv.CL_CASST.PSTATE, 0, 1)]) (fun k => k.duty && k.on Kv.CL_STAT.UP &&
       k.rd Kv.CL_CASST.PSTATE == 1 && !k.cas.ctick.any (tickAhead (k.tick + 4))) &&
     okA (onDsp (kv [(Kv.CL_STAT.UP, 0, 1), (Kv.DSP_OLC.STATE, 0, 4), (Kv.CL_RDY.COND, 0, 0xF3)]) (fun d => { d with olcTick := 20 })) (fun k => !k.duty &&
       k.on Kv.CL_STAT.UP && k.rd Kv.DSP_OLC.STATE == 4 && k.dsp.olcTick % 65536 == 20 && k.rd Kv.CL_RDY.COND &&& 0xF3 == 0xF3)) = true := by decide

/-- R371, R372: a CONF without a transfer makes the chip duty under the sequence it names. -/
theorem test_conf :
    (match exec (.confReceived .a 4 6 false false 0) State.reset with
     | .next t => ((t.chip .a).duty, (t.chip .a).rd Kv.CL_CASST.CSEQ, (t.chip .b).duty) | _ => (false, 0, false)) = (true, 6, false) := by decide

/-- A STATE message, and an envelope whose check fails. -/
def stateMsg : StateMsg :=
  { tick := 0, claim := false, ready := true, able := true, cond := 0, imgId := 1, imgVer := 1, mode := 1, missed := none, gen := 0, imgTick := 0 }
def badEnv : Envelope := { env with ok := false }

/-- A ledger sink with its link up. -/
def sink : Kv := kv [(Kv.CL_STAT.UP, 0, 1), (Kv.LDG_CTRL.EN, 0, 1)]

/-- O51: a failing message, a valid one, and what each needs of the chip. -/
theorem witness_messages :
    (okA sink (fun k => k.on Kv.CL_STAT.UP && !badEnv.ok && env.ok && !env.claim && stateMsg.missed == none && !stateMsg.claim && !k.duty &&
       !k.tokenAt (k.frameFor 5) && k.seqAt (k.frameFor 5) == 0 && tickAhead k.tick 5 && !tickAhead k.tick 0 && k.ldgSink && k.epochSink 3 &&
       !tickDone k.cas.epochDone 3 && k.cas.epochs == [] && !((atA sink).chip .b).ldgSource && !k.cvuDone 5 1 && (List.replicate 116 (0 : Byte)).length == 116) &&
     okA { kv [] with cas := { (kv []).cas with period := 100000000 } } (fun k => !k.duty && decide (100000000 / k.tickNs ≤ k.cas.period)) &&
     okA { sink with cas := { sink.cas with epochs := [⟨3, [], false⟩] } } (fun k => k.epochSink 3 && !tickDone k.cas.epochDone 3 &&
       k.cas.epochs == [⟨3, [], false⟩]) &&
     okA (kv [(Kv.CL_BIST.EN, 0, 1)]) (fun k => !k.duty && k.on Kv.CL_BIST.EN && k.bistFree ((k.rd Kv.CL_BIST.POS + 1) % 2848))) = true := by
  decide

/-! ### Faults and events -/

/-- Source 4 with severity `sev` and threshold 4, its occurrences so far as given. -/
def source4 (sev : Nat) (l : List (Fld × Nat × Nat)) : Kv :=
  kv ([(Kv.FLT_SEVn.SEV, 4, sev), (Kv.FLT_WINn.EN, 4, 0), (Kv.FLT_WINn.THR, 4, 4), (Kv.EVT_RTn.MINSEV, 4, 1)] ++ l)

/-- O52: merged, new at every level, in a window above and below its threshold, settings, injections, and the masks. -/
theorem witness_faults :
    (okA (source4 1 [(Kv.FLT_SSTn.PEND, 4, 1), (Kv.FLT_SSTn.CSEV, 4, 1), (Kv.FLT_CFG.MERGE, 0, 1)]) (fun k => !k.on Kv.FLT_WINn.EN 4 &&
       decide (k.rd Kv.FLT_SSTn.OCC 4 + 1 < 65535) && k.on Kv.FLT_SSTn.PEND 4 && k.on Kv.FLT_CFG.MERGE && decide (k.rd Kv.FLT_SEVn.SEV 4 ≤ k.rd Kv.FLT_SSTn.CSEV 4)) &&
     okA (source4 5 [(Kv.CL_CASST.TOKEN, 0, 1)]) (fun k => !k.on Kv.FLT_WINn.EN 4 && !k.on Kv.FLT_SSTn.PEND 4 && !k.on Kv.FLT_STAT.LFULL && k.duty &&
       decide (5 ≤ k.rd Kv.FLT_SEVn.SEV 4) && decide (k.rd Kv.FLT_CFG.FFMIN ≤ 5) && !k.on Kv.FLT_FF0.VALID && decide (k.rd Kv.EVT_RTn.MINSEV 4 ≤ 5) &&
       decide (1 ≤ k.rd Kv.FLT_SEVn.SEV 4)) &&
     okA (kv [(Kv.FLT_SEVn.SEV, 100, 3), (Kv.FLT_WINn.EN, 100, 0)]) (fun k => !k.on Kv.FLT_WINn.EN 100 && !k.on Kv.FLT_SSTn.PEND 100 &&
       !k.on Kv.FLT_STAT.LFULL && decide (3 ≤ k.rd Kv.FLT_SEVn.SEV 100) && addrIsCell ⟨100, 0, 5⟩ && Tab.get 0 5 k.ovrAt == 0) &&
     okA (source4 4 [(Kv.DSP_OLC.STATE, 0, 2)]) (fun k => !k.on Kv.FLT_WINn.EN 4 && !k.on Kv.FLT_SSTn.PEND 4 && !k.on Kv.FLT_STAT.LFULL &&
       decide (4 ≤ k.rd Kv.FLT_SEVn.SEV 4) && k.olcFails (k.rd Kv.DSP_OLC.STATE)) &&
     okA { source4 1 [(Kv.FLT_SSTn.WCNT, 4, 5), (Kv.FLT_SSTn.LAST, 4, 1)] with winOpen := [(4, 1)], tim := { (kv []).tim with up := 1500000000 * 2 ^ 32 } } (fun k =>
       let len := 1000000 * k.rd Kv.FLT_WINn.WLEN 4
       Tab.get 0 4 k.winOpen == 1 && decide (1 + len ≤ k.upNs + 1001 ∧ k.upNs + 1001 < 1 + 2 * len) &&
       decide (k.rd Kv.FLT_WINn.THR 4 ≤ k.rd Kv.FLT_SSTn.WCNT 4) && k.on Kv.FLT_SSTn.LAST 4) &&
     okA { source4 1 [(Kv.FLT_SSTn.WCNT, 4, 1), (Kv.FLT_SSTn.LAST, 4, 1)] with winOpen := [(4, 1)], tim := { (kv []).tim with up := 1000000000 * 2 ^ 32 } }
       (fun k => Tab.get 0 4 k.winOpen == 1 && decide (1 + 1000000 * k.rd Kv.FLT_WINn.WLEN 4 ≤ k.upNs + 1001) &&
       decide (k.rd Kv.FLT_SSTn.WCNT 4 < k.rd Kv.FLT_WINn.THR 4)) &&
     okA { source4 1 [] with winOpen := [(4, 1)] } (fun k => decide (k.upNs + 1001 < Tab.get 0 4 k.winOpen + 1000000 * k.rd Kv.FLT_WINn.WLEN 4))) = true := by decide

theorem witness_fault_settings :
    (Kv.FLT_WINn.WLEN.ok 100 && Kv.FLT_WINn.THR.ok 4 &&
     okA (kv []) (fun k => k.parked) && okA (kv [(Kv.SYS_PWR.STATE, 0, 0), (Kv.CL_CASST.TOKEN, 0, 1)]) (fun k => !k.parked && k.duty) &&
     okA (kv [(Kv.EVT_MSKm.MSK, 0, 0x11), (Kv.EVT_PENDm.PEND, 0, 0x10), (Kv.EVT_RTn.MEN, 4, 1)]) (fun k => (k.rd Kv.EVT_MSKm.MSK 0).testBit 4 &&
       k.rd Kv.EVT_MSKm.MSK 0 - 2 ^ 4 == 1 && k.evPend 4 && k.on Kv.EVT_RTn.MEN 4)) = true := by decide

/-- R418, R419, the spec's example of SP3: with ESC 1 and ESCMAX 3 a second occurrence of a pending source is one level higher. -/
theorem test_escalation :
    (match exec (.faultOccurrence .a 4 0 3) (atA (source4 1 [(Kv.FLT_SEVn.ESC, 4, 1), (Kv.FLT_SEVn.ESCMAX, 4, 3)])) with
     | .next t => (match exec (.faultOccurrence .a 4 0 3) t with
       | .next u => ((t.chip .a).rd Kv.FLT_SSTn.CSEV 4, (u.chip .a).rd Kv.FLT_SSTn.CSEV 4) | _ => (0, 0))
     | _ => (0, 0)) = (1, 2) := by decide

/-! ### Capture of the chip, memory, host, network -/

/-- Acquisition unit 1, enabled, in state `st`, alone in its group, with tick 0 closed. -/
def unit1 (st : Nat) (l : List (Fld × Nat × Nat)) (u : AcqUnit) : Kv :=
  { kv ([(Kv.ACQ_CTRL.MSTR, 0, 1), (Kv.ACQ_CTRL.GRP, 0, 2), (Kv.ACQn_CFG.EN, 1, 1), (Kv.ACQn_STAT.STATE, 1, st), (Kv.ACQn_ROWS.ROWS, 1, 64),
     (Kv.ACQn_PTRIG.POST, 1, 8)] ++ l) with col := { closed := 1 }, acq := [(1, u)] }

/-- A data row of tick 0. -/
def row0 : AcqRow := { slot := 0, tick := 0, gap := false, vals := [] }

/-- O53: units disabled, idle, recording; arms in and out of time; rows due, in a gap and not; a record complete. -/
theorem witness_units :
    (okA (kv []) (fun k => !k.on Kv.ACQn_CFG.EN 1 && !k.acqDue 1 0) &&
     okA (unit1 0 [] AcqUnit.reset) (fun k => k.acqMembers == [1] && k.on Kv.ACQn_CFG.EN (k.rd Kv.ACQ_CTRL.MSTR) && k.rd Kv.ACQn_STAT.STATE 1 == 0 &&
       decide (k.lead + 2 ≤ (9 + 65536 - k.tick % 65536) % 65536) && decide ((1 + 65536 - k.tick % 65536) % 65536 < k.lead + 2) &&
       (k.acqMembers.flatMap (fun q => ((k.acqU q).rows.filter (fun r => !r.gap)).map (·.tick))).isEmpty) &&
     okA (unit1 1 [] { AcqUnit.reset with rows := [row0] }) (fun k => k.on Kv.ACQn_CFG.EN 1 && k.rd Kv.ACQn_STAT.STATE 1 == 1 &&
       k.acqMembers.flatMap (fun q => ((k.acqU q).rows.filter (fun r => !r.gap)).map (·.tick)) == [0]) &&
     okA (unit1 2 [] AcqUnit.reset) (fun k => k.acqDue 1 0 && (k.acqU 1).gap == none && k.rd Kv.ACQn_STAT.STATE 1 == 2 &&
       (k.acqU 1).fireWait == none && k.rd Kv.ACQn_CFG.MACT 1 == 0) &&
     okA { unit1 2 [] { AcqUnit.reset with gap := some (0, 1) } with col := { closed := 2 } } (fun k => k.acqDue 1 1 && (k.acqU 1).gap == some (0, 1) &&
       !tickAhead 1 (0 + 1)) &&
     okA (unit1 2 [(Kv.ACQn_NPOST.NPOST, 1, 8)] AcqUnit.reset) (fun k => k.rd Kv.ACQn_STAT.STATE 1 == 2 && (k.acqU 1).fireWait == none &&
       decide (k.rd Kv.ACQn_PTRIG.POST 1 ≤ k.rd Kv.ACQn_NPOST.NPOST 1))) = true := by decide

/-- A header of chip B that fires and arms, and a trailer of a cell that fires. -/
def rawBfire : Header := { rawHeader with origin := 1, barm := true, bfire := true }
theorem witness_fires :
    (rawBfire.seal 0 true).valid 0 = true ∧ rawBfire.isFold = false ∧ rawBfire.bfire = true ∧ rawBfire.barm = true ∧
    (({ cfire := true, fpos := 3, evtany := false, nlive := 1, tcrc := 0 } : Trailer).seal 0 7 true).valid 0 7 = true ∧
    okA (port0.wr Kv.ACQ_CTRL.XARM 1) (fun k => k.spLive 0 && k.fromOther rawBfire && k.on Kv.ACQ_CTRL.XARM &&
      k.acqMembers.all (fun q => k.rd Kv.ACQn_STAT.STATE q == 0)) = true :=
  ⟨Header.seal_valid _ (by decide) (by decide), by decide, by decide, by decide, Trailer.seal_valid _ 0 7, by decide⟩

/-- O54: addresses in DRAM and in the SRAMs; good and bad words; scrubbing; the engines owned, idle, running, done. -/
theorem witness_memory :
    (okA (kv [(Kv.MEM_SCRUB.PER, 0, 1)]) (fun k => decide (0x1000 < k.dramSize) && !decide (sysDmem 3 < k.dramSize) && inSram (sysDmem 3) &&
       !inRegs (sysDmem 3) && !k.bad 0x1000 && k.rd Kv.MEM_SCRUB.PER != 0 && !k.crcOwned 1 && k.rd Kv.CRCn_STAT.STATE 1 == 0 &&
       (k.crcControl 1 0xFFFFFFFF).rd Kv.CRCn_LEN.LEN 1 == 0 && k.sought 0x1000 (2 ^ 19) == 2 ^ 19 && symbols (k.sought 0x1000 3) == 2) &&
     okA ((kv []).setErrs 0x1000 3) (fun k => k.bad 0x1000) && okC (kc []) (fun x => x.runs && cellSram 0x100000) &&
     okA (kv [(Kv.CRCn_STAT.OWN, 1, 1)]) (fun k => k.crcOwned 1) &&
     okA (kv [(Kv.CRCn_LEN.LEN, 1, 4)]) (fun k => !k.crcOwned 1 && (k.crcControl 1 0xFFFFFFFF).on Kv.CRCn_CTRL.EN 1 &&
       (k.crcControl 1 0xFFFFFFFF).rd Kv.CRCn_LEN.LEN 1 == 4) &&
     okA (kv [(Kv.CRCn_CTRL.EN, 1, 1), (Kv.CRCn_STAT.STATE, 1, 1), (Kv.CRCn_LEN.LEN, 1, 1), (Kv.CRCn_STAT.STATE, 0, 1), (Kv.CRCn_LEN.LEN, 0, 1)])
       (fun k => !k.crcOwned 1 && k.on Kv.CRCn_CTRL.EN 1 && k.rd Kv.CRCn_STAT.STATE 1 == 1 && k.rd Kv.CRCn_LEN.LEN 1 == 1 &&
         k.crcWordOk 1 (k.rd Kv.CRCn_START.START 1) && k.rd Kv.CRCn_STAT.STATE 0 == 1 && k.rd Kv.CRCn_LEN.LEN 0 != 0) &&
     okA (kv [(Kv.CRCn_CTRL.EN, 1, 1), (Kv.CRCn_CTRL.REP, 1, 1), (Kv.CRCn_STAT.STATE, 1, 3)]) (fun k => !k.crcOwned 1 && k.rd Kv.CRCn_STAT.STATE 1 == 3 &&
       k.on Kv.CRCn_CTRL.REP 1 && k.on Kv.CRCn_CTRL.EN 1)) = true := by decide

/-- R469: a partial store of two bytes leaves the others. -/
theorem test_partial_store :
    (match exec (.partialStoreMerge (.chip .a) 0x1002 0xABCD 2) (atA ((kv []).wrLe 0x1000 0x11223344 4)) with
     | .next t => (t.chip .a).rdLe 0x1000 4 | _ => 0) = 0xABCD3344 := by decide

/-- O55: a module that does not run; offsets of registers and of none; the Probe's path; windows; links; mail; tallies. -/
theorem witness_host :
    ((State.reset.kcAt 5).runs == false && Kv.isReg 0x3FFFFC == false && Kv.IMG_MBHk.D.addr 3 0 % 4 == 0 && ([1, 2, 3, 4] : List Byte).length == 4 &&
     okA (kv []) (fun k => k.rd Kv.SYS_PWR.STATE != 2 && k.rd Kv.DBG_STAT.PATH != 2 && (List.range 16).all (fun i => !(k.core i).stepOk) &&
       decide (Kv.TIM_NS.NS.base / 0x1000 ≠ 3 ∧ Kv.TIM_NS.NS.base / 0x1000 ≠ 4) && !k.bad (k.bar2Addr 16) &&
       (List.range 4).all (fun i => k.rd Kv.PCI_PBAm.PEND i == 0) && decide (k.xaddr < k.dramSize) && !k.bad k.xaddr &&
       decide (2 ≤ (5 + 65536 - k.tick % 65536) % 65536) && decide (k.hst.mail.length < 8) && decide (k.lead + 1 ≤ (4 + 65536 - k.tick % 65536) % 65536) &&
       k.rd Kv.IMG_TSTAT.STATE == 0) &&
     okA (kv [(Kv.PCI_STAT.DLUP, 0, 1), (Kv.PCI_PBAm.PEND, 0, 8)]) (fun k => k.on Kv.PCI_STAT.DLUP && bit (k.rd Kv.PCI_PBAm.PEND 0) 3) &&
     okA { kv [] with hst := { (kv []).hst with mail := [{ mt := 0, words := [], een := false, etask := 0 }] } } (fun k =>
       k.hst.mail == [{ mt := 0, words := [], een := false, etask := 0 }] && !tickAhead k.tick 0 && k.hst.lastMail == none) &&
     okA { kv [(Kv.IMG_TSTAT.STATE, 0, 2)] with col := { closed := 40, tallyOf := some (5, 4) } } (fun k => k.col.tallyOf == some (5, 4) &&
       k.rd Kv.IMG_TSTAT.STATE == 2 && k.closedFor (4 + 32)) &&
     okA (onDsp (kv []) (fun d => { d with forces := [(0, some ⟨7, 0, 4, 9, sysRegs + Kv.IMG_MBHk.D.addr 3 0, true, false⟩)] })) (fun k =>
       k.forced (sysRegs + Kv.IMG_MBHk.D.addr 3 0) 4 && !k.forced (sysRegs + Kv.EVT_PENDm.PEND.addr 1 0) 4 && Kv.isReg (Kv.IMG_MBHk.D.addr 3 0))) = true := by decide +kernel

/-- R8: a W1C register keeps what the written word leaves. -/
theorem test_w1c :
    (match exec (.registerWrite (.chip .a false) (BitVec.ofNat 32 (Kv.EVT_PENDm.PEND.addr 1 0)) 0x0F)
        (atA (kv [(Kv.EVT_PENDm.PEND, 1, 0x3C)])) with
     | .next t => (t.chip .a).rd Kv.EVT_PENDm.PEND 1 | _ => 0) = 0x30 := by decide +kernel

/-- The place of SP7_PWR in the spec's example: 0x0001_070C (R614). -/
theorem test_register_address : Kv.SPn_PWR.EN.addr 7 0 = 0x1070C := by decide

/-- A frame of `n` bytes to every station, of another type than PTP. -/
def broadcast (n : Nat) : List Byte := List.replicate 6 0xFF ++ List.replicate (n - 6) 0

/-- Port 0 enabled and linked, its descriptor words at 0x1000 (transmit) and 0x2000 (receive) handed over, the former timed where asked. -/
def eth0 (timed : Nat) (lt : Nat) : Kv :=
  let k := kv [(Kv.ETHn_CFG.EN, 0, 1), (Kv.ETHn_CFG.LINK, 0, 1), (Kv.ETHn_TXB.BASE, 0, 0x100), (Kv.ETHn_RXB.BASE, 0, 0x200), (Kv.ETH_PTP.EN, 0, 1)]
  ((k.wrLe 0x1004 (2 ^ 31 + timed * 2 ^ 30) 4).wrLe 0x1008 lt 4).wrLe 0x2004 (2 ^ 31) 4

/-- O56: frames for and not for the ring; descriptors at once, ahead and passed; the PTP port in its states. -/
theorem witness_network :
    (okA (eth0 0 0) (fun k => k.on Kv.ETHn_CFG.EN 0 && k.on Kv.ETHn_CFG.LINK 0 && k.ethTxd 0 == 0x1000 && k.ethRxd 0 == 0x2000 &&
       bit (k.rdLe (k.ethTxd 0 + 4) 4) 31 && decide (k.ethTxd 0 + 15 < k.dramSize) && (k.badWords 0x1000 16).isEmpty && (k.badWords 0x2000 16).isEmpty &&
       !bit (k.rdLe (k.ethTxd 0 + 4) 4) 30 && bit (k.rdLe (k.ethRxd 0 + 4) 4) 31 && decide (k.ethRxd 0 + 15 < k.dramSize) &&
       decide (8 * k.rdLe (k.ethRxd 0) 4 + 1522 < k.dramSize) && decide ((broadcast 64).length = 64 ∧ (broadcast 60).length < 64)) &&
     okA (eth0 1 5000) (fun k => bit (k.rdLe (k.ethTxd 0 + 4) 4) 31 && bit (k.rdLe (k.ethTxd 0 + 4) 4) 30 && decide (0 < k.ethAhead 0)) &&
     okA (eth0 1 0) (fun k => bit (k.rdLe (k.ethTxd 0 + 4) 4) 31 && bit (k.rdLe (k.ethTxd 0 + 4) 4) 30 && decide (k.ethAhead 0 ≤ 0)) &&
     okA (kv [(Kv.ETHn_CFG.EN, 0, 1)]) (fun k => !k.on Kv.ETHn_CFG.LINK 0 && decide (k.ethTxd 0 + 15 < k.dramSize) && (k.badWords (k.ethTxd 0) 16).isEmpty &&
       !bit (k.rdLe (k.ethTxd 0 + 4) 4) 31 && !bit (k.rdLe (k.ethRxd 0 + 4) 4) 31) &&
     okA (kv [(Kv.ETHn_CFG.EN, 0, 1), (Kv.ETHn_RXB.BASE, 0, 2 ^ 29)]) (fun k => decide (k.dramSize ≤ k.ethRxd 0 + 15)) &&
     okA (kv [(Kv.ETH_PTP.EN, 0, 1), (Kv.ETH_PTP.MCAP, 0, 1), (Kv.ETH_PTPST.PSTATE, 0, 3)]) (fun k => k.on Kv.ETH_PTP.EN && k.on Kv.ETH_PTP.MCAP &&
       k.rd Kv.ETH_PTPST.PSTATE == 3 && !(k.wr Kv.ETH_PTPST.STALE 0).on Kv.ETH_PTPST.STALE) &&
     okA (kv [(Kv.ETH_PTP.EN, 0, 1), (Kv.ETH_PTPST.PSTATE, 0, 2), (Kv.ETH_PTPST.FREE, 0, 0)]) (fun k => k.on Kv.ETH_PTP.EN &&
       k.rd Kv.ETH_PTP.PORT == 0 && k.rd Kv.ETH_PTPST.PSTATE == 2 && !k.on Kv.ETH_PTPST.FREE)) = true := by decide

/-! ### KF-120, security, start-up -/

/-- O57: inputs; the station input; outputs; holder, SAFE and LIVE; registers; the silence timer; supply and heat; reset. -/
theorem witness_companion :
    (okKf (kf [(Kf.TRP_CFG.STLIM, 2), (Kf.TRP_STAT.STIN, 1)]) (fun f => !f.inReset && !bit (f.rd Kf.FIN_WBEN.WBEN) 3 && !bit (f.rd Kf.FIN_WBA.WBA) 3 &&
       f.rd Kf.TRP_CFG.STLIM != 0 && decide (f.stCnt ≤ 1) && f.on Kf.TRP_STAT.STIN && !f.on Kf.FOUT_STAT.FAULT && !f.isHolder false && !f.live &&
       f.rd Kf.SVL_ERR.EA + 1 < Kf.SVL_ERR.EA.max && !f.supply && !f.temp) &&
     okKf (kf [(Kf.TOK_STAT.HELD, 1), (Kf.FOUT_STAT.LIVE, 1)]) (fun f => f.isHolder false && f.live &&
       (Kf.fieldsAt Kf.TRP_CFG.POL.base).any (fun p => p.1.acc == .rwl && f.rd p.1 p.2 != bits 0xFFFFFFFF p.1.lo p.1.w) &&
       (Kf.fieldsAt Kf.TRP_CFG.POL.base).all (fun p => f.rd p.1 p.2 == bits (f.readReg Kf.TRP_CFG.POL.base) p.1.lo p.1.w)) &&
     okKf { kf [(Kf.TOK_STAT.HELD, 1)] with timer := true } (fun f => f.isHolder false && !f.live && f.timer) &&
     okKf (kf [(Kf.FOUT_LVL.LVL, 1), (Kf.TRP_STAT.LVL, 1)]) (fun f => !f.inReset && !bit f.off 0 && !bit f.off 16 &&
       bit (f.rd Kf.FOUT_LVL.LVL) 0 && bit (f.rd Kf.TRP_STAT.LVL) 0 && !f.on Kf.FOUT_STAT.FAULT) &&
     okKf { inReset := true } (fun f => f.inReset && !f.supply) &&
     (Kf.fieldsAt 0xFF).isEmpty && (Kf.fieldsAt Kf.TRP_CFG.POL.base).any (fun p => p.1.acc == .rwl) && !(Kf.fieldsAt Kf.SVL_SUP.VSUP.base).isEmpty) =
    true := by decide
theorem witness_supervisor_link :
    (okA (kv []) (fun k => !k.on Kv.SVL_REQ.BUSY && !k.on Kv.SYS_STAT.HELD) && okA (kv [(Kv.SVL_REQ.BUSY, 0, 1)]) (fun k => k.on Kv.SVL_REQ.BUSY) &&
     okA (kv [(Kv.SYS_STAT.HELD, 0, 1)]) (fun k => k.on Kv.SYS_STAT.HELD) &&
     okA { kv [(Kv.SVL_STAT.UP, 0, 1)] with tim := { (kv []).tim with tick := 5 } } (fun k => k.on Kv.SVL_STAT.UP && !tickIs k.svlLast k.tick &&
       !tickIs k.svlLast (tickPrev k.tick))) =
    true := by decide

/-- O58: a KF-120 in service whose trips are judged. -/
theorem witness_trips : (atKf ((kf []).settle)).kf.inReset = false ∧ (atKf ((kf []).settle)).kf.tripsHeld := by
  refine ⟨by decide, fun _ i hi => ?_⟩
  match i, hi with
  | 0, _ => exact ⟨by decide +kernel, by decide +kernel⟩
  | 1, _ => exact ⟨by decide +kernel, by decide +kernel⟩
  | 2, _ => exact ⟨by decide +kernel, by decide +kernel⟩
  | 3, _ => exact ⟨by decide +kernel, by decide +kernel⟩

/-- R518: an input above its threshold counts up, and its value follows at the limit. -/
theorem test_input :
    (match exec (.fieldInputSample (List.replicate 32 200) (List.replicate 32 0)) (atKf (kf [(Kf.FIN_FLTm.LIM, 0x01010101)])) with
     | .next t => (bit (t.kf.rd Kf.FIN_RAW.RAW) 0, bit (t.kf.rd Kf.FIN_VAL.VAL) 0) | _ => (false, false)) = (true, true) := by decide +kernel

/-- O59: the key store in OPEN, empty, with one and with two image keys, SEALED; running images; sessions at every level. -/
theorem witness_key_store :
    (okA (kv []) (fun k => k.secState == 0 && !k.sec.prog.testBit 2 && !k.sec.fault && (k.sec.revoke k.secState [0, 1, 2, 3] 2) == none &&
       k.parked && decide (k.sec.svn ≤ k.sec.imgSvn) && k.mode == 0 && !k.duty && k.sec.holder == 0 && k.sec.verify == none && !k.sec.lockout &&
       k.rd Kv.DBG_STAT.LEVEL == 0) &&
     okA { kv [] with sec := { prog := 3 } } (fun k => (k.sec.progKey k.secState 0 5) == none && (k.sec.revoke k.secState [0, 1, 2, 3] 1).isSome &&
       k.sec.anyImage [0, 1, 2, 3]) &&
     okA (kv [(Kv.SEC_STAT.STATE, 0, 1)]) (fun k => k.secState != 0) && okA (kv [(Kv.SYS_PWR.STATE, 0, 0)]) (fun k => !k.parked) &&
     okC { kc [] with sec := { prog := 3 } } (fun x => x.runs && x.secState == 0 && !x.sec.fault && (x.sec.progKey 0 4 5).isSome &&
       (x.sec.revoke 0 [0, 1] 1).isSome && x.sec.anyImage [0, 1] && x.hmode == 0 && decide (x.sec.svn ≤ x.sec.imgSvn))) = true := by decide

theorem witness_sessions :
    (okA { kv [] with sec := { holder := 2 } } (fun k => k.sec.holder != 0 && k.sec.holder != 1) &&
     okA { kv [] with sec := { lockout := true } } (fun k => k.sec.holder == 0 && k.sec.verify == none && k.sec.lockout) &&
     okA { kv [] with sec := { verify := some (2, false, 0) } } (fun k => k.sec.verify == some (2, false, 0) && k.sec.judge k.secState 4 0 true == 0 &&
       k.dbgPermits (judgedState k.secState false) 2) &&
     okA { kv [(Kv.SYS_PWR.STATE, 0, 2)] with sec := { verify := some (2, false, 0) } } (fun k => k.sec.judge k.secState 4 0 true == 0 &&
       !k.dbgPermits (judgedState k.secState false) 2) &&
     okA { kv [(Kv.SEC_STAT.STATE, 0, 1)] with sec := { verify := some (2, true, 0) } } (fun k => k.sec.judge k.secState 4 0 true != 0) &&
     okA { kv [(Kv.DBG_STAT.LEVEL, 0, 2), (Kv.DBG_STAT.PATH, 0, 2)] with sec := { holder := 2 } } (fun k => k.sec.holder == 2 && k.rd Kv.DBG_STAT.LEVEL == 2 &&
       decide (k.secState ≤ 3) && !k.dsp.killWait && k.rd Kv.DBG_STAT.PATH == 2) &&
     okC (kc [(Kc.CC_DSTAT.LEVEL, 0, 2), (Kc.CC_SEC.STATE, 0, 2)]) (fun x => x.runs && x.sec.holder == 0 && x.rd Kc.CC_DSTAT.LEVEL == 2 && x.secState == 2) &&
     okC { kc [] with sec := { holder := 2 } } (fun x => x.runs && x.sec.holder != 0 && x.sec.holder != 1) &&
     okC (kc []) (fun x => x.runs && x.rd Kc.CC_DSTAT.LEVEL != 2 && !x.stepOk && x.secState != 3)) = true := by decide

theorem witness_boot_bank :
    (okC (kc [(Kc.CC_BOOT.CRES, 0, 2)]) (fun x => x.runs && x.rd Kc.CC_BOOT.CRES == 2 && 1 != x.rd Kc.CC_BOOT.SEL) &&
     okC (kc []) (fun x => x.runs && 1 != x.rd Kc.CC_BOOT.RUN && x.rd Kc.CC_BOOT.CRES != 2)) = true := by decide

/-- A chip in phase `n` of its start-up, with string 0 of one module in the map. -/
def phase (n : Nat) (l : List (Fld × Nat × Nat)) : Kv := kv ([(Kv.SYS_STAT.PHASE, 0, n), (Kv.SPn_GEOM.NMOD, 0, 1)] ++ l)

/-- O60: every phase with its check passing; HELD; resets in and out of PARKED; probing of either role. -/
theorem witness_start_up :
    (okA (phase 1 [(Kv.MEM_STAT.READY, 0, 1)]) (fun k => k.boot.run && k.rd Kv.SYS_PWR.STATE == 1 && k.rd Kv.SYS_STAT.PHASE == 1 && k.on Kv.MEM_STAT.READY) &&
     okA (phase 2 [(Kv.SYS_STAT.BOOTSRC, 0, 2)]) (fun k => k.rd Kv.SYS_STAT.PHASE == 2 && k.rd Kv.SYS_STAT.BOOTSRC == 2) &&
     okA (phase 2 [(Kv.SYS_STAT.BOOTSRC, 0, 0)]) (fun k => k.rd Kv.SYS_STAT.BOOTSRC != 2) &&
     okA (phase 3 [(Kv.SPn_STAT.LSTATE, 0, 4)]) (fun k => k.rd Kv.SYS_STAT.PHASE == 3 && k.strings == [0] && k.rd Kv.SPn_STAT.LSTATE 0 == 4 &&
       !k.on Kv.SPn_CTRL.NRZ 0 && k.mapped 0 && !k.roleB) &&
     okA { (phase 4 []).onSp 0 (fun p => { p with found := 2, foundRun := 64 }) with boot := { (phase 4 []).boot with disc := true } } (fun k =>
       k.boot.run && k.rd Kv.SYS_STAT.PHASE == 4 && k.strings == [0] && k.mapPasses 0 && k.boot.disc && (k.spP 0).found != 0 && decide (64 ≤ (k.spP 0).foundRun)) &&
     okA (onDsp (phase 6 []) (fun d => { d with img := some { image with cellProgs := [{ bank with ident := 7 }] } })) (fun k => k.boot.run &&
       k.rd Kv.SYS_STAT.PHASE == 6 && (k.dsp.img.bind (·.cellId (ctlClass (k.ctl0 0)))) == some 7) &&
     okA ((phase 3 [(Kv.SYS_STAT.ROLEB, 0, 1)]).onSp 0 (fun p => { p with farSeen := true })) (fun k => k.mapped 0 && k.roleB && (k.spP 0).farSeen)) = true := by
  decide

theorem witness_boot_and_power :
    (okA (kv [(Kv.SYS_STAT.HELD, 0, 1)]) (fun k => k.on Kv.SYS_STAT.HELD) &&
     okA { kv [] with boot := { (kv []).boot with run := false, fail := 3 } } (fun k => k.parked && k.mode == 0 && !k.duty && !k.boot.run && k.boot.fail == 3) &&
     okA (kv [(Kv.CL_CASST.TOKEN, 0, 1)]) (fun k => !k.on Kv.SYS_STAT.HELD && k.duty) &&
     okA (kv [(Kv.SYS_PWR.STATE, 0, 0)]) (fun k => k.rd Kv.SYS_PWR.STATE == 0 && !k.parked) &&
     okA (kv [(Kv.SYS_PWR.STATE, 0, 2)]) (fun k => k.rd Kv.SYS_PWR.STATE == 2) &&
     ((atA { kv [] with boot := { inReset := true } }).kvAt .a).boot.inReset &&
     okA (kv []) (fun k => k.parked && !k.on Kv.CL_STAT.UP && k.boot.run && k.mode == 0 && k.rd Kv.DBG_STAT.LEVEL == 0)) = true := by decide

theorem witness_run :
    okA { kv [(Kv.SPn_GEOM.NMOD, 0, 0)] with boot := { (kv []).boot with run := false } } (fun k => k.parked && !k.on Kv.SYS_STAT.HELD &&
      !k.boot.run && k.secState != 3 && k.secState != 2 && (List.range 32).all (fun q => !k.on Kv.SPn_CTRL.TEST q && !k.on Kv.SPn_CTRL.NRZ q) &&
      k.strings.all (fun q => !k.portFails q) && k.timingSet && k.timingMeasured (fun q => k.rd Kv.SPn_PDLY.P q)) = true := by decide +kernel

end Sys2Proof.Tests
end

section
/-! What a command does to the chip set, said once for every command: the parts that it may change, and from what. -/

namespace Sys2Proof.Machine

/-- What a command may do to the chip set: replace a chip, also by what stands at the other one; replace one module, or the KF-120, by
what it alone determines; or replace both chips. -/
inductive Effect : List Site → (State → State) → Prop
  | chip {c : Chip} {F : State → State} (h : ∀ s, ∃ k, F s = s.setChip c k) : Effect [.chip c] F
  | cell (a : BitVec 13) (g : Cell → Cell) : Effect [.cell a] (fun s => s.setCell a (g (s.kcAt a)))
  | companion (g : Kf → Kf) : Effect [.companion] (fun s => s.setKf (g s.kfAt))
  | chips {c : Chip} {F : State → State} (h : ∀ s, ∃ k l, F s = (s.setChip c k).setChip c.other l) : Effect [.chip c, .chip c.other] F

/-! ### Each way in which a command reaches its part has such an effect -/

theorem setChip_self (s : State) (c : Chip) : s.setChip c (s.chip c) = s := by cases c <;> rfl

theorem onKv_eq_setChip (s : State) (c : Chip) (f : Kv → Kv) : ∃ k, s.onKv c f = s.setChip c k := ⟨_, rfl⟩

theorem Effect.onKvAlways (c : Chip) (f : State → Kv → Kv) : Effect [.chip c] (fun s => s.onKvAlways c (f s)) :=
  .chip fun _ => ⟨_, rfl⟩

theorem Effect.onKv (c : Chip) (f : State → Kv → Kv) : Effect [.chip c] (fun s => s.onKv c (f s)) :=
  .chip fun s => onKv_eq_setChip s c (f s)

theorem Effect.onCell (a : BitVec 13) (g : Cell → Cell) : Effect [.cell a] (fun s => s.onCell a g) := .cell a g

theorem Effect.onKf (g : Kf → Kf) : Effect [.companion] (fun s => s.onKf g) := .companion g

theorem Effect.onCoreBy (r : CoreRef) (f : Nat → Kv → Kv) (g : Cell → Cell) : Effect r.sites (fun s => s.onCoreBy r f g) := by
  cases r with
  | kv c n => exact .onKv c (fun _ => f n.toNat)
  | cell a => exact .cell a g

theorem Effect.onPart (p : Part) (f : Kv → Kv) (g : Cell → Cell) : Effect p.sites (fun s => s.onPart p f g) := by
  cases p with
  | chip c => exact .onKv c (fun _ => f)
  | cell a => exact .cell a g

theorem Effect.onMem (w : MemOf) (f : Kv → Kv) (g : Cell → Cell) : Effect w.sites (fun s => s.onMem w f g) := by
  cases w with
  | chip c => exact .onKv c (fun _ => f)
  | cell a => exact .cell a g

theorem Effect.onHop (h : HopEnd) (f : HopStep) : Effect h.sites (fun s => s.onHop h f) := by
  cases h with
  | sp c n => exact .onKv c (fun _ k => k.spStep n.toNat f)
  | cl c n => exact .onKv c (fun _ k => k.clStep n.toNat f)
  | opt a p => exact .cell a (fun x => x.optStep p f)

theorem Effect.onInject (h : HopEnd) : Effect h.sites (fun s => s.onInject h) := by
  cases h with
  | sp c n => exact .onKv c (fun _ => errorInjectSp n.toNat)
  | cl c n => exact .onKv c (fun _ => errorInjectCl n.toNat)
  | opt a p => exact .cell a (fun x => x.optStep p injectStep)

theorem Effect.onMidFrame (h : HopEnd) (blk : Nat) (part : Option Header) : Effect h.sites (fun s => s.onMidFrame h blk part) := by
  cases h with
  | sp c n => exact .onKv c (fun _ => midFrameLockLossSp n.toNat)
  | cl c n => exact .chip fun s => ⟨s.chip c, (setChip_self s c).symm⟩
  | opt a p => exact .cell a (midFrameLockLossCell p blk part)

theorem Effect.onReadBy (r : ReadBy) : Effect r.sites (fun s => s.onReadBy r) := by
  cases r with
  | chip c m a e => exact .onKv c (fun _ => memoryReadUncorrectableKv m e.toNat a.toNat)
  | cell p a e => exact .cell p (memoryReadUncorrectableCell e.toNat a.toNat)

theorem Effect.onRegister (r : RegBy) (off v : Word) : Effect r.sites (fun s => s.onRegister r off v) := by
  cases r with
  | chip c probe => exact .onKv c (fun _ k => (registerWriteKv probe off.toNat v k).runSteps)
  | cell a => exact .cell a (fun x => x.probeWrite off.toNat v.toNat)

theorem Effect.onSvlDiscard (e : SvlEnd) : Effect e.sites (fun s => s.onSvlDiscard e) := by
  cases e with
  | chip c => exact .onKv c (fun _ => svlMessageDiscardKv)
  | companion c => exact .companion (fun k => k.discard c.isB)

/-- A FORCE message changes the chip that takes it and, where it is taken in time, the one that sent it (R356). -/
theorem Effect.forceMessage (c : Chip) (e : Envelope) (x : FrcChange) :
    Effect [.chip c, .chip c.other] (fun s => s.forceMessage c e x) := by
  refine .chips fun s => ?_
  obtain ⟨k, hk⟩ := onKv_eq_setChip s c (forceMessageKv e x)
  simp only [State.forceMessage, hk]
  split
  · exact ⟨k, _, rfl⟩
  · exact ⟨k, (s.setChip c k).chip c.other, (setChip_self _ _).symm⟩

/-- Every command answers a next state, and has an effect on the parts that it reaches, and on those alone. -/
theorem exec_effect (i : Instr) : ∃ F, (∀ s, exec i s = .next (F s)) ∧ Effect i.sites F := by
  cases i with
  | add | sub | adds | subs | and | or | xor | andn | sll | srl | sra | ror | mul | mulh | mulhu | min | max | minu | maxu
  | abs | neg | clz | div | divu | rem | remu | cmp | slt | sltu | addi | andi | ori | xori | lui | cmpi | slli | srli | srai
  | rori | ldw | ldh | ldhu | ldb | ldbu | stw | sth | stb | ldd | std | swap | adda | anda | ora | cas | cfx | clw | csw | bcc
  | jump | call | jr | callr | cbeq | cbne | cblt | cbltu | mac | msu | mula | macu | macs | extr | extrt | mova | mvlo | mvmi
  | mvhi | awlo | awmi | awhi | aclr | aadd | extrr | dot4 | dot4c | tickwait | post | takeItem | yieldItem | flowend | pub
  | ledg | mfc | mtc | rtt | trap | brk | clrq | fence | li | addl | andl | orl | xorl | cmpl | jl | calll | tickwaitComplete
  | illegalInstruction =>
    exact ⟨_, fun _ => rfl, Effect.onCoreBy ..⟩
  | headerReceived | cellTickBoundary | commandSlotReceived | reportSlotWrite | trailerForward | cellCommandDeadline
  | holdLimit | modePark | modeActive | modeHoldlast | modeBypassFire | modeDischarge | modeSensor | bcmdTallyLatch
  | bcmdCaptureArm | bcmdTripClear | bcmdClearShdw | bcmdAcknowledge | sideRd | sideWa | sideWd | positionDrop | foldOnset
  | foldEnd | foldFrameLaunch | passThroughClose | passThroughOpen | passThroughOpenFail | passThroughRetry | powerStateFall
  | powerStateRise | guardPowerOn | guardSample | guardBypFire | guardClear | guardMainRetry | watchdogExpiry | cellCoreReset
  | mainDomainReset | mainDomainStart | cellCoreException | cellEventRaise | ccEvpWrite | cellTempReset | genEdge | gateTurnOn
  | stretchEnd | tripInputActive | bypassArmedFire | genMinpDtWrite | genSrcSet | genLpaWrite | genLpbWrite | localPairTorn
  | genFreeze | genFreezeRelease | parkHaltTakesEffect | cellSample | reportFreeze | adcInjGo | injectedConversionDone
  | adcCalGo | calibrationRunStart | calibrationRunEnd | capArm | capAbort | capTrig | capTrigger | capPostComplete | cellHalt
  | cellResume | cellStep | ccBootChk | ccBootSelWrite =>
    exact ⟨_, fun _ => rfl, Effect.onCell ..⟩
  | kfHeartbeatReceived | heartbeatTimeout | kfRestartGrant | fieldInputSample | stinSample | tripSourceActive | outputSelfOff
  | outputRestart | kfCmdReceived | kfRegReceived | silenceTimerExpiry | kfSupplyReset | kfResetRelease | kfRefclkFail
  | kfSupplyWarning | kfDieOverTemperature =>
    exact ⟨_, fun _ => rfl, Effect.onKf ..⟩
  | signalDetect | signalLoss | trainingBlockReceived | trainReady | trainTimeout | shiftEnd | blockLock | blockLockLoss
  | huntPolarityInvert | hopUp | huntTimeout | blindStartFail | blindRetry | testPatternDeselect | adaptationFreeze
  | adaptationResume | adaptationStep =>
    exact ⟨_, fun _ => rfl, Effect.onHop ..⟩
  | keyProg | keyRevoke | sealPart | retire | svup | debugChal | debugVerify | debugVerifyDone | debugClose
  | sessionIdleTimeout | probeDisconnect | authLockoutEnd | debugNonceExpiry =>
    exact ⟨_, fun _ => rfl, Effect.onPart ..⟩
  | memoryReadCorrected | partialStoreMerge | patrolScrubRead =>
    exact ⟨_, fun _ => rfl, Effect.onMem ..⟩
  | midFrameLockLoss h => exact ⟨_, fun _ => rfl, Effect.onMidFrame h.hop h.blk h.part⟩
  | errorInjectGo h => exact ⟨_, fun _ => rfl, Effect.onInject h⟩
  | memoryReadUncorrectable r => exact ⟨_, fun _ => rfl, Effect.onReadBy r⟩
  | registerWrite r off v => exact ⟨_, fun _ => rfl, Effect.onRegister r off v⟩
  | svlMessageDiscard e => exact ⟨_, fun _ => rfl, Effect.onSvlDiscard e⟩
  | forceMessage c e x => exact ⟨_, fun _ => rfl, Effect.forceMessage c e x⟩
  | tickBoundary c meas => exact ⟨_, fun _ => rfl, Effect.onKvAlways c (fun s => tickBoundaryKv (s.chip c.other) meas)⟩
  | epochendMessage c e n count bytes crc =>
    exact ⟨_, fun _ => rfl, Effect.onKv c (fun s k =>
      (epochendMessageKv e n.toNat count.toNat bytes.toNat crc.toNat k).mirrorLedger (s.chip c.other))⟩
  | refclkLoss | regionDifference | powerOnReset | resetRelease => exact ⟨_, fun _ => rfl, Effect.onKvAlways _ (fun _ => _)⟩
  | _ => exact ⟨_, fun _ => rfl, Effect.onKv _ (fun _ => _)⟩

end Sys2Proof.Machine
end

section
/-! The statements on the chip set as a whole (00_scope): each follows from the effect of a command. -/

namespace Sys2Proof.Machine

theorem Chip.eq_or_eq_other (c d : Chip) : d = c ∨ d = c.other := by cases c <;> cases d <;> simp [Chip.other]

/-! ### Replacing one part leaves every other as it was -/

theorem at_setChip_ne (s : State) {c : Chip} (k : Kv) {p : Site} (h : p ≠ .chip c) : (s.setChip c k).at p = s.at p := by
  cases p with
  | chip d =>
    obtain rfl | rfl := c.eq_or_eq_other d
    · exact absurd rfl h
    · simp [State.at]
  | companion => simp [State.at]
  | cell a => simp [State.at]

theorem at_setCell_ne (s : State) {a : BitVec 13} (x : Cell) {p : Site} (h : p ≠ .cell a) : (s.setCell a x).at p = s.at p := by
  cases p with
  | chip c => simp [State.at]
  | companion => rfl
  | cell b => simp only [State.at, State.setCell_cell_ne s a x (fun e : b = a => h (e ▸ rfl))]

theorem at_setKf_ne (s : State) (k : Kf) {p : Site} (h : p ≠ .companion) : (s.setKf k).at p = s.at p := by
  cases p with
  | chip c => simp [State.at]
  | companion => exact absurd rfl h
  | cell a => rfl

/-- An effect leaves every part that it does not name as it was. -/
theorem Effect.frame {l : List Site} {F : State → State} (e : Effect l F) (s : State) {p : Site} (h : p ∉ l) : (F s).at p = s.at p := by
  cases e with
  | chip hF =>
    obtain ⟨k, hk⟩ := hF s
    rw [hk, at_setChip_ne s k (by simpa using h)]
  | cell a g => exact at_setCell_ne s _ (by simpa using h)
  | companion g => exact at_setKf_ne s _ (by simpa using h)
  | chips hF =>
    obtain ⟨k, k', hk⟩ := hF s
    simp only [List.mem_cons, List.not_mem_nil, or_false, not_or] at h
    rw [hk, at_setChip_ne _ k' h.2, at_setChip_ne s k h.1]

/-- What an effect on one module, or on the KF-120, leaves there comes from what stood there alone. -/
theorem Effect.congr {p : Site} {F : State → State} (e : Effect [p] F) (hp : ∀ c, p ≠ .chip c) {s s' : State} (h : s.at p = s'.at p) :
    (F s).at p = (F s').at p := by
  cases e with
  | @chip c => exact absurd rfl (hp c)
  | cell a g =>
    have hc : s.cell a = s'.cell a := by simpa [State.at] using h
    simp [State.at, State.kcAt, hc]
  | companion g =>
    have hk : s.kf = s'.kf := by simpa [State.at] using h
    simp [State.at, State.setKf, State.kfAt, hk]

/-! ### The canonical form of the modules -/

theorem cellsWf_iff (s : State) : s.cellsWf = true ↔ Tab.wf {} s.cells = true ∧ ∀ e ∈ s.cells, e.1 < 8192 := by
  simp [State.cellsWf]

theorem cellsWf_congr {s t : State} (h : t.cells = s.cells) : t.cellsWf = s.cellsWf := by simp only [State.cellsWf, h]

theorem refclk_cells (s : State) : s.refclk.cells = s.cells := rfl

/-- A module is written at its own address, which lies below 8,192. -/
theorem cellsWf_setCell (s : State) (a : BitVec 13) (x : Cell) (w : s.cellsWf = true) : (s.setCell a x).cellsWf = true := by
  rw [cellsWf_iff] at w ⊢
  obtain ⟨hwf, hlt⟩ := w
  refine ⟨Tab.wf_set _ _ x _ hwf, fun e he => ?_⟩
  rcases Tab.mem_set _ _ x _ e he with he | he
  · exact hlt e he
  · exact he ▸ a.isLt

/-- Whatever parts an effect is on, the modules keep their form. -/
theorem Effect.cellsWf {l : List Site} {F : State → State} (e : Effect l F) (s : State) (w : s.cellsWf = true) :
    (F s).cellsWf = true := by
  cases e with
  | @chip c _ hF =>
    obtain ⟨k, hk⟩ := hF s
    rw [hk, cellsWf_congr (s.setChip_cells c k), w]
  | cell a g => exact cellsWf_setCell s a _ w
  | companion g => exact w
  | @chips c _ hF =>
    obtain ⟨k, k', hk⟩ := hF s
    rw [hk, cellsWf_congr (State.setChip_cells _ _ k'), cellsWf_congr (s.setChip_cells c k), w]

/-- Settles O3: the effect of a command names the parts that it reaches. -/
theorem aCommandChangesOnlyThePartsItReaches : Obligations.A_command_changes_only_the_parts_it_reaches := by
  intro i s t p ht hp
  obtain ⟨F, hF, e⟩ := exec_effect i
  obtain rfl : F s = t := by simpa [hF] using ht
  exact e.frame s hp

/-- Settles O5: whichever part the command in front reaches, and with none waiting, the modules keep their form. -/
theorem modulesStayInCanonicalForm : Obligations.Modules_stay_in_canonical_form := by
  intro s t w ht
  unfold step at ht
  split at ht
  · obtain rfl : s.refclk = t := by simpa using ht
    rw [cellsWf_congr (refclk_cells s), w]
  · next i rest _ =>
    obtain ⟨F, hF, e⟩ := exec_effect i
    obtain rfl : F { s with pending := rest } = t := by simpa [hF] using ht
    exact e.cellsWf { s with pending := rest } w

/-- Settles O4: an effect on one module, or on the KF-120, is a function of that part. -/
theorem whatACommandDoesDependsOnlyOnItsParts : Obligations.What_a_command_does_depends_only_on_its_parts := by
  intro i s s' t t' p hp hc h ht ht'
  obtain ⟨F, hF, e⟩ := exec_effect i
  obtain rfl : F s = t := by simpa [hF] using ht
  obtain rfl : F s' = t' := by simpa [hF] using ht'
  rw [hp] at e
  exact e.congr hc h

theorem step_cons (s : State) (i : Instr) (rest : List Instr) :
    step { s with pending := i :: rest } = exec i { s with pending := rest } := rfl

theorem step_nil (s : State) : step { s with pending := [] } = .next { s with pending := [] }.refclk := rfl

theorem refclk_eq (s : State) : s.refclk = { s with a := refclkEdgeKv (s.kvAt .a), b := refclkEdgeKv (s.kvAt .b) } := rfl

/-- Settles O1, by the two cases of `step`: a queue with a front, and an empty one. -/
theorem stepTakesTheFrontCommand : Obligations.Step_takes_the_front_command := by
  intro s i rest
  refine ⟨step_cons s i rest, ?_⟩
  rw [step_nil, refclk_eq]
  rfl

/-- A module that is not listed has its four gates off. -/
theorem gates_off_at_reset (a : BitVec 13) : (State.reset.cell a).rd Kc.GEN_OUT.G = 0 := by
  change ({} : Cell).rd Kc.GEN_OUT.G = 0
  decide

/-- Settles O6: at reset no module is listed, the KF-120 is held in reset, and the gates are off. -/
theorem resetHasTheCanonicalForm : Obligations.Reset_has_the_canonical_form := by
  refine ⟨rfl, fun released => ?_, fun a => ?_, rfl⟩
  · cases released
  · simp [Cell.noShootThrough, gates_off_at_reset, bit]

end Sys2Proof.Machine
end

section
/-! Writes of registers of a chip that hold one field and whose write has no effect of its own. -/

namespace Sys2Proof.Machine

/-! ### A register with one field, whose write has no effect of its own (R8 to R10) -/

/-- At offset `off` stands field `F` with indices `i`, `j`, alone in its register, and a write there only writes it. -/
structure Kv.PlainField (off : Nat) (F : Fld) (i j : Nat) : Prop where
  listed : F ∈ Kv.flds
  place : F.at? off = some (i, j)
  alone : Kv.flds.countP (fun f => (f.at? off).isSome) = 1
  noWriter : Kv.writers.all (fun w => (w.1.at? off).isNone) = true
  noGroup : Kv.ACQn_GDk.SEL.at? off = none ∧ Kv.ACQn_GXk.LSB.at? off = none
  noHole : Kv.holes.contains off = false
  noCrc : crcOf? off = none

namespace Kv.PlainField

variable {off : Nat} {F : Fld} {i j : Nat} (h : Kv.PlainField off F i j)
include h

theorem isReg : Kv.isReg off = true := by
  simp only [Kv.isReg, h.noHole, Bool.not_false, Bool.true_and, List.any_eq_true]
  exact ⟨F, h.listed, by rw [h.place]; rfl⟩

/-- Of all fields only `F` stands at the offset. -/
theorem filter_flds : Kv.flds.filter (fun f => (f.at? off).isSome) = [F] := by
  have hF : F ∈ Kv.flds.filter (fun f => (f.at? off).isSome) := List.mem_filter.mpr ⟨h.listed, by rw [h.place]; rfl⟩
  have h1 := h.alone
  rw [List.countP_eq_length_filter, List.length_eq_one_iff] at h1
  obtain ⟨G, hG⟩ := h1
  rw [hG, List.mem_singleton] at hF
  rw [hG, hF]

/-- So the fields of the register take a word as `F` does, where it does not refuse it. -/
theorem writeReg {s : Kv} {v : Nat} (hr : s.refuses F i j (bits v F.lo F.w) = 0) :
    s.writeReg off v = s.takes F i j (bits v F.lo F.w) := by
  have only : ∀ g : Kv × Bool × Bool → Fld → Kv × Bool × Bool, (∀ r f, f.at? off = none → g r f = r) →
      Kv.flds.foldl g (s, false, false) = g (s, false, false) F := by
    intro g hg
    have hif : (fun r f => if (f.at? off).isSome = true then g r f else r) = g := by
      funext r f
      split
      · rfl
      · rename_i hn
        exact (hg r f (by simpa using hn)).symm
    rw [← hif, ← List.foldl_filter, h.filter_flds]
    simp [h.place]
  have hb : s.writeBits off v = (s.takes F i j (bits v F.lo F.w), false, false) := by
    unfold Kv.writeBits
    rw [only _ (fun r f hf => by simp only [hf])]
    simp only [h.place, hr, if_true, Bool.false_or]
    rfl
  simp only [Kv.writeReg, hb]
  rfl

/-- A master's write of the register is that write, while its block is in service. -/
theorem regWrite {s : Kv} {path v : Nat} (hb : s.blockOff off = false) (hr : s.refuses F i j (bits v F.lo F.w) = 0) :
    s.regWrite path off v = s.takes F i j (bits v F.lo F.w) := by
  have hw : Kv.writers.findSome? (fun w => (w.1.at? off).map (fun p => w.2 path p.1 v)) = none := by
    rw [List.findSome?_eq_none_iff]
    intro w hw
    have := List.all_eq_true.mp h.noWriter w hw
    simpa using this
  simp only [Kv.regWrite, hb, Kv.crcBarred, h.noCrc, hw, h.noGroup, Bool.or_self, Bool.false_eq_true, if_false]
  exact h.writeReg hr

/-- Software's write of the register likewise, unless a force holds it. -/
theorem registerWriteKv {s : Kv} {v : Word} (hb : s.blockOff off = false) (hf : s.forced (sysRegs + off) 4 = false)
    (hr : s.refuses F i j (bits v.toNat F.lo F.w) = 0) : registerWriteKv false off v s = s.takes F i j (bits v.toNat F.lo F.w) := by
  simp only [Sys2Proof.Machine.registerWriteKv, Bool.false_and, Bool.false_eq_true, if_false, h.isReg, Bool.not_true, Kv.unlessForced, hf]
  exact h.regWrite hb hr

end Kv.PlainField

/-! ### The registers that the statement on host accesses names -/

theorem mbh_listed : Kv.IMG_MBHk.D ∈ Kv.flds :=
  List.mem_append_right _ (List.mem_of_getElem? (i := 16) rfl)

theorem evtPend_listed : Kv.EVT_PENDm.PEND ∈ Kv.flds := by
  unfold Kv.flds
  iterate 9 refine List.mem_append_left _ ?_
  exact List.mem_append_right _ (List.mem_of_getElem? (i := 5) rfl)

theorem timNs_listed : Kv.TIM_NS.NS ∈ Kv.flds := by
  unfold Kv.flds
  iterate 19 refine List.mem_append_left _ ?_
  exact List.mem_append_right _ (List.mem_of_getElem? (i := 0) rfl)

theorem mbh3_plain : Kv.PlainField (Kv.IMG_MBHk.D.addr 3 0) Kv.IMG_MBHk.D 3 0 where
  listed := mbh_listed
  place := by rfl
  alone := by decide +kernel
  noWriter := by decide +kernel
  noGroup := by decide
  noHole := by decide
  noCrc := by decide

theorem pend1_plain : Kv.PlainField (Kv.EVT_PENDm.PEND.addr 1 0) Kv.EVT_PENDm.PEND 1 0 where
  listed := evtPend_listed
  place := by rfl
  alone := by decide +kernel
  noWriter := by decide +kernel
  noGroup := by decide
  noHole := by decide
  noCrc := by decide

theorem ns_plain : Kv.PlainField Kv.TIM_NS.NS.base Kv.TIM_NS.NS 0 0 where
  listed := timNs_listed
  place := by rfl
  alone := by decide +kernel
  noWriter := by decide +kernel
  noGroup := by decide
  noHole := by decide
  noCrc := by decide

end Sys2Proof.Machine
end

section
/-! What the host reaches through BAR0, BAR2, SYS_XD and the link comes to (R464, R484, R485, R615). -/

namespace Sys2Proof.Machine

/-- A command on a live chip leaves there what its operation comes to. -/
theorem exec_live {s : State} {c : Chip} {i : Instr} {f : Kv → Kv} {y : Kv} (h : s.live c) (hi : exec i s = .next (s.onKv c f))
    (hf : f (s.kvAt c) = y) : exec i s = .next (s.setChip c y) := by rw [hi, onKv_live h, hf]

/-- No core waits to be stepped: nothing runs after a register access. -/
theorem runSteps_of_idle {k : Kv} (h : ∀ i, i < 16 → (k.core i).stepOk = false) : k.runSteps = k := by
  have : (List.range 16).filter (fun n => (k.core n).stepOk) = [] := by
    simpa [List.filter_eq_nil_iff] using h
  simp [Kv.runSteps, this, Kv.each]

theorem Kv.wr_mod (k : Kv) (F : Fld) (v i j : Nat) : k.wr F (v % 2 ^ F.w) i j = k.wr F v i j := by
  simp only [Kv.wr, Fld.set, Nat.mod_mod]

theorem bits_word (v : Word) : bits v.toNat 0 32 = v.toNat := by
  have := v.isLt
  simp only [bits]
  omega

/-! ### Registers through the host's window -/

/-- In RUN and PARKED no block is out of service (R559). -/
theorem blockOff_of_served {k : Kv} (h : k.rd Kv.SYS_PWR.STATE ≠ 2) (off : Nat) : k.blockOff off = false := by
  simp [Kv.blockOff, h]

theorem registerWriteKv_mbh {k : Kv} (v : Word) (hs : k.rd Kv.SYS_PWR.STATE ≠ 2)
    (hf : k.forced (sysRegs + Kv.IMG_MBHk.D.addr 3 0) 4 = false) :
    registerWriteKv false (Kv.IMG_MBHk.D.addr 3 0) v k = k.wr Kv.IMG_MBHk.D v.toNat 3 :=
  (mbh3_plain.registerWriteKv (blockOff_of_served hs _) hf rfl).trans
    (congrArg (fun x => k.wr Kv.IMG_MBHk.D x 3) (bits_word v))

theorem registerWriteKv_pend {k : Kv} (v : Word) (hf : k.forced (sysRegs + Kv.EVT_PENDm.PEND.addr 1 0) 4 = false) :
    registerWriteKv false (Kv.EVT_PENDm.PEND.addr 1 0) v k =
      k.wr Kv.EVT_PENDm.PEND (k.rd Kv.EVT_PENDm.PEND 1 - (k.rd Kv.EVT_PENDm.PEND 1 &&& v.toNat)) 1 :=
  (pend1_plain.registerWriteKv (by simp [Kv.blockOff, Fld.addr, Kv.EVT_PENDm.PEND]) hf rfl).trans
    (congrArg (fun x => k.wr Kv.EVT_PENDm.PEND (k.rd Kv.EVT_PENDm.PEND 1 - (k.rd Kv.EVT_PENDm.PEND 1 &&& x)) 1) (bits_word v))

/-- A force holds a register against every write of software (R355). -/
theorem registerWriteKv_forced {k : Kv} {off : Nat} (v : Word) (hr : Kv.isReg off = true) (hf : k.forced (sysRegs + off) 4 = true) :
    registerWriteKv false off v k = k := by
  simp [registerWriteKv, hr, Kv.unlessForced, hf]

/-- TIM_NS is read only, in every power state. -/
theorem registerWriteKv_ns (k : Kv) (v : Word) : registerWriteKv false Kv.TIM_NS.NS.base v k = k := by
  cases hf : k.forced (sysRegs + Kv.TIM_NS.NS.base) 4 with
  | true => exact registerWriteKv_forced v ns_plain.isReg hf
  | false => exact ns_plain.registerWriteKv (by simp [Kv.blockOff, Kv.TIM_NS.NS]) hf rfl

theorem registerWriteKv_unmapped {k : Kv} {off : Nat} (v : Word) (h : Kv.isReg off = false) :
    registerWriteKv false off v k = k.raise Src.REGACC 18 off := by
  simp [registerWriteKv, h, Kv.regacc]

/-- The Probe reaches SEC and DBG alone before its session (R554). -/
theorem registerWriteKv_probe {k : Kv} {off : Nat} (v : Word) (hp : k.rd Kv.DBG_STAT.PATH ≠ 2) (h3 : off / 0x1000 ≠ 3)
    (h4 : off / 0x1000 ≠ 4) : registerWriteKv true off v k = k := by
  simp [registerWriteKv, hp, h3, h4]

theorem bar0WriteKv_refused {k : Kv} {off : Nat} {data : List Byte} (h : off % 4 ≠ 0 ∨ data = [] ∨ data.length % 4 ≠ 0) :
    bar0WriteKv off data true k = k.pciErr 16 := by
  unfold bar0WriteKv
  rw [if_pos (by tauto)]

theorem wordsFrom_one (off : Nat) {data : List Byte} (h : data.length = 4) : wordsFrom off data = [(off, ofLe data)] := by
  simp [wordsFrom, h, List.take_of_length_le h.le]

theorem bar0WriteKv_mbh {k : Kv} {data : List Byte} (h : data.length = 4) (hs : k.rd Kv.SYS_PWR.STATE ≠ 2)
    (hf : k.forced (sysRegs + Kv.IMG_MBHk.D.addr 3 0) 4 = false) :
    bar0WriteKv (Kv.IMG_MBHk.D.addr 3 0) data true k = k.wr Kv.IMG_MBHk.D (ofLe data) 3 := by
  have hne : data ≠ [] := by
    rintro rfl
    simp at h
  unfold bar0WriteKv
  rw [if_neg (by simp [hne, h, Fld.addr, Kv.IMG_MBHk.D]), wordsFrom_one _ h]
  simp only [List.foldl_cons, List.foldl_nil, mbh3_plain.isReg, if_true, Kv.unlessForced, hf, Bool.false_eq_true, if_false]
  rw [mbh3_plain.regWrite (blockOff_of_served hs _) rfl]
  exact (congrArg (fun x => k.wr Kv.IMG_MBHk.D x 3) (by simp [bits, Kv.IMG_MBHk.D])).trans (k.wr_mod Kv.IMG_MBHk.D (ofLe data) 3 0)

theorem bar0UnmappedAccessKv_eq {k : Kv} {off : Nat} (h : Kv.isReg off = false) :
    bar0UnmappedAccessKv off k = (k.send ⟨.pcie, 0, [1]⟩).raise Src.REGACC 18 off := by
  simp [bar0UnmappedAccessKv, h, Kv.regacc]

/-! ### Memory through the host's window -/

theorem bar2AccessKv_byte {k : Kv} (off : Nat) (b : Byte) (hs : k.rd Kv.SYS_PWR.STATE ≠ 2) :
    bar2AccessKv off 1 (some [b]) k = k.forcedStore (k.bar2Addr off) b.toNat 1 := by
  have h1 : min 1 (8 - k.bar2Addr off % 8) = 1 := by omega
  simp [bar2AccessKv, hs, Kv.forcedBytes, h1, ofLe]

theorem bar2AccessKv_read {k : Kv} (off n : Nat) (hs : k.rd Kv.SYS_PWR.STATE ≠ 2)
    (hb : ∀ i, i < n → k.bad (k.bar2Addr off + i) = false) :
    bar2AccessKv off n none k =
      k.send ⟨.pcie, 0, 0 :: (List.range n).map (fun i => (k.rdByte (k.bar2Addr off + i)).toNat)⟩ := by
  have hfind : (List.range n).find? (fun i => k.bad (k.bar2Addr off + i)) = none := by
    simpa [List.find?_eq_none] using hb
  simp [bar2AccessKv, hs, hfind, Kv.bytesAt, Function.comp_def]

theorem Kv.dramSize_le (k : Kv) : k.dramSize ≤ 2 ^ 34 := by
  unfold Kv.dramSize
  split <;> norm_num

/-- SYS_XD reads a readable word of DRAM. -/
theorem sysXdAccessKv_read {k : Kv} (hd : k.xaddr < k.dramSize) (hb : k.bad k.xaddr = false) :
    sysXdAccessKv none k = (((k.wr Kv.SYS_XD.D (k.rdLe k.xaddr 4)).xnext).send ⟨.pcie, 0, [0, k.rdLe k.xaddr 4]⟩) := by
  have hbe : beWord k.xaddr = false := by
    have := k.dramSize_le
    simp only [beWord, sysArena, decide_eq_false_iff_not]
    omega
  simp [sysXdAccessKv, Kv.xdRead, Kv.xmapped, Kv.inDram, hd, hb, hbe, Kv.when]

/-- SYS_XD writes a word of DRAM. -/
theorem sysXdAccessKv_write {k : Kv} (v : Word) (hd : k.xaddr < k.dramSize) :
    sysXdAccessKv (some v) k = ((k.wr Kv.SYS_XD.D v.toNat).forcedStore k.xaddr v.toNat 4).xnext := by
  have hle := k.dramSize_le
  have ha : ¬ (sysArena ≤ k.xaddr ∧ k.xaddr < sysImem 0) := by simp only [sysArena]; omega
  have hi : ¬ (sysImem 0 ≤ k.xaddr ∧ k.xaddr < sysDmem 0 ∧ k.mode ≠ 0) := by simp only [sysImem]; omega
  have hf : ¬ sysSfe 0 ≤ k.xaddr := by simp only [sysSfe]; omega
  simp only [sysXdAccessKv, Kv.xdWrite, Kv.xmapped, Kv.inDram, hd, decide_true, Bool.true_or, Bool.not_true, Bool.false_eq_true, if_false,
    ha, hi, hf]

/-! ### The PCIe link and its vectors (R484, R485) -/

/-- Nothing changes where no step of a list changes anything. -/
theorem Kv.each_eq_self {k : Kv} {l : List Nat} {f : Kv → Nat → Kv} (h : ∀ n ∈ l, f k n = k) : k.each l f = k := by
  unfold Kv.each
  induction l with
  | nil => rfl
  | cons n l ih =>
    rw [List.foldl_cons, h n (by simp)]
    exact ih (fun m hm => h m (by simp [hm]))

theorem pcieLinkLossKv_up {k : Kv} (h : k.on Kv.PCI_STAT.DLUP = true) :
    pcieLinkLossKv k = (((k.wr Kv.PCI_STAT.DLUP 0).wr Kv.PCI_STAT.SPEED 0).wr Kv.PCI_STAT.WIDTH 0).pciErr 17 := by
  simp [pcieLinkLossKv, h]

/-- A vector without a held message has none to send. -/
theorem msixRelease_none {k : Kv} {v : Nat} (h : k.rd Kv.PCI_PBAm.PEND (v / 32) = 0) : k.msixRelease v = k := by
  simp [Kv.msixRelease, h, bit]

/-- The pending bits of the vectors stand in registers of their own. -/
theorem pba_key_ne {F : Fld} (m i : Nat) (h : F.key i 0 < 0xD800 * 32 ∨ 0xDC00 * 32 ≤ F.key i 0) (hm : m < 4) :
    Kv.PCI_PBAm.PEND.key m 0 ≠ F.key i 0 := by
  simp only [Fld.key, Fld.addr, Kv.PCI_PBAm.PEND] at h ⊢
  omega

/-- So does the vector control word of a vector. -/
theorem pba_key_ne_mask (m v : Nat) (hv : v < 128) (hm : m < 4) : Kv.PCI_PBAm.PEND.key m 0 ≠ Kv.PCI_MSIX_VC.MASK.key v 0 :=
  pba_key_ne m v (.inl (by simp only [Fld.key, Fld.addr, Kv.PCI_MSIX_VC.MASK]; omega)) hm

/-- The link comes up; with no message held nothing is sent. -/
theorem pcieLinkUpKv_quiet {k : Kv} {speed width : Nat} (hk : ∀ i, i < 4 → k.rd Kv.PCI_PBAm.PEND i = 0) (h1 : 1 ≤ speed) (h4 : speed ≤ 4)
    (hw : width = 1 ∨ width = 2 ∨ width = 4) :
    pcieLinkUpKv speed width k = ((k.mark Kv.PCI_STAT.DLUP).wr Kv.PCI_STAT.SPEED speed).wr Kv.PCI_STAT.WIDTH width := by
  unfold pcieLinkUpKv
  rw [if_neg (by omega)]
  refine Kv.each_eq_self fun v hv => msixRelease_none ?_
  have hm : v / 32 < 4 := by
    have := List.mem_range.mp hv
    omega
  rw [Kv.rd_wr_ne _ _ (pba_key_ne _ 0 (.inr (by decide)) hm), Kv.rd_wr_ne _ _ (pba_key_ne _ 0 (.inr (by decide)) hm), Kv.mark,
    Kv.rd_wr_ne _ _ (pba_key_ne _ 0 (.inr (by decide)) hm)]
  exact hk _ hm

theorem msixVectorUnmaskKv_quiet {k : Kv} {v : Nat} (hv : v < 128) (hk : k.rd Kv.PCI_PBAm.PEND (v / 32) = 0) :
    msixVectorUnmaskKv v k = k.wr Kv.PCI_MSIX_VC.MASK 0 v :=
  msixRelease_none (by rw [Kv.rd_wr_ne _ _ (pba_key_ne_mask _ v hv (by omega)), hk])

/-- A held message goes out, as the vector's address and data say, when its vector is unmasked while the link is up. -/
theorem msixVectorUnmaskKv_held {k : Kv} {v : Nat} (hv : v < 128) (hup : k.on Kv.PCI_STAT.DLUP = true)
    (hk : bit (k.rd Kv.PCI_PBAm.PEND (v / 32)) (v % 32) = true) :
    msixVectorUnmaskKv v k =
      ((k.wr Kv.PCI_MSIX_VC.MASK 0 v).wr Kv.PCI_PBAm.PEND (setBit (k.rd Kv.PCI_PBAm.PEND (v / 32)) (v % 32) false) (v / 32)).send
        ⟨.msix, v, [k.rd Kv.PCI_MSIX_ALO.A v, k.rd Kv.PCI_MSIX_AHI.A v, k.rd Kv.PCI_MSIX_DATA.D v]⟩ := by
  have hm : v / 32 < 4 := by omega
  have pend : (k.wr Kv.PCI_MSIX_VC.MASK 0 v).rd Kv.PCI_PBAm.PEND (v / 32) = k.rd Kv.PCI_PBAm.PEND (v / 32) :=
    Kv.rd_wr_ne _ _ (pba_key_ne_mask _ v hv hm)
  have unmasked : (k.wr Kv.PCI_MSIX_VC.MASK 0 v).on Kv.PCI_MSIX_VC.MASK v = false := by
    rw [Kv.on, Kv.rd_wr_same]
    rfl
  have up : (k.wr Kv.PCI_MSIX_VC.MASK 0 v).on Kv.PCI_STAT.DLUP = true := by
    rw [Kv.on_wr_ne _ _ (by simp only [Fld.key, Fld.addr, Kv.PCI_STAT.DLUP, Kv.PCI_MSIX_VC.MASK]; omega), hup]
  unfold msixVectorUnmaskKv Kv.msixRelease
  rw [pend, hk, unmasked, up]
  generalize setBit _ _ _ = p
  simp only [Bool.not_false, Bool.and_self, if_true, Kv.msix]
  rw [Kv.on_wr_ne _ _ (pba_key_ne_mask _ v hv hm).symm, unmasked,
    Kv.on_wr_ne _ _ (pba_key_ne _ 0 (.inr (by decide)) hm).symm, up]
  have keep : ∀ F ∈ [Kv.PCI_MSIX_ALO.A, Kv.PCI_MSIX_AHI.A, Kv.PCI_MSIX_DATA.D],
      ((k.wr Kv.PCI_MSIX_VC.MASK 0 v).wr Kv.PCI_PBAm.PEND p (v / 32)).rd F v = k.rd F v := by
    intro F hF
    have hkey : F.key v 0 < 0xD800 * 32 ∧ F.key v 0 ≠ Kv.PCI_MSIX_VC.MASK.key v 0 := by
      simp only [List.mem_cons, List.not_mem_nil, or_false] at hF
      rcases hF with rfl | rfl | rfl <;>
        simp only [Fld.key, Fld.addr, Kv.PCI_MSIX_ALO.A, Kv.PCI_MSIX_AHI.A, Kv.PCI_MSIX_DATA.D, Kv.PCI_MSIX_VC.MASK] <;> omega
    rw [Kv.rd_wr_ne _ _ (pba_key_ne _ v (.inl hkey.1) hm).symm, Kv.rd_wr_ne _ _ hkey.2]
  simp [keep]

/-! ### The state image -/

theorem imgCfgWriteKv_eq (v : Nat) (k : Kv) :
    imgCfgWriteKv v k = if (k.writeReg Kv.IMG_CFG.EN.base v).imgTooFast = true then k.raise Src.REGACC 18 Kv.IMG_CFG.EN.base
      else k.writeReg Kv.IMG_CFG.EN.base v := rfl

end Sys2Proof.Machine
end

section
/-! What mailbox and tally come to (R495 to R502). -/

namespace Sys2Proof.Machine

/-- Writes of one field at many indices, one after the other, change the registers alone. -/
theorem Kv.each_wr_eq (k : Kv) (l : List Nat) (F : Fld) (g : Nat → Nat) :
    k.each l (fun s i => s.wr F (g i) i) = { k with regs := l.foldl (fun r i => F.set i 0 (g i) r) k.regs } := by
  unfold Kv.each
  induction l generalizing k with
  | nil => rfl
  | cons n l ih => exact ih (k.wr F (g n) n)

/-- They leave every field with other keys as it was. -/
theorem Kv.rd_each_wr_ne (k : Kv) (l : List Nat) {F G : Fld} (g : Nat → Nat) (p q : Nat) (h : ∀ i ∈ l, G.key p q ≠ F.key i 0) :
    (k.each l (fun s i => s.wr F (g i) i)).rd G p q = k.rd G p q := by
  unfold Kv.each
  induction l generalizing k with
  | nil => rfl
  | cons n l ih =>
    rw [List.foldl_cons, ih _ (fun i hi => h i (by simp [hi])), Kv.rd_wr_ne _ _ (h n (by simp))]

/-- At each index the field holds its value, where the indices have keys of their own. -/
theorem Kv.rd_each_wr_same (k : Kv) (n : Nat) {F : Fld} (g : Nat → Nat) (hF : F.s1 ≠ 0) {i : Nat} (hi : i < n) :
    (k.each (List.range n) (fun s i => s.wr F (g i) i)).rd F i = g i % 2 ^ F.w := by
  induction n with
  | zero => omega
  | succ n ih =>
    have step : k.each (List.range (n + 1)) (fun s i => s.wr F (g i) i) =
        (k.each (List.range n) (fun s i => s.wr F (g i) i)).wr F (g n) n := by
      simp [Kv.each, List.range_succ]
    rw [step]
    by_cases h : i = n
    · rw [h, Kv.rd_wr_same]
    · have hne : F.key i 0 ≠ F.key n 0 := by
        simp only [Fld.key, Fld.addr]
        have : F.s1 * i ≠ F.s1 * n := fun e => h (Nat.eq_of_mul_eq_mul_left (Nat.pos_of_ne_zero hF) e)
        omega
      rw [Kv.rd_wr_ne _ _ hne, ih (by omega)]

/-! ### The mailbox (R495, R496) -/

/-- A message that is on time and finds room waits at the end of the queue, with the words that the host has put down. -/
theorem mailboxSendKv_taken {k : Kv} (mt : BitVec 16) (een : Bool) (task : BitVec 5)
    (h2 : 2 ≤ (mt.toNat + 65536 - k.tick % 65536) % 65536) (hd : (mt.toNat + 65536 - k.tick % 65536) % 65536 ≤ 32767)
    (h8 : k.hst.mail.length < 8) :
    (mailboxSendKv mt.toNat een task.toNat k).rd Kv.IMG_MBC.QN = k.hst.mail.length + 1 ∧
    (mailboxSendKv mt.toNat een task.toNat k).hst.mail = k.hst.mail ++
      [(⟨tickFrom k.tick mt.toNat, (List.range 16).map (fun i => k.rd Kv.IMG_MBHk.D i), een, task.toNat⟩ : Mail)] := by
  have hmt : mt.toNat % 65536 = mt.toNat := Nat.mod_eq_of_lt mt.isLt
  have htask : task.toNat % 32 = task.toNat := Nat.mod_eq_of_lt task.isLt
  have words : ∀ i, (((k.wr Kv.IMG_MBC.MT mt.toNat).wr Kv.IMG_MBC.EEN (b2n een)).wr Kv.IMG_MBC.ETASK task.toNat).rd Kv.IMG_MBHk.D i =
      k.rd Kv.IMG_MBHk.D i := by
    intro i
    rw [Kv.rd_wr_ne, Kv.rd_wr_ne, Kv.rd_wr_ne] <;>
      simp only [Fld.key, Fld.addr, Kv.IMG_MBHk.D, Kv.IMG_MBC.MT, Kv.IMG_MBC.EEN, Kv.IMG_MBC.ETASK] <;> omega
  unfold mailboxSendKv
  simp only [hmt, htask, words]
  rw [if_neg (by simpa [Kv.tick] using ⟨h2, hd⟩), if_neg (by simpa using h8)]
  refine ⟨?_, rfl⟩
  exact (Kv.rd_wr_same ..).trans (Nat.mod_eq_of_lt (by simp [Kv.IMG_MBC.QN]; omega))

/-- The mailbox registers that show message `m` as delivered, `n` messages still waiting. -/
def Kv.mailShown (k : Kv) (m : Mail) (n : Nat) : Kv :=
  let s := k.each (List.range 16) (fun s i => s.wr Kv.IMG_MBRk.D (m.words.getD i 0) i)
  ((s.wr Kv.IMG_MBS.SEQ (s.rd Kv.IMG_MBS.SEQ + 1)).wr Kv.IMG_MBS.DTICK s.tick).wr Kv.IMG_MBC.QN n

/-- The chip once its oldest message `m` is delivered, `rest` still waiting. -/
def Kv.delivered (k : Kv) (m : Mail) (rest : List Mail) : Kv :=
  let s := k.mailShown m rest.length
  { s with hst := { s.hst with mail := rest, lastMail := some s.tick } }

/-- Delivery comes at the boundary of MT or after it, 8 ticks from the delivery before. -/
theorem mailboxDeliveryKv_due {k : Kv} {m : Mail} {rest : List Mail} (hm : k.hst.mail = m :: rest) (ht : tickAhead k.tick m.mt = false)
    (hl : ∀ t, k.hst.lastMail = some t → 8 ≤ ticksTo t k.tick) :
    mailboxDeliveryKv k = (k.delivered m rest).when (m.een && (k.delivered m rest).duty)
      (fun s => (s.castleSend 0x06 [s.tick, m.etask]).releaseTask (64 + m.etask) s.tick) := by
  have after : (match k.hst.lastMail with | some t => decide (8 ≤ ticksTo t k.tick) | none => true) = true := by
    cases h : k.hst.lastMail with
    | none => rfl
    | some t => exact decide_eq_true (hl t h)
  unfold mailboxDeliveryKv
  rw [hm]
  exact if_pos ⟨ht, after⟩

/-- The registers apart, showing a message changes nothing. -/
theorem mailShown_eq (k : Kv) (m : Mail) (n : Nat) : k.mailShown m n = { k with regs := (k.mailShown m n).regs } := by
  simp only [Kv.mailShown, Kv.each_wr_eq]
  rfl

/-- A field of a register before the mailbox's reads as before. -/
theorem mailShown_rd_below (k : Kv) (m : Mail) (n : Nat) {F : Fld} (h : F.key 0 0 < Kv.IMG_MBC.QN.key 0 0) :
    (k.mailShown m n).rd F = k.rd F := by
  unfold Kv.mailShown
  rw [Kv.rd_wr_ne, Kv.rd_wr_ne, Kv.rd_wr_ne, Kv.rd_each_wr_ne]
  all_goals
    simp only [Fld.key, Fld.addr, Kv.IMG_MBC.QN, Kv.IMG_MBS.SEQ, Kv.IMG_MBS.DTICK, Kv.IMG_MBRk.D] at h ⊢
    omega

theorem mailShown_words (k : Kv) (m : Mail) (n : Nat) {i : Nat} (hi : i < 16) :
    (k.mailShown m n).rd Kv.IMG_MBRk.D i = m.words.getD i 0 % 2 ^ 32 := by
  unfold Kv.mailShown
  rw [Kv.rd_wr_ne, Kv.rd_wr_ne, Kv.rd_wr_ne, Kv.rd_each_wr_same _ _ _ (by decide) hi]
  · rfl
  all_goals
    simp only [Fld.key, Fld.addr, Kv.IMG_MBC.QN, Kv.IMG_MBS.SEQ, Kv.IMG_MBS.DTICK, Kv.IMG_MBRk.D]
    omega

theorem delivered_rd (k : Kv) (m : Mail) (rest : List Mail) (F : Fld) (i : Nat) :
    (k.delivered m rest).rd F i = (k.mailShown m rest.length).rd F i := by
  simp only [Kv.rd, Kv.delivered]

theorem delivered_tick (k : Kv) (m : Mail) (rest : List Mail) : (k.delivered m rest).tick = k.tick := by
  rw [Kv.delivered, mailShown_eq]
  rfl

theorem delivered_lastMail (k : Kv) (m : Mail) (rest : List Mail) : (k.delivered m rest).hst.lastMail = some k.tick := by
  rw [Kv.delivered, mailShown_eq]
  rfl

theorem delivered_duty (k : Kv) (m : Mail) (rest : List Mail) : (k.delivered m rest).duty = k.duty := by
  rw [Kv.duty, Kv.on, delivered_rd, mailShown_rd_below _ _ _ (by decide)]
  rfl

theorem delivered_queue (k : Kv) (m : Mail) (rest : List Mail) :
    (k.delivered m rest).rd Kv.IMG_MBC.QN = rest.length % 2 ^ Kv.IMG_MBC.QN.w := by
  rw [delivered_rd, Kv.mailShown, Kv.rd_wr_same]

/-! ### The tally (R497, R502) -/

/-- An entry of a table under a key that a filter drops reads as unlisted. -/
theorem Tab.get_filter_dropped {α : Type} (d : α) (q : Nat × α → Bool) (t : Tab α) {a : Nat} (h : ∀ v, q (a, v) = false) :
    Tab.get d a (t.filter q) = d := by
  induction t with
  | nil => rfl
  | cons e rest ih =>
    obtain ⟨j, v⟩ := e
    rw [List.filter_cons]
    split
    · rename_i hq
      have hj : a ≠ j := by
        rintro rfl
        rw [h v] at hq
        cases hq
      simp only [Tab.get, hj, if_false, ih]
    · exact ih

/-- A tally starts: it waits for its tick, nothing has arrived, and its slot of the memory is cleared. -/
theorem tallyRequestKv_taken {k : Kv} (no tt : BitVec 16) (hl : k.lead + 1 ≤ (tt.toNat + 65536 - k.tick % 65536) % 65536)
    (h6 : (tt.toNat + 65536 - k.tick % 65536) % 65536 ≤ 6) (h1 : k.rd Kv.IMG_TSTAT.STATE ≠ 1) (h2 : k.rd Kv.IMG_TSTAT.STATE ≠ 2) :
    (tallyRequestKv no.toNat tt.toNat k).rd Kv.IMG_TSTAT.STATE = 1 ∧
    (tallyRequestKv no.toNat tt.toNat k).col.tallyOf = some (no.toNat, tickFrom k.tick tt.toNat) ∧
    (tallyRequestKv no.toNat tt.toNat k).col.tally = [] ∧
    ∀ z, tallyAt no.toNat ≤ z → z < tallyAt no.toNat + 0x400000 → (tallyRequestKv no.toNat tt.toNat k).rdByte z = 0 := by
  have hno : no.toNat % 65536 = no.toNat := Nat.mod_eq_of_lt no.isLt
  have htt : tt.toNat % 65536 = tt.toNat := Nat.mod_eq_of_lt tt.isLt
  have lead : ((k.wr Kv.IMG_TLY.TALLY no.toNat).wr Kv.IMG_TLY.TT tt.toNat).lead = k.lead := by
    simp only [Kv.lead]
    rw [Kv.rd_wr_ne, Kv.rd_wr_ne, Kv.rd_wr_ne, Kv.rd_wr_ne] <;> decide
  unfold tallyRequestKv
  simp only [hno, htt, lead]
  rw [if_neg (by omega), if_neg (by omega)]
  have waits : (((k.wr Kv.IMG_TLY.TALLY no.toNat).wr Kv.IMG_TLY.TT tt.toNat).wr Kv.IMG_TSTAT.STATE 1).rd Kv.IMG_TSTAT.STATE = 1 :=
    Kv.rd_wr_same ..
  refine ⟨waits, rfl, rfl, fun z hz hz' => Tab.get_filter_dropped _ _ _ fun v => ?_⟩
  simp only [decide_eq_false_iff_not]
  omega

/-- A chip whose tally `no` is done, incomplete or not. -/
def Kv.tallyEnded (s : Kv) (no : Nat) (inc : Bool) : Kv :=
  { ((s.wr Kv.IMG_TSTAT.STATE 3).wr Kv.IMG_TSTAT.INC (b2n inc)).wr Kv.IMG_TSTAT.LAST no with
    col := { s.col with tallyOf := none, tally := [] } }

theorem tallyEnded_state (s : Kv) (no : Nat) (inc : Bool) : (s.tallyEnded no inc).rd Kv.IMG_TSTAT.STATE = 3 := by
  change (Kv.wr _ _ _).rd Kv.IMG_TSTAT.STATE = 3
  rw [Kv.rd_wr_ne _ _ (by decide), Kv.rd_wr_ne _ _ (by decide), Kv.rd_wr_same]
  rfl

theorem tallyEnded_inc (s : Kv) (no : Nat) (inc : Bool) : (s.tallyEnded no inc).on Kv.IMG_TSTAT.INC = inc := by
  change (Kv.wr _ _ _).on Kv.IMG_TSTAT.INC = inc
  rw [Kv.on_wr_ne _ _ (by decide), Kv.on, Kv.rd_wr_same]
  cases inc <;> rfl

theorem tallyEnded_last (s : Kv) (no : BitVec 16) (inc : Bool) : (s.tallyEnded no.toNat inc).rd Kv.IMG_TSTAT.LAST = no.toNat := by
  change (Kv.wr _ _ _).rd Kv.IMG_TSTAT.LAST = no.toNat
  rw [Kv.rd_wr_same]
  exact Nat.mod_eq_of_lt no.isLt

/-- A tally closes once the report-arrival point of its last tick has passed, and is reported where it is incomplete. -/
theorem tallyCloseKv_due {k : Kv} {no t : Nat} (ho : k.col.tallyOf = some (no, t)) (h2 : k.rd Kv.IMG_TSTAT.STATE = 2)
    (hc : k.closedFor ((t + 32) % 2 ^ 48) = true) :
    ∃ s inc, tallyCloseKv k = (Kv.tallyEnded s no inc).when inc (fun s => s.raise Src.TALLY 0 no) := by
  unfold tallyCloseKv
  rw [ho]
  exact ⟨_, _, if_pos ⟨h2, hc⟩⟩

end Sys2Proof.Machine
end

section
/-! The statement on host accesses, image, mailbox and tally. -/

namespace Sys2Proof.Machine

/-- A write to a register of a live chip with no core to be stepped leaves there what the write comes to. -/
theorem exec_registerWrite_idle {s : State} {c : Chip} {off v : Word} {probe : Bool} {y : Kv} (h : s.live c)
    (hi : ∀ i, i < 16 → (y.core i).stepOk = false) (hy : registerWriteKv probe off.toNat v (s.kvAt c) = y) :
    exec (.registerWrite (.chip c probe) off v) s = .next (s.setChip c y) :=
  exec_live h rfl (by rw [hy, runSteps_of_idle hi])

/-- So does a write through BAR0. -/
theorem exec_bar0Write_idle {s : State} {c : Chip} {off : Word} {data : List Byte} {whole : Bool} {y : Kv} (h : s.live c)
    (hi : ∀ i, i < 16 → (y.core i).stepOk = false) (hy : bar0WriteKv off.toNat data whole (s.kvAt c) = y) :
    exec (.bar0Write c off data whole) s = .next (s.setChip c y) :=
  exec_live h rfl (by rw [hy, runSteps_of_idle hi])

/-- A module that does not run takes no register write (R554). -/
theorem exec_registerWrite_stopped {s : State} {a : BitVec 13} (off v : Word) (h : (s.kcAt a).runs = false) :
    exec (.registerWrite (.cell a) off v) s = .next (s.setCell a (s.kcAt a)) := by
  change Host.Outcome.next (s.setCell a ((s.kcAt a).probeWrite off.toNat v.toNat)) = _
  simp [Cell.probeWrite, h]

/-- A tally that is due closes. -/
theorem exec_tallyClose_due {s : State} {c : Chip} {no : BitVec 16} {t : Nat} (h : s.live c)
    (ho : (s.kvAt c).col.tallyOf = some (no.toNat, t)) (h2 : (s.kvAt c).rd Kv.IMG_TSTAT.STATE = 2)
    (hc : (s.kvAt c).closedFor ((t + 32) % 2 ^ 48) = true) :
    ∃ y : Kv, exec (.tallyClose c) s =
        .next (s.setChip c (if y.on Kv.IMG_TSTAT.INC = true then y.raise Src.TALLY 0 no.toNat else y)) ∧
      y.rd Kv.IMG_TSTAT.STATE = 3 ∧ y.rd Kv.IMG_TSTAT.LAST = no.toNat ∧ y.col.tallyOf = none := by
  obtain ⟨y, inc, hy⟩ := tallyCloseKv_due ho h2 hc
  refine ⟨y.tallyEnded no.toNat inc, exec_live h rfl ?_, tallyEnded_state .., tallyEnded_last .., rfl⟩
  rw [hy, tallyEnded_inc, Kv.when]

/-- The oldest message is delivered when it is due. -/
theorem exec_mailboxDelivery_due {s : State} {c : Chip} {x : Mail} {rest : List Mail} (h : s.live c)
    (hm : (s.kvAt c).hst.mail = x :: rest) (ht : tickAhead (s.kvAt c).tick x.mt = false)
    (hl : ∀ t, (s.kvAt c).hst.lastMail = some t → 8 ≤ ticksTo t (s.kvAt c).tick) :
    ∃ y : Kv, exec (.mailboxDelivery c) s = .next (s.setChip c (if x.een = true ∧ (s.kvAt c).duty = true then
          (y.castleSend 0x06 [(s.kvAt c).tick, x.etask]).releaseTask (64 + x.etask) (s.kvAt c).tick else y)) ∧
      y.hst.mail = rest ∧ y.hst.lastMail = some (s.kvAt c).tick ∧ y.rd Kv.IMG_MBC.QN = rest.length % 2 ^ Kv.IMG_MBC.QN.w ∧
      ∀ i : Nat, i < 16 → y.rd Kv.IMG_MBRk.D i = (x.words.getD i 0) % 2 ^ 32 := by
  refine ⟨(s.kvAt c).delivered x rest, exec_live h rfl ?_, rfl, delivered_lastMail .., delivered_queue .., fun i hi => ?_⟩
  · rw [mailboxDeliveryKv_due hm ht hl, Kv.when, delivered_duty, delivered_tick]
    simp only [Bool.and_eq_true]
  · rw [delivered_rd, mailShown_words _ _ _ hi]

/-- Settles O55: each clause is what its operation comes to on a chip that takes commands. -/
theorem hostAccessesImageMailboxAndTally : Obligations.Host_accesses_image_mailbox_and_tally := by
  intro s c off v data m speed width mt no tt een task bytes b a hlive k goes host served o free hidle
  refine ⟨exec_registerWrite_stopped off v, ?mbh, ?pend, ?ns, ?unmapped, ?probe, ?bar0Refused, ?forced, ?bar0, ?bar0Unmapped, ?bar2,
    ?linkLoss, ?quiet, ?held, ?sysXd, ?imgCfg, ?mailSend, ?mailDelivery, ?tallyRequest, ?tallyClose⟩
  case mbh =>
    intro hs hf (ho : off.toNat = _)
    exact exec_registerWrite_idle hlive hidle (ho ▸ registerWriteKv_mbh v hs (ho ▸ hf))
  case pend =>
    intro hf (ho : off.toNat = _)
    exact exec_registerWrite_idle hlive hidle (ho ▸ registerWriteKv_pend v (ho ▸ hf))
  case ns =>
    intro (ho : off.toNat = _)
    exact exec_registerWrite_idle hlive hidle (ho ▸ registerWriteKv_ns k v)
  case unmapped =>
    intro hr
    exact ⟨_, rfl, exec_live hlive rfl (congrArg Kv.runSteps (registerWriteKv_unmapped v hr))⟩
  case probe =>
    intro hp h3 h4
    exact exec_registerWrite_idle hlive hidle (registerWriteKv_probe v hp h3 h4)
  case bar0Refused =>
    intro h
    exact exec_live hlive rfl (congrArg Kv.runSteps (bar0WriteKv_refused h))
  case forced =>
    intro hf hr
    exact exec_registerWrite_idle hlive hidle (registerWriteKv_forced v hr hf)
  case bar0 =>
    intro hs hf (ho : off.toNat = _) h4
    exact exec_bar0Write_idle hlive hidle (ho ▸ bar0WriteKv_mbh h4 hs (ho ▸ hf))
  case bar0Unmapped =>
    intro hr
    exact exec_live hlive rfl (bar0UnmappedAccessKv_eq hr)
  case bar2 =>
    intro hs
    exact ⟨exec_live hlive rfl (bar2AccessKv_byte o b hs), fun hb => exec_live hlive rfl (bar2AccessKv_read o bytes hs hb)⟩
  case linkLoss =>
    intro h
    exact exec_live hlive rfl (pcieLinkLossKv_up h)
  case quiet =>
    intro hk
    refine ⟨fun h1 h4 hw => exec_live hlive rfl (pcieLinkUpKv_quiet hk h1 h4 ?_), exec_live hlive rfl (msixVectorUnmaskKv_quiet m.isLt ?_)⟩
    · rcases hw with rfl | rfl | rfl <;> simp
    · exact hk _ (by omega)
  case held =>
    intro hup hk
    exact exec_live hlive rfl (msixVectorUnmaskKv_held m.isLt hup hk)
  case sysXd =>
    intro hd hb
    exact ⟨exec_live hlive rfl (sysXdAccessKv_read hd hb), exec_live hlive rfl (sysXdAccessKv_write v hd)⟩
  case imgCfg => exact exec_live hlive rfl (imgCfgWriteKv_eq v.toNat k)
  case mailSend =>
    intro d h2 hd h8
    exact ⟨_, exec_live hlive rfl rfl, mailboxSendKv_taken mt een task h2 hd h8⟩
  case mailDelivery =>
    intro x rest hm ht hl
    exact exec_mailboxDelivery_due hlive hm ht hl
  case tallyRequest =>
    intro d slot hl h6 h1 h2
    exact ⟨_, exec_live hlive rfl rfl, tallyRequestKv_taken no tt hl h6 h1 h2⟩
  case tallyClose =>
    intro t ho h2 hc
    exact exec_tallyClose_due hlive ho h2 hc

end Sys2Proof.Machine
end

section
/-! A chip held in reset (R569): which commands still change it. -/

namespace Sys2Proof.Machine

/-- Chip `c`, while it is held in reset, stays through `F` what it was, apart from what it has sent. -/
def State.Rests (c : Chip) (F : State → State) : Prop :=
  ∀ s : State, (s.chip c).boot.inReset = true → (F s).kvAt c = s.kvAt c

/-- So it does through a command on other parts. -/
theorem Effect.rests {l : List Site} {F : State → State} (e : Effect l F) {c : Chip} (h : .chip c ∉ l) : State.Rests c F := by
  intro s _
  have hc : (F s).chip c = s.chip c := by simpa [State.at] using e.frame s h
  rw [State.kvAt, hc]
  rfl

/-- A command on a chip that takes none in reset. -/
theorem rests_onKv (c d : Chip) (f : State → Kv → Kv) : State.Rests c (fun s => s.onKv d (f s)) := by
  intro s hr
  by_cases hd : d = c
  · subst hd
    simp [State.onKv_reset hr, State.kvAt]
  · exact (Effect.onKv d f).rests (by simpa using Ne.symm hd) s hr

theorem rests_onKvAlways {c d : Chip} (h : d ≠ c) (f : State → Kv → Kv) : State.Rests c (fun s => s.onKvAlways d (f s)) :=
  (Effect.onKvAlways d f).rests (by simpa using h.symm)

theorem rests_onCell (c : Chip) (a : BitVec 13) (g : Cell → Cell) : State.Rests c (fun s => s.onCell a g) :=
  (Effect.onCell a g).rests (by simp)

theorem rests_onKf (c : Chip) (g : Kf → Kf) : State.Rests c (fun s => s.onKf g) := (Effect.onKf g).rests (by simp)

/-! ### Each way in which a command reaches its part leaves a chip in reset alone -/

theorem rests_onCoreBy (c : Chip) (r : CoreRef) (f : Nat → Kv → Kv) (g : Cell → Cell) : State.Rests c (fun s => s.onCoreBy r f g) := by
  cases r with
  | kv d n => exact rests_onKv c d (fun _ => f n.toNat)
  | cell a => exact rests_onCell c a g

theorem rests_onPart (c : Chip) (p : Part) (f : Kv → Kv) (g : Cell → Cell) : State.Rests c (fun s => s.onPart p f g) := by
  cases p with
  | chip d => exact rests_onKv c d (fun _ => f)
  | cell a => exact rests_onCell c a g

theorem rests_onMem (c : Chip) (w : MemOf) (f : Kv → Kv) (g : Cell → Cell) : State.Rests c (fun s => s.onMem w f g) := by
  cases w with
  | chip d => exact rests_onKv c d (fun _ => f)
  | cell a => exact rests_onCell c a g

theorem rests_onHop (c : Chip) (h : HopEnd) (f : HopStep) : State.Rests c (fun s => s.onHop h f) := by
  cases h with
  | sp d n => exact rests_onKv c d (fun _ k => k.spStep n.toNat f)
  | cl d n => exact rests_onKv c d (fun _ k => k.clStep n.toNat f)
  | opt a p => exact rests_onCell c a (fun x => x.optStep p f)

theorem rests_onInject (c : Chip) (h : HopEnd) : State.Rests c (fun s => s.onInject h) := by
  cases h with
  | sp d n => exact rests_onKv c d (fun _ => errorInjectSp n.toNat)
  | cl d n => exact rests_onKv c d (fun _ => errorInjectCl n.toNat)
  | opt a p => exact rests_onCell c a (fun x => x.optStep p injectStep)

theorem rests_onMidFrame (c : Chip) (h : HopEnd) (blk : Nat) (part : Option Header) : State.Rests c (fun s => s.onMidFrame h blk part) := by
  cases h with
  | sp d n => exact rests_onKv c d (fun _ => midFrameLockLossSp n.toNat)
  | cl d n => exact fun _ _ => rfl
  | opt a p => exact rests_onCell c a (midFrameLockLossCell p blk part)

theorem rests_onReadBy (c : Chip) (r : ReadBy) : State.Rests c (fun s => s.onReadBy r) := by
  cases r with
  | chip d m a e => exact rests_onKv c d (fun _ => memoryReadUncorrectableKv m e.toNat a.toNat)
  | cell p a e => exact rests_onCell c p (memoryReadUncorrectableCell e.toNat a.toNat)

theorem rests_onRegister (c : Chip) (r : RegBy) (off v : Word) : State.Rests c (fun s => s.onRegister r off v) := by
  cases r with
  | chip d probe => exact rests_onKv c d (fun _ k => (registerWriteKv probe off.toNat v k).runSteps)
  | cell a => exact rests_onCell c a (fun x => x.probeWrite off.toNat v.toNat)

theorem rests_onSvlDiscard (c : Chip) (e : SvlEnd) : State.Rests c (fun s => s.onSvlDiscard e) := by
  cases e with
  | chip d => exact rests_onKv c d (fun _ => svlMessageDiscardKv)
  | companion d => exact rests_onKf c (fun k => k.discard d.isB)

/-- A FORCE message that comes to a chip in reset is not taken, and marks nothing at its sender. -/
theorem rests_forceMessage {c d : Chip} (h : d ≠ c.other) (e : Envelope) (x : FrcChange) :
    State.Rests c (fun s => s.forceMessage d e x) := by
  obtain rfl : d = c := by cases c <;> cases d <;> simp_all [Chip.other]
  intro s hr
  have hs : s.forceMessage d e x = s.onKv d (forceMessageKv e x) := by simp [State.forceMessage, hr]
  exact (congrArg (State.kvAt · d) hs).trans (rests_onKv d d (fun _ => forceMessageKv e x) s hr)

/-- The commands that change chip `c` while it is held in reset: the two of reset, those of its always-on time base (R30, R53, R54), and
the FORCE message that it has sent to the other chip (R356). -/
def Instr.reachesInReset (c : Chip) : Instr → Bool
  | .powerOnReset d | .resetRelease d .. | .tickBoundary d _ | .refclkLoss d | .regionDifference d _ => d = c
  | .forceMessage d .. => d = c.other
  | _ => false

/-- Every other command leaves it alone. -/
theorem exec_rests (i : Instr) {c : Chip} (h : Instr.reachesInReset c i = false) :
    ∃ F, (∀ s, exec i s = .next (F s)) ∧ State.Rests c F := by
  cases i with
  | add | sub | adds | subs | and | or | xor | andn | sll | srl | sra | ror | mul | mulh | mulhu | min | max | minu | maxu
  | abs | neg | clz | div | divu | rem | remu | cmp | slt | sltu | addi | andi | ori | xori | lui | cmpi | slli | srli | srai
  | rori | ldw | ldh | ldhu | ldb | ldbu | stw | sth | stb | ldd | std | swap | adda | anda | ora | cas | cfx | clw | csw | bcc
  | jump | call | jr | callr | cbeq | cbne | cblt | cbltu | mac | msu | mula | macu | macs | extr | extrt | mova | mvlo | mvmi
  | mvhi | awlo | awmi | awhi | aclr | aadd | extrr | dot4 | dot4c | tickwait | post | takeItem | yieldItem | flowend | pub
  | ledg | mfc | mtc | rtt | trap | brk | clrq | fence | li | addl | andl | orl | xorl | cmpl | jl | calll | tickwaitComplete
  | illegalInstruction =>
    exact ⟨_, fun _ => rfl, rests_onCoreBy _ _ _ _⟩
  | headerReceived | cellTickBoundary | commandSlotReceived | reportSlotWrite | trailerForward | cellCommandDeadline
  | holdLimit | modePark | modeActive | modeHoldlast | modeBypassFire | modeDischarge | modeSensor | bcmdTallyLatch
  | bcmdCaptureArm | bcmdTripClear | bcmdClearShdw | bcmdAcknowledge | sideRd | sideWa | sideWd | positionDrop | foldOnset
  | foldEnd | foldFrameLaunch | passThroughClose | passThroughOpen | passThroughOpenFail | passThroughRetry | powerStateFall
  | powerStateRise | guardPowerOn | guardSample | guardBypFire | guardClear | guardMainRetry | watchdogExpiry | cellCoreReset
  | mainDomainReset | mainDomainStart | cellCoreException | cellEventRaise | ccEvpWrite | cellTempReset | genEdge | gateTurnOn
  | stretchEnd | tripInputActive | bypassArmedFire | genMinpDtWrite | genSrcSet | genLpaWrite | genLpbWrite | localPairTorn
  | genFreeze | genFreezeRelease | parkHaltTakesEffect | cellSample | reportFreeze | adcInjGo | injectedConversionDone
  | adcCalGo | calibrationRunStart | calibrationRunEnd | capArm | capAbort | capTrig | capTrigger | capPostComplete | cellHalt
  | cellResume | cellStep | ccBootChk | ccBootSelWrite =>
    exact ⟨_, fun _ => rfl, rests_onCell _ _ _⟩
  | kfHeartbeatReceived | heartbeatTimeout | kfRestartGrant | fieldInputSample | stinSample | tripSourceActive | outputSelfOff
  | outputRestart | kfCmdReceived | kfRegReceived | silenceTimerExpiry | kfSupplyReset | kfResetRelease | kfRefclkFail
  | kfSupplyWarning | kfDieOverTemperature =>
    exact ⟨_, fun _ => rfl, rests_onKf _ _⟩
  | signalDetect | signalLoss | trainingBlockReceived | trainReady | trainTimeout | shiftEnd | blockLock | blockLockLoss
  | huntPolarityInvert | hopUp | huntTimeout | blindStartFail | blindRetry | testPatternDeselect | adaptationFreeze
  | adaptationResume | adaptationStep =>
    exact ⟨_, fun _ => rfl, rests_onHop _ _ _⟩
  | keyProg | keyRevoke | sealPart | retire | svup | debugChal | debugVerify | debugVerifyDone | debugClose
  | sessionIdleTimeout | probeDisconnect | authLockoutEnd | debugNonceExpiry =>
    exact ⟨_, fun _ => rfl, rests_onPart _ _ _ _⟩
  | memoryReadCorrected | partialStoreMerge | patrolScrubRead =>
    exact ⟨_, fun _ => rfl, rests_onMem _ _ _ _⟩
  | midFrameLockLoss m => exact ⟨_, fun _ => rfl, rests_onMidFrame c m.hop m.blk m.part⟩
  | errorInjectGo m => exact ⟨_, fun _ => rfl, rests_onInject c m⟩
  | memoryReadUncorrectable r => exact ⟨_, fun _ => rfl, rests_onReadBy c r⟩
  | registerWrite r off v => exact ⟨_, fun _ => rfl, rests_onRegister c r off v⟩
  | svlMessageDiscard e => exact ⟨_, fun _ => rfl, rests_onSvlDiscard c e⟩
  | forceMessage d e x => exact ⟨_, fun _ => rfl, rests_forceMessage (of_decide_eq_false h) e x⟩
  | tickBoundary d meas =>
    exact ⟨_, fun _ => rfl, rests_onKvAlways (of_decide_eq_false h) (fun s => tickBoundaryKv (s.chip d.other) meas)⟩
  | epochendMessage d e n count bytes crc =>
    exact ⟨_, fun _ => rfl, rests_onKv c d (fun s k =>
      (epochendMessageKv e n.toNat count.toNat bytes.toNat crc.toNat k).mirrorLedger (s.chip d.other))⟩
  | refclkLoss | regionDifference | powerOnReset | resetRelease =>
    exact ⟨_, fun _ => rfl, rests_onKvAlways (of_decide_eq_false h) (fun _ => _)⟩
  | _ => exact ⟨_, fun _ => rfl, rests_onKv c _ (fun _ => _)⟩

/-- Settles O8: the way in which each command reaches its part leaves a chip in reset alone. -/
theorem aChipInResetTakesNoCommand : Obligations.A_chip_in_reset_takes_no_command := by
  intro i s t c hr ht hReset hTime hForce
  have h : Instr.reachesInReset c i = false := by
    unfold Instr.reachesInReset
    split
    · exact decide_eq_false fun e => (hReset false false).1 (e ▸ rfl)
    · next x y => exact decide_eq_false fun e => (hReset x y).2 (e ▸ rfl)
    · next m => exact decide_eq_false fun e => (hTime m 0).1 (e ▸ rfl)
    · exact decide_eq_false fun e => (hTime none 0).2.1 (e ▸ rfl)
    · next v => exact decide_eq_false fun e => (hTime none v).2.2 (e ▸ rfl)
    · next e x => exact decide_eq_false fun h => hForce e x (h ▸ rfl)
    · rfl
  obtain ⟨F, hF, rests⟩ := exec_rests i h
  obtain rfl : F s = t := by simpa [hF] using ht
  exact rests s hr

end Sys2Proof.Machine
end

section
/-! Frames that arrive at a string port of a chip (R47, R88, R113, R138 to R141, R349). -/

namespace Sys2Proof.Machine

/-! ### What the receiving side leaves alone -/

/-- An observation that no step of a list changes is as it was after all of them. -/
theorem Kv.each_keeps {α : Type} (p : Kv → α) {f : Kv → Nat → Kv} (h : ∀ s n, p (f s n) = p s) (s : Kv) (l : List Nat) :
    p (s.each l f) = p s := by
  unfold Kv.each
  induction l generalizing s with
  | nil => rfl
  | cons n l ih => exact (ih (f s n)).trans (h s n)

/-- So it is where a step is taken only under a condition. -/
theorem Kv.when_keeps {α : Type} (p : Kv → α) {f : Kv → Kv} (s : Kv) (h : p (f s) = p s) (b : Bool) : p (s.when b f) = p s := by
  cases b
  · rfl
  · exact h

@[simp] theorem Kv.count_col (s : Kv) (F G : Fld) (src i j : Nat) : (s.count F G src i j).col = s.col :=
  (untouched_of Kv.col (fun _ _ _ _ _ _ => rfl) (fun _ _ _ => rfl) (fun _ _ => rfl) (fun _ _ _ => rfl) (fun _ _ => rfl) (fun _ _ => rfl)
    (fun _ _ => rfl) (fun _ _ => rfl) (fun _ _ => rfl) (fun _ => rfl) (fun _ _ => rfl) (fun _ => rfl) (fun _ => rfl)).count s F G src i j
    (fun _ _ => rfl) (fun _ => rfl)

theorem Kv.wrBe_col (s : Kv) (a v n : Nat) : (s.wrBe a v n).col = s.col := by
  induction n generalizing s a with
  | zero => rfl
  | succ n ih => exact ih _ _

theorem Kv.logUnc_col (s : Kv) (a : Nat) : (s.logUnc a).col = s.col := by
  unfold Kv.logUnc
  split
  · exact Kv.when_keeps Kv.col s rfl _
  · rfl

theorem Kv.storeWord_col (s : Kv) (w n : Nat) {f : Kv → Kv} (h : (f s).col = s.col) : (s.storeWord w n f).col = s.col := by
  unfold Kv.storeWord
  split
  · exact (Kv.raise_col _ _ _ _).trans (s.logUnc_col w)
  · exact h

theorem Kv.storeBe_col (s : Kv) (a v n : Nat) : (s.storeBe a v n).col = s.col := by
  unfold Kv.storeBe
  induction wordPieces a n generalizing s with
  | nil => rfl
  | cons p l ih => exact (ih _).trans (s.storeWord_col _ _ (s.wrBe_col _ _ _))

/-! ### The mark of the tick closed last -/

/-- What a bank held is kept beside it, and nothing else changes (R440). -/
theorem bankKeep_col (s : Kv) (a n : Nat) : ∃ p, s.bankKeep a n = { s with col := { s.col with past := p } } := by
  unfold Kv.bankKeep
  generalize s.rdBe _ _ = t
  generalize s.bankSlot a n = u
  by_cases h : t = n % 2 ^ 32
  · exact ⟨s.col.past, if_pos h⟩
  · exact ⟨_, if_neg h⟩

theorem bankMissing_closed (s : Kv) (a n : Nat) : (s.bankMissing a n).col.closed = s.col.closed := by
  obtain ⟨p, hp⟩ := bankKeep_col s a n
  rw [Kv.bankMissing, Kv.storeBe_col, hp]

theorem reportMissing_closed (s : Kv) (a n : Nat) : (s.reportMissing a n).col.closed = s.col.closed := by
  unfold Kv.reportMissing
  split
  · rfl
  · exact bankMissing_closed s a n

theorem closeReport_closed (s : Kv) (n a : Nat) : (s.closeReport n a).col.closed = s.col.closed := by
  unfold Kv.closeReport
  exact (Kv.when_keeps (·.col.closed) _ (reportMissing_closed _ a n) _).trans
    (Kv.when_keeps (·.col.closed) s (congrArg Collect.closed (s.count_col _ _ _ _ _)) _)

/-- At the report-arrival point a tick that is not closed and does not lie ahead counts as closed (R128). -/
theorem reportArrivalPointKv_closed {k : Kv} (e : BitVec 48) (hc : k.closedFor e.toNat = false) (ha : tickAhead k.tick e.toNat = false) :
    (reportArrivalPointKv e.toNat k).col.closed = e.toNat + 1 := by
  have kept : ∀ s : Kv, (s.each s.strings (fun s q => s.each ((s.positions q).map (fun p => q * 256 + p))
      (fun s a => s.closeReport e.toNat a))).col.closed = s.col.closed := fun s =>
    Kv.each_keeps (·.col.closed) (fun s q => Kv.each_keeps (·.col.closed) (fun s a => closeReport_closed s _ a) s _) s _
  have hd : tickDone k.col.closed e.toNat = false := hc
  unfold reportArrivalPointKv
  simp only [hc, ha, Bool.or_self, Bool.false_eq_true, if_false, kept, tickMark, hd]
  rw [Nat.mod_eq_of_lt e.isLt]

/-! ### A frame ends -/

/-- A port that goes into TEST loses no lock, fails no start, and counts no bit error (R71). -/
theorem hopTest_quiet (F : HopFlds) (c : HopCfg) (i : Nat) (served : Bool) (h : Hop) (r : Tab Nat) :
    (hopTest F c i served { h := h, r := r }).lost = false ∧ (hopTest F c i served { h := h, r := r }).blindFail = false ∧
      (hopTest F c i served { h := h, r := r }).errs = 0 := by
  unfold hopTest
  split <;> exact ⟨rfl, rfl, rfl⟩

/-- It writes its state and the synchronisation of its checker, and no other register field. -/
theorem hopTest_get (F : HopFlds) (c : HopCfg) (i : Nat) (served : Bool) (s : HopSt) {G : Fld} {p : Nat}
    (hl : G.key p 0 ≠ F.lstate.key i 0) (hs : G.key p 0 ≠ F.csync.key i 0) :
    G.get p 0 (hopTest F c i served s).r = G.get p 0 s.r := by
  unfold hopTest
  split
  · exact (Fld.get_set_ne _ _ hs).trans (Fld.get_set_ne _ _ hl)
  · rfl

/-- Where string port `n` goes into TEST: what the state machine of the hop comes to, and nothing else (R71). -/
theorem spTest_eq (s : Kv) (n : Nat) :
    let r := hopTest spFlds (s.spCfg n) n (s.portServes n) { h := (s.spP n).hop, r := s.regs }
    s.spTest n = ({ s with regs := r.r, out := s.out ++ lineOuts n r } : Kv).onSp n (fun p => { p with hop := r.h }) := by
  intro r
  obtain ⟨lost, blind, errs⟩ := hopTest_quiet spFlds (s.spCfg n) n (s.portServes n) (s.spP n).hop s.regs
  simp only [Kv.spTest, Kv.spStep, lost, blind, errs, Kv.when_false, List.range_zero, Kv.each, List.foldl_nil, Bool.false_eq_true,
    if_false]
  rfl

@[simp] theorem Kv.onSp_spP (s : Kv) (n : Nat) (f : SpPort → SpPort) : (s.onSp n f).spP n = f (s.spP n) := Tab.get_upd_same ..

theorem spTest_frame (s : Kv) (n : Nat) : ((s.spTest n).spP n).frame = (s.spP n).frame := by
  rw [spTest_eq, Kv.onSp_spP]
  rfl

theorem spTest_roleB (s : Kv) (n : Nat) : (s.spTest n).roleB = s.roleB := by
  have state : Kv.SYS_STAT.ROLEB.key 0 0 ≠ Kv.SPn_STAT.LSTATE.key n 0 := by
    simp only [Fld.key, Fld.addr, Kv.SYS_STAT.ROLEB, Kv.SPn_STAT.LSTATE]
    omega
  have sync : Kv.SYS_STAT.ROLEB.key 0 0 ≠ Kv.SPn_PCTL.CSYNC.key n 0 := by
    simp only [Fld.key, Fld.addr, Kv.SYS_STAT.ROLEB, Kv.SPn_PCTL.CSYNC]
    omega
  rw [spTest_eq, Kv.roleB, Kv.on]
  exact congrArg (· == 1) (hopTest_get spFlds _ n _ _ state sync)

theorem rxEnd_frame (s : Kv) (n : Nat) : ((s.rxEnd n).spP n).frame = none := by
  unfold Kv.rxEnd
  exact (Kv.when_keeps (fun k => (k.spP n).frame) _ (spTest_frame _ n) _).trans (by simp)

theorem rxEnd_fromOther (s : Kv) (n : Nat) (h : Header) : (s.rxEnd n).fromOther h = s.fromOther h := by
  unfold Kv.rxEnd
  exact Kv.when_keeps (·.fromOther h) _ (congrArg (fun b => h.origin.toNat == if b then 0 else 1) (spTest_roleB _ n)) _

/-- A trailer ends the frame in reception; a valid one shows NLIVE, and one of the other chip that the string lives (R138, R578). -/
theorem stringPortTrailerReceivedKv_ends {k : Kv} {i : Nat} {h : Header} (t : Trailer) (hf : (k.spP i).frame = some h) :
    let y := stringPortTrailerReceivedKv i t k
    (y.spP i).frame = none ∧ (t.valid i h.tickno.toNat = true →
      y.rd Kv.SPn_GEOM.NLIVE i = t.nlive.toNat ∧ (k.fromOther h = true → (y.spP i).liveSeen = true)) := by
  have hn : t.nlive.toNat % 2 ^ Kv.SPn_GEOM.NLIVE.w = t.nlive.toNat := Nat.mod_eq_of_lt t.nlive.isLt
  have other : ((k.rxEnd i).wr Kv.SPn_GEOM.NLIVE t.nlive.toNat i).fromOther h = k.fromOther h := by
    refine Eq.trans ?_ (rxEnd_fromOther k i h)
    unfold Kv.fromOther Kv.roleB
    rw [Kv.on_wr_ne _ _ (by simp only [Fld.key, Fld.addr, Kv.SYS_STAT.ROLEB, Kv.SPn_GEOM.NLIVE]; omega)]
  simp only [stringPortTrailerReceivedKv, hf]
  cases t.valid i h.tickno.toNat with
  | false => exact ⟨rxEnd_frame k i, fun e => absurd e (by simp)⟩
  | true =>
    refine ⟨?_, fun _ => ⟨?_, fun ho => ?_⟩⟩
    · refine (Kv.when_keeps (fun k => (k.spP i).frame) (f := fun s => s.onSp i (fun p => { p with liveSeen := true })) _ ?_ _).trans
        (rxEnd_frame k i)
      rw [Kv.onSp_spP]
    · exact (Kv.when_keeps (·.rd Kv.SPn_GEOM.NLIVE i) (f := fun s => s.onSp i (fun p => { p with liveSeen := true })) _ rfl _).trans
        ((Kv.rd_wr_same _ _ _ _ _).trans hn)
    · simp only [if_true, other, ho, Kv.when_true, Kv.onSp_spP]

/-! ### A header arrives -/

section
variable {k : Kv} {i : Nat} {h : Header} (arr lat : Nat)

/-- At a port out of service a header ends the frame in reception (R88). -/
theorem stringPortHeaderReceivedKv_idle (hj : k.spJoins i = false) :
    stringPortHeaderReceivedKv i h arr lat k = (k.onSp i (fun p => { p with hop := p.hop.unknownRx })).rxEnd i := by
  have out : (k.onSp i (fun p => { p with hop := p.hop.unknownRx })).spJoins i = false := hj
  simp only [stringPortHeaderReceivedKv, out, Bool.not_false, if_true]

/-- A header failing its checks is kept for no use; the tick goes on (R105). -/
theorem stringPortHeaderReceivedKv_failed (hj : k.spJoins i = true) (hv : h.valid i = false) :
    stringPortHeaderReceivedKv i h arr lat k = (k.onSp i (fun p => { p with hop := p.hop.unknownRx })).onSp i (fun p => { p with
      frame := none, rxTick := some (match p.rxTick with | some t => tickPlus t 1 | none => k.tick), came := true
      misnumbered := p.misnumbered || (h.str.toNat != i && h.valid h.str.toNat) }) := by
  have joins : (k.onSp i (fun p => { p with hop := p.hop.unknownRx })).spJoins i = true := hj
  simp only [stringPortHeaderReceivedKv, joins, hv, Bool.not_true, Bool.not_false, Bool.false_eq_true, if_false, if_true]
  rfl

/-- A string port after a valid header, measured against what this end has sent (R44). -/
def Kv.headed (k : Kv) (i : Nat) (h : Header) (arr : Nat) : Kv :=
  ((k.onSp i (fun p => { p with hop := p.hop.unknownRx })).onSp i (fun p => { p with
    frame := some h, rxTick := some h.tickno.toNat, came := true, recv := some arr, farSeen := true
    quietRun := if h.mode.toNat == 1 || h.duty then 0 else p.quietRun })).measureHop i h

/-- A valid header is taken: of a fold frame, of the other chip with its path delay and asymmetry, or of this one (R44, R47, R139). -/
theorem stringPortHeaderReceivedKv_valid (hj : k.spJoins i = true) (hv : h.valid i = true) :
    let y := k.headed i h arr
    let d := min (2 ^ 20 - 1) (h.pd.toNat + lat)
    stringPortHeaderReceivedKv i h arr lat k =
      if h.isFold then y.foldArrives i h
      else if y.fromOther h then ((y.wr Kv.SPn_PDLY.P d i).onSp i (fun q => { q with pMax := max q.pMax d })).measureAsym i h arr d
      else y := by
  have joins : (k.onSp i (fun p => { p with hop := p.hop.unknownRx })).spJoins i = true := hj
  simp only [stringPortHeaderReceivedKv, joins, hv, Bool.not_true, Bool.false_eq_true, if_false]
  rfl

theorem foldFrameArrivalKv_taken (hj : k.spJoins i = true) (hv : h.valid i = true) (hf : h.isFold = true) :
    foldFrameArrivalKv i h k = (k.onSp i (fun p => { p with
      frame := some h, rxTick := some h.tickno.toNat, came := true, hop := p.hop.unknownRx })).foldArrives i h := by
  simp only [foldFrameArrivalKv, hj, hv, hf, Bool.and_self, if_true]

end

/-! ### A report slot arrives -/

/-- Slot `k` of a section of `N` slots, for a tick that is not closed: it is entered, and the last one ends the section (R25, R221). -/
theorem reportSlotFor_open {s : Kv} {n k t : Nat} (fold : Bool) (f : Kv → Kv) (h : s.closedFor t = false) :
    s.reportSlotFor n k t fold f = if k + 1 = (s.positions n).length then (f s).reportsEnd n t fold else f s := by
  simp [Kv.reportSlotFor, h, Kv.when]

/-- The slot under a header that failed is counted as bad alone (R140). -/
theorem reportSlotAcceptKv_headless {s : Kv} {n k : Nat} (r : RepSlot) (hl : s.spLive n = true) (hk : k < (s.positions n).length)
    (hf : (s.spP n).frame = none) {t : Nat} (ht : (s.spP n).rxTick.getD s.tick = t) (hc : s.closedFor t = false) :
    let N := (s.positions n).length
    let b := n * 256 + (if s.roleB then k else N - 1 - k)
    let y := (s.setGot b t (s.gotOf b t ||| 4)).count Kv.SPn_SERR.BAD Kv.SPn_SERR.SAT Src.SYS_SAT n
    reportSlotAcceptKv n k r s = if k + 1 = N then y.reportsEnd n t false else y := by
  simp only [reportSlotAcceptKv, hl, Nat.not_le.mpr hk, hf, ht, Bool.not_true, decide_false, Bool.or_self, Bool.false_eq_true, if_false]
  exact reportSlotFor_open _ _ hc

/-- A slot of a frame with its header, for a tick that is not closed: noted, and taken by its check and its sequence (R113, R124). -/
theorem reportSlotAcceptKv_framed {s : Kv} {n k : Nat} (r : RepSlot) {h : Header} (hl : s.spLive n = true)
    (hk : k < (s.positions n).length) (hf : (s.spP n).frame = some h) (hc : s.closedFor h.tickno.toNat = false) :
    let N := (s.positions n).length
    let t := h.tickno.toNat
    let a := n * 256 + h.reportPos N k
    let y := s.setGot a t (s.gotOf a t ||| 4)
    let z := if h.isFold then y.castleSend 0x04 [a, r.toNat] else y
    let taken := if !repCrcOk r a t || rSeq r.toNat != t % 256 then y.count Kv.SPn_SERR.BAD Kv.SPn_SERR.SAT Src.SYS_SAT n
      else if z.gotOf a t % 2 = 1 then z else z.enterReport a t r.toNat false
    reportSlotAcceptKv n k r s = if k + 1 = N then taken.reportsEnd n t h.isFold else taken := by
  simp only [reportSlotAcceptKv, hl, Nat.not_le.mpr hk, hf, Bool.not_true, decide_false, Bool.or_self, Bool.false_eq_true, if_false]
  exact reportSlotFor_open _ _ hc

/-- One held report goes into its bank once T0 has let go of it (R349). -/
theorem reportStagingWriteKv_one {s : Kv} {w : Held} (hw : s.col.held = [w]) (hb : s.bankHeld w.tick = false) (hv : w.valid = true) :
    reportStagingWriteKv s =
      ({ s with col := { s.col with held := [] } } : Kv).bankPut w.addr w.tick w.slot.toNat w.relay := by
  simp [reportStagingWriteKv, hw, hb, hv]

/-- A slot for a tick that is closed is missing (R113). -/
theorem reportSlotAcceptKv_late {s : Kv} {n k : Nat} (r : RepSlot) {h : Header} (hl : s.spLive n = true)
    (hk : k < (s.positions n).length) (hf : (s.spP n).frame = some h) (hc : s.closedFor h.tickno.toNat = true) :
    reportSlotAcceptKv n k r s = s := by
  simp [reportSlotAcceptKv, hl, Nat.not_le.mpr hk, hf, Kv.reportSlotFor, hc]

/-- Settles O19: each command at a string port by its own equation. -/
theorem framesArrivingAtAChip : Obligations.Frames_arriving_at_a_chip := by
  intro s c n h arr lat k r t e w hlive x i places f cell gone
  refine ⟨fun hj => ?idle, fun hj hv => ?failed, fun hj hv => ?valid, fun hj hv hfold => ?fold, ?_⟩
  case idle => exact exec_live hlive rfl (stringPortHeaderReceivedKv_idle arr lat hj)
  case failed => exact exec_live hlive rfl (stringPortHeaderReceivedKv_failed arr lat hj hv)
  case valid => exact exec_live hlive rfl (stringPortHeaderReceivedKv_valid arr lat hj hv)
  case fold => exact exec_live hlive rfl (foldFrameArrivalKv_taken hj hv hfold)
  intro sect
  refine ⟨fun hl hk hf hc => ?late, fun hl hk hf => ?headless, fun hl hk hf hc => ?framed, fun hw hb hv => ?staged, fun hc ha => ?arrived,
    fun hf => ?trailer⟩
  case late => exact exec_live hlive rfl (reportSlotAcceptKv_late r hl hk hf hc)
  case headless =>
    intro t b hc
    have ht : (x.spP i).rxTick.getD x.tick = t := by
      cases ht : (x.spP i).rxTick <;> simp [t, ht]
    exact exec_live hlive rfl (reportSlotAcceptKv_headless r hl hk hf ht hc)
  case framed =>
    have slot := reportSlotAcceptKv_framed r hl hk hf hc
    refine ⟨fun hcrc hseq => exec_live hlive rfl (slot.trans (congrArg (sect f h.isFold) (if_neg ?_))),
      fun hbad => exec_live hlive rfl (slot.trans (congrArg (sect f h.isFold) (if_pos ?_)))⟩
    · simp only [Bool.or_eq_true, Bool.not_eq_true', bne_iff_ne, not_or, Bool.not_eq_false, not_not]
      exact ⟨hcrc, hseq⟩
    · simpa only [Bool.or_eq_true, Bool.not_eq_true', bne_iff_ne] using hbad
  case staged => exact exec_live hlive rfl (reportStagingWriteKv_one hw hb hv)
  case arrived => exact ⟨_, exec_live hlive rfl rfl, reportArrivalPointKv_closed e hc ha⟩
  case trailer =>
    have ends := stringPortTrailerReceivedKv_ends t hf
    exact ⟨_, exec_live hlive rfl rfl, ends⟩

end Sys2Proof.Machine
end

section
/-! The castle token at the KF-120 (R22, R371, R372, R374, R536): what each case of the rules leaves in the token registers. -/

namespace Sys2Proof.Machine

/-! ### One bit set -/

/-- A bit that is off comes on by adding its weight, and no other bit changes. -/
theorem testBit_add_two_pow_of_off {v i : Nat} (h : v.testBit i = false) (j : Nat) :
    (v + 2 ^ i).testBit j = (decide (j = i) || v.testBit j) := by
  rw [Nat.add_comm]
  rcases Nat.lt_trichotomy j i with hj | rfl | hj
  · rw [Nat.testBit_two_pow_add_gt hj]
    simp [hj.ne]
  · simp [Nat.testBit_two_pow_add_eq, h]
  · have hb : v / 2 ^ i % 2 = 0 := by
      have := Nat.testBit_eq_decide_div_mod_eq (x := v) (i := i)
      simp only [h] at this
      have := of_decide_eq_false this.symm
      omega
    have hd : (2 ^ i + v) / 2 ^ (i + 1) = v / 2 ^ (i + 1) := by
      rw [Nat.pow_succ, ← Nat.div_div_eq_div_mul, ← Nat.div_div_eq_div_mul, Nat.add_div_left _ (Nat.two_pow_pos i)]
      omega
    obtain ⟨m, rfl⟩ : ∃ m, j = m + (i + 1) := ⟨j - (i + 1), by omega⟩
    rw [Nat.testBit_add, Nat.testBit_add, hd]
    rw [decide_eq_false (by omega), Bool.false_or]

/-- Setting a bit leaves the others as they are. -/
theorem bit_setBit_true (v i j : Nat) : bit (setBit v i true) j = (decide (j = i) || bit v j) := by
  have one : bits v i 1 = (v.testBit i).toNat := by
    rw [Nat.testBit_eq_decide_div_mod_eq, bits]
    rcases Nat.mod_two_eq_zero_or_one (v / 2 ^ i) with h | h <;> simp [h]
  unfold bit setBit putBits
  cases h : v.testBit i with
  | false =>
    rw [one, h]
    simpa [b2n] using testBit_add_two_pow_of_off h j
  | true =>
    have le : 2 ^ i ≤ v := Nat.ge_two_pow_of_testBit h
    have same : v - bits v i 1 * 2 ^ i + b2n true % 2 ^ 1 * 2 ^ i = v := by
      rw [one, h]
      simpa [b2n] using Nat.sub_add_cancel le
    rw [same]
    by_cases hj : j = i
    · subst hj
      simp [h]
    · simp [hj]

/-! ### What an answer leaves alone -/

/-- The registers in which the token stands. -/
def tokenFlds : List Fld :=
  [Kf.TOK_STAT.HELD, Kf.TOK_STAT.HOLDER, Kf.TOK_STAT.CSEQ, Kf.TOK_STAT.HBA, Kf.TOK_STAT.HBB]

/-- Those that a heartbeat, a grant or an answer writes beside them. -/
def tokenSideFlds : List Fld :=
  [Kf.SVL_SRC.SRC, Kf.TOK_CNT.GRANTS, Kf.TOK_CNT.SAT, Kf.TRP_STAT.LAT, Kf.TRP_STAT.ACT, Kf.TRP_STAT.LVL, Kf.TOK_STAT.XPEND, Kf.TOK_XT.CTICK]

theorem token_key_ne : ∀ F ∈ tokenFlds, ∀ G ∈ tokenSideFlds, F.key 0 0 ≠ G.key 0 0 := by decide

/-- `t` has the token, its transfer and the silence timer as `s` has them, and every source that `s` shows. -/
structure Kf.SameToken (t s : Kf) : Prop where
  regs : ∀ F ∈ tokenFlds, t.rd F = s.rd F
  xfer : t.xfer = s.xfer
  timer : t.timer = s.timer
  shown : ∀ i, bit (s.rd Kf.SVL_SRC.SRC) i = true → bit (t.rd Kf.SVL_SRC.SRC) i = true

namespace Kf.SameToken

theorem refl (s : Kf) : SameToken s s := ⟨fun _ _ => rfl, rfl, rfl, fun _ h => h⟩

theorem trans {r s t : Kf} (a : SameToken t s) (b : SameToken s r) : SameToken t r :=
  ⟨fun F h => (a.regs F h).trans (b.regs F h), a.xfer.trans b.xfer, a.timer.trans b.timer, fun i h => a.shown i (b.shown i h)⟩

theorem held {t s : Kf} (a : SameToken t s) : t.held = s.held :=
  congrArg (· == 1) (a.regs Kf.TOK_STAT.HELD (by simp [tokenFlds]))

theorem isHolder {t s : Kf} (a : SameToken t s) (b : Bool) : t.isHolder b = s.isHolder b := by
  have holder : t.holderB = s.holderB := congrArg (· == 1) (a.regs Kf.TOK_STAT.HOLDER (by simp [tokenFlds]))
  rw [Kf.isHolder, Kf.isHolder, a.held, holder]

theorem cseq {t s : Kf} (a : SameToken t s) : t.rd Kf.TOK_STAT.CSEQ = s.rd Kf.TOK_STAT.CSEQ := a.regs _ (by simp [tokenFlds])

/-- A register beside the token's and other than the sources' is written. -/
theorem wr (s : Kf) {G : Fld} (v : Nat) (h : G ∈ tokenSideFlds) (hs : Kf.SVL_SRC.SRC.key 0 0 ≠ G.key 0 0) : SameToken (s.wr G v) s :=
  ⟨fun F hF => s.rd_wr_ne v (token_key_ne F hF G h), rfl, rfl, fun i hi => by rwa [s.rd_wr_ne v hs]⟩

/-- A source is raised; it shows from then on (R537). -/
theorem raise (s : Kf) (i : Nat) : SameToken (s.raise i) s where
  regs F hF := s.rd_wr_ne _ (token_key_ne F hF _ (by simp [tokenSideFlds]))
  xfer := rfl
  timer := rfl
  shown j hj := by
    have lt : j < 16 := by
      by_contra hn
      have h16 : s.rd Kf.SVL_SRC.SRC < 2 ^ j := (s.rd_lt Kf.SVL_SRC.SRC 0).trans_le (Nat.pow_le_pow_right (by decide) (by
        simp only [Kf.SVL_SRC.SRC]
        omega))
      rw [bit, Nat.testBit_lt_two_pow h16] at hj
      exact absurd hj (by decide)
    rw [Kf.raise, Kf.rd_wr_same, bit, Nat.testBit_mod_two_pow]
    have on : (setBit (s.rd Kf.SVL_SRC.SRC) i true).testBit j = true := by
      rw [show Nat.testBit _ j = _ from bit_setBit_true .., hj, Bool.or_true]
    rw [on, Bool.and_true]
    exact decide_eq_true lt

theorem when {s : Kf} {f : Kf → Kf} (h : SameToken (f s) s) (b : Bool) : SameToken (s.when b f) s := by
  cases b
  · exact refl s
  · exact h

theorem countGrant (s : Kf) : SameToken s.countGrant s := by
  have cnt : SameToken (s.count Kf.TOK_CNT.GRANTS Kf.TOK_CNT.SAT 6) s := by
    unfold Kf.count
    dsimp only
    split
    · exact refl s
    · exact ((when ((raise _ _).trans (wr _ _ (by simp [tokenSideFlds]) (by decide))) _).trans
        (wr _ _ (by simp [tokenSideFlds]) (by decide)))
  exact (raise _ _).trans cnt

theorem tripEval (s : Kf) (cmd : Bool) : SameToken (s.tripEval cmd) s := by
  unfold Kf.tripEval
  exact (wr _ _ (by simp [tokenSideFlds]) (by decide)).trans ((wr _ _ (by simp [tokenSideFlds]) (by decide)).trans
    ((wr _ _ (by simp [tokenSideFlds]) (by decide)).trans (when (raise _ _) _)))

theorem reply (s : Kf) (b : Bool) (type : Nat) (p : List Nat) : SameToken (s.reply b type p) s :=
  ⟨fun _ _ => rfl, rfl, rfl, fun _ h => h⟩

theorem confirm (s : Kf) (b : Bool) (n : Nat) : SameToken (s.confirm b n) s := by
  unfold Kf.confirm
  dsimp only
  generalize (s.isHolder b && _) = go
  cases go with
  | false => exact refl s
  | true => exact ⟨fun _ _ => rfl, rfl, rfl, fun _ h => h⟩

/-- The answer to a heartbeat: CONF, STAT, and the trips as they stand. -/
theorem answer (s : Kf) (b : Bool) (n : Nat) : SameToken (((s.confirm b n).stat b).tripEval false) s :=
  (tripEval _ _).trans ((reply _ _ _ _).trans (confirm _ _ _))

end Kf.SameToken

/-! ### The token moves -/

theorem setHolder_rd (s : Kf) (b : Bool) (q : Nat) (F : Fld) : (s.setHolder b q).rd F =
    (((((s.wr Kf.TOK_STAT.HELD 1).wr Kf.TOK_STAT.HOLDER (b2n b)).wr Kf.TOK_STAT.CSEQ q).wr Kf.TOK_STAT.XPEND 0).wr
      Kf.TOK_XT.CTICK 0).rd F := rfl

theorem setHolder_cseq (s : Kf) (b : Bool) (q : Nat) : (s.setHolder b q).rd Kf.TOK_STAT.CSEQ = q % 2 ^ 16 := by
  simp (disch := decide) only [setHolder_rd, Kf.rd_wr_ne, Kf.rd_wr_same]
  rfl

theorem setHolder_source (s : Kf) (b : Bool) (q : Nat) : (s.setHolder b q).rd Kf.SVL_SRC.SRC = s.rd Kf.SVL_SRC.SRC := by
  simp (disch := decide) only [setHolder_rd, Kf.rd_wr_ne]

theorem setHolder_isHolder (s : Kf) (b : Bool) (q : Nat) : (s.setHolder b q).isHolder b = true := by
  simp (disch := decide) only [Kf.isHolder, Kf.held, Kf.holderB, Kf.on, setHolder_rd, Kf.rd_wr_ne, Kf.rd_wr_same]
  cases b <;> rfl

/-- `t` has the token at chip `b`, under sequence `q`; the silence timer runs from the first grant on (R525); and every source that `s`
shows still shows. -/
structure Kf.Moved (t s : Kf) (b : Bool) (q : Nat) : Prop where
  isHolder : t.isHolder b = true
  cseq : t.rd Kf.TOK_STAT.CSEQ = q
  timer : t.timer = (s.timer || !s.held)
  shown : ∀ i, bit (s.rd Kf.SVL_SRC.SRC) i = true → bit (t.rd Kf.SVL_SRC.SRC) i = true

/-- What leaves the token alone before and after a move does not change what it comes to. -/
theorem Kf.Moved.congr {s s' t t' : Kf} {b : Bool} {q : Nat} (m : Kf.Moved t s b q) (after : Kf.SameToken t' t)
    (before : Kf.SameToken s s') : Kf.Moved t' s' b q where
  isHolder := (after.isHolder b).trans m.isHolder
  cseq := after.cseq.trans m.cseq
  timer := after.timer.trans (by rw [m.timer, before.timer, before.held])
  shown i h := after.shown i (m.shown i (before.shown i h))

theorem setHolder_moved (s : Kf) (b : Bool) {q : Nat} (hq : q < 2 ^ 16) : Kf.Moved (s.setHolder b q) s b q :=
  ⟨setHolder_isHolder s b q, (setHolder_cseq s b q).trans (Nat.mod_eq_of_lt hq), rfl, fun i h => by rwa [setHolder_source]⟩

/-- A grant at once under a sequence, counted and announced (R374). -/
theorem grantUnder_moved (s : Kf) (b : Bool) {q : Nat} (hq : q < 2 ^ 16) :
    Kf.Moved ((s.countGrant.setHolder b q).sendGrant b q 0 false) s b q :=
  (setHolder_moved _ b hq).congr (.reply _ _ _ _) (.countGrant s)

/-- With no grant pending, a grant at once goes under the next sequence. -/
theorem grantNow_moved {s : Kf} (b : Bool) (hx : s.xfer = none) :
    Kf.Moved (s.grantNow b) s b ((s.rd Kf.TOK_STAT.CSEQ + 1) % 2 ^ 16) := by
  unfold Kf.grantNow
  simp only [hx]
  exact grantUnder_moved s b (Nat.mod_lt _ (by decide))

/-! ### A heartbeat, and the cases of R372 -/

/-- The heartbeat `x` of chip `b` stands in the KF-120 (R536). -/
def Kf.beat (s : Kf) (b : Bool) (x : Hb) : Kf :=
  if b then { s.wr Kf.TOK_STAT.HBB 1 with hbB := some x, osc := false } else { s.wr Kf.TOK_STAT.HBA 1 with hbA := some x, osc := false }

section
variable (s : Kf) (b : Bool) (x : Hb)

@[simp] theorem Kf.beat_xfer : (s.beat b x).xfer = s.xfer := by cases b <;> rfl
@[simp] theorem Kf.beat_timer : (s.beat b x).timer = s.timer := by cases b <;> rfl
@[simp] theorem Kf.beat_lapsed : (s.beat b x).lapsed = s.lapsed := by cases b <;> rfl
@[simp] theorem Kf.beat_refused : (s.beat b x).refused = s.refused := by cases b <;> rfl
@[simp] theorem Kf.beat_readyB : (s.beat b x).readyB = s.readyB := by cases b <;> rfl

theorem Kf.beat_rd {F : Fld} (hA : F.key 0 0 ≠ Kf.TOK_STAT.HBA.key 0 0) (hB : F.key 0 0 ≠ Kf.TOK_STAT.HBB.key 0 0) :
    (s.beat b x).rd F = s.rd F := by
  cases b
  · exact s.rd_wr_ne 1 hA
  · exact s.rd_wr_ne 1 hB

@[simp] theorem Kf.beat_cseq : (s.beat b x).rd Kf.TOK_STAT.CSEQ = s.rd Kf.TOK_STAT.CSEQ := s.beat_rd b x (by decide) (by decide)

@[simp] theorem Kf.beat_held : (s.beat b x).held = s.held := congrArg (· == 1) (s.beat_rd b x (by decide) (by decide))

@[simp] theorem Kf.beat_isHolder (d : Bool) : (s.beat b x).isHolder d = s.isHolder d := by
  have holder : (s.beat b x).holderB = s.holderB := congrArg (· == 1) (s.beat_rd b x (by decide) (by decide))
  rw [Kf.isHolder, Kf.isHolder, s.beat_held b x, holder]

/-- It is the chip's last heartbeat. -/
@[simp] theorem Kf.beat_freshHb : (s.beat b x).freshHb b = some x := by
  cases b <;> simp only [Kf.beat, Kf.freshHb, Kf.on, Bool.false_eq_true, if_true, if_false] <;>
    exact if_pos (congrArg (· == 1) (Kf.rd_wr_same s _ 1 0))

/-- That of the other chip stays. -/
@[simp] theorem Kf.beat_freshHb_other : (s.beat b x).freshHb (!b) = s.freshHb (!b) := by
  have a : (s.wr Kf.TOK_STAT.HBB 1).on Kf.TOK_STAT.HBA = s.on Kf.TOK_STAT.HBA := s.on_wr_ne 1 (by decide)
  have c : (s.wr Kf.TOK_STAT.HBA 1).on Kf.TOK_STAT.HBB = s.on Kf.TOK_STAT.HBB := s.on_wr_ne 1 (by decide)
  cases b
  · exact congrArg (fun p => if p = true then s.hbB else none) c
  · exact congrArg (fun p => if p = true then s.hbA else none) a

end

theorem Kf.beat_moved {s t : Kf} {b d : Bool} {x : Hb} {q : Nat} (m : Kf.Moved t (s.beat b x) d q) :
    Kf.Moved t s d q where
  isHolder := m.isHolder
  cseq := m.cseq
  timer := by rw [m.timer, s.beat_timer, s.beat_held]
  shown i h := m.shown i (by rwa [s.beat_rd b x (by decide) (by decide)])

section
variable {s : Kf} {b : Bool} {x : Hb}

/-- Without a grant pending a heartbeat is taken, judged, and answered (R371, R372, R536). -/
theorem kfHeartbeatReceivedKf_idle (hr : s.inReset = false) (hx : s.xfer = none) :
    kfHeartbeatReceivedKf b x s =
      (((if s.held then ((s.beat b x).clearLapse (some b)).tokenCases (some b) else (s.beat b x).firstGrant b x).confirm b
        x.n.toNat).stat b).tripEval false := by
  have held := s.beat_held b x
  have idle := (s.beat_xfer b x).trans hx
  unfold kfHeartbeatReceivedKf
  rw [if_neg (by simp [hr]), ← Kf.beat]
  simp only [idle, held]

end

theorem held_and_holder {s : Kf} {h : Bool} (hh : s.isHolder h = true) : s.held = true ∧ s.holderB = h := by
  simpa [Kf.isHolder] using hh

section
variable {s : Kf} {h : Bool} (hh : s.isHolder h = true)
include hh

/-- The holder is silent and the other chip able: the token moves at once. -/
theorem tokenCases_silent {y : Hb} (hs : s.freshHb h = none) (ho : s.freshHb (!h) = some y) (ha : y.able = true) (trig : Option Bool) :
    s.tokenCases trig = s.grantNow (!h) := by
  obtain ⟨held, holder⟩ := held_and_holder hh
  simp [Kf.tokenCases, held, holder, hs, ho, ha]

variable {x : Hb} (hx : s.freshHb h = some x)
include hx

/-- The holder releases and the other chip is READY: the token moves at once. -/
theorem tokenCases_release {y : Hb} (hrel : x.release = true) (ho : s.freshHb (!h) = some y) (hready : y.ready = true) (b : Bool) :
    s.tokenCases (some b) = s.grantNow (!h) := by
  obtain ⟨held, holder⟩ := held_and_holder hh
  simp [Kf.tokenCases, held, holder, hx, hrel, ho, hready]

/-- The holder asks in time and the other chip is READY: the token is granted for CTICK. -/
theorem tokenCases_request {y : Hb} (hrel : x.release = false) (hreq : x.xreq = true) (hidle : s.xfer = none)
    (hl : s.lapsed ≠ some x.ctick.toNat) (ho : s.freshHb (!h) = some y) (hready : y.ready = true)
    (hd : 4 ≤ (x.ctick.toNat + 65536 - x.n.toNat) % 65536 ∧ (x.ctick.toNat + 65536 - x.n.toNat) % 65536 ≤ 32767) (b : Bool) :
    s.tokenCases (some b) = s.grantAt (!h) x.ctick.toNat := by
  obtain ⟨held, holder⟩ := held_and_holder hh
  simp [Kf.tokenCases, held, holder, hx, hrel, hreq, hidle, hl, ho, hready, hd]

/-- The holder asks for nothing: the token stays. -/
theorem tokenCases_quiet (hrel : x.release = false) (hreq : x.xreq = false) (b : Bool) : s.tokenCases (some b) = s := by
  obtain ⟨held, holder⟩ := held_and_holder hh
  simp [Kf.tokenCases, held, holder, hx, hrel, hreq]

end

theorem clearLapse_eq (s : Kf) (trig : Option Bool) : s.clearLapse trig = { s with lapsed := none } ∨ s.clearLapse trig = s := by
  cases trig with
  | none => exact .inr rfl
  | some b =>
    simp only [Kf.clearLapse]
    generalize (s.isHolder b && _) = done
    cases done
    · exact .inr rfl
    · exact .inl rfl

/-- A lapse stands while the holder asks for a transfer. -/
theorem clearLapse_asked {s : Kf} {b : Bool} {x : Hb} (hx : s.freshHb b = some x) (hreq : x.xreq = true) :
    s.clearLapse (some b) = s := by simp [Kf.clearLapse, hx, hreq]

theorem clearLapse_none {s : Kf} (hl : s.lapsed = none) (trig : Option Bool) : s.clearLapse trig = s := by
  have same : { s with lapsed := none } = s := by
    cases s
    cases hl
    rfl
  exact (clearLapse_eq s trig).elim (·.trans same) id

/-- A grant for CTICK leaves the token where it is, and is pending (R372). -/
theorem grantAt_pending (s : Kf) (b d : Bool) (c : Nat) :
    (s.grantAt b c).isHolder d = s.isHolder d ∧ (s.grantAt b c).xfer = some (b, c, (s.rd Kf.TOK_STAT.CSEQ + 1) % 2 ^ 16) := by
  have same : Kf.SameToken ((s.countGrant.wr Kf.TOK_STAT.XPEND 1).wr Kf.TOK_XT.CTICK c) s :=
    (Kf.SameToken.wr _ _ (by simp [tokenSideFlds]) (by decide)).trans
      ((Kf.SameToken.wr _ _ (by simp [tokenSideFlds]) (by decide)).trans (.countGrant s))
  exact ⟨same.isHolder d, rfl⟩

/-- No token was granted and none is claimed: A is granted where it is READY, unless a READY of B of an earlier period waits (R22). -/
theorem firstGrant_ready {s : Kf} {x : Hb} (hA : s.freshHb false = some x) (hc : x.claim = false) (hready : x.ready = true)
    (hB : ∀ y, s.freshHb true = some y → y.claim = false ∧ (s.readyB = true → later16 x.n.toNat y.n.toNat = false)) :
    s.firstGrant false x = s.grantNow false := by
  cases hy : s.freshHb true with
  | none => simp [Kf.firstGrant, hA, hy, hc, hready]
  | some y =>
    obtain ⟨claim, late⟩ := hB y hy
    cases hw : s.readyB with
    | false => simp [Kf.firstGrant, hA, hy, hc, hready, claim, hw]
    | true => simp [Kf.firstGrant, hA, hy, hc, hready, claim, hw, late hw]

/-- CONF to a holder with nothing to tell beside the sequence in force (R371, R533). -/
theorem confirm_plain {s : Kf} {b : Bool} (hh : s.isHolder b = true) (hidle : s.xfer = none) (href : s.refused = false)
    (hl : s.lapsed = none) (n : Nat) :
    s.confirm b n = { s.reply b 0x81 (beBytes 2 n ++ beBytes 2 (s.rd Kf.TOK_STAT.CSEQ) ++ [0] ++ beBytes 2 0 ++ [0]) with
      refused := false, lapsedSaid := false } := by
  simp [Kf.confirm, hh, hidle, href, hl, b2n]

/-! ### What each command at the KF-120 comes to -/

section
variable {s : Kf} {b : Bool} {x : Hb} (hr : s.inReset = false) (hidle : s.xfer = none)
include hr hidle

/-- The first grant, to chip A (R22). -/
theorem kfHeartbeatReceivedKf_first (hheld : s.held = false) (hc : x.claim = false) (hready : x.ready = true)
    (hB : ∀ y, s.freshHb true = some y → y.claim = false ∧ (s.readyB = true → later16 x.n.toNat y.n.toNat = false)) :
    Kf.Moved (kfHeartbeatReceivedKf false x s) s false ((s.rd Kf.TOK_STAT.CSEQ + 1) % 2 ^ 16) := by
  have first : (s.beat false x).firstGrant false x = (s.beat false x).grantNow false :=
    firstGrant_ready (s.beat_freshHb false x) hc hready fun y hy => by
      rw [s.beat_readyB]
      exact hB y ((s.beat_freshHb_other false x).symm.trans hy)
  have moved := grantNow_moved false ((s.beat_xfer false x).trans hidle)
  rw [s.beat_cseq] at moved
  rw [kfHeartbeatReceivedKf_idle hr hidle, hheld, if_neg Bool.false_ne_true, first]
  exact (Kf.beat_moved moved).congr (.answer _ _ _) (.refl _)

section
variable (hh : s.isHolder b = true)
include hh

/-- The holder's heartbeat, judged by R372 and answered. -/
theorem kfHeartbeatReceivedKf_holder :
    kfHeartbeatReceivedKf b x s =
      (((((s.beat b x).clearLapse (some b)).tokenCases (some b)).confirm b x.n.toNat).stat b).tripEval false := by
  rw [kfHeartbeatReceivedKf_idle hr hidle, (held_and_holder hh).1, if_pos rfl]

/-- It asks for nothing: CONF with the sequence in force, and STAT (R371, R520). -/
theorem kfHeartbeatReceivedKf_confirmed (hrel : x.release = false) (hreq : x.xreq = false) (href : s.refused = false)
    (hl : s.lapsed = none) :
    let y := (s.beat b x).reply b 0x81
      (beBytes 2 x.n.toNat ++ beBytes 2 (s.rd Kf.TOK_STAT.CSEQ) ++ [0] ++ beBytes 2 0 ++ [0])
    kfHeartbeatReceivedKf b x s = (({ y with refused := false, lapsedSaid := false } : Kf).stat b).tripEval false := by
  have hbh := (s.beat_isHolder b x b).trans hh
  have lapsed := (s.beat_lapsed b x).trans hl
  rw [kfHeartbeatReceivedKf_holder hr hidle hh, clearLapse_none lapsed,
    tokenCases_quiet hbh (s.beat_freshHb b x) hrel hreq,
    confirm_plain hbh ((s.beat_xfer b x).trans hidle) ((s.beat_refused b x).trans href) lapsed, s.beat_cseq]

/-- It releases, and the other chip is READY: the other chip holds the token (R372). -/
theorem kfHeartbeatReceivedKf_released (hrel : x.release = true) {y : Hb} (ho : s.freshHb (!b) = some y) (hready : y.ready = true) :
    Kf.Moved (kfHeartbeatReceivedKf b x s) s (!b) ((s.rd Kf.TOK_STAT.CSEQ + 1) % 2 ^ 16) := by
  have other := (s.beat_freshHb_other b x).trans ho
  have judged : ∀ u : Kf, Kf.SameToken u (s.beat b x) → u.freshHb b = some x → u.freshHb (!b) = some y →
      Kf.Moved (u.tokenCases (some b)) s (!b) ((s.rd Kf.TOK_STAT.CSEQ + 1) % 2 ^ 16) := by
    intro u same hx hy
    rw [tokenCases_release ((same.isHolder b).trans ((s.beat_isHolder b x b).trans hh)) hx hrel hy hready]
    have moved := grantNow_moved (!b) (same.xfer.trans ((s.beat_xfer b x).trans hidle))
    rw [same.cseq, s.beat_cseq] at moved
    exact Kf.beat_moved (moved.congr (.refl _) same)
  rw [kfHeartbeatReceivedKf_holder hr hidle hh]
  refine Kf.Moved.congr ?_ (.answer _ _ _) (.refl _)
  rcases clearLapse_eq (s.beat b x) (some b) with e | e
  · rw [e]
    exact judged _ ⟨fun _ _ => rfl, rfl, rfl, fun _ h => h⟩ (s.beat_freshHb b x) other
  · rw [e]
    exact judged _ (.refl _) (s.beat_freshHb b x) other

/-- It asks in time, and the other chip is READY: the transfer is pending (R372, R395). -/
theorem kfHeartbeatReceivedKf_requested (hrel : x.release = false) (hreq : x.xreq = true) (hl : s.lapsed ≠ some x.ctick.toNat)
    {y : Hb} (ho : s.freshHb (!b) = some y) (hready : y.ready = true)
    (hd : 4 ≤ (x.ctick.toNat + 65536 - x.n.toNat) % 65536 ∧ (x.ctick.toNat + 65536 - x.n.toNat) % 65536 ≤ 32767) :
    (kfHeartbeatReceivedKf b x s).isHolder b = true ∧
      (kfHeartbeatReceivedKf b x s).xfer = some (!b, x.ctick.toNat, (s.rd Kf.TOK_STAT.CSEQ + 1) % 2 ^ 16) := by
  have hbh := (s.beat_isHolder b x b).trans hh
  rw [kfHeartbeatReceivedKf_holder hr hidle hh, clearLapse_asked (s.beat_freshHb b x) hreq,
    tokenCases_request hbh (s.beat_freshHb b x) hrel hreq ((s.beat_xfer b x).trans hidle) (by rwa [s.beat_lapsed])
      ((s.beat_freshHb_other b x).trans ho) hready hd]
  obtain ⟨holder, pending⟩ := grantAt_pending (s.beat b x) (!b) b x.ctick.toNat
  have same := Kf.SameToken.answer ((s.beat b x).grantAt (!b) x.ctick.toNat) b x.n.toNat
  rw [s.beat_cseq] at pending
  exact ⟨(same.isHolder b).trans (holder.trans hbh), same.xfer.trans pending⟩

end

end

/-- The field that shows whether a chip was heard within HBTO (R541). -/
def hbFld (b : Bool) : Fld := if b then Kf.TOK_STAT.HBB else Kf.TOK_STAT.HBA

/-- HBTO has expired for chip `b`: it is silent, and the source shows it (R536, R537). -/
def Kf.silenced (s : Kf) (b : Bool) : Kf := (s.wr (hbFld b) 0).raise 8

section
variable (s : Kf) (b : Bool)

theorem silenced_rd {F : Fld} (h : F.key 0 0 ≠ (hbFld b).key 0 0) (hs : F.key 0 0 ≠ Kf.SVL_SRC.SRC.key 0 0) :
    (s.silenced b).rd F = s.rd F := (Kf.rd_wr_ne _ _ hs).trans (Kf.rd_wr_ne _ _ h)

theorem silenced_freshHb : (s.silenced b).freshHb b = none := by
  have off : ∀ F : Fld, F.key 0 0 ≠ Kf.SVL_SRC.SRC.key 0 0 → ((s.wr F 0).raise 8).on F = false := fun F h => by
    rw [Kf.on, Kf.raise, Kf.rd_wr_ne _ _ h, Kf.rd_wr_same]
    simp
  cases b
  · exact if_neg (ne_of_eq_of_ne (off Kf.TOK_STAT.HBA (by decide)) Bool.false_ne_true)
  · exact if_neg (ne_of_eq_of_ne (off Kf.TOK_STAT.HBB (by decide)) Bool.false_ne_true)

theorem silenced_freshHb_other : (s.silenced b).freshHb (!b) = s.freshHb (!b) := by
  cases b
  · exact congrArg (fun v => if (v == 1) = true then s.hbB else none) (silenced_rd s false (by decide) (by decide))
  · exact congrArg (fun v => if (v == 1) = true then s.hbA else none) (silenced_rd s true (by decide) (by decide))

theorem silenced_isHolder (d : Bool) : (s.silenced b).isHolder d = s.isHolder d := by
  have held : (s.silenced b).rd Kf.TOK_STAT.HELD = s.rd Kf.TOK_STAT.HELD := by cases b <;> exact silenced_rd s _ (by decide) (by decide)
  have holder : (s.silenced b).rd Kf.TOK_STAT.HOLDER = s.rd Kf.TOK_STAT.HOLDER := by
    cases b <;> exact silenced_rd s _ (by decide) (by decide)
  simp only [Kf.isHolder, Kf.held, Kf.holderB, Kf.on, held, holder]

theorem silenced_cseq : (s.silenced b).rd Kf.TOK_STAT.CSEQ = s.rd Kf.TOK_STAT.CSEQ := by
  cases b <;> exact silenced_rd s _ (by decide) (by decide)

theorem silenced_shown : bit ((s.silenced b).rd Kf.SVL_SRC.SRC) 8 = true := by
  rw [Kf.silenced, Kf.raise, Kf.rd_wr_same, bit, Nat.testBit_mod_two_pow]
  exact Bool.and_eq_true_iff.mpr ⟨rfl, bit_setBit_true _ 8 8⟩

end

/-- Where the holder falls silent and the other chip is able, the token moves at once (R372). -/
theorem heartbeatTimeoutKf_moved {s : Kf} {b : Bool} {y : Hb} (hr : s.inReset = false) (hh : s.isHolder b = true) (hidle : s.xfer = none)
    (hon : s.on (hbFld b) = true) (ho : s.freshHb (!b) = some y) (ha : y.able = true) :
    Kf.Moved (heartbeatTimeoutKf b s) (s.silenced b) (!b) ((s.rd Kf.TOK_STAT.CSEQ + 1) % 2 ^ 16) := by
  have expired : heartbeatTimeoutKf b s = (s.silenced b).tokenCases none := by
    have heard : (s.inReset || !s.on (hbFld b)) = false := by rw [hr, hon]; rfl
    exact if_neg (ne_of_eq_of_ne heard Bool.false_ne_true)
  rw [expired, tokenCases_silent ((silenced_isHolder s b b).trans hh) (silenced_freshHb s b) ((silenced_freshHb_other s b).trans ho) ha,
    ← silenced_cseq s b]
  exact grantNow_moved (!b) hidle

/-- After a restart the one chip that claims the token is confirmed, under its sequence (R374). -/
theorem kfRestartGrantKf_claimed {s : Kf} {y : Hb} (hr : s.inReset = false) (hheld : s.held = false) (hA : s.freshHb false = some y)
    (hc : y.claim = true) (hB : s.freshHb true = none) : Kf.Moved (kfRestartGrantKf s) s false y.cseq.toNat := by
  have granted : kfRestartGrantKf s = (s.countGrant.setHolder false y.cseq.toNat).sendGrant false y.cseq.toNat 0 false := by
    simp [kfRestartGrantKf, hr, hheld, hA, hc, hB]
  rw [granted]
  exact grantUnder_moved s false y.cseq.isLt

end Sys2Proof.Machine
end

section
/-! How a chip follows the KF-120 and agrees on a planned castling (R371 to R376, R395, R396, R520). -/

namespace Sys2Proof.Machine

/-! ### A field written twice with one value -/

theorem Tab.put_put_self {α : Type} (k : Nat) (v : α) (t : Tab α) : Tab.put k v (Tab.put k v t) = Tab.put k v t := by
  induction t with
  | nil => simp [Tab.put]
  | cons e rest ih =>
    obtain ⟨j, w⟩ := e
    simp only [Tab.put]
    by_cases hlt : k < j
    · simp [hlt, Tab.put]
    · by_cases heq : k = j
      · simp [heq, Tab.put]
      · simp [hlt, heq, Tab.put, ih]

theorem Tab.del_del_self {α : Type} (k : Nat) (t : Tab α) : Tab.del k (Tab.del k t) = Tab.del k t := by
  induction t with
  | nil => rfl
  | cons e rest ih =>
    obtain ⟨j, w⟩ := e
    simp only [Tab.del]
    by_cases heq : k = j
    · simp [heq, heq ▸ ih]
    · simp [heq, Tab.del, ih]

theorem Kv.wr_wr_self (s : Kv) (F : Fld) (v i j : Nat) : (s.wr F v i j).wr F v i j = s.wr F v i j := by
  have h : F.set i j v (F.set i j v s.regs) = F.set i j v s.regs := by
    simp only [Fld.set, Tab.set]
    split
    · exact Tab.del_del_self _ _
    · exact Tab.put_put_self _ _ _
  simp only [Kv.wr, h]

/-! ### What taking the token leaves behind it alone -/

/-- The registers that show who holds the token. -/
def dutyFlds : List Fld := [Kv.CL_CASST.TOKEN, Kv.CL_CASST.CSEQ, Kv.TIM_STAT.STBY]

/-- `t` holds the token as `s` does, at the same time, and waits for no resume that `s` did not wait for. -/
structure Kv.SameDuty (t s : Kv) : Prop where
  regs : ∀ F ∈ dutyFlds, t.rd F = s.rd F
  killWait : t.dsp.killWait = s.dsp.killWait
  tick : t.tick = s.tick

/-- The registers of the fault collector lie above those of the castle link. -/
theorem raiseFlds_above (G : Fld) (h : G ∈ raiseFlds) (i j : Nat) : 0xC200 * 32 ≤ G.key i j := by
  have base : ∀ G ∈ raiseFlds, 0xC200 ≤ G.base := by decide
  have := base G h
  simp only [Fld.key, Fld.addr]
  omega

namespace Kv.SameDuty

theorem refl (s : Kv) : SameDuty s s := ⟨fun _ _ => rfl, rfl, rfl⟩

theorem trans {r s t : Kv} (a : SameDuty t s) (b : SameDuty s r) : SameDuty t r :=
  ⟨fun F h => (a.regs F h).trans (b.regs F h), a.killWait.trans b.killWait, a.tick.trans b.tick⟩

theorem wr (s : Kv) {G : Fld} (v : Nat) {i j : Nat} (h : ∀ F ∈ dutyFlds, F.key 0 0 ≠ G.key i j) : SameDuty (s.wr G v i j) s :=
  ⟨fun F hF => s.rd_wr_ne v (h F hF), rfl, rfl⟩

/-- No occurrence of a fault source touches them. -/
theorem untouched : Untouched SameDuty where
  same := refl
  tr := trans
  wr s G v i j hG := wr s v fun F hF => by
    have below : ∀ F ∈ dutyFlds, F.key 0 0 < 0xC200 * 32 := by decide
    have := below F hF
    have := raiseFlds_above G hG i j
    omega
  byte _ _ _ := ⟨fun _ _ => rfl, rfl, rfl⟩
  send _ _ := ⟨fun _ _ => rfl, rfl, rfl⟩
  acq _ _ _ := ⟨fun _ _ => rfl, rfl, rfl⟩
  win _ _ := ⟨fun _ _ => rfl, rfl, rfl⟩
  log _ _ := ⟨fun _ _ => rfl, rfl, rfl⟩
  ovr _ _ := ⟨fun _ _ => rfl, rfl, rfl⟩
  stop _ _ := ⟨fun _ _ => rfl, rfl, rfl⟩
  rel _ _ := ⟨fun _ _ => rfl, rfl, rfl⟩
  dirty _ := ⟨fun _ _ => rfl, rfl, rfl⟩
  reload _ := ⟨fun _ _ => rfl, rfl, rfl⟩
  fire _ _ := ⟨fun _ _ => rfl, rfl, rfl⟩
  once _ := ⟨fun _ _ => rfl, rfl, rfl⟩

theorem castled (s : Kv) (cause : Nat) : SameDuty (s.castled cause) s := by
  have counted : ∀ s : Kv, SameDuty (s.count Kv.CL_CASST.CCNT Kv.CL_CASST.SAT) s := fun s =>
    untouched.count s _ _ _ _ _ (fun s v => wr s v (by decide)) (fun s => wr s 1 (by decide))
  have raised := (untouched.raise _ Src.CL_CASTLE 0 0).trans ((counted ((s.wr Kv.CL_CASST.CAUSE cause).wr Kv.CL_CASST.PSTATE 0)).trans
    ((wr _ _ (by decide)).trans (wr _ _ (by decide))))
  exact ⟨raised.regs, raised.killWait, raised.tick⟩

theorem startResync (s : Kv) : SameDuty s.startResync s :=
  (⟨fun _ _ => rfl, rfl, rfl⟩ : SameDuty s.startResync ((s.wr Kv.LDG_STAT.SYNC 0).mark Kv.LDG_STAT.RSY)).trans
    ((wr _ _ (by decide)).trans (wr _ _ (by decide)))

theorem resumeAll {s : Kv} (h : s.dsp.killWait = false) : SameDuty s.resumeAll s := by
  have lowered : SameDuty ((s.when (s.rd Kv.DBG_STAT.LEVEL == 2 && s.rd Kv.DBG_STAT.HALTED != 0) (fun s => s.wr Kv.DBG_STAT.LEVEL 1)).wr
      Kv.DBG_STAT.HALTED 0) s :=
    (wr _ 0 (by decide)).trans (untouched.when s _ _ (wr s 1 (by decide)))
  have e : s.resumeAll = _ := if_neg (ne_of_eq_of_ne (lowered.killWait.trans h) Bool.false_ne_true)
  rw [e]
  exact lowered

/-- Beside the token, its sequence and STBY, what a chip does that takes the token (R376, R391). -/
theorem becomeDuty {s : Kv} (h : s.dsp.killWait = false) (q cause : Nat) :
    SameDuty (s.becomeDuty q cause) (((s.mark Kv.CL_CASST.TOKEN).wr Kv.CL_CASST.CSEQ q).wr Kv.TIM_STAT.STBY 0) := by
  have committed : ∀ s : Kv, SameDuty (s.when (s.rd Kv.DSP_OLC.STATE == 4)
      (fun s => { s.wr Kv.DSP_OLC.STATE 0 with dsp := { s.dsp with oldImg := none } })) s := fun s =>
    untouched.when s _ _ (.trans (s := s.wr Kv.DSP_OLC.STATE 0) ⟨fun _ _ => rfl, rfl, rfl⟩ (wr s 0 (by decide)))
  have castling : ∀ s : Kv, SameDuty (s.when (cause != 0) (fun s => s.castled cause)) s := fun s => untouched.when s _ _ (castled s cause)
  have resumed := (castling _).trans (committed (((s.mark Kv.CL_CASST.TOKEN).wr Kv.CL_CASST.CSEQ q).wr Kv.TIM_STAT.STBY 0))
  have resync : ∀ s : Kv, SameDuty (s.when (cause == 3 || cause == 4) (fun s =>
      let s := { s with cas := { s.cas with since := none, causeOpen := cause == 4 } }
      let s := { s with hst := { s.hst with jump := s.cas.other.map (fun (o : StateMsg) => (o.gen.toNat, o.tick.toNat)) } }
      s.startResync)) s := fun s => untouched.when s _ _ ((startResync _).trans ⟨fun _ _ => rfl, rfl, rfl⟩)
  exact (resync _).trans ((resumeAll (resumed.killWait.trans h)).trans resumed)

end Kv.SameDuty

/-- A chip that takes the token is on duty under the sequence, no standby any more, whatever the cause (R376). -/
theorem becomeDuty_shows {s : Kv} (h : s.dsp.killWait = false) {q : Nat} (hq : q < 2 ^ 16) (cause : Nat) :
    (s.becomeDuty q cause).duty = true ∧ (s.becomeDuty q cause).rd Kv.CL_CASST.CSEQ = q ∧
      (s.becomeDuty q cause).on Kv.TIM_STAT.STBY = false := by
  obtain ⟨regs, -, -⟩ := Kv.SameDuty.becomeDuty h q cause
  have token := regs Kv.CL_CASST.TOKEN (by simp [dutyFlds])
  have cseq := regs Kv.CL_CASST.CSEQ (by simp [dutyFlds])
  have stby := regs Kv.TIM_STAT.STBY (by simp [dutyFlds])
  simp (disch := decide) only [Kv.mark, Kv.rd_wr_ne, Kv.rd_wr_same] at token cseq stby
  refine ⟨congrArg (· == 1) token, cseq.trans (Nat.mod_eq_of_lt hq), congrArg (· == 1) stby⟩

/-! ### Messages of the KF-120 -/

/-- A chip as a grant at once under sequence `q` finds it (R374). -/
def Kv.grantedNow (k : Kv) (q : Nat) : Kv := { k.svlHeard with cas := { k.svlHeard.cas with grant := some (q % 65536, none, k.tick) } }

/-- A standby takes the token that is granted at once. -/
theorem grantReceivedKv_standby {k : Kv} (hd : k.duty = false) (q ct : Nat) :
    ∃ cause, grantReceivedKv q ct false k = { (k.grantedNow q).becomeDuty q cause with
      cas := { ((k.grantedNow q).becomeDuty q cause).cas with
        grant := some (q % 65536, none, ((k.grantedNow q).becomeDuty q cause).tick) } } := by
  have standby : (k.grantedNow q).duty = false := hd
  exact ⟨_, if_neg (ne_of_eq_of_ne standby Bool.false_ne_true)⟩

/-- So it is the duty, under the grant's sequence (R376). -/
theorem grantReceivedKv_atOnce {k : Kv} (q ct : BitVec 16) (hd : k.duty = false) (hk : k.dsp.killWait = false) :
    let t := grantReceivedKv q.toNat ct.toNat false k
    t.duty = true ∧ t.rd Kv.CL_CASST.CSEQ = q.toNat ∧ t.on Kv.TIM_STAT.STBY = false ∧
      t.cas.grant = some (q.toNat, none, k.tick) := by
  obtain ⟨cause, taken⟩ := grantReceivedKv_standby hd q.toNat ct.toNat
  obtain ⟨duty, cseq, stby⟩ := becomeDuty_shows (s := k.grantedNow q.toNat) hk q.isLt cause
  have tick : ((k.grantedNow q.toNat).becomeDuty q.toNat cause).tick = k.tick :=
    (Kv.SameDuty.becomeDuty (s := k.grantedNow q.toNat) hk q.toNat cause).tick
  rw [taken, tick, Nat.mod_eq_of_lt (show q.toNat < 65536 from q.isLt)]
  generalize (k.grantedNow q.toNat).becomeDuty q.toNat cause = u at duty cseq stby
  exact ⟨duty, cseq, stby, rfl⟩

/-- A grant for CTICK is kept for its boundary (R376). -/
theorem grantReceivedKv_forTick (k : Kv) (q ct : BitVec 16) :
    grantReceivedKv q.toNat ct.toNat true k = { k.wr Kv.CL_CASST.PSTATE 3 with
      cas := { k.cas with
        svlTick := k.tick + 1, grant := some (q.toNat, some (tickFrom k.tick ct.toNat), k.tick), ctick := some (tickFrom k.tick ct.toNat) } } := by
  have hq : q.toNat % 65536 = q.toNat := Nat.mod_eq_of_lt q.isLt
  simp only [grantReceivedKv, if_true, hq]
  rfl

/-- CONF gives the chip the token under its sequence, and names the tick that it answers (R371, R375). -/
theorem confReceivedKv_plain (k : Kv) (n q ct : BitVec 16) :
    let y := (({ k with cas := { k.cas with svlTick := k.tick + 1 } } : Kv).mark Kv.CL_CASST.TOKEN).wr Kv.CL_CASST.CSEQ q.toNat
    confReceivedKv n.toNat q.toNat false false ct.toNat k = { y with
      cas := { y.cas with conf := some ((k.tick + 2 ^ 48 - (k.tick + 65536 - n.toNat) % 65536) % 2 ^ 48, q.toNat) } } := by
  have hn : n.toNat % 65536 = n.toNat := Nat.mod_eq_of_lt n.isLt
  have hq : q.toNat % 65536 = q.toNat := Nat.mod_eq_of_lt q.isLt
  simp only [confReceivedKv, Bool.false_and, Kv.when_false, hn, hq]
  rfl

@[simp] theorem Kv.wr_tick (s : Kv) (F : Fld) (v i j : Nat) : (s.wr F v i j).tick = s.tick := congrArg (·.tick.toNat) (s.wr_tim F v i j)
@[simp] theorem Kv.svlHeard_tick (s : Kv) : s.svlHeard.tick = s.tick := rfl
@[simp] theorem Kv.svlHeard_svlLast (s : Kv) : s.svlHeard.svlLast = s.svlLast := rfl
@[simp] theorem Kv.svlHeard_causeOpen (s : Kv) : s.svlHeard.cas.causeOpen = s.cas.causeOpen := rfl

theorem Kv.svlHeard_sources (k : Kv) : bits (k.svlHeard.rd Kv.SVL_FST.ST) 0 16 = k.rd Kv.SVL_FST.ST % 65536 := by
  rw [bits, Nat.pow_zero, Nat.div_one]
  rfl

/-- STAT shows the inputs and the sources, tells whether silence was the cause, and raises what rose (R397, R411, R520, R542). -/
theorem statReceivedKv_eq {src b6 b7 v : Nat} (hv : b7 % 256 * 2 ^ 24 + b6 % 256 * 2 ^ 16 + src % 65536 = v) (k : Kv) (w : Nat) :
    let old := k.rd Kv.SVL_FST.ST % 65536
    let y := (k.wr Kv.SVL_FIN.IN w).wr Kv.SVL_FST.ST v
    let y := if tickIs k.svlLast (tickPrev k.tick) then y.mark Kv.SVL_STAT.UP else y
    let y := if k.cas.causeOpen && src.testBit 8 && !old.testBit 8 then y.wr Kv.CL_CASST.CAUSE 3 else y
    let y := { y with svlLast := k.tick + 1, cas := { k.cas with svlTick := k.tick + 1, causeOpen := false } }
    statReceivedKv w src b6 b7 k =
      ((List.range 16).filter (fun i => src.testBit i && !old.testBit i)).foldl (fun y i => y.raise (Src.KF i) 0 0) y := by
  unfold statReceivedKv
  rw [hv]
  dsimp only
  rw [Kv.svlHeard_sources]
  generalize k.rd Kv.SVL_FST.ST % 65536 = old
  simp only [Kv.wr_tick, Kv.wr_svlLast, Kv.svlHeard_tick, Kv.svlHeard_svlLast, bit, Kv.each]
  cases tickIs k.svlLast (tickPrev k.tick) <;>
    simp only [Kv.when_true, Kv.when_false, Kv.mark, Kv.wr_tick, Kv.wr_cas, Kv.svlHeard_tick, Kv.svlHeard_causeOpen] <;>
    cases k.cas.causeOpen && src.testBit 8 && !old.testBit 8 <;> rfl

/-- The three bytes of STAT beside the inputs, as the chip shows them. -/
theorem statBytes (src : BitVec 16) (b6 b7 : BitVec 8) : b7.toNat % 256 * 2 ^ 24 + b6.toNat % 256 * 2 ^ 16 + src.toNat % 65536 =
    b7.toNat * 2 ^ 24 + b6.toNat * 2 ^ 16 + src.toNat := by
  have h6 : b6.toNat % 256 = b6.toNat := Nat.mod_eq_of_lt b6.isLt
  have h7 : b7.toNat % 256 = b7.toNat := Nat.mod_eq_of_lt b7.isLt
  have hs : src.toNat % 65536 = src.toNat := Nat.mod_eq_of_lt src.isLt
  rw [h6, h7, hs]

end Sys2Proof.Machine
end

section
/-! A planned castling between the chips (R395, R396). -/

namespace Sys2Proof.Machine

/-! ### A castle message comes in -/

/-- A chip when the blocks of a castle message have gone by on its lanes. -/
def Kv.goneBy (k : Kv) : Kv := (k.stripe.map k.laneOf).foldl Kv.laneGoneBy k

/-- What does not look at the lanes is as it was. -/
theorem Kv.goneBy_keeps {α : Type} (p : Kv → α) (h : ∀ s n, p (Kv.laneGoneBy s n) = p s) (k : Kv) : p k.goneBy = p k :=
  Kv.each_keeps p h k (k.stripe.map k.laneOf)

@[simp] theorem Kv.goneBy_rd (k : Kv) (F : Fld) : k.goneBy.rd F = k.rd F := k.goneBy_keeps (·.rd F) fun _ _ => rfl
@[simp] theorem Kv.goneBy_on (k : Kv) (F : Fld) : k.goneBy.on F = k.on F := k.goneBy_keeps (·.on F) fun _ _ => rfl
@[simp] theorem Kv.goneBy_duty (k : Kv) : k.goneBy.duty = k.duty := k.goneBy_keeps (·.duty) fun _ _ => rfl
@[simp] theorem Kv.goneBy_tick (k : Kv) : k.goneBy.tick = k.tick := k.goneBy_keeps (·.tick) fun _ _ => rfl
@[simp] theorem Kv.goneBy_dsp (k : Kv) : k.goneBy.dsp = k.dsp := k.goneBy_keeps (·.dsp) fun _ _ => rfl

/-- A message that passes its check and claims nothing has its effect, and no other (R377). -/
theorem castleIn_plain {k : Kv} {e : Envelope} (hup : k.on Kv.CL_STAT.UP = true) (hok : e.ok = true) (hc : e.claim = false)
    (f : Kv → Kv) : k.castleIn e f = f k.goneBy := by
  have up : k.goneBy.on Kv.CL_STAT.UP = true := (k.goneBy_on _).trans hup
  have e₁ : k.castleIn e f = if !k.goneBy.on Kv.CL_STAT.UP then k.goneBy else if !e.ok then k.goneBy.castleDiscard
    else f (k.goneBy.castleHeard e) := rfl
  have heard : k.goneBy.castleHeard e = k.goneBy := by simp [Kv.castleHeard, hc]
  rw [e₁, up, hok, heard]
  rfl

/-! ### The duty asks -/

/-- A chip that asks for a planned castling at CTICK, alone or for a committed change, and offers it (R395). -/
def Kv.asking (k : Kv) (ct : Nat) (olc : Bool) : Kv :=
  ({ (k.wr Kv.CL_CAS.CTICK ct).wr Kv.CL_CASST.PSTATE 1 with
    cas := { k.cas with ctick := some (tickFrom k.tick ct), olc := olc, accepted := false } } : Kv).castleSend 0x05
      [1, ct, k.rd Kv.CL_RDY.COND]

/-- The duty asks where no castling is under way and the tick lies 16 ticks or more ahead (R395). -/
theorem castleAsk_ahead {k : Kv} {ct : BitVec 16} (hd : k.duty = true)
    (hp : k.rd Kv.CL_CASST.PSTATE = 0 ∨ 4 ≤ k.rd Kv.CL_CASST.PSTATE) (hlow : 16 ≤ (ct.toNat + 65536 - k.tick % 65536) % 65536)
    (hhigh : (ct.toNat + 65536 - k.tick % 65536) % 65536 ≤ 32767) (olc : Bool) : k.castleAsk ct.toNat olc = k.asking ct.toNat olc := by
  have hct : ct.toNat % 65536 = ct.toNat := Nat.mod_eq_of_lt ct.isLt
  have free : (!k.duty || k.rd Kv.CL_CASST.PSTATE == 1 || k.rd Kv.CL_CASST.PSTATE == 2 || k.rd Kv.CL_CASST.PSTATE == 3) = false := by
    simp only [hd, Bool.not_true, Bool.false_or, Bool.or_eq_false_iff, beq_eq_false_iff_ne]
    omega
  have window : ¬ ((ct.toNat + 65536 - k.tick % 65536) % 65536 < 16 ∨ 32767 < (ct.toNat + 65536 - k.tick % 65536) % 65536) := by omega
  have cond : ((k.wr Kv.CL_CAS.CTICK ct.toNat).wr Kv.CL_CASST.PSTATE 1).rd Kv.CL_RDY.COND = k.rd Kv.CL_RDY.COND := by
    rw [Kv.rd_wr_ne _ _ (by decide), Kv.rd_wr_ne _ _ (by decide)]
  simp only [Kv.castleAsk, hct, free, window, if_false, Bool.false_eq_true]
  rw [Kv.asking, ← cond]
  rfl

/-- So a REQ does, which writes CTICK first (R8, R395). -/
theorem castleReqKv_ahead {k : Kv} {ct : BitVec 16} (hd : k.duty = true)
    (hp : k.rd Kv.CL_CASST.PSTATE = 0 ∨ 4 ≤ k.rd Kv.CL_CASST.PSTATE) (hlow : 16 ≤ (ct.toNat + 65536 - k.tick % 65536) % 65536)
    (hhigh : (ct.toNat + 65536 - k.tick % 65536) % 65536 ≤ 32767) : castleReqKv ct.toNat k = k.asking ct.toNat false := by
  have keeps : ∀ F : Fld, F.key 0 0 ≠ Kv.CL_CAS.CTICK.key 0 0 → (k.wr Kv.CL_CAS.CTICK ct.toNat).rd F = k.rd F := fun F h => k.rd_wr_ne _ h
  have asked := castleAsk_ahead (k := k.wr Kv.CL_CAS.CTICK ct.toNat) (ct := ct)
    ((congrArg (· == 1) (keeps Kv.CL_CASST.TOKEN (by decide))).trans hd)
    (by rwa [keeps Kv.CL_CASST.PSTATE (by decide)]) hlow hhigh false
  refine asked.trans ?_
  rw [Kv.asking, Kv.asking, Kv.wr_wr_self, keeps Kv.CL_RDY.COND (by decide)]
  rfl

/-- A REQ on the standby writes CTICK and is refused as a register access (R8, R395). -/
theorem castleReqKv_standby {k : Kv} (hd : k.duty = false) (ct : Nat) :
    castleReqKv ct k = (k.wr Kv.CL_CAS.CTICK ct).raise Src.REGACC 17 Kv.CL_CAS.REQ.base := by
  have standby : (k.wr Kv.CL_CAS.CTICK ct).duty = false := (k.on_wr_ne ct (by decide)).trans hd
  rw [castleReqKv, Kv.castleAsk, standby]
  rfl

/-- Asked by the standby, the duty does as for a REQ (R396). -/
theorem castleCommitreqKv_ahead {k : Kv} {e : Envelope} (hup : k.on Kv.CL_STAT.UP = true) (hok : e.ok = true) (hc : e.claim = false)
    {ct : BitVec 16} (hd : k.duty = true)
    (hp : k.rd Kv.CL_CASST.PSTATE = 0 ∨ 4 ≤ k.rd Kv.CL_CASST.PSTATE) (hlow : 16 ≤ (ct.toNat + 65536 - k.tick % 65536) % 65536)
    (hhigh : (ct.toNat + 65536 - k.tick % 65536) % 65536 ≤ 32767) :
    castleCommitreqKv e ct.toNat k = k.goneBy.asking ct.toNat true := by
  have asked := castleAsk_ahead (k := k.goneBy) (ct := ct) (by simpa using hd) (by simpa using hp) (by simpa using hlow) (by simpa using hhigh) true
  rw [castleCommitreqKv, castleIn_plain hup hok hc]
  exact (if_pos ((k.goneBy_duty).trans hd)).trans asked

/-- The castling is offered for the tick that the message names, with the conditions that the chip shows. -/
theorem goneBy_asking (k : Kv) (ct : Nat) (olc : Bool) : k.goneBy.asking ct olc =
    ({ (k.goneBy.wr Kv.CL_CAS.CTICK ct).wr Kv.CL_CASST.PSTATE 1 with
      cas := { k.goneBy.cas with ctick := some (tickFrom k.tick ct), olc := olc, accepted := false } } : Kv).castleSend 0x05
        [1, ct, k.rd Kv.CL_RDY.COND] := by
  rw [Kv.asking, Kv.goneBy_tick, Kv.goneBy_rd]

/-! ### The standby answers -/

/-- The castling is the one that the standby has committed its change for (R396). -/
def Kv.commitsFor (k : Kv) (ct : Nat) : Prop := k.rd Kv.DSP_OLC.STATE = 4 ∧ k.dsp.olcTick % 65536 = ct

theorem commits_and_tick (k : Kv) (ct : BitVec 16) :
    (k.goneBy.commits && k.goneBy.dsp.olcTick % 65536 == ct.toNat) = true ↔ k.commitsFor ct.toNat := by
  simp [Kv.commits, Kv.commitsFor]

section Offer

variable {k : Kv} {e : Envelope} (hup : k.on Kv.CL_STAT.UP = true) (hok : e.ok = true) (hc : e.claim = false)
variable {ct : BitVec 16} (hd : k.duty = false)

/-- A chip that accepts the castling at CTICK (R395). -/
def Kv.accepting (k : Kv) (ct : Nat) (olc : Bool) : Kv :=
  ({ k with cas := { k.cas with ctick := some (tickFrom k.tick ct), olc := olc } } : Kv).castleSend 0x05 [2, ct, k.rd Kv.CL_RDY.COND]

include hup hok hc hd

/-- An offer reaches a standby. -/
theorem castleOfferKv_standby {olc : Bool}
    (holc : (k.goneBy.commits && k.goneBy.dsp.olcTick % 65536 == ct.toNat) = olc) :
    castleOfferKv e ct.toNat k = if (if olc then k.goneBy.commitReady else k.on Kv.CL_RDY.READY) then k.goneBy.accepting ct.toNat olc
      else k.goneBy.castleSend 0x05 [3, ct.toNat, k.rd Kv.CL_RDY.COND] := by
  have hct : ct.toNat % 65536 = ct.toNat := Nat.mod_eq_of_lt ct.isLt
  have standby : k.goneBy.duty = false := k.goneBy_duty.trans hd
  rw [castleOfferKv, castleIn_plain hup hok hc]
  simp only [Kv.accepting, hct, holc, standby, Bool.false_eq_true, if_false, Kv.goneBy_on, Kv.goneBy_rd]

theorem castleOfferKv_ready (hn : ¬ k.commitsFor ct.toNat) (hready : k.on Kv.CL_RDY.READY = true) :
    castleOfferKv e ct.toNat k = k.goneBy.accepting ct.toNat false := by
  rw [castleOfferKv_standby hup hok hc hd (Bool.eq_false_iff.mpr (mt (commits_and_tick k ct).mp hn)), if_neg Bool.false_ne_true,
    if_pos hready]

theorem castleOfferKv_committed (h : k.commitsFor ct.toNat) (hready : k.rd Kv.CL_RDY.COND &&& 0xF3 = 0xF3) :
    castleOfferKv e ct.toNat k = k.goneBy.accepting ct.toNat true := by
  have ready : k.goneBy.commitReady = true := by simp [Kv.commitReady, hready]
  rw [castleOfferKv_standby hup hok hc hd ((commits_and_tick k ct).mpr h), if_pos rfl, if_pos ready]

theorem castleOfferKv_unready (hn : ¬ k.commitsFor ct.toNat) (hready : k.on Kv.CL_RDY.READY = false) :
    castleOfferKv e ct.toNat k = k.goneBy.castleSend 0x05 [3, ct.toNat, k.rd Kv.CL_RDY.COND] := by
  rw [castleOfferKv_standby hup hok hc hd (Bool.eq_false_iff.mpr (mt (commits_and_tick k ct).mp hn)), if_neg Bool.false_ne_true,
    if_neg (ne_of_eq_of_ne hready Bool.false_ne_true)]

end Offer

/-- The castling is accepted at the tick that the message names, with the conditions that the chip shows. -/
theorem goneBy_accepting (k : Kv) (ct : Nat) (olc : Bool) : k.goneBy.accepting ct olc =
    ({ k.goneBy with cas := { k.goneBy.cas with ctick := some (tickFrom k.tick ct), olc := olc } } : Kv).castleSend 0x05
      [2, ct, k.rd Kv.CL_RDY.COND] := by
  rw [Kv.accepting, Kv.goneBy_tick, Kv.goneBy_rd]

/-! ### The duty hears the answer, or none -/

section Answer

variable {k : Kv} (hd : k.duty = true) (hp : k.rd Kv.CL_CASST.PSTATE = 1)

include hd hp

/-- From CTICK − 4 on without a grant, the castling is off (R395). -/
theorem transferLapseKv_late (ht : k.cas.ctick.any (tickAhead (k.tick + 4)) = false) : transferLapseKv k = k.castleOff true := by
  simp [transferLapseKv, ht, hd, hp]

variable {e : Envelope} (hup : k.on Kv.CL_STAT.UP = true) (hok : e.ok = true) (hc : e.claim = false)

include hup hok hc

theorem castleRefuseKv_asked : castleRefuseKv e k = k.goneBy.castleOff true := by
  rw [castleRefuseKv, castleIn_plain hup hok hc]
  simp [hd, hp]

theorem castleAcceptKv_asked : castleAcceptKv e k = { k.goneBy with cas := { k.goneBy.cas with accepted := true } } := by
  rw [castleAcceptKv, castleIn_plain hup hok hc]
  simp [hd, hp]

end Answer

end Sys2Proof.Machine
end

section
/-! The token, and a planned castling, as the commands of the KF-120 and of a chip show them. -/

namespace Sys2Proof.Machine

/-- What a command at the KF-120 that answers with `g` comes to. -/
theorem exec_kf {s : State} {i : Instr} {g : Kf → Kf} {y : Kf} (hi : exec i s = .next (s.onKf g)) (hg : g s.kfAt = y) :
    exec i s = .next (s.setKf y) := by rw [hi, State.onKf_eq, hg]

/-- Settles O50: at the KF-120 the token moves by its cases (R372, R374), a chip takes what CONF, GRANT and STAT tell, and the messages of a
planned castling do what R395 and R396 say of them. -/
theorem tokenAndPlannedCastling : Obligations.Token_and_planned_castling := by
  intro s c x e n q ct src w b6 b7 rdy hlive k f me goes kf other beat next ahead at_ h
  refine ⟨?first, ?confirmed, ?released, ?requested, ?silent, ?restart, ?conf, ?forTick, ?atOnce, ?stat, ?req, ?reqStandby, ?answer,
    ?offer⟩
  case first =>
    intro hr hheld hme hc hready hidle hB
    cases c
    · have moved := kfHeartbeatReceivedKf_first hr hidle hheld hc hready hB
      have timer := moved.timer
      rw [hheld] at timer
      exact ⟨_, exec_kf rfl rfl, moved.isHolder, moved.cseq, timer.trans (Bool.or_true _)⟩
    · exact absurd hme (by decide)
  case confirmed =>
    intro hr hh hidle hrel hreq href hl
    cases c <;> exact exec_kf rfl (kfHeartbeatReceivedKf_confirmed hr hidle hh hrel hreq href hl)
  case released =>
    rintro hr hh hidle hrel ⟨y, ho, hready⟩
    cases c <;>
    · have moved := kfHeartbeatReceivedKf_released hr hidle hh hrel ho hready
      exact ⟨_, exec_kf rfl rfl, moved.isHolder, moved.cseq⟩
  case requested =>
    rintro hr hh hidle hrel hreq hl ⟨y, ho, hready⟩ hd
    cases c <;> exact ⟨_, exec_kf rfl rfl, kfHeartbeatReceivedKf_requested hr hidle hh hrel hreq hl ho hready hd⟩
  case silent =>
    rintro hr hh hidle hon ⟨y, ho, ha⟩
    cases c <;>
    · have moved := heartbeatTimeoutKf_moved hr hh hidle hon ho ha
      exact ⟨_, exec_kf rfl rfl, moved.isHolder, moved.cseq, moved.shown 8 (silenced_shown f _)⟩
  case restart =>
    intro y hr hheld honA hA hc hB
    have moved := kfRestartGrantKf_claimed hr hheld ((if_pos honA).trans hA) hc (if_neg (ne_of_eq_of_ne hB Bool.false_ne_true))
    exact ⟨_, exec_kf rfl rfl, moved.isHolder, moved.cseq⟩
  case conf => exact exec_live hlive rfl (confReceivedKv_plain k n q ct)
  case forTick => exact exec_live hlive rfl (grantReceivedKv_forTick k q ct)
  case atOnce =>
    intro hd hk
    exact ⟨_, exec_live hlive rfl rfl, grantReceivedKv_atOnce q ct hd hk⟩
  case stat => exact exec_live hlive rfl (statReceivedKv_eq (statBytes src b6 b7) k w.toNat)
  case req => exact fun hd hp hlow hhigh => exec_live hlive rfl (castleReqKv_ahead hd hp hlow hhigh)
  case reqStandby => exact fun hd => exec_live hlive rfl (castleReqKv_standby hd ct.toNat)
  case answer =>
    exact fun hd hp => ⟨fun ht => exec_live hlive rfl (transferLapseKv_late hd hp ht), fun hup hok hc =>
      ⟨exec_live hlive rfl (castleRefuseKv_asked hd hp hup hok hc), exec_live hlive rfl (castleAcceptKv_asked hd hp hup hok hc)⟩⟩
  case offer =>
    intro hup hok hc
    refine ⟨?_, ?_, ?_, ?_⟩
    · exact fun hd hn hready =>
        exec_live hlive rfl ((castleOfferKv_ready hup hok hc hd hn hready).trans (goneBy_accepting k ct.toNat false))
    · exact fun hd hcommit hready =>
        exec_live hlive rfl ((castleOfferKv_committed hup hok hc hd hcommit hready).trans (goneBy_accepting k ct.toNat true))
    · exact fun hd hn hready => exec_live hlive rfl (castleOfferKv_unready hup hok hc hd hn hready)
    · exact fun hd hp hlow hhigh =>
        exec_live hlive rfl ((castleCommitreqKv_ahead hup hok hc hd hp hlow hhigh).trans (goneBy_asking k ct.toNat true))

end Sys2Proof.Machine
end

section
/-! The time unit of a chip: its reset values, its commands, and the edges of REFCLK (R30 to R42, R53 to R58, R509). -/

namespace Sys2Proof.Machine

/-! ### Reset and the edges of REFCLK -/

/-- Settles O7: a chip at reset differs from its reset table in the role alone; the KF-120 and every module differ in nothing. -/
theorem resetValues : Obligations.Reset_values := by
  refine ⟨fun c => ?chip, rfl, by decide, by decide, fun a => ⟨rfl, rfl⟩⟩
  case chip => cases c <;> decide

theorem refclk_chip (s : State) (c : Chip) : s.refclk.chip c = refclkEdgeKv (s.kvAt c) := by cases c <;> rfl

theorem toNat_one_mul_setWidth (i : BitVec 40) : BitVec.ofNat 64 (1 * i.toNat) = i.setWidth 64 := by
  rw [Nat.one_mul]
  exact BitVec.eq_of_toNat_eq (by simp)

/-- What a count of REFCLK edges does to the counter and the increment, reload of the replicas or not (R30, R52). -/
theorem Tim.count_shows (t : Tim) (inc : BitVec 40) (k : Nat) :
    (t.count inc k).ns = t.ns + BitVec.ofNat 64 (k * inc.toNat) ∧ (t.count inc k).inc = inc := by
  unfold Tim.count
  dsimp only
  split <;> exact ⟨rfl, rfl⟩

/-- It leaves the tick, its boundary and the mapping as they were. -/
theorem Tim.count_leaves (t : Tim) (inc : BitVec 40) (k : Nat) :
    (t.count inc k).tick = t.tick ∧ (t.count inc k).bn = t.bn ∧ (t.count inc k).mapSec = t.mapSec ∧
      (t.count inc k).mapNs = t.mapNs ∧ (t.count inc k).mapC = t.mapC := by
  unfold Tim.count
  dsimp only
  split <;> exact ⟨rfl, rfl, rfl, rfl, rfl⟩

/-- One edge while REFCLK is present (R30, R31). -/
theorem refclkEdgeKv_running {k : Kv} (h : k.on Kv.TIM_STAT.REFLOSS = false) :
    refclkEdgeKv k = { k with tim := { (k.tim.count (k.tim.incNext.getD k.tim.inc) 1) with incNext := none } } := by
  simp [refclkEdgeKv, h]

/-- Settles O11: an idle step is one REFCLK edge at each chip, which counts once with the increment that comes into force. -/
theorem refclkEdgeAddsTheIncrement : Obligations.REFCLK_edge_adds_the_increment := by
  refine ⟨fun s hs => ⟨s.refclk, ?idle, fun c hc => ?edge⟩, fun c => by cases c <;> decide⟩
  case idle => rw [step, hs]
  case edge =>
    intro inc
    have hk : (s.kvAt c).on Kv.TIM_STAT.REFLOSS = false := hc
    have hinc : inc = (s.chip c).tim.incNext.getD (s.chip c).tim.inc := by
      cases h : (s.chip c).tim.incNext <;> simp [inc, h]
    obtain ⟨ns_counts, inc_holds⟩ := Tim.count_shows (s.chip c).tim inc 1
    obtain ⟨tick_stays, bn_stays, -⟩ := Tim.count_leaves (s.chip c).tim inc 1
    rw [toNat_one_mul_setWidth] at ns_counts
    rw [hinc] at *
    rw [refclk_chip, refclkEdgeKv_running hk]
    exact ⟨ns_counts, inc_holds, rfl, tick_stays, bn_stays⟩

/-! ### The commands of the time unit -/

/-- A command that a chip takes also while it is held in reset. -/
theorem exec_always {s : State} {c : Chip} {i : Instr} {f : Kv → Kv} {y : Kv} (hi : exec i s = .next (s.onKvAlways c f))
    (hf : f (s.kvAt c) = y) : exec i s = .next (s.setChip c y) := by rw [hi, ← hf]; rfl

section
variable {k : Kv}

theorem when_eq_ite (s : Kv) (b : Bool) (f : Kv → Kv) : s.when b f = if b = true then f s else s := rfl

/-- The read of TIM_TICKL shows the upper bits of the tick, and the boundary time (R34). -/
theorem timTicklReadKv_shows (k : Kv) : (timTicklReadKv k).rd Kv.TIM_TICKH.TH = k.tick / 2 ^ 32 ∧
    (timTicklReadKv k).rd Kv.TIM_BNDRY.B = k.tim.bn.toNat := by
  have htick : k.tick / 2 ^ 32 < 2 ^ Kv.TIM_TICKH.TH.w := by
    have := k.tim.tick.isLt
    simp only [Kv.tick, Kv.TIM_TICKH.TH]
    omega
  have hbn : k.tim.bn.toNat < 2 ^ Kv.TIM_BNDRY.B.w := k.tim.bn.isLt
  refine ⟨?_, (Kv.rd_wr_same _ _ _ _ _).trans (Nat.mod_eq_of_lt hbn)⟩
  rw [timTicklReadKv, Kv.rd_wr_ne _ _ (by decide), Kv.rd_wr_same, Nat.mod_eq_of_lt htick]

theorem timInciWriteKv_free (v : Nat) (h : k.servoRuns = false) : timInciWriteKv v k =
    let inc := v % 256 * 2 ^ 32 + k.rd Kv.TIM_INCF.INCF
    if 9995 * 2 ^ 32 ≤ inc * 1000 ∧ inc * 1000 ≤ 10005 * 2 ^ 32 then
      { k.wr Kv.TIM_INCI.INCI v with tim := { k.tim with incNext := some (BitVec.ofNat 40 inc) } }
    else k.raise Src.REGACC 18 Kv.TIM_INCI.INCI.base := by
  simp only [timInciWriteKv, h, Bool.false_eq_true, if_false, incInRange, decide_eq_true_eq, Kv.regacc]

/-- A refused setting of the tick length or of the spreading is marked and reported (R56, R57). -/
def Kv.spreadRefused (k : Kv) (kind : Nat) (F : Fld) : Kv := (k.mark Kv.TIM_STAT.SPRFUSE).raise Src.REGACC kind F.base

theorem timTicklenWriteKv_eq (k : Kv) (v : Nat) : timTicklenWriteKv v k =
    let len := v % 2 ^ 13
    if k.alignedStandby = true ∨ len = k.rd Kv.TIM_TICKLEN.LEN then k
    else if k.parked = false then k.spreadRefused 17 Kv.TIM_TICKLEN.LEN
    else if 500 ≤ len ∧ len ≤ 8000 ∧ tickFits len k.frameTime (k.on Kv.TIM_SPRD.EN) = true ∧
      (k.on Kv.TIM_SPRD.EN = true → sprdPermitted (k.rd Kv.TIM_SPRD.K) len = true) then k.wr Kv.TIM_TICKLEN.LEN len
    else k.spreadRefused 18 Kv.TIM_TICKLEN.LEN := by
  have permitted : ∀ len : Nat, (500 ≤ len ∧ len ≤ 8000 ∧ tickFits len k.frameTime (k.on Kv.TIM_SPRD.EN) = true ∧
      (k.on Kv.TIM_SPRD.EN = true → sprdPermitted (k.rd Kv.TIM_SPRD.K) len = true)) ↔
      ¬ ((len < 500 ∨ 8000 < len) ∨ (!tickFits len k.frameTime (k.on Kv.TIM_SPRD.EN)) = true ∨
        (k.on Kv.TIM_SPRD.EN && !sprdPermitted (k.rd Kv.TIM_SPRD.K) len) = true) := by
    intro len
    simp [and_assoc]
  simp only [timTicklenWriteKv, ← ite_or, permitted, ite_not, Bool.not_eq_true', Kv.regacc, Kv.spreadRefused]

/-- A permitted K: what a write of TIM_SPRD comes to (R42, R57). -/
theorem timSprdWriteKv_ok {v : Nat} (hk : Kv.TIM_SPRD.K.ok (bits v 1 4) = true) : timSprdWriteKv v k =
    let K := bits v 1 4
    let en := bits v 0 1
    let ns := K * k.rd Kv.TIM_TICKLEN.LEN * 10
    if k.alignedStandby = true ∨ (K = k.rd Kv.TIM_SPRD.K ∧ en = k.rd Kv.TIM_SPRD.EN) then k
    else if k.parked = false then k.spreadRefused 17 Kv.TIM_SPRD.K
    else if en = 0 ∨ (25 * ns ≤ 1000000 ∧ 1000000 ≤ 45 * ns) then (k.wr Kv.TIM_SPRD.K K).wr Kv.TIM_SPRD.EN en
    else k.spreadRefused 18 Kv.TIM_SPRD.K := by
  have hen : bits v 0 1 = 0 ∨ bits v 0 1 = 1 := by
    simp only [bits]
    omega
  have permitted : ∀ ns : Nat, (bits v 0 1 = 0 ∨ (25 * ns ≤ 1000000 ∧ 1000000 ≤ 45 * ns)) ↔
      ¬ (bits v 0 1 = 1 ∧ (!decide (25 * ns ≤ 1000000 ∧ 1000000 ≤ 45 * ns)) = true) := by
    intro ns
    rcases hen with hen | hen <;> simp [hen, not_lt]
  simp only [timSprdWriteKv, hk, if_true, Bool.not_true, Kv.when_false, ← ite_or, permitted, ite_not, sprdPermitted, Bool.not_eq_true',
    Kv.regacc, Kv.spreadRefused]

/-- A reserved K keeps its value and is reported (R10). -/
theorem timSprdWriteKv_reserved {v : Nat} (hk : Kv.TIM_SPRD.K.ok (bits v 1 4) = false) (hs : k.alignedStandby = false)
    (hen : bits v 0 1 = k.rd Kv.TIM_SPRD.EN) : timSprdWriteKv v k = k.raise Src.REGACC 16 Kv.TIM_SPRD.K.base := by
  simp only [timSprdWriteKv, hk, hs, hen, and_self, if_true, Bool.not_false, Kv.when_true, Bool.false_eq_true, if_false, Kv.regacc]

end

/-- Settles O9: each command by its own equation. -/
theorem timeUnitCommands : Obligations.Time_unit_commands := by
  intro s c v mv k goes inc len K en bad lost apart
  have hv : v.toNat % 2 ^ 32 = v.toNat := Nat.mod_eq_of_lt v.isLt
  refine ⟨fun hlive => ⟨?tickl, fun hd ha => ?aligned, fun hs => ?servo, fun hs => ?inci, ?ticklen, fun hk => ?sprd,
    fun hk hs he => ?reserved, ?cbase, ?stale⟩, ?refclk, ?region⟩
  case tickl => exact ⟨exec_live hlive rfl rfl, timTicklReadKv_shows k⟩
  case aligned => exact exec_live hlive rfl (by simp [alignedSetKv, Kv.when, hd, ha, k])
  case servo => exact exec_live hlive rfl (if_pos hs)
  case inci => exact exec_live hlive rfl (timInciWriteKv_free _ hs)
  case ticklen => exact exec_live hlive rfl (timTicklenWriteKv_eq k _)
  case sprd => exact exec_live hlive rfl (timSprdWriteKv_ok hk)
  case reserved => exact exec_live hlive rfl (timSprdWriteKv_reserved hk hs he)
  case cbase => exact exec_live hlive rfl (by rw [timCbaseWriteKv, hv]; rfl)
  case stale => exact exec_live hlive rfl (by simp only [mappingStaleKv, when_eq_ite, decide_eq_true_eq]; rfl)
  case refclk => exact exec_always rfl rfl
  case region =>
    refine exec_always rfl ?_
    by_cases h : mv.toNat ≤ 50
    · rw [if_pos h, regionDifferenceKv, decide_eq_false (by omega)]
      rfl
    · rw [if_neg h, regionDifferenceKv, decide_eq_true (by omega)]
      rfl

end Sys2Proof.Machine
end

section
/-! What the work of a module at a tick boundary leaves alone: its time base, what it holds for later ticks, the guard's count of silence
and CTM_STAT.FREE (R33, R41, R49, R112, R134, R151). -/

namespace Sys2Proof.Machine

/-- At a module only the time base and the bookkeeping of a tick boundary change what these fields show. -/
@[simp] abbrev Cell.SameTime (t s : Cell) : Prop :=
  t.tick = s.tick ∧ t.gen.bT = s.gen.bT ∧ t.hdr = s.hdr ∧ t.grd.quiet = s.grd.quiet ∧ t.copies = s.copies ∧ t.wa = s.wa ∧
    Kc.CTM_STAT.FREE.get 0 0 t.regs = Kc.CTM_STAT.FREE.get 0 0 s.regs

namespace Cell

theorem SameTime.rfl {s : Cell} : s.SameTime s := ⟨Eq.refl _, Eq.refl _, Eq.refl _, Eq.refl _, Eq.refl _, Eq.refl _, Eq.refl _⟩

theorem SameTime.trans {r s t : Cell} (a : t.SameTime s) (b : s.SameTime r) : t.SameTime r :=
  ⟨a.1.trans b.1, a.2.1.trans b.2.1, a.2.2.1.trans b.2.2.1, a.2.2.2.1.trans b.2.2.2.1, a.2.2.2.2.1.trans b.2.2.2.2.1,
    a.2.2.2.2.2.1.trans b.2.2.2.2.2.1, a.2.2.2.2.2.2.trans b.2.2.2.2.2.2⟩

/-- A fold whose every step leaves them alone does. -/
theorem sameTime_foldl {α : Type} {f : Cell → α → Cell} (h : ∀ s x, (f s x).SameTime s) (l : List α) (s : Cell) :
    (l.foldl f s).SameTime s := by
  induction l generalizing s with
  | nil => exact .rfl
  | cons x l ih => exact (ih (f s x)).trans (h s x)

variable (s : Cell)

theorem sameTime_when (b : Bool) {f : Cell → Cell} (h : (f s).SameTime s) : (s.when b f).SameTime s := by
  cases b
  · exact .rfl
  · exact h

/-! ### Registers, events, outputs -/

@[simp] theorem sameTime_wr {F : Fld} (v i : Nat) (h : Kc.CTM_STAT.FREE.key 0 0 ≠ F.key i 0) : (s.wr F v i).SameTime s :=
  ⟨rfl, rfl, rfl, rfl, rfl, rfl, Fld.get_set_ne _ _ h⟩

@[simp] theorem sameTime_onMeas (f : CellMeas → CellMeas) : (s.onMeas f).SameTime s := .rfl

@[simp] theorem sameTime_onPort (p : Port) (f : CellPort → CellPort) : (s.onPort p f).SameTime s := by
  cases p <;> exact .rfl

@[simp] theorem sameTime_event (n : Nat) : (s.event n).SameTime s := by
  unfold Cell.event Cell.when
  dsimp only
  split <;> simp (disch := decide)

theorem sameTime_count {F G : Fld} (i : Nat) (hF : Kc.CTM_STAT.FREE.key 0 0 ≠ F.key i 0) (hG : Kc.CTM_STAT.FREE.key 0 0 ≠ G.key i 0) :
    (s.count F G i).SameTime s := by
  unfold Cell.count Cell.mark
  dsimp only
  split
  · exact .rfl
  split <;> simp [hF, hG]

@[simp] theorem sameTime_setG (t g : Nat) : (s.setG t g).SameTime s := by
  unfold Cell.setG
  simp (disch := decide)

@[simp] theorem sameTime_syncJ3 : s.syncJ3.SameTime s := by
  unfold Cell.syncJ3
  simp (disch := decide)

/-! ### The switching generator -/

@[simp] theorem sameTime_drive (t target : Nat) : (s.drive t target).SameTime s := by
  have off : ∀ (s : Cell) (i : Nat), (Cell.gateOff t target s i).SameTime s := by
    intro s i
    unfold Cell.gateOff
    split
    · exact .rfl
    dsimp only
    split <;> simp
  have on : ∀ (s : Cell) (i : Nat), (Cell.gateOn t target s i).SameTime s := by
    intro s i
    unfold Cell.gateOn
    dsimp only
    split
    · exact .rfl
    generalize (if Tab.get 0 (partner i) s.gen.off = 0 then t else max t (Tab.get 0 (partner i) s.gen.off - 1 + s.deadTime i)) = due
    split <;> simp
  exact (sameTime_foldl on _ _).trans (sameTime_foldl off _ _)

@[simp] theorem sameTime_pulse : s.pulse.SameTime s :=
  (sameTime_event _ _).trans (sameTime_count s 0 (by decide) (by decide))

@[simp] theorem sameTime_genEnter (t st : Nat) : (s.genEnter t st).SameTime s := by
  unfold Cell.genEnter
  split
  · exact .rfl
  · simp (disch := decide)

@[simp] theorem sameTime_genEdge (t st : Nat) : (s.genEdge t st).SameTime s := by
  unfold Cell.genEdge
  split
  · exact .rfl
  split <;> simp

@[simp] theorem sameTime_genChange (t st : Nat) : (s.genChange t st).SameTime s := by
  unfold Cell.genChange
  split
  · exact .rfl
  split
  · simp (disch := decide)
  split
  · exact .rfl
  dsimp only
  split
  · exact .rfl
  split
  · split <;> simp
  · simp

@[simp] theorem sameTime_genStretchEnd : s.genStretchEnd.SameTime s := by
  unfold Cell.genStretchEnd
  split
  · dsimp only
    split <;> simp
  · exact .rfl

@[simp] theorem sameTime_genTurnOn (i : Nat) : (s.genTurnOn i).SameTime s := by
  unfold Cell.genTurnOn
  dsimp only
  split
  · exact .rfl
  split <;> simp

theorem sameTime_genFire (what : Nat) : (s.genFire what).SameTime s := by
  unfold Cell.genFire
  split
  · split <;> simp
  · exact s.sameTime_genStretchEnd
  · exact s.sameTime_genTurnOn _

@[simp] theorem sameTime_genTo (t : Nat) : (s.genTo t).SameTime s := by
  have advance : ∀ (n : Nat) (s : Cell), (Cell.genAdvance t n s).SameTime s := by
    intro n
    induction n with
    | zero => exact fun _ => .rfl
    | succ n ih =>
      intro s
      unfold Cell.genAdvance
      split
      · split
        · exact (ih _).trans (sameTime_genFire _ _)
        · exact .rfl
      · exact .rfl
  exact advance 16 s

@[simp] theorem sameTime_genPlan (p : List (Nat × Nat)) : (s.genPlan p).SameTime s := by
  unfold Cell.genPlan
  split
  · split <;> simp
  · exact .rfl

@[simp] theorem sameTime_countVoid (a b c d e : Nat) : (s.countVoid a b c d e).SameTime s :=
  sameTime_foldl (fun s _ => s.sameTime_count 0 (by decide) (by decide)) _ _

@[simp] theorem sameTime_force (t : Nat) : (s.force t).SameTime s := by
  unfold Cell.force Cell.when
  dsimp only
  split <;> simp (disch := decide)

@[simp] theorem sameTime_redrive : s.redrive.SameTime s := by
  unfold Cell.redrive
  split <;> simp

/-! ### Capture -/

@[simp] theorem sameTime_capFire (src : Nat) : (s.capFire src).SameTime s := by
  unfold Cell.capFire
  split <;> simp

@[simp] theorem sameTime_capPlace (src idx t : Nat) : (s.capPlace src idx t).SameTime s := by
  unfold Cell.capPlace
  simp (disch := decide)

@[simp] theorem sameTime_capEnterPost : s.capEnterPost.SameTime s := by
  unfold Cell.capEnterPost
  simp (disch := decide)

@[simp] theorem sameTime_capTrigger (src t : Nat) : (s.capTrigger src t).SameTime s := by
  unfold Cell.capTrigger
  split
  · dsimp only
    split
    · simp
    split
    · split <;> simp
    · exact .rfl
  · exact .rfl

@[simp] theorem sameTime_capArm (t : Nat) : (s.capArm t).SameTime s := by
  unfold Cell.capArm
  split
  · simp (disch := decide)
  · exact .rfl

@[simp] theorem sameTime_capBoundary : s.capBoundary.SameTime s := by
  unfold Cell.capBoundary Cell.mark
  split
  · exact .rfl
  split
  · exact .rfl
  · simp (disch := decide)

/-! ### Trips -/

@[simp] theorem sameTime_trip (i t : Nat) : (s.trip i t).SameTime s := by
  unfold Cell.trip Cell.mark
  dsimp only
  split <;> simp (disch := decide)

@[simp] theorem sameTime_tripEnabled (t : Nat) : (s.tripEnabled t).SameTime s := by
  refine sameTime_foldl (fun s i => ?_) _ _
  split
  · exact s.sameTime_trip i t
  · exact .rfl

@[simp] theorem sameTime_tripClear (act : Nat) : (s.tripClear act).1.SameTime s := by
  unfold Cell.tripClear
  dsimp only
  split
  · simp (disch := decide)
  split <;> simp (disch := decide)

/-! ### A tick is applied -/

@[simp] theorem sameTime_disarm : s.disarm.SameTime s := by
  unfold Cell.disarm
  simp (disch := decide)

@[simp] theorem sameTime_disOff : s.disOff.SameTime s := by
  unfold Cell.disOff
  simp (disch := decide)

@[simp] theorem sameTime_applyPark : s.applyPark.SameTime s := by
  unfold Cell.applyPark
  simp

@[simp] theorem sameTime_applyLocal : s.applyLocal.SameTime s := by
  unfold Cell.applyLocal
  simp

@[simp] theorem sameTime_applyActive (c : Nat) : (s.applyActive c).SameTime s := by
  unfold Cell.applyActive
  dsimp only
  split <;> simp

@[simp] theorem sameTime_applyHold : s.applyHold.SameTime s := by
  unfold Cell.applyHold
  dsimp only
  split <;> simp

@[simp] theorem sameTime_applyBypass (side : Nat) : (s.applyBypass side).SameTime s := by
  unfold Cell.applyBypass Cell.mark
  split
  · split
    · exact .rfl
    dsimp only
    split <;> simp (disch := decide)
  · simp (disch := decide)

@[simp] theorem sameTime_applyDischarge : s.applyDischarge.SameTime s := by
  unfold Cell.applyDischarge Cell.mark Cell.when
  dsimp only
  split <;> simp (disch := decide)

@[simp] theorem sameTime_applySensor : s.applySensor.SameTime s :=
  (sameTime_when _ _ (sameTime_event _ _)).trans s.sameTime_applyPark

@[simp] theorem sameTime_applySensorRole (mode : Nat) : (s.applySensorRole mode).SameTime s :=
  (sameTime_when _ _ (sameTime_event _ _)).trans s.sameTime_applyPark

@[simp] theorem sameTime_applyMode (c : Nat) : (s.applyMode c).SameTime s := by
  unfold Cell.applyMode
  split
  · exact .rfl
  split
  · exact s.sameTime_applySensorRole _
  split
  · exact s.sameTime_applyPark
  · exact s.sameTime_applyActive c
  · exact s.sameTime_applyHold
  · exact s.sameTime_applyBypass _
  · exact s.sameTime_applyDischarge
  · exact s.sameTime_applySensor

@[simp] theorem sameTime_holdTick : s.holdTick.SameTime s := by
  unfold Cell.holdTick Cell.when
  dsimp only
  split <;> split
  · simp
  · split <;> simp
  · exact .rfl
  · split <;> simp

theorem latchTally_eq (no : Nat) : ∃ t, s.latchTally no = { s with tallyReq := none, tallyAt := some s.tick, tally := t } := ⟨_, rfl⟩

@[simp] theorem sameTime_latchTally (no : Nat) : (s.latchTally no).SameTime s := by
  obtain ⟨t, latched⟩ := s.latchTally_eq no
  rw [latched]
  exact .rfl

theorem sameTime_bcmdTally (no : Nat) : (s.bcmdTally no).SameTime s := by
  unfold Cell.bcmdTally
  split
  · exact .rfl
  · exact s.sameTime_latchTally no

theorem sameTime_ack (src : Nat) : (s.ack src).SameTime s := by
  unfold Cell.ack Cell.when
  split <;> simp (disch := decide)

theorem sameTime_bcmd (c act : Nat) : (s.bcmd c act).1.SameTime s := by
  unfold Cell.bcmd
  split
  · exact s.sameTime_bcmdTally _
  · exact s.sameTime_capArm _
  · exact s.sameTime_tripClear act
  · exact .rfl
  · exact s.sameTime_ack _
  · exact .rfl

@[simp] theorem sameTime_applyTick (staged : Option Copy) (act : Nat) : (s.applyTick staged act).SameTime s := by
  cases staged with
  | none => exact s.sameTime_holdTick
  | some c =>
    have obeyed := fun o => ({ s with hold := 0, holding := false, obey := o, oport := c.port } : Cell).sameTime_bcmd c.slot.toNat act
    unfold Cell.applyTick
    dsimp only
    generalize (if cDuty c.slot.toNat = true then 1 else 2) = o
    split
    · split
      · exact obeyed _
      · exact (sameTime_applyPark _).trans (obeyed _)
    · exact (sameTime_applyMode _ _).trans (obeyed _)

/-! ### The rest of a tick boundary -/

@[simp] theorem sameTime_localBoundary : s.localBoundary.SameTime s := by
  unfold Cell.localBoundary
  dsimp only
  split <;> exact .rfl

@[simp] theorem sameTime_releases : s.releases.SameTime s := by
  unfold Cell.releases
  dsimp only
  split
  · simp (disch := decide)
  · exact .rfl

@[simp] theorem sameTime_slicesBoundary : s.slicesBoundary.SameTime s := by
  unfold Cell.slicesBoundary Cell.logConfig
  dsimp only
  split <;> split
  · simp (disch := decide)
  · split
    · simp (disch := decide)
    · split <;> simp (disch := decide)
  · simp (disch := decide)
  · split
    · simp (disch := decide)
    · split <;> simp (disch := decide)

@[simp] theorem sameTime_restartStep : s.restartStep.SameTime s := by
  unfold Cell.restartStep
  split <;> exact .rfl

@[simp] theorem sameTime_shadowCompare (staged : Option Copy) (t : Nat) : (s.shadowCompare staged t).SameTime s := by
  unfold Cell.shadowCompare
  split
  · split <;> simp
  · exact .rfl

@[simp] theorem sameTime_tallyBoundary : s.tallyBoundary.SameTime s := by
  have latch : ∀ s : Cell, (match s.tallyAt with
      | some t => if 34 < ticksTo t s.tick then { s with tallyAt := none, tally := [] } else s
      | none => s : Cell).SameTime s := by
    intro s
    split
    · split <;> exact .rfl
    · exact .rfl
  unfold Cell.tallyBoundary
  refine (latch _).trans ?_
  split
  · split
    · exact s.sameTime_latchTally _
    · exact .rfl
  · exact .rfl

end Cell
end Sys2Proof.Machine
end

section
/-! The deadline and the boundary of a tick at a module (R33, R41, R43, R49, R118 to R120, R151, R171, R172). -/

namespace Sys2Proof.Machine

/-! ### Line time is filled -/

/-- Filling a gap of the line writes no register, loses no lock and counts no error (R62). -/
theorem hopFill_quiet (F : HopFlds) (c : HopCfg) (i n : Nat) (h : Hop) (r : Tab Nat) :
    (hopFill F c i n { h := h, r := r }).r = r ∧ (hopFill F c i n { h := h, r := r }).lost = false ∧
      (hopFill F c i n { h := h, r := r }).leftUp = false ∧ (hopFill F c i n { h := h, r := r }).errs = 0 := by
  unfold hopFill hopRepeat
  dsimp only
  split
  · exact ⟨rfl, rfl, rfl, rfl⟩
  split <;> split <;> exact ⟨rfl, rfl, rfl, rfl⟩

namespace Cell

theorem sameTime_optStep_fill (s : Cell) (p : Port) (t : Nat) : (s.optStep p (fillStep t)).SameTime s := by
  unfold Cell.optStep fillStep
  split
  · exact .rfl
  obtain ⟨regs, lost, leftUp, errs⟩ := hopFill_quiet optFlds (s.optCfg p.idx) p.idx (t / (s.port p).hop.blockTime) (s.port p).hop s.regs
  simp only [regs, lost, leftUp, errs, List.range_zero, List.foldl_nil, Cell.when_false]
  exact (sameTime_when _ _ (sameTime_wr _ _ _ (by decide))).trans (sameTime_onPort _ _ _)

theorem sameTime_fillLines (s : Cell) (t : Nat) : (s.fillLines t).SameTime s :=
  (sameTime_optStep_fill _ .e t).trans (sameTime_optStep_fill s .w t)

/-! ### The tick that ends -/

/-- The module after the tick that ends has been accounted for (R49, R115, R116). -/
def ended (s : Cell) : Cell := (s.when s.pos.isSome (fun s => s.fixReport s.tick)).positionRun.freeTick

/-- The report of the tick is fixed and the candidate positions are counted: no other state changes. -/
theorem ended_eq (s : Cell) : ∃ rep torn run, s.ended = ({ s with reports := rep, torn := torn, posRun := run } : Cell).freeTick := by
  have fixed : ∃ rep torn, s.when s.pos.isSome (fun s => s.fixReport s.tick) = { s with reports := rep, torn := torn } := by
    cases s.pos.isSome with
    | false => exact ⟨_, _, rfl⟩
    | true =>
      rw [Cell.when_true, Cell.fixReport]
      split <;> exact ⟨_, _, rfl⟩
  obtain ⟨rep, torn, fixed⟩ := fixed
  unfold ended
  rw [fixed]
  unfold Cell.positionRun
  split <;> exact ⟨rep, torn, _, rfl⟩

/-- A header gave the time as it came. -/
theorem freeTick_timed {s : Cell} (h : s.timed = true) : s.freeTick = s := by simp [Cell.freeTick, h]

/-- No header gave the time, and none can: the module runs free (R49). -/
theorem freeTick_free {s : Cell} (h : s.timed = false) (hn : s.endSource = none) :
    s.freeTick = { ((s.mark Kc.CTM_STAT.FREE).wr Kc.CTM_STAT.SLEW 0) with freeRun := s.freeRun + 1 } := by
  simp [Cell.freeTick, h, hn]

/-- Whatever gives the time, what is held for later ticks stays. -/
theorem freeTick_holds (s : Cell) : s.freeTick.copies = s.copies ∧ s.freeTick.wa = s.wa := by
  unfold Cell.freeTick
  dsimp only
  split
  · exact ⟨rfl, rfl⟩
  split
  · split
    · unfold Cell.takeTime
      dsimp only
      split <;> exact ⟨rfl, rfl⟩
    · exact ⟨rfl, rfl⟩
  · exact ⟨rfl, rfl⟩

theorem ended_holds (s : Cell) : s.ended.copies = s.copies ∧ s.ended.wa = s.wa := by
  obtain ⟨rep, torn, run, ended⟩ := s.ended_eq
  rw [ended]
  exact freeTick_holds _

theorem ended_clock {s : Cell} (h : s.timed = true ∨ s.endSource = none) :
    s.ended.tick = s.tick ∧ s.ended.gen.bT = s.gen.bT ∧ s.ended.tickUnits = s.tickUnits := by
  obtain ⟨rep, torn, run, ended⟩ := s.ended_eq
  rw [ended]
  by_cases ht : s.timed = true
  · rw [freeTick_timed (s := { s with reports := rep, torn := torn, posRun := run }) ht]
    exact ⟨rfl, rfl, rfl⟩
  · rw [freeTick_free (s := { s with reports := rep, torn := torn, posRun := run }) (Bool.eq_false_of_not_eq_true ht)
      (h.resolve_left ht)]
    exact ⟨rfl, rfl, rfl⟩

theorem ended_free {s : Cell} (h : s.timed = false) (hn : s.endSource = none) : s.ended.on Kc.CTM_STAT.FREE = true := by
  obtain ⟨rep, torn, run, ended⟩ := s.ended_eq
  rw [ended, freeTick_free (s := { s with reports := rep, torn := torn, posRun := run }) h hn]
  show (((({ s with reports := rep, torn := torn, posRun := run } : Cell).mark Kc.CTM_STAT.FREE).wr Kc.CTM_STAT.SLEW 0).on
    Kc.CTM_STAT.FREE) = true
  rw [Cell.on_wr_ne _ _ (by decide), Cell.on, Cell.mark, Cell.rd_wr_same]
  rfl

/-! ### The tick that begins -/

/-- The length of the tick is its header's. -/
theorem tickUnits_congr {v w : Cell} (h : v.hdr = w.hdr) : v.tickUnits = w.tickUnits := by unfold Cell.tickUnits; rw [h]

/-- The module at the boundary, its time moved on and its heartbeat toggled (R41, R43, R151). -/
def begun (s : Cell) : Cell :=
  let v := ((s.fillLines (s.tickUnits * 25 / 2)).portBoundary .w).portBoundary .e
  (v.genTo (v.gen.bT + v.tickUnits)).nextTick.heartbeat

/-- What the new tick finds done by GEN, measurement, capture and the requests (R148, R172, R177 to R179, R384, R498). -/
def applied (act : Nat) (s : Cell) : Cell :=
  let s := s.restartStep.slicesBoundary.capBoundary.localBoundary.releases
  let staged := if s.stagedFor = s.tick then s.staged else none
  let s := { (s.wr Kc.GEN_TRIP.ACT act) with staged := none }
  let s := ((s.tripEnabled s.gen.bT).applyTick staged act).redrive
  (s.shadowCompare staged s.tick).tallyBoundary

theorem cellTickBoundaryCell_eq {s : Cell} (h : s.runs = true) (act : Nat) :
    cellTickBoundaryCell act s = (s.ended.begun.applied act).forget := by
  simp only [cellTickBoundaryCell, h, Bool.not_true, Bool.false_eq_true, if_false]
  rfl

theorem sameTime_applied (s : Cell) (act : Nat) : (s.applied act).SameTime s := by
  unfold applied
  simp (disch := decide)

theorem begun_shows (s : Cell) : s.begun.tick = (s.tick + 1) % 2 ^ 48 ∧ s.begun.gen.bT = s.gen.bT + s.tickUnits ∧
    s.begun.grd.quiet = none ∧ s.begun.copies = s.copies ∧ s.begun.wa = s.wa ∧
    Kc.CTM_STAT.FREE.get 0 0 s.begun.regs = Kc.CTM_STAT.FREE.get 0 0 s.regs := by
  have ports : (((s.fillLines (s.tickUnits * 25 / 2)).portBoundary .w).portBoundary .e).SameTime s :=
    (sameTime_onPort _ _ _).trans ((sameTime_onPort _ _ _).trans (s.sameTime_fillLines _))
  unfold begun
  extract_lets v
  obtain ⟨tick, bT, hdr, -, copies, wa, free⟩ : (v.genTo (v.gen.bT + v.tickUnits)).SameTime s := (v.sameTime_genTo _).trans ports
  have units : (v.genTo (v.gen.bT + v.tickUnits)).tickUnits = s.tickUnits := tickUnits_congr hdr
  generalize v.genTo (v.gen.bT + v.tickUnits) = w at *
  have woken : w.nextTick.heartbeat.SameTime { w.nextTick with grd := { w.grd with quiet := none, mdNew := false } } :=
    sameTime_when _ _ (sameTime_event _ _)
  obtain ⟨tick', bT', -, quiet', copies', wa', free'⟩ := woken
  refine ⟨tick'.trans ?_, bT'.trans ?_, quiet', copies'.trans copies, wa'.trans wa, free'.trans free⟩
  · rw [← tick]
    rfl
  · rw [← bT, ← units]
    rfl

end Cell

/-! ### The commands -/

/-- A command on a module. -/
theorem exec_cell {s : State} {a : BitVec 13} {i : Instr} {f : Cell → Cell} {y : Cell} (hi : exec i s = .next (s.onCell a f))
    (hf : f (s.kcAt a) = y) : exec i s = .next (s.setCell a y) := by rw [hi, State.onCell_eq, hf]

/-- At the deadline GEN runs up to it, and the copy obeyed in the next tick is staged (R118, R119). -/
theorem cellCommandDeadlineCell_eq {x : Cell} (h : x.runs = true) : cellCommandDeadlineCell x =
    let next := (x.tick + 1) % 2 ^ 48
    let y := { x.genTo (x.gen.bT + x.tickUnits - 128) with staged := (x.select next).1, stagedFor := next }
    if (x.select next).2 then y.event Ev.DCONF else y := by
  simp only [cellCommandDeadlineCell, h, if_true]
  rfl

/-- What the boundary of a tick leaves (R33, R41, R49, R112, R134, R151, R172). -/
theorem cellTickBoundaryCell_shows {x : Cell} (h : x.runs = true) (act : Nat) :
    let y := cellTickBoundaryCell act x
    (x.timed = true ∨ x.endSource = none → y.tick = (x.tick + 1) % 2 ^ 48 ∧ y.gen.bT = x.gen.bT + x.tickUnits) ∧
      (x.timed = false → x.endSource = none → y.on Kc.CTM_STAT.FREE = true) ∧ y.grd.quiet = none ∧ y.staged = none ∧
      (∀ c ∈ y.copies, c ∈ x.copies ∧ tickAhead y.tick c.target = true) ∧
      (∀ w ∈ y.wa, w ∈ x.wa ∧ tickAhead w.2.2 y.tick = false) := by
  rw [Cell.cellTickBoundaryCell_eq h]
  obtain ⟨tick, bT, -, quiet, copies, wa, free⟩ := x.ended.begun.sameTime_applied act
  obtain ⟨tick', bT', quiet', copies', wa', free'⟩ := x.ended.begun_shows
  obtain ⟨copies'', wa''⟩ := x.ended_holds
  generalize x.ended.begun.applied act = z at *
  refine ⟨fun hc => ?_, fun ht hn => ?_, quiet.trans quiet', rfl, fun c hc => ?_, fun w hw => ?_⟩
  · obtain ⟨tick'', bT'', units⟩ := Cell.ended_clock hc
    exact ⟨by rw [← tick'', ← tick', ← tick]; rfl, by rw [← bT'', ← units, ← bT', ← bT]; rfl⟩
  · have shown : z.on Kc.CTM_STAT.FREE = x.ended.on Kc.CTM_STAT.FREE := congrArg (· == 1) (free.trans free')
    exact shown.trans (Cell.ended_free ht hn)
  · obtain ⟨held, ahead⟩ := List.mem_filter.mp (show c ∈ z.copies.filter (fun c => tickAhead z.tick c.target) from hc)
    exact ⟨by rwa [copies, copies', copies''] at held, ahead⟩
  · obtain ⟨held, due⟩ := List.mem_filter.mp (show w ∈ z.wa.filter (fun a => !tickAhead a.2.2 z.tick) from hw)
    exact ⟨by rwa [wa, wa', wa''] at held, show tickAhead w.2.2 z.tick = false by simpa using due⟩

/-- Settles O16: the deadline and the hold limit by their equations, the boundary by what its stages leave alone. -/
theorem moduleBoundaryAndDeadline : Obligations.Module_boundary_and_deadline := by
  intro s a act x next
  have runs (hon : x.mainOn = true) (hheld : x.held = false) : x.runs = true := by simp [Cell.runs, hon, hheld]
  refine ⟨fun hon hheld => ?deadline, fun hon hheld => ?boundary, fun hh hl hd => ?limit⟩
  case deadline => exact exec_cell rfl (cellCommandDeadlineCell_eq (runs hon hheld))
  case boundary => exact ⟨_, exec_cell rfl rfl, cellTickBoundaryCell_shows (runs hon hheld) act.toNat⟩
  case limit => exact exec_cell rfl (by simp [holdLimitCell, hh, hl, hd, x])

end Sys2Proof.Machine
end

section
/-! A frame passes a module: its header, the command slot, the report, the trailer, and a lock lost in its midst (R43 to R46, R70, R102,
R104 to R116). -/

namespace Sys2Proof.Machine

namespace Cell

/-! ### Sending keeps the position -/

theorem pos_onPort (s : Cell) (p : Port) (f : CellPort → CellPort) : (s.onPort p f).pos = s.pos := by cases p <;> rfl

theorem pos_when (s : Cell) (b : Bool) {f : Cell → Cell} (h : ∀ t, (f t).pos = t.pos) : (s.when b f).pos = s.pos := by
  cases b
  · rfl
  · exact h s

theorem pos_count (s : Cell) (F G : Fld) (i : Nat) : (s.count F G i).pos = s.pos := by
  unfold Cell.count Cell.mark
  dsimp only
  split
  · rfl
  split <;> rfl

theorem pos_event (s : Cell) (n : Nat) : (s.event n).pos = s.pos := pos_when _ _ fun _ => rfl

theorem pos_foldl {α : Type} {f : Cell → α → Cell} (h : ∀ s x, (f s x).pos = s.pos) (l : List α) (s : Cell) :
    (l.foldl f s).pos = s.pos := by
  induction l generalizing s with
  | nil => rfl
  | cons x l ih => exact (ih (f s x)).trans (h s x)

theorem pos_optStep (s : Cell) (p : Port) (f : HopStep) : (s.optStep p f).pos = s.pos := by
  unfold Cell.optStep
  split
  · rfl
  dsimp only
  generalize f optFlds (s.optCfg p.idx) p.idx { h := (s.port p).hop, r := s.regs } = r
  rw [pos_when (f := fun s => s.wr Kc.OPT_PT.TRIES 0) _ _ fun _ => rfl, pos_when _ _ fun t => pos_event t _,
    pos_when _ _ fun t => (pos_onPort _ _ _).trans (pos_count t _ _ _), pos_foldl fun t _ => pos_count t _ _ _, pos_onPort]

/-- The report of a dropped position leaves the position held as it is. -/
theorem pos_writePlace (s : Cell) (p : Port) (addr n : Nat) : (s.writePlace p addr n).pos = s.pos :=
  (pos_onPort _ _ _).trans (pos_optStep _ _ _)

/-! ### Headers -/

/-- The hops of the module are in one line mode, and frames go on. -/
theorem passes_iff (s : Cell) : (s.forwards && s.sameMode) = true ↔ s.forwards = true ∧ s.w.hop.service = s.e.hop.service := by
  simp [Cell.sameMode]

/-- A header as it goes on, or not at all, once `y` is what the module made of it (R46, R105, R106). -/
def passOn (y : Cell) (p : Port) (h : Header) (cyc frac lat str : Nat) (good : Bool) : Cell :=
  let q := p.other
  if y.forwards && y.sameMode then
    let out := y.forwardHeader q h lat
    let y := y.onPort q (fun r => { r with sent := some (toBits 64 (y.instant cyc frac + lat)) })
    let y := y.onPort p (fun r => { r with pass := some out, passing := true, voided := false, filled := false, sentHop := out.hop.toNat })
    (y.putHeader q (out.seal str good)).gapped q
  else y.onPort p (fun r => { r with pass := none, passing := false, voided := false, filled := false })

theorem headerReceivedCell_valid {x : Cell} {p : Port} {h : Header} (hx : x.live = true) (hv : h.valid (x.checkStr h) = true)
    (cyc frac lat : Nat) (ppm : Int) : headerReceivedCell p h cyc frac lat ppm x =
      ((x.takeHeader p h (x.instant cyc frac) ppm).onPort p (fun r => { r with hop := r.hop.unknownRx })).passOn p h cyc frac lat
        (x.checkStr h) true := by
  simp only [headerReceivedCell, hx, hv, Bool.not_true, Bool.false_eq_true, if_false, if_true]
  rfl

theorem headerReceivedCell_invalid {x : Cell} {p : Port} {h : Header} (hx : x.live = true) (hv : h.valid (x.checkStr h) = false)
    (cyc frac lat : Nat) (ppm : Int) : headerReceivedCell p h cyc frac lat ppm x =
      ((x.onPort p (fun q => { q with inFrame := none, badFrame := true, seen := false })).onPort p
        (fun r => { r with hop := r.hop.unknownRx })).passOn p h cyc frac lat (x.checkStr h) false := by
  simp only [headerReceivedCell, hx, hv, Bool.not_true, Bool.false_eq_true, if_false]
  rfl

/-- A placed module gives its own position; any other hands on what the header has (R106). -/
theorem forwardHeader_position (y : Cell) (q : Port) (h : Header) (lat : Nat) :
    (∀ k, y.pos = some k → (y.forwardHeader q h lat).lpos = BitVec.ofNat 9 k ∧
      (y.forwardHeader q h lat).lhop = (y.forwardHeader q h lat).hop) ∧
    (y.pos = none → (y.forwardHeader q h lat).lpos = h.lpos ∧ (y.forwardHeader q h lat).lhop = h.lhop) := by
  refine ⟨fun k hk => ?_, fun hn => ?_⟩
  · simp [Cell.forwardHeader, hk]
  · simp [Cell.forwardHeader, hn]

/-! ### Slots -/

theorem commandSlotReceivedCell_holds {x : Cell} {p : Port} {h : Header} {c : CmdSlot} (hx : x.live = true) (hp : x.pos.isSome = true)
    (hf : x.w.folded = false ∨ x.e.folded = false) (hh : (x.port p).inFrame = some h) (hv : (x.port p).voided = false)
    (hc : copyValid h x.addr c = true) : commandSlotReceivedCell p c x =
      { x with copies := x.copies ++ [⟨p, h.target, h.cseq.toNat, c, !tickAhead x.stagedFor h.target⟩] } := by
  have open_ : (x.w.folded && x.e.folded) = false := Bool.and_eq_false_iff.mpr hf
  simp only [commandSlotReceivedCell, hh, hx, hp, open_, hv, hc, Bool.not_false, Bool.and_self, if_true]

/-- The tick of the frame in passage is its header's. -/
theorem passTick_eq {x : Cell} {p : Port} {h : Header} (hh : (x.port p).pass = some h) : x.passTick p = h.tickno.toNat := by
  simp only [Cell.passTick, hh]

/-- A placed module fixes its report and writes it (R116). -/
theorem writeOwn_placed {x : Cell} (hp : x.pos.isSome = true) (p : Port) (n : Nat) : x.writeOwn p n =
    ((((x.fixReport n).putSlots p.other [(3, (x.fixReport n).reportSlot n (p == .w))]).gapped p.other).wrote n) := by
  simp only [Cell.writeOwn, hp, if_true]

/-- Which slot comes first in the frame (R100). -/
theorem slotBefore_iff (x : Cell) (p : Port) (addr : Nat) : x.slotBefore p addr = true ↔
    (p = .w ∧ addr % 256 < x.addr % 256) ∨ (p = .e ∧ x.addr % 256 < addr % 256) := by
  cases p <;> simp [Cell.slotBefore]

section
variable {x : Cell} {p : Port} {h : Header} (hx : x.live = true) (hp : (x.port p).passing = true) (hh : (x.port p).pass = some h)
include hx hp hh

theorem reportSlotWriteCell_own (ht : ∀ e, x.place = some e → h.tickno.toNat ≠ e.2) :
    reportSlotWriteCell p x = x.writeOwn p h.tickno.toNat := by
  simp only [reportSlotWriteCell, hx, hp, Bool.and_self, if_true, passTick_eq hh]
  split
  case h_1 addr t hplace => exact if_pos (ht _ hplace)
  case h_2 => rfl

theorem reportSlotWriteCell_place {addr : Nat} (ht : x.place = some (addr, h.tickno.toNat)) (ha : x.pos = none ∨ x.addr = addr) :
    reportSlotWriteCell p x = x.writePlace p addr h.tickno.toNat := by
  have here : (x.pos.isNone || x.addr == addr) = true := by simpa using ha
  simp only [reportSlotWriteCell, hx, hp, Bool.and_self, if_true, passTick_eq hh, ht, ne_eq, not_true_eq_false, if_false, here]

theorem reportSlotWriteCell_both {addr : Nat} (ht : x.place = some (addr, h.tickno.toNat)) (hpos : x.pos.isSome = true)
    (ha : x.addr ≠ addr) : reportSlotWriteCell p x =
      if x.slotBefore p addr = true then (x.writePlace p addr h.tickno.toNat).writeOwn p h.tickno.toNat
      else (x.writeOwn p h.tickno.toNat).writePlace p addr h.tickno.toNat := by
  have apart : (x.pos.isNone || x.addr == addr) = false := by simp [ha, hpos]
  simp only [reportSlotWriteCell, hx, hp, Bool.and_self, if_true, passTick_eq hh, ht, ne_eq, not_true_eq_false, if_false, apart,
    Bool.false_eq_true]

/-! ### Trailers and a lost lock -/

theorem trailerForwardCell_placed (hpos : x.pos.isSome = true) (tr0 : Trailer) (t : Nat) : trailerForwardCell p tr0 t x =
    let q := p.other
    let n := h.tickno.toNat
    let tr := if (x.port p).voided then { cfire := false, fpos := 0, evtany := false, nlive := 0, tcrc := 0 } else tr0
    let good := tr.valid x.str n && !(x.port p).voided
    let y := ((x.frameEnd p).onPort q (fun r => { r with evAny := false, fire := false })).putTrailer q
      ((x.markTrailer q (x.port p).sentHop tr).seal x.str n good)
    if good && tr.cfire then y.capTrigger 7 (y.gen.bT + t) else y := by
  simp only [trailerForwardCell, hx, hp, Bool.and_self, if_true, passTick_eq hh, hpos]
  rfl

omit hx in
/-- A frame in passage is completed with void slots, once (R70). -/
theorem voidFrame_passing (hf : (x.port p).filled = false) (blk : Nat) (part : Option Header) : x.voidFrame p blk part =
    let y := x.onPort p (fun r => { r with inFrame := none, voided := true, filled := true })
    y.putSlots p.other (y.voidSlots h h.str.toNat h.tickno.toNat (max 32 blk) none) := by
  have marked : (x.onPort p (fun r => { r with inFrame := none })).onPort p (fun r => { r with voided := true, filled := true }) =
      x.onPort p (fun r => { r with inFrame := none, voided := true, filled := true }) := by cases p <;> rfl
  simp only [Cell.voidFrame, hp, hh, hf, if_true, Bool.false_eq_true, if_false, marked]

end

/-- A header cut short goes on failing its check, and void slots after it (R70). -/
theorem voidFrame_header {x : Cell} {p : Port} {blk : Nat} (hp : (x.port p).passing = false) (hf : x.forwards = true) (hb : 1 ≤ blk)
    (h : Header) : x.voidFrame p blk (some h) =
      let y := x.onPort p (fun r => { r with inFrame := none })
      let out := ((y.forwardHeader p.other (h.cut blk) 0).cut blk).seal (y.checkStr h) false
      let n := if 2 ≤ blk then h.tickno.toNat else x.tick
      let y := y.onPort p (fun r => { r with
        pass := some { out with tickno := BitVec.ofNat 48 n }, passing := true, voided := true, filled := true, sentHop := out.hop.toNat })
      (y.putHeader p.other out).putSlots p.other (y.voidSlots h h.str.toNat n 32 none) := by
  have goes : (x.onPort p (fun r => { r with inFrame := none })).forwards = true := by cases p <;> exact hf
  have tick : (x.onPort p (fun r => { r with inFrame := none })).tick = x.tick := by cases p <;> rfl
  simp only [Cell.voidFrame, hp, Bool.false_eq_true, if_false, hb, goes, and_self, if_true, tick]

end Cell

/-- A live module fills the frame up. -/
theorem midFrameLockLossCell_live {x : Cell} (hx : x.live = true) (p : Port) (blk : Nat) (part : Option Header) :
    midFrameLockLossCell p blk part x = x.voidFrame p blk part := by simp [midFrameLockLossCell, hx]

/-- Settles O15: each command by its equation for the case at hand. -/
theorem framesPassingAModule : Obligations.Frames_passing_a_module := by
  intro s a p h cyc frac lat t blk ppm slot tr0 x q passed gone stopped r
  have goes (y : Cell) (good : Bool) : y.passOn p h cyc frac lat (x.checkStr h) good =
      if y.forwards = true ∧ y.w.hop.service = y.e.hop.service then passed y (y.forwardHeader q h lat) good else stopped y :=
    if_congr y.passes_iff rfl rfl
  refine ⟨fun hx hv => ?header, fun hx hv => ?bad, fun hx hp hf hh hv hc => ?slot, fun hx hp hh => ?passage,
    fun hx hp hf hb => ?cut, fun c n part hc => ?string, fun c n part => ?castle⟩
  case header =>
    exact ⟨exec_cell rfl ((Cell.headerReceivedCell_valid hx hv cyc frac lat ppm).trans (goes _ true)), rfl, rfl,
      Cell.forwardHeader_position _ q h lat⟩
  case bad => exact exec_cell rfl ((Cell.headerReceivedCell_invalid hx hv cyc frac lat ppm).trans (goes _ false))
  case slot => exact exec_cell rfl (Cell.commandSlotReceivedCell_holds hx hp hf hh hv hc)
  case passage =>
    intro n own place
    have own_eq (y : Cell) (hy : y.pos.isSome = true) : y.writeOwn p n = own y := Cell.writeOwn_placed hy p n
    refine ⟨fun hpos ht => ?own, fun addr ht ha => ?place, fun addr ht hpos ha => ?both, fun hpos => ?trailer, fun hf part => ?void⟩
    case own => exact exec_cell rfl ((Cell.reportSlotWriteCell_own hx hp hh ht).trans (own_eq x hpos))
    case place => exact exec_cell rfl (Cell.reportSlotWriteCell_place hx hp hh ht ha)
    case both =>
      have placed : (place addr x).pos.isSome = true := (congrArg Option.isSome (Cell.pos_writePlace x p addr n)).trans hpos
      exact exec_cell rfl ((Cell.reportSlotWriteCell_both hx hp hh ht hpos ha).trans
        (if_congr (x.slotBefore_iff p addr) (own_eq _ placed) (congrArg (place addr) (own_eq x hpos))))
    case trailer => exact ⟨exec_cell rfl (Cell.trailerForwardCell_placed hx hp hh hpos tr0 t), rfl, rfl, rfl⟩
    case void => exact exec_cell rfl ((midFrameLockLossCell_live hx p blk part).trans (Cell.voidFrame_passing hp hh hf blk part))
  case cut => exact exec_cell rfl ((midFrameLockLossCell_live hx p blk _).trans (Cell.voidFrame_header hp hf hb h))
  case string => exact exec_live hc rfl rfl
  case castle => rfl

end Sys2Proof.Machine
end

section
/-! The castle link, the service of a string port and the handshake of its power (R71 to R78, R84 to R88). -/

namespace Sys2Proof.Machine

/-! ### Sets of lanes -/

/-- Writing a bit that is off. -/
theorem bit_setBit_of_off {v i : Nat} (h : bit v i = false) (b : Bool) (j : Nat) : bit (setBit v i b) j = ((decide (j = i) && b) || bit v j) := by
  cases b with
  | true => simp [bit_setBit_true]
  | false =>
    have zero : bits v i 1 = 0 := by
      have := Nat.testBit_eq_decide_div_mod_eq (x := v) (i := i)
      rw [show v.testBit i = false from h] at this
      have := of_decide_eq_false this.symm
      simp only [bits]
      omega
    simp [setBit, putBits, zero, b2n]

/-- The bits of a number written one after the other from 0 on. -/
theorem bit_foldl_setBit (f : Nat → Bool) (n j : Nat) :
    bit ((List.range n).foldl (fun m i => setBit m i (f i)) 0) j = (decide (j < n) && f j) := by
  induction n generalizing j with
  | zero => simp [bit]
  | succ n ih =>
    have off : bit ((List.range n).foldl (fun m i => setBit m i (f i)) 0) n = false := by simp [ih]
    rw [List.range_succ, List.foldl_append, List.foldl_cons, List.foldl_nil, bit_setBit_of_off off, ih]
    by_cases h : j = n
    · simp [h]
    · have : j < n + 1 ↔ j < n := by omega
      simp [h, this]

/-- A logical lane is UP where its physical lane is. -/
theorem bit_lanesUp (s : Kv) (j : Nat) : bit s.lanesUp j = (decide (j < 8) && s.rd Kv.CLn_STAT.LSTATE (s.laneOf j) == lUp) :=
  bit_foldl_setBit _ 8 j

/-- Active lanes that were all UP are so still where no lane has left UP. -/
theorem lanes_and_of_le {s t : Kv} {m : Nat} (h : m &&& s.lanesUp = m)
    (le : ∀ j, s.rd Kv.CLn_STAT.LSTATE (s.laneOf j) = lUp → t.rd Kv.CLn_STAT.LSTATE (t.laneOf j) = lUp) : m &&& t.lanesUp = m := by
  apply Nat.eq_of_testBit_eq
  intro j
  rw [Nat.testBit_and]
  cases hj : m.testBit j with
  | false => rfl
  | true =>
    have up : bit s.lanesUp j = true := by
      have := congrArg (·.testBit j) h
      simpa [Nat.testBit_and, hj, bit] using this
    rw [bit_lanesUp] at up
    have upt : bit t.lanesUp j = true := by
      rw [bit_lanesUp]
      simp only [Bool.and_eq_true, decide_eq_true_eq, beq_iff_eq] at up ⊢
      exact ⟨up.1, le j up.2⟩
    exact upt

/-- A lane more is a set of lanes still. -/
theorem setBit_lt_256 {m i : Nat} (hm : m < 256) (hi : i < 8) : setBit m i true < 256 := by
  apply Nat.lt_pow_two_of_testBit (n := 8)
  intro j hj
  have := bit_setBit_true m i j
  have off : m.testBit j = false := Nat.testBit_lt_two_pow (lt_of_lt_of_le hm (Nat.pow_le_pow_right (by decide : 0 < 2) hj))
  rw [bit, bit, off] at this
  rw [this]
  simp
  omega

/-- With a lane less not every lane is active. -/
theorem setBit_false_ne {m i : Nat} (hm : m < 256) (hb : bit m i = true) : setBit m i false ≠ 0xFF := by
  have one : bits m i 1 = 1 := by
    have := Nat.testBit_eq_decide_div_mod_eq (x := m) (i := i)
    rw [show m.testBit i = true from hb] at this
    have := of_decide_eq_true this.symm
    simpa [bits] using this
  have pos := Nat.two_pow_pos i
  simp only [setBit, putBits, one, b2n]
  simp
  omega

/-! ### What the state of the link leaves alone -/

/-- The fields that show the castle link. -/
def linkFlds : List Fld := [Kv.CL_STAT.ACT, Kv.CL_STAT.DEG, Kv.CL_STAT.UP, Kv.TIM_STAT.ALIGNED, Kv.TIM_STAT.STBY]

theorem Untouched.raiseOnce {R : Kv → Kv → Prop} (u : Untouched R) (s : Kv) (src : Nat) (l : List Nat) : R (s.raiseOnce src l) s := by
  unfold Kv.raiseOnce
  split
  · exact u.same s
  · exact u.tr (u.each _ _ _ fun s n => u.tr (u.acceptAll _ _ _ _) (u.tr (u.fltWindow _ _) (u.fltCount _ _))) (u.raise _ _ _ _)

section
variable {α : Type} {p : Kv → α} (u : Untouched (fun t s => p t = p s)) (shown : ∀ s : Kv, ∀ F ∈ linkFlds, ∀ v, p (s.wr F v) = p s)
  (run : ∀ (s : Kv) (n : Nat), p { s with tim := { s.tim with alignRun := n } } = p s)
include shown

theorem setLanes_keeps (s : Kv) (m : Nat) : p (s.setLanes m) = p s :=
  (shown _ Kv.CL_STAT.DEG (by simp [linkFlds]) _).trans (shown s Kv.CL_STAT.ACT (by simp [linkFlds]) _)

include u run

theorem castleDown_keeps (s : Kv) : p s.castleDown = p s := by
  unfold Kv.castleDown
  split
  · refine (u.raise _ _ _ _).trans ((run _ 0).trans ?_)
    have mem : ∀ F ∈ linkFlds, ∀ s v, p (Kv.wr s F v) = p s := fun F h s v => shown s F h v
    simp only [linkFlds, List.forall_mem_cons] at mem
    simp only [mem]
  · rfl

/-- The link follows its lanes: only the fields that show it, and the fault collector, change. -/
theorem castleLanes_keeps (s : Kv) : p s.castleLanes = p s := by
  unfold Kv.castleLanes
  dsimp only
  split
  · split
    · exact (u.raiseOnce _ _ _).trans (setLanes_keeps shown _ _)
    · exact castleDown_keeps u shown run s
  · rfl

end

/-- Two fields of one copy of a register block. -/
theorem key_ne {F G : Fld} (h : F.s1 = G.s1 ∧ F.key 0 0 ≠ G.key 0 0) {i : Nat} : F.key i 0 ≠ G.key i 0 := by
  simp only [Fld.key, Fld.addr] at h ⊢
  rw [h.1]
  omega

/-! ### A block that is no part of a frame -/

/-- It goes out by the coder alone. -/
theorem hopOne_eq (F : HopFlds) (c : HopCfg) (i : Nat) (s : HopSt) (b : LineBlock) :
    ∃ used scr pre txRd out, hopOne F c i s b =
      { s with h := { s.h with used := used, scr := scr, pre := pre, txRd := txRd }, out := out } := by
  unfold hopOne hopEmit Hop.coded Hop.toLine Hop.spend
  cases c.tx
  · exact ⟨_, _, _, _, _, rfl⟩
  · cases h : s.h.service <;> simp only [if_true, h, Bool.false_and, Bool.false_eq_true, if_false] <;> exact ⟨_, _, _, _, _, rfl⟩

/-- What a step has told the chip, and the registers, beside the line. -/
abbrev HopSt.SameTold (t s : HopSt) : Prop :=
  t.r = s.r ∧ t.lost = s.lost ∧ t.blindFail = s.blindFail ∧ t.errs = s.errs ∧ t.learn = s.learn ∧
    t.h.auto = s.h.auto ∧ t.h.afterLoss = s.h.afterLoss ∧ t.h.failed = s.h.failed ∧ t.h.skew = s.h.skew

theorem hopOne_told (F : HopFlds) (c : HopCfg) (i : Nat) (s : HopSt) (b : LineBlock) : (hopOne F c i s b).SameTold s := by
  obtain ⟨used, scr, pre, txRd, out, one⟩ := hopOne_eq F c i s b
  rw [one]
  exact ⟨rfl, rfl, rfl, rfl, rfl, rfl, rfl, rfl, rfl⟩

theorem hopToService_told (F : HopFlds) (c : HopCfg) (i : Nat) (s : HopSt) : (hopToService F c i s).SameTold s :=
  hopOne_told F c i { s with h := { s.h with service := true, goodRun := 0, hdrs := [], foreign := 0 } } idleBlock

theorem hopSend_told (F : HopFlds) (c : HopCfg) (i : Nat) (s : HopSt) : (hopSend F c i s).SameTold s := hopOne_told ..

theorem hopDark_told (F : HopFlds) (c : HopCfg) (i : Nat) (s : HopSt) : (hopDark F c i s).SameTold s := by
  unfold hopDark
  split
  · split
    · exact hopToService_told F c i s
    · exact hopSend_told F c i { s with h := { s.h with service := false, shift := 0 } }
  · exact ⟨rfl, rfl, rfl, rfl, rfl, rfl, rfl, rfl, rfl⟩

/-! ### Castle lanes -/

/-- The registers of the castle lanes lie together. -/
def Fld.ofLane (G : Fld) (n : Nat) : Prop := 0x8000 * 32 ≤ G.key n 0 ∧ G.key n 0 < 0x8200 * 32

theorem laneFlds_ofLane {n : Nat} (h : n < 8) (G : Fld) (hG : G ∈ [Kv.CLn_STAT.LSTATE, Kv.CLn_STAT.BLINDF, Kv.CLn_PEAK.SAVED]) :
    G.ofLane n := by
  simp only [List.mem_cons, List.not_mem_nil, or_false] at hG
  rcases hG with rfl | rfl | rfl <;>
    simp only [Fld.ofLane, Fld.key, Fld.addr, Kv.CLn_STAT.LSTATE, Kv.CLn_STAT.BLINDF, Kv.CLn_PEAK.SAVED] <;> omega

/-- The link lies elsewhere. -/
theorem rd_wr_link {G F : Fld} {n : Nat} (h : G.ofLane n) (hF : F ∈ linkFlds) (s : Kv) (v : Nat) : (s.wr F v).rd G n = s.rd G n := by
  have apart : ∀ F ∈ linkFlds, F.key 0 0 < 0x8000 * 32 ∨ 0x8200 * 32 ≤ F.key 0 0 := by decide
  obtain ⟨lo, hi⟩ := h
  have := apart F hF
  exact s.rd_wr_ne v (by omega)

theorem castleLanes_rd {G : Fld} {n : Nat} (h : G.ofLane n) (s : Kv) : s.castleLanes.rd G n = s.rd G n :=
  castleLanes_keeps (p := fun s => s.rd G n)
    (untouched_rd G n 0 fun F hF a b => by
      have := raiseFlds_above F hF a b
      have := h.2
      omega)
    (fun s _ hF v => rd_wr_link h hF s v) (fun _ _ => rfl) s

theorem castleLanes_cl (s : Kv) : s.castleLanes.cl = s.cl :=
  castleLanes_keeps (p := Kv.cl)
    (untouched_of Kv.cl (fun _ _ _ _ _ _ => rfl) (fun _ _ _ => rfl) (fun _ _ => rfl) (fun _ _ _ => rfl) (fun _ _ => rfl) (fun _ _ => rfl)
      (fun _ _ => rfl) (fun _ _ => rfl) (fun _ _ => rfl) (fun _ => rfl) (fun _ _ => rfl) (fun _ => rfl) (fun _ => rfl))
    (fun _ _ _ _ => rfl) (fun _ _ => rfl) s

/-- A step of a lane that loses no lock and learns no number: what the state machine comes to, then the link. -/
theorem clStep_quiet {s : Kv} {n : Nat} {f : HopStep} {r : HopSt} (h : f clFlds (s.clCfg n) n { h := Tab.get {} n s.cl, r := s.regs } = r)
    (lost : r.lost = false) (errs : r.errs = 0) (learn : r.learn = none) : s.clStep n f =
      ({ s with regs := r.r, cl := Tab.set {} n r.h s.cl, out := s.out ++ lineOuts (32 + n) r } : Kv).castleLanes := by
  subst h
  simp only [Kv.clStep, lost, errs, learn, Kv.when_false, List.range_zero, Kv.each, List.foldl_nil]

/-- A lane that hunts under lock comes UP, its settings saved (R71). -/
theorem hopUp_hunts {F : HopFlds} {c : HopCfg} {i : Nat} {s : HopSt} (hunts : s.rd F.lstate i = lHunt) (locked : s.rd F.alock i = 1) :
    ∃ inv pk, hopUp F c i s = { (s.wr F.lstate i lUp).wr F.saved i 1 with
      h := { s.h with savedInv := inv, savedPk := pk, blind := false, failed := false, auto := false, afterLoss := false } } := by
  have ready : (s.rd F.lstate i = lHunt ∨ (s.rd F.lstate i = lTrain ∧ (c.nrz ∨ c.kind = 1 ∨ c.kind = 2) ∧ 16 ≤ s.h.readyRun)) ∧
    s.rd F.alock i = 1 := ⟨.inl hunts, locked⟩
  exact ⟨_, _, if_pos ready⟩

/-- In TRAIN the hop starts anew with no lock (R71). -/
theorem hopTrain_shows (F : HopFlds) (c : HopCfg) (i : Nat) (s : HopSt) :
    (∃ inv, (hopTrain F c i s).r = (((s.wr F.lstate i lTrain).wr F.alock i 0).wr F.rxinv i inv).r) ∧
      (hopTrain F c i s).lost = s.lost ∧ (hopTrain F c i s).errs = s.errs ∧ (hopTrain F c i s).learn = s.learn := by
  unfold hopTrain
  extract_lets w
  obtain ⟨r, lost, -, errs, learn, -⟩ := hopSend_told F c i { w with h := { w.h with
    readyRun := 0, blind := false, failed := false, service := false, commas := 0, chars := [], sigOk := false, shift := 0 } }
  exact ⟨⟨_, r⟩, lost, errs, learn⟩

/-- A lane that starts anew is in TRAIN, and no register but those of its start changes. -/
theorem hopTrain_lane (c : HopCfg) (i : Nat) (s : HopSt) : Kv.CLn_STAT.LSTATE.get i 0 (hopTrain clFlds c i s).r = lTrain ∧
    Kv.CLn_STAT.BLINDF.get i 0 (hopTrain clFlds c i s).r = Kv.CLn_STAT.BLINDF.get i 0 s.r := by
  obtain ⟨inv, regs⟩ := (hopTrain_shows clFlds c i s).1
  rw [regs]
  constructor
  · exact (Fld.get_set_ne _ _ (key_ne (by decide))).trans ((Fld.get_set_ne _ _ (key_ne (by decide))).trans (Fld.get_set_same ..))
  · exact (Fld.get_set_ne _ _ (key_ne (by decide))).trans
      ((Fld.get_set_ne _ _ (key_ne (by decide))).trans (Fld.get_set_ne _ _ (key_ne (by decide))))

/-- What a blind start of a lane that failed comes to (R73). -/
theorem hopBlindFail_blind {c : HopCfg} {i : Nat} {s : HopSt} (hunts : s.rd Kv.CLn_STAT.LSTATE i = lHunt) (blind : s.h.blind = true)
    (run : c.run = false) :
    let t := hopBlindFail clFlds c i s
    t.lost = s.lost ∧ t.errs = s.errs ∧ t.learn = s.learn ∧ Kv.CLn_STAT.BLINDF.get i 0 t.r = 1 ∧
      (if c.bring = 2 then t.h.failed = true else Kv.CLn_STAT.LSTATE.get i 0 t.r = lTrain) := by
  have fails : hopBlindFail clFlds c i s =
      let t := { (s.wr Kv.CLn_STAT.BLINDF i 1) with blindFail := true }
      if c.bring = 2 then { t with h := { t.h with failed := true } } else hopTrain clFlds c i { t with h := { t.h with auto := true } } := by
    have hunts : s.rd clFlds.lstate i = lHunt := hunts
    simp only [hopBlindFail, hunts, blind, and_self, if_true, run, HopCfg.start, Bool.false_and, Bool.false_eq_true, if_false, false_or]
    rfl
  rw [fails]
  dsimp only
  split
  case isTrue => exact ⟨rfl, rfl, rfl, Fld.get_set_same .., rfl⟩
  case isFalse =>
    generalize hw : ({ (s.wr Kv.CLn_STAT.BLINDF i 1) with
      blindFail := true, h := { (s.wr Kv.CLn_STAT.BLINDF i 1).h with auto := true } } : HopSt) = w
    obtain ⟨-, lost, errs, learn⟩ := hopTrain_shows clFlds c i w
    obtain ⟨trains, kept⟩ := hopTrain_lane c i w
    subst hw
    exact ⟨lost, errs, learn, kept.trans (Fld.get_set_same ..), trains⟩

/-- A marker with this skew, of blocks that left the descrambler open, has come on lane `n`. -/
def Kv.laneSkewed (k : Kv) (n skew : Nat) : Kv :=
  { k.laneGoneBy n with cl := Tab.upd {} n (fun h => { h with skew := skew }) (k.laneGoneBy n).cl }

/-- A lane that is UP joins a link that is up. -/
def Kv.rejoins (z : Kv) (n lane : Nat) : Kv :=
  z.when (z.on Kv.CL_STAT.UP && z.rd Kv.CLn_STAT.LSTATE n == lUp) (fun s => s.setLanes (setBit (s.rd Kv.CL_STAT.ACT) lane true))

theorem rejoins_rd {G : Fld} {n : Nat} (h : G.ofLane n) (z : Kv) (lane : Nat) : (z.rejoins n lane).rd G n = z.rd G n :=
  Kv.when_keeps (·.rd G n) z (setLanes_keeps (p := (·.rd G n)) (fun s _ hF v => rd_wr_link h hF s v) _ _) _

theorem rejoins_cl (z : Kv) (n lane : Nat) : (z.rejoins n lane).cl = z.cl :=
  Kv.when_keeps Kv.cl z (setLanes_keeps (p := Kv.cl) (fun _ _ _ _ => rfl) _ _) _

theorem laneMarkerReceivedKv_near {k : Kv} {n lane skew : Nat} (agrees : k.laneOf lane = n) (near : skew ≤ 32) :
    laneMarkerReceivedKv n lane skew k = ((k.laneSkewed n skew).clStep n hopUpStep).rejoins n lane := by
  rw [laneMarkerReceivedKv, if_pos (show (k.laneGoneBy n).laneOf lane = n from agrees), if_pos near]
  rfl

theorem laneSkewed_skew (k : Kv) (n skew : Nat) : (Tab.get {} n (k.laneSkewed n skew).cl).skew = skew := by
  rw [Kv.laneSkewed, Tab.get_upd_same]

/-- A lane that hunts under lock comes UP as the marker finds it, before the link follows. -/
theorem clStep_up {k : Kv} {n skew : Nat} (hunts : k.rd Kv.CLn_STAT.LSTATE n = lHunt) (locked : k.on Kv.CLn_STAT.ALOCK n = true) :
    ∃ z : Kv, (k.laneSkewed n skew).clStep n hopUpStep = z.castleLanes ∧
      z.regs = ((k.wr Kv.CLn_STAT.LSTATE lUp n).mark Kv.CLn_PEAK.SAVED n).regs ∧ (Tab.get {} n z.cl).skew = skew := by
  have skewed := laneSkewed_skew k n skew
  have regs : (k.laneSkewed n skew).regs = k.regs := rfl
  generalize k.laneSkewed n skew = j at *
  obtain ⟨inv, pk, up⟩ := hopUp_hunts (F := clFlds) (c := j.clCfg n) (i := n) (s := { h := Tab.get {} n j.cl, r := j.regs })
    (by rw [regs]; exact hunts) (by rw [regs]; exact eq_of_beq locked)
  refine ⟨_, clStep_quiet up rfl rfl rfl, ?_, ?_⟩
  · rw [regs]
    rfl
  · rw [Tab.get_set_same]
    exact skewed

section
variable {k z : Kv} {n : Nat} (hn : n < 8)
  (regs : z.regs = ((k.wr Kv.CLn_STAT.LSTATE lUp n).mark Kv.CLn_PEAK.SAVED n).regs)
include regs

theorem up_rd {G : Fld} {i : Nat} (hs : G.key i 0 ≠ Kv.CLn_PEAK.SAVED.key n 0) :
    z.rd G i = (k.wr Kv.CLn_STAT.LSTATE lUp n).rd G i := by
  rw [Kv.rd, regs]
  exact Kv.rd_wr_ne _ _ hs

theorem up_lstate (i : Nat) : z.rd Kv.CLn_STAT.LSTATE i = if i = n then lUp else k.rd Kv.CLn_STAT.LSTATE i := by
  have apart : Kv.CLn_STAT.LSTATE.key i 0 ≠ Kv.CLn_PEAK.SAVED.key n 0 := by
    simp only [Fld.key, Fld.addr, Kv.CLn_STAT.LSTATE, Kv.CLn_PEAK.SAVED]
    omega
  rw [up_rd regs apart]
  split
  case isTrue h =>
    subst h
    exact Kv.rd_wr_same ..
  case isFalse h =>
    refine Kv.rd_wr_ne _ _ ?_
    simp only [Fld.key, Fld.addr, Kv.CLn_STAT.LSTATE]
    omega

include hn

/-- A lane's coming UP changes none of the link's own registers. -/
theorem up_link {G : Fld} (h : 0x8200 * 32 ≤ G.key 0 0) : z.rd G = k.rd G := by
  rw [up_rd regs, Kv.rd_wr_ne]
  · simp only [Fld.key, Fld.addr, Kv.CLn_STAT.LSTATE] at h ⊢
    omega
  · simp only [Fld.key, Fld.addr, Kv.CLn_PEAK.SAVED] at h ⊢
    omega

/-- All active lanes were UP, and are. -/
theorem up_lanes (h : k.rd Kv.CL_STAT.ACT &&& k.lanesUp = k.rd Kv.CL_STAT.ACT) : z.castleLanes = z := by
  have act : z.rd Kv.CL_STAT.ACT = k.rd Kv.CL_STAT.ACT := up_link hn regs (by decide)
  have map : ∀ j, z.laneOf j = k.laneOf j := fun j => congrArg (bits · (3 * j) 3) (up_link hn regs (by decide))
  have kept : z.rd Kv.CL_STAT.ACT &&& z.lanesUp = z.rd Kv.CL_STAT.ACT := by
    rw [act]
    refine lanes_and_of_le h fun j hj => ?_
    rw [map, up_lstate regs]
    split
    · rfl
    · exact hj
  exact if_neg fun lost => lost.2 kept

end

/-- A marker that agrees with the map brings a locked lane UP, and the lane joins a link that is up (R71, R76, R78). -/
theorem laneMarkerReceivedKv_agrees {k : Kv} {n lane skew : Nat} (hn : n < 8) (hlane : lane < 8) (agrees : k.laneOf lane = n)
    (near : skew ≤ 32) (hunts : k.rd Kv.CLn_STAT.LSTATE n = lHunt) (locked : k.on Kv.CLn_STAT.ALOCK n = true) :
    let t := laneMarkerReceivedKv n lane skew k
    t.rd Kv.CLn_STAT.LSTATE n = lUp ∧ t.on Kv.CLn_PEAK.SAVED n = true ∧ (Tab.get {} n t.cl).skew = skew ∧
      (k.on Kv.CL_STAT.UP = true → k.rd Kv.CL_STAT.ACT &&& k.lanesUp = k.rd Kv.CL_STAT.ACT →
        t.on Kv.CL_STAT.UP = true ∧ t.rd Kv.CL_STAT.ACT = setBit (k.rd Kv.CL_STAT.ACT) lane true) := by
  obtain ⟨z, step, regs, skewed⟩ := clStep_up (skew := skew) hunts locked
  rw [laneMarkerReceivedKv_near agrees near, step]
  intro t
  have lanes {G : Fld} (hG : G.ofLane n) : t.rd G n = z.rd G n := (rejoins_rd hG _ _).trans (castleLanes_rd hG z)
  have up : z.rd Kv.CLn_STAT.LSTATE n = lUp := (up_lstate regs n).trans (if_pos rfl)
  refine ⟨(lanes (laneFlds_ofLane hn _ (by simp))).trans up, ?saved, ?skew, fun hup hact => ?joins⟩
  case saved =>
    have saved : z.rd Kv.CLn_PEAK.SAVED n = 1 := by
      rw [Kv.rd, regs]
      exact Kv.rd_wr_same ..
    exact congrArg (· == 1) ((lanes (laneFlds_ofLane hn _ (by simp))).trans saved)
  case skew => exact (congrArg (fun c => (Tab.get {} n c).skew) ((rejoins_cl _ _ _).trans (castleLanes_cl z))).trans skewed
  case joins =>
    have zup : z.on Kv.CL_STAT.UP = true := (congrArg (· == 1) (up_link hn regs (by decide))).trans hup
    have joined : t = z.setLanes (setBit (k.rd Kv.CL_STAT.ACT) lane true) := by
      show z.castleLanes.rejoins n lane = _
      rw [up_lanes hn regs hact, Kv.rejoins, zup, up, ← up_link (G := Kv.CL_STAT.ACT) hn regs (by decide)]
      rfl
    have act : setBit (k.rd Kv.CL_STAT.ACT) lane true < 256 := setBit_lt_256 (Kv.rd_lt ..) hlane
    rw [joined, Kv.setLanes]
    refine ⟨?_, ?_⟩
    · rw [Kv.on_wr_ne _ _ (by decide), Kv.on_wr_ne _ _ (by decide), zup]
    · rw [Kv.rd_wr_ne _ _ (by decide), Kv.rd_wr_same]
      exact Nat.mod_eq_of_lt act

/-- A marker that disagrees with the map fails a blind start (R73, R77). -/
theorem laneMarkerReceivedKv_disagrees {k : Kv} {n lane : Nat} (skew : Nat) (hn : n < 8) (disagrees : k.laneOf lane ≠ n)
    (hunts : k.rd Kv.CLn_STAT.LSTATE n = lHunt) (blind : (Tab.get {} n k.cl).blind = true) :
    let t := laneMarkerReceivedKv n lane skew k
    t.on Kv.CLn_STAT.BLINDF n = true ∧
      (if k.rd Kv.CL_CTRL.BRING = 2 then (Tab.get {} n t.cl).failed = true else t.rd Kv.CLn_STAT.LSTATE n = lTrain) := by
  intro t
  have gone : (Tab.get {} n (k.laneGoneBy n).cl).blind = true :=
    (congrArg Hop.blind (Tab.get_upd_same ({} : Hop) n Hop.unknownRx k.cl)).trans blind
  obtain ⟨lost, errs, learn, fails, comes⟩ := hopBlindFail_blind (c := (k.laneGoneBy n).clCfg n) (i := n)
    (s := { h := Tab.get {} n (k.laneGoneBy n).cl, r := (k.laneGoneBy n).regs }) hunts gone rfl
  have step : t = _ := (if_neg disagrees).trans (clStep_quiet rfl lost errs learn)
  rw [step, Kv.on, castleLanes_rd (laneFlds_ofLane hn _ (by simp)), castleLanes_rd (laneFlds_ofLane hn _ (by simp)), castleLanes_cl,
    Tab.get_set_same]
  exact ⟨congrArg (· == 1) fails, comes⟩

/-! ### String ports -/

/-- A step of a port that loses no lock: what the state machine comes to, and nothing else. -/
theorem spStep_quiet {s : Kv} {n : Nat} {f : HopStep} {r : HopSt} (h : f spFlds (s.spCfg n) n { h := (s.spP n).hop, r := s.regs } = r)
    (lost : r.lost = false) (blind : r.blindFail = false) (errs : r.errs = 0) : s.spStep n f =
      ({ s with regs := r.r, out := s.out ++ lineOuts n r } : Kv).onSp n (fun p => { p with hop := r.h }) := by
  subst h
  simp only [Kv.spStep, lost, blind, errs, Kv.when_false, List.range_zero, Kv.each, List.foldl_nil, Bool.false_eq_true, if_false]

/-- The port beside its hop, where it goes into TEST or not. -/
theorem spTest_spP (s : Kv) (n : Nat) : ((s.spTest n).spP n).frame = (s.spP n).frame ∧
    ((s.spTest n).spP n).launched = (s.spP n).launched ∧ ((s.spTest n).spP n).txOut = (s.spP n).txOut := by
  rw [spTest_eq, Kv.onSp_spP]
  exact ⟨rfl, rfl, rfl⟩

/-- Where a port is in TEST (R71). -/
theorem hopTest_lstate (c : HopCfg) (i : Nat) (served : Bool) (s : HopSt) :
    Kv.SPn_STAT.LSTATE.get i 0 (hopTest spFlds c i served s).r =
      if served = false ∧ (s.rd Kv.SPn_PCTL.GPAT i ≠ 0 ∨ s.rd Kv.SPn_PCTL.CPAT i ≠ 0) then lTest else s.rd Kv.SPn_STAT.LSTATE i := by
  unfold hopTest
  simp only [Bool.not_eq_true']
  split
  case isTrue h => exact (Fld.get_set_ne _ _ (key_ne (by decide))).trans ((Fld.get_set_same ..).trans (if_pos h).symm)
  case isFalse h => exact (if_neg h).symm

/-- A port whose EN is cleared: what of its frames and pattern follows (R71, R88). -/
theorem portEnClearKv_shows (k : Kv) (i : Nat) :
    let t := portEnClearKv i k
    t.on Kv.SPn_CTRL.EN i = false ∧ (t.spP i).frame = (k.spP i).frame ∧ (t.spP i).launched = (k.spP i).launched ∧
      (t.spP i).txOut = (k.spP i).txOut ∧
      t.rd Kv.SPn_STAT.LSTATE i = (if (k.rd Kv.SPn_PCTL.GPAT i ≠ 0 ∨ k.rd Kv.SPn_PCTL.CPAT i ≠ 0) ∧ (k.spP i).frame = none ∧
        (k.spP i).launched = none then lTest else k.rd Kv.SPn_STAT.LSTATE i) := by
  intro t
  have off : (k.wr Kv.SPn_CTRL.EN 0 i).on Kv.SPn_CTRL.EN i = false := congrArg (· == 1) (Kv.rd_wr_same ..)
  obtain ⟨frame, launched, txOut⟩ := spTest_spP (k.wr Kv.SPn_CTRL.EN 0 i) i
  refine ⟨?off, frame, launched, txOut, ?lstate⟩
  case off =>
    rw [← off]
    show ((k.wr Kv.SPn_CTRL.EN 0 i).spTest i).on Kv.SPn_CTRL.EN i = _
    rw [spTest_eq]
    exact congrArg (· == 1) (hopTest_get spFlds _ i _ _ (key_ne (by decide)) (key_ne (by decide)))
  case lstate =>
    have served : (k.wr Kv.SPn_CTRL.EN 0 i).portServes i = ((k.spP i).launched.isSome || (k.spP i).frame.isSome) := by
      rw [Kv.portServes, off]
      rfl
    have idle : ((k.wr Kv.SPn_CTRL.EN 0 i).portServes i = false ∧ (k.rd Kv.SPn_PCTL.GPAT i ≠ 0 ∨ k.rd Kv.SPn_PCTL.CPAT i ≠ 0)) ↔
        ((k.rd Kv.SPn_PCTL.GPAT i ≠ 0 ∨ k.rd Kv.SPn_PCTL.CPAT i ≠ 0) ∧ (k.spP i).frame = none ∧ (k.spP i).launched = none) := by
      rw [served]
      simp only [Bool.or_eq_false_iff, Option.isSome_eq_false_iff, Option.isNone_iff_eq_none]
      tauto
    have lstate := hopTest_lstate ((k.wr Kv.SPn_CTRL.EN 0 i).spCfg i) i ((k.wr Kv.SPn_CTRL.EN 0 i).portServes i)
      { h := ((k.wr Kv.SPn_CTRL.EN 0 i).spP i).hop, r := (k.wr Kv.SPn_CTRL.EN 0 i).regs }
    have same {F : Fld} (h : F.s1 = Kv.SPn_CTRL.EN.s1 ∧ F.key 0 0 ≠ Kv.SPn_CTRL.EN.key 0 0) :
        (k.wr Kv.SPn_CTRL.EN 0 i).rd F i = k.rd F i := Kv.rd_wr_ne _ _ (key_ne h)
    have shown : t.rd Kv.SPn_STAT.LSTATE i = _ := (congrArg (Kv.rd · Kv.SPn_STAT.LSTATE i) (spTest_eq _ i)).trans lstate
    rw [shown, ← same (F := Kv.SPn_STAT.LSTATE) (by decide)]
    refine if_congr (Iff.trans ?_ idle) rfl rfl
    rw [← same (F := Kv.SPn_PCTL.GPAT) (by decide), ← same (F := Kv.SPn_PCTL.CPAT) (by decide)]
    exact Iff.rfl

/-- A port out of TEST (R71). -/
def hopOutOfTest (i : Nat) (s : HopSt) : HopSt :=
  if s.rd Kv.SPn_STAT.LSTATE i = lTest then
    { ((s.wr Kv.SPn_STAT.LSTATE i lDark).wr Kv.SPn_PCTL.CSYNC i 0) with h := { s.h with chk := {} } }
  else s

theorem hopOutOfTest_shows (i : Nat) (s : HopSt) :
    let t := hopOutOfTest i s
    let st := s.rd Kv.SPn_STAT.LSTATE i
    t.lost = s.lost ∧ t.blindFail = s.blindFail ∧ t.errs = s.errs ∧ t.rd Kv.SPn_CTRL.EN i = s.rd Kv.SPn_CTRL.EN i ∧
      t.rd Kv.SPn_STAT.LSTATE i = (if st = lTest then lDark else st) := by
  unfold hopOutOfTest
  dsimp only
  split
  · exact ⟨rfl, rfl, rfl, (Fld.get_set_ne _ _ (key_ne (by decide))).trans (Fld.get_set_ne _ _ (key_ne (by decide))),
      (Fld.get_set_ne _ _ (key_ne (by decide))).trans (Fld.get_set_same ..)⟩
  · exact ⟨rfl, rfl, rfl, rfl, rfl⟩

/-- Enabling takes a hop out of TEST; from DARK the next start is one after port enable (R71, R73). -/
theorem hopEnable_shows (c : HopCfg) (i : Nat) (s : HopSt) :
    let t := hopEnable spFlds c i s
    let st := s.rd Kv.SPn_STAT.LSTATE i
    t.lost = s.lost ∧ t.blindFail = s.blindFail ∧ t.errs = s.errs ∧
      t.rd Kv.SPn_CTRL.EN i = s.rd Kv.SPn_CTRL.EN i ∧ t.rd Kv.SPn_STAT.LSTATE i = (if st = lTest then lDark else st) ∧
      (st = lTest ∨ st = lDark → t.h.auto = false ∧ t.h.afterLoss = false) := by
  obtain ⟨lost, blind, errs, en, lstate⟩ := hopOutOfTest_shows i s
  have enabled : hopEnable spFlds c i s = if (hopOutOfTest i s).rd Kv.SPn_STAT.LSTATE i = lDark then
      hopDark spFlds c i { hopOutOfTest i s with h := { (hopOutOfTest i s).h with auto := false, afterLoss := false } }
    else hopOutOfTest i s := rfl
  rw [enabled]
  generalize hopOutOfTest i s = w at *
  split
  case isTrue h =>
    obtain ⟨r, lost', blind', errs', -, auto, afterLoss, -⟩ :=
      hopDark_told spFlds c i { w with h := { w.h with auto := false, afterLoss := false } }
    refine ⟨lost'.trans lost, blind'.trans blind, errs'.trans errs, ?_, ?_, fun _ => ⟨auto, afterLoss⟩⟩
    · exact (congrArg (Kv.SPn_CTRL.EN.get i 0) r).trans en
    · exact (congrArg (Kv.SPn_STAT.LSTATE.get i 0) r).trans lstate
  case isFalse h =>
    refine ⟨lost, blind, errs, en, lstate, fun dark => absurd ?_ h⟩
    rcases dark with test | dark
    · rw [lstate, if_pos test]
    · rw [lstate, if_neg (by rw [dark]; decide), dark]

/-- A port whose EN is set: out of TEST in DARK, whence it starts as after port enable (R71, R88). -/
theorem portEnSetKv_shows (k : Kv) (i : Nat) :
    let t := portEnSetKv i k
    let st := k.rd Kv.SPn_STAT.LSTATE i
    t.on Kv.SPn_CTRL.EN i = true ∧ t.rd Kv.SPn_STAT.LSTATE i = (if st = lTest then lDark else st) ∧
      (st = lTest ∨ st = lDark → (t.spP i).hop.auto = false ∧ (t.spP i).hop.afterLoss = false) := by
  have marked : (k.mark Kv.SPn_CTRL.EN i).rd Kv.SPn_STAT.LSTATE i = k.rd Kv.SPn_STAT.LSTATE i := Kv.rd_wr_ne _ _ (key_ne (by decide))
  have on : (k.mark Kv.SPn_CTRL.EN i).rd Kv.SPn_CTRL.EN i = 1 := Kv.rd_wr_same ..
  rw [← marked]
  generalize hm : k.mark Kv.SPn_CTRL.EN i = m at *
  obtain ⟨lost, blind, errs, en, lstate, starts⟩ := hopEnable_shows (m.spCfg i) i { h := (m.spP i).hop, r := m.regs }
  have set : portEnSetKv i k = _ := (congrArg (Kv.spStep · i hopEnable) hm).trans (spStep_quiet rfl lost blind errs)
  rw [set]
  refine ⟨congrArg (· == 1) (en.trans on), lstate, fun st => ?_⟩
  rw [Kv.onSp_spP]
  exact starts st

/-- A port whose transmitter goes off (R87, R88). -/
theorem portTxenClearKv_shows (k : Kv) (i : Nat) :
    let t := portTxenClearKv i k
    t.on Kv.SPn_CTRL.EN i = false ∧ t.on Kv.SPn_CTRL.TXEN i = false ∧ t.on Kv.SPn_PWR.PWREN i = false ∧
      (t.spP i).frame = (k.spP i).frame ∧ (t.spP i).txOut = ((k.spP i).txOut && (k.spP i).launched.isSome) := by
  obtain ⟨en, frame, launched, txOut, -⟩ := portEnClearKv_shows k i
  obtain ⟨st, cleared⟩ : ∃ st, portTxenClearKv i k = ((((portEnClearKv i k).wr Kv.SPn_CTRL.TXEN 0 i).onSp i
    (fun p => { p with txOut := p.txOut && p.launched.isSome })).wr Kv.SPn_PWR.PWREN 0 i).wr Kv.SPn_PWR.PSTATE st i := ⟨_, rfl⟩
  rw [cleared]
  generalize portEnClearKv i k = w at *
  intro t
  have ports : t.spP i = { w.spP i with txOut := (w.spP i).txOut && (w.spP i).launched.isSome } :=
    Kv.onSp_spP (w.wr Kv.SPn_CTRL.TXEN 0 i) i (fun p => { p with txOut := p.txOut && p.launched.isSome })
  have kept (F : Fld) (h : F.s1 = 0x100 ∧ F.key 0 0 ≠ Kv.SPn_PWR.PWREN.key 0 0 ∧ F.key 0 0 ≠ Kv.SPn_PWR.PSTATE.key 0 0) :
      t.on F i = (w.wr Kv.SPn_CTRL.TXEN 0 i).on F i :=
    (Kv.on_wr_ne _ _ (key_ne ⟨h.1, h.2.2⟩)).trans (Kv.on_wr_ne _ _ (key_ne ⟨h.1, h.2.1⟩))
  refine ⟨?en, ?txen, ?pwren, ?frame, ?out⟩
  case en => exact (kept _ (by decide)).trans ((Kv.on_wr_ne _ _ (key_ne (by decide))).trans en)
  case txen => exact (kept _ (by decide)).trans (congrArg (· == 1) (Kv.rd_wr_same ..))
  case pwren => exact (Kv.on_wr_ne _ _ (key_ne (by decide))).trans (congrArg (· == 1) (Kv.rd_wr_same ..))
  case frame => rw [ports, ← frame]
  case out => rw [ports, ← txOut, ← launched]

/-! ### Power -/

theorem laserInterlockCutKv_eq (k : Kv) (i : Nat) (ok fault : Bool) : laserInterlockCutKv i ok fault k =
    let y := k.wr Kv.SPn_PWR.PWROK (if ok then 1 else 0) i
    let z := (y.wr Kv.SPn_PWR.PWREN 0 i).mark Kv.SPn_PWR.CUT i
    if ((k.on Kv.SPn_PWR.PWROK i = true ∧ ok = false) ∨ fault = true) ∧ k.on Kv.SPn_PWR.PWREN i = true then
      (z.wr Kv.SPn_PWR.PSTATE (if z.on Kv.SPn_PWR.EN i then 1 else 0) i).raise Src.SP_PWR 0 i
    else y := by
  extract_lets y z
  have on : y.on Kv.SPn_PWR.PWREN i = k.on Kv.SPn_PWR.PWREN i := Kv.on_wr_ne _ _ (key_ne (by decide))
  have cuts : laserInterlockCutKv i ok fault k =
    if (k.on Kv.SPn_PWR.PWROK i && !ok || fault) = true then (if y.on Kv.SPn_PWR.PWREN i = true then
      (z.wr Kv.SPn_PWR.PSTATE (if z.on Kv.SPn_PWR.EN i then 1 else 0) i).raise Src.SP_PWR 0 i else y) else y := rfl
  rw [cuts, ← ite_and, on]
  simp only [Bool.or_eq_true, Bool.and_eq_true, Bool.not_eq_true']

theorem probeResultKv_lit {k : Kv} {i : Nat} (probes : k.rd Kv.SPn_PWR.PSTATE i = 2) {ok : Bool}
    (lit : ok = true ∧ (k.wr Kv.SPn_PWR.PWROK (if ok then 1 else 0) i).probeLight i = true) : probeResultKv i ok k =
      ((k.wr Kv.SPn_PWR.PWROK (if ok then 1 else 0) i).wr Kv.SPn_PWR.PSTATE 3 i).onSp i (fun q => { q with fails := 0 }) := by
  have state : (k.wr Kv.SPn_PWR.PWROK (if ok then 1 else 0) i).rd Kv.SPn_PWR.PSTATE i = 2 := (Kv.rd_wr_ne _ _ (key_ne (by decide))).trans probes
  have good : (ok && (k.wr Kv.SPn_PWR.PWROK (if ok then 1 else 0) i).probeLight i) = true := Bool.and_eq_true_iff.mpr lit
  exact (if_neg (not_not.mpr state)).trans (if_pos good)

theorem probeResultKv_failed {k : Kv} {i : Nat} (probes : k.rd Kv.SPn_PWR.PSTATE i = 2) {ok : Bool}
    (dark : ok = false ∨ (k.wr Kv.SPn_PWR.PWROK (if ok then 1 else 0) i).probeLight i = false) : probeResultKv i ok k =
      let y := k.wr Kv.SPn_PWR.PWROK (if ok then 1 else 0) i
      let z := ((y.wr Kv.SPn_PWR.PWREN 0 i).count Kv.SPn_PWR.TRIES Kv.SPn_PWR.TSAT Src.SYS_SAT i).onSp i
        (fun q => { q with fails := q.fails + 1 })
      if z.rd Kv.SPn_PWR.MAXT i ≠ 0 ∧ z.rd Kv.SPn_PWR.MAXT i ≤ (z.spP i).fails then
        ((z.mark Kv.SPn_PWR.GIVEUP i).wr Kv.SPn_PWR.PSTATE 0 i).raise Src.SP_GIVEUP 0 i
      else z.wr Kv.SPn_PWR.PSTATE 1 i := by
  have state : (k.wr Kv.SPn_PWR.PWROK (if ok then 1 else 0) i).rd Kv.SPn_PWR.PSTATE i = 2 := (Kv.rd_wr_ne _ _ (key_ne (by decide))).trans probes
  have bad : ¬ (ok && (k.wr Kv.SPn_PWR.PWROK (if ok then 1 else 0) i).probeLight i) = true := by
    rw [Bool.and_eq_true_iff]
    rintro ⟨rfl, light⟩
    simp_all
  exact (if_neg (not_not.mpr state)).trans (if_neg bad)

theorem probeOffTimeEndKv_permitted {k : Kv} {i : Nat} (off : k.rd Kv.SPn_PWR.PSTATE i = 1) (permitted : k.on Kv.SPn_PWR.EN i = true)
    (tries : k.on Kv.SPn_PWR.GIVEUP i = false) (sends : k.on Kv.SPn_CTRL.TXEN i = true) :
    probeOffTimeEndKv i k = (k.mark Kv.SPn_PWR.PWREN i).wr Kv.SPn_PWR.PSTATE 2 i := by
  simp [probeOffTimeEndKv, off, permitted, tries, sends]

/-! ### The link as a whole -/

theorem castleLinkUpKv_carries {k : Kv} (enabled : k.on Kv.CL_CTRL.EN = true) (down : k.on Kv.CL_STAT.UP = false)
    (carry : lanesCarry k.lanesUp = true) : castleLinkUpKv k =
      (((k.mark Kv.CL_STAT.UP).wr Kv.CL_STAT.ACT k.lanesUp).wr Kv.CL_STAT.DEG (if k.lanesUp = 0xFF then 0 else 1)).startResync := by
  have up : (k.mark Kv.CL_STAT.UP).on Kv.CL_STAT.UP = true := congrArg (· == 1) (Kv.rd_wr_same ..)
  have deg : b2n (k.lanesUp != 0xFF) = if k.lanesUp = 0xFF then 0 else 1 := by
    by_cases h : k.lanesUp = 0xFF <;> simp [h, b2n]
  simp only [castleLinkUpKv, enabled, down, carry, Bool.not_false, Bool.and_self, if_true, Kv.setLanes, up, Bool.true_and, deg]

theorem castleLaneLostKv_carries {k : Kv} {n : Nat} (up : k.on Kv.CL_STAT.UP = true) (active : bit (k.rd Kv.CL_STAT.ACT) n = true)
    (carry : lanesCarry (setBit (k.rd Kv.CL_STAT.ACT) n false) = true) : castleLaneLostKv n k =
      ((k.wr Kv.CL_STAT.ACT (setBit (k.rd Kv.CL_STAT.ACT) n false)).wr Kv.CL_STAT.DEG 1).raise Src.CL_LANE 0 n := by
  have deg : (setBit (k.rd Kv.CL_STAT.ACT) n false != 0xFF) = true := bne_iff_ne.mpr (setBit_false_ne (Kv.rd_lt ..) active)
  simp only [castleLaneLostKv, up, active, carry, Bool.and_self, if_true, Kv.setLanes, deg, b2n]

theorem castleLinkDownKv_down {k : Kv} (up : k.on Kv.CL_STAT.UP = true)
    (lost : k.on Kv.CL_CTRL.EN = false ∨ lanesCarry (k.rd Kv.CL_STAT.ACT &&& k.lanesUp) = false) : castleLinkDownKv k =
      let y := ((((k.wr Kv.CL_STAT.UP 0).wr Kv.CL_STAT.ACT 0).wr Kv.CL_STAT.DEG 0).wr Kv.TIM_STAT.ALIGNED 0).wr Kv.TIM_STAT.STBY 0
      { y with tim := { k.tim with alignRun := 0 } }.raise Src.CL_DOWN 0 0 := by
  have goes : ¬ (k.on Kv.CL_CTRL.EN && lanesCarry (k.rd Kv.CL_STAT.ACT &&& k.lanesUp)) = true := by
    rw [Bool.and_eq_true_iff]
    rintro ⟨en, carry⟩
    simp_all
  exact (if_neg goes).trans (if_pos up)

/-- Settles O14: each command by the lemma on what it shows. -/
theorem castleLinkAndPortService : Obligations.Castle_link_and_port_service := by
  intro s c n lane p ok fault skew hlive k i goes act less
  refine ⟨fun hm hs hh hl => ?agrees, fun hm hs => ?skewed, fun hm hh hb => ?disagrees, fun he hu hc => ?up, fun hu hb hc => ?lost,
    fun hu hd => ?down, ?clear, ?set, ?txen, ⟨?cut, fun hp ho hl => ?lit, fun hp hd => ?dark⟩, fun hp he hg ht => ?off⟩
  case agrees => exact ⟨_, exec_live hlive rfl rfl, laneMarkerReceivedKv_agrees n.isLt lane.isLt hm hs hh hl⟩
  case skewed => exact exec_live hlive rfl ((if_pos hm).trans (if_neg (not_le.mpr hs)))
  case disagrees => exact ⟨_, exec_live hlive rfl rfl, laneMarkerReceivedKv_disagrees skew n.isLt hm hh hb⟩
  case up => exact exec_live hlive rfl (castleLinkUpKv_carries he hu hc)
  case lost => exact exec_live hlive rfl (castleLaneLostKv_carries hu hb hc)
  case down => exact exec_live hlive rfl (castleLinkDownKv_down hu hd)
  case clear =>
    obtain ⟨en, frame, launched, -, lstate⟩ := portEnClearKv_shows k i
    exact ⟨_, exec_live hlive rfl rfl, en, frame, launched, lstate⟩
  case set => exact ⟨_, exec_live hlive rfl rfl, portEnSetKv_shows k i⟩
  case txen => exact ⟨_, exec_live hlive rfl rfl, portTxenClearKv_shows k i⟩
  case cut => exact exec_live hlive rfl (laserInterlockCutKv_eq k i ok fault)
  case lit => exact exec_live hlive rfl (probeResultKv_lit hp ⟨ho, hl⟩)
  case dark => exact exec_live hlive rfl (probeResultKv_failed hp hd)
  case off => exact exec_live hlive rfl (probeOffTimeEndKv_permitted hp he hg ht)

end Sys2Proof.Machine
end

section
/-! What the work of a chip at a tick boundary leaves alone: the tick number, its boundary time and the tick length (R33, R35, R36). -/

namespace Sys2Proof.Machine

/-- The tick number, its boundary time and the tick length. -/
def Tim.clock (t : Tim) : BitVec 48 × BitVec 32 × Nat := (t.tick, t.bn, t.len)

namespace Kv

/-- The clock of a chip. -/
def clock (s : Kv) : BitVec 48 × BitVec 32 × Nat := s.tim.clock

theorem clock_of_tim {s t : Kv} (h : t.tim = s.tim) : t.clock = s.clock := congrArg Tim.clock h

/-- Of a chip written out, the clock is that of its time unit; of a part of a chip, the chip's. -/
@[simp] theorem clock_mk (regs mem unc tim winOpen logSeq ovrAt stopNext evRelease t0Ended svlLast svlSafe svlTclr svlResume olcDirty
    acq sp cl col al dsp sfe cas sec hst boot crcFrom crcLen lane laneTime bfireAt cellArm free out) :
    (Kv.mk regs mem unc tim winOpen logSeq ovrAt stopNext evRelease t0Ended svlLast svlSafe svlTclr svlResume olcDirty acq sp cl col al
      dsp sfe cas sec hst boot crcFrom crcLen lane laneTime bfireAt cellArm free out).clock = tim.clock := id rfl

@[simp] theorem clock_tim (s : Kv) : s.tim.clock = s.clock := id rfl

/-! ### Repetition -/

variable (s : Kv)

@[simp] theorem clock_when (b : Bool) {f : Kv → Kv} (h : ∀ t : Kv, (f t).clock = t.clock) : (s.when b f).clock = s.clock :=
  when_keeps Kv.clock s (h s) b

@[simp] theorem clock_each (l : List Nat) {f : Kv → Nat → Kv} (h : ∀ (t : Kv) n, (f t n).clock = t.clock) :
    (s.each l f).clock = s.clock := each_keeps Kv.clock h s l

@[simp] theorem clock_foldl {α : Type} (l : List α) {f : Kv → α → Kv} (h : ∀ (t : Kv) x, (f t x).clock = t.clock) :
    (l.foldl f s).clock = s.clock := by
  induction l generalizing s with
  | nil => rfl
  | cons x l ih => exact (ih (f s x)).trans (h s x)

/-- The same where a fold carries a place in memory along. -/
@[simp] theorem clock_foldl_fst {α β : Type} (l : List α) {f : Kv × β → α → Kv × β} (s : Kv × β)
    (h : ∀ (t : Kv × β) x, (f t x).1.clock = t.1.clock) : (l.foldl f s).1.clock = s.1.clock := by
  induction l generalizing s with
  | nil => rfl
  | cons x l ih => exact (ih (f s x)).trans (h s x)

/-! ### Faults, outputs, memory -/

/-- No update of the fault collector touches the time unit. -/
theorem clock_untouched : Untouched (fun t s => t.clock = s.clock) :=
  untouched_of Kv.clock (fun _ _ _ _ _ _ => rfl) (fun _ _ _ => rfl) (fun _ _ => rfl) (fun _ _ _ => rfl) (fun _ _ => rfl)
    (fun _ _ => rfl) (fun _ _ => rfl) (fun _ _ => rfl) (fun _ _ => rfl) (fun _ => rfl) (fun _ _ => rfl) (fun _ => rfl) (fun _ => rfl)

@[simp] theorem clock_wr (F : Fld) (v i j : Nat) : (s.wr F v i j).clock = s.clock := clock_of_tim rfl
@[simp] theorem clock_raise (src kind addr : Nat) : (s.raise src kind addr).clock = s.clock := clock_untouched.raise s src kind addr
@[simp] theorem clock_mark (F : Fld) (i j : Nat) : (s.mark F i j).clock = s.clock := clock_of_tim rfl
@[simp] theorem clock_send (o : Out) : (s.send o).clock = s.clock := clock_of_tim rfl
@[simp] theorem clock_fresh : s.fresh.2.clock = s.clock := clock_of_tim rfl
@[simp] theorem clock_onSp (n : Nat) (f : SpPort → SpPort) : (s.onSp n f).clock = s.clock := clock_of_tim rfl
@[simp] theorem clock_onSfe (n : Nat) (f : SfeSt → SfeSt) : (s.onSfe n f).clock = s.clock := clock_of_tim rfl
@[simp] theorem clock_onCore (n : Nat) (f : CoreSt → CoreSt) : (s.onCore n f).clock = s.clock := clock_of_tim rfl
@[simp] theorem clock_setAcq (n : Nat) (u : AcqUnit) : (s.setAcq n u).clock = s.clock := clock_of_tim rfl
@[simp] theorem clock_wrByte (a : Nat) (v : Byte) : (s.wrByte a v).clock = s.clock := clock_of_tim rfl
@[simp] theorem clock_setErrs (a m : Nat) : (s.setErrs a m).clock = s.clock := clock_of_tim rfl
@[simp] theorem clock_count (F G : Fld) (src i j : Nat) : (s.count F G src i j).clock = s.clock :=
  clock_untouched.count s F G src i j (fun _ _ => rfl) (fun _ => rfl)
@[simp] theorem clock_raiseOnce (src : Nat) (l : List Nat) : (s.raiseOnce src l).clock = s.clock := clock_untouched.raiseOnce s src l
@[simp] theorem clock_winEnd (n e : Nat) : (s.winEnd n e).clock = s.clock := clock_untouched.winEnd s n e
@[simp] theorem clock_msix (v : Nat) : (s.msix v).clock = s.clock := clock_untouched.msix s v
@[simp] theorem clock_sendCmd (b : Bool) : (s.sendCmd b).clock = s.clock := clock_untouched.sendCmd s b

@[simp] theorem clock_wrLe (a v n : Nat) : (s.wrLe a v n).clock = s.clock := by
  induction n generalizing s a v with
  | zero => rfl
  | succ n ih => exact ih _ _ _

@[simp] theorem clock_wrBe (a v n : Nat) : (s.wrBe a v n).clock = s.clock := by
  induction n generalizing s a with
  | zero => rfl
  | succ n ih => exact ih _ _

@[simp] theorem clock_zero (a n : Nat) : (s.zero a n).clock = s.clock := by
  induction n generalizing s a with
  | zero => rfl
  | succ n ih => exact ih _ _

@[simp] theorem clock_logUnc (a : Nat) : (s.logUnc a).clock = s.clock := by
  unfold Kv.logUnc
  split
  · exact clock_when s _ fun _ => rfl
  · rfl

@[simp] theorem clock_raiseUnc (a k : Nat) : (s.raiseUnc a k).clock = s.clock := by simp [Kv.raiseUnc]

@[simp] theorem clock_reportUnc (l : List Nat) : (s.reportUnc l).clock = s.clock := by simp [Kv.reportUnc]

@[simp] theorem clock_unlessBad (l : List Nat) {f : Kv → Kv} (h : ∀ t : Kv, (f t).clock = t.clock) :
    (s.unlessBad l f).clock = s.clock := by
  unfold Kv.unlessBad
  split
  · exact h s
  · simp

@[simp] theorem clock_repaired (a n : Nat) : (s.repaired a n).clock = s.clock :=
  clock_each s _ fun _ _ => rfl

@[simp] theorem clock_storeWord (w n : Nat) {f : Kv → Kv} (h : ∀ t : Kv, (f t).clock = t.clock) :
    (s.storeWord w n f).clock = s.clock := by
  unfold Kv.storeWord
  split
  · simp
  · exact h s

@[simp] theorem clock_store (a v n : Nat) : (s.store a v n).clock = s.clock := by simp [Kv.store]
@[simp] theorem clock_storeLe (a v n : Nat) : (s.storeLe a v n).clock = s.clock := by simp [Kv.storeLe]
@[simp] theorem clock_storeBe (a v n : Nat) : (s.storeBe a v n).clock = s.clock := by simp [Kv.storeBe]
@[simp] theorem clock_storeWords (a : Nat) (l : List Nat) : (s.storeWords a l).clock = s.clock := by simp [Kv.storeWords]
@[simp] theorem clock_putBytes (a : Nat) (l : List Byte) : (s.putBytes a l).clock = s.clock :=
  clock_foldl_fst l (s, a) fun _ _ => rfl
@[simp] theorem clock_storeBytes (a : Nat) (l : List Byte) : (s.storeBytes a l).clock = s.clock := by simp [Kv.storeBytes]
@[simp] theorem clock_setCtl0 (a v : Nat) : (s.setCtl0 a v).clock = s.clock := clock_storeBe ..

@[simp] theorem clock_forcedStore (a v n : Nat) : (s.forcedStore a v n).clock = s.clock := by
  unfold Kv.forcedStore Kv.unlessForced
  split <;> simp

@[simp] theorem clock_forcedBytes (k a : Nat) (l : List Byte) : (Kv.forcedBytes k a l s).clock = s.clock := by
  induction k generalizing s a l with
  | zero => rfl
  | succ k ih =>
    rw [Kv.forcedBytes]
    split
    · rfl
    · exact (ih _ _ _).trans (clock_forcedStore ..)

@[simp] theorem clock_sfeTidy (a n : Nat) : (s.sfeTidy a n).clock = s.clock := by
  refine clock_each s _ fun t i => ?_
  dsimp only
  split
  · split <;> simp
  · rfl

/-! ### Check-value engines -/

@[simp] theorem clock_crcStopUnc (n : Nat) : (s.crcStopUnc n).clock = s.clock := by simp [Kv.crcStopUnc]

@[simp] theorem clock_crcAdvance (n k : Nat) : (Kv.crcAdvance n k s).clock = s.clock := by
  induction k generalizing s with
  | zero => rfl
  | succ k ih =>
    rw [Kv.crcAdvance]
    dsimp only
    split
    · rfl
    split
    · simp
    · exact ih _

@[simp] theorem clock_crcFinish (n : Nat) : (s.crcFinish n).clock = s.clock := by
  unfold Kv.crcFinish
  dsimp only
  split
  · split <;> simp
  · rfl

@[simp] theorem clock_crcStart (n : Nat) : (s.crcStart n).clock = s.clock :=
  (clock_when _ _ fun t => clock_crcStopUnc t n).trans (clock_when _ _ fun _ => rfl)

@[simp] theorem clock_crcOn (n : Nat) : (s.crcOn n).clock = s.clock := by
  unfold Kv.crcOn
  dsimp only
  split <;> simp

/-! ### The line -/

@[simp] theorem clock_spStep (n : Nat) (f : HopStep) : (s.spStep n f).clock = s.clock := by simp [Kv.spStep]

@[simp] theorem clock_castleLanes : s.castleLanes.clock = s.clock :=
  castleLanes_keeps clock_untouched (fun _ _ _ _ => rfl) (fun _ _ => rfl) s

@[simp] theorem clock_learnLane (p l : Nat) : (s.learnLane p l).clock = s.clock := by
  unfold Kv.learnLane
  split <;> rfl

@[simp] theorem clock_clStep (n : Nat) (f : HopStep) : (s.clStep n f).clock = s.clock := by
  unfold Kv.clStep
  dsimp only
  split <;> simp

@[simp] theorem clock_stripeOut (l : List LineBlock) : (s.stripeOut l).clock = s.clock := by
  refine clock_foldl s l fun t b => ?_
  split
  · simp
  · rfl

@[simp] theorem clock_castleSend (n : Nat) (d : List Nat) : (s.castleSend n d).clock = s.clock := by
  unfold Kv.castleSend
  split <;> simp

@[simp] theorem clock_castleTime (t : Nat) : (s.castleTime t).clock = s.clock := by
  unfold Kv.castleTime
  dsimp only
  have marked (s : Kv) (n : Nat) : (s.when ((Tab.get {} n s.cl).service && (s.rd CLn_STAT.LSTATE n == lHunt || s.rd CLn_STAT.LSTATE n == lUp))
      (fun t => t.clStep n (blocksStep [laneMarker (t.logical n)]))).clock = s.clock := clock_when s _ fun t => clock_clStep t n _
  split
  · exact (clock_each _ _ fun t n => clock_clStep t n _).trans
      (clock_each _ _ fun t _ => clock_each t _ fun t n => marked t n)
  · exact clock_each _ _ fun t n => clock_clStep t n _

@[simp] theorem clock_putHeader (n : Nat) (h : Header) : (s.putHeader n h).clock = s.clock := by simp [Kv.putHeader]
@[simp] theorem clock_putSlots (n : Nat) (l : List (Nat × Nat)) : (s.putSlots n l).clock = s.clock := by simp [Kv.putSlots]
@[simp] theorem clock_putTrailer (n : Nat) (t : Trailer) : (s.putTrailer n t).clock = s.clock := by simp [Kv.putTrailer]
@[simp] theorem clock_fillLines (t : Nat) : (s.fillLines t).clock = s.clock := by simp [Kv.fillLines]
@[simp] theorem clock_spTest (n : Nat) : (s.spTest n).clock = s.clock := clock_spStep ..

end Kv

end Sys2Proof.Machine
end

section
/-! What the dispatcher, the ledger, castling, the program and the process image do at a tick boundary leaves the tick number, its
boundary time and the tick length alone (R315 to R358, R386 to R397, R487 to R498). -/

namespace Sys2Proof.Machine.Kv

variable (s : Kv)

/-! ### The ledger -/

@[simp] theorem clock_stageEpoch (n : Nat) (es : List Entry) : (s.stageEpoch n es).clock = s.clock := by simp [Kv.stageEpoch]

@[simp] theorem clock_sendEpoch (n : Nat) (es : List Entry) : (s.sendEpoch n es).clock = s.clock := by simp [Kv.sendEpoch]

@[simp] theorem clock_resyncDone : s.resyncDone.clock = s.clock := clock_when s _ fun _ => clock_of_tim rfl

@[simp] theorem clock_startResync : s.startResync.clock = s.clock := clock_of_tim rfl

@[simp] theorem clock_captureEpoch (n : Nat) : (s.captureEpoch n).clock = s.clock := by
  rw [Kv.captureEpoch]
  split
  · rfl
  · simp -implicitDefEqProofs

@[simp] theorem clock_mirrorBelief (a : Nat) : (s.mirrorBelief a).clock = s.clock := by
  rw [Kv.mirrorBelief]
  split
  · exact clock_of_tim rfl
  · rfl
  · rfl
  · exact clock_of_tim rfl

@[simp] theorem clock_applyEntry (e : Entry) : (s.applyEntry e).clock = s.clock := by
  rw [Kv.applyEntry]
  split
  · split
    · split <;> simp
    · rfl
  split
  · rfl
  split
  · extract_lets
    split
    · exact clock_wr ..
    · exact clock_wr ..
    · rw [clock_onSfe, clock_wr, clock_wr, clock_wr, clock_wr]
    · rfl
  · rw [clock_when, clock_forcedBytes]
    exact fun t => clock_mirrorBelief t _

@[simp] theorem clock_applyEpochs (l : List EpochIn) : (Kv.applyEpochs l s).clock = s.clock := by
  induction l generalizing s with
  | nil => rfl
  | cons e l ih =>
    rw [Kv.applyEpochs]
    split
    · exact (ih _).trans (clock_foldl s _ fun t e => clock_applyEntry t e)
    · rfl

@[simp] theorem clock_applyEpoch : s.applyEpoch.clock = s.clock := clock_applyEpochs ..

/-! ### The dispatcher -/

@[simp] theorem clock_endMarks (k n : Nat) : (s.endMarks k n).clock = s.clock := clock_of_tim rfl

@[simp] theorem clock_t0Ends (n : Nat) : (s.t0Ends n).clock = s.clock := by
  rw [Kv.t0Ends]
  simp

@[simp] theorem clock_taskCount (t : Nat) (q : Bool) : (s.taskCount t q).clock = s.clock := by
  rw [Kv.taskCount]
  split
  · simp
  split <;> simp

@[simp] theorem clock_countQ (t : Nat) : (s.countQ t).clock = s.clock := by
  rw [Kv.countQ]
  simp

@[simp] theorem clock_freeFlow (i : Item) : (s.freeFlow i).clock = s.clock := by
  rw [Kv.freeFlow]
  split
  · split <;> simp
  · rfl

@[simp] theorem clock_endItem (n c : Nat) (b : Bool) : (s.endItem n c b).clock = s.clock := by
  rw [Kv.endItem]
  split
  · rfl
  dsimp only
  split
  · split <;> simp
  · simp

@[simp] theorem clock_startItem (n c : Nat) (i : Item) : (s.startItem n c i).clock = s.clock := clock_of_tim rfl

@[simp] theorem clock_runCtx (n c : Nat) : (s.runCtx n c).clock = s.clock := clock_of_tim rfl

@[simp] theorem clock_nextItem (n : Nat) : (s.nextItem n).clock = s.clock := by
  rw [Kv.nextItem]
  dsimp only
  split
  · rfl
  split
  · split <;> simp
  · rfl
  · generalize (if s.ctxOff n (s.ctxOf n) = true then 1 - s.ctxOf n else s.ctxOf n) = c
    split <;> simp
  · rfl

@[simp] theorem clock_makeReady (t n : Nat) (b : Bool) : (s.makeReady t n b).clock = s.clock := clock_of_tim rfl

@[simp] theorem clock_releaseTask (t n : Nat) : (s.releaseTask t n).clock = s.clock := by
  rw [Kv.releaseTask]
  dsimp only
  split
  · rfl
  split
  · split <;> simp
  · split <;> simp

@[simp] theorem clock_t0Try : s.t0Try.clock = s.clock := by
  rw [Kv.t0Try]
  split
  · rfl
  split
  · rfl
  split <;> simp

@[simp] theorem clock_killT0 : s.killT0.clock = s.clock := by
  rw [Kv.killT0]
  split
  · simp
  split
  · split
    · simp
    · rfl
  · rfl

@[simp] theorem clock_resetCore (n : Nat) : (s.resetCore n).clock = s.clock := clock_of_tim rfl

/-! ### Castling -/

@[simp] theorem clock_resumeAll : s.resumeAll.clock = s.clock := by
  rw [Kv.resumeAll]
  dsimp only
  split <;> simp

@[simp] theorem clock_castled (n : Nat) : (s.castled n).clock = s.clock := by simp [Kv.castled]

@[simp] theorem clock_becomeDuty (q n : Nat) : (s.becomeDuty q n).clock = s.clock := by
  rw [Kv.becomeDuty]
  simp

@[simp] theorem clock_becomeStandby (q n : Nat) : (s.becomeStandby q n).clock = s.clock := by
  rw [Kv.becomeStandby]
  rw [Kv.clock_when, clock_castled, clock_mark]
  · exact clock_when ((s.wr Kv.CL_CASST.TOKEN 0).wr Kv.CL_CASST.CSEQ q) _ fun _ => clock_of_tim rfl
  · exact fun _ => clock_of_tim rfl

@[simp] theorem clock_castleAt (n : Nat) : (s.castleAt n).clock = s.clock := by
  rw [Kv.castleAt]
  dsimp only
  split
  · simp
  split
  · split <;> simp
  · rfl

@[simp] theorem clock_acceptBoundary : s.acceptBoundary.clock = s.clock := by
  rw [Kv.acceptBoundary]
  split <;> simp

@[simp] theorem clock_evalReady : s.evalReady.clock = s.clock := by
  rw [Kv.evalReady]
  split
  · rfl
  · simp

/-! ### Program and engines -/

@[simp] theorem clock_modeBoundary (n : Nat) : (s.modeBoundary n).clock = s.clock := by
  rw [Kv.modeBoundary]
  split
  · split <;> split <;> simp
  · split <;> simp

@[simp] theorem clock_sfeSwitch (e n : Nat) : (s.sfeSwitch e n).clock = s.clock := by
  rw [Kv.sfeSwitch]
  split
  · exact clock_when s _ fun _ => clock_of_tim rfl
  · rfl

@[simp] theorem clock_sfeSchedule (e n : Nat) : (s.sfeSchedule e n).clock = s.clock := clock_when s _ fun _ => clock_of_tim rfl

@[simp] theorem clock_forceValue (a v n : Nat) : (s.forceValue a v n).clock = s.clock := by
  rw [Kv.forceValue]
  split <;> simp

@[simp] theorem clock_showForces : s.showForces.clock = s.clock := by simp [Kv.showForces]

@[simp] theorem clock_forceApply (c : FrcChange) : (s.forceApply c).clock = s.clock := by
  rw [Kv.forceApply]
  dsimp only
  split
  · split <;> simp
  · rfl

@[simp] theorem clock_forcesAt (n : Nat) : (s.forcesAt n).clock = s.clock := by
  rw [Kv.forcesAt]
  have applied (l : List FrcChange) (t : Kv) : (l.foldl (fun s c => if c.arrived || !s.on Kv.CL_STAT.UP then s.forceApply c
      else (s.mark Kv.DSP_FSTAT.LATE).raise Src.DSP_FRC 0 c.entry) t).clock = t.clock := by
    refine clock_foldl t l fun t c => ?_
    split <;> simp
  rw [clock_showForces, applied]
  exact clock_of_tim rfl

@[simp] theorem clock_remapForces : s.remapForces.clock = s.clock := by
  rw [Kv.remapForces, clock_showForces, clock_each]
  intro t e
  split
  · split
    · rfl
    split <;> simp
  · rfl

@[simp] theorem clock_endAll : s.endAll.clock = s.clock := by
  rw [Kv.endAll]
  simp -implicitDefEqProofs

@[simp] theorem clock_loadReg (p : Nat × Word) : (s.loadReg p).clock = s.clock := by
  rw [Kv.loadReg, clock_foldl]
  intro t f
  split
  · split <;> simp
  · rfl

@[simp] theorem clock_reloadCounters : s.reloadCounters.clock = s.clock := by
  rw [Kv.reloadCounters]
  simp

@[simp] theorem clock_loadImage (i : Image) : (s.loadImage i).clock = s.clock := by
  rw [Kv.loadImage]
  simp -implicitDefEqProofs

@[simp] theorem clock_changeImage (b : Bool) (i : Image) : (s.changeImage b i).clock = s.clock := by
  rw [Kv.changeImage]
  simp -implicitDefEqProofs

@[simp] theorem clock_olcBoundary : s.olcBoundary.clock = s.clock := by
  rw [Kv.olcBoundary]
  split
  · have loaded (t : Kv) (h : t.clock = s.clock) : ((t.wr Kv.DSP_OLC.STATE 0).wr Kv.DSP_OLCN.DONE 0).clock = s.clock := by simp [h]
    refine (clock_of_tim rfl).trans (loaded _ ?_)
    split
    · simp
    · simp
    · rfl
  extract_lets
  split
  · split
    · exact (clock_when _ _ fun t => clock_raise ..).trans (clock_of_tim rfl)
    · exact clock_of_tim rfl
  · exact clock_of_tim rfl

@[simp] theorem clock_overrideCell (a : Nat) : (s.overrideCell a).clock = s.clock := by
  rw [Kv.overrideCell]
  split <;> simp

@[simp] theorem clock_lateOverrides (n : Nat) : (s.lateOverrides n).clock = s.clock := by
  rw [Kv.lateOverrides]
  simp -implicitDefEqProofs

/-! ### Releases and acquisition -/

@[simp] theorem clock_cyclicReleases (n : Nat) : (s.cyclicReleases n).clock = s.clock := by
  rw [Kv.cyclicReleases, clock_each]
  intro t k
  extract_lets
  split
  · exact clock_releaseTask ..
  · rfl

@[simp] theorem clock_setEvPend (e : Nat) (b : Bool) : (s.setEvPend e b).clock = s.clock := clock_of_tim rfl

@[simp] theorem clock_eventReleases (n : Nat) : (s.eventReleases n).clock = s.clock := by
  rw [Kv.eventReleases]
  dsimp only
  split <;> simp

@[simp] theorem clock_acqBoundary (n : Nat) : (s.acqBoundary n).clock = s.clock := by
  refine clock_each s _ fun t k => ?_
  split
  · exact clock_when t _ fun _ => clock_of_tim rfl
  · rfl

/-! ### The process image and the tally -/

@[simp] theorem clock_cellEntry (b a n : Nat) : (s.cellEntry b a n).clock = s.clock := by
  rw [Kv.cellEntry, clock_unlessBad]
  intro t
  split <;> simp -implicitDefEqProofs

@[simp] theorem clock_armArea (b k : Nat) : (s.armArea b k).clock = s.clock := by
  rw [Kv.armArea]
  split <;> simp -implicitDefEqProofs

@[simp] theorem clock_publish (n k : Nat) (b : Bool) : (s.publish n k b).clock = s.clock := by
  rw [Kv.publish]
  simp -implicitDefEqProofs

@[simp] theorem clock_imgBoundary (n : Nat) : (s.imgBoundary n).clock = s.clock := by
  rw [Kv.imgBoundary]
  split
  · rfl
  split
  · split <;> simp
  split <;> simp

@[simp] theorem clock_tallyBins (n : Nat) : (s.tallyBins n).clock = s.clock :=
  clock_foldl s _ fun t _ => clock_each t _ fun t _ => clock_unlessBad t _ fun _ => clock_storeLe ..

@[simp] theorem clock_tallyLatch (n : Nat) : (s.tallyLatch n).clock = s.clock := by
  rw [Kv.tallyLatch]
  split
  · split <;> simp
  · rfl

/-! ### Messages and frames of the new tick -/

@[simp] theorem clock_sendState : s.sendState.clock = s.clock := by
  rw [Kv.sendState]
  split <;> simp

@[simp] theorem clock_sweepBoundary : s.sweepBoundary.clock = s.clock := by
  rw [Kv.sweepBoundary]
  dsimp only
  split
  · rfl
  split <;> simp

@[simp] theorem clock_svlBoundary : s.svlBoundary.clock = s.clock := by
  rw [Kv.svlBoundary]
  split <;> simp

@[simp] theorem clock_launch (n : Nat) : (s.launch n).clock = s.clock := by
  rw [Kv.launch]
  dsimp only
  split <;> simp

@[simp] theorem clock_windowsEnd : s.windowsEnd.clock = s.clock := clock_each s _ fun t n => clock_winEnd t n 0

@[simp] theorem clock_mappingStale : (mappingStaleKv s).clock = s.clock := clock_when s _ fun _ => clock_of_tim rfl

end Sys2Proof.Machine.Kv
end

section
/-! What ends with a tick at a chip leaves the token and the clock alone; the tick boundary of a duty counts one tick on (R35, R36, R54, R559). -/

namespace Sys2Proof.Machine

/-! ### Steps of a hop that only send -/

/-- What a step of a hop leaves for its chip to see, beside the line. -/
def HopSt.told (s : HopSt) : Tab Nat × Bool × Bool × Nat × Option Nat := (s.r, s.lost, s.blindFail, s.errs, s.learn)

/-- A step of a hop that writes no register, loses no lock and learns nothing. -/
abbrev HopStep.Silent (f : HopStep) : Prop := ∀ F c i s, (f F c i s).told = s.told

theorem hopEmit_silent (F : HopFlds) (c : HopCfg) (i : Nat) (live : Bool) (s : HopSt) (b : LineBlock) :
    (hopEmit F c i live s b).told = s.told := by
  have errors (on : Bool) (l : List Bool) (t : HopSt) : (if on then hopErrors F i l t else (t, l)).1.told = t.told := by
    cases on <;> rfl
  unfold hopEmit
  cases c.tx
  · rfl
  · exact errors _ (s.h.coded b).1 { s with h := (s.h.coded b).2 }

theorem silent_frameStep (l : List LineBlock) : HopStep.Silent (frameStep l) := by
  intro F c i s
  unfold frameStep hopFrame
  induction l generalizing s with
  | nil => rfl
  | cons b l ih => exact (ih _).trans (hopEmit_silent F c i true s b)

theorem silent_blocksStep (b : LineBlock) : HopStep.Silent (blocksStep [b]) := by
  intro F c i s
  obtain ⟨r, lost, blind, errs, learn, -⟩ := hopOne_told F c i s b
  unfold HopSt.told
  rw [← r, ← lost, ← blind, ← errs, ← learn]
  rfl

theorem silent_fillStep (t : Nat) : HopStep.Silent (fillStep t) := by
  intro F c i s
  have repeated (b : LineBlock) (n : Nat) (s : HopSt) : (hopRepeat c b n s).told = s.told := by
    unfold hopRepeat
    split <;> rfl
  unfold fillStep
  rw [hopFill]
  extract_lets
  split
  · rfl
  split <;> exact repeated _ _ _

namespace Kv

variable (s : Kv)

/-! ### The token -/

/-- The registers that lie above the token's. -/
theorem token_wr {F : Fld} (h : 0x8418 ≤ F.base) (v i j : Nat) : (s.wr F v i j).rd CL_CASST.TOKEN = s.rd CL_CASST.TOKEN := by
  refine rd_wr_ne _ _ ?_
  simp only [Fld.key, Fld.addr, CL_CASST.TOKEN]
  omega

theorem token_untouched : Untouched (fun t s => t.rd CL_CASST.TOKEN = s.rd CL_CASST.TOKEN) :=
  untouched_rd _ 0 0 fun G hG a b => by
    have := raiseFlds_above G hG a b
    have : CL_CASST.TOKEN.key 0 0 < 0xC200 * 32 := by decide
    omega

theorem token_raise (src kind addr : Nat) : (s.raise src kind addr).rd CL_CASST.TOKEN = s.rd CL_CASST.TOKEN :=
  token_untouched.raise s src kind addr

theorem token_raiseOnce (src : Nat) (l : List Nat) : (s.raiseOnce src l).rd CL_CASST.TOKEN = s.rd CL_CASST.TOKEN :=
  token_untouched.raiseOnce s src l

theorem token_count {F G : Fld} (hF : 0x8418 ≤ F.base) (hG : 0x8418 ≤ G.base) (src i j : Nat) :
    (s.count F G src i j).rd CL_CASST.TOKEN = s.rd CL_CASST.TOKEN :=
  token_untouched.count s F G src i j (fun s v => token_wr s hF v i j) (fun s => token_wr s hG 1 i j)

theorem token_when (b : Bool) {f : Kv → Kv} (h : ∀ t : Kv, (f t).rd CL_CASST.TOKEN = t.rd CL_CASST.TOKEN) :
    (s.when b f).rd CL_CASST.TOKEN = s.rd CL_CASST.TOKEN := when_keeps (·.rd CL_CASST.TOKEN) s (h s) b

theorem token_each (l : List Nat) {f : Kv → Nat → Kv} (h : ∀ (t : Kv) n, (f t n).rd CL_CASST.TOKEN = t.rd CL_CASST.TOKEN) :
    (s.each l f).rd CL_CASST.TOKEN = s.rd CL_CASST.TOKEN := each_keeps (·.rd CL_CASST.TOKEN) h s l

/-- A silent step of a port touches the port's hop alone. -/
theorem token_spStep (n : Nat) {f : HopStep} (h : f.Silent) : (s.spStep n f).rd CL_CASST.TOKEN = s.rd CL_CASST.TOKEN := by
  have told := h spFlds (s.spCfg n) n { h := (s.spP n).hop, r := s.regs }
  simp only [HopSt.told, Prod.mk.injEq] at told
  obtain ⟨r, lost, blind, errs, -⟩ := told
  rw [spStep_quiet rfl lost blind errs]
  exact congrArg (CL_CASST.TOKEN.get 0 0) r

theorem token_clStep (n : Nat) {f : HopStep} (h : f.Silent) : (s.clStep n f).rd CL_CASST.TOKEN = s.rd CL_CASST.TOKEN := by
  have told := h clFlds (s.clCfg n) n { h := Tab.get {} n s.cl, r := s.regs }
  simp only [HopSt.told, Prod.mk.injEq] at told
  obtain ⟨r, lost, -, errs, learn⟩ := told
  rw [clStep_quiet rfl lost errs learn]
  refine (castleLanes_keeps (p := (·.rd CL_CASST.TOKEN)) token_untouched (fun t F hF v => ?_) (fun _ _ => rfl) _).trans
    (congrArg (CL_CASST.TOKEN.get 0 0) r)
  have apart : ∀ F ∈ linkFlds, CL_CASST.TOKEN.key 0 0 ≠ F.key 0 0 := by decide
  exact rd_wr_ne _ _ (apart F hF)

theorem token_spTest (n : Nat) : (s.spTest n).rd CL_CASST.TOKEN = s.rd CL_CASST.TOKEN := by
  have apart {F : Fld} (h : 0x8418 ≤ F.base) : CL_CASST.TOKEN.key 0 0 ≠ F.key n 0 := by
    simp only [Fld.key, Fld.addr, CL_CASST.TOKEN]
    omega
  rw [spTest_eq]
  exact hopTest_get spFlds _ n _ _ (apart (by decide)) (apart (by decide))

/-! ### What ends with a tick -/

theorem token_settleEndorse (t mask : Nat) : (s.settleEndorse t mask).rd CL_CASST.TOKEN = s.rd CL_CASST.TOKEN := by
  rw [Kv.settleEndorse]
  split
  · rfl
  · exact (token_raiseOnce _ _ _).trans ((token_each _ _ fun t _ => token_count t (by decide) (by decide) _ _ _).trans
      (token_wr s (by decide) mask 0 0))

theorem token_sendCommands (n : Nat) : (s.sendCommands n).rd CL_CASST.TOKEN = s.rd CL_CASST.TOKEN := by
  rw [Kv.sendCommands]
  split
  · exact (token_when _ _ fun t => token_spTest t n).trans ((token_spStep _ n (silent_frameStep _)).trans
      (token_spStep _ n (silent_frameStep _)))
  · rfl

theorem token_endFrames : s.endFrames.rd CL_CASST.TOKEN = s.rd CL_CASST.TOKEN :=
  (token_each _ _ token_sendCommands).trans (token_when s _ fun t => token_settleEndorse t _ 0)

theorem token_fillLines (t : Nat) : (s.fillLines t).rd CL_CASST.TOKEN = s.rd CL_CASST.TOKEN :=
  token_each s _ fun u n => token_spStep u n (silent_fillStep t)

theorem token_castleTime (t : Nat) : (s.castleTime t).rd CL_CASST.TOKEN = s.rd CL_CASST.TOKEN := by
  rw [Kv.castleTime]
  refine (token_each _ _ fun u n => token_clStep u n (silent_fillStep t)).trans ?_
  split
  · exact token_each _ _ fun u _ => token_each u _ fun u n => token_when u _ fun v => token_clStep v n (silent_blocksStep _)
  · rfl

theorem token_bootEnter : (s.bootEnter 4).rd CL_CASST.TOKEN = s.rd CL_CASST.TOKEN := by
  simp only [Kv.bootEnter]
  rw [token_each]
  · exact rd_wr_ne (F := CL_CASST.TOKEN) (G := SYS_STAT.PHASE) (i := 0) (j := 0) (p := 0) (q := 0) s 4 (by decide)
  · exact fun _ _ => rfl

theorem token_portBoundary (n : Nat) : (s.portBoundary n).rd CL_CASST.TOKEN = s.rd CL_CASST.TOKEN := by
  rw [Kv.portBoundary]
  refine (token_when _ _ token_bootEnter).trans ((token_when _ _ fun t => token_raise t _ 0 n).trans ?_)
  exact (token_wr _ (by decide) _ n 0).trans (token_wr s (by decide) _ n 0)

theorem token_logUnc (a : Nat) : (s.logUnc a).rd CL_CASST.TOKEN = s.rd CL_CASST.TOKEN := by
  rw [Kv.logUnc]
  split
  · exact (token_wr _ (by decide) 1 0 0).trans (token_when s _ fun t => token_wr t (by decide) _ 0 0)
  · rfl

theorem token_crcAdvance (n k : Nat) : (Kv.crcAdvance n k s).rd CL_CASST.TOKEN = s.rd CL_CASST.TOKEN := by
  induction k generalizing s with
  | zero => rfl
  | succ k ih =>
    rw [Kv.crcAdvance]
    extract_lets
    split
    · rfl
    split
    · exact (token_when _ _ fun t => token_logUnc t _).trans ((token_wr _ (by decide) 1 n 0).trans (token_wr s (by decide) 2 n 0))
    · exact (ih _).trans ((token_wr _ (by decide) _ n 0).trans ((token_wr _ (by decide) _ n 0).trans (token_wr s (by decide) _ n 0)))

theorem token_crcOn (n : Nat) : (s.crcOn n).rd CL_CASST.TOKEN = s.rd CL_CASST.TOKEN := by
  have finished (s : Kv) : (s.crcFinish n).rd CL_CASST.TOKEN = s.rd CL_CASST.TOKEN := by
    rw [Kv.crcFinish]
    split
    · have counted : ((s.wr CRCn_STAT.STATE 3 n).count CRCn_STAT.PASS CRCn_STAT.SAT Src.SYS_SAT n).rd CL_CASST.TOKEN =
          s.rd CL_CASST.TOKEN := (token_count _ (by decide) (by decide) _ n 0).trans (token_wr s (by decide) 3 n 0)
      extract_lets
      split
      · exact (token_raise _ _ 0 n).trans ((token_wr _ (by decide) 1 n 0).trans counted)
      · exact counted
    · rfl
  rw [Kv.crcOn]
  split
  · exact (finished _).trans (token_crcAdvance _ n _)
  · rfl

/-! ### The clock meanwhile -/

@[simp] theorem clock_settleEndorse (t mask : Nat) : (s.settleEndorse t mask).clock = s.clock := by
  rw [Kv.settleEndorse]
  split
  · rfl
  · simp

@[simp] theorem clock_sendCommands (n : Nat) : (s.sendCommands n).clock = s.clock := by
  rw [Kv.sendCommands]
  split
  · simp -implicitDefEqProofs
  · rfl

@[simp] theorem clock_endFrames : s.endFrames.clock = s.clock := by simp [Kv.endFrames]

@[simp] theorem clock_bootEnter : (s.bootEnter 4).clock = s.clock := by
  simp only [Kv.bootEnter]
  rw [clock_each, clock_mk, clock_tim, clock_wr]
  exact fun _ _ => clock_of_tim rfl

@[simp] theorem clock_portBoundary (n : Nat) : (s.portBoundary n).clock = s.clock := by
  rw [Kv.portBoundary]
  simp -implicitDefEqProofs

@[simp] theorem clock_runsBoundary : s.runsBoundary.clock = s.clock := clock_of_tim rfl

/-! ### The boundary -/

/-- A chip once the ended tick is dealt with: its frames, its line time, its ports and its runs. -/
def tickEnded (s : Kv) : Kv :=
  let t := 100 * s.tim.len
  let s := (s.endFrames.fillLines t).castleTime t
  ((s.each (List.range 32) Kv.portBoundary).each (List.range 4) Kv.crcOn).runsBoundary

/-- A chip once the new tick has begun, its time having gone on. -/
def tickBegun (s : Kv) : Kv :=
  let s := mappingStaleKv s.windowsEnd
  let s := { s with col := { s.col with cellMsgs := 0 } }
  let n := s.tick
  let s := (s.castleAt n).acceptBoundary.modeBoundary n
  let s := s.each (List.range 4) (fun s e => (s.sfeSwitch e n).sfeSchedule e n)
  let s := ((s.forcesAt n).olcBoundary.lateOverrides n).evalReady
  let s := ((s.cyclicReleases n).eventReleases n).t0Try
  let s := ((s.acqBoundary n).imgBoundary n).tallyLatch n
  let s := s.sendState.sweepBoundary.svlBoundary
  s.each (List.range 32) Kv.launch

theorem clock_tickEnded : s.tickEnded.clock = s.clock := by
  rw [Kv.tickEnded]
  simp -implicitDefEqProofs

theorem clock_tickBegun : s.tickBegun.clock = s.clock := by
  rw [Kv.tickBegun]
  simp -implicitDefEqProofs

/-- Nothing that ends with a tick takes the token. -/
theorem duty_tickEnded : s.tickEnded.duty = s.duty := by
  have token : s.tickEnded.rd CL_CASST.TOKEN = s.rd CL_CASST.TOKEN :=
    (token_each _ _ fun t n => token_crcOn t n).trans ((token_each _ _ fun t n => token_portBoundary t n).trans
      ((token_castleTime _ _).trans ((token_fillLines _ _).trans s.token_endFrames)))
  exact congrArg (· == 1) token

/-- The boundary of a running chip, its stages by name. -/
theorem tickBoundaryKv_running {s : Kv} (d : Kv) (meas : Option ClStamps) (clocked : s.on TIM_STAT.REFLOSS = false)
    (up : s.boot.inReset = false) (runs : s.rd SYS_PWR.STATE ≠ 2) : tickBoundaryKv d meas s = (s.tickEnded.timeBoundary d meas).tickBegun := by
  have on : (s.boot.inReset || s.rd SYS_PWR.STATE == 2) = false := by simp [up, runs]
  rw [tickBoundaryKv, clocked, on]
  rfl

@[simp] theorem clock_notAligned : s.notAligned.clock = s.clock := by
  unfold Kv.notAligned Kv.clock
  rfl

/-- A duty is not steered: its time goes on by its own tick (R35, R37). -/
theorem timeBoundary_duty {s : Kv} (h : s.duty = true) (d : Kv) (meas : Option ClStamps) :
    ∃ w : Kv, s.timeBoundary d meas = w.advanceTick ∧ w.clock = s.clock := by
  have own : ¬ s.steered d = true := by simp [Kv.steered, h]
  have measured (m : ClStamps) (t : Kv) : ({ t with tim := t.tim.measureLink m } : Kv).clock = t.clock := by
    unfold Kv.clock
    rfl
  rw [Kv.timeBoundary, if_neg own]
  refine ⟨_, rfl, (clock_when _ _ clock_notAligned).trans ?_⟩
  cases meas with
  | none => exact clock_wr ..
  | some m => exact (measured m _).trans (clock_wr ..)

/-- The next tick begins at the boundary time that the tick length gives (R35, R36). -/
theorem advanceTick_clock : s.advanceTick.tim.tick = s.tim.tick + 1 ∧ s.advanceTick.tim.bn = s.tim.bn + BitVec.ofNat 32 (10 * s.tim.len) ∧
    s.advanceTick.tim.len = s.rd TIM_TICKLEN.LEN := ⟨rfl, rfl, rfl⟩

/-- The spreading is taken at a multiple of the new K (R42). -/
theorem advanceTick_spread : let t := s.advanceTick.tim
    if (s.tim.tick + 1).toNat % s.rd TIM_SPRD.K = 0 then t.sprdK = s.rd TIM_SPRD.K ∧ t.sprdEn = s.on TIM_SPRD.EN
    else t.sprdK = s.tim.sprdK ∧ t.sprdEn = s.tim.sprdEn := by
  unfold Kv.advanceTick
  dsimp only
  generalize (s.tim.tick + 1).toNat % s.rd TIM_SPRD.K = phase
  by_cases h : phase = 0 <;> simp [h]

/-- The counter comes on by whole REFCLK edges, and the mapping stays (R30, R35, R509). -/
theorem advanceTick_counts : let t := s.advanceTick.tim
    (∃ edges : Nat, t.ns = s.tim.ns + BitVec.ofNat 64 (edges * t.inc.toNat)) ∧
      t.mapSec = s.tim.mapSec ∧ t.mapNs = s.tim.mapNs ∧ t.mapC = s.tim.mapC := by
  unfold Kv.advanceTick
  extract_lets b d inc edges tick k take t
  obtain ⟨ns, inc'⟩ := s.tim.count_shows inc edges
  obtain ⟨-, -, sec, nanos, c⟩ := s.tim.count_leaves inc edges
  refine ⟨⟨edges, ?_⟩, sec, nanos, c⟩
  show (s.tim.count inc edges).ns = s.tim.ns + BitVec.ofNat 64 (edges * (s.tim.count inc edges).inc.toNat)
  rw [inc', ns]

/-- The boundary of a chip that is held, or in STANDBY (R36, R559). -/
theorem tickBoundaryKv_still {s : Kv} (d : Kv) (meas : Option ClStamps) (clocked : s.on TIM_STAT.REFLOSS = false)
    (still : s.boot.inReset = true ∨ s.rd SYS_PWR.STATE = 2) :
    tickBoundaryKv d meas s = (s.wr TIM_STAT.STBY 0).notAligned.advanceTick := by
  have on : (s.boot.inReset || s.rd SYS_PWR.STATE == 2) = true := by simpa using still
  rw [tickBoundaryKv, clocked, on]
  rfl

end Kv

/-- Settles O10: what goes before and after leaves the clock alone, and the token too until the time goes on. -/
theorem tickBoundaryTime : Obligations.Tick_boundary_time := by
  intro s c meas k off
  refine ⟨fun lost => ?lost, fun clocked up runs duty => ?running, fun clocked still => ?still⟩
  case lost => exact exec_always rfl (if_pos lost)
  case running =>
    obtain ⟨w, time, clock⟩ := Kv.timeBoundary_duty (k.duty_tickEnded.trans duty) (s.chip c.other) meas
    refine ⟨_, exec_always rfl (Kv.tickBoundaryKv_running _ meas clocked up runs), ?_⟩
    have begun := (w.advanceTick.clock_tickBegun)
    have ended := clock.trans k.clock_tickEnded
    rw [time]
    simp only [Kv.clock, Tim.clock, Prod.mk.injEq] at begun ended
    obtain ⟨tick, bn, -⟩ := begun
    obtain ⟨tick', bn', len'⟩ := ended
    obtain ⟨counts, moves, -⟩ := w.advanceTick_clock
    exact ⟨by rw [tick, counts, tick'], by rw [bn, moves, bn', len']⟩
  case still =>
    have same {F : Fld} (h : F.key 0 0 ≠ Kv.TIM_STAT.STBY.key 0 0 ∧ F.key 0 0 ≠ Kv.TIM_STAT.ALIGNED.key 0 0) : off.rd F = k.rd F :=
      (Kv.rd_wr_ne _ _ h.2).trans (Kv.rd_wr_ne _ _ h.1)
    have len : off.rd Kv.TIM_TICKLEN.LEN = k.rd Kv.TIM_TICKLEN.LEN := same (by decide)
    have K : off.rd Kv.TIM_SPRD.K = k.rd Kv.TIM_SPRD.K := same (by decide)
    have en : off.on Kv.TIM_SPRD.EN = k.on Kv.TIM_SPRD.EN := congrArg (· == 1) (same (by decide))
    obtain ⟨tick, bn, tlen⟩ := (k.wr Kv.TIM_STAT.STBY 0).notAligned.advanceTick_clock
    have spread := (k.wr Kv.TIM_STAT.STBY 0).notAligned.advanceTick_spread
    obtain ⟨edges, mapped⟩ := (k.wr Kv.TIM_STAT.STBY 0).notAligned.advanceTick_counts
    rw [← len, ← K, ← en]
    exact ⟨_, exec_always rfl (Kv.tickBoundaryKv_still _ meas clocked still), tick, bn, tlen, spread, edges, mapped⟩

end Sys2Proof.Machine
end

section
/-! Training blocks as the receiver of start-up mode takes them, from a line of the right polarity and from an inverted one (R65, R66, R91). -/

namespace Sys2Proof.Machine

/-! ### Characters on a line that may be inverted -/

/-- Ten line bits as they come over a line that is inverted or not (R91). -/
def lineSeen (inv : Bool) (v : Nat) : Nat := if inv then 1023 - v else v

theorem lineSeen_lt (inv : Bool) {v : Nat} (h : v < 1024) : lineSeen inv v < 1024 := by
  unfold lineSeen
  split <;> omega

/-- Two inversions cancel. -/
theorem lineSeen_lineSeen (a b : Bool) {v : Nat} (h : v < 1024) : lineSeen a (lineSeen b v) = lineSeen (a ^^ b) v := by
  cases a <;> cases b <;> simp [lineSeen]
  omega

/-- What a line that is inverted or not makes of a character (R65, R91). -/
def LineChar.seen (inv : Bool) (c : LineChar) : LineChar := (decodeChar false (lineSeen inv (encodeChar inv c).1)).getD c

/-- The characters of a block: the marker of a control block, and bytes. -/
def LineChar.InBlock (c : LineChar) : Prop := c = k285 ∨ (c.k = false ∧ c.byte < 256)

/-- A receiver whose disparity is the sender's, or on an inverted line the opposite, reads what the line makes of a character, and its
disparity follows the sender's. -/
def LineChar.Readable (rd inv : Bool) (c : LineChar) : Prop :=
  let e := encodeChar (rd ^^ inv) c
  e.1 < 1024 ∧ decodeChar rd (lineSeen inv e.1) = some (c.seen inv) ∧ (codeDisparity rd (lineSeen inv e.1) ^^ inv) = e.2

theorem readable_of_inBlock (rd inv : Bool) {c : LineChar} (h : c.InBlock) : c.Readable rd inv := by
  have bytes : ∀ rd inv : Bool, ∀ b < 256, LineChar.Readable rd inv ⟨false, b⟩ := by
    unfold LineChar.Readable
    decide +kernel
  have marker : ∀ rd inv : Bool, k285.Readable rd inv := by
    unfold LineChar.Readable
    decide +kernel
  rcases h with rfl | ⟨k, byte⟩
  · exact marker rd inv
  · obtain ⟨_, b⟩ := c
    subst k
    exact bytes rd inv b byte

/-- The characters that a receiver reads from codes, by its disparity rule. -/
def readCodes : Bool → List Nat → List (Option LineChar)
  | _, [] => []
  | rd, v :: l => decodeChar rd v :: readCodes (codeDisparity rd v) l

/-- Characters of a block come over the line one by one. -/
theorem readCodes_encodeChars (rd inv : Bool) {cs : List LineChar} (h : ∀ c ∈ cs, c.InBlock) :
    readCodes rd ((encodeChars (rd ^^ inv) cs).1.map (lineSeen inv)) = cs.map (fun c => some (c.seen inv)) := by
  induction cs generalizing rd with
  | nil => rfl
  | cons c cs ih =>
    obtain ⟨hc, hcs⟩ := List.forall_mem_cons.mp h
    obtain ⟨-, read, follows⟩ := readable_of_inBlock rd inv hc
    simp only [encodeChars, List.map_cons, readCodes, read, ← follows, ih _ hcs]

theorem encodeChars_lt (rd : Bool) {cs : List LineChar} (h : ∀ c ∈ cs, c.InBlock) : ∀ v ∈ (encodeChars rd cs).1, v < 1024 := by
  induction cs generalizing rd with
  | nil => simp [encodeChars]
  | cons c cs ih =>
    obtain ⟨hc, hcs⟩ := List.forall_mem_cons.mp h
    obtain ⟨small, -⟩ := readable_of_inBlock rd false hc
    rw [Bool.xor_false] at small
    exact List.forall_mem_cons.mpr ⟨small, ih _ hcs⟩

/-! ### Blocks of bytes -/

theorem ofBits_append (l m : List Bool) : ofBits (l ++ m) = ofBits l * 2 ^ m.length + ofBits m := by
  have shifted (m : List Bool) (v : Nat) : m.foldl (fun v b => 2 * v + (if b then 1 else 0)) v = v * 2 ^ m.length + ofBits m := by
    unfold ofBits
    induction m generalizing v with
    | nil => simp
    | cons b m ih =>
      rw [List.foldl_cons, List.foldl_cons, ih, ih (2 * 0 + _), List.length_cons, pow_succ]
      ring
  unfold ofBits
  rw [List.foldl_append]
  exact shifted ..

@[simp] theorem bitList_length (v n : Nat) : (bitList v n).length = n := by
  induction n with
  | zero => rfl
  | succ n ih => simp [bitList, ih]

theorem ofBits_bitList (v n : Nat) : ofBits (bitList v n) = v % 2 ^ n := by
  induction n with
  | zero => simp [bitList, ofBits, Nat.mod_one]
  | succ n ih =>
    have first : ofBits [v.testBit n] = v / 2 ^ n % 2 := by
      rw [Nat.testBit_eq_decide_div_mod_eq]
      have := Nat.mod_two_eq_zero_or_one (v / 2 ^ n)
      rcases this with h | h <;> simp [ofBits, h]
    have split : bitList v (n + 1) = [v.testBit n] ++ bitList v n := rfl
    rw [split, ofBits_append, ih, first, bitList_length, Nat.mod_pow_succ]
    ring

/-- The number that the payload bytes of a block form, the first the most significant. -/
def ofBytes (l : List Nat) : Nat := l.foldl (fun v b => 256 * v + b) 0

theorem ofBits_bytes {l : List Nat} (h : ∀ b ∈ l, b < 256) :
    ofBits (l.flatMap (bitList · 8)) = ofBytes l := by
  induction l using List.reverseRecOn with
  | nil => rfl
  | append_singleton l b ih =>
    simp only [List.mem_append, List.mem_singleton] at h
    have last : b < 256 := h b (.inr rfl)
    rw [List.flatMap_append, ofBits_append, ih fun b hb => h b (.inl hb)]
    simp [ofBytes, ofBits_bitList, Nat.mod_eq_of_lt last]
    ring

/-- A control block with eight payload bytes. -/
structure LineBlock.Bytes (b : LineBlock) (l : List Nat) : Prop where
  control : b.control = true
  length : l.length = 8
  small : ∀ v ∈ l, v < 256
  payload : b.payload.toNat = ofBytes l

theorem ofBytes_lt {l : List Nat} (h : ∀ b ∈ l, b < 256) : ofBytes l < 256 ^ l.length := by
  induction l using List.reverseRecOn with
  | nil => decide
  | append_singleton l b ih =>
    simp only [List.mem_append, List.mem_singleton] at h
    have last : b < 256 := h b (.inr rfl)
    have first := ih fun b hb => h b (.inl hb)
    simp only [ofBytes, List.foldl_append, List.foldl_cons, List.foldl_nil, List.length_append, List.length_singleton, pow_succ] at first ⊢
    omega

/-- The bytes of a block stand in its payload, the first the most significant (R62). -/
theorem byte_of_bytes {b : LineBlock} {l : List Nat} (h : b.Bytes l) : (List.range 8).map b.byte = l := by
  obtain ⟨-, length, small, payload⟩ := h
  obtain ⟨b0, b1, b2, b3, b4, b5, b6, b7, rfl⟩ : ∃ b0 b1 b2 b3 b4 b5 b6 b7, l = [b0, b1, b2, b3, b4, b5, b6, b7] := by
    match l, length with
    | [b0, b1, b2, b3, b4, b5, b6, b7], _ => exact ⟨_, _, _, _, _, _, _, _, rfl⟩
  simp only [List.forall_mem_cons] at small
  simp only [ofBytes, List.foldl_cons, List.foldl_nil] at payload
  have eight : List.range 8 = [0, 1, 2, 3, 4, 5, 6, 7] := rfl
  simp only [eight, List.map_cons, List.map_nil, LineBlock.byte, payload, List.cons.injEq, and_true, Nat.reduceSub, Nat.reducePow]
  omega

theorem byte_eq {b : LineBlock} {l : List Nat} (h : b.Bytes l) {k : Nat} (hk : k < 8) : b.byte k = l.getD k 0 := by
  rw [← byte_of_bytes h]
  simp [hk]

theorem bytes_chars {b : LineBlock} {l : List Nat} (h : b.Bytes l) : b.chars = k285 :: l.map (LineChar.mk false) := by
  have bytes := byte_of_bytes h
  rw [← bytes, LineBlock.chars, h.control, List.map_map]
  rfl

theorem kind_eq_byte (b : LineBlock) : b.kind = BitVec.ofNat 8 (b.byte 0) := by
  apply BitVec.eq_of_toNat_eq
  simp [LineBlock.kind, LineBlock.byte, Nat.shiftRight_eq_div_pow]

/-- Nine characters, the marker of a control block first, make a block. -/
theorem blockOf_bytes {l : List Nat} (length : l.length = 8) (small : ∀ v ∈ l, v < 256) :
    ∃ b : LineBlock, blockOf (some k285 :: l.map (fun v => some ⟨false, v⟩)) = some b ∧ b.Bytes l := by
  have body (l : List Nat) : l.foldr (fun v r => bitList v 8 ++ r) [] = l.flatMap (bitList · 8) := by
    induction l with
    | nil => rfl
    | cons v l ih => simp [ih]
  have fits : ofBytes l < 2 ^ 64 := by
    have := ofBytes_lt small
    rwa [length] at this
  refine ⟨controlBlock (ofBytes l), ?_, rfl, length, small, (BitVec.toNat_ofNat ..).trans (Nat.mod_eq_of_lt fits)⟩
  simp [blockOf, List.foldr_map, length, body, ofBits_bytes small, controlBlock]

theorem trainingBlock_bytes (sig kind lane : Nat) (ready : Bool) (shift : Nat) : (trainingBlock sig kind lane ready shift).Bytes
    [0x4B, sig % 256, kind % 256, lane % 256, if ready then 1 else 0, shift % 256, 0, 0] where
  control := rfl
  length := rfl
  small := by cases ready <;> simp <;> omega
  payload := by
    have bit : (if ready then 1 else 0) < 256 := by cases ready <;> decide
    simp only [trainingBlock, ofBytes, List.foldl_cons, List.foldl_nil, BitVec.toNat_shiftLeft, BitVec.toNat_ofNat, Nat.shiftLeft_eq]
    omega

/-! ### A training block on a line that may be inverted -/

theorem marker_seen (inv : Bool) : k285.seen inv = k285 := by cases inv <;> decide

/-- What a line that is inverted or not makes of a data byte. -/
def byteSeen (inv : Bool) (v : Nat) : Nat := (LineChar.seen inv ⟨false, v⟩).byte

theorem byte_seen : ∀ inv : Bool, ∀ v < 256, LineChar.seen inv ⟨false, v⟩ = ⟨false, byteSeen inv v⟩ ∧ byteSeen inv v < 256 := by
  decide +kernel

theorem byteSeen_upright : ∀ v < 256, byteSeen false v = v := by decide +kernel

/-- The type and the signature of a training block on an inverted line (R66). -/
theorem byteSeen_inverted : byteSeen true 0x4B = 0xB4 ∧ byteSeen true 0xC5 = 0x3A := by decide

/-- The codes of a block as they come over a line that is inverted or not. -/
def lineCodes (rd inv : Bool) (b : LineBlock) : List (BitVec 10) := (encodeChars rd b.chars).1.map (fun v => BitVec.ofNat 10 (lineSeen inv v))

theorem inBlock_of_bytes {b : LineBlock} {l : List Nat} (h : b.Bytes l) : ∀ c ∈ b.chars, c.InBlock := by
  rw [bytes_chars h, List.forall_mem_cons, List.forall_mem_map]
  exact ⟨.inl rfl, fun v hv => .inr ⟨rfl, h.small v hv⟩⟩

/-- A receiver that inverts or not sees the codes through both inversions. -/
theorem lineSeen_lineCodes (rd rx inv : Bool) {b : LineBlock} {l : List Nat} (h : b.Bytes l) :
    ((lineCodes rd inv b).map BitVec.toNat).map (fun v => lineSeen rx (v % 1024)) = (encodeChars rd b.chars).1.map (lineSeen (rx ^^ inv)) := by
  rw [lineCodes, List.map_map, List.map_map]
  refine List.map_congr_left fun v hv => ?_
  have small := encodeChars_lt rd (inBlock_of_bytes h) v hv
  simp only [Function.comp_apply, BitVec.toNat_ofNat]
  rw [Nat.mod_eq_of_lt (lineSeen_lt inv small), Nat.mod_eq_of_lt (lineSeen_lt inv small), lineSeen_lineSeen rx inv small]

/-- A control block comes over the line whole, as the control block of its bytes as the line makes them (R65, R91). -/
theorem blockOf_readCodes (rd inv : Bool) {b : LineBlock} {l : List Nat} (h : b.Bytes l) :
    let read := readCodes rd ((encodeChars (rd ^^ inv) b.chars).1.map (lineSeen inv))
    none ∉ read ∧ ∃ t : LineBlock, blockOf read = some t ∧ t.Bytes (l.map (byteSeen inv)) := by
  have seen : b.chars.map (fun c => some (c.seen inv)) = some k285 :: (l.map (byteSeen inv)).map (fun v => some ⟨false, v⟩) := by
    rw [bytes_chars h, List.map_cons, marker_seen, List.map_map, List.map_map]
    exact congrArg _ (List.map_congr_left fun v hv => congrArg some (byte_seen inv v (h.small v hv)).1)
  rw [readCodes_encodeChars rd inv (inBlock_of_bytes h)]
  refine ⟨by simp, ?_⟩
  rw [seen]
  refine blockOf_bytes ((List.length_map ..).trans h.length) ?_
  rw [List.forall_mem_map]
  exact fun v hv => (byte_seen inv v (h.small v hv)).2

end Sys2Proof.Machine
end

section
/-! The link state machine of a hop end, step by step (R66 to R73). -/

namespace Sys2Proof.Machine

/-! ### The registers of a hop end -/

/-- The register fields of the three kinds of hop end. -/
def hopKinds : List HopFlds := [spFlds, clFlds, optFlds]

theorem flds_mem_hopKinds (h : HopEnd) : h.flds ∈ hopKinds := by cases h <;> simp [hopKinds, HopEnd.flds]

@[simp] theorem HopSt.rd_wr_same (s : HopSt) (G : Fld) (i v : Nat) : (s.wr G i v).rd G i = v % 2 ^ G.w := Fld.get_set_same ..

section
variable {F : HopFlds} (hF : F ∈ hopKinds) {c : HopCfg} {i : Nat} {s : HopSt}
include hF

/-- Two fields of one hop end. -/
theorem hopFld_ne (G H : HopFlds → Fld) (apart : ∀ F ∈ hopKinds, (G F).s1 = (H F).s1 ∧ (G F).key 0 0 ≠ (H F).key 0 0) (i : Nat) :
    (G F).key i 0 ≠ (H F).key i 0 := key_ne (apart F hF)

theorem rd_wr_other (G H : HopFlds → Fld) (apart : ∀ F ∈ hopKinds, (G F).s1 = (H F).s1 ∧ (G F).key 0 0 ≠ (H F).key 0 0)
    (s : HopSt) (i v : Nat) : (s.wr (H F) i v).rd (G F) i = s.rd (G F) i := Fld.get_set_ne _ _ (hopFld_ne hF G H apart i)

/-- A field of one bit is 0 or 1. -/
theorem rd_bit (G : HopFlds → Fld) (one : ∀ F ∈ hopKinds, (G F).w = 1) (s : HopSt) (i : Nat) : s.rd (G F) i = 0 ∨ s.rd (G F) i = 1 := by
  have := Fld.get_lt (G F) i 0 s.r
  rw [one F hF] at this
  simp only [HopSt.rd]
  omega

/-! ### Characters of start-up mode -/

/-- What characters without an error leave of a locked receiver: its lock, and all but its registers of the line (R65). -/
structure HopSt.Hears (F : HopFlds) (i : Nat) (s t : HopSt) : Prop where
  locked : t.rd F.alock i = 1
  clean : ∀ b ∈ t.h.chars, b = false
  rd : ∀ (G : Fld) (p : Nat), G.key p 0 ≠ F.alock.key i 0 → t.rd G p = s.rd G p
  rest : ∃ rxRd commas pos chars, t =
    { s with r := t.r, h := { s.h with rxRd := rxRd, commas := commas, charPos := pos, chars := chars } }

omit hF in
theorem HopSt.Hears.trans {s t u : HopSt} (h : s.Hears F i t) (g : t.Hears F i u) : s.Hears F i u where
  locked := g.locked
  clean := g.clean
  rd G p hG := (g.rd G p hG).trans (h.rd G p hG)
  rest := by
    obtain ⟨_, _, _, _, ht⟩ := h.rest
    obtain ⟨_, _, _, _, hu⟩ := g.rest
    rw [ht] at hu
    exact ⟨_, _, _, _, hu⟩

/-- A right character leaves a locked receiver so. -/
theorem hopChar_right (pos v : Nat) (locked : s.rd F.alock i = 1) (clean : ∀ b ∈ s.h.chars, b = false)
    (right : decodeChar s.h.rxRd (lineSeen (s.rd F.rxinv i == 1) (v % 1024)) ≠ none) :
    s.Hears F i (hopChar F i pos s v).1 ∧
      (hopChar F i pos s v).1.h.rxRd = codeDisparity s.h.rxRd (lineSeen (s.rd F.rxinv i == 1) (v % 1024)) ∧
      (hopChar F i pos s v).2 = decodeChar s.h.rxRd (lineSeen (s.rd F.rxinv i == 1) (v % 1024)) := by
  have code : (if s.rd F.rxinv i = 1 then 1023 - v % 1024 else v % 1024) = lineSeen (s.rd F.rxinv i == 1) (v % 1024) := by
    simp only [lineSeen, beq_iff_eq]
  unfold hopChar
  rw [code]
  generalize lineSeen (s.rd F.rxinv i == 1) (v % 1024) = w at *
  extract_lets u ch comma n seen bad h t
  have fine : ch.isNone = false := Option.isNone_eq_false_iff.mpr (Option.isSome_iff_ne_none.mpr right)
  have noError : ∀ b ∈ seen, b = false := fun b hb => by
    rcases List.mem_cons.mp (List.mem_of_mem_take hb) with rfl | hb
    · exact fine
    · exact clean b hb
  have good : bad = false := by
    have : seen.filter id = [] := List.filter_eq_nil_iff.mpr fun b hb => by simp [noError b hb]
    simp [bad, this]
  clear_value comma n bad
  subst good
  have one : ∀ F ∈ hopKinds, F.alock.w = 1 := by decide
  have right : t = { s with h := { s.h with
      rxRd := codeDisparity s.h.rxRd w, commas := n, charPos := if comma = true then pos else s.h.charPos, chars := seen } } := by
    simp only [t, h, u, Bool.not_false, Bool.and_true, Bool.false_eq_true, if_false]
  clear_value t
  subst right
  simp only [Bool.false_eq_true, if_false]
  split
  · exact ⟨⟨by simp [one F hF], noError, fun G p hG => Fld.get_set_ne _ _ hG, _, _, _, _, rfl⟩, rfl, rfl⟩
  · exact ⟨⟨locked, noError, fun _ _ _ => rfl, _, _, _, _, rfl⟩, rfl, rfl⟩

/-- So do right characters one after the other. -/
theorem hopChars_right (pos : Nat) (l : List Nat) (s : HopSt) (locked : s.rd F.alock i = 1) (clean : ∀ b ∈ s.h.chars, b = false)
    (right : none ∉ readCodes s.h.rxRd (l.map (fun v => lineSeen (s.rd F.rxinv i == 1) (v % 1024)))) :
    s.Hears F i (hopChars F i pos l s).1 ∧
      (hopChars F i pos l s).2 = readCodes s.h.rxRd (l.map (fun v => lineSeen (s.rd F.rxinv i == 1) (v % 1024))) := by
  induction l generalizing s with
  | nil => exact ⟨⟨locked, clean, fun _ _ _ => rfl, _, _, _, _, rfl⟩, rfl⟩
  | cons v l ih =>
    simp only [List.map_cons, readCodes, List.mem_cons, not_or] at right
    obtain ⟨hears, rxRd, read⟩ := hopChar_right hF pos v locked clean (Ne.symm right.1)
    have inv := hears.rd F.rxinv i (hopFld_ne hF (·.rxinv) (·.alock) (by decide) i)
    obtain ⟨hears', read'⟩ := ih _ hears.locked hears.clean (by rw [rxRd, inv]; exact right.2)
    refine ⟨hears.trans hears', ?_⟩
    rw [rxRd, inv] at read'
    simp only [hopChars, List.map_cons, readCodes, read, read']

/-! ### Training blocks -/

omit hF in
/-- A training block takes a little of the transmitter alone. -/
theorem hopSend_eq (c : HopCfg) (s : HopSt) : ∃ used scr pre txRd out, hopSend F c i s =
    { s with h := { s.h with used := used, scr := scr, pre := pre, txRd := txRd }, out := out } := hopOne_eq ..

/-- A training block that comes over the line whole, as the receiver takes it: of type 0x4B, or 0xB4 where it sees the line inverted, it is
judged by its bytes as the line makes them, and a training block of this end goes out (R65, R66). -/
theorem hopTraining_received (pos : Nat) (inv : Bool) {sig kind lane : Nat} {ready : Bool} {shift : Nat}
    (train : s.rd F.lstate i = lTrain) (run : c.run = false) (locked : s.rd F.alock i = 1) (clean : ∀ b ∈ s.h.chars, b = false) :
    ∃ b u, s.Hears F i u ∧ b.Bytes ([0x4B, sig % 256, kind % 256, lane % 256, if ready then 1 else 0, shift % 256, 0, 0].map (byteSeen inv)) ∧
      hopTraining F c i pos (lineCodes (s.h.rxRd ^^ inv) ((s.rd F.rxinv i == 1) ^^ inv) (trainingBlock sig kind lane ready shift)) s =
        hopSend F c i (hopTrained F c i b u) := by
  have bytes := trainingBlock_bytes sig kind lane ready shift
  have seen := lineSeen_lineCodes (s.h.rxRd ^^ inv) (s.rd F.rxinv i == 1) ((s.rd F.rxinv i == 1) ^^ inv) bytes
  rw [← Bool.xor_assoc, Bool.xor_self, Bool.false_xor] at seen
  obtain ⟨right, b, block, made⟩ := blockOf_readCodes s.h.rxRd inv bytes
  rw [← seen] at right block
  obtain ⟨hears, read⟩ := hopChars_right hF pos _ s locked clean right
  refine ⟨b, _, hears, made, ?_⟩
  have type : b.kind = trainingKind ∨ b.kind = invertedKind := by
    rw [kind_eq_byte, byte_eq made (by decide)]
    cases inv
    · exact .inl (congrArg (BitVec.ofNat 8) (byteSeen_upright 0x4B (by decide)))
    · exact .inr (congrArg (BitVec.ofNat 8) byteSeen_inverted.1)
  have takes : (s.rd F.lstate i = lTrain ∨ s.rd F.lstate i = lShift) ∧ (!c.run) = true := ⟨.inl train, by rw [run]; rfl⟩
  have stays : ¬ s.rd F.lstate i = lShift := by rw [train]; decide
  unfold hopTraining
  simp only [if_pos takes, if_neg stays, read, block]
  rw [if_pos ⟨hears.locked, made.control, type⟩]

/-- What a right training block leaves: it tells of the other end and, beside the lock, no register changes (R66). -/
structure HopSt.Taught (F : HopFlds) (i : Nat) (s : HopSt) (kind lane : Nat) (ready : Bool) (shift : Nat) (y : HopSt) : Prop where
  learn : y.learn = some lane
  peer : y.h.peer = kind
  lane : y.h.lane = lane
  farShift : y.h.farShift = shift
  readyRun : y.h.readyRun = if ready then s.h.readyRun + 1 else 0
  lost : y.lost = s.lost
  errs : y.errs = s.errs
  locked : y.rd F.alock i = 1
  rd : ∀ (G : Fld) (p : Nat), G.key p 0 ≠ F.alock.key i 0 → y.rd G p = s.rd G p

/-- One with the right signature tells of the other end (R66). -/
theorem hopTraining_right (pos : Nat) {kind lane shift : Nat} (hk : kind < 256) (hl : lane < 256) (hs : shift < 256) (ready : Bool)
    (train : s.rd F.lstate i = lTrain) (run : c.run = false) (locked : s.rd F.alock i = 1) (clean : ∀ b ∈ s.h.chars, b = false) :
    s.Taught F i kind lane ready shift
      (hopTraining F c i pos (lineCodes s.h.rxRd (s.rd F.rxinv i == 1) (trainingBlock 0xC5 kind lane ready shift)) s) := by
  obtain ⟨b, u, hears, made, takes⟩ := hopTraining_received hF pos false (sig := 0xC5) (kind := kind) (lane := lane) (ready := ready)
    (shift := shift) train run locked clean
  rw [Nat.mod_eq_of_lt hk, Nat.mod_eq_of_lt hl, Nat.mod_eq_of_lt hs] at made
  rw [Bool.xor_false, Bool.xor_false] at takes
  have byte (k : Nat) (hk : k < 8) := byte_eq made hk
  have signature : b.byte 1 = 0xC5 := byte 1 (by decide)
  have peer : b.byte 2 = kind := (byte 2 (by decide)).trans (byteSeen_upright _ hk)
  have lane' : b.byte 3 = lane := (byte 3 (by decide)).trans (byteSeen_upright _ hl)
  have ready' : b.byte 4 = if ready then 1 else 0 := (byte 4 (by decide)).trans (byteSeen_upright _ (by cases ready <;> decide))
  have shift' : b.byte 5 = shift := (byte 5 (by decide)).trans (byteSeen_upright _ hs)
  obtain ⟨used, scr, pre, txRd, out, send⟩ := hopSend_eq c (hopTrained F c i b u) (F := F) (i := i)
  obtain ⟨_, _, _, _, rest⟩ := hears.rest
  rw [takes, send, hopTrained, if_pos signature]
  refine ⟨congrArg some lane', peer, lane', shift', ?_, ?_, ?_, hears.locked, hears.rd⟩
  · rw [rest, ready']
    cases ready <;> rfl
  · rw [rest]
  · rw [rest]

/-- One with a wrong signature, or the right one as an inverted line gives it, inverts the polarity (R66, R91). -/
theorem hopTraining_wrong (pos : Nat) (inv : Bool) {sig : Nat} (wrong : inv = false → sig % 256 ≠ 0xC5) (right : inv = true → sig = 0xC5)
    {kind lane : Nat} {ready : Bool} {shift : Nat}
    (train : s.rd F.lstate i = lTrain) (run : c.run = false) (locked : s.rd F.alock i = 1) (clean : ∀ b ∈ s.h.chars, b = false) :
    let y := hopTraining F c i pos (lineCodes (s.h.rxRd ^^ inv) ((s.rd F.rxinv i == 1) ^^ inv) (trainingBlock sig kind lane ready shift)) s
    y.h.readyRun = 0 ∧ y.rd F.lstate i = lTrain ∧ y.rd F.alock i = 1 ∧
      y.rd F.rxinv i = if c.pauto then 1 - s.rd F.rxinv i else s.rd F.rxinv i := by
  obtain ⟨b, u, hears, made, takes⟩ := hopTraining_received hF pos inv (sig := sig) (kind := kind) (lane := lane) (ready := ready)
    (shift := shift) train run locked clean
  have signature : b.byte 1 ≠ 0xC5 := by
    rw [byte_eq made (by decide)]
    cases inv
    case false => exact (byteSeen_upright _ (Nat.mod_lt sig (by decide))).trans_ne (wrong rfl)
    case true =>
      rw [right rfl]
      exact byteSeen_inverted.2.trans_ne (by decide)
  obtain ⟨used, scr, pre, txRd, out, send⟩ := hopSend_eq c (hopTrained F c i b u) (F := F) (i := i)
  have lstate : u.rd F.lstate i = lTrain := (hears.rd _ i (hopFld_ne hF (·.lstate) (·.alock) (by decide) i)).trans train
  have rxinv : u.rd F.rxinv i = s.rd F.rxinv i := hears.rd _ i (hopFld_ne hF (·.rxinv) (·.alock) (by decide) i)
  have one : ∀ F ∈ hopKinds, F.rxinv.w = 1 := by decide
  rw [takes, send, hopTrained, if_neg signature]
  cases c.pauto
  case false => exact ⟨rfl, lstate, hears.locked, rxinv⟩
  case true =>
    refine ⟨rfl, (rd_wr_other hF (·.lstate) (·.rxinv) (by decide) ..).trans lstate,
      (rd_wr_other hF (·.alock) (·.rxinv) (by decide) ..).trans hears.locked, (HopSt.rd_wr_same ..).trans ?_⟩
    rw [one F hF, rxinv, if_pos rfl]
    omega

end

end Sys2Proof.Machine
end

section
/-! The steps of the link state machine of a hop end, each by what it comes to (R70 to R74). -/

namespace Sys2Proof.Machine

/-! ### A command at a hop end -/

/-- A command on a chip is what it comes to there. -/
theorem onKv_congr {s : State} {c : Chip} {f g : Kv → Kv} (same : f (s.kvAt c) = g (s.kvAt c)) : s.onKv c f = s.onKv c g := by
  have at_ (f : Kv → Kv) : s.onKv c f = s.setChip c (if (s.kvAt c).boot.inReset then s.kvAt c else f (s.kvAt c)) := rfl
  rw [at_, at_, same]

/-- A step at a hop end leaves there what the state machine comes to. -/
theorem onHop_eq_hopAs (s : State) (h : HopEnd) (f : HopStep) : s.onHop h f = s.hopAs h (f h.flds (s.hopCfg h) h.num (s.hopSt h)) := by
  cases h with
  | sp c n => exact onKv_congr rfl
  | cl c n => exact onKv_congr rfl
  | opt a p => rfl

theorem exec_hop {s : State} {h : HopEnd} {j : Instr} {f : HopStep} {y : HopSt} (hj : exec j s = .next (s.onHop h f))
    (hf : f h.flds (s.hopCfg h) h.num (s.hopSt h) = y) : exec j s = .next (s.hopAs h y) := by rw [hj, onHop_eq_hopAs, hf]

section
variable {F : HopFlds} (hF : F ∈ hopKinds) {c : HopCfg} {i : Nat} {s : HopSt}

/-! ### How a start goes (R71, R73, R74) -/

/-- BRING with RUN regarded (R74). -/
theorem start_eq_one : c.start = 1 ↔ c.bring = 1 ∧ c.run = false := by
  unfold HopCfg.start
  cases c.run
  · simp
  · by_cases h : c.bring = 1 <;> simp [h]

theorem start_eq_two : c.start = 2 ↔ c.bring = 2 ∨ (c.run = true ∧ c.bring = 1) := by
  unfold HopCfg.start
  cases c.run <;> simp
  omega

/-- Where BRING asks for blind starts at all (R73, R74). -/
theorem start_blind : c.start = 1 ∨ c.start = 2 ↔ c.bring = 1 ∨ c.bring = 2 := by
  rw [start_eq_one, start_eq_two]
  cases c.run <;> simp
  omega

theorem hopGoesBlind_iff : hopGoesBlind F c i s = true ↔
    c.nrz = false ∧ (c.bring = 1 ∨ c.bring = 2) ∧ s.rd F.saved i = 1 ∧ ¬ (s.h.auto ∧ c.bring = 1 ∧ c.run = false) := by
  rw [← start_blind, ← start_eq_one]
  simp only [hopGoesBlind, Bool.and_eq_true, Bool.not_eq_true', Bool.or_eq_true, beq_iff_eq, Bool.and_eq_false_iff, beq_eq_false_iff_ne]
  cases s.h.auto <;> simp [and_assoc]

/-- What goes out in DARK (R71, R74). -/
theorem hopDark_dark (dark : s.rd F.lstate i = lDark) : hopDark F c i s =
    if hopGoesBlind F c i s = true ∨ (c.run = true ∧ c.nrz = false) then hopToService F c i s
    else hopSend F c i { s with h := { s.h with service := false, shift := 0 } } := by
  have service : hopDarkService F c i s = true ↔ hopGoesBlind F c i s = true ∨ (c.run = true ∧ c.nrz = false) := by
    simp [hopDarkService]
  rw [hopDark, if_pos dark, if_congr service rfl rfl]

/-! ### From TRAIN to UP -/

theorem hopReady_ready (train : s.rd F.lstate i = lTrain) (ready : 16 ≤ s.h.readyRun) (run : c.run = false) (nrz : c.nrz = false) :
    hopReady F c i s = { (s.wr F.lstate i lShift) with h := { s.h with shift := 63 } } :=
  if_pos ⟨train, ready, by rw [run]; rfl, by rw [nrz]; rfl⟩

theorem hopShiftEnd_shift (shift : s.rd F.lstate i = lShift) (run : c.run = false) : hopShiftEnd F c i s =
    let z := hopCountDown F c i s.h.shift s
    hopToService F c i { ((z.wr F.lstate i lHunt).wr F.alock i 0) with
      h := { z.h with blind := false, failed := false, pre := 0, rpre := 0 } } := if_pos ⟨shift, by rw [run]; rfl⟩

theorem hopUp_hunt (hunt : s.rd F.lstate i = lHunt) (locked : s.rd F.alock i = 1) : hopUp F c i s =
    let y := (s.wr F.lstate i lUp).wr F.saved i 1
    { y with h := { s.h with
      savedInv := y.rd F.rxinv i, savedPk := if y.rd F.man i = 1 then y.rd F.mpk i else y.rd F.pk i
      blind := false, failed := false, auto := false, afterLoss := false } } := if_pos ⟨.inl hunt, locked⟩

theorem hopHuntTimeout_hunt (hunt : s.rd F.lstate i = lHunt) (blind : s.h.blind = false) (run : c.run = false) :
    hopHuntTimeout F c i s = hopTrain F c i s := if_pos ⟨hunt, by rw [blind]; rfl, by rw [run]; rfl⟩

theorem hopBlindFail_hunt (hunt : s.rd F.lstate i = lHunt) (blind : s.h.blind = true) : hopBlindFail F c i s =
    let w := { (s.wr F.blindf i 1) with blindFail := true }
    if c.run = true ∨ c.bring = 2 then { w with h := { s.h with failed := true } }
    else hopTrain F c i { w with h := { s.h with auto := true } } := by
  have retries : c.run = true ∨ c.start = 2 ↔ c.run = true ∨ c.bring = 2 := by
    rw [start_eq_two]
    tauto
  exact (if_pos ⟨hunt, blind⟩).trans (if_congr retries rfl rfl)

theorem hopBlindRetry_failed (hunt : s.rd F.lstate i = lHunt) (blind : s.h.blind = true) (failed : s.h.failed = true)
    (two : c.bring = 2 ∨ (c.run = true ∧ c.bring = 1)) : hopBlindRetry F c i s = hopBlind F c i s :=
  if_pos ⟨hunt, blind, failed, start_eq_two.mpr two⟩

/-! ### Blocks taken, and losses -/

theorem hopHunt_eq (valid : Bool) : hopHunt F i valid s =
    if valid = false then { s with h := { s.h with goodRun := 0, huntPos := (s.h.huntPos + 1) % 33 } }
    else if s.h.goodRun < 63 then { s with h := { s.h with goodRun := s.h.goodRun + 1 } }
    else { (s.wr F.alock i 1) with h := { s.h with goodRun := 0, hdrs := List.replicate 64 true, foreign := 0 } } :=
  if_congr (by simp) rfl (if_congr Nat.succ_lt_succ_iff rfl rfl)

/-- An invalid header in the hunt moves on; the 64th valid one in a row gives the lock (R70). -/
theorem hopTake_hunt (v : BitVec 66) (hunt : s.rd F.lstate i = lHunt) (unlocked : s.rd F.alock i = 0) :
    hopTake F c i s v = hopHunt F i (hopBlock F i v.toNat s).2.1 (hopBlock F i v.toNat s).1 :=
  (if_pos (.inl hunt)).trans (if_pos unlocked)

theorem hopTake_held (v : BitVec 66) (takes : s.rd F.lstate i = lHunt ∨ (s.rd F.lstate i = lUp ∧ s.h.service = true))
    (locked : s.rd F.alock i ≠ 0) :
    hopTake F c i s v = hopHeld F c i (hopBlock F i v.toNat s).2.1 (hopBlock F i v.toNat s).2.2 (hopBlock F i v.toNat s).1 :=
  (if_pos takes).trans (if_neg locked)

/-- The lock is lost with the light, from UP with LOSTA (R68, R70, R71). -/
theorem hopLoss_up (up : s.rd F.lstate i = lUp) (locked : s.rd F.alock i = 1) : hopLoss F c i s =
    let u := hopUnlock F i s
    hopDark F c i { ((u.wr F.los i 1).wr F.lstate i lDark) with
      leftUp := true, h := { u.h with afterLoss := true, auto := false, blind := false, failed := false, readyRun := 0 } } := by
  simp only [hopLoss, up, locked, beq_self_eq_true, Bool.true_or, Bool.and_self, Bool.or_true, if_true]
  rfl

theorem hopLoss_train (train : s.rd F.lstate i = lTrain) (stays : s.leftUp = false) : hopLoss F c i s =
    hopDark F c i { (((s.wr F.alock i 0).wr F.los i 1).wr F.lstate i lDark) with
      h := { s.h with afterLoss := true, auto := false, blind := false, failed := false, readyRun := 0, goodRun := 0,
                      commas := 0, chars := [], sigOk := false } } := by
  unfold hopLoss
  rw [train]
  cases s
  subst stays
  rfl

/-! ### Steps that read a field after writing another -/

include hF

/-- TRAIN with training blocks, by the registers as they stand once the lock is off (R71). -/
theorem hopTrain_eq : hopTrain F c i s =
    let y := (s.wr F.lstate i lTrain).wr F.alock i 0
    let y := y.wr F.rxinv i (if c.pauto then y.rd F.rxinv i else c.invrx)
    hopSend F c i { y with h := { s.h with
      readyRun := 0, blind := false, failed := false, service := false, commas := 0, chars := [], sigOk := false, shift := 0 } } := by
  dsimp only
  rw [rd_wr_other hF (·.rxinv) (·.alock) (by decide), rd_wr_other hF (·.rxinv) (·.lstate) (by decide)]
  rfl

/-- Signal appears in DARK (R71). -/
theorem hopSignal_dark (dark : s.rd F.lstate i = lDark) : hopSignal F c i s =
    let z := s.wr F.los i 0
    if hopGoesBlind F c i s = true then hopBlind F c i z else if c.run then z else hopTrain F c i z := by
  have still : (s.wr F.los i 0).rd F.lstate i = lDark := (rd_wr_other hF (·.lstate) (·.los) (by decide) ..).trans dark
  have same : hopGoesBlind F c i (s.wr F.los i 0) = hopGoesBlind F c i s := by
    unfold hopGoesBlind
    rw [rd_wr_other hF (·.saved) (·.los) (by decide)]
    rfl
  rw [hopSignal, if_pos still, same]

theorem lstate_dark (s : HopSt) (i : Nat) : ((s.wr F.lstate i lDark).wr F.alock i 0).rd F.lstate i = lDark := by
  rw [rd_wr_other hF (·.lstate) (·.alock) (by decide), HopSt.rd_wr_same, Nat.zero_mod]

/-- A block under lock (R70, R72, R73, R101). -/
theorem hopHeld_eq (valid : Bool) (b : LineBlock) : hopHeld F c i valid b s =
    let odd := valid = true ∧ b.control = true ∧ s.rd F.lstate i = lHunt ∧ ¬ b.kind ∈ assignedTypes
    let z := { s with h := { s.h with
      hdrs := (valid :: s.h.hdrs).take 64, foreign := if odd then s.h.foreign + 1 else 0 } }
    let w := (hopUnlock F i z).wr F.lstate i lHunt
    if 16 ≤ (z.h.hdrs.filter (fun b => !b)).length then
      (if s.rd F.lstate i = lUp then { w with leftUp := true, h := { w.h with
        blind := (c.bring == 1 || c.bring == 2) && s.rd F.saved i == 1, afterLoss := true, auto := false, failed := false } }
       else w)
    else if c.pauto ∧ 8 ≤ z.h.foreign then
      { ((z.wr F.rxinv i (1 - s.rd F.rxinv i)).wr F.alock i 0) with h := { z.h with foreign := 0, goodRun := 0, hdrs := [] } }
    else z := by
  extract_lets odd h z w
  have foreign : (valid && b.control && !assignedTypes.contains b.kind && s.rd F.lstate i == lHunt) = true ↔ odd := by
    simp only [Bool.and_eq_true, Bool.not_eq_true', List.contains_eq_mem, decide_eq_false_iff_not, beq_iff_eq, odd]
    tauto
  have held : hopHeld F c i valid b s = if z.h.badHeaders = true then hopRehunt F c i z
    else if c.pauto = true ∧ 8 ≤ z.h.foreign then
      { ((z.wr F.rxinv i (1 - z.rd F.rxinv i)).wr F.alock i 0) with h := { z.h with foreign := 0, goodRun := 0, hdrs := [] } }
    else z := by
    unfold hopHeld
    dsimp only
    rw [if_congr foreign rfl rfl]
  have saved : w.rd F.saved i = s.rd F.saved i :=
    (rd_wr_other hF (·.saved) (·.lstate) (by decide) ..).trans
      ((rd_wr_other hF (·.saved) (·.losta) (by decide) ..).trans (rd_wr_other hF (·.saved) (·.alock) (by decide) ..))
  have asks : ((c.start == 1 || c.start == 2) && w.rd F.saved i == 1) = ((c.bring == 1 || c.bring == 2) && s.rd F.saved i == 1) := by
    rw [saved, Bool.eq_iff_iff]
    simp only [Bool.and_eq_true, Bool.or_eq_true, beq_iff_eq, start_blind]
  rw [held, ← asks]
  exact if_congr (decide_eq_true_iff ..) rfl rfl

end

/-- Settles O12: each command by the equation of its step of the state machine. -/
theorem hopStartAndLoss : Obligations.Hop_start_and_loss := by
  intro s h l pos kind sig lane shift ready F i c x q st lit goes train blind unlock dark wire again
  have hF : F ∈ hopKinds := flds_mem_hopKinds h
  have trains (z : HopSt) : hopTrain F c i z = train z := hopTrain_eq hF
  have sends {z : HopSt} (h : z.rd F.lstate i = lDark) : hopDark F c i z = dark z := hopDark_dark h
  have wires (rd : Bool) (sg : Nat) (inv : Bool) : wire rd sg inv = lineCodes rd inv (trainingBlock sg kind.toNat lane.toNat ready shift.toNat) := rfl
  refine ⟨?signal, ?blindSignal, ?lossUp, ?lossTrain, ?trainingBlock, ?ready, ?trainTimeout, ?shiftEnd, ?blocks, ?take, ?up, ?huntTimeout,
    ?blindFail, ?blindRetry⟩
  case signal =>
    intro dark again
    refine exec_hop rfl ((hopSignal_dark hF dark).trans ?_)
    rw [if_neg (mt hopGoesBlind_iff.mp again), ← trains]
  case blindSignal => exact fun dark again => exec_hop rfl ((hopSignal_dark hF dark).trans (if_pos (hopGoesBlind_iff.mpr again)))
  case lossUp =>
    intro up locked
    exact exec_hop rfl ((hopLoss_up up locked).trans (sends ((HopSt.rd_wr_same ..).trans (Nat.zero_mod _))))
  case lossTrain =>
    intro train
    have stays : x.leftUp = false := by cases h <;> rfl
    exact exec_hop rfl ((hopLoss_train train stays).trans (sends ((HopSt.rd_wr_same ..).trans (Nat.zero_mod _))))
  case trainingBlock =>
    intro train run locked clean
    refine ⟨fun mk ty sg rest codes => ?upright, fun mk ty sg rest codes => ?inverted⟩
    case upright =>
      refine ⟨_, exec_hop rfl (congrArg (hopTraining F c i pos.toNat · x) (codes.symm.trans (wires ..))), ?_⟩
      by_cases right : sig = 0xC5
      case pos =>
        subst right
        have taught := hopTraining_right hF (c := c) pos.toNat (kind.isLt.trans (by decide)) lane.isLt shift.isLt ready train run locked clean
        exact ⟨(taught.rd _ i (hopFld_ne hF (·.lstate) (·.alock) (by decide) i)).trans train, taught.locked,
          fun _ => ⟨taught.peer, taught.lane, taught.farShift, taught.readyRun,
            taught.rd _ i (hopFld_ne hF (·.rxinv) (·.alock) (by decide) i)⟩, fun wrong => absurd rfl wrong⟩
      case neg =>
        have wrong : sig.toNat % 256 ≠ 0xC5 := by
          rw [Nat.mod_eq_of_lt sig.isLt]
          exact fun h => right (BitVec.eq_of_toNat_eq h)
        obtain ⟨readyRun, lstate, alock, rxinv⟩ := hopTraining_wrong hF (c := c) (kind := kind.toNat) (lane := lane.toNat) (ready := ready)
          (shift := shift.toNat) pos.toNat false (fun _ => wrong) (by simp) train run locked clean
        rw [Bool.xor_false, Bool.xor_false] at *
        exact ⟨lstate, alock, fun h => absurd h right, fun _ => ⟨readyRun, rxinv⟩⟩
    case inverted =>
      refine ⟨_, exec_hop rfl (congrArg (hopTraining F c i pos.toNat · x) (codes.symm.trans (wires ..))), ?_⟩
      obtain ⟨readyRun, -, -, rxinv⟩ := hopTraining_wrong hF (c := c) (kind := kind.toNat) (lane := lane.toNat) (ready := ready)
        (shift := shift.toNat) pos.toNat true (by simp) (fun _ => rfl) train run locked clean
      rw [Bool.xor_true, Bool.xor_true] at readyRun rxinv
      exact ⟨readyRun, rxinv⟩
  case ready => exact fun train ready run nrz => exec_hop rfl (hopReady_ready train ready run nrz)
  case trainTimeout =>
    exact fun train => exec_hop rfl ((if_pos train : hopTrainTimeout F c i x = _).trans (sends (lstate_dark hF x i)))
  case shiftEnd => exact fun shift run => exec_hop rfl (hopShiftEnd_shift shift run)
  case blocks => exact ⟨exec_hop rfl rfl, exec_hop rfl rfl, exec_hop rfl rfl⟩
  case take =>
    intro x v st r y
    exact ⟨fun hunt unlocked => (hopTake_hunt v hunt unlocked).trans (hopHunt_eq _),
      fun takes locked => (hopTake_held v takes locked).trans (hopHeld_eq hF ..)⟩
  case up => exact fun hunt locked => exec_hop rfl (hopUp_hunt hunt locked)
  case huntTimeout => exact fun hunt blind run => exec_hop rfl ((hopHuntTimeout_hunt hunt blind run).trans (trains x))
  case blindFail =>
    intro hunt blind w
    exact exec_hop rfl ((hopBlindFail_hunt hunt blind).trans (if_congr Iff.rfl rfl (trains _)))
  case blindRetry => exact fun hunt blind failed two => exec_hop rfl (hopBlindRetry_failed hunt blind failed two)

end Sys2Proof.Machine
end

section
/-! Patterns, adaptation, a lane learnt from training, and error injection at a hop end (R67, R68, R77, R79, R80, R96). -/

namespace Sys2Proof.Machine

/-! ### Adaptation and the checker -/

section
variable {F : HopFlds} (hF : F ∈ hopKinds) {c : HopCfg} {i : Nat} {s : HopSt}

/-- The peaking after an adaptation step. -/
def HopSt.moved (F : HopFlds) (i : Nat) (dir : BitVec 2) (s : HopSt) : HopSt :=
  let v := if dir = 1 then min 15 (s.rd F.pk i + 1) else if dir = 2 then s.rd F.pk i - 1 else s.rd F.pk i
  if s.rd F.man i = 0 ∧ s.rd F.frozen i = 0 ∧ s.rd F.alock i = 1 then
    (s.wr F.pk i v).wr F.pksat i (if v = 0 ∨ v = 15 then 1 else 0)
  else s

theorem moved_h (dir : BitVec 2) : (s.moved F i dir).h = s.h := by
  unfold HopSt.moved
  dsimp only
  split <;> rfl

/-- The checker takes the bits received (R79). -/
theorem hopPattern_checks {rx : List Bool} (test : s.rd F.lstate i = lTest) (gen : s.rd F.gpat i = 0) (chk : s.rd F.cpat i ≠ 0) :
    hopPattern F c i rx s =
      let bits := if s.rd F.rxinv i ≠ 1 then rx else if s.h.service then invertPairs rx else rx.map (!·)
      let k := bits.foldl (Checker.take (s.rd F.cpat i) s.h.service) s.h.chk
      { (s.wr F.csync i (if k.sync then 1 else 0)) with h := { s.h with chk := { k with errs := 0 } }, errs := k.errs } := by
  have polar : patternPolar s.h.service (s.rd F.rxinv i == 1) rx =
      if s.rd F.rxinv i ≠ 1 then rx else if s.h.service then invertPairs rx else rx.map (!·) :=
    if_congr (by simp) rfl rfl
  have off : s.rd F.gpat i = 0 ∨ (!c.tx) = true := .inl gen
  rw [← polar, hopPattern, if_pos test]
  dsimp only
  rw [if_pos off, if_neg chk]

theorem hopPattern_idle {rx : List Bool} (other : s.rd F.lstate i ≠ lTest) : hopPattern F c i rx s = s := if_neg other

theorem hopInject_once (mode : s.rd F.emode i = 1 ∨ s.rd F.emode i = 3 ∨ s.rd F.emode i = 4)
    (into : s.rd F.lstate i = lTest ∨ s.rd F.elive i = 1) : hopInject F i s = { s with h := { s.h with inject := s.rd F.emode i } } :=
  if_pos ⟨mode, into⟩

include hF

theorem hopAdapt_eq (dir : BitVec 2) : hopAdapt F i dir.toNat s = s.moved F i dir := by
  have free : (s.rd F.man i = 1 ∨ s.rd F.frozen i = 1 ∨ s.rd F.alock i = 0) ↔
      ¬ (s.rd F.man i = 0 ∧ s.rd F.frozen i = 0 ∧ s.rd F.alock i = 1) := by
    have man := rd_bit hF (·.man) (by decide) s i
    have frozen := rd_bit hF (·.frozen) (by decide) s i
    have alock := rd_bit hF (·.alock) (by decide) s i
    omega
  have step : (if dir.toNat = 1 then min 15 (s.rd F.pk i + 1) else if dir.toNat = 2 then s.rd F.pk i - 1 else s.rd F.pk i) =
      if dir = 1 then min 15 (s.rd F.pk i + 1) else if dir = 2 then s.rd F.pk i - 1 else s.rd F.pk i :=
    if_congr (by rw [← BitVec.toNat_inj]; rfl) rfl (if_congr (by rw [← BitVec.toNat_inj]; rfl) rfl rfl)
  unfold hopAdapt HopSt.moved hopPeak
  rw [if_congr free rfl rfl, ite_not]
  dsimp only
  rw [step]

theorem moved_rd (dir : BitVec 2) (G : HopFlds → Fld) (pk : ∀ F ∈ hopKinds, (G F).s1 = F.pk.s1 ∧ (G F).key 0 0 ≠ F.pk.key 0 0)
    (pksat : ∀ F ∈ hopKinds, (G F).s1 = F.pksat.s1 ∧ (G F).key 0 0 ≠ F.pksat.key 0 0) : (s.moved F i dir).rd (G F) i = s.rd (G F) i := by
  unfold HopSt.moved
  dsimp only
  split
  · exact (rd_wr_other hF G (·.pksat) pksat ..).trans (rd_wr_other hF G (·.pk) pk ..)
  · rfl

/-- In TEST the peaking moves, and the checker takes the bits received (R67, R79). -/
theorem adaptStep_test {dir : BitVec 2} {rx : List Bool} (test : s.rd F.lstate i = lTest) (gen : s.rd F.gpat i = 0) (chk : s.rd F.cpat i ≠ 0) :
    adaptStep dir.toNat rx F c i s =
      let bits := if s.rd F.rxinv i ≠ 1 then rx else if s.h.service then invertPairs rx else rx.map (!·)
      let k := bits.foldl (Checker.take (s.rd F.cpat i) s.h.service) s.h.chk
      { ((s.moved F i dir).wr F.csync i (if k.sync then 1 else 0)) with h := { s.h with chk := { k with errs := 0 } }, errs := k.errs } := by
  have lstate : (s.moved F i dir).rd F.lstate i = s.rd F.lstate i := moved_rd hF dir (·.lstate) (by decide) (by decide)
  have gpat : (s.moved F i dir).rd F.gpat i = s.rd F.gpat i := moved_rd hF dir (·.gpat) (by decide) (by decide)
  have cpat : (s.moved F i dir).rd F.cpat i = s.rd F.cpat i := moved_rd hF dir (·.cpat) (by decide) (by decide)
  have rxinv : (s.moved F i dir).rd F.rxinv i = s.rd F.rxinv i := moved_rd hF dir (·.rxinv) (by decide) (by decide)
  have checks := hopPattern_checks (c := c) (rx := rx) (lstate.trans test) (gpat.trans gen) (cpat.trans_ne chk)
  rw [cpat, rxinv, moved_h] at checks
  rw [adaptStep, hopAdapt_eq hF]
  exact checks

theorem adaptStep_other {dir : BitVec 2} {rx : List Bool} (other : s.rd F.lstate i ≠ lTest) :
    adaptStep dir.toNat rx F c i s = s.moved F i dir := by
  rw [adaptStep, hopAdapt_eq hF]
  exact hopPattern_idle ((moved_rd hF dir (·.lstate) (by decide) (by decide)).trans_ne other)

end

/-! ### Injection -/

theorem injectOk_of {k : Kv} {elive : Bool} (h : elive = false ∨ k.duty = false) : k.injectOk elive = true := by
  rcases h with h | h <;> simp [Kv.injectOk, h]

/-- Where it is not refused, an injection is a step of the hop's state machine (R80). -/
theorem onInject_eq_onHop {s : State} {h : HopEnd} (test : (∀ c n, h ≠ .cl c n) ∨ (s.hopSt h).rd h.flds.lstate h.num = lTest)
    (may : (s.hopSt h).rd h.flds.elive h.num = 0 ∨ ∀ d, h.sites = [.chip d] → (s.kvAt d).duty = false) :
    s.onInject h = s.onHop h injectStep := by
  cases h with
  | sp c n =>
    have ok : (s.kvAt c).injectOk ((s.kvAt c).on Kv.SPn_PCTL.ELIVE n.toNat) = true :=
      injectOk_of (may.imp (fun off => congrArg (· == 1) off) (fun role => role c rfl))
    exact onKv_congr (if_pos ok)
  | cl c n =>
    have running : (s.kvAt c).rd Kv.CLn_STAT.LSTATE n.toNat = lTest := test.resolve_left fun other => other c n rfl
    have ok : (s.kvAt c).injectOk ((s.kvAt c).on Kv.CLn_PCTL.ELIVE n.toNat) = true :=
      injectOk_of (may.imp (fun off => congrArg (· == 1) off) (fun role => role c rfl))
    exact onKv_congr ((if_neg (not_not.mpr running)).trans (if_pos ok))
  | opt a p => rfl

/-! ### Learning the lanes of the castle link -/

/-- A lane of the castle link that a step taught its logical lane: what the state machine comes to, the map, then the link (R77). -/
theorem clStep_learns {k : Kv} {n lane : Nat} {f : HopStep} {r : HopSt} (h : f clFlds (k.clCfg n) n { h := Tab.get {} n k.cl, r := k.regs } = r)
    (lost : r.lost = false) (errs : r.errs = 0) (learn : r.learn = some lane) (small : lane < 8) : k.clStep n f =
      (({ k with regs := r.r, cl := Tab.set {} n r.h k.cl, out := k.out ++ lineOuts (32 + n) r } : Kv).learnLane n lane).castleLanes := by
  subst h
  simp only [Kv.clStep, lost, errs, learn, small, decide_true, Kv.when_true, Kv.when_false, List.range_zero, Kv.each, List.foldl_nil]

/-- The lane map lies apart from the link and from the collector. -/
theorem castleLanes_map (k : Kv) : k.castleLanes.rd Kv.CL_LMAP.MAP = k.rd Kv.CL_LMAP.MAP :=
  castleLanes_keeps (p := (·.rd Kv.CL_LMAP.MAP))
    (untouched_rd _ 0 0 fun G hG a b => by
      have := raiseFlds_above G hG a b
      have : Kv.CL_LMAP.MAP.key 0 0 < 0xC200 * 32 := by decide
      omega)
    (fun k F hF v => by
      have apart : ∀ F ∈ linkFlds, Kv.CL_LMAP.MAP.key 0 0 ≠ F.key 0 0 := by decide
      exact k.rd_wr_ne v (apart F hF)) (fun _ _ => rfl) k

/-- Writing a part of a number below a power of two leaves it below. -/
theorem putBits_lt {v m lo w : Nat} (x : Nat) (hv : v < 2 ^ m) (h : lo + w ≤ m) : putBits v lo w x < 2 ^ m := by
  obtain ⟨d, rfl⟩ := Nat.exists_eq_add_of_le h
  have rest : v / 2 ^ lo / 2 ^ w < 2 ^ d := by
    rw [Nat.div_div_eq_div_mul, ← pow_add]
    exact Nat.div_lt_of_lt_mul (by rwa [← pow_add])
  have low := Nat.mod_lt v (Nat.two_pow_pos lo)
  have part := Nat.mod_lt x (Nat.two_pow_pos w)
  have parts : v = 2 ^ lo * (2 ^ w * (v / 2 ^ lo / 2 ^ w)) + v / 2 ^ lo % 2 ^ w * 2 ^ lo + v % 2 ^ lo := by
    have outer := Nat.div_add_mod v (2 ^ lo)
    have inner := Nat.div_add_mod (v / 2 ^ lo) (2 ^ w)
    rw [mul_comm (_ % _), ← mul_add, inner, outer]
  rw [putBits, bits, pow_add, pow_add]
  generalize v / 2 ^ lo / 2 ^ w = top at *
  generalize v / 2 ^ lo % 2 ^ w = old at *
  generalize v % 2 ^ lo = bottom at *
  generalize x % 2 ^ w = new at *
  calc v - old * 2 ^ lo + new * 2 ^ lo = 2 ^ lo * (2 ^ w * top + new) + bottom := by
        rw [mul_add, mul_comm new]
        omega
    _ < 2 ^ lo * (2 ^ w * top + new + 1) := by
        rw [mul_add_one]
        omega
    _ ≤ 2 ^ lo * (2 ^ w * (top + 1)) := Nat.mul_le_mul_left _ (by
        rw [mul_add_one]
        omega)
    _ ≤ 2 ^ lo * 2 ^ w * 2 ^ d := by
        rw [mul_assoc]
        exact Nat.mul_le_mul_left _ (Nat.mul_le_mul_left _ rest)

theorem learnLane_map {k : Kv} {phys lane : Nat} (auto : k.on Kv.CL_CTRL.LAUTO = true) (small : lane < 8) :
    (k.learnLane phys lane).rd Kv.CL_LMAP.MAP = putBits (k.rd Kv.CL_LMAP.MAP) (3 * lane) 3 phys := by
  rw [Kv.learnLane, if_pos auto, Kv.rd_wr_same]
  exact Nat.mod_eq_of_lt (putBits_lt _ (Kv.rd_lt ..) (by omega : 3 * lane + 3 ≤ 24))

theorem learnLane_rd {k : Kv} {phys lane n : Nat} {G : Fld} (h : G.ofLane n) : (k.learnLane phys lane).rd G n = k.rd G n := by
  unfold Kv.learnLane
  split
  · refine k.rd_wr_ne _ ?_
    obtain ⟨-, above⟩ := h
    have : Kv.CL_LMAP.MAP.key 0 0 = 0x8408 * 32 := by decide
    omega
  · rfl

theorem alock_ofLane {n : Nat} (h : n < 8) : Kv.CLn_STAT.ALOCK.ofLane n := by
  simp only [Fld.ofLane, Fld.key, Fld.addr, Kv.CLn_STAT.ALOCK]
  omega

/-- A training block received whole by an aligned lane writes the lane map (R66, R77). -/
theorem clStep_training {k : Kv} {n lane shift : Nat} (ready : Bool) (pos : Nat) (hn : n < 8) (hl : lane < 8) (hs : shift < 256)
    (train : k.rd Kv.CLn_STAT.LSTATE n = lTrain) (locked : k.rd Kv.CLn_STAT.ALOCK n = 1) (clean : ∀ b ∈ (Tab.get {} n k.cl).chars, b = false)
    (auto : k.on Kv.CL_CTRL.LAUTO = true) :
    let y := k.clStep n (trainingBlockStep pos
      (lineCodes (Tab.get {} n k.cl).rxRd (k.rd Kv.CLn_STAT.RXINV n == 1) (trainingBlock 0xC5 3 lane ready shift)))
    y.rd Kv.CL_LMAP.MAP = putBits (k.rd Kv.CL_LMAP.MAP) (3 * lane) 3 n ∧ y.on Kv.CLn_STAT.ALOCK n = true := by
  have taught := hopTraining_right (F := clFlds) (by simp [hopKinds]) (c := k.clCfg n) (s := { h := Tab.get {} n k.cl, r := k.regs }) pos
    (by decide : 3 < 256) (hl.trans (by decide)) hs ready train rfl locked clean
  intro y
  have lanes : y = _ := clStep_learns rfl taught.lost taught.errs taught.learn hl
  have apart {G : Fld} (h : 0x8200 * 32 ≤ G.key 0 0) : G.key 0 0 ≠ Kv.CLn_STAT.ALOCK.key n 0 := by
    have := (alock_ofLane hn).2
    omega
  constructor
  · have auto' := (congrArg (· == 1) (taught.rd Kv.CL_CTRL.LAUTO 0 (apart (by decide)))).trans auto
    rw [lanes, castleLanes_map, learnLane_map (by exact auto') hl]
    exact congrArg (putBits · _ _ _) (taught.rd Kv.CL_LMAP.MAP 0 (apart (by decide)))
  · have lock : y.rd Kv.CLn_STAT.ALOCK n = 1 := by
      rw [lanes, castleLanes_rd (alock_ofLane hn), learnLane_rd (alock_ofLane hn)]
      exact taught.locked
    exact congrArg (· == 1) lock

/-- Settles O13: each command by the equation of its step. -/
theorem hopPatternsPeakingAndInjection : Obligations.Hop_patterns_peaking_and_injection := by
  intro s h dir rx pos F i x goes v moved
  have hF : F ∈ hopKinds := flds_mem_hopKinds h
  refine ⟨exec_hop rfl rfl, exec_hop rfl rfl, exec_hop rfl rfl, fun other => exec_hop rfl (adaptStep_other hF other),
    fun test gen chk => exec_hop rfl (adaptStep_test hF test gen chk), ?pattern, ?live, ?refused, ?learns⟩
  case pattern =>
    intro mode test off
    exact exec_hop (congrArg Host.Outcome.next (onInject_eq_onHop (.inr test) (.inl off))) (hopInject_once mode (.inl test))
  case live =>
    intro mode live port role
    exact exec_hop (congrArg Host.Outcome.next (onInject_eq_onHop (.inl port) (.inr role))) (hopInject_once mode (.inr live))
  case refused =>
    intro c n hlive live duty run
    have refused : ¬ (s.kvAt c).injectOk ((s.kvAt c).on Kv.SPn_PCTL.ELIVE n.toNat) = true := by simp [Kv.injectOk, live, duty, run]
    exact exec_live hlive rfl (if_neg refused)
  case learns =>
    intro c n lane ready shift hlive lane' train locked clean auto sent codes mk ty sg rest received
    subst lane'
    have line : codes = lineCodes x.h.rxRd (x.rd F.rxinv i == 1) (trainingBlock 0xC5 3 lane.toNat ready shift.toNat) :=
      List.map_congr_left fun w _ => congrArg (BitVec.ofNat 10) (if_congr beq_iff_eq.symm rfl rfl)
    refine ⟨_, exec_live hlive rfl rfl, ?_⟩
    rw [← received, line]
    exact clStep_training ready pos.toNat n.isLt lane.isLt shift.isLt train locked clean auto

end Sys2Proof.Machine
end

section
/-! Requests to a module: the side channel (R133, R134), and the requests that a command may carry to every module (R162, R179, R211,
R384, R499). -/

namespace Sys2Proof.Machine

/-! ### The side channel -/

/-- A read, or a reserved OP, that comes in time is answered towards the port it came from (R134). -/
theorem sideRdCell_requested {x : Cell} {p : Port} {c : Copy} (h : x.request p (fun op => op == 1 || decide (4 ≤ op)) = some c) :
    let v := c.slot.toNat
    let n := (x.tick + 2) % 2 ^ 48
    sideRdCell p x =
      if 4 ≤ cOp v then x.answer p n 4 (cTid v) 4
      else if Kc.isReg (cSide v) = false then x.answer p n 4 (cTid v) 2
      else if x.readBarred (cSide v) then x.answer p n 4 (cTid v) 3
      else x.answer p n 1 (cTid v) (x.regRead (cSide v)) := by
  simp only [sideRdCell, h, Bool.not_eq_true']

/-- A write address is held, in place of one of the same tag, where its copy is obeyed (R134). -/
theorem sideWaCell_requested {x : Cell} {p : Port} {c : Copy} (h : x.request p (· == 2) = some c) :
    let v := c.slot.toNat
    sideWaCell p x =
      if x.obeyedDuty c then { x with wa := x.wa.filter (fun w => w.1 != cTid v) ++ [(cTid v, cSide v, c.target)] }
      else x.answer p ((x.tick + 2) % 2 ^ 48) 4 (cTid v) 3 := by
  simp only [sideWaCell, h]

/-- Write data goes to the address held for it, and what the register takes is answered (R134). -/
theorem sideWdCell_written {x y : Cell} {p : Port} {c : Copy} {w : Nat × Nat × Nat} {ok : Bool} (h : x.request p (· == 3) = some c)
    (obeyed : x.obeyedDuty c = true)
    (address : x.wa.find? (fun w => w.1 == cTid c.slot.toNat && (w.2.2 + 1) % 2 ^ 48 == c.target) = some w)
    (written : x.writeReg 1 x.deadlineOfs w.2.1 (cSide c.slot.toNat) = some (y, ok)) :
    let n := (x.tick + 2) % 2 ^ 48
    sideWdCell p x = if ok then y.answer p n 2 (cTid c.slot.toNat) 0 else y.answer p n 4 (cTid c.slot.toNat) 3 := by
  simp only [sideWdCell, h, obeyed, Bool.not_true, Bool.false_eq_true, if_false, address, written]
  cases ok <;> rfl

/-! ### Requests to every module -/

namespace Cell

/-- A placed module that holds no tally latches one (R499). -/
theorem bcmdTally_placed {x : Cell} (free : x.tallyAt = none) (placed : x.pos.isSome = true) (no : Nat) :
    x.bcmdTally no = x.latchTally no :=
  if_neg (by simp [free, Option.isSome_iff_ne_none.mp placed])

/-- A tally that is held stays (R499). -/
theorem bcmdTally_held {x : Cell} (held : x.tallyAt.isSome = true) (no : Nat) : x.bcmdTally no = x :=
  if_pos (.inl held)

/-- CAP is armed in IDLE and DONE while it can store (R211, R215). -/
theorem capArm_ready {x : Cell} (state : x.rd Kc.CAP_STAT.STATE = capIdle ∨ x.rd Kc.CAP_STAT.STATE = capDone) (stores : x.capOk = true)
    (t : Nat) : x.capArm t =
      (((x.wr Kc.CAP_STAT.STATE capArmed).wr Kc.CAP_STAT.PRE 0).wr Kc.CAP_NPOST.NPOST 0).onMeas
        (fun m => { m with fired := false, acc := 0, accN := 0, capN := 0, trigs := [], armT := t, stop := none }) :=
  if_pos ⟨state, stores⟩

/-- A latched trip clears where no input is active (R179). -/
theorem tripClear_latched {x : Cell} {act : Nat} (latched : (x.wr Kc.GEN_TRIP.ACT act).rd Kc.GEN_TRIP.LAT ≠ 0)
    (hears : (x.wr Kc.GEN_TRIP.ACT act).genDeaf = false) :
    let y := x.wr Kc.GEN_TRIP.ACT act
    x.tripClear act =
      if y.rd Kc.GEN_TRIP.LAT &&& act % 32 = 0 then ((y.wr Kc.GEN_TRIP.LAT 0).wr Kc.GEN_STAT.TRIPL 0, true)
      else (y.event Ev.TRCLR, false) :=
  if_neg (not_or.mpr ⟨latched, by simp [hears]⟩)

end Cell

/-- BCMD 3 clears a latched trip into PARK, or tells that it could not (R179). -/
theorem bcmdTripClearCell_latched {x : Cell} {act : Nat} (runs : x.runs = true)
    (latched : (x.wr Kc.GEN_TRIP.ACT act).rd Kc.GEN_TRIP.LAT ≠ 0) (hears : (x.wr Kc.GEN_TRIP.ACT act).genDeaf = false) :
    let y := x.wr Kc.GEN_TRIP.ACT act
    bcmdTripClearCell act x =
      if y.rd Kc.GEN_TRIP.LAT &&& act % 32 = 0 then ((y.wr Kc.GEN_TRIP.LAT 0).wr Kc.GEN_STAT.TRIPL 0).applyPark.redrive
      else y.event Ev.TRCLR := by
  intro y
  rw [bcmdTripClearCell, Cell.tripClear_latched latched hears]
  simp only [runs, Bool.not_true, Bool.false_eq_true, if_false]
  split <;> rfl

/-- Settles O17: each request by its equation for the case at hand. -/
theorem requestsToAModule : Obligations.Requests_to_a_module := by
  intro s a p c no act x v n
  have gated {f : Cell → Cell} {b : Bool} (h : x.runs = b) : x.when x.runs f = x.when b f := by rw [h]
  refine ⟨fun h => ?rd, fun h => ?wa, fun w y ok h obeyed address written => ?wd, fun h i which => ?off, fun h free placed => ?tally,
    fun held => ?tallyHeld, fun h state stores => ?arm, fun h latched hears => ?trip, fun h => ?shdw, fun h => ?ack⟩
  case rd => exact exec_cell rfl (sideRdCell_requested h)
  case wa => exact exec_cell rfl (sideWaCell_requested h)
  case wd => exact exec_cell rfl (congrArg Cell.runStep (sideWdCell_written h obeyed address written))
  case off =>
    rcases which with rfl | rfl | rfl | rfl | rfl
    · exact exec_cell rfl (gated h)
    · exact exec_cell rfl (gated h)
    · exact exec_cell rfl (if_pos (congrArg (!·) h))
    · exact exec_cell rfl (gated h)
    · exact exec_cell rfl (gated h)
  case tally => exact exec_cell rfl ((gated h).trans (Cell.bcmdTally_placed free placed _))
  case tallyHeld =>
    refine exec_cell rfl ?_
    show x.when x.runs (fun y => y.bcmdTally no.toNat) = x
    cases x.runs
    · rfl
    · exact Cell.bcmdTally_held held _
  case arm => exact exec_cell rfl ((gated h).trans (Cell.capArm_ready state stores _))
  case trip => exact exec_cell rfl (bcmdTripClearCell_latched h latched hears)
  case shdw => exact exec_cell rfl (gated h)
  case ack => exact exec_cell rfl (gated h)

end Sys2Proof.Machine
end

section
/-! A module drops its position (R115), folds and unfolds, and launches fold frames (R121, R122). -/

namespace Sys2Proof.Machine

/-- Two ticks of other candidates: PARK where GEN obeys, one more report under the old address, and the position is gone (R115). -/
theorem positionDropCell_due {x : Cell} (placed : x.pos.isSome = true) (run : 2 ≤ x.posRun) :
    let y := { x with place := some (x.addr, (x.tick + 1) % 2 ^ 48) }
    let y := if x.genDeaf then y else y.applyPark
    positionDropCell x = ({ y with pos := none, str := 0, posRun := 0 } : Cell).event Ev.PLACE :=
  if_pos ⟨placed, run⟩

/-- The fold conditions of a port (R121). -/
theorem Cell.foldCause_iff (x : Cell) (p : Port) :
    x.foldCause p = true ↔ x.rxUp p = false ∨ 2 ≤ (x.port p).noHdr ∨ 2 ≤ (x.port p).noLrx := by
  simp [Cell.foldCause, or_assoc]

/-- A live module folds at a port with a fold condition (R121). -/
theorem foldOnsetCell_due {x : Cell} {p : Port} (live : x.live = true) (cause : x.foldCause p = true) :
    foldOnsetCell p x = x.onPort p (fun r => { r with folded := true, okRun := 0 }) :=
  if_pos (by rw [live, cause]; rfl)

/-- 8 usable ticks in a row end a fold (R121). -/
theorem foldEndCell_due {x : Cell} {p : Port} (folded : (x.port p).folded = true) (usable : 8 ≤ (x.port p).okRun) :
    foldEndCell p x = x.onPort p (fun r => { r with folded := false }) :=
  if_pos (by rw [folded, decide_eq_true usable]; rfl)

/-- Without a position there is no fold frame (R122). -/
theorem Cell.foldHeader_unplaced {x : Cell} (unplaced : x.pos = none) (p : Port) (lofs : Nat) : x.foldHeader p lofs = none := by
  unfold Cell.foldHeader
  split
  case h_1 placed => exact absurd (unplaced.symm.trans placed) nofun
  case h_2 => rfl

theorem foldFrameLaunchCell_unplaced {x : Cell} (unplaced : x.pos = none) (p : Port) (lofs : Nat) : foldFrameLaunchCell p lofs x = x := by
  simp only [foldFrameLaunchCell, Cell.foldHeader_unplaced unplaced, ite_self]

/-- Folded at the other port alone, with no frame in passage there, a placed module launches a whole frame: header, void slots with its own
report among them, and a trailer (R121, R122). -/
theorem foldFrameLaunchCell_placed {x : Cell} {p : Port} {lofs : Nat} {h : Header} (live : x.live = true)
    (folded : (x.port p.other).folded = true) (usable : (x.port p).folded = false) (idle : (x.port p.other).passing = false)
    (header : x.foldHeader p lofs = some h) :
    let n := x.tick
    let y := x.fixReport n
    let y := y.putHeader p (h.seal y.str true)
    let y := (y.putSlots p (y.voidSlots h y.str n 32 (some (y.reportSlot n (p == .e))))).wrote n
    let t := (y.markTrailer p 1 { cfire := false, fpos := 0, evtany := false, nlive := 0, tcrc := 0 }).seal y.str n true
    let y := y.onPort p (fun r => { r with evAny := false, fire := false, sent := some (20 * y.gen.bT + lofs) })
    foldFrameLaunchCell p lofs x = y.putTrailer p t := by
  simp only [foldFrameLaunchCell, live, folded, usable, idle, header, Bool.not_false, Bool.and_self, if_true]

/-- Settles O18: each command by its equation for the case at hand. -/
theorem positionsAndFolds : Obligations.Positions_and_folds := by
  intro s a p lofs h x
  refine ⟨fun placed run => ?drop, fun live cause => ?onset, fun folded usable => ?fin, fun live folded usable idle header => ?launch,
    fun unplaced => ?none⟩
  case drop => exact exec_cell rfl (positionDropCell_due placed run)
  case onset => exact exec_cell rfl (foldOnsetCell_due live ((x.foldCause_iff p).mpr cause))
  case fin => exact exec_cell rfl (foldEndCell_due folded usable)
  case launch => exact exec_cell rfl (foldFrameLaunchCell_placed live folded usable idle header)
  case none => exact exec_cell rfl (foldFrameLaunchCell_unplaced unplaced p _)

end Sys2Proof.Machine
end

section
/-! What an event leaves alone of a module, and what the switching generator and a capture trigger leave alone (R162, R168 to R192, R212). -/

namespace Sys2Proof.Machine

namespace Cell

/-- Whether a step is taken or not, what it leaves alone stays. -/
theorem when_keeps {α : Type} {g : Cell → α} {f : Cell → Cell} {s : Cell} (b : Bool) (h : g (f s) = g s) : g (s.when b f) = g s := by
  cases b
  · rfl
  · exact h

/-- A fold leaves alone what its every step does. -/
theorem foldl_keeps {α β : Type} {g : Cell → α} {f : Cell → β → Cell} (step : ∀ s x, g (f s x) = g s) (l : List β) (s : Cell) :
    g (l.foldl f s) = g s := by
  induction l generalizing s with
  | nil => rfl
  | cons x l ih => exact (ih (f s x)).trans (step s x)

/-! ### Events -/

section
variable (s : Cell) (n : Nat)

/-- An event writes the pending sources and the announcements of the two ports, and no other state. -/
theorem event_eq : ∃ w e, s.event n = { s.wr Kc.CC_EVP.PEND (setBit s.pend n true) with w := w, e := e } := by
  unfold Cell.event Cell.when
  dsimp only
  split <;> exact ⟨_, _, rfl⟩

@[simp] theorem event_power : (s.event n).power = s.power := by obtain ⟨w, e, h⟩ := s.event_eq n; rw [h]; rfl
@[simp] theorem event_mainOn : (s.event n).mainOn = s.mainOn := by obtain ⟨w, e, h⟩ := s.event_eq n; rw [h]; rfl
@[simp] theorem event_held : (s.event n).held = s.held := by obtain ⟨w, e, h⟩ := s.event_eq n; rw [h]; rfl
@[simp] theorem event_progOn : (s.event n).progOn = s.progOn := by obtain ⟨w, e, h⟩ := s.event_eq n; rw [h]; rfl
@[simp] theorem event_ptOpen : (s.event n).ptOpen = s.ptOpen := by obtain ⟨w, e, h⟩ := s.event_eq n; rw [h]; rfl
@[simp] theorem event_banks : (s.event n).banks = s.banks := by obtain ⟨w, e, h⟩ := s.event_eq n; rw [h]; rfl
@[simp] theorem event_sec : (s.event n).sec = s.sec := by obtain ⟨w, e, h⟩ := s.event_eq n; rw [h]; rfl
@[simp] theorem event_gen : (s.event n).gen = s.gen := by obtain ⟨w, e, h⟩ := s.event_eq n; rw [h]; rfl
@[simp] theorem event_grd : (s.event n).grd = s.grd := by obtain ⟨w, e, h⟩ := s.event_eq n; rw [h]; rfl

/-- Every register field but that of the pending sources is as it was. -/
theorem rd_event {F : Fld} {i : Nat} (h : F.key i 0 ≠ Kc.CC_EVP.PEND.key 0 0) : (s.event n).rd F i = s.rd F i := by
  obtain ⟨w, e, raised⟩ := s.event_eq n
  rw [raised]
  exact rd_wr_ne s _ h

theorem on_event {F : Fld} {i : Nat} (h : F.key i 0 ≠ Kc.CC_EVP.PEND.key 0 0) : (s.event n).on F i = s.on F i := by
  rw [Cell.on, Cell.on, rd_event s n h]

/-- The pending sources after an event of one of the 32 sources. -/
theorem rd_pend_event (hn : n < 32) : (s.event n).rd Kc.CC_EVP.PEND = setBit (s.rd Kc.CC_EVP.PEND) n true := by
  obtain ⟨w, e, raised⟩ := s.event_eq n
  rw [raised]
  show (s.wr Kc.CC_EVP.PEND (setBit s.pend n true)).rd Kc.CC_EVP.PEND = _
  rw [rd_wr_same]
  exact Nat.mod_eq_of_lt (putBits_lt (m := 32) _ (s.rd_lt Kc.CC_EVP.PEND 0) (by omega))

/-- An event sets its own bit, and every other source pends as it did. -/
theorem bit_pend_event (hn : n < 32) (j : Nat) : bit (s.event n).pend j = (decide (j = n) || bit s.pend j) := by
  rw [Cell.pend, rd_pend_event s n hn, bit_setBit_true]
  rfl

end

end Cell

/-! ### The switching generator and capture -/

/-- The register fields, by their keys, that commanded changes, forced outputs and a capture trigger write. -/
def Kc.switchKeys : List Nat :=
  ([Kc.CC_EVP.PEND, Kc.GEN_STAT.SAT, Kc.GEN_STAT.VCNT, Kc.GEN_STAT.PCNT, Kc.GEN_STAT.STATE, Kc.GEN_STAT.ARMED, Kc.GEN_STAT.DISON, Kc.GEN_OUT.G,
    Kc.GEN_OUT.BYP, Kc.GEN_OUT.DIS, Kc.CAP_STAT.STATE, Kc.CAP_STAT.CAUSE, Kc.CAP_NPOST.NPOST, Kc.CAP_TTIK.TT, Kc.CAP_TPOS.TOFS,
    Kc.CAP_TPOS.IDX] : List Fld).map (fun F => F.key 0 0)

/-- An observation of a module that does not look at what switching writes: those fields, GEN's own state, the measurement's, the two
ports, and whether the tick is one of PARK. (`SameTime` says of the time base alone what follows here of every such observation.) -/
structure Cell.Unswitched {α : Type} (g : Cell → α) : Prop where
  wr : ∀ {F : Fld} (v : Nat) (s : Cell), F.key 0 0 ∈ Kc.switchKeys → g (s.wr F v) = g s
  gen : ∀ (s : Cell) (u : Gen), g { s with gen := u } = g s
  meas : ∀ (s : Cell) (f : CellMeas → CellMeas), g (s.onMeas f) = g s
  ports : ∀ (s : Cell) (w e : CellPort), g { s with w := w, e := e } = g s
  park : ∀ (s : Cell) (b : Bool), g { s with parkApplied := b } = g s

namespace Cell

/-- Any other register field is such an observation. -/
theorem unswitched_rd {F : Fld} {p : Nat} (h : F.key p 0 ∉ Kc.switchKeys) : Unswitched (fun s => s.rd F p) where
  wr v s hG := rd_wr_ne s v fun e => h (e ▸ hG)
  gen _ _ := rfl
  meas _ _ := rfl
  ports _ _ _ := rfl
  park _ _ := rfl

theorem unswitched_on {F : Fld} {p : Nat} (h : F.key p 0 ∉ Kc.switchKeys) : Unswitched (fun s => s.on F p) where
  wr v s hG := on_wr_ne s v fun e => h (e ▸ hG)
  gen _ _ := rfl
  meas _ _ := rfl
  ports _ _ _ := rfl
  park _ _ := rfl

theorem unswitched_grd : Unswitched (fun s => s.grd) where
  wr _ _ _ := rfl
  gen _ _ := rfl
  meas _ _ := rfl
  ports _ _ _ := rfl
  park _ _ := rfl

namespace Unswitched

variable {α : Type} {g : Cell → α} (h : Unswitched g) (s : Cell)
include h

theorem event (n : Nat) : g (s.event n) = g s := by
  obtain ⟨w, e, raised⟩ := s.event_eq n
  rw [raised]
  exact (h.ports _ w e).trans (h.wr _ _ (by decide))

theorem eventIf (n : Nat) : g (s.eventIf n) = g s := when_keeps _ (h.event s n)

theorem count {F G : Fld} (hF : F.key 0 0 ∈ Kc.switchKeys) (hG : G.key 0 0 ∈ Kc.switchKeys) : g (s.count F G) = g s := by
  unfold Cell.count Cell.mark
  dsimp only
  split
  · rfl
  split <;> simp only [h.wr _ _ hF, h.wr _ _ hG]

theorem setG (t v : Nat) : g (s.setG t v) = g s := (h.meas _ _).trans (h.wr _ _ (by decide))

theorem syncJ3 : g s.syncJ3 = g s := (h.wr _ _ (by decide)).trans (h.wr _ _ (by decide))

theorem gateOff (t target i : Nat) : g (Cell.gateOff t target s i) = g s := by
  unfold Cell.gateOff
  split
  · rfl
  dsimp only
  split
  · exact (h.gen _ _).trans ((h.setG _ _ _).trans (h.gen _ _))
  · exact h.gen _ _

theorem gateOn (t target i : Nat) : g (Cell.gateOn t target s i) = g s := by
  unfold Cell.gateOn
  dsimp only
  split
  · rfl
  generalize (if Tab.get 0 (partner i) s.gen.off = 0 then t else max t (Tab.get 0 (partner i) s.gen.off - 1 + s.deadTime i)) = due
  split
  · exact (h.gen _ _).trans (h.setG _ _ _)
  · exact h.gen _ _

theorem drive (t target : Nat) : g (s.drive t target) = g s :=
  (foldl_keeps (fun s i => h.gateOn s t target i) _ _).trans (foldl_keeps (fun s i => h.gateOff s t target i) _ _)

theorem pulse : g s.pulse = g s := (h.event _ _).trans (h.count s (by decide) (by decide))

theorem genEnter (t st : Nat) : g (s.genEnter t st) = g s := by
  unfold Cell.genEnter
  split
  · rfl
  · exact (h.drive _ _ _).trans ((h.gen _ _).trans (h.wr _ _ (by decide)))

theorem genEdge (t st : Nat) : g (s.genEdge t st) = g s := by
  unfold Cell.genEdge
  split
  · rfl
  split
  · exact h.pulse s
  · exact h.genEnter s t st

theorem genChange (t st : Nat) : g (s.genChange t st) = g s := by
  unfold Cell.genChange
  split
  · rfl
  split
  · exact (h.gen _ _).trans (h.wr _ _ (by decide))
  split
  · rfl
  dsimp only
  split
  · exact h.gen _ _
  split
  · split
    · exact (h.pulse _).trans ((h.gen _ _).trans (h.gen _ _))
    · exact (h.genEdge _ _ _).trans (h.gen _ _)
  · exact (h.genEdge _ _ _).trans (h.gen _ _)

theorem genStretchEnd : g s.genStretchEnd = g s := by
  unfold Cell.genStretchEnd
  split
  · dsimp only
    split
    · exact h.gen _ _
    · exact (h.genEdge _ _ _).trans (h.gen _ _)
  · rfl

theorem genTurnOn (i : Nat) : g (s.genTurnOn i) = g s := by
  unfold Cell.genTurnOn
  dsimp only
  split
  · rfl
  split
  · exact h.gen _ _
  · exact (h.setG _ _ _).trans (h.gen _ _)

theorem genFire (what : Nat) : g (s.genFire what) = g s := by
  unfold Cell.genFire
  split
  · split
    · exact (h.genChange _ _ _).trans (h.gen _ _)
    · rfl
  · exact h.genStretchEnd s
  · exact h.genTurnOn s _

theorem genTo (t : Nat) : g (s.genTo t) = g s := by
  have advance : ∀ (n : Nat) (s : Cell), g (Cell.genAdvance t n s) = g s := by
    intro n
    induction n with
    | zero => exact fun _ => rfl
    | succ n ih =>
      intro s
      unfold Cell.genAdvance
      split
      · split
        · exact (ih _).trans (h.genFire _ _)
        · rfl
      · rfl
  exact advance 16 s

theorem genPlan (p : List (Nat × Nat)) : g (s.genPlan p) = g s := by
  unfold Cell.genPlan
  split
  · split
    · exact (h.genChange _ _ _).trans (h.gen _ _)
    · exact h.gen _ _
  · exact h.gen _ _

theorem countVoid (st0 st1 t1 st2 t2 : Nat) : g (s.countVoid st0 st1 t1 st2 t2) = g s :=
  foldl_keeps (fun s _ => h.count s (by decide) (by decide)) _ _

theorem force (t : Nat) : g (s.force t) = g s :=
  (h.drive _ _ _).trans ((when_keeps _ (h.wr _ _ (by decide))).trans (h.gen _ _))

theorem onPort (p : Port) (f : CellPort → CellPort) : g (s.onPort p f) = g s := by
  cases p
  · exact h.ports s _ s.e
  · exact h.ports s s.w _

theorem capFire (src : Nat) : g (s.capFire src) = g s := by
  unfold Cell.capFire
  split
  · exact (h.onPort _ _ _).trans ((h.onPort _ _ _).trans (h.meas _ _))
  · rfl

theorem capPlace (src idx t : Nat) : g (s.capPlace src idx t) = g s := by
  unfold Cell.capPlace
  rw [h.capFire, h.wr _ _ (by decide), h.wr _ _ (by decide), h.wr _ _ (by decide), h.wr _ _ (by decide)]

theorem capTrigger (src t : Nat) : g (s.capTrigger src t) = g s := by
  have post : ∀ s : Cell, g s.capEnterPost = g s := fun s =>
    (h.event _ _).trans ((h.wr _ _ (by decide)).trans (h.wr _ _ (by decide)))
  unfold Cell.capTrigger
  split
  · dsimp only
    split
    · exact (h.meas _ _).trans ((h.capPlace _ _ _ _).trans (post s))
    split
    · split
      · exact (h.capPlace _ _ _ _).trans (h.meas _ _)
      · exact h.meas _ _
    · rfl
  · rfl

theorem disarm : g s.disarm = g s := (h.gen _ _).trans (h.wr _ _ (by decide))

theorem disOff : g s.disOff = g s := (h.syncJ3 _).trans (h.wr _ _ (by decide))

theorem applyPark : g s.applyPark = g s :=
  (h.park _ _).trans ((h.genPlan _ _).trans ((h.disOff _).trans (h.disarm s)))

end Unswitched

end Cell
end Sys2Proof.Machine
end

section
/-! The guard of a module samples, decides, fires BYP, clears, and restarts the main domain (R150 to R156). -/

namespace Sys2Proof.Machine

namespace Cell

section
variable (s : Cell) (f : Guard → Guard)

@[simp] theorem onGrd_rd (F : Fld) (i : Nat) : (s.onGrd f).rd F i = s.rd F i := rfl
@[simp] theorem onGrd_on (F : Fld) (i : Nat) : (s.onGrd f).on F i = s.on F i := rfl
@[simp] theorem onGrd_grd : (s.onGrd f).grd = f s.grd := rfl

/-- A bit that is set reads as 1. -/
theorem on_mark_same {F : Fld} (i : Nat) (one : 0 < F.w) : (s.mark F i).on F i = true := by
  rw [Cell.on, Cell.mark, rd_wr_same, Nat.one_mod_two_pow one]
  rfl

theorem on_mark_ne {F G : Fld} {i p : Nat} (h : F.key i 0 ≠ G.key p 0) : (s.mark G p).on F i = s.on F i := on_wr_ne s 1 h
theorem rd_mark_ne {F G : Fld} {i p : Nat} (h : F.key i 0 ≠ G.key p 0) : (s.mark G p).rd F i = s.rd F i := rd_wr_ne s 1 h

end

/-! ### A decision acts (R152, R212) -/

/-- The guard asserts the inhibit and makes its actions due: the module before the outputs follow. -/
def inhibited (s : Cell) (act t : Nat) : Cell :=
  ((s.when s.runs (fun s => s.genTo (s.gen.bT + t))).mark Kc.GRD_STAT.INH).onGrd (fun g => { g with
    releaseInh := false, dis := g.dis || bit act 0, bypDue := g.bypDue || (bit act 1 && !s.on Kc.GRD_STAT.BYPF) })

/-- What follows the inhibit is switching. -/
theorem guardAct_keeps {α : Type} {g : Cell → α} (h : Unswitched g) (s : Cell) (act t : Nat) : g (s.guardAct act t) = g (s.inhibited act t) := by
  unfold Cell.guardAct
  extract_lets byp wasDis rises v w x y
  have forced : g x = g w := (h.syncJ3 _).trans (when_keeps _ (h.force _ _))
  have captured : g y = g x := when_keeps _ (h.capTrigger _ _ _)
  exact (when_keeps _ (h.eventIf _ _)).trans (captured.trans forced)

theorem guardAct_inhibits (s : Cell) (act t : Nat) : (s.guardAct act t).on Kc.GRD_STAT.INH = true := by
  rw [guardAct_keeps (unswitched_on (by decide))]
  exact on_mark_same _ 0 (by decide)

theorem guardAct_grd (s : Cell) (act t : Nat) : (s.guardAct act t).grd = { s.grd with
    releaseInh := false, dis := s.grd.dis || bit act 0, bypDue := s.grd.bypDue || (bit act 1 && !s.on Kc.GRD_STAT.BYPF) } := by
  rw [guardAct_keeps unswitched_grd, inhibited, onGrd_grd]
  have before : (s.when s.runs (fun s => s.genTo (s.gen.bT + t))).grd = s.grd := when_keeps _ (unswitched_grd.genTo _ _)
  rw [Cell.mark, wr_grd, before]

/-- Nothing else of the guard's registers changes. -/
theorem guardAct_rd {F : Fld} (s : Cell) (act t : Nat) (h : F.key 0 0 ∉ Kc.GRD_STAT.INH.key 0 0 :: Kc.switchKeys) :
    (s.guardAct act t).rd F = s.rd F := by
  obtain ⟨inh, free⟩ := not_or.mp (mt List.mem_cons.mpr h)
  have blind : Unswitched (fun s => s.rd F) := unswitched_rd free
  rw [guardAct_keeps blind, inhibited, onGrd_rd, rd_mark_ne _ inh]
  exact when_keeps (g := fun s => s.rd F) _ (blind.genTo _ _)

/-! ### A sample (R150, R151) -/

/-- The filter's window with one sample more, and its mean. -/
def guardWin (s : Cell) (uv : Int) : List Nat := (guardCount uv :: s.grd.win).take s.guardWindow

def guardMean (s : Cell) (uv : Int) : Nat := (s.guardWin uv).foldl (· + ·) 0 / (s.guardWin uv).length

/-- Samples in a row above OVTH, this one among them. -/
def guardRun (s : Cell) (uv : Int) : Nat := if s.rd Kc.GRD_TH.OVTH < s.guardMean uv then s.grd.ovRun + 1 else 0

/-- The time without heartbeat at this sample. -/
def guardQuiet (s : Cell) (t : Nat) : Nat := match s.grd.quiet with | some q => q + 8000 | none => t

/-- The sample is in the filter, and `n` samples in a row count as above OVTH. -/
def filtered (s : Cell) (uv : Int) (t n : Nat) : Cell :=
  { s.wr Kc.GRD_STAT.VF (s.guardMean uv) with grd := { s.grd with win := s.guardWin uv, quiet := some (s.guardQuiet t), ovRun := n } }

theorem filtered_on {F : Fld} (s : Cell) (uv : Int) (t n : Nat) (h : F.key 0 0 ≠ Kc.GRD_STAT.VF.key 0 0) :
    (s.filtered uv t n).on F = s.on F := on_wr_ne s _ h

/-- The decisions OV and MDEAD stand, as they are taken. -/
def decided (s : Cell) (ov md : Bool) : Cell :=
  (s.when ov (fun s => (s.mark Kc.GRD_STAT.OV).eventIf Ev.GRD_OV)).when md
    (fun s => (s.mark Kc.GRD_STAT.MDEAD).onGrd (fun g => { g with mdNew := true }))

/-- The decisions of a sample, and what they ask for. -/
def newOv (s : Cell) (uv : Int) : Bool := decide (s.rd Kc.GRD_TH.OVCNT ≤ s.guardRun uv) && !s.on Kc.GRD_STAT.OV

def newMd (s : Cell) (uv : Int) (t : Nat) : Bool :=
  (s.filtered uv t (min 255 (s.guardRun uv))).mainDead && !s.on Kc.GRD_STAT.MDEAD

def guardActs (s : Cell) (ov md : Bool) : Nat := (if ov then s.rd Kc.GRD_CFG.OVACT else 0) ||| (if md then s.rd Kc.GRD_CFG.MDACT else 0)

/-- What a sample makes of a supplied module. -/
theorem guardSampleCell_eq {s : Cell} (powered : s.power ≠ 0) (uv : Int) (t : Nat) : guardSampleCell uv t s =
    let z := s.filtered uv t (min 255 (s.guardRun uv))
    let ov := s.newOv uv
    let md := s.newMd uv t
    if !s.on Kc.GRD_CFG.EN || s.sensor then s.filtered uv t 0
    else if !ov && !md then z
    else (z.decided ov md).guardAct (s.guardActs ov md) t := by
  simp (disch := decide) only [guardSampleCell, if_neg powered, onGrd_rd, onGrd_on, rd_wr_ne, on_wr_ne, Cell.sensor]
  rfl

/-- Beside the two decisions only the pending sources change in the registers. -/
theorem decided_rd {F : Fld} (s : Cell) (ov md : Bool) (h : F.key 0 0 ∉ [Kc.GRD_STAT.OV, Kc.GRD_STAT.MDEAD, Kc.CC_EVP.PEND].map (·.key 0 0)) :
    (s.decided ov md).rd F = s.rd F := by
  simp only [List.map_cons, List.map_nil, List.mem_cons, List.not_mem_nil, or_false, not_or] at h
  obtain ⟨hOv, hMd, hPend⟩ := h
  refine (when_keeps (g := fun s => s.rd F) _ (rd_mark_ne _ hMd)).trans (when_keeps (g := fun s => s.rd F) _ ?_)
  exact (when_keeps (g := fun s => s.rd F) _ (rd_event _ _ hPend)).trans (rd_mark_ne _ hOv)

theorem decided_ov (s : Cell) (md : Bool) : (s.decided true md).on Kc.GRD_STAT.OV = true := by
  have first : ((s.mark Kc.GRD_STAT.OV).eventIf Ev.GRD_OV).on Kc.GRD_STAT.OV = true :=
    (when_keeps (g := fun s => s.on Kc.GRD_STAT.OV) _ (on_event _ _ (by decide))).trans (on_mark_same _ 0 (by decide))
  rw [decided, when_true]
  cases md
  · rw [when_false, first]
  · rw [when_true, onGrd_on, on_mark_ne _ (by decide), first]

theorem decided_mdead (s : Cell) (ov : Bool) : (s.decided ov true).on Kc.GRD_STAT.MDEAD = true := on_mark_same _ 0 (by decide)

theorem decided_grd (s : Cell) (ov md : Bool) : (s.decided ov md).grd = { s.grd with mdNew := md || s.grd.mdNew } := by
  have first : (s.when ov (fun s => (s.mark Kc.GRD_STAT.OV).eventIf Ev.GRD_OV)).grd = s.grd :=
    when_keeps _ (unswitched_grd.eventIf _ _)
  cases md
  · exact first
  · exact congrArg (fun g : Guard => { g with mdNew := true }) first

/-- What a decision shows: the inhibit, the decision, its actions due, and the filtered value (R150 to R152). -/
theorem guardAct_decided (s : Cell) (uv : Int) (t n : Nat) (ov md : Bool) (act : Nat) :
    let u := ((s.filtered uv t n).decided ov md).guardAct act t
    u.on Kc.GRD_STAT.INH = true ∧ (ov = true → u.on Kc.GRD_STAT.OV = true) ∧ (md = true → u.on Kc.GRD_STAT.MDEAD = true) ∧
      u.grd.dis = (s.grd.dis || bit act 0) ∧ u.grd.bypDue = (s.grd.bypDue || (bit act 1 && !s.on Kc.GRD_STAT.BYPF)) ∧
      u.rd Kc.GRD_STAT.VF = s.guardMean uv % 4096 := by
  intro u
  have stands {F : Fld} (h : F.key 0 0 ∉ Kc.GRD_STAT.INH.key 0 0 :: Kc.switchKeys) :
      u.on F = ((s.filtered uv t n).decided ov md).on F := congrArg (· == 1) (guardAct_rd _ _ _ h)
  have byp : ((s.filtered uv t n).decided ov md).on Kc.GRD_STAT.BYPF = s.on Kc.GRD_STAT.BYPF :=
    (congrArg (· == 1) (decided_rd _ _ _ (by decide))).trans (filtered_on s uv t n (by decide))
  refine ⟨guardAct_inhibits _ _ _, ?ov, ?md, ?dis, ?byp, ?vf⟩
  case ov =>
    rintro rfl
    exact (stands (by decide)).trans (decided_ov _ _)
  case md =>
    rintro rfl
    exact (stands (by decide)).trans (decided_mdead _ _)
  case dis => rw [guardAct_grd, decided_grd]; rfl
  case byp => rw [guardAct_grd, decided_grd, byp]; rfl
  case vf => rw [guardAct_rd _ _ _ (by decide), decided_rd _ _ _ (by decide)]; exact rd_wr_same _ _ _ _

/-! ### BYP, clearing, and the main supply (R152, R154, R156) -/

theorem guardBypFireCell_due {s : Cell} (due : s.grd.bypDue = true) (unfired : s.on Kc.GRD_STAT.BYPF = false) :
    guardBypFireCell s =
      ({ s.mark Kc.GRD_STAT.BYPF with grd := { s.grd with bypDue := false, byp := true } } : Cell).syncJ3.eventIf Ev.BYP := by
  have fires : (s.grd.bypDue && !s.on Kc.GRD_STAT.BYPF) = true := by rw [due, unfired]; rfl
  exact if_pos fires

/-- The condition of OV, for a clear (R154). -/
theorem declines_ov (s : Cell) :
    s.declines false = decide (s.on Kc.GRD_STAT.BYPF = true ∨ s.rd Kc.GRD_TH.OVTH < s.rd Kc.GRD_STAT.VF) := by
  simp [Cell.declines]

/-- A clear of OV alone: the decision ends or GRD_CLR is raised, and the inhibit is to end where no decision stands (R154). -/
theorem guardClear_ov {s y : Cell} (ov : s.on Kc.GRD_STAT.OV = true) (shown : (s.when (!s.declines false) (fun s => s.wr Kc.GRD_STAT.OV 0)).when
      (s.declines false) (fun s => s.eventIf Ev.GRD_CLR) = y) :
    s.guardClear true false =
      if !y.on Kc.GRD_STAT.OV && !y.on Kc.GRD_STAT.MDEAD then y.onGrd (fun g => { g with releaseInh := true }) else y := by
  unfold Cell.guardClear
  extract_lets askOv askMd noOv noMd u v z
  have asked : askOv = true := (Bool.true_and _).trans ov
  have unasked : askMd = false := Bool.false_and _
  have noOv_eq : noOv = s.declines false := by rw [show noOv = (askOv && s.declines false) from rfl, asked, Bool.true_and]
  have noMd_eq : noMd = false := by rw [show noMd = (askMd && s.declines true) from rfl, unasked, Bool.false_and]
  have mdStays : v = u := by rw [show v = u.when (askMd && !noMd) _ from rfl, unasked, Bool.false_and, when_false]
  have same : z = y := by
    rw [show z = v.when (noOv || noMd) _ from rfl, noMd_eq, Bool.or_false, mdStays, show u = s.when (askOv && !noOv) _ from rfl, asked,
      Bool.true_and, noOv_eq, shown]
  rw [same, asked, Bool.true_or, Bool.true_and]

theorem guardClear_declined {s : Cell} (runs : s.runs = true) (ov : s.on Kc.GRD_STAT.OV = true) (declines : s.declines false = true) :
    s.guardClear true false = s.event Ev.GRD_CLR := by
  have raised : (s.when (!s.declines false) (fun s => s.wr Kc.GRD_STAT.OV 0)).when (s.declines false) (fun s => s.eventIf Ev.GRD_CLR) =
      s.event Ev.GRD_CLR := by
    rw [declines, Bool.not_true, when_false, when_true, Cell.eventIf, runs, when_true]
  rw [guardClear_ov ov raised, on_event _ _ (by decide), ov, Bool.not_true, Bool.false_and]
  exact if_neg Bool.false_ne_true

theorem guardClear_cleared {s : Cell} (ov : s.on Kc.GRD_STAT.OV = true) (md : s.on Kc.GRD_STAT.MDEAD = false)
    (clears : s.declines false = false) :
    s.guardClear true false = (s.wr Kc.GRD_STAT.OV 0).onGrd (fun g => { g with releaseInh := true }) := by
  have ends : (s.when (!s.declines false) (fun s => s.wr Kc.GRD_STAT.OV 0)).when (s.declines false) (fun s => s.eventIf Ev.GRD_CLR) =
      s.wr Kc.GRD_STAT.OV 0 := by
    rw [clears, Bool.not_false, when_true, when_false]
  have cleared : (s.wr Kc.GRD_STAT.OV 0).on Kc.GRD_STAT.OV = false := by rw [Cell.on, rd_wr_same]; rfl
  rw [guardClear_ov ov ends, cleared, on_wr_ne _ _ (by decide), md]
  exact if_pos rfl

theorem silent_iff (s : Cell) : s.silent = true ↔ ∃ q, s.grd.quiet = some q ∧ 80000 * s.rd Kc.GRD_CFG.MDTO ≤ q := by
  unfold Cell.silent
  cases s.grd.quiet <;> simp

/-- A decision MDEAD stands and the main domain is dead: it resets, and the guard counts the try, or gives up after eight (R156). -/
theorem guardMainRetryCell_dead {s : Cell} (md : s.on Kc.GRD_STAT.MDEAD = true) (tries : s.grd.gaveUp = false)
    (dead : s.runs = false ∨ s.silent = true) :
    guardMainRetryCell s = (s.mainReset 3).onGrd (fun g =>
      if s.grd.tries < 8 then { g with tries := g.tries + 1 } else { g with gaveUp := true }) := by
  have due : (s.on Kc.GRD_STAT.MDEAD && !s.grd.gaveUp && (!s.runs || s.silent)) = true := by
    rcases dead with h | h <;> simp [md, tries, h]
  rw [guardMainRetryCell, if_pos due]
  split <;> rfl

end Cell

/-- Settles O22: each command by what it comes to in the case at hand. -/
theorem guardDecisions : Obligations.Guard_decisions := by
  intro s a uv t ov md x goes win vf y run quiet z newOv newMd
  have watched (enabled : x.on Kc.GRD_CFG.EN = true) (power : x.sensor = false) : ¬(!x.on Kc.GRD_CFG.EN || x.sensor) = true := by
    simp [enabled, power]
  refine ⟨fun powered off => ?unwatched, fun powered enabled power noOv noMd => ?quiet, fun powered enabled power new => ?decision,
    fun due unfired => ?byp, fun runs askOv askMd ovOn mdOff => ?clear, fun mdOn tries dead => ?retry⟩
  case unwatched =>
    refine exec_cell rfl ((Cell.guardSampleCell_eq powered uv t).trans (if_pos ?_))
    rcases off with h | h <;> simp [x, h]
  case quiet =>
    refine exec_cell rfl ((Cell.guardSampleCell_eq powered uv t).trans ((if_neg (watched enabled power)).trans (if_pos ?_)))
    show (!newOv && !newMd) = true
    simp [noOv, noMd]
  case decision =>
    have decides : ¬(!newOv && !newMd) = true := by
      rw [← Bool.not_or, new]
      decide
    have decided : guardSampleCell uv t x = _ :=
      (Cell.guardSampleCell_eq powered uv t).trans ((if_neg (watched enabled power)).trans (if_neg decides))
    exact ⟨_, exec_cell rfl decided, x.guardAct_decided uv t _ newOv newMd _⟩
  case byp => exact exec_cell rfl (Cell.guardBypFireCell_due due unfired)
  case clear =>
    subst askOv askMd
    refine exec_cell rfl ((if_pos runs).trans ?_)
    split
    case isTrue stays => exact Cell.guardClear_declined runs ovOn (x.declines_ov.trans (decide_eq_true stays))
    case isFalse ends => exact Cell.guardClear_cleared ovOn mdOff (x.declines_ov.trans (decide_eq_false ends))
  case retry =>
    refine ⟨_, exec_cell rfl (Cell.guardMainRetryCell_dead mdOn tries (dead.imp_right x.silent_iff.mpr)), rfl, rfl, rfl, ?_⟩
    rfl

end Sys2Proof.Machine
end

section
/-! What each obeyed mode makes of the tick at a module (R160, R169 to R171, R177, R181 to R184). -/

namespace Sys2Proof.Machine

namespace Cell

/-! ### Plans of a tick -/

/-- Counting void edges leaves GEN's own state alone (R171). -/
theorem countVoid_gen (s : Cell) (st0 st1 t1 st2 t2 : Nat) : (s.countVoid st0 st1 t1 st2 t2).gen = s.gen := by
  refine foldl_keeps (g := fun s => s.gen) (fun s _ => ?_) _ _
  unfold Cell.count
  dsimp only
  split
  · rfl
  split <;> rfl

/-- The local pair of the running tick is the committed one (R177). -/
theorem pair_running (g : Gen) : g.pair false = (g.lp0, g.lp1, g.lpT1, g.lp2, g.lpT2) := by
  unfold Gen.pair
  cases g.lpWait <;> rfl

/-- Without SRC an ACTIVE command plans its own states (R170, R171). -/
theorem plan_own {s : Cell} (src : s.on Kc.GEN_CTRL.SRC = false) (b c : Nat) :
    s.plan b 1 c = edgePlan b s.tickUnits (s.subst (cSt0 c)) (s.subst (cSt1 c)) (cT1 c) (s.subst (cSt2 c)) (cT2 c) := by
  simp only [Cell.plan, src, Bool.false_and, Bool.false_eq_true, if_false]

/-- Under SRC the running tick is planned with the committed local pair (R177). -/
theorem plan_local {s : Cell} (src : s.on Kc.GEN_CTRL.SRC = true) (c : Nat) :
    let g := s.gen
    s.plan g.bT 1 c = edgePlan g.bT s.tickUnits (s.subst g.lp0) (s.subst g.lp1) g.lpT1 (s.subst g.lp2) g.lpT2 := by
  simp only [Cell.plan, src, bne_self_eq_false, pair_running, Bool.true_and, beq_self_eq_true, Bool.true_or, if_true]

/-- Switching leaves GEN_CTRL.SRC alone. -/
theorem unswitched_src : Unswitched (fun s => s.on Kc.GEN_CTRL.SRC) := unswitched_on (by decide)

theorem src_disarm_disOff (s : Cell) : s.disarm.disOff.on Kc.GEN_CTRL.SRC = s.on Kc.GEN_CTRL.SRC :=
  (unswitched_src.disOff _).trans (unswitched_src.disarm s)

/-! ### The modes -/

/-- SENSOR at a power cell parks and raises CFG, in sensor role it parks (R160, R170). -/
theorem applySensor_eq (s : Cell) : s.applySensor = if s.sensor then s.applyPark else s.applyPark.event Ev.CFG := by
  have role : s.applyPark.sensor = s.sensor := (unswitched_on (F := Kc.CC_ROLE.SENSOR) (p := 0) (by decide)).applyPark s
  rw [Cell.applySensor, role]
  cases s.sensor <;> rfl

/-- In sensor role every mode but PARK and SENSOR parks and raises CFG (R160). -/
theorem applySensorRole_other (s : Cell) {mode : Nat} (other : (mode != 0 && mode != 5) = true) :
    s.applySensorRole mode = s.applyPark.event Ev.CFG := by
  rw [Cell.applySensorRole, other, when_true]

/-- The tick with the local pair in place of the copy's states (R177). -/
theorem applyLocal_eq {s : Cell} (src : s.on Kc.GEN_CTRL.SRC = true) :
    let g := s.gen
    let z := s.countVoid g.lp0 g.lp1 g.lpT1 g.lp2 g.lpT2
    s.applyLocal = { z.genPlan (edgePlan g.bT z.tickUnits (z.subst g.lp0) (z.subst g.lp1) g.lpT1 (z.subst g.lp2) g.lpT2) with
      parkApplied := false } := by
  intro g z
  have gen : z.gen = g := s.countVoid_gen ..
  have plan := plan_local (s := z) ((unswitched_src.countVoid s _ _ _ _ _).trans src) 0
  rw [gen] at plan
  rw [Cell.applyLocal, plan]

/-- An ACTIVE tick cancels an arming and releases DIS; then it takes the copy's states, or under SRC the local pair (R170, R171, R177). -/
theorem applyActive_own {s : Cell} (src : s.on Kc.GEN_CTRL.SRC = false) (c : Nat) :
    let y := s.disarm.disOff.countVoid (cSt0 c) (cSt1 c) (cT1 c) (cSt2 c) (cT2 c)
    s.applyActive c = { y.genPlan
      (edgePlan s.gen.bT y.tickUnits (y.subst (cSt0 c)) (y.subst (cSt1 c)) (cT1 c) (y.subst (cSt2 c)) (cT2 c)) with parkApplied := false } := by
  intro y
  have off : s.disarm.disOff.on Kc.GEN_CTRL.SRC = false := s.src_disarm_disOff.trans src
  have gen : y.gen = s.disarm.disOff.gen := countVoid_gen ..
  have bT : y.gen.bT = s.gen.bT := by
    rw [gen]
    rfl
  have plan := plan_own (s := y) ((unswitched_src.countVoid _ _ _ _ _ _).trans off) y.gen.bT c
  rw [Cell.applyActive, off, if_neg Bool.false_ne_true]
  exact congrArg (fun p => ({ y.genPlan p with parkApplied := false } : Cell)) (plan.trans (by rw [bT]))

theorem applyActive_local {s : Cell} (src : s.on Kc.GEN_CTRL.SRC = true) (c : Nat) : s.applyActive c = s.disarm.disOff.applyLocal :=
  if_pos (s.src_disarm_disOff.trans src)

theorem applyHold_own {s : Cell} (src : s.on Kc.GEN_CTRL.SRC = false) :
    s.applyHold = { s.disarm with gen := { s.disarm.gen with edges := [] }, parkApplied := false } :=
  if_neg (by rw [unswitched_src.disarm s, src]; exact Bool.false_ne_true)

theorem applyHold_local {s : Cell} (src : s.on Kc.GEN_CTRL.SRC = true) : s.applyHold = s.disarm.applyLocal :=
  if_pos ((unswitched_src.disarm s).trans src)

/-- While GEN is armed no output is to be on (R181). -/
theorem genTarget_armed {s : Cell} (armed : s.on Kc.GEN_STAT.ARMED = true) : s.genTarget = 0 :=
  if_pos (by rw [armed, Bool.or_true])

/-- The right code arms a module that is not armed: every output off (R181). -/
theorem applyBypass_arms {s : Cell} {side : Nat} (code : side = armingCode s.addr) (unarmed : s.on Kc.GEN_STAT.ARMED = false)
    (free : s.on Kc.GEN_STAT.FROZEN = false) :
    let y := { s with gen := { s.gen with edges := [], stretch := none, want := 0, entered := none }, parkApplied := true }
    s.applyBypass side = ((y.mark Kc.GEN_STAT.ARMED).wr Kc.GEN_STAT.STATE 0).drive s.gen.bT 0 := by
  intro y
  have armed : ((y.mark Kc.GEN_STAT.ARMED).wr Kc.GEN_STAT.STATE 0).on Kc.GEN_STAT.ARMED = true := by
    rw [on_wr_ne _ _ (by decide), Cell.on, Cell.mark, rd_wr_same]
    rfl
  have moving : ¬y.on Kc.GEN_STAT.FROZEN = true := by
    rw [show y.on Kc.GEN_STAT.FROZEN = s.on Kc.GEN_STAT.FROZEN from rfl, free]
    exact Bool.false_ne_true
  rw [Cell.applyBypass, if_pos code, unarmed, if_neg Bool.false_ne_true]
  exact (if_neg moving).trans (congrArg (((y.mark Kc.GEN_STAT.ARMED).wr Kc.GEN_STAT.STATE 0).drive s.gen.bT) (genTarget_armed armed))

/-- The right code at an armed module makes the firing due, a wrong one parks (R181). -/
theorem applyBypass_fires {s : Cell} {side : Nat} (code : side = armingCode s.addr) (armed : s.on Kc.GEN_STAT.ARMED = true) :
    s.applyBypass side = { s with gen := { s.gen with fireDue := true, edges := [] } } :=
  (if_pos code).trans (if_pos armed)

theorem applyBypass_bad {s : Cell} {side : Nat} (code : side ≠ armingCode s.addr) :
    s.applyBypass side = (s.mark Kc.GEN_STAT.BADARM).applyPark := if_neg code

/-- DISCHARGE cancels an arming, commands OFF and drives DIS, with event DIS as it turns on (R182). -/
theorem applyDischarge_eq (s : Cell) :
    let y := (s.disarm.mark Kc.GEN_STAT.DISON).syncJ3
    let z := if s.on Kc.GEN_STAT.DISON then y else y.event Ev.DIS
    s.applyDischarge = { z.genPlan [(s.gen.bT, 0)] with parkApplied := true } := by
  intro y z
  have was : s.disarm.on Kc.GEN_STAT.DISON = s.on Kc.GEN_STAT.DISON :=
    show (s.wr Kc.GEN_STAT.ARMED 0).on Kc.GEN_STAT.DISON = _ from on_wr_ne s 0 (by decide)
  have shown : y.when (!s.disarm.on Kc.GEN_STAT.DISON) (fun s => s.event Ev.DIS) = z := by
    rw [was, show z = if s.on Kc.GEN_STAT.DISON then y else y.event Ev.DIS from rfl]
    cases s.on Kc.GEN_STAT.DISON
    · rw [Bool.not_false, when_true, if_neg Bool.false_ne_true]
    · rw [Bool.not_true, when_false, if_pos rfl]
  have bT : (y.when (!s.disarm.on Kc.GEN_STAT.DISON) (fun s => s.event Ev.DIS)).gen.bT = s.gen.bT :=
    when_keeps (g := fun s => s.gen.bT) _ (congrArg Gen.bT (y.event_gen Ev.DIS))
  exact congrArg₂ (fun (z : Cell) b => ({ z.genPlan [(b, 0)] with parkApplied := true } : Cell)) shown bT

/-! ### Whether GEN obeys (R160, R181, R185) -/

theorem when_obeys {s : Cell} (runs : s.runs = true) (hears : s.genDeaf = false) (f : Cell → Cell) : s.when s.obeys f = f s := by
  rw [Cell.obeys, runs, hears]
  rfl

theorem when_deaf {s : Cell} (deaf : s.runs = false ∨ s.genDeaf = true) (f : Cell → Cell) : s.when s.obeys f = s := by
  have off : s.obeys = false := by rcases deaf with h | h <;> simp [Cell.obeys, h]
  rw [off, when_false]

end Cell

/-- Settles O23: each mode by what it comes to where GEN obeys. -/
theorem modesAppliedAtABoundary : Obligations.Modes_applied_at_a_boundary := by
  intro s a slot side x c b goes clean free parked
  refine ⟨fun deaf i hi => ?deaf, fun runs hears => ⟨?park, ?sensor, fun role i hi => ?role, fun power =>
    ⟨fun own => ⟨?activeOwn, ?holdOwn⟩, fun loc => ⟨?activeLocal, ?holdLocal⟩, fun code unarmed => ?arms, fun code armed => ?fires,
      fun code => ?bad, ?discharge⟩⟩⟩
  case deaf =>
    simp only [List.mem_cons, List.not_mem_nil, or_false] at hi
    rcases hi with rfl | rfl | rfl | rfl | rfl | rfl <;> exact exec_cell rfl (Cell.when_deaf deaf _)
  case park => exact exec_cell rfl (Cell.when_obeys runs hears _)
  case sensor => exact exec_cell rfl ((Cell.when_obeys runs hears _).trans (Cell.applySensor_eq x))
  case role =>
    simp only [List.mem_cons, List.not_mem_nil, or_false] at hi
    rcases hi with rfl | rfl | rfl | rfl <;>
      exact exec_cell rfl ((Cell.when_obeys runs hears _).trans ((if_pos role).trans (Cell.applySensorRole_other x rfl)))
  all_goals have obeyed (f g : Cell → Cell) : x.when x.obeys (fun s => if s.sensor then g s else f s) = f x :=
    (Cell.when_obeys runs hears _).trans (if_neg (by rw [power]; exact Bool.false_ne_true))
  case activeOwn => exact exec_cell rfl ((obeyed _ _).trans (Cell.applyActive_own own c))
  case holdOwn => exact exec_cell rfl ((obeyed _ _).trans (Cell.applyHold_own own))
  case activeLocal =>
    exact exec_cell rfl ((obeyed _ _).trans ((Cell.applyActive_local loc c).trans (Cell.applyLocal_eq (x.src_disarm_disOff.trans loc))))
  case holdLocal =>
    exact exec_cell rfl ((obeyed _ _).trans ((Cell.applyHold_local loc).trans (Cell.applyLocal_eq ((Cell.unswitched_src.disarm x).trans loc))))
  case arms =>
    have moving : x.on Kc.GEN_STAT.FROZEN = false := (Bool.or_eq_false_iff.mp hears).2
    exact exec_cell rfl ((obeyed _ _).trans (Cell.applyBypass_arms code unarmed moving))
  case fires => exact exec_cell rfl ((obeyed _ _).trans (Cell.applyBypass_fires code armed))
  case bad => exact exec_cell rfl ((obeyed _ _).trans (Cell.applyBypass_bad code))
  case discharge => exact exec_cell rfl ((obeyed _ _).trans (Cell.applyDischarge_eq x))

end Sys2Proof.Machine
end

section
/-! What the resets of a module's main domain and of the whole module keep and lose (R159, R162, R185, R616). -/

namespace Sys2Proof.Machine

namespace Cell

/-! ### Keeping register fields -/

/-- Fields taken over from a module one after the other leave every other key alone. -/
theorem get_foldl_keep (s : Cell) {F : Fld} {p : Nat} {l : List (Fld × Nat)} (h : F.key p 0 ∉ l.map (fun e => e.1.key e.2 0)) (t : Tab Nat) :
    F.get p 0 (l.foldl (fun t e => e.1.set e.2 0 (s.rd e.1 e.2) t) t) = F.get p 0 t := by
  induction l generalizing t with
  | nil => rfl
  | cons e l ih =>
    obtain ⟨ne, rest⟩ := not_or.mp (mt List.mem_cons.mpr h)
    exact (ih rest _).trans (Fld.get_set_ne _ _ ne)

/-- A field under none of the keys kept reads its reset value. -/
theorem get_keepRegs_lost (s : Cell) {F : Fld} {p : Nat} {l : List (Fld × Nat)} (h : F.key p 0 ∉ l.map (fun e => e.1.key e.2 0)) :
    F.get p 0 (s.keepRegs l) = F.get p 0 [] := s.get_foldl_keep h []

/-- A field that is kept, under a key of its own, reads as before. -/
theorem get_keepRegs_kept (s : Cell) {F : Fld} {p : Nat} {l : List (Fld × Nat)} (kept : (F, p) ∈ l)
    (own : (l.map (fun e => e.1.key e.2 0)).Nodup) : F.get p 0 (s.keepRegs l) = s.rd F p := by
  obtain ⟨before, after, rfl⟩ := List.append_of_mem kept
  have later : F.key p 0 ∉ after.map (fun e => e.1.key e.2 0) := by
    rw [List.map_append, List.map_cons] at own
    exact (List.nodup_cons.mp own.of_append_right).1
  rw [Cell.keepRegs, List.foldl_append, List.foldl_cons, s.get_foldl_keep later, Fld.get_set_same]
  exact Nat.mod_eq_of_lt (s.rd_lt F p)

/-! ### Resets -/

/-- The fields that a reset sets beside those it keeps. -/
def resetKeys : List Nat := [Kc.CC_SEC.STATE, Kc.GEN_OUT.BYP, Kc.GEN_OUT.DIS, Kc.CC_EVP.PEND].map (fun F => F.key 0 0)

theorem cleared_rd (s : Cell) {F : Fld} {p : Nat} (keep : List (Fld × Nat)) (grd : Guard) (h : F.key p 0 ∉ resetKeys) :
    (s.cleared keep grd).rd F p = F.get p 0 (s.keepRegs keep) := by
  simp only [resetKeys, List.map_cons, List.map_nil, List.mem_cons, List.not_mem_nil, or_false, not_or] at h
  obtain ⟨state, byp, dis, -⟩ := h
  unfold Cell.cleared Cell.syncJ3
  exact (rd_wr_ne _ _ dis).trans ((rd_wr_ne _ _ byp).trans (rd_wr_ne _ _ state))

/-- A main domain reset keeps the fields of `keepMain` alone. -/
theorem mainReset_rd (s : Cell) {F : Fld} {p : Nat} (cause : Nat) (h : F.key p 0 ∉ resetKeys) :
    (s.mainReset cause).rd F p = F.get p 0 (s.keepRegs keepMain) := by
  have pend : F.key p 0 ≠ Kc.CC_EVP.PEND.key 0 0 := fun e => h (by rw [e]; decide)
  show ((s.cleared keepMain s.grd).wr Kc.CC_EVP.PEND (s.pend % 2)).rd F p = _
  exact (rd_wr_ne _ _ pend).trans (s.cleared_rd _ _ h)

theorem mainReset_lost (s : Cell) {F : Fld} (cause : Nat) (h : F.key 0 0 ∉ resetKeys)
    (lost : F.key 0 0 ∉ keepMain.map (fun e => e.1.key e.2 0)) : (s.mainReset cause).rd F = F.get 0 0 [] :=
  (s.mainReset_rd cause h).trans (s.get_keepRegs_lost lost)

theorem mainReset_kept (s : Cell) {F : Fld} (cause : Nat) (h : F.key 0 0 ∉ resetKeys) (kept : (F, 0) ∈ keepMain) :
    (s.mainReset cause).rd F = s.rd F :=
  (s.mainReset_rd cause h).trans (s.get_keepRegs_kept kept (by decide))

/-- The loss of guard power keeps the fields of `keepStore` alone. -/
theorem powerReset_lost (s : Cell) {F : Fld} (h : F.key 0 0 ∉ resetKeys) (lost : F.key 0 0 ∉ keepStore.map (fun e => e.1.key e.2 0)) :
    s.powerReset.rd F = F.get 0 0 [] := by
  have pend : F.key 0 0 ≠ Kc.CC_EVP.PEND.key 0 0 := fun e => h (by rw [e]; decide)
  show ((s.cleared keepStore {}).wr Kc.CC_EVP.PEND 0).rd F = _
  exact (rd_wr_ne _ _ pend).trans ((s.cleared_rd _ _ h).trans (s.get_keepRegs_lost lost))

end Cell

end Sys2Proof.Machine
end

section
/-! The pass-through and the power of a module (R143 to R149, R157, R159, R605). -/

namespace Sys2Proof.Machine

namespace Cell

/-- What no event changes stays where an event of a running main domain may come about. -/
theorem announce_keeps {α : Type} {g : Cell → α} (event : ∀ s n, g (Cell.event s n) = g s) (s : Cell) (b : Bool) (n : Nat) :
    g (s.when b (fun s => s.eventIf n)) = g s :=
  when_keeps b (when_keeps (s := s) s.runs (event s n))

/-! ### The power monitor (R149, R165) -/

/-- The fields as the monitor writes them, before its events. -/
def measured (s : Cell) (pvw pve : Nat) (lpw lpe vaux : Bool) : Cell :=
  ((((s.wr Kc.OPT_PWR.PVW pvw).wr Kc.OPT_PWR.PVE pve).wr Kc.OPT_PWR.LPW (b2n lpw)).wr Kc.OPT_PWR.LPE (b2n lpe)).wr Kc.OPT_PWR.VAUX (b2n vaux)

section
variable (s : Cell) (pvw pve : Nat) (lpw lpe vaux : Bool)

/-- What no event changes is as the monitor has written it. -/
theorem monitor_keeps {α : Type} {g : Cell → α} (event : ∀ s n, g (Cell.event s n) = g s) :
    g (s.monitor pvw pve lpw lpe vaux) = g (s.measured pvw pve lpw lpe vaux) :=
  (announce_keeps event _ _ _).trans ((announce_keeps event _ _ _).trans (announce_keeps event _ _ _))

@[simp] theorem monitor_power : (s.monitor pvw pve lpw lpe vaux).power = s.power := monitor_keeps _ _ _ _ _ _ event_power
@[simp] theorem monitor_mainOn : (s.monitor pvw pve lpw lpe vaux).mainOn = s.mainOn := monitor_keeps _ _ _ _ _ _ event_mainOn
@[simp] theorem monitor_held : (s.monitor pvw pve lpw lpe vaux).held = s.held := monitor_keeps _ _ _ _ _ _ event_held
@[simp] theorem monitor_grd : (s.monitor pvw pve lpw lpe vaux).grd = s.grd := monitor_keeps _ _ _ _ _ _ event_grd
@[simp] theorem monitor_banks : (s.monitor pvw pve lpw lpe vaux).banks = s.banks := monitor_keeps _ _ _ _ _ _ event_banks

theorem monitor_rd {F : Fld} (h : F.key 0 0 ≠ Kc.CC_EVP.PEND.key 0 0) :
    (s.monitor pvw pve lpw lpe vaux).rd F = (s.measured pvw pve lpw lpe vaux).rd F :=
  monitor_keeps (g := fun s => s.rd F) _ _ _ _ _ _ fun s n => s.rd_event n h

theorem monitor_pvw : (s.monitor pvw pve lpw lpe vaux).rd Kc.OPT_PWR.PVW = pvw % 256 := by
  rw [monitor_rd _ _ _ _ _ _ (by decide), measured]
  simp (disch := decide) only [rd_wr_ne, rd_wr_same]
  rfl

theorem monitor_pve : (s.monitor pvw pve lpw lpe vaux).rd Kc.OPT_PWR.PVE = pve % 256 := by
  rw [monitor_rd _ _ _ _ _ _ (by decide), measured]
  simp (disch := decide) only [rd_wr_ne, rd_wr_same]
  rfl

theorem monitor_open : (s.monitor pvw pve lpw lpe vaux).on Kc.OPT_PT.OPEN = s.on Kc.OPT_PT.OPEN := by
  rw [Cell.on, monitor_rd _ _ _ _ _ _ (by decide), measured]
  simp (disch := decide) only [rd_wr_ne]
  rfl

end

/-! ### The power states (R147, R148) -/

/-- A change of the power state shows in PSTATE, and raises its event where the main domain runs. -/
theorem setPower_changed {s : Cell} {p : Nat} (h : p ≠ s.power) :
    s.setPower p = (({ s with power := p } : Cell).wr Kc.OPT_PWR.PSTATE (if p = 3 then 0 else 1)).eventIf Ev.PSTATE := by
  rw [Cell.setPower, bne_iff_ne.mpr h, when_true]

theorem setPower_grd (s : Cell) (p : Nat) : (s.setPower p).grd = s.grd := announce_keeps event_grd _ _ _
theorem setPower_banks (s : Cell) (p : Nat) : (s.setPower p).banks = s.banks := announce_keeps event_banks _ _ _

section
variable {s : Cell} {pvw pve : Nat} {vaux : Bool} (lpw lpe : Bool)

/-- What a fallen power makes of a module in a higher state (R147). -/
theorem powerStateFallCell_lower (lower : powerFor (available pvw pve vaux) < s.power) :
    powerStateFallCell pvw pve lpw lpe vaux s =
      let p := powerFor (available pvw pve vaux)
      let seen := s.monitor pvw pve lpw lpe vaux
      if p = 0 then { seen.powerReset with power := 0 }
      else if p = 1 then { (seen.setPower 1).mainReset 1 with power := 1 }
      else seen.setPower p :=
  if_pos (by rw [monitor_power]; exact lower)

theorem powerStateRiseCell_higher (higher : s.power < powerRisen (available pvw pve vaux)) (powered : s.power ≠ 0) :
    powerStateRiseCell pvw pve lpw lpe vaux s = (s.monitor pvw pve lpw lpe vaux).setPower (powerRisen (available pvw pve vaux)) :=
  if_pos (by rw [monitor_power]; exact ⟨higher, powered⟩)

/-- Power comes back to an unpowered module (R147, R159). -/
theorem guardPowerOnCell_shows (unpowered : s.power = 0) (enough : 15 ≤ available pvw pve vaux) :
    let y := guardPowerOnCell pvw pve lpw lpe vaux s
    y.power = 1 ∧ y.held = true ∧ y.mainOn = false ∧ y.grd = {} ∧ y.banks = s.banks ∧ y.on Kc.OPT_PT.OPEN = false ∧
      y.rd Kc.OPT_PWR.PVW = pvw % 256 ∧ y.rd Kc.OPT_PWR.PVE = pve % 256 := by
  intro y
  have on : y = ({ s.powerReset with power := 1 } : Cell).monitor pvw pve lpw lpe vaux := if_pos ⟨unpowered, enough⟩
  have shut : s.powerReset.on Kc.OPT_PT.OPEN = false := congrArg (· == 1) (s.powerReset_lost (by decide) (by decide))
  rw [on, monitor_power, monitor_held, monitor_mainOn, monitor_grd, monitor_banks, monitor_open, monitor_pvw, monitor_pve]
  exact ⟨rfl, rfl, rfl, rfl, rfl, shut, rfl, rfl⟩

end

/-! ### The pass-through (R143 to R146) -/

theorem passThroughOpenFailCell_failed {s : Cell} (opened : s.on Kc.OPT_PT.OPEN = true) (w : s.rxUp .w = false) (e : s.rxUp .e = false) :
    let n := s.rd Kc.OPT_PT.TRIES + 1
    let y := s.shut.wr Kc.OPT_PT.TRIES (min 8 n)
    passThroughOpenFailCell s = (if 8 ≤ n then y.mark Kc.OPT_PT.STUCK else y).event Ev.PT := by
  intro n y
  have failed : (s.on Kc.OPT_PT.OPEN && !s.rxUp .w && !s.rxUp .e) = true := by rw [opened, w, e]; rfl
  have stuck : y.when (decide (8 ≤ n)) (fun s => s.mark Kc.OPT_PT.STUCK) = if 8 ≤ n then y.mark Kc.OPT_PT.STUCK else y := by
    by_cases h : 8 ≤ n
    · rw [decide_eq_true h, when_true, if_pos h]
    · rw [decide_eq_false h, when_false, if_neg h]
  exact (if_pos failed).trans (congrArg (fun z : Cell => z.event Ev.PT) stuck)

end Cell

/-- Settles O20: the pass-through and the power states by their equations, the resets by what they keep and lose. -/
theorem modulePowerAndPassThrough : Obligations.Module_power_and_pass_through := by
  intro s a pvw pve lpw lpe vaux written x goes power seen
  have falls {p : Nat} (level : powerFor power = p) (lower : p < x.power) : powerStateFallCell pvw.toNat pve.toNat lpw lpe vaux x =
      if p = 0 then { seen.powerReset with power := 0 }
      else if p = 1 then { (seen.setPower 1).mainReset 1 with power := 1 }
      else seen.setPower p := by
    subst level
    exact Cell.powerStateFallCell_lower lpw lpe lower
  refine ⟨fun off => ?close, fun may => ?openIt, fun may tried => ?again, fun opened w e => ?fail, fun ge lt full => ?single,
    fun ge lt on => ?guard, fun lt on => ?unpowered, fun ge single => ?full, fun ge off => ?powerOn, fun on => ?reset, fun on => ?heat⟩
  case close => exact exec_cell rfl (if_neg (by rw [off]; exact Bool.false_ne_true))
  case openIt => exact exec_cell rfl (if_pos may)
  case again => exact exec_cell rfl (if_pos ⟨may, tried⟩)
  case fail => exact exec_cell rfl (Cell.passThroughOpenFailCell_failed opened w e)
  case single =>
    have level : powerFor power = 2 := by simp only [powerFor]; split_ifs <;> omega
    refine exec_cell rfl ((falls level (by omega)).trans (Cell.setPower_changed ?_))
    rw [Cell.monitor_power, full]
    decide
  case guard =>
    have level : powerFor power = 1 := by simp only [powerFor]; split_ifs <;> omega
    refine ⟨_, exec_cell rfl (falls level (by omega)), rfl, rfl, rfl, rfl, ?_, ?_, rfl, rfl⟩
    · exact (seen.setPower_grd 1).trans (Cell.monitor_grd ..)
    · exact (seen.setPower_banks 1).trans (Cell.monitor_banks ..)
  case unpowered =>
    have level : powerFor power = 0 := by simp only [powerFor]; split_ifs <;> omega
    have lost {F : Fld} (h : F.key 0 0 ∉ Cell.resetKeys) (gone : F.key 0 0 ∉ keepStore.map (fun e => e.1.key e.2 0)) (zero : F.get 0 0 [] = 0) :
        seen.powerReset.on F = false := by
      rw [Cell.on, seen.powerReset_lost h gone, zero]
      rfl
    exact ⟨_, exec_cell rfl (falls level (by omega)), rfl, rfl, rfl, Cell.monitor_banks .., lost (by decide) (by decide) rfl,
      lost (by decide) (by decide) rfl⟩
  case full =>
    have level : powerRisen power = 3 := if_pos ge
    have higher : x.power < powerRisen power := by omega
    refine exec_cell rfl ((Cell.powerStateRiseCell_higher lpw lpe higher (by omega)).trans ?_)
    · show seen.setPower (powerRisen power) = _
      rw [level]
      refine Cell.setPower_changed ?_
      rw [Cell.monitor_power, single]
      decide
  case powerOn =>
    have := Cell.guardPowerOnCell_shows lpw lpe off ge
    rw [Nat.mod_eq_of_lt pvw.isLt, Nat.mod_eq_of_lt pve.isLt] at this
    exact ⟨_, exec_cell rfl rfl, this⟩
  case reset =>
    refine ⟨_, exec_cell rfl (if_neg on), rfl, rfl, rfl, rfl, rfl, x.mainReset_lost _ (by decide) (by decide), ?_⟩
    exact x.mainReset_kept _ (by decide) (by simp [keepMain, Kc.fldsGRD])
  case heat => exact ⟨_, exec_cell rfl (if_neg on), rfl, rfl, rfl, rfl, Cell.mainReset_lost _ _ (by decide) (by decide)⟩

end Sys2Proof.Machine
end

section
/-! Pending sources and the cell core of a module: events, their acknowledgement, and what resets the core (R158, R159, R162, R167, R332). -/

namespace Sys2Proof.Machine

/-- Clearing a bit leaves the others as they are. -/
theorem bit_setBit_false (v i j : Nat) : bit (setBit v i false) j = (decide (j ≠ i) && bit v j) := by
  cases hb : bit v i with
  | false =>
    rw [bit_setBit_of_off hb]
    by_cases h : j = i
    · simp [h, hb]
    · simp [h]
  | true =>
    have odd : v / 2 ^ i % 2 = 1 := by
      have := Nat.testBit_eq_decide_div_mod_eq (x := v) (i := i)
      rw [show v.testBit i = true from hb] at this
      exact of_decide_eq_true this.symm
    have le : 2 ^ i ≤ v := Nat.ge_two_pow_of_testBit hb
    have cleared : setBit v i false = v - 2 ^ i := by simp [setBit, putBits, bits, odd, b2n]
    have off : (v - 2 ^ i).testBit i = false := by
      rw [Nat.testBit_eq_decide_div_mod_eq]
      have : (v - 2 ^ i) / 2 ^ i = v / 2 ^ i - 1 := by
        have := Nat.sub_mul_div v (2 ^ i) 1
        rwa [Nat.mul_one] at this
      rw [this]
      exact decide_eq_false (by omega)
    have whole := testBit_add_two_pow_of_off off j
    rw [Nat.sub_add_cancel le] at whole
    rw [cleared, bit, bit, whole]
    by_cases h : j = i
    · simp [h, off]
    · simp [h]

namespace Cell

/-! ### Events (R162) -/

/-- An event that finds no source pending is announced on both ports. -/
theorem event_announces (s : Cell) (n : Nat) :
    (s.event n).w.evAny = (s.w.evAny || s.rd Kc.CC_EVP.PEND == 0) ∧ (s.event n).e.evAny = (s.e.evAny || s.rd Kc.CC_EVP.PEND == 0) := by
  rw [Cell.event, show s.rd Kc.CC_EVP.PEND = s.pend from rfl]
  cases s.pend == 0
  · rw [when_false, Bool.or_false, Bool.or_false]
    exact ⟨rfl, rfl⟩
  · rw [when_true, Bool.or_true, Bool.or_true]
    exact ⟨rfl, rfl⟩

theorem bit_pend_ack (s : Cell) {n : Nat} (hn : n < 32) (j : Nat) : bit (s.ack n).pend j = (decide (j ≠ n) && bit s.pend j) := by
  unfold Cell.ack
  cases hb : bit s.pend n with
  | false =>
    rw [when_false]
    by_cases h : j = n
    · simp [h, hb]
    · simp [h]
  | true =>
    have kept : (s.wr Kc.CC_EVP.PEND (setBit s.pend n false)).rd Kc.CC_EVP.PEND = setBit s.pend n false := by
      rw [rd_wr_same]
      exact Nat.mod_eq_of_lt (putBits_lt (m := 32) _ (s.rd_lt Kc.CC_EVP.PEND 0) (by omega))
    rw [when_true, ← bit_setBit_false]
    exact congrArg (bit · j) kept

/-- Sources acknowledged one after the other from 0 on. -/
theorem bit_pend_acks (s : Cell) (m : Nat) {n : Nat} (hn : n ≤ 32) (j : Nat) :
    bit ((List.range n).foldl (fun s i => if bit m i then s.ack i else s) s).pend j = (bit s.pend j && !(decide (j < n) && bit m j)) := by
  induction n with
  | zero => simp
  | succ n ih =>
    have ih := ih (by omega)
    rw [List.range_succ, List.foldl_append, List.foldl_cons, List.foldl_nil]
    generalize (List.range n).foldl (fun s i => if bit m i then s.ack i else s) s = t at ih ⊢
    have last : bit (if bit m n = true then t.ack n else t).pend j = (!(decide (j = n) && bit m n) && bit t.pend j) := by
      split
      case isTrue h => simp [bit_pend_ack t hn, h]
      case isFalse h => simp [h]
    rw [last, ih]
    by_cases h : j = n
    · subst h
      simp [Bool.and_comm]
    · have : j < n + 1 ↔ j < n := by omega
      simp [h, this]

/-! ### The cell core (R159, R332) -/

/-- Beside HALTED and the pending sources no register changes as the core resets. -/
theorem coreReset_rd (s : Cell) {F : Fld} (h : F.key 0 0 ∉ [Kc.CC_DSTAT.HALTED, Kc.CC_EVP.PEND].map (fun F => F.key 0 0)) :
    s.coreReset.rd F = s.rd F := by
  simp only [List.map_cons, List.map_nil, List.mem_cons, List.not_mem_nil, or_false, not_or] at h
  exact (rd_event _ _ h.2).trans (rd_wr_ne _ _ h.1)

/-- The core is as after reset, at the entry point; GEN goes on, and CC_EXC pends. -/
theorem coreReset_shows (s : Cell) : s.coreReset.core = { pc := s.entry } ∧ bit s.coreReset.pend Ev.CC_EXC = true ∧
    s.coreReset.gen = s.gen ∧ s.coreReset.rd Kc.GEN_OUT.G = s.rd Kc.GEN_OUT.G := by
  have pends := (s.wr Kc.CC_DSTAT.HALTED 0).bit_pend_event Ev.CC_EXC (by decide) Ev.CC_EXC
  rw [decide_eq_true rfl, Bool.true_or] at pends
  exact ⟨rfl, pends, event_gen _ _, s.coreReset_rd (by decide)⟩

/-- A program that was started stops, what it held is gone, and it runs again within 20 ms (R159). -/
theorem coreReset_started {s : Cell} (started : (s.progOn || s.restart.isSome) = true) :
    s.coreReset.progOn = false ∧ s.coreReset.wa = [] ∧ s.coreReset.replies = [] ∧ s.coreReset.restart.isSome = true ∧
      s.coreReset.restart.getD 0 < max 1 (16000000 / s.tickUnits) := by
  have again : s.coreReset.restart = some (Config.unstated s.free % max 1 (16000000 / s.tickUnits)) := if_pos started
  rw [again]
  exact ⟨rfl, rfl, rfl, rfl, Nat.mod_lt _ (by omega)⟩

/-- Where none was started there is none to run. -/
theorem coreReset_unstarted {s : Cell} (unstarted : (s.progOn || s.restart.isSome) = false) :
    s.coreReset.progOn = false ∧ s.coreReset.restart = none :=
  ⟨rfl, if_neg (show ¬(s.progOn || s.restart.isSome) = true by rw [unstarted]; exact Bool.false_ne_true)⟩

/-- An exception, or the watchdog, at a program that runs: cause and address are kept as the core resets (R158, R332). -/
theorem coreReset_caused {s : Cell} (on : s.progOn = true) (cause pc : Nat) :
    let y := ((s.wr Kc.CC_XC.CAUSE cause).wr Kc.CC_XC.PC pc).coreReset
    y.rd Kc.CC_XC.CAUSE = cause % 16 ∧ y.rd Kc.CC_XC.PC = pc % 65536 ∧ y.core = { pc := s.entry } ∧
      (y.progOn = false ∧ y.wa = [] ∧ y.replies = [] ∧ y.restart.isSome = true ∧ y.restart.getD 0 < max 1 (16000000 / s.tickUnits)) ∧
      bit y.pend Ev.CC_EXC = true ∧ y.gen = s.gen ∧ y.rd Kc.GEN_OUT.G = s.rd Kc.GEN_OUT.G := by
  intro y
  obtain ⟨core, pends, gen, g⟩ := ((s.wr Kc.CC_XC.CAUSE cause).wr Kc.CC_XC.PC pc).coreReset_shows
  refine ⟨?_, ?_, core, coreReset_started (s := (s.wr Kc.CC_XC.CAUSE cause).wr Kc.CC_XC.PC pc) ?_, pends, gen, ?_⟩
  · rw [coreReset_rd _ (by decide), rd_wr_ne _ _ (by decide), rd_wr_same]
    rfl
  · rw [coreReset_rd _ (by decide), rd_wr_same]
    rfl
  · exact (Bool.or_eq_true _ _).mpr (.inl on)
  · rw [g, rd_wr_ne _ _ (by decide), rd_wr_ne _ _ (by decide)]

end Cell

end Sys2Proof.Machine
end

section
/-! The start of a module's main domain: what the boot ROM finds, notes and runs (R144, R155, R159, R162, R163, R204, R548, R550, R623). -/

namespace Sys2Proof.Machine

/-- The fields, by their keys, in which a start notes what guard and slices are found to be. -/
def Kc.noteKeys : List Nat :=
  [Kc.GRD_STAT.LOCK, Kc.ADC_CAL.FAIL, Kc.ADC_CAL.SPARE, Kc.ADC_STAT.SHARED].map (fun F => F.key 0 0)

/-- The fields that tell of the bank that runs, and those that its guard block sets. -/
def Kc.bootKeys : List Nat :=
  [Kc.CC_BOOT.RUN, Kc.CC_ID.IDENT, Kc.CC_SEC.UNSG, Kc.CC_SEC.ISLOT].map (fun F => F.key 0 0)

def Kc.guardKeys : List Nat :=
  [Kc.GRD_CFG.FILT, Kc.GRD_CFG.OVACT, Kc.GRD_CFG.MDACT, Kc.GRD_CFG.MDTO, Kc.GRD_CFG.EN, Kc.GRD_TH.OVCNT, Kc.GRD_TH.OVTH, Kc.GRD_TH.MDTH,
   Kc.GRD_STAT.LOCK].map (fun F => F.key 0 0)

namespace Cell

/-! ### The stages of a start -/

/-- The main domain comes out of reset, with its cause, the pass-through closed, and event RESET. -/
def woken (s : Cell) : Cell :=
  let t := ({ s with mainOn := true, held := false, ptOpen := false } : Cell).onGrd (fun g => { g with tries := 0, mdNew := false })
  (t.wr Kc.CC_RST.CAUSE s.cause).event Ev.RESET

/-- What a start notes of guard and slices, with the sources that it raises. -/
def noted (s : Cell) (fail : BitVec 3) : Cell :=
  let s := s.when (s.rd Kc.CC_SEC.STATE == 3) (fun s => s.mark Kc.GRD_STAT.LOCK)
  let s := s.when (s.on Kc.GRD_STAT.MDEAD) (fun s => s.event Ev.GRD_MD)
  let s := (s.wr Kc.ADC_CAL.FAIL fail.toNat).when (fail != 0) (fun s => s.event Ev.ADCCAL)
  let s := s.onMeas (fun m => { m with slices := s.usable, single := s.power == 2, age := [(0, 1), (1, 2), (2, 3)], clock := 3 })
  (s.wr Kc.ADC_STAT.SHARED (b2n s.sharedRow)).wr Kc.ADC_CAL.SPARE (if s.sharedRow then 3 else 0)

/-- Bank `k` with the image `i` runs: what tells of it, and the program at its entry point. -/
def booted (s : Cell) (k : Nat) (i : ImgChk) : Cell :=
  let s := (s.wr Kc.CC_BOOT.RUN k).wr Kc.CC_ID.IDENT i.ident.toNat
  let s := s.wr Kc.CC_SEC.UNSG (b2n (!s.sec.signed [0, 1] i))
  let s := s.wr Kc.CC_SEC.ISLOT ((s.sec.slotOf [0, 1] i.keyHash).getD 0)
  { s with progOn := true, entry := i.entry, core := { pc := i.entry }, sec := { s.sec with imgSvn := i.svn.toNat } }

/-- The image's register values, its memories and its guard block in their places. -/
def running (s : Cell) (k : Nat) (i : ImgChk) : Cell := ((s.booted k i).loadImage i).guardBlock i

/-- The rest of a start: the checks, and the bank that runs, where there is one. -/
def booting (s : Cell) (b0 b1 : ImgChk) (fail : BitVec 3) (boot : Option Nat) : Cell :=
  let s := (s.when (boot != some (s.rd Kc.CC_BOOT.SEL)) (fun s => s.event Ev.SEC)).noted fail
  match boot with
  | some k => s.running k (if k = 0 then b0 else b1)
  | none => s

theorem mainDomainStartCell_eq {s : Cell} (supplied : 2 ≤ s.power) (off : s.mainOn = false) (tries : s.grd.gaveUp = false)
    (b0 b1 : ImgChk) (i : CellStart) :
    mainDomainStartCell b0 b1 i s = (s.sampled i).woken.booting b0 b1 i.fail ((s.sampled i).bootBank b0 b1) := by
  have startable : ¬(s.power < 2 ∨ s.mainOn = true ∨ s.grd.gaveUp = true) := by
    simp only [off, tries, Bool.false_eq_true, or_false]
    omega
  exact (if_neg startable).trans rfl

/-! ### What an image that runs leaves alone -/

theorem guardBlock_keeps {α : Type} {g : Cell → α} (wr : ∀ {F : Fld} (v : Nat) (s : Cell), F.key 0 0 ∈ Kc.guardKeys → g (s.wr F v) = g s)
    (grd : ∀ (s : Cell) (f : Guard → Guard), g (s.onGrd f) = g s) (s : Cell) (i : ImgChk) : g (s.guardBlock i) = g s := by
  have field (v : Nat) (s : Cell) {F : Fld} (h : F.key 0 0 ∈ Kc.guardKeys) : g (Cell.guardField v s F) = g s := when_keeps _ (wr _ _ h)
  unfold Cell.guardBlock
  dsimp only [List.foldl_cons, List.foldl_nil]
  split
  · refine (wr _ _ (by decide)).trans ((when_keeps _ (grd _ _)).trans ?_)
    rw [field _ _ (by decide), field _ _ (by decide), field _ _ (by decide), field _ _ (by decide), field _ _ (by decide),
      field _ _ (by decide), field _ _ (by decide), field _ _ (by decide)]
  · rfl

/-- What is neither a register nor in the core's memory nor the guard's is as the boot ROM leaves it. -/
theorem running_keeps {α : Type} {g : Cell → α} (wr : ∀ (F : Fld) (v n : Nat) (s : Cell), g (s.wr F v n) = g s)
    (grd : ∀ (s : Cell) (f : Guard → Guard), g (s.onGrd f) = g s) (mem : ∀ (s : Cell) (m : Tab Byte), g { s with mem := m } = g s)
    (s : Cell) (k : Nat) (i : ImgChk) : g (s.running k i) = g (s.booted k i) :=
  (guardBlock_keeps (fun v s _ => wr _ v 0 s) grd _ i).trans (loadImage_keeps g i _ (fun F _ n _ v s => wr F v n s) mem)

/-- A register field that neither the image nor its guard block sets. -/
theorem running_rd {F : Fld} (guard : F.key 0 0 ∉ Kc.guardKeys) (image : ∀ f ∈ Kc.imageFlds, ∀ n < f.c1, F.key 0 0 ≠ f.key n 0)
    (s : Cell) (k : Nat) (i : ImgChk) : (s.running k i).rd F = (s.booted k i).rd F :=
  (guardBlock_keeps (g := fun s => s.rd F) (fun v s h => rd_wr_ne s v fun e => guard (e ▸ h)) (fun _ _ => rfl) _ i).trans
    (rd_loadImage _ i F 0 image)

theorem booted_rd {F : Fld} (boot : F.key 0 0 ∉ Kc.bootKeys) (s : Cell) (k : Nat) (i : ImgChk) : (s.booted k i).rd F = s.rd F := by
  simp only [Kc.bootKeys, List.map_cons, List.map_nil, List.mem_cons, List.not_mem_nil, or_false, not_or] at boot
  obtain ⟨run, ident, unsg, islot⟩ := boot
  exact (rd_wr_ne _ _ islot).trans ((rd_wr_ne _ _ unsg).trans ((rd_wr_ne _ _ ident).trans (rd_wr_ne _ _ run)))

/-- An image that comes to run raises no source. -/
theorem running_pend (s : Cell) (k : Nat) (i : ImgChk) : (s.running k i).pend = s.pend :=
  (running_rd (F := Kc.CC_EVP.PEND) (by decide) (by decide) s k i).trans (booted_rd (by decide) s k i)

/-! ### What lasts through the rest of a start -/

/-- What is true of a module stays true as sources rise, and as a start notes what it finds. -/
structure Noting (P : Cell → Prop) : Prop where
  event : ∀ {s : Cell} {n : Nat}, n < 32 → P s → P (s.event n)
  note : ∀ {F : Fld} (v : Nat) {s : Cell}, F.key 0 0 ∈ Kc.noteKeys → P s → P (s.wr F v)
  meas : ∀ {s : Cell} (f : CellMeas → CellMeas), P s → P (s.onMeas f)

/-- It also stays true as a bank comes to run. -/
structure Lasting (P : Cell → Prop) : Prop extends Noting P where
  run : ∀ {s : Cell} (k : Nat) (i : ImgChk), P s → P (s.running k i)

theorem when_holds {P : Cell → Prop} {f : Cell → Cell} {s : Cell} (b : Bool) (hs : P s) (hf : P s → P (f s)) : P (s.when b f) := by
  cases b
  · exact hs
  · exact hf hs

theorem Noting.noted {P : Cell → Prop} (h : Noting P) {s : Cell} (fail : BitVec 3) (hs : P s) : P (s.noted fail) := by
  unfold Cell.noted
  refine h.note _ (by decide) (h.note _ (by decide) (h.meas _ ?_))
  refine when_holds _ (h.note _ (by decide) ?_) (h.event (by decide))
  exact when_holds _ (when_holds _ hs (h.note _ (by decide))) (h.event (by decide))

theorem Noting.checked {P : Cell → Prop} (h : Noting P) {s : Cell} (bad : Bool) (fail : BitVec 3) (hs : P s) :
    P ((s.when bad (fun s => s.event Ev.SEC)).noted fail) :=
  h.noted fail (when_holds _ hs (h.event (by decide)))

theorem Lasting.booting {P : Cell → Prop} (h : Lasting P) {s : Cell} (b0 b1 : ImgChk) (fail : BitVec 3) (boot : Option Nat) (hs : P s) :
    P (s.booting b0 b1 fail boot) := by
  cases boot with
  | none => exact h.checked _ fail hs
  | some k => exact h.run k _ (h.checked _ fail hs)

/-- Whether a program runs. -/
theorem noting_progOn (b : Bool) : Noting (fun s => s.progOn = b) where
  event _ hs := by rw [event_progOn, hs]
  note _ _ _ hs := hs
  meas _ hs := hs

/-- A register field apart from all that these write keeps its value. -/
theorem lasting_rd {F : Fld} (h : F.key 0 0 ∉ Kc.CC_EVP.PEND.key 0 0 :: (Kc.noteKeys ++ Kc.bootKeys ++ Kc.guardKeys))
    (image : ∀ f ∈ Kc.imageFlds, ∀ n < f.c1, F.key 0 0 ≠ f.key n 0) (a : Nat) : Lasting (fun s => s.rd F = a) := by
  simp only [List.mem_cons, List.mem_append, not_or] at h
  obtain ⟨pend, ⟨note, boot⟩, guard⟩ := h
  have runs (s : Cell) (k : Nat) (i : ImgChk) : (s.running k i).rd F = s.rd F :=
    (running_rd guard image s k i).trans (booted_rd boot s k i)
  refine ⟨⟨fun {s} {n} _ hs => ?event, fun {G} v {s} hG hs => ?note, fun _ hs => hs⟩, fun {s} k i hs => ?run⟩
  case event => exact (rd_event s n pend).trans hs
  case note =>
    have apart : F.key 0 0 ≠ G.key 0 0 := fun e => note (e ▸ hG)
    exact (rd_wr_ne s v apart).trans hs
  case run => exact (runs s k i).trans hs

/-- A source that pends goes on pending. -/
theorem lasting_pend (n : Nat) : Lasting (fun s => bit s.pend n = true) where
  event hm hs := by rw [bit_pend_event _ _ hm, hs, Bool.or_true]
  note {F} v {s} hG hs := by
    have apart : Kc.CC_EVP.PEND.key 0 0 ∉ Kc.noteKeys := by decide
    rw [show (s.wr F v).pend = s.pend from rd_wr_ne s v fun e => apart (e ▸ hG), hs]
  meas _ hs := hs
  run k i hs := by rw [running_pend, hs]

/-- The main domain runs with its pass-through closed. -/
theorem lasting_on : Lasting (fun s => s.mainOn = true ∧ s.held = false ∧ s.ptOpen = false) where
  event _ hs := by simpa using hs
  note _ _ _ hs := hs
  meas _ hs := hs
  run k i hs := by
    rw [running_keeps (g := Cell.mainOn) (fun _ _ _ _ => rfl) (fun _ _ => rfl) (fun _ _ => rfl),
      running_keeps (g := Cell.held) (fun _ _ _ _ => rfl) (fun _ _ => rfl) (fun _ _ => rfl),
      running_keeps (g := Cell.ptOpen) (fun _ _ _ _ => rfl) (fun _ _ => rfl) (fun _ _ => rfl)]
    exact hs

/-- Whether the key store reads with a fault. -/
theorem lasting_fault (b : Bool) : Lasting (fun s => s.sec.fault = b) where
  event _ hs := by rw [event_sec, hs]
  note _ _ _ hs := hs
  meas _ hs := hs
  run {s} k i hs := (running_keeps (g := fun s => s.sec.fault) (fun _ _ _ _ => rfl) (fun _ _ => rfl) (fun _ _ => rfl) s k i).trans hs

/-! ### What the boot ROM finds (R548, R550) -/

/-- The bank that SEL names, else the other one, else none. -/
theorem bootBank_cases (s : Cell) (b0 b1 : ImgChk) : let sel := s.rd Kc.CC_BOOT.SEL
    s.bootBank b0 b1 = some sel ∨ s.bootBank b0 b1 = some (1 - sel) ∨ s.bootBank b0 b1 = none := by
  exact (ite_eq_or_eq _ _ _).imp id fun other => (ite_eq_or_eq _ _ _).imp other.trans other.trans

theorem bootBank_lt {s : Cell} {b0 b1 : ImgChk} {k : Nat} (found : s.bootBank b0 b1 = some k) : k < 2 := by
  have sel : s.rd Kc.CC_BOOT.SEL < 2 := s.rd_lt Kc.CC_BOOT.SEL 0
  rcases s.bootBank_cases b0 b1 with h | h | h <;> rw [h] at found
  · rwa [← Option.some.inj found]
  · rw [← Option.some.inj found]
    omega
  · exact absurd found nofun

/-- Behind a faulty key store no bank passes. -/
theorem bootBank_fault {s : Cell} (fault : s.sec.fault = true) (b0 b1 : ImgChk) : s.bootBank b0 b1 = none := by
  have keyless (h : BitVec 384) : s.sec.slotOf [0, 1] h = none := by simp [SecSt.slotOf, SecSt.usable, fault]
  have fails (st : Nat) (i : ImgChk) : s.sec.imagePasses st [0, 1] i = false := by simp [SecSt.imagePasses, keyless]
  simp only [Cell.bootBank, fails, Bool.false_eq_true, if_false]

theorem sampled_sel (s : Cell) (i : CellStart) : (s.sampled i).rd Kc.CC_BOOT.SEL = s.rd Kc.CC_BOOT.SEL :=
  (rd_wr_ne _ _ (by decide)).trans (rd_wr_ne _ _ (by decide))

theorem sampled_bench (s : Cell) (i : CellStart) : (s.sampled i).rd Kc.CC_SEC.BENCH = b2n i.bench := by
  unfold Cell.sampled
  rw [rd_wr_same]
  cases i.bench <;> rfl

/-! ### What a start shows -/

theorem woken_rd (s : Cell) {F : Fld} (h : F.key 0 0 ∉ [Kc.CC_RST.CAUSE, Kc.CC_EVP.PEND].map (fun F => F.key 0 0)) :
    s.woken.rd F = s.rd F := by
  simp only [List.map_cons, List.map_nil, List.mem_cons, List.not_mem_nil, or_false, not_or] at h
  exact (rd_event _ _ h.2).trans (rd_wr_ne _ _ h.1)

theorem woken_on (s : Cell) : s.woken.mainOn = true ∧ s.woken.held = false ∧ s.woken.ptOpen = false :=
  ⟨event_mainOn _ _, event_held _ _, event_ptOpen _ _⟩

theorem woken_cause (s : Cell) : s.woken.rd Kc.CC_RST.CAUSE = s.cause % 8 := by
  unfold woken
  rw [rd_event _ _ (by decide), rd_wr_same]
  rfl

theorem woken_reset (s : Cell) : bit s.woken.pend Ev.RESET = true := by
  unfold woken
  rw [bit_pend_event _ _ (by decide), decide_eq_true rfl, Bool.true_or]

theorem noted_fail (s : Cell) (fail : BitVec 3) : (s.noted fail).rd Kc.ADC_CAL.FAIL = fail.toNat := by
  have calibrated (s : Cell) (b : Bool) : ((s.wr Kc.ADC_CAL.FAIL fail.toNat).when b (fun s => s.event Ev.ADCCAL)).rd Kc.ADC_CAL.FAIL =
      fail.toNat := by
    rw [when_keeps (g := fun s => s.rd Kc.ADC_CAL.FAIL) b (rd_event _ _ (by decide)), rd_wr_same]
    exact Nat.mod_eq_of_lt fail.isLt
  exact (rd_wr_ne _ _ (by decide)).trans ((rd_wr_ne _ _ (by decide)).trans (calibrated _ _))

theorem booting_fail (s : Cell) (b0 b1 : ImgChk) (fail : BitVec 3) (boot : Option Nat) :
    (s.booting b0 b1 fail boot).rd Kc.ADC_CAL.FAIL = fail.toNat := by
  cases boot with
  | none => exact noted_fail _ _
  | some k => exact (running_rd (by decide) (by decide) _ _ _).trans ((booted_rd (by decide) _ _ _).trans (noted_fail _ _))

/-- Where SEL's bank is not the one that runs, SEC pends (R550). -/
theorem booting_sec (s : Cell) (b0 b1 : ImgChk) (fail : BitVec 3) {boot : Option Nat} (other : boot ≠ some (s.rd Kc.CC_BOOT.SEL)) :
    bit (s.booting b0 b1 fail boot).pend Ev.SEC = true := by
  have raised : bit (s.when (boot != some (s.rd Kc.CC_BOOT.SEL)) (fun s => s.event Ev.SEC)).pend Ev.SEC = true := by
    rw [bne_iff_ne.mpr other, when_true, bit_pend_event _ _ (by decide), decide_eq_true rfl, Bool.true_or]
  have checked := (lasting_pend Ev.SEC).noted fail raised
  cases boot with
  | none => exact checked
  | some k => exact (lasting_pend Ev.SEC).run k _ checked

/-- The program of the bank that runs stands at its entry point (R550). -/
theorem running_shows (s : Cell) {k : Nat} (hk : k < 2) (i : ImgChk) :
    let y := s.running k i
    y.progOn = true ∧ y.entry = i.entry ∧ y.core.pc = i.entry ∧ y.rd Kc.CC_BOOT.RUN = k ∧ y.rd Kc.CC_ID.IDENT = i.ident.toNat := by
  refine ⟨running_keeps (g := Cell.progOn) (fun _ _ _ _ => rfl) (fun _ _ => rfl) (fun _ _ => rfl) s k i,
    running_keeps (g := Cell.entry) (fun _ _ _ _ => rfl) (fun _ _ => rfl) (fun _ _ => rfl) s k i,
    running_keeps (g := fun s => s.core.pc) (fun _ _ _ _ => rfl) (fun _ _ => rfl) (fun _ _ => rfl) s k i, ?run, ?ident⟩
  case run =>
    have booted : (s.booted k i).rd Kc.CC_BOOT.RUN = k % 2 :=
      (rd_wr_ne _ _ (by decide)).trans ((rd_wr_ne _ _ (by decide)).trans ((rd_wr_ne _ _ (by decide)).trans (rd_wr_same _ _ _ _)))
    rw [running_rd (by decide) (by decide), booted, Nat.mod_eq_of_lt hk]
  case ident =>
    have booted : (s.booted k i).rd Kc.CC_ID.IDENT = i.ident.toNat % 2 ^ 32 :=
      (rd_wr_ne _ _ (by decide)).trans ((rd_wr_ne _ _ (by decide)).trans (rd_wr_same _ _ _ _))
    rw [running_rd (by decide) (by decide), booted, Nat.mod_eq_of_lt i.ident.isLt]

end Cell

/-- Settles O21: the start by its stages, events and core resets by what they change. -/
theorem moduleStartEventsAndCore : Obligations.Module_start_events_and_core := by
  intro s a b0 b1 fail cause src pc v x goes resets
  refine ⟨fun supplied off tries => ?start, fun runs => ?raise, ?acks, fun runs prog free => ?watchdog, fun runs prog => ?exc,
    fun runs => ?core⟩
  case start =>
    have boots := Cell.mainDomainStartCell_eq supplied off tries b0 b1 fail
    generalize found : (x.sampled fail).bootBank b0 b1 = boot at boots
    obtain ⟨on, held, shut⟩ := Cell.lasting_on.booting b0 b1 fail.fail boot (x.sampled fail).woken_on
    have idle : ((x.sampled fail).woken.booting b0 b1 fail.fail none).progOn = x.progOn :=
      (Cell.noting_progOn x.progOn).checked _ _ (Cell.event_progOn _ _)
    refine ⟨_, exec_cell rfl boots, on, held, ?cause, ?reset, Cell.booting_fail _ _ _ _ _, ?bench, ?fault, fun k bank => ?bank,
      fun bank => ?noBank, fun fault => ?faulty, fun other => ?sec, shut⟩
    case cause => exact (Cell.lasting_rd (by decide) (by decide) _).booting b0 b1 _ boot (x.sampled fail).woken_cause
    case reset => exact (Cell.lasting_pend _).booting b0 b1 _ boot (x.sampled fail).woken_reset
    case bench =>
      have strap : (x.sampled fail).woken.rd Kc.CC_SEC.BENCH = b2n fail.bench :=
        ((x.sampled fail).woken_rd (by decide)).trans (x.sampled_bench fail)
      rw [Cell.on, (Cell.lasting_rd (by decide) (by decide) _).booting b0 b1 _ boot strap]
      cases fail.bench <;> rfl
    case fault => exact (Cell.lasting_fault _).booting b0 b1 _ boot (congrArg SecSt.fault (Cell.event_sec _ _))
    case bank =>
      subst bank
      exact Cell.running_shows _ (Cell.bootBank_lt found) _
    case noBank =>
      subst bank
      exact idle
    case faulty =>
      rw [show boot = none from found.symm.trans (Cell.bootBank_fault fault b0 b1)]
      exact idle
    case sec =>
      refine Cell.booting_sec _ b0 b1 _ ?_
      rw [Cell.woken_rd _ (by decide), Cell.sampled_sel]
      exact other
  case raise =>
    obtain ⟨w, e⟩ := x.event_announces src.toNat
    have raised : x.eventIf src.toNat = x.event src.toNat := by rw [Cell.eventIf, runs, Cell.when_true]
    exact ⟨_, exec_cell rfl raised, x.rd_pend_event _ src.isLt, w, e⟩
  case acks =>
    refine ⟨_, exec_cell rfl rfl, fun i hi => ?_⟩
    refine (x.bit_pend_acks v.toNat (le_refl 32) i).trans ?_
    rw [decide_eq_true hi, Bool.true_and]
    rfl
  case watchdog =>
    obtain ⟨xcause, xpc, shows⟩ := Cell.coreReset_caused prog 11 0
    refine ⟨_, exec_cell rfl (if_pos ?_), xcause, xpc, shows⟩
    rw [runs, prog, free]
    rfl
  case exc =>
    obtain ⟨xcause, xpc, shows⟩ := Cell.coreReset_caused prog cause.toNat pc.toNat
    rw [Nat.mod_eq_of_lt cause.isLt] at xcause
    rw [Nat.mod_eq_of_lt pc.isLt] at xpc
    refine ⟨_, exec_cell rfl (if_pos ?_), xcause, xpc, shows⟩
    rw [runs, prog]
    rfl
  case core =>
    obtain ⟨core, pends, gen, g⟩ := x.coreReset_shows
    refine ⟨_, exec_cell rfl (if_pos runs), core, ?_, pends, gen, g, x.coreReset_rd (by decide)⟩
    split
    case isTrue h => exact Cell.coreReset_started ((Bool.or_eq_true _ _).mpr h)
    case isFalse h => exact Cell.coreReset_unstarted (Bool.eq_false_of_not_eq_true (mt (Bool.or_eq_true _ _).mp h))

end Sys2Proof.Machine
end

section
/-! What the gate outputs of a module come to as they are driven, and that no pair is ever on (R168, R173, R178). -/

namespace Sys2Proof.Machine

/-! ### Levels -/

/-- Of levels of G0 to G3: neither pair has both on. -/
def PairsApart (g : Nat) : Prop := (bit g 0 && bit g 1) = false ∧ (bit g 2 && bit g 3) = false

/-- The gate outputs of a register table keep the pairs apart. -/
def GatesApart (r : Tab Nat) : Prop := PairsApart (Kc.GEN_OUT.G.get 0 0 r)

theorem Cell.noShootThrough_iff (s : Cell) : s.noShootThrough ↔ GatesApart s.regs := Iff.rfl

/-- Levels within such levels are such levels. -/
theorem PairsApart.mono {v w : Nat} (h : PairsApart v) (within : ∀ j, bit w j = true → bit v j = true) : PairsApart w := by
  have apart {i j : Nat} (off : (bit v i && bit v j) = false) : (bit w i && bit w j) = false := by
    rw [Bool.eq_false_iff] at off ⊢
    intro both
    obtain ⟨hi, hj⟩ := Bool.and_eq_true_iff.mp both
    exact off (by rw [within i hi, within j hj]; rfl)
  exact ⟨apart h.1, apart h.2⟩

/-- A gate comes on where its partner is off. -/
theorem PairsApart.turnOn {g i : Nat} (h : PairsApart g) (off : bit g (partner i) = false) : PairsApart (setBit g i true) := by
  obtain ⟨low, high⟩ := h
  unfold PairsApart
  simp only [bit_setBit_true]
  match i with
  | 0 => exact ⟨by simp [show bit g 1 = false from off], by simpa using high⟩
  | 1 => exact ⟨by simp [show bit g 0 = false from off], by simpa using high⟩
  | 2 => exact ⟨by simpa using low, by simp [show bit g 3 = false from off]⟩
  | 3 => exact ⟨by simpa using low, by simp [show bit g 2 = false from off]⟩
  | _ + 4 => exact ⟨by simpa using low, by simpa using high⟩

/-- No cell state, and no safe levels, have both gates of a pair on (R168, R187). -/
theorem pairsApart_stateLevels (fullBridge : Bool) (st : Nat) : PairsApart (stateLevels fullBridge st) := by
  unfold stateLevels
  split <;> split <;> exact ⟨rfl, rfl⟩

namespace Cell

theorem pairsApart_safeLevels (s : Cell) : PairsApart s.safeLevels := by
  unfold Cell.safeLevels
  split <;> split <;> exact ⟨rfl, rfl⟩

/-- So whatever GEN is to drive keeps the pairs apart. -/
theorem pairsApart_genTarget (s : Cell) : PairsApart s.genTarget := by
  unfold Cell.genTarget
  split
  · exact ⟨rfl, rfl⟩
  split
  · exact s.pairsApart_safeLevels
  · exact pairsApart_stateLevels _ _

/-! ### Driving -/

/-- The outputs at levels `g`, of which the four lowest bits are theirs. -/
theorem rd_setG (s : Cell) (t g : Nat) : (s.setG t g).rd Kc.GEN_OUT.G = g % 2 ^ 4 := rd_wr_same s Kc.GEN_OUT.G g 0

theorem bit_setG (s : Cell) (t g j : Nat) : bit ((s.setG t g).rd Kc.GEN_OUT.G) j = (decide (j < 4) && bit g j) := by
  rw [rd_setG]
  exact Nat.testBit_mod_two_pow g 4 j

theorem bit_gates_of_le (s : Cell) {j : Nat} (h : 4 ≤ j) : bit (s.rd Kc.GEN_OUT.G) j = false :=
  Nat.testBit_lt_two_pow ((s.rd_lt Kc.GEN_OUT.G 0).trans_le (Nat.pow_le_pow_right (by decide) h))

/-- Turning an output off where the target asks for it leaves the others as they are. -/
theorem bit_gateOff (t target : Nat) (s : Cell) (i j : Nat) :
    bit ((Cell.gateOff t target s i).rd Kc.GEN_OUT.G) j = (bit (s.rd Kc.GEN_OUT.G) j && (decide (j ≠ i) || bit target i)) := by
  unfold Cell.gateOff
  split
  case isTrue stays => simp [stays]
  case isFalse goes =>
    dsimp only
    have off : bit target i = false := Bool.eq_false_of_not_eq_true goes
    rw [off, Bool.or_false]
    split
    case isTrue on =>
      show bit ((Cell.setG _ t (setBit (s.rd Kc.GEN_OUT.G) i false)).rd Kc.GEN_OUT.G) j = _
      rw [bit_setG, bit_setBit_false]
      by_cases h : j < 4
      · simp [h, Bool.and_comm]
      · simp [h, s.bit_gates_of_le (Nat.le_of_not_lt h)]
    case isFalse dark =>
      show bit (s.rd Kc.GEN_OUT.G) j = _
      by_cases h : j = i
      · subst h
        simp [Bool.eq_false_of_not_eq_true dark]
      · simp [h]

/-- Once every output has had its turn-off, those that are on are to be on. -/
theorem bit_gatesOff {t target : Nat} {l : List Nat} {s : Cell} {j : Nat} (hj : j ∈ l)
    (on : bit ((l.foldl (Cell.gateOff t target) s).rd Kc.GEN_OUT.G) j = true) : bit target j = true := by
  have stays (l : List Nat) (s : Cell) (on : bit ((l.foldl (Cell.gateOff t target) s).rd Kc.GEN_OUT.G) j = true) :
      bit (s.rd Kc.GEN_OUT.G) j = true := by
    induction l generalizing s with
    | nil => exact on
    | cons i l ih =>
      have before := ih _ on
      rw [bit_gateOff] at before
      exact (Bool.and_eq_true_iff.mp before).1
  induction l generalizing s with
  | nil => exact absurd hj List.not_mem_nil
  | cons i l ih =>
    rcases List.mem_cons.mp hj with rfl | later
    · have turned := stays l _ on
      rw [bit_gateOff] at turned
      simpa using (Bool.and_eq_true_iff.mp turned).2
    · exact ih later on

/-- A turn-on raises its output, which is to be on, or waits for its instant, or changes nothing (R173). -/
theorem gateOn_cases (t target : Nat) (s : Cell) (i : Nat) :
    Cell.gateOn t target s i = s ∨
    (bit target i = true ∧
      ∃ on, Cell.gateOn t target s i = { s.setG t (setBit (s.rd Kc.GEN_OUT.G) i true) with gen := { s.gen with on := on } }) ∨
    ∃ on, Cell.gateOn t target s i = { s with gen := { s.gen with on := on } } := by
  unfold Cell.gateOn
  extract_lets g o due
  split
  case isTrue => exact .inl rfl
  case isFalse wanted =>
    have want : bit target i = true := by simpa using (not_or.mp (mt (Bool.or_eq_true _ _).mpr wanted)).1
    split
    · exact .inr (.inl ⟨want, _, rfl⟩)
    · exact .inr (.inr ⟨_, rfl⟩)

/-- A turn-on raises no output but one that is to be on. -/
theorem bit_gateOn {t target : Nat} {s : Cell} {i j : Nat} (on : bit ((Cell.gateOn t target s i).rd Kc.GEN_OUT.G) j = true) :
    bit (s.rd Kc.GEN_OUT.G) j = true ∨ bit target j = true := by
  rcases gateOn_cases t target s i with same | ⟨want, _, raised⟩ | ⟨_, waits⟩
  · rw [same] at on
    exact .inl on
  · have raised : bit ((s.setG t (setBit (s.rd Kc.GEN_OUT.G) i true)).rd Kc.GEN_OUT.G) j = true := by
      rw [raised] at on
      exact on
    rw [bit_setG, bit_setBit_true] at raised
    rcases Bool.or_eq_true_iff.mp (Bool.and_eq_true_iff.mp raised).2 with same | before
    · exact .inr (of_decide_eq_true same ▸ want)
    · exact .inl before
  · rw [waits] at on
    exact .inl on

/-- Driven outputs are on only where the target is (R173): the turn-offs come first. -/
theorem bit_drive {s : Cell} {t target j : Nat} (on : bit ((s.drive t target).rd Kc.GEN_OUT.G) j = true) : bit target j = true := by
  have off : ∀ j, bit (([0, 1, 2, 3].foldl (Cell.gateOff t target) s).rd Kc.GEN_OUT.G) j = true → bit target j = true := by
    intro j on
    have four : j < 4 := by
      by_contra big
      rw [bit_gates_of_le _ (Nat.le_of_not_lt big)] at on
      exact Bool.false_ne_true on
    exact bit_gatesOff (by simp only [List.mem_cons, List.not_mem_nil, or_false]; omega) on
  refine List.foldlRecOn (motive := fun s => ∀ j, bit (s.rd Kc.GEN_OUT.G) j = true → bit target j = true) [0, 1, 2, 3]
    (Cell.gateOn t target) off (fun s within i _ j on => ?_) j on
  exact (bit_gateOn on).elim (within j) id

/-- Whatever was on before, driven outputs keep their pairs apart. -/
theorem gatesApart_drive (s : Cell) (t : Nat) {target : Nat} (apart : PairsApart target) : GatesApart (s.drive t target).regs :=
  apart.mono fun _ => bit_drive

/-- Outputs driven to 0 are 0. -/
theorem gates_drive_zero (s : Cell) (t : Nat) : (s.drive t 0).rd Kc.GEN_OUT.G = 0 :=
  Nat.zero_of_testBit_eq_false fun j => Bool.eq_false_iff.mpr fun on => absurd (bit_drive on) (by simp [bit])

/-- Driving changes of GEN's own state the last turn-offs and the pending turn-ons alone: a firing stays due as it was. -/
theorem fireDue_drive (s : Cell) (t target : Nat) : (s.drive t target).gen.fireDue = s.gen.fireDue := by
  have off (s : Cell) (i : Nat) : (Cell.gateOff t target s i).gen.fireDue = s.gen.fireDue := by
    unfold Cell.gateOff
    split
    · rfl
    dsimp only
    split <;> rfl
  have on (s : Cell) (i : Nat) : (Cell.gateOn t target s i).gen.fireDue = s.gen.fireDue := by
    rcases gateOn_cases t target s i with same | ⟨-, _, raised⟩ | ⟨_, waits⟩
    · rw [same]
    · rw [raised]
    · rw [waits]
  exact (foldl_keeps (g := fun s => s.gen.fireDue) on _ _).trans (foldl_keeps (g := fun s => s.gen.fireDue) off _ _)

end Cell
end Sys2Proof.Machine
end

section
/-! What of a module's work leaves the gate outputs as they are. -/

namespace Sys2Proof.Machine

/-- The gate outputs stand as they did. -/
@[simp] abbrev Cell.SameGates (t s : Cell) : Prop := Kc.GEN_OUT.G.get 0 0 t.regs = Kc.GEN_OUT.G.get 0 0 s.regs

namespace Cell

theorem gatesApart_of_same {t s : Cell} (same : t.SameGates s) (h : GatesApart s.regs) : GatesApart t.regs := by
  rw [GatesApart, same]
  exact h

/-- A fold leaves them alone where its every step does. -/
theorem sameGates_foldl {α : Type} {f : Cell → α → Cell} (step : ∀ s x, (f s x).SameGates s) (l : List α) (s : Cell) :
    (l.foldl f s).SameGates s :=
  foldl_keeps (g := fun s => Kc.GEN_OUT.G.get 0 0 s.regs) step l s

variable (s : Cell)

theorem sameGates_when (b : Bool) {f : Cell → Cell} (h : (f s).SameGates s) : (s.when b f).SameGates s :=
  when_keeps (g := fun s => Kc.GEN_OUT.G.get 0 0 s.regs) b h

/-! ### Registers, events, outputs -/

@[simp] theorem sameGates_wr {F : Fld} (v i : Nat) (h : Kc.GEN_OUT.G.key 0 0 ≠ F.key i 0) : (s.wr F v i).SameGates s :=
  Fld.get_set_ne _ _ h

@[simp] theorem sameGates_onMeas (f : CellMeas → CellMeas) : (s.onMeas f).SameGates s := rfl

@[simp] theorem sameGates_onPort (p : Port) (f : CellPort → CellPort) : (s.onPort p f).SameGates s := by
  cases p <;> rfl

@[simp] theorem sameGates_event (n : Nat) : (s.event n).SameGates s := s.rd_event n (by decide)

theorem sameGates_count {F G : Fld} (hF : Kc.GEN_OUT.G.key 0 0 ≠ F.key 0 0) (hG : Kc.GEN_OUT.G.key 0 0 ≠ G.key 0 0) :
    (s.count F G).SameGates s := by
  unfold Cell.count Cell.mark
  dsimp only
  split
  · rfl
  split <;> simp [hF, hG]

@[simp] theorem sameGates_syncJ3 : s.syncJ3.SameGates s := by
  unfold Cell.syncJ3
  simp (disch := decide)

@[simp] theorem sameGates_pulse : s.pulse.SameGates s :=
  (sameGates_event _ _).trans (sameGates_count s (by decide) (by decide))

@[simp] theorem sameGates_countVoid (st0 st1 t1 st2 t2 : Nat) : (s.countVoid st0 st1 t1 st2 t2).SameGates s :=
  sameGates_foldl (fun s _ => s.sameGates_count (by decide) (by decide)) _ _

@[simp] theorem sameGates_disarm : s.disarm.SameGates s := by
  unfold Cell.disarm
  simp (disch := decide)

@[simp] theorem sameGates_disOff : s.disOff.SameGates s := by
  unfold Cell.disOff
  simp (disch := decide)

/-! ### Capture -/

@[simp] theorem sameGates_capFire (src : Nat) : (s.capFire src).SameGates s := by
  unfold Cell.capFire
  split <;> simp

@[simp] theorem sameGates_capPlace (src idx t : Nat) : (s.capPlace src idx t).SameGates s := by
  unfold Cell.capPlace
  simp (disch := decide)

@[simp] theorem sameGates_capEnterPost : s.capEnterPost.SameGates s := by
  unfold Cell.capEnterPost
  simp (disch := decide)

@[simp] theorem sameGates_capTrigger (src t : Nat) : (s.capTrigger src t).SameGates s := by
  unfold Cell.capTrigger
  split
  · dsimp only
    split
    · simp
    split
    · split <;> simp
    · rfl
  · rfl

theorem sameGates_capArm (t : Nat) : (s.capArm t).SameGates s := by
  unfold Cell.capArm
  split
  · simp (disch := decide)
  · rfl

@[simp] theorem sameGates_capBoundary : s.capBoundary.SameGates s := by
  unfold Cell.capBoundary Cell.mark
  split
  · rfl
  split
  · rfl
  · simp (disch := decide)

/-! ### Requests -/

theorem sameGates_ack (src : Nat) : (s.ack src).SameGates s := by
  unfold Cell.ack
  refine sameGates_when s _ ?_
  simp (disch := decide)

theorem sameGates_tripClear (act : Nat) : (s.tripClear act).1.SameGates s := by
  unfold Cell.tripClear
  dsimp only
  split
  · simp (disch := decide)
  split <;> simp (disch := decide)

@[simp] theorem sameGates_latchTally (no : Nat) : (s.latchTally no).SameGates s := rfl

theorem sameGates_bcmd (c act : Nat) : (s.bcmd c act).1.SameGates s := by
  unfold Cell.bcmd
  split
  · unfold Cell.bcmdTally
    split <;> rfl
  · exact s.sameGates_capArm _
  · exact s.sameGates_tripClear act
  · rfl
  · exact s.sameGates_ack _
  · rfl

/-! ### The bookkeeping of a tick boundary -/

theorem sameGates_freeTick : s.freeTick.SameGates s := by
  have free : ∀ n, ({ ((s.mark Kc.CTM_STAT.FREE).wr Kc.CTM_STAT.SLEW 0) with freeRun := n } : Cell).SameGates s := by
    intro n
    unfold Cell.mark
    simp (disch := decide)
  unfold Cell.freeTick
  dsimp only
  split
  · rfl
  split
  · split
    · unfold Cell.takeTime Cell.mark
      dsimp only
      split <;> simp (disch := decide)
    · exact free _
  · exact free _

theorem sameGates_ended : s.ended.SameGates s := by
  obtain ⟨rep, torn, run, ended⟩ := s.ended_eq
  rw [ended]
  exact sameGates_freeTick _

theorem sameGates_optStep_fill (p : Port) (t : Nat) : (s.optStep p (fillStep t)).SameGates s := by
  unfold Cell.optStep fillStep
  split
  · rfl
  obtain ⟨regs, lost, leftUp, errs⟩ := hopFill_quiet optFlds (s.optCfg p.idx) p.idx (t / (s.port p).hop.blockTime) (s.port p).hop s.regs
  simp only [regs, lost, leftUp, errs, List.range_zero, List.foldl_nil, Cell.when_false]
  exact (sameGates_when _ _ (sameGates_wr _ _ _ (by decide))).trans (sameGates_onPort _ _ _)

@[simp] theorem sameGates_heartbeat : s.heartbeat.SameGates s :=
  (sameGates_when _ _ (sameGates_event _ _)).trans rfl

@[simp] theorem sameGates_restartStep : s.restartStep.SameGates s := by
  unfold Cell.restartStep
  split <;> rfl

@[simp] theorem sameGates_slicesBoundary : s.slicesBoundary.SameGates s := by
  unfold Cell.slicesBoundary Cell.logConfig
  extract_lets spare t u v w
  have logged : t.SameGates s := by
    unfold t
    split <;> rfl
  have shown : v.SameGates s := by
    refine Eq.trans ?_ logged
    unfold v u
    simp (disch := decide)
  refine Eq.trans ?_ shown
  unfold w
  split
  · simp (disch := decide)
  split
  · simp (disch := decide)
  split <;> simp (disch := decide)

@[simp] theorem sameGates_localBoundary : s.localBoundary.SameGates s := by
  unfold Cell.localBoundary
  dsimp only
  split <;> rfl

@[simp] theorem sameGates_releases : s.releases.SameGates s := by
  unfold Cell.releases
  dsimp only
  split
  · simp (disch := decide)
  · rfl

theorem sameGates_shadowCompare (staged : Option Copy) (t : Nat) : (s.shadowCompare staged t).SameGates s := by
  unfold Cell.shadowCompare
  split
  · split <;> simp
  · rfl

theorem sameGates_tallyBoundary : s.tallyBoundary.SameGates s := by
  have kept : ∀ s : Cell, (match s.tallyAt with
      | some t => if 34 < ticksTo t s.tick then { s with tallyAt := none, tally := [] } else s
      | none => s : Cell).SameGates s := by
    intro s
    split
    · split <;> rfl
    · rfl
  unfold Cell.tallyBoundary
  refine (kept _).trans ?_
  split
  · split <;> rfl
  · rfl

/-! ### Register writes -/

theorem sameGates_writeDt (v : Nat) : (s.writeDt v).1.SameGates s := by
  unfold Cell.writeDt
  extract_lets ok0 ok1 d0 d1
  split
  · rfl
  split <;> simp (disch := decide)

theorem sameGates_srcReturn : s.srcReturn.SameGates s := by
  unfold Cell.srcReturn Cell.localOff
  split
  · simp (disch := decide)
  · rfl

theorem sameGates_writeSrc (v : Nat) : (s.writeSrc v).1.SameGates s := by
  unfold Cell.writeSrc
  dsimp only
  split
  · rfl
  split
  · rfl
  split
  · unfold Cell.localOff
    simp (disch := decide)
  · exact s.sameGates_srcReturn

end Cell
end Sys2Proof.Machine
end

section
/-! No pair of a module's gates is ever on (R168, R173, R175, R178, R181, R185): what GEN drives keeps the pairs apart, and a pending turn-on
waits for its partner. -/

namespace Sys2Proof.Machine

namespace Cell

variable {s : Cell}

/-! ### Registers and outputs -/

theorem gatesApart_wr (F : Fld) (h : GatesApart s.regs) (v : Nat) (other : Kc.GEN_OUT.G.key 0 0 ≠ F.key 0 0) :
    GatesApart (s.wr F v).regs := gatesApart_of_same (s.sameGates_wr v 0 other) h

theorem gatesApart_setG (s : Cell) (t : Nat) {g : Nat} (apart : PairsApart g) : GatesApart (s.setG t g).regs :=
  apart.mono fun j on => (Bool.and_eq_true_iff.mp ((s.bit_setG t g j).symm.trans on)).2

theorem gatesApart_eventWhen (h : GatesApart s.regs) (b : Bool) (n : Nat) : GatesApart (s.when b (fun s => s.event n)).regs :=
  gatesApart_of_same (sameGates_when s b (s.sameGates_event n)) h

/-! ### Commanded changes -/

theorem gatesApart_genEnter (h : GatesApart s.regs) (t st : Nat) : GatesApart (s.genEnter t st).regs := by
  unfold Cell.genEnter
  split
  · exact h
  · exact gatesApart_drive _ _ (pairsApart_genTarget _)

theorem gatesApart_pulse (h : GatesApart s.regs) : GatesApart s.pulse.regs := gatesApart_of_same s.sameGates_pulse h

theorem gatesApart_genEdge (h : GatesApart s.regs) (t st : Nat) : GatesApart (s.genEdge t st).regs := by
  unfold Cell.genEdge
  split
  · exact h
  split
  · exact gatesApart_pulse h
  · exact gatesApart_genEnter h t st

theorem gatesApart_genChange (h : GatesApart s.regs) (t st : Nat) : GatesApart (s.genChange t st).regs := by
  unfold Cell.genChange
  split
  · exact h
  split
  · exact gatesApart_wr Kc.GEN_STAT.STATE h st (by decide)
  split
  · exact h
  dsimp only
  split
  · exact h
  split
  · split
    · exact gatesApart_pulse (by exact h)
    · exact gatesApart_genEdge (by exact h) t st
  · exact gatesApart_genEdge (by exact h) t st

theorem gatesApart_genStretchEnd (h : GatesApart s.regs) : GatesApart s.genStretchEnd.regs := by
  unfold Cell.genStretchEnd
  split
  · dsimp only
    split
    · exact h
    · exact gatesApart_genEdge (by exact h) _ _
  · exact h

/-- A pending turn-on takes effect only while the partner is off. -/
theorem gatesApart_genTurnOn (h : GatesApart s.regs) (i : Nat) : GatesApart (s.genTurnOn i).regs := by
  unfold Cell.genTurnOn
  dsimp only
  split
  · exact h
  split
  · exact h
  case isFalse off => exact gatesApart_setG _ _ (PairsApart.turnOn h (Bool.eq_false_of_not_eq_true off))

theorem gatesApart_genFire (h : GatesApart s.regs) (what : Nat) : GatesApart (s.genFire what).regs := by
  unfold Cell.genFire
  split
  · split
    · exact gatesApart_genChange (by exact h) _ _
    · exact h
  · exact gatesApart_genStretchEnd h
  · exact gatesApart_genTurnOn h _

theorem gatesApart_genTo (h : GatesApart s.regs) (t : Nat) : GatesApart (s.genTo t).regs := by
  have advance : ∀ (n : Nat) (s : Cell), GatesApart s.regs → GatesApart (Cell.genAdvance t n s).regs := by
    intro n
    induction n with
    | zero => exact fun _ h => h
    | succ n ih =>
      intro s h
      unfold Cell.genAdvance
      split
      · split
        · exact ih _ (gatesApart_genFire h _)
        · exact h
      · exact h
  exact advance 16 s h

theorem gatesApart_genPlan (h : GatesApart s.regs) (p : List (Nat × Nat)) : GatesApart (s.genPlan p).regs := by
  unfold Cell.genPlan
  split
  · split
    · exact gatesApart_genChange (by exact h) _ _
    · exact h
  · exact h

/-! ### Forced outputs and trips -/

theorem gatesApart_force (s : Cell) (t : Nat) : GatesApart (s.force t).regs :=
  gatesApart_drive _ _ (pairsApart_genTarget _)

theorem gatesApart_redrive (h : GatesApart s.regs) : GatesApart s.redrive.regs := by
  unfold Cell.redrive
  split
  · exact h
  · exact gatesApart_drive _ _ (pairsApart_genTarget _)

theorem gatesApart_trip (h : GatesApart s.regs) (i t : Nat) : GatesApart (s.trip i t).regs := by
  unfold Cell.trip
  dsimp only
  split
  · exact gatesApart_of_same ((sameGates_capTrigger _ _ _).trans (sameGates_event _ _)) (gatesApart_force _ t)
  · exact gatesApart_wr Kc.GEN_TRIP.ACT h _ (by decide)

theorem gatesApart_tripEnabled (h : GatesApart s.regs) (t : Nat) : GatesApart (s.tripEnabled t).regs := by
  have step (s : Cell) (h : GatesApart s.regs) (i : Nat) :
      GatesApart (if bit (s.rd Kc.GEN_TRIP.ACT) i then s.trip i t else s : Cell).regs := by
    split
    · exact gatesApart_trip h i t
    · exact h
  unfold Cell.tripEnabled
  exact List.foldlRecOn (motive := fun s : Cell => GatesApart s.regs) _ _ h fun s h i _ => step s h i

/-! ### A tick is applied -/

theorem gatesApart_applyPark (h : GatesApart s.regs) : GatesApart s.applyPark.regs :=
  gatesApart_genPlan (gatesApart_of_same ((sameGates_disOff _).trans s.sameGates_disarm) h) _

theorem gatesApart_applyLocal (h : GatesApart s.regs) : GatesApart s.applyLocal.regs :=
  gatesApart_genPlan (gatesApart_of_same (s.sameGates_countVoid _ _ _ _ _) h) _

theorem gatesApart_applyActive (h : GatesApart s.regs) (c : Nat) : GatesApart (s.applyActive c).regs := by
  have released : GatesApart s.disarm.disOff.regs := gatesApart_of_same ((sameGates_disOff _).trans s.sameGates_disarm) h
  unfold Cell.applyActive
  dsimp only
  split
  · exact gatesApart_applyLocal released
  · exact gatesApart_genPlan (gatesApart_of_same (sameGates_countVoid _ _ _ _ _ _) released) _

theorem gatesApart_applyHold (h : GatesApart s.regs) : GatesApart s.applyHold.regs := by
  have disarmed : GatesApart s.disarm.regs := gatesApart_of_same s.sameGates_disarm h
  unfold Cell.applyHold
  dsimp only
  split
  · exact gatesApart_applyLocal disarmed
  · exact gatesApart_genPlan disarmed _

theorem gatesApart_applyBypass (h : GatesApart s.regs) (side : Nat) : GatesApart (s.applyBypass side).regs := by
  unfold Cell.applyBypass
  split
  · split
    · exact h
    dsimp only
    split
    · exact h
    · exact gatesApart_drive _ _ (pairsApart_genTarget _)
  · exact gatesApart_applyPark (gatesApart_wr Kc.GEN_STAT.BADARM h 1 (by decide))

theorem gatesApart_applyDischarge (h : GatesApart s.regs) : GatesApart s.applyDischarge.regs := by
  have disarmed : (s.disarm.mark Kc.GEN_STAT.DISON).SameGates s := (sameGates_wr _ _ 0 (by decide)).trans s.sameGates_disarm
  have driven : GatesApart (s.disarm.mark Kc.GEN_STAT.DISON).syncJ3.regs := gatesApart_of_same ((sameGates_syncJ3 _).trans disarmed) h
  exact gatesApart_genPlan (gatesApart_eventWhen driven _ _) _

theorem gatesApart_applySensor (h : GatesApart s.regs) : GatesApart s.applySensor.regs :=
  gatesApart_eventWhen (gatesApart_applyPark h) _ _

theorem gatesApart_applySensorRole (h : GatesApart s.regs) (mode : Nat) : GatesApart (s.applySensorRole mode).regs :=
  gatesApart_eventWhen (gatesApart_applyPark h) _ _

theorem gatesApart_applyMode (h : GatesApart s.regs) (c : Nat) : GatesApart (s.applyMode c).regs := by
  unfold Cell.applyMode
  split
  · exact h
  split
  · exact gatesApart_applySensorRole h _
  split
  · exact gatesApart_applyPark h
  · exact gatesApart_applyActive h c
  · exact gatesApart_applyHold h
  · exact gatesApart_applyBypass h _
  · exact gatesApart_applyDischarge h
  · exact gatesApart_applySensor h

theorem gatesApart_holdTick (h : GatesApart s.regs) : GatesApart s.holdTick.regs := by
  unfold Cell.holdTick
  extract_lets t u
  have counted : GatesApart t.regs := h
  clear_value t
  have held : GatesApart u.regs := gatesApart_eventWhen counted _ _
  split
  · exact held
  split
  · exact gatesApart_applyPark held
  · exact gatesApart_applyHold held

theorem gatesApart_applyTick (h : GatesApart s.regs) (staged : Option Copy) (act : Nat) : GatesApart (s.applyTick staged act).regs := by
  cases staged with
  | none => exact gatesApart_holdTick h
  | some c =>
    have obeyed := fun o => gatesApart_of_same (({ s with hold := 0, holding := false, obey := o, oport := c.port } : Cell).sameGates_bcmd
      c.slot.toNat act) h
    unfold Cell.applyTick
    dsimp only
    generalize (if cDuty c.slot.toNat = true then 1 else 2) = o
    split
    · split
      · exact obeyed o
      · exact gatesApart_applyPark (obeyed o)
    · exact gatesApart_applyMode (obeyed o) _

/-! ### The tick boundary -/

theorem gatesApart_begun (h : GatesApart s.regs) : GatesApart s.begun.regs := by
  have lines : (((s.fillLines (s.tickUnits * 25 / 2)).portBoundary .w).portBoundary .e).SameGates s :=
    (sameGates_onPort _ _ _).trans ((sameGates_onPort _ _ _).trans
      ((sameGates_optStep_fill _ _ _).trans (s.sameGates_optStep_fill _ _)))
  exact gatesApart_of_same (sameGates_heartbeat _) (gatesApart_genTo (gatesApart_of_same lines h) _)

theorem gatesApart_applied (h : GatesApart s.regs) (act : Nat) : GatesApart (s.applied act).regs := by
  unfold Cell.applied
  have begins : s.restartStep.slicesBoundary.capBoundary.localBoundary.releases.SameGates s := by simp
  generalize s.restartStep.slicesBoundary.capBoundary.localBoundary.releases = z at begins ⊢
  have ready : GatesApart (z.wr Kc.GEN_TRIP.ACT act).regs := gatesApart_wr _ (gatesApart_of_same begins h) act (by decide)
  refine gatesApart_of_same ((sameGates_tallyBoundary _).trans (sameGates_shadowCompare _ _ _)) ?_
  exact gatesApart_redrive (gatesApart_applyTick (gatesApart_tripEnabled (by exact ready) _) _ _)

/-! ### The commands -/

theorem gatesApart_cellTickBoundaryCell (h : GatesApart s.regs) (act : Nat) : GatesApart (cellTickBoundaryCell act s).regs := by
  cases runs : s.runs with
  | false =>
    rw [cellTickBoundaryCell, if_pos (by rw [runs]; rfl)]
    exact h
  | true =>
    rw [cellTickBoundaryCell_eq runs]
    exact gatesApart_applied (gatesApart_begun (gatesApart_of_same s.sameGates_ended h)) act

/-- A command that the module takes or not. -/
theorem gatesApart_when {f : Cell → Cell} (h : GatesApart s.regs) (c : Bool) (taken : GatesApart (f s).regs) :
    GatesApart (s.when c f).regs := when_holds (P := fun s : Cell => GatesApart s.regs) c h fun _ => taken

/-- An obeyed mode other than PARK and SENSOR: in sensor role it parks. -/
theorem gatesApart_obeyed {f : Cell → Cell} (h : GatesApart s.regs) (applied : GatesApart (f s).regs) (mode : Nat) :
    GatesApart (s.when s.obeys (fun s => if s.sensor then s.applySensorRole mode else f s)).regs := by
  refine gatesApart_when h _ ?_
  split
  · exact gatesApart_applySensorRole h mode
  · exact applied

theorem gatesApart_modeParkCell (h : GatesApart s.regs) : GatesApart (modeParkCell s).regs := gatesApart_when h _ (gatesApart_applyPark h)

theorem gatesApart_modeActiveCell (h : GatesApart s.regs) (c : Nat) : GatesApart (modeActiveCell c s).regs :=
  gatesApart_obeyed (f := fun s => s.applyActive c) h (gatesApart_applyActive h c) 1

theorem gatesApart_modeHoldlastCell (h : GatesApart s.regs) : GatesApart (modeHoldlastCell s).regs :=
  gatesApart_obeyed h (gatesApart_applyHold h) 2

theorem gatesApart_modeBypassFireCell (h : GatesApart s.regs) (side : Nat) : GatesApart (modeBypassFireCell side s).regs :=
  gatesApart_obeyed (f := fun s => s.applyBypass side) h (gatesApart_applyBypass h side) 3

theorem gatesApart_modeDischargeCell (h : GatesApart s.regs) : GatesApart (modeDischargeCell s).regs :=
  gatesApart_obeyed h (gatesApart_applyDischarge h) 4

theorem gatesApart_modeSensorCell (h : GatesApart s.regs) : GatesApart (modeSensorCell s).regs :=
  gatesApart_when h _ (gatesApart_applySensor h)

theorem gatesApart_genEdgeCell (h : GatesApart s.regs) : GatesApart (genEdgeCell s).regs := by
  unfold genEdgeCell
  split
  · split
    · exact h
    · exact gatesApart_genFire (gatesApart_genTo h _) 0
  · exact h

theorem gatesApart_gateTurnOnCell (h : GatesApart s.regs) (i : Nat) : GatesApart (gateTurnOnCell i s).regs := by
  unfold gateTurnOnCell
  dsimp only
  split
  · exact h
  · exact gatesApart_genTurnOn (gatesApart_genTo h _) i

theorem gatesApart_stretchEndCell (h : GatesApart s.regs) : GatesApart (stretchEndCell s).regs := by
  unfold stretchEndCell
  split
  · split
    · exact h
    · exact gatesApart_genStretchEnd (gatesApart_genTo h _)
  · exact h

theorem gatesApart_tripInputActiveCell (h : GatesApart s.regs) (i t : Nat) (now : Bool) :
    GatesApart (tripInputActiveCell i t now s).regs := by
  unfold tripInputActiveCell
  split
  · split
    · exact gatesApart_trip h i _
    · exact gatesApart_wr Kc.GEN_TRIP.ACT h _ (by decide)
  · exact h

theorem gatesApart_bypassArmedFireCell (h : GatesApart s.regs) : GatesApart (bypassArmedFireCell s).regs := by
  unfold bypassArmedFireCell
  split
  · exact gatesApart_of_same ((sameGates_event _ _).trans (sameGates_syncJ3 _)) (gatesApart_force _ _)
  · exact h

theorem gatesApart_genFreezeCell (h : GatesApart s.regs) : GatesApart (genFreezeCell s).regs := by
  unfold genFreezeCell
  split
  · exact gatesApart_wr Kc.GEN_STAT.FROZEN h 1 (by decide)
  · exact h

theorem gatesApart_genFreezeReleaseCell (h : GatesApart s.regs) : GatesApart (genFreezeReleaseCell s).regs := by
  unfold genFreezeReleaseCell
  split
  · exact gatesApart_wr Kc.GEN_STAT.FROZEN h 0 (by decide)
  · exact h

theorem gatesApart_holdLimitCell (h : GatesApart s.regs) : GatesApart (holdLimitCell s).regs := by
  unfold holdLimitCell
  split
  · exact gatesApart_applyPark h
  · exact h

theorem gatesApart_positionDropCell (h : GatesApart s.regs) : GatesApart (positionDropCell s).regs := by
  unfold positionDropCell
  split
  · refine gatesApart_of_same (sameGates_event _ _) ?_
    split
    · exact h
    · exact gatesApart_applyPark h
  · exact h

theorem gatesApart_dtWriteCell (h : GatesApart s.regs) (v : Nat) : GatesApart (genMinpDtWriteCell true v s).regs :=
  gatesApart_when h _ (gatesApart_of_same (s.sameGates_writeDt v) h)

theorem gatesApart_genSrcSetCell (h : GatesApart s.regs) : GatesApart (genSrcSetCell s).regs :=
  gatesApart_when h _ (gatesApart_of_same (s.sameGates_writeSrc 1) h)

theorem gatesApart_guardBypFireCell (h : GatesApart s.regs) : GatesApart (guardBypFireCell s).regs := by
  unfold guardBypFireCell
  split
  · have fired : GatesApart (s.mark Kc.GRD_STAT.BYPF).regs := gatesApart_wr _ h 1 (by decide)
    exact gatesApart_eventWhen (gatesApart_of_same (sameGates_syncJ3 _) (by exact fired)) _ _
  · exact h

end Cell

/-- A command on a module that keeps its pairs apart leaves a state in which they are. -/
theorem noShootThrough_of_exec {s t : State} {a : BitVec 13} {j : Instr} {f : Cell → Cell} (onCell : exec j s = .next (s.onCell a f))
    (keeps : GatesApart (f (s.kcAt a)).regs) (goes : exec j s = .next t) : (t.kcAt a).noShootThrough := by
  obtain rfl : s.setCell a (f (s.kcAt a)) = t := by
    rw [onCell] at goes
    cases goes
    rfl
  show ((s.setCell a (f (s.kcAt a))).cell a).noShootThrough
  rw [State.setCell_cell, Cell.noShootThrough_iff]
  exact keeps

/-- Settles O25: each command by the outputs it drives. -/
theorem gatesOfAPairAreNeverOnTogether : Obligations.Gates_of_a_pair_are_never_on_together := by
  intro s t a slot side v i inp n now act apart j hj goes
  have h := (s.kcAt a).noShootThrough_iff.mp apart
  have on {f : Cell → Cell} (onCell : exec j s = .next (s.onCell a f)) (keeps : GatesApart (f (s.kcAt a)).regs) :
      (t.kcAt a).noShootThrough := noShootThrough_of_exec onCell keeps goes
  simp only [List.mem_cons, List.not_mem_nil, or_false] at hj
  rcases hj with rfl | rfl | rfl | rfl | rfl | rfl | rfl | rfl | rfl | rfl | rfl | rfl | rfl | rfl | rfl | rfl | rfl | rfl | rfl
  · exact on (f := modeParkCell) rfl (Cell.gatesApart_modeParkCell h)
  · exact on (f := modeActiveCell _) rfl (Cell.gatesApart_modeActiveCell h _)
  · exact on (f := modeHoldlastCell) rfl (Cell.gatesApart_modeHoldlastCell h)
  · exact on (f := modeBypassFireCell _) rfl (Cell.gatesApart_modeBypassFireCell h _)
  · exact on (f := modeDischargeCell) rfl (Cell.gatesApart_modeDischargeCell h)
  · exact on (f := modeSensorCell) rfl (Cell.gatesApart_modeSensorCell h)
  · exact on (f := genEdgeCell) rfl (Cell.gatesApart_genEdgeCell h)
  · exact on (f := gateTurnOnCell _) rfl (Cell.gatesApart_gateTurnOnCell h _)
  · exact on (f := stretchEndCell) rfl (Cell.gatesApart_stretchEndCell h)
  · exact on (f := tripInputActiveCell _ _ _) rfl (Cell.gatesApart_tripInputActiveCell h _ _ _)
  · exact on (f := bypassArmedFireCell) rfl (Cell.gatesApart_bypassArmedFireCell h)
  · exact on (f := genFreezeCell) rfl (Cell.gatesApart_genFreezeCell h)
  · exact on (f := genFreezeReleaseCell) rfl (Cell.gatesApart_genFreezeReleaseCell h)
  · exact on (f := holdLimitCell) rfl (Cell.gatesApart_holdLimitCell h)
  · exact on (f := positionDropCell) rfl (Cell.gatesApart_positionDropCell h)
  · exact on (f := cellTickBoundaryCell _) rfl (Cell.gatesApart_cellTickBoundaryCell h _)
  · exact on (f := genMinpDtWriteCell true _) rfl (Cell.gatesApart_dtWriteCell h _)
  · exact on (f := genSrcSetCell) rfl (Cell.gatesApart_genSrcSetCell h)
  · exact on (f := guardBypFireCell) rfl (Cell.gatesApart_guardBypFireCell h)

end Sys2Proof.Machine
end

section
/-! What a module's GEN does within a tick: its own happenings, trips, the armed firing, local pairs, dead times, freezes (R168 to R189). -/

namespace Sys2Proof.Machine

namespace Cell

/-! ### GEN's own happenings (R171, R173, R175) -/

theorem genEdgeCell_due {x : Cell} {e : Nat × Nat} {rest : List (Nat × Nat)} (edges : x.gen.edges = e :: rest)
    (moving : x.on Kc.GEN_STAT.FROZEN = false) (caughtUp : x.genTo e.1 = x) :
    genEdgeCell x = ({ x with gen := { x.gen with edges := rest } } : Cell).genChange e.1 e.2 := by
  simp only [genEdgeCell, Cell.genFire, edges, moving, caughtUp, Bool.false_eq_true, if_false]

theorem turnOnRuns_iff (x : Cell) (i : Nat) :
    x.turnOnRuns i = true ↔ x.on Kc.GEN_STAT.FROZEN = false ∨ (x.tripped = true ∧ bit x.genTarget i = true) := by
  simp [Cell.turnOnRuns]

theorem gateTurnOnCell_due {x : Cell} {i : Nat} (pends : Tab.get 0 i x.gen.on ≠ 0) (runs : x.turnOnRuns i = true)
    (caughtUp : x.genTo (Tab.get 0 i x.gen.on - 1) = x) :
    let y : Cell := { x with gen := { x.gen with on := Tab.set 0 i 0 x.gen.on } }
    gateTurnOnCell i x = if bit (x.rd Kc.GEN_OUT.G) (partner i) then y
      else y.setG (Tab.get 0 i x.gen.on - 1) (setBit (x.rd Kc.GEN_OUT.G) i true) := by
  have due : ¬(Tab.get 0 i x.gen.on = 0 ∨ x.turnOnRuns i = false) := by simp [pends, runs]
  simp only [gateTurnOnCell, Cell.genTurnOn, if_neg due, caughtUp]

theorem stretchEndCell_due {x : Cell} {t : Nat} (stretched : x.gen.stretch = some t) (moving : x.on Kc.GEN_STAT.FROZEN = false)
    (resumed : x.gen.resume = false) (caughtUp : x.genTo t = x) :
    stretchEndCell x = ({ x with gen := { x.gen with stretch := none } } : Cell).genEdge t x.gen.want := by
  have runs : ({ x with gen := { x.gen with stretch := none } } : Cell).genStopped = false := Bool.or_eq_false_iff.mpr ⟨moving, resumed⟩
  simp only [stretchEndCell, Cell.genStretchEnd, stretched, moving, caughtUp, runs, Bool.false_eq_true, if_false]

/-! ### Trips (R178, R189) -/

/-- An enabled input that is not latched yet latches, forces the outputs, raises its source and triggers a capture. -/
theorem trip_latches {x : Cell} {i : Nat} (enabled : bit (x.rd Kc.GEN_TRIP.TEN) i = true) (free : bit (x.rd Kc.GEN_TRIP.LAT) i = false) (t : Nat) :
    let y := (x.wr Kc.GEN_TRIP.ACT (setBit (x.rd Kc.GEN_TRIP.ACT) i true)).genTo t
    let z := (y.wr Kc.GEN_TRIP.LAT (setBit (x.rd Kc.GEN_TRIP.LAT) i true)).mark Kc.GEN_STAT.TRIPL
    x.trip i t = ((z.force t).event (if i = 4 then Ev.OVP else Ev.DESAT)).capTrigger 4 t := by
  have ten (v : Nat) : (x.wr Kc.GEN_TRIP.ACT v).rd Kc.GEN_TRIP.TEN = x.rd Kc.GEN_TRIP.TEN := rd_wr_ne x v (by decide)
  have lat (v : Nat) : (x.wr Kc.GEN_TRIP.ACT v).rd Kc.GEN_TRIP.LAT = x.rd Kc.GEN_TRIP.LAT := rd_wr_ne x v (by decide)
  simp only [Cell.trip, ten, lat, enabled, free, Bool.not_false, Bool.and_self, if_true]

/-! ### The armed firing (R181, R185) -/

theorem bypassArmedFireCell_stopped {x : Cell} (stopped : x.on Kc.GEN_STAT.FROZEN = true ∨ x.gen.resume = true) :
    bypassArmedFireCell x = x := by
  have stops : x.genStopped = true := Bool.or_eq_true_iff.mpr stopped
  simp [bypassArmedFireCell, stops]

/-- The module as it fires: BYP shows as fired, and no firing is due any more. -/
def fired (x : Cell) : Cell :=
  let y := (x.mark Kc.GEN_STAT.BYPF).mark Kc.GRD_STAT.BYPF
  { y with gen := { y.gen with fireDue := false } }

theorem bypassArmedFireCell_due {x : Cell} (due : x.gen.fireDue = true) (moving : x.on Kc.GEN_STAT.FROZEN = false)
    (resumed : x.gen.resume = false) : bypassArmedFireCell x = ((x.fired.force (x.gen.bT + 1600)).syncJ3).event Ev.BYP := by
  have runs : x.genStopped = false := Bool.or_eq_false_iff.mpr ⟨moving, resumed⟩
  rw [bypassArmedFireCell, due, runs]
  exact if_pos rfl

/-- Once the bypass has fired no output is to be on. -/
theorem genTarget_bypassed {x : Cell} (bypassed : x.bypassed = true) : x.genTarget = 0 := if_pos (by simp [bypassed])

theorem fired_grd (x : Cell) : x.fired.on Kc.GRD_STAT.BYPF = true := on_mark_same _ 0 (by decide)

theorem fired_gen (x : Cell) : x.fired.on Kc.GEN_STAT.BYPF = true :=
  (on_mark_ne (x.mark Kc.GEN_STAT.BYPF) (G := Kc.GRD_STAT.BYPF) (p := 0) (by decide)).trans (on_mark_same x 0 (by decide))

/-- Forcing drives the outputs to what GEN then is to drive, and leaves a firing due as it was. -/
theorem force_eq (x : Cell) (t : Nat) : ∃ y : Cell, x.force t = y.drive t y.genTarget ∧ y.gen.fireDue = x.gen.fireDue ∧
    y.on Kc.GRD_STAT.BYPF = x.on Kc.GRD_STAT.BYPF := by
  refine ⟨_, rfl, ?_, ?_⟩
  · exact when_keeps (g := fun s => s.gen.fireDue) _ rfl
  · exact when_keeps (g := fun s => s.on Kc.GRD_STAT.BYPF) _ (on_wr_ne _ _ (by decide))

/-- With BYP fired every output is forced off. -/
theorem gates_force_bypassed {x : Cell} (byp : x.on Kc.GRD_STAT.BYPF = true) (t : Nat) : (x.force t).rd Kc.GEN_OUT.G = 0 := by
  obtain ⟨y, forced, -, bypf⟩ := x.force_eq t
  have target : y.genTarget = 0 := genTarget_bypassed (Bool.or_eq_true_iff.mpr (.inl (bypf.trans byp)))
  rw [forced, target]
  exact gates_drive_zero y t

theorem fireDue_force (x : Cell) (t : Nat) : (x.force t).gen.fireDue = x.gen.fireDue := by
  obtain ⟨y, forced, due, -⟩ := x.force_eq t
  rw [forced]
  exact (fireDue_drive y t _).trans due

/-- BYP at J3 follows the guard's output stage (R153, R192). -/
theorem syncJ3_byp (x : Cell) : x.syncJ3.on Kc.GEN_OUT.BYP = x.on Kc.GRD_STAT.BYPF := by
  have read := x.rd_lt Kc.GRD_STAT.BYPF 0
  have shown : x.syncJ3.rd Kc.GEN_OUT.BYP = x.rd Kc.GRD_STAT.BYPF :=
    (rd_wr_ne _ _ (by decide)).trans ((rd_wr_same x Kc.GEN_OUT.BYP _ 0).trans (Nat.mod_eq_of_lt read))
  rw [Cell.on, shown]
  rfl

/-- The firing: BYP shows at the register and at J3, every output is off, and the event pends (R181). -/
theorem bypassArmedFireCell_shows {x : Cell} (due : x.gen.fireDue = true) (moving : x.on Kc.GEN_STAT.FROZEN = false)
    (resumed : x.gen.resume = false) :
    let y := bypassArmedFireCell x
    y.on Kc.GEN_STAT.BYPF = true ∧ y.on Kc.GEN_OUT.BYP = true ∧ y.rd Kc.GEN_OUT.G = 0 ∧ y.gen.fireDue = false ∧
      bit y.pend Ev.BYP = true := by
  rw [bypassArmedFireCell_due due moving resumed]
  generalize x.gen.bT + 1600 = t
  have gen : Unswitched (fun s => s.on Kc.GEN_STAT.BYPF) := unswitched_on (by decide)
  have grd : Unswitched (fun s => s.on Kc.GRD_STAT.BYPF) := unswitched_on (by decide)
  refine ⟨?bypf, ?byp, ?gates, ?due, ?event⟩
  case bypf => exact (gen.event _ _).trans ((gen.syncJ3 _).trans ((gen.force _ _).trans x.fired_gen))
  case byp =>
    refine (on_event _ _ (by decide)).trans ((syncJ3_byp _).trans ?_)
    exact (grd.force _ _).trans x.fired_grd
  case gates =>
    exact (sameGates_event _ _).trans ((sameGates_syncJ3 _).trans (gates_force_bypassed x.fired_grd t))
  case due =>
    rw [event_gen]
    exact fireDue_force x.fired t
  case event =>
    rw [bit_pend_event _ _ (by decide)]
    rfl

/-! ### Dead times and local pairs (R174, R177) -/

/-- MINP is right at 0, or above the dead times in use (R174). -/
theorem minpBad_eq_false (x : Cell) {m d0 d1 : Nat} :
    x.minpBad m d0 d1 = false ↔ m = 0 ∨ (d0 < m ∧ (x.on Kc.GEN_CTRL.TOPO = true → d1 < m)) := by
  by_cases zero : m = 0
  · simp [Cell.minpBad, zero]
  · cases topo : x.on Kc.GEN_CTRL.TOPO <;> simp [Cell.minpBad, zero, topo]

theorem writeMinp_taken {x : Cell} {v : Nat} (new : v % 2 ^ 16 ≠ x.rd Kc.GEN_MINP.MINP) (unlocked : x.rwlOpen = true)
    (fits : v % 2 ^ 16 = 0 ∨
      (x.rd Kc.GEN_DT.DT0 < v % 2 ^ 16 ∧ (x.on Kc.GEN_CTRL.TOPO = true → x.rd Kc.GEN_DT.DT1 < v % 2 ^ 16))) :
    (x.writeMinp v).1 = x.wr Kc.GEN_MINP.MINP (v % 2 ^ 16) := by
  have good := x.minpBad_eq_false.mpr fits
  simp only [Cell.writeMinp, if_neg new, unlocked, good, Bool.not_true, Bool.false_eq_true, or_self, if_false]

theorem writeDt_taken {x : Cell} {v : Nat} (ok0 : Kc.GEN_DT.DT0.ok (bits v 0 14) = true) (ok1 : Kc.GEN_DT.DT1.ok (bits v 16 14) = true)
    (unlocked : x.rwlOpen = true) (off : x.rd Kc.GEN_MINP.MINP = 0)
    (new : bits v 0 14 ≠ x.rd Kc.GEN_DT.DT0 ∨ bits v 16 14 ≠ x.rd Kc.GEN_DT.DT1) :
    (x.writeDt v).1 = (x.wr Kc.GEN_DT.DT0 (bits v 0 14)).wr Kc.GEN_DT.DT1 (bits v 16 14) := by
  have changes : ¬(bits v 0 14 = x.rd Kc.GEN_DT.DT0 ∧ bits v 16 14 = x.rd Kc.GEN_DT.DT1) := not_and_or.mpr new
  have good := x.minpBad_eq_false (d0 := bits v 0 14) (d1 := bits v 16 14) |>.mpr (.inl rfl)
  simp only [Cell.writeDt, ok0, ok1, if_true, if_neg changes, unlocked, off, good, Bool.not_true, Bool.false_eq_true, or_self, if_false]

theorem writeSrc_set {x : Cell} (own : x.on Kc.GEN_CTRL.SRC = false) (unlocked : x.rwlOpen = true) (test : x.hmode = 2) :
    (x.writeSrc 1).1 = (x.wr Kc.GEN_CTRL.SRC 1).localOff := by
  have new : ¬1 % 2 = x.rd Kc.GEN_CTRL.SRC := fun same => absurd own (by simp [Cell.on, ← same])
  simp only [Cell.writeSrc, if_neg new, unlocked, test, Bool.not_true, Bool.false_eq_true, ne_eq, not_true, or_self, if_false]
  rfl

theorem writeLpa_opens {x : Cell} {v : Nat} (unlocked : x.rwlOpen = true) (shut : x.on Kc.GEN_STAT.OPEN = false) (ok0 : bits v 19 3 ≤ 4)
    (ok1 : bits v 16 3 ≤ 4) :
    let y := ((x.wr Kc.GEN_LPA.ST0 (bits v 19 3)).wr Kc.GEN_LPA.ST1 (bits v 16 3)).wr Kc.GEN_LPA.T1 (bits v 0 16)
    (x.writeLpa v).1 = { y.mark Kc.GEN_STAT.OPEN with gen := { x.gen with lpAge := 0 } } := by
  have st0 : Kc.GEN_LPA.ST0.ok (bits v 19 3) = true := decide_eq_true ok0
  have st1 : Kc.GEN_LPA.ST1.ok (bits v 16 3) = true := decide_eq_true ok1
  simp only [Cell.writeLpa, unlocked, shut, st0, st1, Bool.not_true, Bool.false_eq_true, if_false, if_true]
  rfl

theorem writeLpb_closes {x : Cell} {v : Nat} (unlocked : x.rwlOpen = true) (opened : x.on Kc.GEN_STAT.OPEN = true) (ok : bits v 16 3 ≤ 4) :
    let y := ((x.wr Kc.GEN_LPB.ST2 (bits v 16 3)).wr Kc.GEN_LPB.T2 (bits v 0 16)).wr Kc.GEN_STAT.OPEN 0
    (x.writeLpb v).1 = { y with gen := { x.gen with lpAge := 0, lpWait := some (y.rd Kc.GEN_LPA.ST0, y.rd Kc.GEN_LPA.ST1,
      y.rd Kc.GEN_LPA.T1, y.rd Kc.GEN_LPB.ST2, y.rd Kc.GEN_LPB.T2) } } := by
  have st2 : Kc.GEN_LPB.ST2.ok (bits v 16 3) = true := decide_eq_true ok
  simp only [Cell.writeLpb, unlocked, opened, st2, Bool.not_true, Bool.false_eq_true, if_false, if_true]
  rfl

/-- A pair that has been open for 16 boundaries is torn. -/
theorem localPairTornCell_old {x : Cell} (opened : x.on Kc.GEN_STAT.OPEN = true) (old : 16 ≤ x.gen.lpAge) : localPairTornCell x = x.tear :=
  if_pos (by rw [opened, decide_eq_true old]; rfl)

end Cell

/-- Settles O24: each command by its equation for the case at hand, the firing by what it shows. -/
theorem switchingWithinATick : Obligations.Switching_within_a_tick := by
  intro s a i inp t v e rest x w goes due
  have runs (hon : x.mainOn = true) (hheld : x.held = false) : x.runs = true := by simp [Cell.runs, hon, hheld]
  have taken {f : Cell → Cell} {y : Cell} (run : x.runs = true) (does : f x = y) : x.when x.runs f = y := by
    rw [run, Cell.when_true, does]
  refine ⟨fun edges moving up => ?edge, fun pends run up => ?turnOn, fun stretched moving resumed up => ?stretch,
    fun hon hheld enabled free => ?trip, fun hon hheld => ?inactive, fun stopped => ?stopped, fun fires moving resumed => ?fire,
    fun run new unlocked fits => ?minp, fun run ok0 ok1 unlocked off new => ?dt, fun run own unlocked test => ?src,
    fun run unlocked shut ok0 ok1 => ?lpa, fun run unlocked opened ok => ?lpb, fun opened old => ?torn, fun run => ?freeze,
    fun frozen => ?release, fun asked dark => ?halt⟩
  case edge => exact exec_cell rfl (Cell.genEdgeCell_due edges moving up)
  case turnOn => exact exec_cell rfl (Cell.gateTurnOnCell_due pends ((x.turnOnRuns_iff _).mpr run) up)
  case stretch => exact exec_cell rfl (Cell.stretchEndCell_due stretched moving resumed up)
  case trip =>
    have source : (inp.toNat = 4) = (inp = 4) := propext ⟨fun same => BitVec.eq_of_toNat_eq same, fun same => congrArg BitVec.toNat same⟩
    have trips := Cell.trip_latches enabled free (x.gen.bT + t)
    simp only [source] at trips
    exact exec_cell rfl ((if_pos (runs hon hheld)).trans trips)
  case inactive => exact exec_cell rfl (if_pos (runs hon hheld))
  case stopped => exact exec_cell rfl (Cell.bypassArmedFireCell_stopped stopped)
  case fire => exact ⟨_, exec_cell rfl rfl, Cell.bypassArmedFireCell_shows fires moving resumed⟩
  case minp => exact exec_cell rfl (taken run (Cell.writeMinp_taken new unlocked fits))
  case dt => exact exec_cell rfl (taken run (Cell.writeDt_taken ok0 ok1 unlocked off new))
  case src => exact exec_cell rfl (taken run (Cell.writeSrc_set own unlocked test))
  case lpa => exact exec_cell rfl (taken run (Cell.writeLpa_opens unlocked shut ok0 ok1))
  case lpb => exact exec_cell rfl (taken run (Cell.writeLpb_closes unlocked opened ok))
  case torn => exact exec_cell rfl (Cell.localPairTornCell_old opened old)
  case freeze => exact exec_cell rfl (if_pos run)
  case release => exact exec_cell rfl (if_pos frozen)
  case halt => exact exec_cell rfl (if_pos ⟨asked, .inl dark⟩)

end Sys2Proof.Machine
end

section
/-! The sample and freeze instants of a module, its injected conversions, its calibration runs, and its capture unit (R195 to R214). -/

namespace Sys2Proof.Machine

namespace Cell

@[simp] theorem event_meas (s : Cell) (n : Nat) : (s.event n).meas = s.meas := by obtain ⟨w, e, h⟩ := s.event_eq n; rw [h]; rfl

@[simp] theorem count_meas (s : Cell) (F G : Fld) (i : Nat) : (s.count F G i).meas = s.meas := by
  unfold Cell.count Cell.mark
  dsimp only
  split
  · rfl
  split <;> rfl

/-- The tick an instant lies in is told by the module's time base alone. -/
theorem tickAt_congr {s t : Cell} (same : s.SameTime t) (u : Nat) : s.tickAt u = t.tickAt u := by
  obtain ⟨tick, bT, hdr, -⟩ := same
  rw [Cell.tickAt, Cell.tickAt, Cell.tickDist, Cell.tickDist, tick, bT, tickUnits_congr hdr]

/-! ### Whether the main domain runs -/

theorem ite_not_runs_of_stopped {x : Cell} (stopped : x.runs = false) (y : Cell) : (if !x.runs then x else y) = x :=
  if_pos (by rw [stopped]; rfl)

theorem ite_not_runs_of_running {x : Cell} (running : x.runs = true) (y : Cell) : (if !x.runs then x else y) = y :=
  if_neg (by rw [running]; exact Bool.false_ne_true)

theorem when_runs {x : Cell} (running : x.runs = true) (f : Cell → Cell) : x.when x.runs f = f x := by rw [running, when_true]

theorem when_stopped {x : Cell} (stopped : x.runs = false) (f : Cell → Cell) : x.when x.runs f = x := by rw [stopped, when_false]

/-- A command that asks for more than a running module does nothing to one that does not run. -/
theorem ite_runs_and_of_stopped {x : Cell} (stopped : x.runs = false) (b : Bool) (y : Cell) : (if x.runs && b then y else x) = x :=
  if_neg (by rw [stopped]; exact Bool.false_ne_true)

theorem calStart_stopped {x : Cell} (stopped : x.runs = false) : x.calStart = x := if_pos (.inl (by rw [stopped]; rfl))

/-! ### The sample instant (R195, R197, R206) -/

theorem when_ne_zero (s : Cell) (n : Nat) (f : Cell → Cell) : s.when (n != 0) f = if n = 0 then s else f s := by simp [Cell.when]

/-- The module at the sample instant `t` of tick `n`: the sums go over to the interval that closes, the grid and the slots restart, and the
freeze instant is fixed. -/
def restarted (z : Cell) (t n : Nat) : Cell :=
  let m := z.meas
  { z with meas := { m with
    mSum := m.sum, mCnt := m.cnt, sum := 0, cnt := 0, chMSum := m.chSum, chMCnt := m.chCnt, chSum := [], chCnt := []
    sample := sx 16 (z.codeAt z.fastInput t), sT := t, sTick := n
    fT := t + (if m.single = true ∨ m.slices < 2 then 640 else 192), fastT := if m.slices = 0 then 0 else t + z.grid
    slotT := if z.sharedRow then t + z.grid else t, todo := z.ungated, rot := 0, wasRep := false } }

/-- The fast input converts at the sample instant where a slice is usable. -/
theorem cellSampleCell_runs {x : Cell} (running : x.runs = true) (inp : AinRun) (die : BitVec 10) :
    let y := (x.seeInputs inp).convertTo x.sampleAt.1
    let hot := decide (660 < die.toNat) && !decide (660 < y.rd Kc.ADC_DIE.DIE)
    let z := (y.wr Kc.ADC_DIE.DIE die.toNat).when hot (fun z => z.event Ev.TEMP)
    let w := z.restarted x.sampleAt.1 x.sampleAt.2
    cellSampleCell inp die.toNat x =
      (if z.meas.slices = 0 then w else w.fastConv x.sampleAt.1).looked x.sampleAt.1 x.sampleAt.1 := by
  have fits : die.toNat % 1024 = die.toNat := Nat.mod_eq_of_lt die.isLt
  intro y hot z w
  have restarts : cellSampleCell inp die.toNat x =
      (w.when (w.meas.slices != 0) (fun s => s.fastConv x.sampleAt.1)).looked x.sampleAt.1 x.sampleAt.1 := by
    refine (ite_not_runs_of_running running _).trans ?_
    simp only [fits, Bool.or_eq_true, decide_eq_true_eq]
    rfl
  rw [restarts, when_ne_zero]
  rfl

/-! ### The freeze instant (R206, R207) -/

/-- The module at its freeze, with the on-state voltages and the temperature formed of the entries converted since the last one. -/
def refreshed (s : Cell) : Cell :=
  s.onMeas (fun m => { m with
    vceA := if bit s.meas.newConv 0 then s.vce 0 else m.vceA, vceB := if bit s.meas.newConv 1 then s.vce 1 else m.vceB
    temp := if bit s.meas.newConv 2 then s.tempField else m.temp, newConv := 0 })

theorem freeze_meas (s : Cell) : s.freeze.meas =
    { s.refreshed.meas with frozen := s.refreshed.fields, frozenTick := s.meas.sTick + 1, free := s.meas.free + 4 } := by
  unfold Cell.freeze
  extract_lets nc a b t u v n r
  split <;> rfl

theorem fields_no_slice {s : Cell} (unusable : s.meas.slices = 0) : s.fields = 0 := if_pos unusable

theorem fields_module {s : Cell} (usable : s.meas.slices ≠ 0) (role : s.sensor = false) (converted : s.meas.mCnt ≠ 0) :
    s.fields = (((s.vcap s.meas.sample 1 * 2 ^ 16 + s.vcap s.meas.mSum s.meas.mCnt) * 2 ^ 12 + s.meas.vceA) * 2 ^ 12 + s.meas.vceB) * 2 ^ 10 +
      s.meas.temp := by
  simp only [Cell.fields, usable, role, converted, Bool.false_eq_true, if_false]

theorem reportFreezeCell_meas {x : Cell} (running : x.runs = true) (inp : AinRun) :
    let y := (x.seeInputs inp).convertTo (x.meas.fT - 112)
    ∃ t : Cell, reportFreezeCell inp x = t ∧ t.meas.frozen = y.refreshed.fields ∧ t.meas.frozenTick = y.meas.sTick + 1 ∧ t.meas.newConv = 0 ∧
      t.meas.vceA = y.refreshed.meas.vceA ∧ t.meas.vceB = y.refreshed.meas.vceB ∧ t.meas.temp = y.refreshed.meas.temp := by
  intro y
  refine ⟨y.freeze.looked x.meas.fT (x.meas.fT - 112), ite_not_runs_of_running running _, ?_⟩
  have looked : ∃ l a g o, (y.freeze.looked x.meas.fT (x.meas.fT - 112)).meas =
      { y.freeze.meas with lookT := l, ain := a, gOn := g, gLog := o } := ⟨_, _, _, _, rfl⟩
  obtain ⟨l, a, g, o, meas⟩ := looked
  rw [meas, freeze_meas]
  exact ⟨rfl, rfl, rfl, rfl, rfl, rfl⟩

/-! ### Injected conversions (R200, R202) -/

theorem adcInjGoCell_pending {x : Cell} (running : x.runs = true) (pends : x.on Kc.ADC_IRES.PEND = true) (inp t : Nat) :
    adcInjGoCell inp t x = (x.wr Kc.ADC_INJ.INP inp).mark Kc.ADC_IRES.IOVR := (ite_not_runs_of_running running _).trans (if_pos pends)

theorem adcInjGoCell_free {x : Cell} (running : x.runs = true) (free : x.on Kc.ADC_IRES.PEND = false) (inp : BitVec 3) (t : Nat) :
    adcInjGoCell inp.toNat t x = { (x.wr Kc.ADC_INJ.INP inp.toNat).mark Kc.ADC_IRES.PEND with
      meas := { x.meas with inj := some (x.gen.bT + t, inp.toNat), injCode := none } } := by
  have fits : inp.toNat % 8 = inp.toNat := Nat.mod_eq_of_lt inp.isLt
  refine (ite_not_runs_of_running running _).trans ((if_neg (by rw [free]; exact Bool.false_ne_true)).trans ?_)
  rw [fits]
  rfl

/-- A code clips at either end of its range. -/
theorem b2n_clips (code : BitVec 16) : b2n (clips code.toNat) = if code = 0x8000 ∨ code = 0x7FFF then 1 else 0 := by
  have ends : clips code.toNat = true ↔ code = 0x8000 ∨ code = 0x7FFF := by
    simp [clips, ← BitVec.toNat_inj]
  simp only [b2n, ends]

theorem injectedConversionDoneCell_done {x : Cell} {inp : AinRun} {t : Nat} {code : BitVec 16} (running : x.runs = true)
    (pends : x.on Kc.ADC_IRES.PEND = true) :
    let u := x.gen.bT + t
    let y := (x.seeInputs inp).convertTo (u - 111)
    y.meas.injCode = some code → injectedConversionDoneCell inp t x = (y.injected code.toNat).looked u (u - 111) := by
  intro u y converted
  have taken : (x.runs && x.on Kc.ADC_IRES.PEND) = true := by rw [running, pends]; rfl
  refine (if_pos taken).trans ?_
  simp only [u, y, converted]

theorem injected_eq (y : Cell) (code : BitVec 16) :
    let z := ((y.wr Kc.ADC_IRES.PEND 0).wr Kc.ADC_IRES.CODE code.toNat).mark Kc.ADC_IRES.VALID
    let z : Cell := { z.wr Kc.ADC_IRES.CLIP (if code = 0x8000 ∨ code = 0x7FFF then 1 else 0) with meas := { y.meas with injCode := none } }
    y.injected code.toNat = if z.on Kc.ADC_CAL.WAIT then (z.wr Kc.ADC_CAL.WAIT 0).mark Kc.ADC_CAL.BUSY else z := by
  rw [Cell.injected, b2n_clips]
  rfl

/-! ### Calibration runs (R201 to R203) -/

/-- A run starts on the spare, or waits for an injected conversion that pends. -/
theorem calStart_due {x : Cell} (running : x.runs = true) (idle : x.on Kc.ADC_CAL.BUSY = false) (nowait : x.on Kc.ADC_CAL.WAIT = false)
    (spare : x.sharedRow = false) :
    x.calStart = if x.on Kc.ADC_IRES.PEND then x.mark Kc.ADC_CAL.WAIT else x.mark Kc.ADC_CAL.BUSY :=
  if_neg (by simp [running, idle, nowait, spare])

theorem calibrationRunEndCell_busy {x : Cell} (running : x.runs = true) (busy : x.on Kc.ADC_CAL.BUSY = true) (ofs gain : Int) (res : Nat) :
    let z := (x.wr Kc.ADC_CAL.BUSY 0).count Kc.ADC_CAL.RUNS Kc.ADC_CAL.SAT
    calibrationRunEndCell ofs gain res x =
      if ofs.natAbs ≤ 64 ∧ gain.natAbs ≤ 100 ∧ res ≤ 128 then
        { z with meas := { x.meas with
            handover := true, age := Tab.set 0 (x.rd Kc.ADC_CAL.SPARE) (x.meas.clock + 1) x.meas.age, clock := x.meas.clock + 1 } }
      else (z.wr Kc.ADC_CAL.FAIL (setBit (z.rd Kc.ADC_CAL.FAIL) (x.rd Kc.ADC_CAL.SPARE) true)).event Ev.ADCCAL := by
  intro z
  have ends : (x.runs && x.on Kc.ADC_CAL.BUSY) = true := by rw [running, busy]; rfl
  have meas : z.meas = x.meas := count_meas ..
  refine (if_pos ends).trans ?_
  simp only [calPasses, decide_eq_true_eq]
  split
  · rw [Cell.onMeas, meas]
  · rfl

/-! ### Arming and aborting a capture (R211, R215) -/

theorem capArm_taken {x : Cell} (rests : x.capState = capIdle ∨ x.capState = capDone) (ok : x.capOk = true) (t : Nat) :
    x.capArm t = { ((x.wr Kc.CAP_STAT.STATE capArmed).wr Kc.CAP_STAT.PRE 0).wr Kc.CAP_NPOST.NPOST 0 with
      meas := { x.meas with fired := false, acc := 0, accN := 0, capN := 0, trigs := [], armT := t, stop := none } } :=
  if_pos ⟨rests, ok⟩

theorem capAbort_armed {x : Cell} (armed : x.capState = capArmed) (t : Nat) : x.capAbort t =
    { x.wr Kc.CAP_STAT.STATE capIdle with meas := { x.meas with stop := some (t, x.capState, x.meas.trigs) } } := by
  rw [Cell.capAbort, if_pos (.inl armed), Cell.capStop, if_pos armed]
  rfl

theorem capAbort_post {x : Cell} (post : x.capState = capPost) (t : Nat) : x.capAbort t =
    { (x.wr Kc.CAP_STAT.STATE capDone).mark Kc.CAP_STAT.SHORT with
      meas := { x.meas with trigs := [], stop := some (t, x.capState, x.meas.trigs) } } := by
  have fresh : x.capState ≠ capArmed := by rw [post]; decide
  rw [Cell.capAbort, if_pos (.inr post), Cell.capStop, if_neg fresh, if_pos post]
  rfl

/-! ### Firing a capture (R212 to R214) -/

section
variable (s : Cell) (src : Nat)

@[simp] theorem rd_capFire (F : Fld) (i : Nat) : (s.capFire src).rd F i = s.rd F i := by
  unfold Cell.capFire
  split <;> rfl

theorem capFire_fires (enabled : s.on Kc.CAP_CFG.FIRE = true) (own : src ≤ 5) (first : s.meas.fired = false) :
    (s.capFire src).w.fire = true ∧ (s.capFire src).e.fire = true := by
  have fires : (s.on Kc.CAP_CFG.FIRE && decide (src ≤ 5) && !s.meas.fired) = true := by simp [enabled, own, first]
  rw [Cell.capFire, if_pos fires]
  exact ⟨rfl, rfl⟩

/-- Only the cause and the place of the trigger word are entered in the registers. -/
theorem rd_capPlace (idx t : Nat) {F : Fld} {i : Nat}
    (h : F.key i 0 ∉ [Kc.CAP_STAT.CAUSE, Kc.CAP_TTIK.TT, Kc.CAP_TPOS.TOFS, Kc.CAP_TPOS.IDX].map (fun F => F.key 0 0)) :
    (s.capPlace src idx t).rd F i = s.rd F i := by
  simp only [List.map_cons, List.map_nil, List.mem_cons, List.not_mem_nil, or_false, not_or] at h
  obtain ⟨cause, tick, ofs, index⟩ := h
  rw [Cell.capPlace, rd_capFire, rd_wr_ne _ _ index, rd_wr_ne _ _ ofs, rd_wr_ne _ _ tick, rd_wr_ne _ _ cause]

theorem capPlace_cause (idx t : Nat) : (s.capPlace src idx t).rd Kc.CAP_STAT.CAUSE = src % 2 ^ 4 := by
  rw [Cell.capPlace, rd_capFire, rd_wr_ne _ _ (by decide), rd_wr_ne _ _ (by decide), rd_wr_ne _ _ (by decide)]
  exact rd_wr_same ..

theorem capPlace_tick (idx t : Nat) : (s.capPlace src idx t).rd Kc.CAP_TTIK.TT = s.tickAt t % 2 ^ 32 := by
  rw [Cell.capPlace, rd_capFire, rd_wr_ne _ _ (by decide), rd_wr_ne _ _ (by decide)]
  exact (rd_wr_same ..).trans (Nat.mod_mod _ _)

theorem capPlace_index (idx t : Nat) : (s.capPlace src idx t).rd Kc.CAP_TPOS.IDX = idx % 2 ^ 15 := by
  rw [Cell.capPlace, rd_capFire]
  exact rd_wr_same ..

theorem capPlace_fires (idx t : Nat) (enabled : s.on Kc.CAP_CFG.FIRE = true) (own : src ≤ 5) (first : s.meas.fired = false) :
    (s.capPlace src idx t).w.fire = true ∧ (s.capPlace src idx t).e.fire = true := by
  refine capFire_fires _ src ?_ own first
  rw [on_wr_ne _ _ (by decide), on_wr_ne _ _ (by decide), on_wr_ne _ _ (by decide), on_wr_ne _ _ (by decide), enabled]

/-- A capture that enters POST has stored no word after its trigger, and raises its event. -/
theorem capEnterPost_shows : s.capEnterPost.rd Kc.CAP_STAT.STATE = capPost ∧ s.capEnterPost.rd Kc.CAP_NPOST.NPOST = 0 ∧
    bit s.capEnterPost.pend Ev.CAPTRG = true ∧ s.capEnterPost.on Kc.CAP_CFG.FIRE = s.on Kc.CAP_CFG.FIRE ∧ s.capEnterPost.meas = s.meas := by
  refine ⟨?state, ?words, ?event, ?fire, event_meas _ _⟩
  case state =>
    rw [Cell.capEnterPost, rd_event _ _ (by decide), rd_wr_ne _ _ (by decide)]
    exact rd_wr_same ..
  case words =>
    rw [Cell.capEnterPost, rd_event _ _ (by decide)]
    exact rd_wr_same ..
  case event => rw [Cell.capEnterPost, bit_pend_event _ _ (by decide)]; rfl
  case fire => rw [Cell.capEnterPost, on_event _ _ (by decide), on_wr_ne _ _ (by decide), on_wr_ne _ _ (by decide)]

end

theorem capTrigger_armed {x : Cell} {src : Nat} (armed : x.capState = capArmed) (ok : x.capOk = true)
    (enabled : src = 0 ∨ bit (x.rd Kc.CAP_CFG.SRC) src = true) (t : Nat) :
    x.capTrigger src t = (x.capEnterPost.capPlace src ((x.meas.wp + x.capAhead t) % 32768)
      (x.capNext.1 + x.capAhead t * x.capNext.2)).onMeas (fun m => { m with trigs := [(src, t)] }) := by
  rw [Cell.capTrigger, if_pos ⟨ok, enabled⟩]
  exact if_pos armed

/-- A source that fires in ARMED: what the registers, the measurement and the ports then show. -/
theorem capTrigger_shows {x : Cell} {src : Nat} (armed : x.capState = capArmed) (ok : x.capOk = true) (small : src < 8)
    (enabled : src = 0 ∨ bit (x.rd Kc.CAP_CFG.SRC) src = true) (v : Nat) :
    let t := x.capTrigger src v
    t.rd Kc.CAP_STAT.STATE = capPost ∧ t.rd Kc.CAP_STAT.CAUSE = src ∧ t.rd Kc.CAP_NPOST.NPOST = 0 ∧
      t.rd Kc.CAP_TTIK.TT = x.tickAt (x.capNext.1 + x.capAhead v * x.capNext.2) % 2 ^ 32 ∧
      t.rd Kc.CAP_TPOS.IDX = (x.meas.wp + x.capAhead v) % 32768 ∧ bit t.pend Ev.CAPTRG = true ∧ t.meas.trigs = [(src, v)] ∧
      (x.on Kc.CAP_CFG.FIRE = true → src ≤ 5 → x.meas.fired = false → t.w.fire = true ∧ t.e.fire = true) := by
  obtain ⟨state, words, event, fire, meas⟩ := x.capEnterPost_shows
  rw [capTrigger_armed armed ok enabled]
  generalize x.capNext.1 + x.capAhead v * x.capNext.2 = u
  refine ⟨(rd_capPlace _ _ _ _ (by decide)).trans state, (capPlace_cause ..).trans (Nat.mod_eq_of_lt (by omega)),
    (rd_capPlace _ _ _ _ (by decide)).trans words, ?tick, ?index, ?event, rfl, fun on own first => ?fires⟩
  case tick => exact (capPlace_tick ..).trans (congrArg (· % 2 ^ 32) (tickAt_congr (sameTime_capEnterPost x) u))
  case index => exact (capPlace_index ..).trans (Nat.mod_mod _ _)
  case event => exact (congrArg (bit · Ev.CAPTRG) (rd_capPlace _ _ _ _ (by decide))).trans event
  case fires => exact capPlace_fires _ _ _ _ (fire.trans on) own (meas ▸ first)

theorem capPostCompleteCell_full {x : Cell} (running : x.runs = true) (post : x.capState = capPost) (placed : x.meas.trigs = [])
    (full : x.rd Kc.CAP_NPOST.NPOST = x.rd Kc.CAP_CFG.POST) : capPostCompleteCell x = x.wr Kc.CAP_STAT.STATE capDone :=
  if_pos ⟨running, post, placed, full⟩

end Cell

/-- Settles O26: each command by its equation, and the freeze and the firing by what they show. -/
theorem measuringAndCaptureAtAModule : Obligations.Measuring_and_capture_at_a_module := by
  intro s a s0 offs codes inp die ch src t code res ofs gain tofs x goes st
  refine ⟨fun stopped i hi => ?stopped, fun running => ⟨?sample, ?freeze, fun pends => ?refused, fun free => ?requested, fun pends converted => ?done,
    fun idle nowait spare => ⟨?go, fun timed => ?start⟩, fun busy => ?runEnd, fun rests ok => ?arm, fun armed => ?abortArmed, fun post => ?abortPost,
    fun armed ok => ⟨?trig, fun other enabled => ?trigger⟩, fun post placed full => ?complete⟩⟩
  case stopped =>
    have halts (y : Cell) : (if !x.runs then x else y) = x := Cell.ite_not_runs_of_stopped stopped y
    have waits (b : Bool) (y : Cell) : (if x.runs && b then y else x) = x := Cell.ite_runs_and_of_stopped stopped b y
    simp only [List.mem_cons, List.not_mem_nil, or_false] at hi
    rcases hi with rfl | rfl | rfl | rfl | rfl | rfl | rfl | rfl | rfl | rfl | rfl | rfl
    · exact exec_cell rfl (halts _)
    · exact exec_cell rfl (halts _)
    · exact exec_cell rfl (halts _)
    · exact exec_cell rfl (waits _ _)
    · exact exec_cell rfl (Cell.calStart_stopped stopped)
    · exact exec_cell rfl ((congrArg (ite _ x) (Cell.calStart_stopped stopped)).trans (ite_self x))
    · exact exec_cell rfl (waits _ _)
    · exact exec_cell rfl (Cell.when_stopped stopped _)
    · exact exec_cell rfl (Cell.when_stopped stopped _)
    · exact exec_cell rfl (Cell.when_stopped stopped _)
    · exact exec_cell rfl (waits _ _)
    · exact exec_cell rfl (if_neg fun taken => Bool.false_ne_true (stopped.symm.trans taken.1))
  case sample => exact exec_cell rfl (Cell.cellSampleCell_runs running _ die)
  case freeze =>
    obtain ⟨t, frozen, fields, tick, conv, vceA, vceB, temp⟩ := Cell.reportFreezeCell_meas running (offs.zip codes)
    refine ⟨t, exec_cell rfl frozen, tick, conv, vceA, vceB, temp, fun unusable => fields.trans (Cell.fields_no_slice unusable), ?_⟩
    intro usable role converted
    rw [fields, vceA, vceB, temp]
    exact Cell.fields_module usable role converted
  case refused => exact exec_cell rfl (Cell.adcInjGoCell_pending running pends _ t)
  case requested => exact exec_cell rfl (Cell.adcInjGoCell_free running free ch t)
  case done =>
    refine exec_cell rfl ((Cell.injectedConversionDoneCell_done running pends converted).trans ?_)
    exact congrArg (fun z : Cell => z.looked (x.gen.bT + t) (x.gen.bT + t - 111)) (Cell.injected_eq _ code)
  case go => exact exec_cell rfl (Cell.calStart_due running idle nowait spare)
  case start => exact exec_cell rfl ((if_neg timed).trans (Cell.calStart_due running idle nowait spare))
  case runEnd => exact exec_cell rfl (Cell.calibrationRunEndCell_busy running busy ofs gain res.toNat)
  case arm => exact exec_cell rfl ((Cell.when_runs running _).trans (Cell.capArm_taken rests ok _))
  case abortArmed => exact exec_cell rfl ((Cell.when_runs running _).trans (Cell.capAbort_armed armed _))
  case abortPost => exact exec_cell rfl ((Cell.when_runs running _).trans (Cell.capAbort_post post _))
  case trig => exact ⟨_, exec_cell rfl (Cell.when_runs running _), Cell.capTrigger_shows armed ok (by decide) (.inl rfl) _⟩
  case trigger =>
    have taken : (x.runs && decide (1 ≤ src.toNat ∧ src.toNat ≤ 7)) = true := by
      rw [running, Bool.true_and]
      exact decide_eq_true ⟨Nat.pos_of_ne_zero other, by omega⟩
    exact ⟨_, exec_cell rfl (congrArg (x.when · _) taken), Cell.capTrigger_shows armed ok src.isLt (.inr enabled) _⟩
  case complete => exact exec_cell rfl (Cell.capPostCompleteCell_full running post placed full)

end Sys2Proof.Machine
end

section
/-! What a store into a chip's memories leaves alone: beside the bytes there are the log of an uncorrectable word, its report, and the
repair (R468, R469, R481). -/

namespace Sys2Proof.Machine

/-- The register fields that the log of an uncorrectable word writes (R481). -/
def uncFlds : List Fld := [Kv.MEM_STAT.UNCF, Kv.MEM_ELOG1.UADDR]

/-- A relation of a chip to one that it came from, which every update of the fault collector keeps, and the log and the repair of a word with it. -/
structure Unstored (R : Kv → Kv → Prop) : Prop extends Untouched R where
  logged : ∀ (s : Kv) (F : Fld) (v : Nat), F ∈ uncFlds → R (s.wr F v) s
  repair : ∀ (s : Kv) (a m : Nat), R (s.setErrs a m) s

namespace Unstored

variable {R : Kv → Kv → Prop} (u : Unstored R) (s : Kv)
include u

theorem foldl {α : Type} (l : List α) {f : Kv → α → Kv} (h : ∀ s x, R (f s x) s) : R (l.foldl f s) s := by
  induction l generalizing s with
  | nil => exact u.same s
  | cons x l ih => exact u.tr (ih (f s x)) (h s x)

theorem wrLe (a v n : Nat) : R (s.wrLe a v n) s := by
  induction n generalizing s a v with
  | zero => exact u.same s
  | succ n ih => exact u.tr (ih _ _ _) (u.byte s a _)

theorem wrBe (a v n : Nat) : R (s.wrBe a v n) s := by
  induction n generalizing s a with
  | zero => exact u.same s
  | succ n ih => exact u.tr (ih _ _) (u.byte s a _)

theorem logUnc (a : Nat) : R (s.logUnc a) s := by
  unfold Kv.logUnc
  split
  · exact u.tr (u.logged _ _ 1 (by simp [uncFlds])) (u.when s _ _ (u.logged s _ _ (by simp [uncFlds])))
  · exact u.same s

theorem unread (a kind : Nat) : R ((s.logUnc a).raiseUnc a kind) s := u.tr (u.raise _ _ _ _) (u.logUnc s a)

theorem reportUnc (l : List Nat) : R (s.reportUnc l) s := u.each s l _ fun s w => u.unread s w 0

theorem unlessBad (l : List Nat) {f : Kv → Kv} (h : R (f s) s) : R (s.unlessBad l f) s := by
  unfold Kv.unlessBad
  split
  · exact h
  · exact u.reportUnc s l

theorem storeWord (w n : Nat) {f : Kv → Kv} (h : R (f s) s) : R (s.storeWord w n f) s := by
  unfold Kv.storeWord
  split
  · exact u.unread s w 16
  · exact u.tr (u.repair _ _ _) h

theorem storeLe (a v n : Nat) : R (s.storeLe a v n) s := u.foldl s _ fun s _ => u.storeWord s _ _ (u.wrLe s _ _ _)

theorem storeBe (a v n : Nat) : R (s.storeBe a v n) s := u.foldl s _ fun s _ => u.storeWord s _ _ (u.wrBe s _ _ _)

theorem overrideCells (k t : Nat) : R (s.overrideCells k t) s := by
  refine u.foldl s _ fun s a => ?_
  dsimp only
  split
  · refine u.tr (u.ovr _ _) ?_
    unfold Kv.overrideCell
    split
    · exact u.storeBe s _ _ _
    · exact u.same s
  · exact u.same s

end Unstored

end Sys2Proof.Machine
end

section
/-! A placement: what ALLOCATOR_PLACE and ALLOCATOR_DEADLINE come to in each case (R225, R226, R242, R243, R420). -/

namespace Sys2Proof.Machine

/-- No store and no fault touches the latest point that has been judged. -/
theorem t0Judged_unstored : Unstored (fun t s => t.dsp.t0Judged = s.dsp.t0Judged) where
  toUntouched := untouched_of (·.dsp.t0Judged) (fun _ _ _ _ _ _ => rfl) (fun _ _ _ => rfl) (fun _ _ => rfl) (fun _ _ _ => rfl)
    (fun _ _ => rfl) (fun _ _ => rfl) (fun _ _ => rfl) (fun _ _ => rfl) (fun _ _ => rfl) (fun _ => rfl) (fun _ _ => rfl) (fun _ => rfl)
    (fun _ => rfl)
  logged _ _ _ _ := rfl
  repair _ _ _ := rfl

theorem t0Judged_overrideCells (s : Kv) (k t : Nat) : (s.overrideCells k t).dsp.t0Judged = s.dsp.t0Judged := t0Judged_unstored.overrideCells s k t

namespace Kv

/-- An unreadable reference record of arm `a` for target `t` is reported (R468). -/
def refReported (s : Kv) (a t : Nat) : Kv :=
  match s.refBad a t with
  | some b => (s.logUnc b).raiseUnc b 0
  | none => s

/-- Arm `a` is done with target `t`, and digests and endorsement go out when it was the last (R378, R381, R382). -/
def armFinal (s : Kv) (a t : Nat) : Kv := ((s.armDone a t).sendDigests t).endorse t

/-- Every slot of arm `a` for target `t` goes out void (R242). -/
def armVoided (s : Kv) (a t : Nat) : Kv := s.each (s.armCells a) fun s x => s.voidCommand x t

end Kv

section
variable {k : Kv} {a n t : Nat} (target : tickPlus n k.lead = t)
include target

theorem allocatorPlaceKv_rests (rests : k.closedFor n = false ∨ tickDone (k.arm a).done t = true) : allocatorPlaceKv a n k = k := by
  subst target
  exact if_pos (by simpa using rests)

theorem allocatorDeadlineKv_done (done : tickDone (k.arm a).done t = true) : allocatorDeadlineKv a n k = k := by
  subst target
  exact if_pos done

theorem allocatorDeadlineKv_late (late : tickDone (k.arm a).done t = false) : (allocatorDeadlineKv a n k).endorse t =
    (((k.mark Kv.ALk_STAT.LATE a).raise Src.AL_LATE 0 a).armVoided a t).armFinal a t := by
  subst target
  simp only [allocatorDeadlineKv, late, Bool.false_eq_true, if_false, Kv.armVoided, Kv.armFinal]

variable (closed : k.closedFor n = true) (due : tickDone (k.arm a).done t = false)
include closed due

theorem allocatorPlaceKv_drains (disabled : (k.overrideCells a t).on Kv.ALk_CFG.EN a = false) : (allocatorPlaceKv a n k).endorse t =
    ((((k.overrideCells a t).wr Kv.ALk_STAT.XTRP 0 a).onArm a (fun x => { x with last := none })).placeArm a n t none).armFinal a t := by
  subst target
  have goes : (!k.closedFor n || tickDone (k.arm a).done (tickPlus n k.lead)) ≠ true := by simp [closed, due]
  have off : (!(k.overrideCells a (tickPlus n k.lead)).on Kv.ALk_CFG.EN a) = true := by simp [disabled]
  exact congrArg (Kv.endorse · (tickPlus n k.lead)) ((if_neg goes).trans (if_pos off))

variable (enabled : (k.overrideCells a t).on Kv.ALk_CFG.EN a = true)
include enabled

theorem allocatorPlaceKv_follows {r : Ref} (published : k.ref a t = some r) : (allocatorPlaceKv a n k).endorse t =
    (((((k.overrideCells a t).wr Kv.ALk_STAT.XCNT 0 a).wr Kv.ALk_STAT.XTRP 0 a).onArm a
      (fun x => { x with last := some r })).placeArm a n t (some r)).armFinal a t := by
  subst target
  simp only [allocatorPlaceKv, closed, due, enabled, published, Bool.not_true, Bool.or_self, Bool.false_eq_true, if_false, Kv.armFinal]

variable (missing : k.ref a t = none)
include missing

theorem allocatorPlaceKv_waits (early : tickDone k.dsp.t0Judged n = false) : allocatorPlaceKv a n k = k := by
  subst target
  simp only [allocatorPlaceKv, closed, due, enabled, missing, t0Judged_overrideCells, early, Bool.not_true, Bool.not_false, Bool.or_self,
    Bool.false_eq_true, if_false, if_true]

variable (judged : tickDone k.dsp.t0Judged n = true)
include judged

theorem allocatorPlaceKv_extrapolates {r : Ref} (last : (k.arm a).last = some r)
    (few : ((k.overrideCells a t).refReported a t).rd Kv.ALk_STAT.XCNT a < 2) : (allocatorPlaceKv a n k).endorse t =
    let z := (k.overrideCells a t).refReported a t
    let y := ((z.wr Kv.ALk_STAT.XCNT (z.rd Kv.ALk_STAT.XCNT a + 1) a).mark Kv.ALk_STAT.XTRP a).raise Src.AL_XTRP 0 a
    ((y.onArm a (fun x => { x with last := some (r.extrapolate t) })).placeArm a n t (some (r.extrapolate t))).armFinal a t := by
  subst target
  have another {c : Nat} (few : c < 2) : min 3 (c + 1) = c + 1 ∧ c + 1 < 3 := by omega
  unfold Kv.refReported at few ⊢
  cases bad : (k.overrideCells a (tickPlus n k.lead)).refBad a (tickPlus n k.lead) <;> simp only [bad] at few ⊢ <;>
    simp only [allocatorPlaceKv, closed, due, enabled, missing, t0Judged_overrideCells, judged, last, bad, another few, Bool.not_true,
      Bool.or_self, Bool.false_eq_true, if_false, if_true, Kv.armFinal]

theorem allocatorPlaceKv_givesUp (spent : (k.arm a).last = none ∨ 2 ≤ ((k.overrideCells a t).refReported a t).rd Kv.ALk_STAT.XCNT a) :
    (allocatorPlaceKv a n k).endorse t =
      ((((k.overrideCells a t).refReported a t).wr Kv.ALk_STAT.XCNT 3 a).armVoided a t).armFinal a t := by
  subst target
  have full {c : Nat} (many : 2 ≤ c) : min 3 (c + 1) = 3 := by omega
  unfold Kv.refReported at spent ⊢
  cases last : (k.arm a).last with
  | none =>
    cases bad : (k.overrideCells a (tickPlus n k.lead)).refBad a (tickPlus n k.lead) <;>
      simp only [allocatorPlaceKv, closed, due, enabled, missing, t0Judged_overrideCells, judged, last, bad, Bool.not_true, Bool.or_self,
        Bool.false_eq_true, if_false, Kv.armVoided, Kv.armFinal]
  | some r =>
    have many := spent.resolve_left (by simp [last])
    cases bad : (k.overrideCells a (tickPlus n k.lead)).refBad a (tickPlus n k.lead) <;> simp only [bad] at many ⊢ <;>
      simp only [allocatorPlaceKv, closed, due, enabled, missing, t0Judged_overrideCells, judged, last, bad, full many, Nat.lt_irrefl,
        Bool.not_true, Bool.or_self, Bool.false_eq_true, if_false, Kv.armVoided, Kv.armFinal]

end

end Sys2Proof.Machine
end

section
/-! The pass of the cell vector unit: where it stands, and what the work on the cells of a string leaves of that (R245 to R250, R254, R468). -/

namespace Sys2Proof.Machine

/-- No field of the fault collector is the number of modules of a string. -/
theorem raiseFlds_ne_nmod {G : Fld} (h : G ∈ raiseFlds) {n : Nat} (hn : n < 32) (i j : Nat) : Kv.SPn_GEOM.NMOD.key n 0 ≠ G.key i j := by
  have apart : ∀ G ∈ raiseFlds, G.lo < 32 ∧ (G.lo ≠ 16 ∨ 0x12000 ≤ G.base) := by decide
  have apart := apart G h
  simp only [Fld.key, Fld.addr, Kv.SPn_GEOM.NMOD]
  omega

namespace Kv

/-- Where the pass stands: the ticks passed, the next string, whether it has begun; and the strings that it takes. -/
def passing (s : Kv) : Nat × Nat × Bool × List Nat := (s.al.passed, s.al.passStr, s.al.passRun, s.strings)

/-- The strings show only the numbers of their modules. -/
theorem strings_congr {s t : Kv} (h : ∀ n, n < 32 → t.rd SPn_GEOM.NMOD n = s.rd SPn_GEOM.NMOD n) : t.strings = s.strings :=
  List.filter_congr fun n hn => by rw [mapped, mapped, h n (List.mem_range.mp hn)]

variable (s : Kv)

theorem passing_wr {F : Fld} {i j : Nat} (v : Nat) (h : ∀ n, n < 32 → SPn_GEOM.NMOD.key n 0 ≠ F.key i j) :
    (s.wr F v i j).passing = s.passing := by
  rw [passing, strings_congr fun n hn => s.rd_wr_ne v (h n hn)]
  rfl

/-- No store and no fault moves the pass. -/
theorem passing_unstored : Unstored (fun t s => t.passing = s.passing) where
  toUntouched := untouched_of passing (fun s _ v _ _ hF => s.passing_wr v fun _ hn => raiseFlds_ne_nmod hF hn _ _) (fun _ _ _ => rfl)
    (fun _ _ => rfl) (fun _ _ _ => rfl) (fun _ _ => rfl) (fun _ _ => rfl) (fun _ _ => rfl) (fun _ _ => rfl) (fun _ _ => rfl) (fun _ => rfl)
    (fun _ _ => rfl) (fun _ => rfl) (fun _ => rfl)
  logged s F v hF := s.passing_wr v fun n _ => by
    have away : ∀ F ∈ uncFlds, F.key 0 0 < 0x10000 * 32 := by decide
    have away := away F hF
    simp only [Fld.key, Fld.addr, SPn_GEOM.NMOD] at away ⊢
    omega
  repair _ _ _ := rfl

theorem passing_storeBe (a v n : Nat) : (s.storeBe a v n).passing = s.passing := passing_unstored.storeBe s a v n

theorem passing_fix (w fr : Nat) (r : Rat) : (s.fix w fr r).2.passing = s.passing := by
  unfold fix
  dsimp only
  split
  · rfl
  split <;> rfl

theorem passing_armCurrent (k n : Nat) : (s.armCurrent k n).2.passing = s.passing := by
  unfold armCurrent
  dsimp only
  split
  · rfl
  split <;> rfl

theorem passing_countCycle (a j b : Nat) : (s.countCycle a j b).passing = s.passing := by
  unfold countCycle
  extract_lets
  split
  · exact (passing_unstored.raise ..).trans ((passing_storeBe ..).trans ((passing_storeBe ..).trans (passing_storeBe ..)))
  · exact (passing_storeBe ..).trans (passing_storeBe ..)

theorem passing_cycles (a j : Nat) (tj : Int) : (s.cycles a j tj).passing = s.passing := by
  unfold cycles
  extract_lets o peak valley dir hys close
  have closed : (close s).passing = s.passing := by
    dsimp only [close]
    split
    · exact passing_countCycle ..
    · rfl
  have turned (d e f g : Nat) : (((close s).storeBe d e 2).storeBe f g 2).passing = s.passing :=
    (passing_storeBe ..).trans ((passing_storeBe ..).trans closed)
  split
  · split
    · exact turned ..
    split
    · exact passing_storeBe ..
    · rfl
  · split
    · exact turned ..
    split
    · exact passing_storeBe ..
    · rfl

/-- A free value drawn under a condition leaves it alone. -/
theorem passing_drawn (c : Prop) [Decidable c] : (if c then { s with free := s.free + 1 } else s).passing = s.passing := by split <;> rfl

theorem passing_observe (p : CellPass) (j : Nat) (ths : Rat) : (s.observe p j ths).passing = s.passing := by
  simp only [observe, passing_cycles, passing_storeBe, passing_fix, passing_drawn]

theorem passing_startObserver (a sw temp : Nat) : (s.startObserver a sw temp).passing = s.passing :=
  (passing_storeBe ..).trans (each_keeps passing (fun _ _ => (passing_storeBe ..).trans ((passing_storeBe ..).trans (passing_storeBe ..))) s _)

theorem passing_holdWeight (a n sw : Nat) : (s.holdWeight a n sw).passing = s.passing := by
  simp only [holdWeight, passing_storeBe]

theorem passing_weightOver (a n : Nat) : (s.weightOver a n).passing = s.passing := passing_storeBe ..

/-- So does a temperature kept for a cell. -/
theorem passing_warmed (a temp : Nat) : ({ s with al := { s.al with temp := Tab.set 0 a temp s.al.temp } } : Kv).passing = s.passing := rfl

theorem passing_cvuCell (n a : Nat) (cur : Nat → Int) : (s.cvuCell n a cur).passing = s.passing := by
  have reported (l : List Nat) : (s.reportUnc l).passing = s.passing := passing_unstored.reportUnc s l
  have observed (s : Kv) (l : List Nat) (p : CellPass) (ths : Rat) : (s.each l fun s j => s.observe p j ths).passing = s.passing :=
    each_keeps passing (fun s j => passing_observe s p j ths) s l
  cases warm : (s.reportUnc (s.badWords (bankAddr a n) 32 ++ s.ownUnc a)).cellTemp a n with
  | none => simp only [cvuCell, warm, apply_ite passing, passing_weightOver, reported, ite_self]
  | some temp => simp only [cvuCell, warm, apply_ite passing, passing_weightOver, passing_holdWeight, passing_startObserver, observed,
      passing_warmed, reported, ite_self]

theorem passing_tallyBins (no : Nat) : (s.tallyBins no).passing = s.passing :=
  passing_unstored.foldl s _ fun s _ => each_keeps passing (fun s _ => passing_unstored.unlessBad s _ (passing_unstored.storeLe s ..)) s _

/-! ### A string's turn -/

/-- The currents of the arms `l` after tick `n`, latest arm first, with the chip that has read them (R245). -/
def armCurrents (s : Kv) (l : List Nat) (n : Nat) : List (Nat × Int) × Kv :=
  l.foldl (fun q k => ((k, (q.2.armCurrent k n).1) :: q.1, (q.2.armCurrent k n).2)) ([], s)

/-- The pass over the power cells of string `str` after tick `n` (R245, R249). -/
def stringPassed (s : Kv) (str n : Nat) : Kv :=
  let cells := s.powerCells str
  let r := s.armCurrents ((List.range 12).filter (fun k => cells.any (fun a => ctlArm (s.ctl0 a) == k))) n
  cells.foldl (fun s a => s.cvuCell n a (fun k => match r.1.find? (fun e => e.1 == k) with | some e => e.2 | none => 0)) r.2

theorem passing_armCurrents (l : List Nat) (n : Nat) : (s.armCurrents l n).2.passing = s.passing := by
  have kept (q : List (Nat × Int) × Kv) :
      (l.foldl (fun q k => ((k, (q.2.armCurrent k n).1) :: q.1, (q.2.armCurrent k n).2)) q).2.passing = q.2.passing := by
    induction l generalizing q with
    | nil => rfl
    | cons k l ih => exact (ih _).trans (passing_armCurrent q.2 k n)
  exact kept ([], s)

theorem passing_stringPassed (str n : Nat) : (s.stringPassed str n).passing = s.passing :=
  (passing_unstored.foldl _ _ fun t a => passing_cvuCell t n a _).trans (passing_armCurrents ..)

theorem stringPassed_unpowered {str : Nat} (h : s.powerCells str = []) (n : Nat) : s.stringPassed str n = s := by
  simp [stringPassed, h, armCurrents]

/-- The chip takes up a string of the pass over tick `n` (R249). -/
def passTaken (s : Kv) (n : Nat) : Kv :=
  { s with al := { s.al with passed := if n = 0 ∧ s.al.passed = 0 then 0 else tickPrev n + 1, passRun := true } }

/-- The pass goes on to the string after `str`, or ends with it (R249). -/
def passOn (s : Kv) (str n : Nat) : Kv :=
  if s.strings.any (fun x => decide (str < x)) then { s with al := { s.al with passStr := str + 1 } } else s.passEnd n

theorem passEnd_al (n : Nat) : (s.passEnd n).al.passed = tickMark s.al.passed n ∧ (s.passEnd n).al.passStr = 0 ∧
    (s.passEnd n).al.passRun = true := by
  refine ⟨?_, rfl, rfl⟩
  unfold passEnd
  split
  · split
    · exact congrArg (tickMark · n) (congrArg Prod.fst (passing_tallyBins ..))
    · rfl
  · rfl

theorem passOn_shows (begun : s.al.passRun = true) (str n : Nat) : (s.passOn str n).al.passRun = true ∧
    (s.passOn str n).al.passed = (if s.strings.any (fun x => decide (str < x)) then s.al.passed else tickMark s.al.passed n) ∧
    (s.passOn str n).al.passStr = (if s.strings.any (fun x => decide (str < x)) then str + 1 else 0) := by
  obtain ⟨passed, passStr, passRun⟩ := s.passEnd_al n
  unfold passOn
  split
  · exact ⟨begun, rfl, rfl⟩
  · exact ⟨passRun, passed, passStr⟩

end Kv

/-- The tick before `n` has been passed, and `n` has not. -/
theorem tickMark_next {n m : Nat} (hn : n < 2 ^ 48) : tickMark (if n = 0 ∧ m = 0 then 0 else tickPrev n + 1) n = n + 1 := by
  have fresh : tickDone (if n = 0 ∧ m = 0 then 0 else tickPrev n + 1) n = false := by
    split
    · rfl
    · simp only [tickDone, ticksTo, tickPrev, Nat.add_sub_cancel, Bool.and_eq_false_imp, decide_eq_false_iff_not]
      intro _
      omega
  rw [tickMark, fresh, if_neg Bool.false_ne_true, Nat.mod_eq_of_lt hn]

section
variable {k : Kv} {n : Nat} (enabled : k.on Kv.CVU_CTRL.EN = true) (due : k.passAt n = true)
include enabled due

theorem cvuPassDeadlineKv_taken (taken : ∀ x ∈ k.strings, x < k.al.passStr) :
    cvuPassDeadlineKv n k = ((k.mark Kv.CVU_STAT.LATE).raise Src.CVU_LATE 0 n).passEnd n := by
  have none_left : k.strings.filter (fun x => decide (k.al.passStr ≤ x)) = [] :=
    List.filter_eq_nil_iff.mpr fun x hx => by simpa using taken x hx
  simp [cvuPassDeadlineKv, enabled, due, none_left]

theorem cvuStringPassKv_next {str : Nat} (come : k.reportsIn str n = true)
    (next : k.strings.find? (fun x => decide (k.al.passStr ≤ x)) = some str) :
    cvuStringPassKv str n k = ((k.passTaken n).stringPassed str n).passOn str n := by
  have goes : (!k.on Kv.CVU_CTRL.EN || k.strings.find? (fun x => decide (k.al.passStr ≤ x)) != some str || !k.passAt n || !k.reportsIn str n) ≠
      true := by simp [enabled, due, come, next]
  have ends (w : Kv) : (if (w.strings.filter (fun x => decide (str < x))).isEmpty then w.passEnd n
      else { w with al := { w.al with passStr := str + 1 } }) = w.passOn str n := by
    cases more : w.strings.any (fun x => decide (str < x)) <;> simp_all [Kv.passOn]
  exact (if_neg goes).trans (ends _)

end

/-! ### The edges of the cycle bins -/

/-- Edge `b` of the cycle bins (R248, R254). -/
def Kv.bine (k : Kv) (b : Nat) : Nat :=
  if b < 4 then bits (k.rd Kv.CVU_BINE0.E) (8 * b) 8 else bits (k.rd Kv.CVU_BINE1.E) (8 * (b - 4)) 8

theorem bits_byte (v b : Nat) : bits v (8 * b) 8 = v / 256 ^ b % 256 := by
  rw [bits, Nat.pow_mul]
  rfl

/-- The register of edges that CVU_BINE_WRITE names. -/
def bineFld (m : BitVec 1) : Fld := if m = 0 then Kv.CVU_BINE0.E else Kv.CVU_BINE1.E

/-- The check of a write is that each of the seven upper edges lies above the one before it. -/
theorem bine_rises (t : Kv) :
    ((((List.range 8).map t.bine).zip (((List.range 8).map t.bine).drop 1)).all fun q => decide (q.1 < q.2)) = true ↔
      ∀ b, b < 7 → t.bine b < t.bine (b + 1) := by
  simp only [← List.mem_range (n := 7)]
  simp [List.range_succ, -List.mem_range]

theorem cvuBineWriteKv_eq (k : Kv) (m : BitVec 1) (v : Nat) : cvuBineWriteKv m.toNat v k =
    let t := k.wr (bineFld m) v
    if (((List.range 8).map t.bine).zip (((List.range 8).map t.bine).drop 1)).all (fun q => decide (q.1 < q.2)) then t
    else k.raise Src.REGACC 18 (bineFld m).base := by
  obtain rfl | rfl := BitVec.eq_zero_or_eq_one m <;> rfl

theorem cvuBineWriteKv_taken {k : Kv} {m : BitVec 1} {v : Nat}
    (rises : ∀ b, b < 7 → (k.wr (bineFld m) v).bine b < (k.wr (bineFld m) v).bine (b + 1)) :
    cvuBineWriteKv m.toNat v k = k.wr (bineFld m) v :=
  (cvuBineWriteKv_eq k m v).trans (if_pos ((bine_rises _).mpr rises))

theorem cvuBineWriteKv_refused {k : Kv} {m : BitVec 1} {v : Nat}
    (stuck : ∃ b, b < 7 ∧ (k.wr (bineFld m) v).bine (b + 1) ≤ (k.wr (bineFld m) v).bine b) :
    cvuBineWriteKv m.toNat v k = k.raise Src.REGACC 18 (bineFld m).base := by
  obtain ⟨b, hb, falls⟩ := stuck
  exact (cvuBineWriteKv_eq k m v).trans (if_neg fun ok => Nat.not_lt.mpr falls ((bine_rises _).mp ok b hb))

/-- The edges after a write of `v` to the first or the second register. -/
theorem bine_wr (k : Kv) (m : BitVec 1) (v : Word) (b : Nat) : (k.wr (bineFld m) v.toNat).bine b =
    if m = 0 then (if b < 4 then v.toNat / 256 ^ b % 256 else k.rd Kv.CVU_BINE1.E / 256 ^ (b - 4) % 256)
    else (if b < 4 then k.rd Kv.CVU_BINE0.E / 256 ^ b % 256 else v.toNat / 256 ^ (b - 4) % 256) := by
  have kept : v.toNat % 2 ^ 32 = v.toNat := Nat.mod_eq_of_lt v.isLt
  have apart : Kv.CVU_BINE0.E.key 0 0 ≠ Kv.CVU_BINE1.E.key 0 0 := by decide
  simp only [Kv.bine, bits_byte]
  by_cases hm : m = 0
  · rw [bineFld, if_pos hm, if_pos hm, Kv.rd_wr_same, Kv.rd_wr_ne _ _ apart.symm]
    exact congrArg (fun w => if b < 4 then w / 256 ^ b % 256 else _) kept
  · rw [bineFld, if_neg hm, if_neg hm, Kv.rd_wr_same, Kv.rd_wr_ne _ _ apart]
    exact congrArg (fun w => if b < 4 then _ else w / 256 ^ (b - 4) % 256) kept

/-- Settles O27: each case of a placement and of the unit's commands by its equation. -/
theorem allocationAndCellVectorUnit : Obligations.Allocation_and_cell_vector_unit := by
  intro s c a n m v live k t o last z goes fin drop
  refine ⟨fun rests => ?rests, fun done => ?done, fun closed due => ⟨fun disabled => ?drains, fun enabled =>
    ⟨fun r published => ?follows, fun missing early => ?waits, fun r missing judged used few => ?extrapolates,
      fun missing judged spent => ?givesUp⟩⟩,
    fun late => ?late, exec_live live rfl rfl, exec_live live rfl rfl, fun enabled due taken => ?passDeadline,
    fun str enabled due come next => ?pass, ?bine⟩
  case rests => exact exec_live live rfl (congrArg (Kv.endorse · t) (allocatorPlaceKv_rests rfl rests))
  case done => exact exec_live live rfl (congrArg (Kv.endorse · t) (allocatorDeadlineKv_done rfl done))
  case drains => exact exec_live live rfl (allocatorPlaceKv_drains rfl closed due disabled)
  case follows => exact exec_live live rfl (allocatorPlaceKv_follows rfl closed due enabled published)
  case waits => exact exec_live live rfl (congrArg (Kv.endorse · t) (allocatorPlaceKv_waits rfl closed due enabled missing early))
  case extrapolates => exact exec_live live rfl (allocatorPlaceKv_extrapolates rfl closed due enabled missing judged used few)
  case givesUp => exact exec_live live rfl (allocatorPlaceKv_givesUp rfl closed due enabled missing judged spent)
  case late => exact exec_live live rfl (allocatorDeadlineKv_late rfl late)
  case passDeadline => exact exec_live live rfl (cvuPassDeadlineKv_taken enabled due taken)
  case pass =>
    intro first y more
    have start : first = if n.toNat = 0 ∧ k.al.passed = 0 then 0 else tickPrev n.toNat + 1 := if_congr (and_congr_left' BitVec.toNat_eq) rfl rfl
    have taken : k.passTaken n.toNat = y := by simp only [Kv.passTaken, y, start]
    have turn := cvuStringPassKv_next enabled due come next
    rw [taken] at turn
    refine ⟨fun unpowered => exec_live live rfl (turn.trans ?_), _, exec_live live rfl turn, ?_⟩
    · rw [Kv.stringPassed_unpowered y unpowered]
      rfl
    · obtain ⟨passed, -, begun, strings⟩ : _ ∧ _ ∧ _ ∧ _ := by
        simpa only [Kv.passing, Prod.mk.injEq] using y.passing_stringPassed str.toNat n.toNat
      have marked : tickMark first n.toNat = n.toNat + 1 := start ▸ tickMark_next n.isLt
      have shows := Kv.passOn_shows _ begun str.toNat n.toNat
      rw [passed, strings, show y.al.passed = first from rfl, marked] at shows
      exact shows
  case bine =>
    intro edge f
    have shows (b : Nat) : (k.wr (bineFld m) v.toNat).bine b = edge b := bine_wr k m v b
    refine ⟨fun rises => exec_live live rfl (cvuBineWriteKv_taken fun b hb => ?_), fun ⟨b, hb, falls⟩ =>
      exec_live live rfl (cvuBineWriteKv_refused ⟨b, hb, ?_⟩)⟩
    · rw [shows, shows]
      exact rises b hb
    · rw [shows, shows]
      exact falls

end Sys2Proof.Machine
end

section
/-! PUB: a block of the state image, a reference in time, a reference too late (R223, R322). -/

namespace Sys2Proof.Machine

/-! ### What an entry in the staging leaves of the cores -/

/-- What the step of a core after an instruction depends on: whether instructions are traced, and the cores (R552, R556). -/
def Kv.issuing (s : Kv) : Bool × Tab CoreSt := (s.on Kv.DBG_TRC.EN, s.dsp.cores)

theorem issuing_wr (s : Kv) {F : Fld} (v : Nat) {i j : Nat} (h : Kv.DBG_TRC.EN.key 0 0 ≠ F.key i j) : (s.wr F v i j).issuing = s.issuing :=
  congrArg (·, s.dsp.cores) (s.on_wr_ne v h)

/-- No store and no fault touches a core or the trace. -/
theorem issuing_unstored : Unstored (fun t s => t.issuing = s.issuing) where
  toUntouched := untouched_of Kv.issuing
    (fun s F v i j hF => issuing_wr s v (Nat.ne_of_lt (Nat.lt_of_lt_of_le (by decide) (raiseFlds_above F hF i j)))) (fun _ _ _ => rfl)
    (fun _ _ => rfl) (fun _ _ _ => rfl) (fun _ _ => rfl) (fun _ _ => rfl) (fun _ _ => rfl) (fun _ _ => rfl) (fun _ _ => rfl) (fun _ => rfl)
    (fun _ _ => rfl) (fun _ => rfl) (fun _ => rfl)
  logged s F v hF := by
    have apart : ∀ F ∈ uncFlds, Kv.DBG_TRC.EN.key 0 0 ≠ F.key 0 0 := by decide
    exact issuing_wr s v (apart F hF)
  repair _ _ _ := rfl

theorem issuing_putRef (s : Kv) (k t : Nat) (w : Nat → Nat) : (s.putRef k t w).issuing = s.issuing :=
  issuing_unstored.each s _ _ fun s _ => issuing_unstored.storeBe s _ _ _

/-- After an instruction of a core that may issue, nothing is traced and no core waits to be stepped. -/
theorem runSteps_of_ready {k t : Kv} {n : Nat} {y : Ctx} (h : k.ready n) (same : t.issuing = (k.withCtx n y).issuing) :
    (t.traceWord n).runSteps = t := by
  obtain ⟨-, -, -, -, -, -, still, untraced⟩ := h
  obtain ⟨trace, cores⟩ : _ ∧ _ := Prod.mk.injEq .. ▸ same
  rw [traceWord_off (trace.trans untraced), runSteps_none fun i => ?_]
  rw [Kv.core, cores]
  exact stepOk_withCtx n y still i

/-! ### What PUB comes to -/

/-- The 32 bytes `d` are kept for state image block `b` (R322). -/
def Kv.blockKept (s : Kv) (b d : Nat) : Kv := { s with dsp := { s.dsp with pubs := Tab.set 0 b d s.dsp.pubs } }

theorem issuing_blockKept (s : Kv) (b d : Nat) : (s.blockKept b d).issuing = s.issuing := rfl

section
variable {k : Kv} {n : Nat} {x : Ctx} {ra rb : Gpr} {a v : Nat} (addr : (x.reg ra).toNat = a) (value : (x.reg rb).toNat = v)
  (aligned : a % 32 = 0) (inside : inOwnData a 32 = true) (readable : k.dataBad n a 32 = none)
include addr value aligned inside readable

theorem opPub_block (low : 0x1000 ≤ v) (high : v < 0x2000) (held : v < 0x1000 + k.rd Kv.IMG_CFG.NBLK) :
    k.opPub n x (.pub ra rb) ra rb = .go x (x.after (.pub ra rb)) (fun s =>
      (s.blockKept (v - 0x1000) (ofLe (k.bytesAt (sysDmem n + (a - 0x100000)) 32))).traceWord n) := by
  have top : bits v 16 16 = 0 := by simp only [bits]; omega
  have kind : bits v 12 4 = 1 := by simp only [bits]; omega
  have blk : bits v 0 12 = v - 0x1000 := by simp only [bits]; omega
  have taken : ¬ k.rd Kv.IMG_CFG.NBLK ≤ v - 0x1000 := by omega
  simp [Kv.opPub, Kv.blockKept, addr, value, aligned, inside, readable, top, kind, blk, taken]

theorem opPub_reference (small : v < 12) (used : k.usedArms.contains v = true) (busy : x.busy = true) (t0 : x.item.extractLsb' 24 8 = 0) :
    k.opPub n x (.pub ra rb) ra rb =
      let late := k.refLate v (k.targetOf (k.refAt n a 0))
      .go { x with c := late } (x.after (.pub ra rb)) (fun s =>
        (if late then s else s.putRef v (k.targetOf (k.refAt n a 0)) (s.refAt n a)).traceWord n) := by
  have top : bits v 16 16 = 0 := by simp only [bits]; omega
  have kind : bits v 12 4 = 0 := by simp only [bits]; omega
  have mid : bits v 4 8 = 0 := by simp only [bits]; omega
  have arm : bits v 0 4 = v := by simp only [bits]; omega
  have real : ¬ 12 ≤ v := by omega
  have used : v ∈ k.usedArms := List.contains_iff_mem.mp used
  simp [Kv.opPub, addr, value, aligned, inside, readable, top, kind, mid, arm, real, used, busy, t0]

end

theorem after_pub (x : Ctx) (ra rb : Gpr) : x.after (.pub ra rb) = x.pc.zeroExtend 32 + 4 := rfl

/-- A PUB that goes on, and whose entry leaves trace and cores as they are, leaves its entry. -/
theorem opKv_pub {k : Kv} {n : Nat} {ra rb : Gpr} {y : Ctx} {f : Kv → Kv} (ready : k.ready n)
    (did : k.opPub n (k.running n) (.pub ra rb) ra rb = .go y ((k.running n).after (.pub ra rb)) (fun s => (f s).traceWord n))
    (same : ∀ s, (f s).issuing = s.issuing) :
    opKv n (.pub ra rb) k = f (k.withCtx n { y with pc := (k.running n).pc + 4 }) := by
  rw [after_pub] at did
  exact (kv_op_next ready ((opDo_pub ra rb).trans did)).trans (runSteps_of_ready ready (same _))

theorem dataBad_none {k : Kv} {n a : Nat} (h : ∀ i, i < 4 → k.bad (sysDmem n + (a - 0x100000) + 8 * i) = false) : k.dataBad n a 32 = none := by
  have found : (List.range (32 / 8)).find? (fun i => k.bad (sysDmem n + (a - 0x100000) + 8 * i)) = none :=
    List.find?_eq_none.mpr fun i hi => by simp [h i (List.mem_range.mp hi)]
  rw [Kv.dataBad, found]
  rfl

/-- A context that moves on leaves the record in data SRAM as it was. -/
theorem refAt_withCtx (k : Kv) (n : Nat) (y : Ctx) (m a : Nat) : (k.withCtx n y).refAt m a = k.refAt m a :=
  funext fun _ => Kv.rdLe_congr _ _ _ _ fun _ _ => rfl

/-- Settles O44: a PUB by what it comes to, after which no core waits to be stepped. -/
theorem publishing : Obligations.Publishing := by
  intro s c n ra rb live ready k x a v at_ aligned low high clean
  have inside : inOwnData a 32 = true := decide_eq_true ⟨low, high⟩
  have readable : k.dataBad n.toNat a 32 = none := dataBad_none clean
  refine ⟨fun above held below => ?block, fun small used busy t0 => ?reference⟩
  case block =>
    have did := opPub_block (x := x) (a := a) (v := v) rfl rfl aligned inside readable above below held
    exact exec_live live rfl (opKv_pub ready did fun _ => issuing_blockKept ..)
  case reference =>
    intro t late moved
    have did := opPub_reference (x := x) (a := a) (v := v) rfl rfl aligned inside readable small used busy t0
    have went := opKv_pub ready did fun s => by
      split
      · rfl
      · exact issuing_putRef ..
    rw [refAt_withCtx] at went
    exact exec_live live rfl went

end Sys2Proof.Machine
end

section
/-! A loop that executes may change live state beyond its own dimension: its output copy may report an uncorrectable word, the report may fire an
acquisition unit, and the unit marks its fire row wherever its buffer lies (R257, R437, R444, R469). -/

namespace Sys2Proof.Machine

/-- The loop that waits at engine 0: loop 0 for tick 0, from bank 0. -/
def waitingLoop : SfeJob := { tick := 0, loop := 0, bank := 0, since := 0 }

/-- Engine 0 is to run `waitingLoop` of one state, x = 100, with A = +1.0 as R260 writes it. -/
def loopChip : Kv :=
  let k := State.reset.kvAt .a
  let k := (k.wrLe (sfeDescAt 0 0 0) (2 ^ 31) 4).wrLe (sfeDescAt 0 0 0 + 4) (2 ^ 26) 4
  let k := ((k.wrLe (sfeCoefAt 0 0 0) 0x40000000 4).wrLe (sfeCoefAt 0 0 0 + 4) 1 4).wrLe (sfeLiveAt 0 0 0) 100 4
  { k with col := { closed := 1 }, sfe := [(0, { queue := [waitingLoop] })] }

/-- Acquisition unit 0 is armed to fire on SRAM_UNC, with a row of tick 0 at the start of its buffer, which begins at the live state of loop 0:
the place of a buffer is checked only as its unit is enabled (R439), and BASE may be written again before it is armed (R456). -/
def Kv.withStrayBuffer (k : Kv) : Kv :=
  let k := (k.wr Kv.ACQn_BASE.BASE (sfeLiveAt 0 0 0 / 4096)).wr Kv.ACQn_STAT.STATE 1
  let k := (k.wr Kv.ACQn_CFG.FSRC 8).wr Kv.ACQn_CFG.FEVT Src.SRAM_UNC
  k.setAcq 0 { AcqUnit.reset with rows := [{ slot := 0, tick := 0, gap := false, vals := [] }] }

/-- The chip set whose chip A has that loop and that buffer, and two symbols in error in the output copy that the loop will write. -/
def strayMark : State := { State.reset with a := (loopChip.setErrs (sfeCopyAt 0 0 1) 3).withStrayBuffer }

/-- The engine chooses the loop, which is good and readable and has neither inputs nor outputs, count, injection or trace. -/
theorem strayMark_mayExecute :
    let k := strayMark.kvAt .a
    let d := k.desc 0 0 0
    k.sfeNext 0 = some waitingLoop ∧ d.ok = true ∧ k.sfeUnc 0 waitingLoop d false = none ∧
      (d.np = 0 ∧ d.nm = 0 ∧ d.nz = 0 ∧ d.cen = false) ∧ k.injActs 0 0 0 = false ∧ tickDone k.dsp.t0Judged 0 = false ∧
      k.sfeStartsBank 0 waitingLoop = false ∧ k.on Kv.SFEn_TRC.EN 0 = false := by
  decide +kernel

/-- The loop has one state, whose row does not saturate: 1.0 × 100. -/
theorem strayMark_row :
    let k := strayMark.kvAt .a
    let d := k.desc 0 0 0
    d.ns = 1 ∧ ∀ r, r < d.ns →
      let sum := (List.range d.ns).foldl (fun a i => a + k.coef 0 0 (d.ab + r * d.ns + i) * sx 32 (k.rdLe (sfeLiveAt 0 0 i) 4)) 0
      satS 32 (divNear sum (2 ^ 55)) = divNear sum (2 ^ 55) := by
  decide +kernel

/-- Element 1 lies beyond the loop's only state. It reads 0, and after the execution it holds the mark of the fire row, bit 30 of the row's word 1. -/
theorem strayMark_element :
    (strayMark.kvAt .a).rdLe (sfeLiveAt 0 0 1) 4 = 0 ∧
      (sfeLoopExecuteKv 0 0 0 (strayMark.kvAt .a)).rdLe (sfeLiveAt 0 0 1) 4 = 2 ^ 30 := by
  decide +kernel

/-- Refutes O28: the live state above the loop's dimension need not stay. On `strayMark` the store of the output tag meets an uncorrectable word,
SRAM_UNC fires the armed unit, and the mark of its fire row lands in element 1 of a loop with one state. -/
theorem not_stateFeedbackCommands : ¬ Obligations.State_feedback_commands := by
  intro claim
  obtain ⟨execute, -⟩ := claim strayMark .a 0 0 0 0 0 0 rfl
  obtain ⟨chosen, ok, readable, ⟨np, nm, nz, cen⟩, still, early, stays, untraced⟩ := strayMark_mayExecute
  obtain ⟨ns, rowFits⟩ := strayMark_row
  obtain ⟨before, after⟩ := strayMark_element
  obtain ⟨t, goes, -, kept, -⟩ := execute waitingLoop chosen rfl rfl ok readable np nm nz cen still early stays untraced rowFits
  have did : exec (.sfeLoopExecute .a 0 0 0) strayMark = .next (strayMark.setChip .a (sfeLoopExecuteKv 0 0 0 (strayMark.kvAt .a))) :=
    exec_live rfl rfl rfl
  have same : sfeLoopExecuteKv 0 0 0 (strayMark.kvAt .a) = t := congrArg (·.chip .a) (Host.Outcome.next.inj (did.symm.trans goes))
  have stayed : t.rdLe (sfeLiveAt 0 0 1) 4 = (strayMark.kvAt .a).rdLe (sfeLiveAt 0 0 1) 4 := kept 1 ns.le (by decide)
  rw [← same, after, before] at stayed
  exact absurd stayed (by decide)

end Sys2Proof.Machine
end

section
/-! The integer instructions and their immediate forms (R296 to R299), on every core that may issue: what each comes to within its context. -/

namespace Sys2Proof.Machine

/-! ### An instruction that touches only its context completes -/

theorem CoreRef.has_of_inTisC (r : CoreRef) {op : Op} (h : op.inTisC = true) : r.has op = true := by
  cases r with
  | kv => rfl
  | cell => exact h

section
variable {s : State} {r : CoreRef} {op : Op} {y : Ctx} {next : Word} (ready : s.coreReady r) (inContext : op.local? = true)
  (known : r.has op = true)
include ready inContext known

theorem next_jumps (code : next.toNat < 0x10000 ∧ next.toNat % 4 = 0) (did : op.pure (s.ctxAt r) = some (.go y next)) :
    (.next (s.onCore r op) : Result) = .next (s.withCtx r (y.jumped next)) :=
  congrArg _ (core_op_local ready inContext known did code)

theorem next_short (did : op.pure (s.ctxAt r) = some (.go y ((s.ctxAt r).pc.zeroExtend 32 + 4))) :
    (.next (s.onCore r op) : Result) = .next (s.withCtx r { y with pc := (s.ctxAt r).pc + 4 }) :=
  congrArg _ (core_op_next 4 (.inl rfl) ready inContext known did)

theorem next_long (did : op.pure (s.ctxAt r) = some (.go y ((s.ctxAt r).pc.zeroExtend 32 + 8))) :
    (.next (s.onCore r op) : Result) = .next (s.withCtx r { y with pc := (s.ctxAt r).pc + 8 }) :=
  congrArg _ (core_op_next 8 (.inr rfl) ready inContext known did)

end

/-! ### Integer instructions (R296 to R299) -/

/-- Every function but CMP, which has a reserved field, writes its result to `rd`. -/
theorem pure_alu (x : Ctx) (fn : AluFn) (rd ra rb : Gpr) (f : Bool) (h : fn ≠ .cmp) :
    (Op.alu fn rd ra rb f).pure x =
      let o := aluOut fn (x.reg ra) (x.reg rb)
      let y := x.setReg rd o.res
      some (.go { (if f then y.setFlags o else y) with q := x.q || o.q } (x.pc.zeroExtend 32 + 4)) := by
  cases fn with
  | cmp => exact absurd rfl h
  | _ => rfl

theorem next_alu {s : State} {r : CoreRef} (ready : s.coreReady r) (rd ra rb : Gpr) (f : Bool) (fn : AluFn) (h : fn ≠ .cmp)
    {v : Word} {c o q : Bool} (out : aluOut fn ((s.ctxAt r).reg ra) ((s.ctxAt r).reg rb) = ⟨v, c, o, q⟩) :
    (.next (s.onCore r (.alu fn rd ra rb f)) : Result) = .next (s.withCtx r ((s.ctxAt r).result rd v f c o q)) := by
  have did := pure_alu (s.ctxAt r) fn rd ra rb f h
  rw [out] at did
  exact next_short ready rfl (r.has_of_inTisC rfl) did

theorem next_cmp {s : State} {r : CoreRef} (ready : s.coreReady r) (ra rb : Gpr) (f : Bool) :
    let x := s.ctxAt r
    let o := aluOut .cmp (x.reg ra) (x.reg rb)
    (.next (s.onCore r (.alu .cmp 0 ra rb f)) : Result) = .next (s.withCtx r (x.result 0 o.res true o.c o.v false)) := by
  intro x o
  have did : (Op.alu .cmp 0 ra rb f).pure x = some (.go (x.setFlags o) (x.pc.zeroExtend 32 + 4)) := rfl
  rw [next_short ready rfl (r.has_of_inTisC rfl) did]
  simp only [Ctx.result, Ctx.setReg, if_true, Bool.or_false]
  rfl

/-- Settles O29: each function gives the outcome stated. -/
theorem integerArithmeticLogicAndShifts : Obligations.Integer_arithmetic_logic_and_shifts := by
  intro s r rd ra rb f ready x a b k
  have alu (fn : AluFn) (h : fn ≠ .cmp) {v : Word} {c o q : Bool} := next_alu ready rd ra rb f fn h (v := v) (c := c) (o := o) (q := q)
  simp only [List.forall_mem_cons]
  exact ⟨alu .add nofun rfl, alu .sub nofun rfl, alu .adds nofun rfl, alu .subs nofun rfl, alu .and nofun rfl, alu .or nofun rfl,
    alu .xor nofun rfl, alu .andn nofun rfl, alu .sll nofun rfl, alu .srl nofun rfl, alu .sra nofun rfl, alu .ror nofun rfl,
    List.forall_mem_nil _⟩

/-- A result in a corner, where V and Q are set, and elsewhere. -/
theorem corner_out {p : Prop} [Decidable p] {corner : Bool} (h : corner = true ↔ p) (u v : Word) :
    (if p then { res := u, v := true, q := true } else { res := v } : AluOut) = ⟨if corner then u else v, false, corner, corner⟩ := by
  cases corner with
  | true => rw [if_pos (h.mp rfl)]; rfl
  | false => rw [if_neg (mt h.mpr Bool.false_ne_true)]; rfl

/-- Only the most negative number has no negative. -/
theorem satOut_neg (a : Word) :
    satOut (-a.toInt) false = ⟨if a = 0x80000000 then 0x7FFFFFFF else -a, false, a == 0x80000000, a == 0x80000000⟩ := by
  by_cases h : a = 0x80000000
  · rw [h]
    decide
  · have low : a.toInt ≠ -2 ^ 31 := fun e => h (BitVec.eq_of_toInt_eq e)
    have := a.le_toInt
    have := a.toInt_lt
    have fits : satS 32 (-a.toInt) = -a.toInt := by simp only [satS]; omega
    have calm : ovf (-a.toInt) = false := by simp only [ovf, decide_eq_false_iff_not]; omega
    rw [satOut, fits, calm, if_neg h, beq_false_of_ne h, BitVec.ofInt_neg, BitVec.ofInt_toInt]

theorem satOut_abs (a : Word) :
    satOut (if a.toInt < 0 then -a.toInt else a.toInt) false =
      ⟨if a = 0x80000000 then 0x7FFFFFFF else if a.toInt < 0 then -a else a, false, a == 0x80000000, a == 0x80000000⟩ := by
  by_cases sign : a.toInt < 0
  · rw [if_pos sign, if_pos sign, satOut_neg]
  · have := a.toInt_lt
    have other : a ≠ 0x80000000 := fun e => sign (by rw [e]; decide)
    have fits : satS 32 a.toInt = a.toInt := by simp only [satS]; omega
    have calm : ovf a.toInt = false := by simp only [ovf, decide_eq_false_iff_not]; omega
    rw [if_neg sign, if_neg sign, satOut, fits, calm, if_neg other, beq_false_of_ne other, BitVec.ofInt_toInt]

/-- Settles O30: the functions with a corner by it, ABS and NEG by the one number without a negative, the others by what they give. -/
theorem integerProductsDivisionsAndOrders : Obligations.Integer_products_divisions_and_orders := by
  intro s r rd ra rb f ready x a b i j top z corner
  have alu (fn : AluFn) (h : fn ≠ .cmp) {v : Word} {c o q : Bool} := next_alu ready rd ra rb f fn h (v := v) (c := c) (o := o) (q := q)
  have cornered : corner = true ↔ b = 0 ∨ (a = 0x80000000 ∧ b = 0xFFFFFFFF) := by simp [corner, z]
  simp only [List.forall_mem_cons]
  exact ⟨⟨alu .mul nofun rfl, alu .mulh nofun rfl, alu .mulhu nofun rfl, alu .div nofun (corner_out cornered ..),
    alu .divu nofun (corner_out beq_iff_eq ..), alu .rem nofun (corner_out beq_iff_eq ..), alu .remu nofun (corner_out beq_iff_eq ..),
    alu .min nofun rfl, alu .max nofun rfl, alu .minu nofun rfl, alu .maxu nofun rfl, alu .abs nofun (satOut_abs a),
    alu .neg nofun (satOut_neg a), alu .clz nofun rfl, alu .slt nofun rfl, alu .sltu nofun rfl, List.forall_mem_nil _⟩,
    next_cmp ready ra rb f⟩

/-- A register takes a value, and nothing else changes. -/
theorem next_took {s : State} {r : CoreRef} {op : Op} {rd : Gpr} {v : Word} (ready : s.coreReady r) (inContext : op.local? = true)
    (known : op.inTisC = true) (short : op.isLong = false)
    (did : op.pure (s.ctxAt r) = some (.go ((s.ctxAt r).setReg rd v) ((s.ctxAt r).after op))) :
    (.next (s.onCore r op) : Result) = .next (s.withCtx r ((s.ctxAt r).took rd v 4)) := by
  rw [Ctx.after, short] at did
  exact next_short ready inContext (r.has_of_inTisC known) did

theorem next_took_long {s : State} {r : CoreRef} {op : Op} {rd : Gpr} {v : Word} (ready : s.coreReady r) (inContext : op.local? = true)
    (known : op.inTisC = true) (long : op.isLong = true)
    (did : op.pure (s.ctxAt r) = some (.go ((s.ctxAt r).setReg rd v) ((s.ctxAt r).after op))) :
    (.next (s.onCore r op) : Result) = .next (s.withCtx r ((s.ctxAt r).took rd v 8)) := by
  rw [Ctx.after, long] at did
  exact next_long ready inContext (r.has_of_inTisC known) did

/-- Settles O31: each form takes the value stated, and the two comparisons set the flags. -/
theorem immediateForms : Obligations.Immediate_forms := by
  intro s r rd ra v m w ready x a e u cmp
  have imm (fn : ImmFn) := next_took (op := .imm fn rd ra v) ready rfl rfl rfl rfl
  have shi (fn : ShFn) := next_took (op := .shi fn rd ra m) ready rfl rfl rfl rfl
  have long (fn : ImmFn) := next_took_long (op := .long fn rd ra w) ready rfl rfl rfl rfl
  have known {op : Op} (h : op.inTisC = true) := r.has_of_inTisC h
  simp only [List.forall_mem_cons]
  exact ⟨⟨imm .add, imm .and, imm .or, imm .xor, next_took (op := .lui rd v) ready rfl rfl rfl rfl, shi .sll, shi .srl, shi .sra, shi .ror,
    next_took_long (op := .li rd w) ready rfl rfl rfl rfl, long .add, long .and, long .or, long .xor, List.forall_mem_nil _⟩,
    next_short (op := .cmpi ra v) ready rfl (known rfl) rfl, next_long (op := .cmpl ra w) ready rfl (known rfl) rfl⟩

end Sys2Proof.Machine
end

section
/-! Constants and flags, branches, and the accumulators (R298, R300, R308 to R313), on every core that may issue. -/

namespace Sys2Proof.Machine

/-! ### A command on one core, and the next one there -/

theorem Kv.running_withCtx (k : Kv) (n : Nat) (y : Ctx) : (k.withCtx n y).running n = y := by
  have kept : (k.withCtx n y).ctxOf n = k.ctxOf n := rfl
  simp only [Kv.running, kept]
  simp only [Kv.withCtx, Kv.onCore, Kv.core, Tab.get_upd_same, CoreSt.setCtx, CoreSt.ctx]
  split <;> rfl

theorem State.ctxAt_withCtx (s : State) (r : CoreRef) (y : Ctx) : (s.withCtx r y).ctxAt r = y := by
  cases r with
  | kv c n =>
    simp only [State.withCtx, State.ctxAt, State.kvAt, State.setChip_chip]
    exact (s.kvAt c).running_withCtx n.toNat y
  | cell a => simp only [State.withCtx, State.ctxAt, State.kcAt, State.setCell_cell]

/-- The flags that the integer instructions set. -/
def Ctx.flags (x : Ctx) : Bool × Bool × Bool × Bool := (x.z, x.n, x.c, x.v)

@[simp] theorem Ctx.reg_setReg_same (x : Ctx) {rd : Gpr} (v : Word) (h : rd ≠ 0) : (x.setReg rd v).reg rd = v := by
  simp only [Ctx.reg, Ctx.setReg, if_neg h, Tab.get_set_same]

theorem Ctx.flags_took (x : Ctx) (rd : Gpr) (v : Word) (len : BitVec 16) : (x.took rd v len).flags = x.flags := by
  simp only [Ctx.took, Ctx.setReg]
  split <;> rfl

theorem or_halves (hi lo : BitVec 16) : (hi ++ (0 : BitVec 16)) ||| lo.zeroExtend 32 = hi ++ lo := by
  have high := BitVec.toNat_append hi (0 : BitVec 16)
  have low : (lo.zeroExtend 32).toNat = lo.toNat := by
    have := lo.isLt
    simp only [BitVec.truncate_eq_setWidth, BitVec.toNat_setWidth]
    omega
  refine BitVec.eq_of_toNat_eq ((BitVec.toNat_or ..).trans ?_)
  rw [low, BitVec.toNat_append hi lo, high]
  simp

/-- A command that has a register take a value leaves the flags, and the value is read there. -/
theorem took_shows {s : State} {r : CoreRef} {i : Instr} {rd : Gpr} {v : Word} {len : BitVec 16}
    (goes : exec i s = .next (s.withCtx r ((s.ctxAt r).took rd v len))) :
    ∃ t, exec i s = .next t ∧ (t.ctxAt r).flags = (s.ctxAt r).flags ∧ (rd ≠ 0 → (t.ctxAt r).reg rd = v) := by
  refine ⟨_, goes, ?_, fun h => ?_⟩
  · rw [State.ctxAt_withCtx, Ctx.flags_took]
  · rw [State.ctxAt_withCtx]
    exact Ctx.reg_setReg_same _ v h

/-- Settles O32: the forms but CMPI have a register take a value; CMPI and CMP set the same flags from the same operands. -/
theorem immediateFormsAndFlags : Obligations.Immediate_forms_and_flags := by
  intro s r rd ra rb v hi lo m f ready flags
  have forms (s : State) (ready : s.coreReady r) (ra : Gpr) (v : BitVec 16) := immediateForms s r rd ra v m (hi ++ lo) ready
  simp only [List.forall_mem_cons] at forms ⊢
  obtain ⟨⟨addi, andi, ori, xori, lui, slli, srli, srai, rori, -⟩, cmpi, -⟩ := forms s ready ra v
  have kept {i : Instr} {w : Word} {len : BitVec 16} (goes : exec i s = .next (s.withCtx r ((s.ctxAt r).took rd w len))) :
      ∃ t, exec i s = .next t ∧ flags t = flags s :=
    let ⟨t, did, same, _⟩ := took_shows goes
    ⟨t, did, same⟩
  refine ⟨⟨kept addi, kept andi, kept ori, kept xori, kept lui, kept slli, kept srli, kept srai, kept rori, List.forall_mem_nil _⟩,
    fun same => ?compare, fun real => ⟨?halves, ?whole⟩⟩
  case compare =>
    refine ⟨_, _, cmpi, next_cmp ready ra rb f, ?_⟩
    simp only [flags, State.ctxAt_withCtx, same]
    rfl
  case halves =>
    obtain ⟨⟨-, -, -, -, lui, -⟩, -⟩ := forms s ready ra hi
    obtain ⟨t, did, -, high⟩ := took_shows lui
    refine ⟨t, did, fun again => ?_⟩
    obtain ⟨⟨-, -, ori, -⟩, -⟩ := forms t again rd lo
    obtain ⟨u, done, -, both⟩ := took_shows ori
    exact ⟨u, done, by rw [both real, high real, or_halves]⟩
  case whole =>
    obtain ⟨⟨-, -, -, -, -, -, -, -, -, li, -⟩, -⟩ := forms s ready ra hi
    obtain ⟨t, did, -, whole⟩ := took_shows li
    exact ⟨t, did, whole real⟩

/-! ### Branches, jumps and calls (R300) -/

theorem condHolds_eq (x : Ctx) (cond : BitVec 4) :
    condHolds x cond = [x.z, x.n, x.c, x.v, x.n != x.v, x.z || (x.n != x.v), !x.c || x.z, x.q,
      !x.z, !x.n, !x.c, !x.v, x.n == x.v, !(x.z || (x.n != x.v)), x.c && !x.z, true].getD cond.toNat false := by
  simp only [condHolds]
  generalize x.z = z, x.n = n, x.c = c, x.v = v, x.q = q
  revert cond z n c v q
  decide

/-- Settles O33: each of them goes on at the address of an instruction. -/
theorem branchesJumpsAndCalls : Obligations.Branches_jumps_and_calls := by
  intro s r ready x pc dest isCode
  obtain ⟨below, aligned⟩ := pc_of_ready ready
  have next : isCode (pc + 4) := by
    have on : (pc + 4).toNat = (s.ctxAt r).pc.toNat + 4 := (next_address x.pc 4 (by omega) below).2
    exact ⟨by omega, by omega⟩
  have goes {op : Op} {y : Ctx} {next : Word} (l : op.local? = true) (c : op.inTisC = true) (code : isCode next) :=
    next_jumps (y := y) ready l (r.has_of_inTisC c) code
  have either {p : Bool} {t : Word} (code : isCode t) : isCode (if p then t else pc + 4) := by
    split
    · exact code
    · exact next
  have long (v : BitVec 16) (aligned : v.toNat % 4 = 0) : isCode (v.zeroExtend 32) := by
    have := v.isLt
    simp only [isCode, BitVec.truncate_eq_setWidth, BitVec.toNat_setWidth]
    omega
  refine ⟨fun cond off code => ?_, fun off code => ⟨goes (op := .jump off) rfl rfl code rfl, goes (op := .call off) rfl rfl code rfl⟩,
    fun rd ra code => ⟨goes (op := .jr ra) rfl rfl code rfl, goes (op := .callr rd ra) rfl rfl code rfl⟩, fun ra rb off code => ?_,
    fun v aligned => ⟨goes (op := .jl v) rfl rfl (long v aligned) rfl, goes (op := .calll v) rfl rfl (long v aligned) rfl⟩⟩
  · rw [← condHolds_eq x cond]
    exact goes (op := .bcc cond off) rfl rfl (either code) rfl
  · simp only [List.forall_mem_cons]
    have cb (fn : CbFn) := goes (op := .cb fn ra rb off) rfl rfl (either code) rfl
    exact ⟨cb .eq, cb .ne, cb .lt, cb .ltu, List.forall_mem_nil _⟩

/-! ### Accumulators (R308 to R313) -/

theorem CoreRef.has_mac {r : CoreRef} {fn : MacFn} {ad : BitVec 3} {ra rb : Gpr} {sh : BitVec 6} (own : ad.toNat < r.accs) :
    r.has (.mac fn ad ra rb sh) = true := by
  cases r with
  | kv => rfl
  | cell => exact decide_eq_true own

/-- A core has an accumulator instruction on its accumulators; AADD names a second one. -/
theorem CoreRef.has_acc {r : CoreRef} {fn : AccFn} {ad : BitVec 3} {ra rb : Gpr} {sh : BitVec 6} (own : ad.toNat < r.accs)
    (second : fn = .aadd → ra.toNat < r.accs) : r.has (.acc fn ad ra rb sh) = true := by
  cases r with
  | kv => rfl
  | cell =>
    change (decide (ad.toNat < 2) && (fn != .aadd || decide (ra.toNat < 2))) = true
    have first : ad.toNat < 2 := own
    have other : fn = .aadd → ra.toNat < 2 := second
    simpa [first, or_iff_not_imp_left] using other

theorem pure_mac (x : Ctx) (fn : MacFn) (ad : BitVec 3) (ra rb : Gpr) {sh : BitVec 6} (h : sh.toInt ≤ 7) :
    (Op.mac fn ad ra rb sh).pure x = some (.go (macOp fn ad (x.reg ra) (x.reg rb) sh x) (x.pc.zeroExtend 32 + 4)) := by
  change (if 7 < sh.toInt then some (Res.trap 1 none) else some (.go (macOp fn ad (x.reg ra) (x.reg rb) sh x) _)) = _
  rw [if_neg (Int.not_lt.mpr h)]
  rfl

/-- Settles O34: the shift is in range, and each function joins the accumulator its own shifted product. -/
theorem multiplyAccumulate : Obligations.Multiply_accumulate := by
  intro s r ad ra rb sh ready own small x a b acc shifted
  have mac (fn : MacFn) := next_short ready rfl (CoreRef.has_mac own) (pure_mac (s.ctxAt r) fn ad ra rb small)
  simp only [List.forall_mem_cons]
  exact ⟨mac .mac, mac .msu, mac .mula, mac .macu, mac .macs, List.forall_mem_nil _⟩

/-- An accumulator instruction without a reserved field or a shift out of range does what its function says. -/
theorem pure_acc {x y : Ctx} {fn : AccFn} {ad : BitVec 3} {ra rb : Gpr} {sh : BitVec 6} (free : (Op.acc fn ad ra rb sh).reserved = false)
    (up : fn = .mova → 0 ≤ sh.toInt) (does : accOp fn ad ra rb sh x = some y) :
    (Op.acc fn ad ra rb sh).pure x = some (.go y (x.pc.zeroExtend 32 + 4)) := by
  have inRange : ¬ (fn = .mova ∧ sh.toInt < 0) := fun ⟨h, low⟩ => absurd (up h) (by omega)
  change (if (Op.acc fn ad ra rb sh).reserved then _ else if fn = .mova ∧ sh.toInt < 0 then some (Res.trap 1 none) else
    match accOp fn ad ra rb sh x with
      | some y => some (.go y (x.after (.acc fn ad ra rb sh)))
      | none => some (.trap 7 none)) = _
  rw [free, if_neg Bool.false_ne_true, if_neg inRange, does]
  rfl

/-- Settles O35: each function by what it does to the context. -/
theorem accumulatorMovesAndExtracts : Obligations.Accumulator_moves_and_extracts := by
  intro s r ad ra rb sh ready own x acc v ran out rounded k
  have acts (fn : AccFn) {ra rb : Gpr} {sh : BitVec 6} {y : Ctx} (second : fn = .aadd → ra.toNat < r.accs)
      (free : (Op.acc fn ad ra rb sh).reserved = false) (up : fn = .mova → 0 ≤ sh.toInt) (does : accOp fn ad ra rb sh x = some y) :=
    next_short ready rfl (CoreRef.has_acc own second) (pure_acc free up does)
  have plain (fn : AccFn) {ra rb : Gpr} {y : Ctx} (only : fn ≠ .aadd ∧ fn ≠ .mova) (free : (Op.acc fn ad ra rb sh).reserved = false)
      (does : accOp fn ad ra rb sh x = some y) := acts fn (absurd · only.1) free (absurd · only.2) does
  refine ⟨plain .extr ⟨nofun, nofun⟩ rfl rfl, plain .extrt ⟨nofun, nofun⟩ rfl rfl,
    fun fits => acts .extrr nofun rfl nofun (if_neg (Int.not_lt.mpr fits)), fun up => acts .mova nofun rfl (fun _ => up) rfl,
    plain .mvlo ⟨nofun, nofun⟩ rfl rfl, plain .mvmi ⟨nofun, nofun⟩ rfl rfl, plain .mvhi ⟨nofun, nofun⟩ rfl rfl,
    plain .awlo ⟨nofun, nofun⟩ rfl rfl, plain .awmi ⟨nofun, nofun⟩ rfl rfl, plain .awhi ⟨nofun, nofun⟩ rfl rfl,
    plain .aclr ⟨nofun, nofun⟩ rfl rfl, fun real => ?_⟩
  have eight : r.accs ≤ 8 := by cases r <;> simp [CoreRef.accs]
  have free : (Op.acc .aadd ad ra rb sh).reserved = false := decide_eq_false (by omega)
  exact acts .aadd (y := x.loadAcc ad (acc.toInt + (x.accOf (ra.extractLsb' 0 3)).toInt)) (fun _ => real) free nofun rfl

end Sys2Proof.Machine
end

section
/-! Loads of a chip's core (R301): the value is found again once the context has taken it. -/

namespace Sys2Proof.Machine

/-! ### What a change of one context leaves -/

@[simp] theorem Kv.bad_withCtx (k : Kv) (n : Nat) (y : Ctx) (a : Nat) : (k.withCtx n y).bad a = k.bad a := rfl
@[simp] theorem Kv.rdByte_withCtx (k : Kv) (n : Nat) (y : Ctx) (a : Nat) : (k.withCtx n y).rdByte a = k.rdByte a := rfl
@[simp] theorem Kv.rdLe_withCtx (k : Kv) (n : Nat) (y : Ctx) (a m : Nat) : (k.withCtx n y).rdLe a m = k.rdLe a m :=
  Kv.rdLe_congr _ _ _ _ fun _ _ => rfl

theorem runSteps_withCtx {k : Kv} {n : Nat} (ready : k.ready n) (y : Ctx) : (k.withCtx n y).runSteps = k.withCtx n y := by
  obtain ⟨-, -, -, -, -, -, still, -⟩ := ready
  exact runSteps_none (stepOk_withCtx n y still)

/-! ### Loads (R301) -/

/-- A load takes the value found, and then does what reading it does. -/
theorem opKv_load {k : Kv} {n : Nat} {fn : LoadFn} {rd ra : Gpr} {v : BitVec 16} {w : Nat} {t : Kv} {q : Nat × Kv} (ready : k.ready n)
    (pair : fn = .d → rd.getLsbD 0 = false) (found : k.coreLoad n (effAddr (k.running n) ra v) fn.size = .inl (w, t))
    (again : (k.withCtx n { (k.running n).loaded fn rd w with pc := (k.running n).pc + 4 }).coreLoad n (effAddr (k.running n) ra v) fn.size =
      .inl q) : opKv n (.load fn rd ra v) k = q.2.runSteps := by
  have even : ¬ (fn = .d ∧ rd.getLsbD 0 = true) := fun ⟨h, odd⟩ => Bool.false_ne_true ((pair h).symm.trans odd)
  rw [kv_load ready even found, again]

/-- Settles O36: what the region holds is found again once the context has taken it, and a memory is left as it was. -/
theorem chipCoreLoads : Obligations.Chip_core_loads := by
  intro s c n rd ra v live ready k x a low p listed aligned pair
  obtain ⟨fn, named, size, takes⟩ : ∃ fn : LoadFn, exec p.1 s = .next (s.onKv c (opKv n.toNat (.load fn rd ra v))) ∧ p.2.1 = fn.size ∧
      ∀ w, { p.2.2 w with pc := x.pc + 4 } = { x.loaded fn rd w with pc := x.pc + 4 } := by
    revert p
    simp only [List.forall_mem_cons]
    exact ⟨fun _ _ => ⟨.w, rfl, rfl, fun _ => rfl⟩, fun _ _ => ⟨.h, rfl, rfl, fun _ => rfl⟩, fun _ _ => ⟨.hu, rfl, rfl, fun _ => rfl⟩,
      fun _ _ => ⟨.b, rfl, rfl, fun _ => rfl⟩, fun _ _ => ⟨.bu, rfl, rfl, fun _ => rfl⟩, fun _ _ => ⟨.d, rfl, rfl, fun _ => rfl⟩,
      List.forall_mem_nil _⟩
  rw [size] at aligned pair ⊢
  have even : fn = .d → rd.getLsbD 0 = false := fun h => pair (by rw [h]; rfl)
  have goes {w : Nat} {t : Kv} {q : Nat × Kv} (found : k.coreLoad n.toNat a fn.size = .inl (w, t))
      (again : (k.withCtx n.toNat { p.2.2 w with pc := x.pc + 4 }).coreLoad n.toNat a fn.size = .inl q) :
      exec p.1 s = .next (s.setChip c q.2.runSteps) :=
    exec_live live named (opKv_load ready even found (takes w ▸ again))
  have still (w : Nat) := runSteps_withCtx ready { p.2.2 w with pc := x.pc + 4 }
  split
  case h_1 at_ place =>
    intro clean
    rw [goes (coreLoad_mem aligned place clean) (coreLoad_mem aligned place clean), still]
  case h_2 at_ place =>
    intro clean
    rw [goes (coreLoad_sfe aligned place clean) (coreLoad_sfe aligned place clean), still]
  case h_3 at_ place =>
    intro clean
    rw [goes (coreLoad_arena aligned place clean) (coreLoad_arena aligned place clean), still]
  case h_4 off place => exact goes (coreLoad_reg aligned place) (coreLoad_reg aligned place)
  case h_5 => trivial
end Sys2Proof.Machine
end

section
/-! Stores of a chip's core (R301, R304): the bytes written, the word repaired, and nothing else. -/

namespace Sys2Proof.Machine

/-! ### Bytes written and a word repaired, and nothing else -/

theorem Kv.wrLe_eq (k : Kv) (a v n : Nat) : k.wrLe a v n = { k with mem := (k.wrLe a v n).mem } := by
  induction n generalizing k a v with
  | zero => rfl
  | succ n ih => exact ih (k.wrByte a (BitVec.ofNat 8 v)) (a + 1) (v / 256)

theorem Kv.wrBe_eq (k : Kv) (a v n : Nat) : k.wrBe a v n = { k with mem := (k.wrBe a v n).mem } := by
  induction n generalizing k a v with
  | zero => rfl
  | succ n ih => exact ih (k.wrByte a (BitVec.ofNat 8 (v / 256 ^ n))) (a + 1) v

/-- Whether a word is uncorrectable is one fact for all its bytes. -/
theorem Kv.bad_of_same_word (k : Kv) {a b : Nat} (h : b / 8 = a / 8) : k.bad b = k.bad a := by
  have dram : k.inDram b = k.inDram a := by
    have whole : k.dramSize % 8 = 0 := by
      simp only [Kv.dramSize]
      split <;> rfl
    simp only [Kv.inDram, decide_eq_decide]
    omega
  have errs : k.errs b = k.errs a := by rw [Kv.errs, Kv.errs, h]
  have sought (m : Nat) : k.sought b m = k.sought a m := by rw [Kv.sought, Kv.sought, dram]
  rw [Kv.bad, Kv.bad, errs, sought]

/-- A repaired word is readable, and the others stay as they were. -/
theorem Kv.bad_setErrs_repaired (k : Kv) (a b : Nat) : (k.setErrs a 0).bad b = if b / 8 = a / 8 then false else k.bad b := by
  split
  next same => rw [Kv.bad_of_same_word _ same, Kv.bad_setErrs_zero]
  next other => exact k.bad_setErrs_ne 0 other

theorem Kv.bad_wrLe (k : Kv) (a v n b : Nat) : (k.wrLe a v n).bad b = k.bad b := by rw [Kv.wrLe_eq]; rfl

theorem Kv.rdByte_wrLe (k : Kv) (a v n b : Nat) :
    (k.wrLe a v n).rdByte b = if a ≤ b ∧ b < a + n then BitVec.ofNat 8 (v / 256 ^ (b - a)) else k.rdByte b := by
  split
  next inside =>
    have := k.rdByte_wrLe_in a v n (b - a) (by omega)
    rwa [Nat.add_sub_cancel' inside.1] at this
  next outside => exact k.rdByte_wrLe_out a v n b (by omega)

/-- The byte of a number that a store of its low bytes writes. -/
theorem byte_of_low (v n i : Nat) (h : i < n) : BitVec.ofNat 8 (v % 256 ^ n / 256 ^ i) = BitVec.ofNat 8 (v / 256 ^ i) := by
  apply BitVec.eq_of_toNat_eq
  have split : 256 ^ n = 256 ^ i * 256 ^ (n - i) := by rw [← Nat.pow_add, Nat.add_sub_cancel' h.le]
  rw [BitVec.toNat_ofNat, BitVec.toNat_ofNat, split, Nat.mod_mul_right_div_self]
  exact Nat.mod_mod_of_dvd _ (dvd_pow_self 256 (by omega))

/-- A store that takes place: its bytes, and no symbol in error left in the word. -/
theorem Kv.store_eq {k : Kv} {a n : Nat} (v : Nat) (readable : n < 8 → k.bad a = false) : k.store a v n = (k.wrLe a v n).setErrs a 0 := by
  have : ¬ ((decide (n < 8) && k.bad a) = true) := by
    rw [Bool.and_eq_true, decide_eq_true_eq]
    exact fun ⟨small, bad⟩ => Bool.false_ne_true ((readable small).symm.trans bad)
  rw [Kv.store, Kv.storeWord, if_neg this]

/-- What neither the cores nor the trace depend on runs no step. -/
theorem runSteps_of_issuing {k t : Kv} {n : Nat} {y : Ctx} (ready : k.ready n) (same : t.issuing = (k.withCtx n y).issuing) : t.runSteps = t := by
  obtain ⟨-, -, -, -, -, -, still, -⟩ := ready
  obtain ⟨-, cores⟩ : _ ∧ _ := Prod.mk.injEq .. ▸ same
  refine runSteps_none fun i => ?_
  rw [Kv.core, cores]
  exact stepOk_withCtx n y still i

theorem issuing_stored (k : Kv) (a v n : Nat) : ((k.wrLe a v n).setErrs a 0).issuing = k.issuing := by rw [Kv.wrLe_eq]; rfl

@[simp] theorem Kv.forced_withCtx (k : Kv) (n : Nat) (y : Ctx) (a m : Nat) : (k.withCtx n y).forced a m = k.forced a m := rfl

theorem coreStore_mem {k : Kv} {n a v m at_ : Nat} {priv : Bool} (aligned : a % m = 0) (place : corePlace n a = .mem at_) :
    k.coreStore n a v m priv = .inl (fun s => s.forcedStore at_ v m) := by
  rw [Kv.coreStore, if_neg (by omega), place]

theorem opKv_store {k : Kv} {n : Nat} {fn : StoreFn} {rd ra : Gpr} {v : BitVec 16} {f : Kv → Kv} (ready : k.ready n)
    (pair : fn = .d → rd.getLsbD 0 = false)
    (found : k.coreStore n (effAddr (k.running n) ra v) ((k.running n).stored fn rd) fn.size (k.running n).priv = .inl f) :
    opKv n (.store fn rd ra v) k = (f (k.withCtx n { k.running n with pc := (k.running n).pc + 4 })).runSteps := by
  have even : ¬ (fn = .d ∧ rd.getLsbD 0 = true) := fun ⟨h, odd⟩ => Bool.false_ne_true ((pair h).symm.trans odd)
  refine kv_op_next ready ?_
  rw [opDo_store, Kv.opStore, if_neg even, found]
  rfl

/-- The registers that a store takes its bytes from, as one number. -/
def Ctx.source (x : Ctx) (fn : StoreFn) (rd : Gpr) : Nat :=
  match fn with
  | .w | .h | .b => (x.reg rd).toNat
  | .d => (x.reg rd).toNat + 2 ^ 32 * (x.reg (rd + 1)).toNat

theorem Ctx.stored_eq (x : Ctx) (fn : StoreFn) (rd : Gpr) : x.stored fn rd = x.source fn rd % 256 ^ fn.size := by
  cases fn with
  | w => exact (Nat.mod_eq_of_lt (x.reg rd).isLt).symm
  | h => rfl
  | b => rfl
  | d =>
    have := (x.reg rd).isLt
    have := (x.reg (rd + 1)).isLt
    exact (Nat.mod_eq_of_lt (by simp only [Ctx.stored, StoreFn.size]; omega)).symm

/-- Settles O37: a store that no force stops writes its bytes and repairs its word. -/
theorem chipCoreStores : Obligations.Chip_core_stores := by
  intro s c n rd ra v live ready k x a y p listed aligned pair
  obtain ⟨fn, named, size, source⟩ : ∃ fn : StoreFn, exec p.1 s = .next (s.onKv c (opKv n.toNat (.store fn rd ra v))) ∧ p.2.1 = fn.size ∧
      p.2.2 = x.source fn rd := by
    revert p
    simp only [List.forall_mem_cons]
    exact ⟨fun _ _ => ⟨.w, rfl, rfl, rfl⟩, fun _ _ => ⟨.h, rfl, rfl, rfl⟩, fun _ _ => ⟨.b, rfl, rfl, rfl⟩, fun _ _ => ⟨.d, rfl, rfl, rfl⟩,
      List.forall_mem_nil _⟩
  rw [size] at aligned pair ⊢
  have even : fn = .d → rd.getLsbD 0 = false := fun h => pair (by rw [h]; rfl)
  split
  next at_ place =>
    have goes : exec p.1 s = .next (s.setChip c ((k.withCtx n.toNat y).forcedStore at_ (p.2.2 % 256 ^ fn.size) fn.size).runSteps) :=
      source ▸ x.stored_eq fn rd ▸ exec_live live named (opKv_store ready even (coreStore_mem aligned place))
    rw [Kv.forcedStore, Kv.unlessForced, Kv.forced_withCtx] at goes
    split
    next stopped => rw [goes, if_pos stopped, runSteps_withCtx ready]
    next free =>
      intro readable
      rw [if_neg free, Kv.store_eq (k := k.withCtx n.toNat y) _ readable, runSteps_of_issuing ready (issuing_stored ..)] at goes
      refine ⟨_, goes, fun b => ?_, fun b => ?_, ?_⟩
      · refine ((k.withCtx n.toNat y).rdByte_wrLe at_ _ fn.size b).trans (if_ctx_congr Iff.rfl (fun inside => ?_) fun _ => rfl)
        exact byte_of_low _ _ _ (by omega)
      · rw [Kv.bad_setErrs_repaired, Kv.bad_wrLe, Kv.bad_withCtx]
        by_cases same : b / 8 = at_ / 8
        · by_cases whole : fn.size = 8
          · rw [if_pos same, if_pos ⟨whole, same⟩]
          · have part : fn.size < 8 := by cases fn <;> simp [StoreFn.size] at whole ⊢
            rw [if_pos same, if_neg (mt And.left whole), k.bad_of_same_word same, readable part]
        · rw [if_neg same, if_neg (mt And.right same)]
      · rw [Kv.wrLe_eq]
        rfl
  · trivial
end Sys2Proof.Machine
end

section
/-! Atomic operations and the cell-record instructions of a chip's core (R302, R305 to R307). -/

namespace Sys2Proof.Machine

/-! ### Atomic operations (R302) -/

/-- The context after an ATOM that read `old`: it stands in `rd`, and CAS shows in Z whether it wrote. -/
def Ctx.atomRead (x : Ctx) (fn : AtomFn) (rd : Gpr) (old : Word) (wrote : Bool) : Ctx :=
  if fn = .cas then { x.setReg rd old with z := wrote } else x.setReg rd old

section
variable {k : Kv} {n : Nat} {x : Ctx} {fn : AtomFn} {rd ra rb : Gpr} {at_ : Nat} (aligned : (x.reg ra).toNat % 4 = 0)
  (place : corePlace n (x.reg ra).toNat = .mem at_) (readable : k.bad at_ = false)
include aligned place readable

theorem opAtom_some {w : Word} (writes : atomNew fn (BitVec.ofNat 32 (k.rdLe at_ 4)) (x.reg rb) (x.reg rd) = some w) :
    k.opAtom n x (.atom fn rd ra rb) fn rd ra rb =
      .go (x.atomRead fn rd (BitVec.ofNat 32 (k.rdLe at_ 4)) true) (x.pc.zeroExtend 32 + 4) (fun s => s.forcedStore at_ w.toNat 4) := by
  rw [Kv.opAtom, if_neg (by omega), place]
  simp only [readable, Bool.false_eq_true, if_false, writes]
  rfl

theorem opAtom_none (keeps : atomNew fn (BitVec.ofNat 32 (k.rdLe at_ 4)) (x.reg rb) (x.reg rd) = none) :
    k.opAtom n x (.atom fn rd ra rb) fn rd ra rb =
      .go (x.atomRead fn rd (BitVec.ofNat 32 (k.rdLe at_ 4)) false) (x.pc.zeroExtend 32 + 4) (fun s => s) := by
  rw [Kv.opAtom, if_neg (by omega), place]
  simp only [readable, Bool.false_eq_true, if_false, keeps]
  rfl

end

/-- An ATOM that writes, where no force stands, writes its word and repairs it. -/
theorem opKv_atom {k : Kv} {n : Nat} {fn : AtomFn} {rd ra rb : Gpr} {y : Ctx} {at_ : Nat} {w : Word} (ready : k.ready n)
    (readable : k.bad at_ = false) (free : k.forced at_ 4 = false)
    (did : k.opAtom n (k.running n) (.atom fn rd ra rb) fn rd ra rb =
      .go y ((k.running n).pc.zeroExtend 32 + 4) (fun s => s.forcedStore at_ w.toNat 4)) :
    opKv n (.atom fn rd ra rb) k = ((k.withCtx n { y with pc := (k.running n).pc + 4 }).wrLe at_ w.toNat 4).setErrs at_ 0 := by
  rw [kv_op_next ready ((opDo_atom ..).trans did), Kv.forcedStore, Kv.unlessForced, Kv.forced_withCtx, free, if_neg Bool.false_ne_true]
  generalize { y with pc := (k.running n).pc + 4 } = z
  rw [Kv.store_eq (k := k.withCtx n z) _ fun _ => readable, runSteps_of_issuing ready (issuing_stored ..)]

/-- Settles O38: each of the first four writes; CAS writes where the old word is the one in `rd`. -/
theorem atomicOperations : Obligations.Atomic_operations := by
  intro s c n rd ra rb at_ live ready k x a b old y aligned place readable free
  have atom {fn : AtomFn} {w : Word} (writes : atomNew fn old b (x.reg rd) = some w) :=
    opKv_atom ready readable free (opAtom_some (fn := fn) aligned place readable writes)
  refine ⟨?_, ?_⟩
  · simp only [List.forall_mem_cons]
    exact ⟨exec_live live rfl (atom (fn := .swap) rfl), exec_live live rfl (atom (fn := .adda) rfl), exec_live live rfl (atom (fn := .anda) rfl),
      exec_live live rfl (atom (fn := .ora) rfl), List.forall_mem_nil _⟩
  · split
    next same => exact exec_live live rfl (atom (fn := .cas) (if_pos same))
    next other =>
      have did := opAtom_none (fn := .cas) (rb := rb) aligned place readable (if_neg other)
      exact exec_live live rfl ((kv_op_next ready ((opDo_atom ..).trans did)).trans (runSteps_withCtx ready _))

/-! ### Cell records (R305 to R307) -/

/-- A store of 4 bytes within one readable word. -/
theorem Kv.storeBe_eq {k : Kv} {a : Nat} (v : Nat) (aligned : a % 4 = 0) (readable : k.bad a = false) :
    k.storeBe a v 4 = (k.wrBe a v 4).setErrs a 0 := by
  have one : wordPieces a 4 = [(a, 4)] := by
    have count : (a % 8 + 4 + 7) / 8 = 1 := by omega
    simp only [wordPieces, count, List.range_one, List.map_singleton, List.cons.injEq, Prod.mk.injEq, and_true]
    omega
  have kept : ¬ ((decide (4 < 8) && k.bad a) = true) := by rw [readable]; decide
  rw [Kv.storeBe, one, List.foldl_cons, List.foldl_nil, Kv.storeWord, if_neg kept, show a + 4 - a - 4 = 0 by omega, Nat.pow_zero, Nat.div_one]

theorem issuing_storedBe (k : Kv) (a v n : Nat) : ((k.wrBe a v n).setErrs a 0).issuing = k.issuing := by rw [Kv.wrBe_eq]; rfl

section
variable {k : Kv} {x : Ctx} {rd ra : Gpr}

theorem opCfx_field {lsb : BitVec 8} {w : BitVec 5} {sgn other : Bool} (inside : lsb.toNat + w.toNat ≤ 191)
    (readable : ∀ i, i < 4 → k.bad (recAddr (x.cellOf ra) + 32 * (if other then 1 - x.bank else x.bank) + 8 * i) = false) :
    let bank := recAddr (x.cellOf ra) + 32 * (if other then 1 - x.bank else x.bank)
    let f := bits (k.rdBe bank 24) lsb.toNat (w.toNat + 1)
    let v : Word := if sgn then BitVec.ofInt 32 (sx (w.toNat + 1) f) else BitVec.ofNat 32 f
    k.opCfx x (.cfx rd ra lsb w sgn other) rd ra lsb w sgn other =
      .go { x.setReg rd v with z := v == 0, n := v.getLsbD 31, c := false, v := !(k.rdByte (bank + 28)).getLsbD 7 }
        (x.pc.zeroExtend 32 + 4) id := by
  intro bank f v
  have found : (List.range 4).find? (fun i => k.bad (bank + 8 * i)) = none :=
    List.find?_eq_none.mpr fun i hi => by rw [readable i (List.mem_range.mp hi)]; decide
  rw [Kv.opCfx, if_neg (by omega), found]
  rfl

theorem opClw_word {off : BitVec 8} {at_ : Nat} (aligned : off.toNat % 4 = 0) (readable : k.bad at_ = false)
    (is : recAddr (x.cellOf ra) + (if off.toNat < 0x20 then 32 * x.bank + off.toNat
      else if off.toNat < 0x40 then 32 * (1 - x.bank) + (off.toNat - 0x20) else off.toNat) = at_) :
    k.opClw x (.clw rd ra off) rd ra off =
      .go (x.setReg rd (BitVec.ofNat 32 (k.rdBe at_ 4))) (x.pc.zeroExtend 32 + 4) id := by
  simp only [Kv.opClw, is, readable]
  rw [if_neg (by omega), if_neg Bool.false_ne_true]
  rfl

end

theorem recAddr_aligned (a : Nat) {o : Nat} (h : o % 4 = 0) : (recAddr a + o) % 4 = 0 := by
  simp only [recAddr, sysArena]
  omega

/-- A store to a PRG word, or of values that CTL word 0 admits, where it is neither forced nor uncorrectable. -/
theorem csw_prg {k : Kv} {a o : Nat} (v : Nat) (aligned : o % 4 = 0) (low : 0xD0 ≤ o) (high : o ≤ 0xFC)
    (free : k.forced (recAddr a + o) 4 = false) (readable : k.bad (recAddr a + o) = false) :
    k.csw a o v = some ((k.wrBe (recAddr a + o) v 4).setErrs (recAddr a + o) 0) := by
  rw [Kv.csw, if_neg (by omega), if_pos ⟨aligned, low, high⟩, Kv.unlessForced, free, if_neg Bool.false_ne_true,
    Kv.storeBe_eq v (recAddr_aligned a aligned) readable]

theorem csw_ctl {k : Kv} {a v : Nat} (okO : bits v 12 3 ≤ 4) (okB : bits v 8 4 ≤ 5) (free : k.forced (recAddr a + 0x40) 4 = false)
    (readable : k.bad (recAddr a + 0x40) = false) :
    k.csw a 0x40 v = some ((k.wrBe (recAddr a + 0x40)
      (putBits (putBits (putBits (k.ctl0 a) 0 3 v) 12 3 (bits v 12 3)) 8 4 (bits v 8 4)) 4).setErrs (recAddr a + 0x40) 0) := by
  simp only [Kv.csw, if_true, free, readable, okO, okB, decide_true, Bool.and_self, Bool.not_true, Bool.false_eq_true, if_false, Kv.when_false]
  rw [Kv.storeBe_eq _ (recAddr_aligned a rfl) readable]

/-- A CSW that stores leaves its word. -/
theorem opKv_csw {k t : Kv} {n : Nat} {rd ra : Gpr} {off : BitVec 8} {o at_ w : Nat} (ready : k.ready n) (offset : off.toNat = o)
    (stores : k.csw ((k.running n).cellOf ra) o ((k.running n).reg rd).toNat = some t)
    (again : let moved := k.withCtx n { k.running n with pc := (k.running n).pc + 4 }
      moved.csw ((k.running n).cellOf ra) o ((k.running n).reg rd).toNat = some ((moved.wrBe at_ w 4).setErrs at_ 0)) :
    opKv n (.csw rd ra off) k = ((k.withCtx n { k.running n with pc := (k.running n).pc + 4 }).wrBe at_ w 4).setErrs at_ 0 := by
  have did : k.opCsw (k.running n) (.csw rd ra off) rd ra off = .go (k.running n) ((k.running n).pc.zeroExtend 32 + 4)
      (fun s => (s.csw ((k.running n).cellOf ra) off.toNat ((k.running n).reg rd).toNat).getD s) := by
    rw [Kv.opCsw, offset, stores]
    rfl
  rw [kv_op_next ready ((opDo_csw ..).trans did), offset, again, Option.getD_some]
  exact runSteps_of_issuing ready (issuing_storedBe ..)

/-- Settles O39: a field of a bank, a word of the record, a word of PRG and CTL word 0, by what each finds there. -/
theorem cellRecordInstructions : Obligations.Cell_record_instructions := by
  intro s c n rd ra live ready k x a r
  refine ⟨?_, ?_, ?_⟩
  · intro lsb w sgn other bank f v inside readable
    exact exec_live live rfl ((kv_op_next ready ((opDo_cfx ..).trans (opCfx_field inside readable))).trans (runSteps_withCtx ready _))
  · intro off o at_ aligned readable
    exact exec_live live rfl ((kv_op_next ready ((opDo_clw ..).trans (opClw_word aligned readable rfl))).trans (runSteps_withCtx ready _))
  · intro off o v moved free readable
    refine ⟨fun aligned prg => ?_, fun ctl okO okB => ?_⟩
    · have high : o ≤ 0xFC := by
        have : o < 256 := off.isLt
        omega
      exact exec_live live rfl (opKv_csw ready rfl (csw_prg v aligned prg high free readable) (csw_prg v aligned prg high free readable))
    · rw [ctl] at free readable ⊢
      exact exec_live live rfl (opKv_csw ready ctl (csw_ctl okO okB free readable) (csw_ctl okO okB free readable))

end Sys2Proof.Machine
end

section
/-! Loads and stores of a cell core in its SRAMs (R301, R329). -/

namespace Sys2Proof.Machine

/-! ### Instructions of a cell core beyond its context -/

theorem Cell.runStep_idle {t : Cell} (h : t.stepOk = false) : t.runStep = t := by
  rw [Cell.runStep, h, if_neg Bool.false_ne_true]

section
variable {s t : Cell} {op : Op} (ready : s.ready)
include ready

/-- An instruction that is done with everything itself. -/
theorem cell_op_done (did : s.opDo s.core op = .done t) (still : t.stepOk = false) : opCell op s = t := by
  obtain ⟨running, issues, -, below, here, after, -, -⟩ := ready
  have inside : (s.core.pc.toNat == 0xFFFC) = false := beq_false_of_ne (by omega)
  have run : s.runOp (some op) op.isLong = t := by
    simp only [Cell.runOp, issues, here, after, inside, did, Bool.not_true, Bool.and_false, Bool.or_false, Bool.false_eq_true, if_false]
  rw [opCell, running, if_neg Bool.false_ne_true, run]
  exact Cell.runStep_idle still

theorem cell_next_address : (s.core.pc.zeroExtend 32 + 4).extractLsb' 0 16 = s.core.pc + 4 ∧
    (s.core.pc.zeroExtend 32 + 4).toNat < 0x10000 ∧ (s.core.pc.zeroExtend 32 + 4).toNat % 4 = 0 := by
  obtain ⟨-, -, aligned, below, -⟩ := ready
  obtain ⟨at_, next⟩ : _ ∧ (s.core.pc.zeroExtend 32 + 4).toNat = s.core.pc.toNat + 4 := next_address s.core.pc 4 (by omega) below
  exact ⟨at_, by omega, by omega⟩

theorem cell_op_next {y : Ctx} (did : s.opDo s.core op = .go t y (s.core.pc.zeroExtend 32 + 4)) (straight : op.takes s.core = false)
    (still : t.stepOk = false) : opCell op s = { t with core := { y with pc := s.core.pc + 4 } } := by
  obtain ⟨at_, inCode⟩ := cell_next_address ready
  obtain ⟨running, issues, -, below, here, after, -, -⟩ := ready
  have inside : (s.core.pc.toNat == 0xFFFC) = false := beq_false_of_ne (by omega)
  have run : s.runOp (some op) op.isLong = { t with core := { y with pc := s.core.pc + 4 } } := by
    simp only [Cell.runOp, issues, here, after, inside, did, straight, at_, inCode, Bool.not_true, Bool.and_false, Bool.or_false,
      Bool.false_eq_true, if_false, and_self, if_true]
  rw [opCell, running, if_neg Bool.false_ne_true, run]
  exact Cell.runStep_idle still

end

/-! ### Loads and stores (R301, R329) -/

theorem Cell.coreLoad_sram {s : Cell} {a m : Nat} (aligned : a % m = 0) (sram : cellSram a = true) (readable : s.bad a = false) :
    s.coreLoad a m = .inl (s.rdLe a m) := by
  simp [Cell.coreLoad, aligned, sram, readable]

theorem Cell.wrLe_eq (s : Cell) (a v n : Nat) : s.wrLe a v n = { s with mem := (s.wrLe a v n).mem } := by
  induction n generalizing s a v with
  | zero => rfl
  | succ n ih => exact ih { s with mem := Tab.set 0 a (BitVec.ofNat 8 v) s.mem } (a + 1) (v / 256)

/-- What is written are the low bytes, whatever the memory is part of. -/
theorem Cell.mem_wrLe (s : Cell) (x : Ctx) (a v n : Nat) : ({ s with core := x }.wrLe a (v % 256 ^ n) n).mem = (s.wrLe a v n).mem := by
  induction n generalizing s a v with
  | zero => rfl
  | succ n ih =>
    have low : BitVec.ofNat 8 (v % 256 ^ (n + 1)) = BitVec.ofNat 8 v := by
      simpa using byte_of_low v (n + 1) 0 (by omega)
    have high : v % 256 ^ (n + 1) / 256 = v / 256 % 256 ^ n := by rw [Nat.pow_succ', Nat.mod_mul_right_div_self]
    rw [Cell.wrLe, Cell.wrLe, low, high]
    exact ih { s with mem := Tab.set 0 a (BitVec.ofNat 8 v) s.mem } (a + 1) (v / 256)

theorem Cell.coreStore_sram {s : Cell} {a v m : Nat} (aligned : a % m = 0) (sram : cellSram a = true) (readable : s.bad a = false) :
    s.coreStore a v m = .inl ((s.wrLe a v m).setErrs a 0) := by
  simp [Cell.coreStore, Cell.store, aligned, sram, readable]

/-- A store in the SRAMs of a cell core: its bytes, the word repaired, and the next instruction. -/
theorem opDo_cellStore {k : Cell} {x : Ctx} {fn : StoreFn} {rd ra : Gpr} {v : BitVec 16} (even : ¬ (fn = .d ∧ rd.getLsbD 0 = true))
    (aligned : effAddr x ra v % fn.size = 0) (sram : cellSram (effAddr x ra v) = true) (readable : k.bad (effAddr x ra v) = false)
    (next : (x.pc.zeroExtend 32 + 4).toNat < 0x10000) :
    let moved : Cell := { k with core := { x with pc := (x.pc.zeroExtend 32 + 4).extractLsb' 0 16 } }
    k.opDo x (.store fn rd ra v) = .done ((moved.wrLe (effAddr x ra v) (x.stored fn rd) fn.size).setErrs (effAddr x ra v) 0) := by
  intro moved
  change (if fn = .d ∧ rd.getLsbD 0 = true then _ else
    match moved.coreStore (effAddr x ra v) (x.stored fn rd) fn.size with
      | .inl t => if (x.pc.zeroExtend 32 + 4).toNat < 0x10000 then CellDid.done t else .go t x (x.pc.zeroExtend 32 + 4)
      | .inr cause => .exc cause) = _
  rw [if_neg even, Cell.coreStore_sram (s := moved) aligned sram readable]
  exact if_pos next

/-- Settles O40: a load finds the bytes of the SRAM, a store writes its own and repairs the word. -/
theorem cellCoreLoadsAndStores : Obligations.Cell_core_loads_and_stores := by
  intro s m rd ra v ready k x a low sram readable
  have still : k.stepOk = false := by
    obtain ⟨-, -, -, -, -, -, still, -⟩ := ready
    exact still
  constructor
  · intro p listed aligned pair
    obtain ⟨fn, named, size, takes⟩ : ∃ fn : LoadFn, exec p.1 s = .next (s.setCell m (opCell (.load fn rd ra v) k)) ∧ p.2.1 = fn.size ∧
        ∀ w, p.2.2 w = { x.loaded fn rd w with pc := x.pc + 4 } := by
      revert p
      simp only [List.forall_mem_cons]
      exact ⟨fun _ _ => ⟨.w, rfl, rfl, fun _ => rfl⟩, fun _ _ => ⟨.h, rfl, rfl, fun _ => rfl⟩, fun _ _ => ⟨.hu, rfl, rfl, fun _ => rfl⟩,
        fun _ _ => ⟨.b, rfl, rfl, fun _ => rfl⟩, fun _ _ => ⟨.bu, rfl, rfl, fun _ => rfl⟩, fun _ _ => ⟨.d, rfl, rfl, fun _ => rfl⟩,
        List.forall_mem_nil _⟩
    rw [size] at aligned pair ⊢
    have even : ¬ (fn = .d ∧ rd.getLsbD 0 = true) := fun ⟨h, odd⟩ => Bool.false_ne_true ((pair (by rw [h]; rfl)).symm.trans odd)
    have did : k.opDo x (.load fn rd ra v) = .go k (x.loaded fn rd (k.rdLe a fn.size)) (x.pc.zeroExtend 32 + 4) := by
      change (if fn = .d ∧ rd.getLsbD 0 = true then _ else match k.coreLoad a fn.size with
        | .inl w => CellDid.go k (x.loaded fn rd w) _ | .inr cause => .exc cause) = _
      rw [if_neg even, Cell.coreLoad_sram aligned sram readable]
      rfl
    rw [named, cell_op_next ready did rfl still, takes]
  · intro p listed aligned pair
    obtain ⟨fn, named, size, source⟩ : ∃ fn : StoreFn, exec p.1 s = .next (s.setCell m (opCell (.store fn rd ra v) k)) ∧ p.2.1 = fn.size ∧
        p.2.2 = x.source fn rd := by
      revert p
      simp only [List.forall_mem_cons]
      exact ⟨fun _ _ => ⟨.w, rfl, rfl, rfl⟩, fun _ _ => ⟨.h, rfl, rfl, rfl⟩, fun _ _ => ⟨.b, rfl, rfl, rfl⟩, fun _ _ => ⟨.d, rfl, rfl, rfl⟩,
        List.forall_mem_nil _⟩
    rw [size] at aligned pair ⊢
    have even : ¬ (fn = .d ∧ rd.getLsbD 0 = true) := fun ⟨h, odd⟩ => Bool.false_ne_true ((pair (by rw [h]; rfl)).symm.trans odd)
    obtain ⟨at_, below, -⟩ := cell_next_address ready
    have did := opDo_cellStore even aligned sram readable below
    rw [at_] at did
    rw [named, cell_op_done ready did (by rw [Cell.wrLe_eq]; exact still), Cell.wrLe_eq, Ctx.stored_eq, ← source, Cell.mem_wrLe]
    rfl

end Sys2Proof.Machine
end

section
/-! DOT4 and DOT4C (R313): four products and both pointers. -/

namespace Sys2Proof.Machine

/-! ### Dot products (R313) -/

/-- No word of a range of data SRAM is uncorrectable. -/
theorem dataBad_of_readable {k : Kv} {n a m : Nat} (readable : ∀ i, i < m / 8 → k.bad (sysDmem n + (a - 0x100000) + 8 * i) = false) :
    k.dataBad n a m = none := by
  have found : (List.range (m / 8)).find? (fun i => k.bad (sysDmem n + (a - 0x100000) + 8 * i)) = none :=
    List.find?_eq_none.mpr fun i hi => by rw [readable i (List.mem_range.mp hi)]; decide
  rw [Kv.dataBad, found]
  rfl

/-- The four terms of a DOT form, summed in order. -/
theorem sum_of_four (t : Nat → Int) : (List.range 4).foldl (fun s i => s + t i) 0 = t 0 + t 1 + t 2 + t 3 := by
  simp [List.range_succ]

/-- Both pointers inside the data SRAM, aligned, their words readable. -/
structure Kv.DotReady (k : Kv) (n : Nat) (x : Ctx) (ra rb : Gpr) (la : Nat) : Prop where
  apart : ra ≠ rb
  alignedA : (x.reg ra).toNat % la = 0
  alignedB : (x.reg rb).toNat % 16 = 0
  insideA : inOwnData (x.reg ra).toNat la = true
  insideB : inOwnData (x.reg rb).toNat 16 = true
  readableA : k.dataBad n (x.reg ra).toNat la = none
  readableB : k.dataBad n (x.reg rb).toNat 16 = none

/-- The context after a DOT form whose terms add up to `sum`. -/
def Ctx.dotted (x : Ctx) (ad : BitVec 3) (ra rb : Gpr) (sum : Int) (la : Nat) : Ctx :=
  ((x.loadAcc ad ((x.accOf ad).toInt + sum)).setReg ra (x.reg ra + BitVec.ofNat 32 la)).setReg rb (x.reg rb + 16)

/-- The sum of the four products of a DOT form, each shifted. -/
def Kv.dotSum (k : Kv) (n a b : Nat) (sh : Int) (c : Bool) : Int :=
  (List.range 4).foldl (fun t i => t +
    if c then
      let e := (k.dotEntries n a).getD i (0, 0)
      term (e.1 * k.dataWord n (b + 4 * i)) (e.2 - 31)
    else term (k.dataWord n (a + 4 * i) * k.dataWord n (b + 4 * i)) sh) 0

/-- The shift of coefficient entry `i`. -/
def Kv.entryShift (k : Kv) (n a i : Nat) : Int := sx 6 (bits (k.rdLe (sysDmem n + (a - 0x100000) + 8 * i + 4) 4) 0 6)

theorem dotEntries_getD (k : Kv) (n a : Nat) {i : Nat} (h : i < 4) :
    (k.dotEntries n a).getD i (0, 0) = (k.dataWord n (a + 8 * i), k.entryShift n a i) := by
  simp [Kv.dotEntries, Kv.entryShift, h]

theorem dotSum_words (k : Kv) (n a b : Nat) (sh : Int) :
    let t := fun i => term (k.dataWord n (a + 4 * i) * k.dataWord n (b + 4 * i)) sh
    k.dotSum n a b sh false = t 0 + t 1 + t 2 + t 3 := sum_of_four _

theorem dotSum_entries (k : Kv) (n a b : Nat) (sh : Int) :
    let t := fun i => term (k.dataWord n (a + 8 * i) * k.dataWord n (b + 4 * i)) (k.entryShift n a i - 31)
    k.dotSum n a b sh true = t 0 + t 1 + t 2 + t 3 := by
  intro t
  refine (sum_of_four _).trans ?_
  simp only [if_true, dotEntries_getD k n a (show 0 < 4 by decide), dotEntries_getD k n a (show 1 < 4 by decide),
    dotEntries_getD k n a (show 2 < 4 by decide), dotEntries_getD k n a (show 3 < 4 by decide), t]

/-- A DOT form whose shifts are in range adds its sum to the accumulator. -/
theorem opDot_eq {k : Kv} {n : Nat} {x : Ctx} {op : Op} {ad : BitVec 3} {ra rb : Gpr} {sh : BitVec 6} {c : Bool}
    (dot : k.DotReady n x ra rb (if c then 32 else 16)) (short : op.isLong = false) (small : c = false → sh.toInt ≤ 7)
    (entries : c = true → ∀ i, i < 4 → -24 ≤ ((k.dotEntries n (x.reg ra).toNat).getD i (0, 0)).2 ∧
      ((k.dotEntries n (x.reg ra).toNat).getD i (0, 0)).2 ≤ 7) :
    k.opDot n x op ad ra rb sh c =
      .go (x.dotted ad ra rb (k.dotSum n (x.reg ra).toNat (x.reg rb).toNat sh.toInt c) (if c then 32 else 16))
        (x.pc.zeroExtend 32 + 4) (fun s => { s with free := s.free + 1 }) := by
  obtain ⟨apart, alignedA, alignedB, insideA, insideB, readableA, readableB⟩ := dot
  cases c with
  | false =>
    have inRange : ¬ 7 < sh.toInt := Int.not_lt.mpr (small rfl)
    simp only [if_false, Bool.false_eq_true] at alignedA insideA readableA
    simp only [Kv.opDot, inRange, alignedA, alignedB, insideA, insideB, readableA, readableB, Ctx.advance, apart, Ctx.after, short,
      Bool.false_eq_true, if_false, decide_false, Bool.not_false, Bool.and_false, Bool.false_and, Bool.not_true, ne_eq, not_true_eq_false,
      Option.or_none]
    rfl
  | true =>
    have inRange : ((List.range 4).any fun i => !k.bad (sysDmem n + ((x.reg ra).toNat - 0x100000) + 8 * i) &&
        decide (((k.dotEntries n (x.reg ra).toNat).getD i (0, 0)).2 < -24 ∨ 7 < ((k.dotEntries n (x.reg ra).toNat).getD i (0, 0)).2)) = false := by
      rw [List.any_eq_false]
      intro i hi
      have := entries rfl i (List.mem_range.mp hi)
      rw [Bool.and_eq_true, decide_eq_true_eq]
      omega
    simp only [if_true] at alignedA insideA readableA
    simp only [Kv.opDot, inRange, alignedA, alignedB, insideA, insideB, readableA, readableB, Ctx.advance, apart, Ctx.after, short,
      Bool.false_eq_true, if_false, if_true, Bool.not_true, Bool.false_and, Bool.and_false, ne_eq, not_true_eq_false,
      Option.or_none]
    rfl

/-- An instruction that uses one free value, and else only its context. -/
theorem opKv_freed {k : Kv} {n : Nat} {op : Op} {y : Ctx} (ready : k.ready n)
    (did : k.opDo n (k.ctxOf n) (k.running n) op =
      .go y ((k.running n).pc.zeroExtend 32 + 4) (fun s => { s with free := s.free + 1 })) :
    opKv n op k = { k.withCtx n { y with pc := (k.running n).pc + 4 } with free := k.free + 1 } :=
  (kv_op_next ready did).trans (runSteps_of_issuing ready rfl)

/-- Settles O41. -/
theorem dotProducts : Obligations.Dot_products := by
  intro s c n ad ra rb sh live ready k x a b w shifted ends apart alignedB lowA highA lowB highB readableA readableB
  have pointers {la : Nat} (small : la ≤ 32) (aligned : a % la = 0) : k.DotReady n.toNat x ra rb la :=
    ⟨apart, aligned, alignedB, decide_eq_true ⟨lowA, by omega⟩, decide_eq_true ⟨lowB, highB⟩,
      dataBad_of_readable fun i h => readableA i (by omega), dataBad_of_readable readableB⟩
  constructor
  · intro alignedA small t
    have did := opDot_eq (op := .dot4 ad ra rb sh) (ad := ad) (c := false) (pointers (by decide) alignedA) rfl (fun _ => small) nofun
    rw [dotSum_words] at did
    exact exec_live live rfl (opKv_freed ready ((opDo_dot4 ..).trans did))
  · intro entry t alignedA entries
    have did := opDot_eq (op := .dot4c ad ra rb) (ad := ad) (sh := 0) (c := true) (pointers (by decide) alignedA) rfl nofun
      (fun _ i h => dotEntries_getD k n.toNat a h ▸ entries i h)
    rw [dotSum_entries] at did
    exact exec_live live rfl (opKv_freed ready ((opDo_dot4c ..).trans did))

end Sys2Proof.Machine
end

section
/-! TICKWAIT and its end, on a chip's core and on a cell core (R317, R331). -/

namespace Sys2Proof.Machine

/-- An instruction of a chip's core that is done with everything itself. -/
theorem kv_op_done {k t : Kv} {n : Nat} {op : Op} (ready : k.ready n) (did : k.opDo n (k.ctxOf n) (k.running n) op = .done t) :
    opKv n op k = t.runSteps := by
  rw [opKv, ready.1, if_neg Bool.false_ne_true, runOp_of_did ready, did]

theorem opKv_tickwait {k : Kv} {n : Nat} (ready : k.ready n) (ra : Gpr) (mode : Bool) :
    let x := k.running n
    opKv n (.tickwait ra mode) k = k.withCtx n
      (if k.waitOver x mode (x.reg ra) then { x with c := true, pc := x.pc + 4 } else { x with wait := some (mode, x.reg ra) }) := by
  intro x
  by_cases past : k.waitOver x mode (x.reg ra) = true
  · have did := (opDo_tickwait (k := k) (n := n) (c := k.ctxOf n) (x := x) ra mode).trans (if_pos past)
    rw [if_pos past]
    exact (kv_op_next ready did).trans (runSteps_withCtx ready _)
  · have did := (opDo_tickwait (k := k) (n := n) (c := k.ctxOf n) (x := x) ra mode).trans (if_neg past)
    rw [if_neg past]
    exact (kv_op_done ready did).trans (runSteps_withCtx ready _)

theorem opCell_tickwait {q : Cell} (ready : q.ready) (ra : Gpr) (mode : Bool) :
    let v := q.core.reg ra
    opCell (.tickwait ra mode) q = { q with
      free := q.free + 1
      core := if q.waitOver mode v then { q.core with c := true, pc := q.core.pc + 4 } else { q.core with wait := some (mode, v) }
      waitT := if q.waitOver mode v then q.waitT else 5 * (q.gen.bT : Int) + 4 * v.toInt } := by
  intro v
  have still : q.stepOk = false := by
    obtain ⟨-, -, -, -, -, -, still, -⟩ := ready
    exact still
  have comes : q.opDo q.core (.tickwait ra mode) =
      if q.waitOver mode v then .go { q with free := q.free + 1 } { q.core with c := true } (q.core.pc.zeroExtend 32 + 4)
      else .done { q with free := q.free + 1, waitT := 5 * (q.gen.bT : Int) + 4 * v.toInt, core := { q.core with wait := some (mode, v) } } := rfl
  by_cases past : q.waitOver mode v = true
  · simp only [past, if_true] at comes ⊢
    exact cell_op_next ready comes rfl still
  · simp only [past] at comes ⊢
    exact cell_op_done ready comes still

/-- The context of a chip's core goes on behind the instruction at `pc`, where that is an address of an instruction. -/
theorem goOn_next (k : Kv) (n : Nat) (x : Ctx) {pc : BitVec 16} (aligned : pc.toNat % 4 = 0) (below : pc.toNat < 0xFFFC) :
    k.goOn n (k.ctxOf n) x (pc.zeroExtend 32 + 4) = k.withCtx n { x with pc := pc + 4 } := by
  have next : (pc.zeroExtend 32 + 4).toNat = pc.toNat + 4 := by
    have four : (4 : BitVec 32).toNat = 4 := rfl
    simp only [BitVec.toNat_add, BitVec.truncate_eq_setWidth, BitVec.toNat_setWidth, four]
    omega
  have low : (pc.zeroExtend 32 + 4).extractLsb' 0 16 = pc + 4 := by
    apply BitVec.eq_of_toNat_eq
    rw [BitVec.extractLsb'_toNat, next]
    simp
  have code : (pc.zeroExtend 32 + 4).toNat < 0x10000 ∧ (pc.zeroExtend 32 + 4).toNat % 4 = 0 := by omega
  rw [Kv.goOn, Kv.goAfter, low, if_pos (.inl code)]
  rfl

/-- The instant that a waiting context waits for has come: it goes on behind the TICKWAIT with C clear. -/
theorem tickwaitCompleteKv_goes {k : Kv} {n : Nat} {mode : Bool} {v : Word} (running : k.coreHalted n = false)
    (going : (k.running n).stopped = false) (waits : (k.running n).wait = some (mode, v)) (aligned : (k.running n).pc.toNat % 4 = 0)
    (below : (k.running n).pc.toNat < 0xFFFC) (past : k.waitOver (k.running n) mode v = true) :
    tickwaitCompleteKv n k = k.withCtx n { k.running n with wait := none, c := false, pc := (k.running n).pc + 4 } := by
  have comes : tickwaitCompleteKv n k =
      match (k.running n).wait with
      | some (mode, v) =>
        if k.coreHalted n || (k.running n).stopped || !k.waitOver (k.running n) mode v then k
        else k.goOn n (k.ctxOf n) { k.running n with wait := none, c := false } ((k.running n).pc.zeroExtend 32 + 4)
      | none => k := rfl
  rw [comes, waits]
  simp only [running, going, past, Bool.not_true, Bool.or_false, Bool.false_eq_true, if_false]
  exact goOn_next k n _ aligned below

theorem tickwaitCompleteCell_goes {q : Cell} {mode : Bool} {v : Word} (runs : q.runs = true) (prog : q.progOn = true)
    (running : q.on Kc.CC_DSTAT.HALTED = false) (waits : q.core.wait = some (mode, v)) (inside : q.core.pc ≠ 0xFFFC)
    (due : q.waitDue mode v = true) :
    tickwaitCompleteCell q = { q with core := { q.core with wait := none, c := false, pc := q.core.pc + 4 } } := by
  rw [tickwaitCompleteCell, waits]
  simp only [runs, prog, running, due, Bool.and_self, Bool.not_true, Bool.or_false, Bool.false_eq_true, if_false]
  exact if_neg inside

theorem waitDue_true {q : Cell} {mode : Bool} {v : Word}
    (come : if mode then q.waitT < 5 * ((q.gen.bT + q.tickUnits : Nat) : Int) else q.waitOver false v = true) : q.waitDue mode v = true := by
  cases mode with
  | false => simpa [Cell.waitDue] using come
  | true => simpa [Cell.waitDue] using come

/-- Settles O42: TICKWAIT by whether its instant has come; its end leaves the context behind it. -/
theorem waitingForTicks : Obligations.Waiting_for_ticks := by
  intro s c n m ra mode k x q
  exact ⟨fun live ready => exec_live live rfl (opKv_tickwait ready ra mode), fun ready => exec_cell rfl (opCell_tickwait ready ra mode),
    fun v live running going waits aligned below past =>
      exec_live live rfl (tickwaitCompleteKv_goes running going waits aligned below past),
    fun v runs prog running waits inside come => exec_cell rfl (tickwaitCompleteCell_goes runs prog running waits inside (waitDue_true come))⟩

end Sys2Proof.Machine
end

section
/-! POST, TAKE, YIELD, FLOWEND and LEDG (R318 to R321, R323). -/

namespace Sys2Proof.Machine

/-! ### POST (R318) -/

/-- A counter that serves the tick and stands above 1 goes down by 1. -/
def Kv.cntDown (k : Kv) (j t : Nat) : Kv :=
  { k.wr Kv.DSP_CNTj.VAL (k.rd Kv.DSP_CNTj.VAL j - 1) j with dsp := { k.dsp with cntTick := Tab.set 0 j (t + 1) k.dsp.cntTick } }

theorem issuing_cntDown (k : Kv) (j t : Nat) : (k.cntDown j t).issuing = k.issuing := by
  have apart : Kv.DBG_TRC.EN.key 0 0 ≠ Kv.DSP_CNTj.VAL.key j 0 := by
    simp only [Fld.key, Kv.DSP_CNTj.VAL, Kv.DBG_TRC.EN]
    omega
  exact issuing_wr k _ apart

theorem cntDec_loaded {k : Kv} {j t : Nat} (enabled : k.on Kv.DSP_CNTj.EN j = true) (loaded : 1 < k.rd Kv.DSP_CNTj.VAL j)
    (serves : Tab.get 0 j k.dsp.cntTick = t + 1) : k.cntDec j t = k.cntDown j t := by
  have same : (Tab.get 0 j k.dsp.cntTick != 0 && Tab.get 0 j k.dsp.cntTick != t + 1) = false := by rw [serves]; simp
  have value : k.rd Kv.DSP_CNTj.VAL j ≠ 0 := by omega
  simp only [Kv.cntDec, enabled, same, Kv.when_false, value, or_false, Bool.not_true, Bool.false_eq_true, if_false]
  exact if_neg (by omega)

theorem opKv_post {k : Kv} {n j : Nat} {ra : Gpr} (ready : k.ready n) (counter : ((k.running n).reg ra).toNat = j) (real : j < 256)
    (enabled : k.on Kv.DSP_CNTj.EN j = true) (loaded : 1 < k.rd Kv.DSP_CNTj.VAL j)
    (serves : Tab.get 0 j k.dsp.cntTick = (k.running n).tick.toNat + 1) :
    opKv n (.post ra) k = (k.withCtx n { k.running n with pc := (k.running n).pc + 4 }).cntDown j (k.running n).tick.toNat := by
  have did : k.opDo n (k.ctxOf n) (k.running n) (.post ra) = .go (k.running n) ((k.running n).pc.zeroExtend 32 + 4)
      (fun s => (s.cntDec j (k.running n).tick.toNat).traceWord n) := by
    simp only [opDo_post, counter, enabled, if_neg (Nat.not_le.mpr real), Bool.not_true, Bool.false_eq_true, if_false]
    rfl
  rw [kv_op_next ready did, cntDec_loaded (k := k.withCtx n _) enabled loaded serves]
  exact runSteps_of_ready ready (issuing_cntDown ..)

/-! ### LEDG (R323) -/

/-- A range joins the ledger's marks on the duty of now or of tick `t`. -/
def Kv.ledgMarked (k : Kv) (t : Nat) (r : Range) : Kv :=
  if k.duty || k.epochDuty t then { k with cas := { k.cas with marks := k.cas.marks ++ [r] } } else k

theorem issuing_ledgMarked (k : Kv) (t : Nat) (r : Range) : (k.ledgMarked t r).issuing = k.issuing := by
  rw [Kv.ledgMarked]
  split <;> rfl

theorem opLedg_data {k : Kv} {n a len : Nat} {x : Ctx} {ra rb : Gpr} (addr : (x.reg ra).toNat = a) (size : (x.reg rb).toNat = len)
    (inside : inOwnData a len = true) (aligned : a % 8 = 0) (whole : len % 8 = 0) (some_ : 0 < len) (most : len ≤ 4096) :
    k.opLedg n x (.ledg ra rb) ra rb = .go x (x.pc.zeroExtend 32 + 4) (fun s => (s.ledgMarked x.tick.toNat
      { addr := sysDmem n + (a - 0x100000), len := len, task := (x.item.extractLsb' 24 8).toNat, tick := x.tick.toNat
        ended := !x.busy }).traceWord n) := by
  have length : ¬ (a % 8 ≠ 0 ∨ len % 8 ≠ 0 ∨ len = 0 ∨ 4096 < len) := by omega
  have place : ledgAddr n a len = some (sysDmem n + (a - 0x100000)) := if_pos inside
  simp only [Kv.opLedg, addr, size, place, if_neg (show len ≠ 0 by omega), if_neg length]
  rfl

/-! ### YIELD and FLOWEND (R320, R321) -/

/-- The item `i` holds its flow `f`. -/
theorem opDo_flowend_held {k : Kv} {n c f : Nat} {x : Ctx} {i : Item} (runs : (k.core n).item c = some i) (named : i.flow = some f) :
    k.opDo n c x .flowend = .go { x with c := Tab.get 0 f k.dsp.flows == i.task + 1, item := x.item &&& ~~~0x400000 }
      (x.pc.zeroExtend 32 + 4) (fun s => s.freeFlow i) := by
  simp only [opDo_flowend, runs, named]
  rfl

/-- The continuation that YIELD makes of item `i`. -/
def Kv.continuation (k : Kv) (i : Item) (pc : BitVec 16) (arg : Word) : Item :=
  { i with entry := pc, arg := arg, cont := true, order := k.dsp.orders
           held := match i.flow with | some f => Tab.get 0 f k.dsp.flows == i.task + 1 | none => false }

theorem yieldItem_eq {k : Kv} {n : Nat} {i : Item} (pc : BitVec 16) (arg : Word) (runs : (k.core n).item (k.ctxOf n) = some i) :
    let e := k.endItem n (k.ctxOf n) false
    k.yieldItem n pc arg =
      ({ e with dsp := { e.dsp with ready := e.dsp.ready ++ [k.continuation i pc arg], orders := e.dsp.orders + 1 } } : Kv).nextItem n := by
  rw [Kv.yieldItem, runs]
  rfl

/-- Settles O43: each instruction by what it comes to; a count and a mark leave no core to be stepped. -/
theorem dispatchInstructions : Obligations.Dispatch_instructions := by
  intro s c n ra rb live ready k x moved j a len
  refine ⟨fun real enabled loaded serves => exec_live live rfl (opKv_post ready rfl real enabled loaded serves),
    exec_live live rfl (kv_op_done ready opDo_take), fun i runs => ?_, fun i f runs named => ?_, fun low high aligned whole some_ most => ?_⟩
  · have done := kv_op_done ready (opDo_yield ra)
    rw [yieldItem_eq _ _ runs] at done
    exact exec_live live rfl done
  · exact exec_live live rfl (kv_op_next ready (opDo_flowend_held runs named))
  · have did := opLedg_data (k := k) (n := n.toNat) (x := x) rfl rfl (decide_eq_true ⟨low, high⟩) aligned whole some_ most
    exact exec_live live rfl ((kv_op_next ready ((opDo_ledg ..).trans did)).trans (runSteps_of_ready ready (issuing_ledgMarked ..)))

end Sys2Proof.Machine
end

section
/-! MFC and MTC, RTT, CLRQ and FENCE (R289, R290, R324, R326). -/

namespace Sys2Proof.Machine

/-- A change of what the contexts of a core share steps no core. -/
theorem runSteps_onCore {k : Kv} {n : Nat} (ready : k.ready n) (y : Ctx) (f : CoreSt → CoreSt) (same : ∀ q, (f q).stepOk = q.stepOk) :
    ((k.withCtx n y).onCore n f).runSteps = (k.withCtx n y).onCore n f := by
  obtain ⟨-, -, -, -, -, -, still, -⟩ := ready
  refine runSteps_none fun i => ?_
  have before := stepOk_withCtx n y still i
  by_cases own : i = n
  · subst own
    simpa [Kv.onCore, Kv.core, same] using before
  · simpa [Kv.onCore, Kv.core, Tab.get_upd_ne _ _ _ own] using before

/-- The control registers by number (R289). -/
theorem ctrl_eq (k : Kv) (n c : Nat) (x : Ctx) {num : Nat} (h : num < 12) :
    k.ctrl n c x num = [x.status c, x.tpc, x.twhy, x.taddr, (k.core n).tbase, x.item, x.arg, x.tick.extractLsb' 0 32,
      (k.core n).cyc + BitVec.ofNat 32 (Config.unstated k.free), (k.core n).scratch,
      BitVec.ofNat 32 (n + b2n k.roleB * 64 + b2n k.duty * 128), x.tstat].getD num 0 := by
  interval_cases num <;> rfl

theorem opMfc_reads {k : Kv} {n c : Nat} {x : Ctx} {num : BitVec 5} (rd : BitVec 5) (priv : x.priv = true) (h : num.toNat < 12) :
    k.opMfc n c x (.mfc rd num) rd num =
      .go (x.setReg rd (k.ctrl n c x num.toNat)) (x.pc.zeroExtend 32 + 4) (fun s => { s with free := s.free + 1 }) := by
  rw [Kv.opMfc, if_neg (Nat.not_le.mpr h), priv]
  rfl

theorem opDo_rtt_leaves {k : Kv} {n c : Nat} {x : Ctx} (adv : Bool) (inTrap : x.tl = true) (priv : x.priv = true) :
    k.opDo n c x (.rtt adv) = .go (x.leaveTrap adv).1 (x.leaveTrap adv).2 id := by
  simp only [opDo_rtt, inTrap, priv, Bool.not_true, Bool.false_eq_true, if_false]

/-- Settles O45: each control register is read by its number and written by its own clause; RTT goes on where the trap left. -/
theorem controlRegistersAndReturn : Obligations.Control_registers_and_return := by
  intro s r c n rd ra k x v cx next
  refine ⟨fun ready => ⟨next_short (op := .clrq) ready rfl (r.has_of_inTisC rfl) rfl,
      next_short (op := .fence) ready rfl (r.has_of_inTisC rfl) rfl⟩,
    fun live ready priv => ⟨fun num real => ?_, ?_, fun adv => ?_⟩⟩
  · intro w
    have did := opMfc_reads (k := k) (n := n.toNat) (c := cx) rd priv real
    rw [ctrl_eq _ _ _ _ real] at did
    exact exec_live live rfl (opKv_freed ready ((opDo_mfc ..).trans did))
  · have allowed : ¬ (!x.priv) = true := by rw [priv]; decide
    have own {num : BitVec 5} {y : Ctx} (did : k.opMtc n.toNat cx x (.mtc num ra) num ra = .go y (x.pc.zeroExtend 32 + 4) id) :
        exec (.mtc (.kv c n) num ra) s = .next (s.setChip c (next y)) :=
      exec_live live rfl ((kv_op_next ready ((opDo_mtc ..).trans did)).trans (runSteps_withCtx ready _))
    have shared {num : BitVec 5} {f : CoreSt → CoreSt} (same : ∀ q, (f q).stepOk = q.stepOk)
        (did : k.opMtc n.toNat cx x (.mtc num ra) num ra = .go x (x.pc.zeroExtend 32 + 4) (fun s => s.onCore n.toNat f)) :
        exec (.mtc (.kv c n) num ra) s = .next (s.setChip c ((next x).onCore n.toNat f)) :=
      exec_live live rfl ((kv_op_next ready ((opDo_mtc ..).trans did)).trans (runSteps_onCore ready _ f same))
    simp only [List.forall_mem_cons]
    refine ⟨own ?_, own ?_, own ?_, own ?_, shared (fun _ => rfl) ?_, shared (fun _ => rfl) ?_, shared (fun _ => rfl) ?_, own ?_,
      List.forall_mem_nil _⟩ <;>
      (rw [Kv.opMtc, if_neg (by decide), if_neg allowed]; rfl)
  · intro t inTrap below aligned
    have did := kv_op_go ready (opDo_rtt_leaves (c := cx) adv inTrap priv) ⟨below, aligned⟩
    exact exec_live live rfl (did.trans (runSteps_withCtx ready _))
end Sys2Proof.Machine
end

section
/-! Exceptions of a chip's core (R325, R326, R328): one rule takes them all, where the count goes on and the vector lies in the code. -/

namespace Sys2Proof.Machine

/-! ### Taking an exception (R326) -/

/-- What an exception without an uncorrectable word leaves outside a handler, where the vector is in the code and Cn_XCNT counts on. -/
def Kv.trapped (k : Kv) (n : Nat) (long : Bool) (e : Exc) : Kv :=
  let x := k.running n
  let y := x.enterTrap (k.ctxOf n) (k.core n).tbase (x.pc.zeroExtend 32) e.cause e.data long e.code (e.addr.getD (Config.unstated k.free))
  { (k.wr Kv.Cn_XCNT.EXC (k.rd Kv.Cn_XCNT.EXC n + 1) n).withCtx n y with olcDirty := true, free := k.free + 1 }

/-- Core `n` takes exceptions plainly: outside a handler, its count below the last value, every vector in the code. -/
def Kv.trapsPlainly (k : Kv) (n : Nat) : Prop :=
  (k.running n).tl = false ∧ k.rd Kv.Cn_XCNT.EXC n + 1 < Kv.Cn_XCNT.EXC.max ∧ (k.core n).tbase.toNat + 0x40 * 15 < 0x10000

theorem count_below {k : Kv} {f sat : Fld} {src i : Nat} (below : k.rd f i + 1 < f.max) :
    k.count f sat src i = k.wr f (k.rd f i + 1) i := by
  simp only [Kv.count, Kv.bump, if_neg (show k.rd f i ≠ f.max by omega), if_neg (Nat.ne_of_lt below), Bool.false_eq_true, if_false]

theorem vector_inside {tbase : Word} {cause : Nat} (room : tbase.toNat + 0x40 * 15 < 0x10000) (real : cause < 16) :
    (tbase + BitVec.ofNat 32 (0x40 * cause)).toNat < 0x10000 := by
  rw [BitVec.toNat_add, BitVec.toNat_ofNat]
  omega

/-- Counting an exception leaves the running context. -/
theorem withCtx_counted (k : Kv) (n v : Nat) (y : Ctx) :
    (k.wr Kv.Cn_XCNT.EXC v n).withCtx n y = (k.withCtx n y).wr Kv.Cn_XCNT.EXC v n := by
  have apart : Kv.Cn_STAT.CTX.key n 0 ≠ Kv.Cn_XCNT.EXC.key n 0 := by
    simp only [Fld.key, Fld.addr, Kv.Cn_XCNT.EXC, Kv.Cn_STAT.CTX]
    omega
  rw [Kv.withCtx, Kv.ctxOf, Kv.rd_wr_ne _ _ apart]
  rfl

theorem takeTrap_plainly {k : Kv} {n : Nat} {long : Bool} {e : Exc} (plain : k.trapsPlainly n) (known : e.unc = none)
    (real : e.cause < 16) : k.takeTrap n (k.ctxOf n) ((k.running n).pc.zeroExtend 32) long e = k.trapped n long e := by
  obtain ⟨outside, below, room⟩ := plain
  have inside := vector_inside room real
  have outside : ((k.core n).ctx (k.ctxOf n)).tl = false := outside
  have same := withCtx_counted k n (k.rd Kv.Cn_XCNT.EXC n + 1)
  rw [Kv.takeTrap, count_below below, known, Kv.trapped]
  simp only [same]
  have still : ({ k.wr Kv.Cn_XCNT.EXC (k.rd Kv.Cn_XCNT.EXC n + 1) n with olcDirty := true } : Kv).core n = k.core n := rfl
  simp only [still, outside, inside, Bool.false_eq_true, if_false, if_true]
  rfl

theorem issuing_trapped (k : Kv) (n : Nat) (long : Bool) (e : Exc) : ∃ y, (k.trapped n long e).issuing = (k.withCtx n y).issuing := by
  have apart : Kv.DBG_TRC.EN.key 0 0 ≠ Kv.Cn_XCNT.EXC.key n 0 := by
    simp only [Fld.key, Fld.addr, Kv.Cn_XCNT.EXC, Kv.DBG_TRC.EN]
    omega
  rw [Kv.trapped, withCtx_counted]
  exact ⟨_, issuing_wr _ _ apart⟩

/-- An instruction that raises an exception takes it. -/
theorem kv_op_exc {k : Kv} {n : Nat} {op : Op} {e : Exc} (ready : k.ready n) (plain : k.trapsPlainly n)
    (did : k.opDo n (k.ctxOf n) (k.running n) op = .exc e) (known : e.unc = none) (real : e.cause < 16) :
    opKv n op k = k.trapped n op.isLong e := by
  obtain ⟨y, same⟩ := issuing_trapped k n op.isLong e
  rw [opKv, ready.1, if_neg Bool.false_ne_true, runOp_of_did ready, did]
  exact (congrArg Kv.runSteps (takeTrap_plainly plain known real)).trans (runSteps_of_issuing ready same)

theorem runOp_unspelled {k : Kv} {n : Nat} (ready : k.ready n) (long : Bool) :
    k.runOp n none long = k.takeTrap n (k.ctxOf n) ((k.running n).pc.zeroExtend 32) long { cause := 1 } := by
  obtain ⟨-, issues, -, low, word, next, -, -⟩ := ready
  have inside : ((k.core n).ctx (k.ctxOf n)).pc ≠ 0xFFFC#16 := by
    intro e; rw [e] at low; exact absurd low (by decide)
  unfold Kv.runOp
  simp only [issues, Bool.not_true, Bool.false_eq_true, if_false, word, next, Bool.and_false, beq_iff_eq, inside, Bool.and_eq_true, and_false]
  rfl

theorem coreLoad_nowhere {k : Kv} {n a : Nat} (even : a % 4 = 0) (nowhere : corePlace n a = .none) :
    k.coreLoad n a LoadFn.w.size = .inr { cause := 5, addr := some a } := by
  rw [Kv.coreLoad, nowhere]
  exact if_neg (not_not_intro even)

theorem coreStore_nowhere {k : Kv} {n a v : Nat} {priv : Bool} (even : a % 4 = 0) (nowhere : corePlace n a = .none) :
    k.coreStore n a v StoreFn.w.size priv = .inr { cause := 5, addr := some a } := by
  rw [Kv.coreStore, nowhere]
  exact if_neg (not_not_intro even)

theorem opDo_load_exc {k : Kv} {n : Nat} {x : Ctx} {rd ra : Gpr} {v : BitVec 16} {e : Exc}
    (fails : k.coreLoad n (effAddr x ra v) LoadFn.w.size = .inr e) :
    k.opDo n (k.ctxOf n) x (.load .w rd ra v) = .exc e := by
  simp only [opDo_load, Kv.opLoad, fails]
  rfl

theorem opDo_store_exc {k : Kv} {n : Nat} {x : Ctx} {rd ra : Gpr} {v : BitVec 16} {e : Exc}
    (fails : k.coreStore n (effAddr x ra v) (x.stored .w rd) StoreFn.w.size x.priv = .inr e) :
    k.opDo n (k.ctxOf n) x (.store .w rd ra v) = .exc e := by
  rw [opDo_store, Kv.opStore, fails]
  rfl

/-- Settles O46: every cause comes to an exception of `opDo`, and an exception is taken by one rule. -/
theorem exceptionsOfAChipCore : Obligations.Exceptions_of_a_chip_core := by
  intro s c n rd ra rb v ad sh f live ready k x tbase cnt a trapped taken outside below room
  have plain : k.trapsPlainly n.toNat := ⟨outside, below, room⟩
  have takes {i : Instr} {op : Op} {cause code : Nat} {addr : Option Nat} (named : exec i s = .next (s.onKv c (opKv n.toNat op)))
      (did : k.opDo n.toNat (k.ctxOf n.toNat) x op = .exc { cause := cause, addr := addr, code := code }) (real : cause < 16)
      (short : op.isLong = false) : exec i s = .next (taken cause code addr) := by
    refine exec_live live named ((kv_op_exc ready plain did rfl real).trans ?_)
    rw [short]
    rfl
  have refuses {i : Instr} {op : Op} (named : exec i s = .next (s.onKv c (opKv n.toNat op))) (own : op.local? = true)
      (bad : op.pure x = some (.trap 1 none)) (short : op.isLong = false) : exec i s = .next (taken 1 0 none) :=
    takes named ((opDo_local own).trans (congrArg (didOf n.toNat x op) bad)) (by decide) short
  have reserved {i : Instr} {op : Op} (named : exec i s = .next (s.onKv c (opKv n.toNat op))) (own : op.local? = true)
      (res : op.reserved = true) (short : op.isLong = false) : exec i s = .next (taken 1 0 none) :=
    refuses named own (if_pos res) short
  refine ⟨fun code => takes rfl (opDo_trap ..) (by decide) rfl,
    fun level => takes rfl (opDo_brk.trans (if_neg fun ⟨same, _⟩ => level same)) (by decide) rfl,
    fun w imm unspelled => ?_, fun odd => ⟨?_, ?_⟩, fun even nowhere => ⟨?_, ?_⟩, fun adv => ?_,
    fun other => reserved (op := .alu .cmp rd ra rb f) rfl rfl (bne_iff_ne.mpr other) rfl,
    fun other => ⟨reserved (op := .acc .extr ad ra rb sh) rfl rfl (bne_iff_ne.mpr other) rfl,
      reserved (op := .acc .extrt ad ra rb sh) rfl rfl (bne_iff_ne.mpr other) rfl⟩,
    fun high => reserved (op := .acc .aadd ad ra rb sh) rfl rfl (decide_eq_true high) rfl,
    fun other => reserved (op := .acc .extrr ad ra rb sh) rfl rfl (bne_iff_ne.mpr other) rfl,
    fun high => refuses (op := .mac .mac ad ra rb sh) rfl rfl ?_ rfl,
    fun low => refuses (op := .acc .mova ad ra rb sh) rfl rfl ?_ rfl⟩
  · have halted : k.coreHalted n.toNat = false := ready.1
    refine exec_live live rfl (Eq.trans ?_ ((runOp_unspelled ready (isLongWord w)).trans (takeTrap_plainly plain rfl (by decide))))
    exact if_neg (by rw [unspelled, halted]; decide)
  · exact takes (op := .load .w rd ra v) rfl (opDo_load_exc (if_pos odd)) (by decide) rfl
  · exact takes (op := .store .w rd ra v) rfl (opDo_store_exc (if_pos odd)) (by decide) rfl
  · exact takes (op := .load .w rd ra v) rfl (opDo_load_exc (coreLoad_nowhere even nowhere)) (by decide) rfl
  · exact takes (op := .store .w rd ra v) rfl (opDo_store_exc (coreStore_nowhere even nowhere)) (by decide) rfl
  · exact takes (op := .rtt adv) rfl ((opDo_rtt ..).trans (by rw [outside]; rfl)) (by decide) rfl
  · change (if 7 < sh.toInt then some (Res.trap 1 none) else some (.go (macOp .mac ad (x.reg ra) (x.reg rb) sh x) _)) = _
    exact if_pos high
  · change (if AccFn.mova = .mova ∧ sh.toInt < 0 then some (Res.trap 1 none) else
      match accOp .mova ad ra rb sh x with
        | some y => some (.go y (x.after (.acc .mova ad ra rb sh)))
        | none => some (.trap 7 none)) = _
    exact if_pos ⟨rfl, low⟩
end Sys2Proof.Machine
end

section
/-! Dispatching (R337 to R353, R368): what each command of the dispatcher comes to at its guards. -/

namespace Sys2Proof.Machine

/-! ### Mode requests (R337) -/

theorem later16_iff (a b : Nat) : later16 a b = true ↔ 1 ≤ (a + 65536 - b % 65536) % 65536 ∧ (a + 65536 - b % 65536) % 65536 ≤ 32767 := by
  simp only [later16, decide_eq_true_eq]

section
variable {k : Kv} {m mt : Nat}

theorem modeRequest_past (past : later16 mt k.tick = false) :
    k.modeRequest m mt = (k.wr Kv.DSP_CTRL.MTICK mt).regacc 19 Kv.DSP_CTRL.MREQ.base := by
  have past : later16 mt (k.wr Kv.DSP_CTRL.MTICK mt).tick = false := past
  simp only [Kv.modeRequest, past, Bool.not_false, if_true]

variable (later : later16 mt k.tick = true)
include later

theorem modeRequest_pending (pending : k.dsp.modeReq.isSome = true) :
    k.modeRequest m mt = (k.wr Kv.DSP_CTRL.MTICK mt).regacc 17 Kv.DSP_CTRL.MREQ.base := by
  have later : later16 mt (k.wr Kv.DSP_CTRL.MTICK mt).tick = true := later
  have pending : (k.wr Kv.DSP_CTRL.MTICK mt).dsp.modeReq.isSome = true := pending
  simp only [Kv.modeRequest, later, pending, Bool.not_true, Bool.false_eq_true, if_false, if_true]

variable (none_ : k.dsp.modeReq = none)
include none_

theorem modeRequest_first : k.modeRequest m mt =
    if m ≠ 0 ∧ (k.imgOk = false ∨ k.on Kv.SYS_STAT.HELD = true) then (k.wr Kv.DSP_CTRL.MTICK mt).regacc 17 Kv.DSP_CTRL.MREQ.base
    else { (k.wr Kv.DSP_CTRL.MTICK mt).mark Kv.DSP_STAT.PEND with dsp := { k.dsp with modeReq := some (m, tickFrom k.tick mt) } } := by
  have later : later16 mt (k.wr Kv.DSP_CTRL.MTICK mt).tick = true := later
  have none_ : (k.wr Kv.DSP_CTRL.MTICK mt).dsp.modeReq = none := none_
  have held : (k.wr Kv.DSP_CTRL.MTICK mt).on Kv.SYS_STAT.HELD = k.on Kv.SYS_STAT.HELD := k.on_wr_ne _ (by decide)
  have image : (k.wr Kv.DSP_CTRL.MTICK mt).imgOk = k.imgOk :=
    congrArg (fun p => k.dsp.img.isSome && p == 7) (k.rd_wr_ne mt (F := Kv.SYS_STAT.PHASE) (i := 0) (j := 0) (by decide))
  simp only [Kv.modeRequest, later, none_, held, image, Bool.not_true, Bool.false_eq_true, if_false, Option.isSome_none]
  rfl

end

/-! ### Releases (R338, R340) -/

theorem tickMark_new {m n : Nat} (new : tickDone m n = false) (tick : n < 2 ^ 48) : tickMark m n = n + 1 := by
  rw [tickMark, new, Nat.mod_eq_of_lt tick]
  rfl

theorem t0Release_makes {k : Kv} {n : Nat} (closes : k.on Kv.DSP_T0CFG.CEN = false) (closed : k.closedFor n = true) (runs : k.mode ≠ 0)
    (new : tickDone k.dsp.t0Rel n = false) (noneDue : k.dsp.t0Due = []) (noneRuns : k.dsp.t0Run = none) (noneHeld : k.col.held = [])
    (applied : k.ldgHolds n = false) : t0ReleaseKv n k =
      ({ k with dsp := { k.dsp with t0Due := [], t0Run := some n, t0Rel := tickMark k.dsp.t0Rel n } } : Kv).makeReady 0 n (n % 2 == 1) := by
  have due : k.t0Make n = ({ k with dsp := { k.dsp with t0Due := [n] } } : Kv).t0Try := by
    rw [Kv.t0Make, new, noneDue]
    exact if_neg (by simp [runs])
  rw [t0ReleaseKv, closes, closed, due]
  have try_ : ¬ (k.mode = 0 ∨ tickDone k.dsp.t0Rel n = true) := by simp [runs, new]
  have wait_ : ¬ (k.dsp.t0Run.isSome ∨ (k.col.held.any (fun h => h.tick == n)) = true ∨ k.ldgHolds n = true) := by
    simp [noneRuns, noneHeld, applied]
  exact (if_neg try_).trans (if_neg wait_)

theorem eventRelease_eq {k : Kv} {e : BitVec 5} {n : Nat} (enabled : k.on Kv.DSP_ECFGk.EN e.toNat = true)
    (mode : k.mode = 1 ∨ (k.mode = 2 ∧ k.on Kv.DSP_ECFGk.HOLDRUN e.toNat = true)) :
    eventTaskReleaseKv e.toNat n k =
      if k.dsp.ready.any (fun i => i.task == 64 + e.toNat && !i.cont) then
        (k.count Kv.DSP_ESTATk.LOST Kv.DSP_ESTATk.SAT Src.SYS_SAT e.toNat).raise Src.DSP_ELOST 0 (64 + e.toNat)
      else k.makeReady (64 + e.toNat) n k.bankBound := by
  have small := e.isLt
  have task : ¬ 64 + e.toNat < 64 := by omega
  have real : 64 + e.toNat ≠ 0 := by omega
  have back : 64 + e.toNat - 64 = e.toNat := by omega
  have releases : k.modeReleases (64 + e.toNat) = true := by
    simp only [Kv.modeReleases, Kv.taskOn, Kv.taskHold, if_neg real, if_neg task, back, enabled, Bool.true_and]
    simpa using mode
  have none_ : ¬ (64 + e.toNat = 0 ∨ 96 ≤ 64 + e.toNat ∨ (!k.modeReleases (64 + e.toNat)) = true) := by
    rw [releases]; simp; omega
  rw [eventTaskReleaseKv, Nat.mod_eq_of_lt small, Kv.releaseTask, if_neg none_]
  simp only [if_neg task, Kv.taskCount, if_neg real, back, Bool.false_eq_true, if_false]

/-! ### Stalls, preemption and the switch (R341 to R343) -/

/-- A task whose mask names one core, which serves, may run there alone. -/
theorem cores_single {k : Kv} {t i : Nat} (small : i < 16) (mask : k.taskMask t = 2 ^ i) (serves : k.coreServes i = true) :
    (List.range 16).filter (fun n => bit (k.taskMask t) n && k.coreServes n) = [i] := by
  have only (n : Nat) : (bit (k.taskMask t) n && k.coreServes n) = (n == i) := by
    rw [mask, bit, Nat.testBit_two_pow]
    by_cases same : i = n
    · subst same; simp [serves]
    · simp [same, Ne.symm same]
  simp only [only]
  rw [List.filter_beq, List.count_eq_one_of_mem List.nodup_range (List.mem_range.mpr small)]
  rfl

theorem coreIdle_stalled (k : Kv) (i : Nat) (w : Item) :
    ((k.takeReady w).onCore i (fun z => { z with stall := some w })).coreIdle i = k.coreIdle i := by
  simp [Kv.coreIdle, Kv.coreEmpty, Kv.onCore, Kv.core, Kv.takeReady]

/-- A core without an item starts what its stall holds in the context it runs. -/
theorem nextItem_stall {k : Kv} {i c : Nat} {w : Item} (runs : k.ctxOf i = c) (empty : k.coreEmpty i = true) (on_ : k.ctxOff i c = false)
    (stall : (k.core i).stall = some w) : k.nextItem i =
      ((k.onCore i (fun z => { z with stall := none })).runCtx i c).startItem i c w := by
  obtain ⟨zero, one⟩ : (k.core i).item0 = none ∧ (k.core i).item1 = none := by simpa [Kv.coreEmpty] using empty
  have none_ (c : Nat) : (k.core i).item c = none := by rw [CoreSt.item, zero, one, ite_self]
  simp only [Kv.nextItem, runs, none_, stall, on_, Option.isSome_none, Bool.false_eq_true, if_false]

section
variable {k : Kv} {i : Nat} {w : Item} {rest : List Item} (small : i < 16) (first : k.queue = w :: rest)
  (mask : k.taskMask w.task = 2 ^ i) (serves : k.coreServes i = true)
include small first mask serves

/-- The best item takes the empty stall of the one core it may run on. -/
theorem stallFill_eq (empty : (k.core i).stall = none) :
    let y := (k.takeReady w).onCore i (fun z => { z with stall := some w })
    stallFillKv k = if y.coreIdle i then y.nextItem i else y := by
  have cores := cores_single small mask serves
  have stays : k.withdraw i = k := by rw [Kv.withdraw, empty]
  simp only [stallFillKv, first, List.find?_cons, cores, empty, Option.isNone_none, Option.isSome_some, Bool.true_or, Bool.and_true]
  cases alone : k.coreIdle i <;>
    simp only [Option.getD_some, List.find?_nil, Option.none_or, Option.some_or, stays]

theorem stallFill_busy (empty : (k.core i).stall = none) (busy : k.coreIdle i = false) :
    stallFillKv k = (k.takeReady w).onCore i (fun z => { z with stall := some w }) :=
  (stallFill_eq small first mask serves empty).trans (if_neg (by rw [coreIdle_stalled, busy]; exact Bool.false_ne_true))

theorem stallFill_idle (empty : (k.core i).stall = none) (idle : k.coreIdle i = true) (on_ : k.ctxOff i (k.ctxOf i) = false) :
    stallFillKv k = ((((k.takeReady w).onCore i (fun z => { z with stall := some w })).onCore i (fun z => { z with stall := none })).runCtx i
      (k.ctxOf i)).startItem i (k.ctxOf i) w := by
  have same := (coreIdle_stalled k i w).trans idle
  refine (stallFill_eq small first mask serves empty).trans ((if_pos same).trans ?_)
  rw [Kv.coreIdle, Bool.and_eq_true, Bool.and_eq_true] at same
  exact nextItem_stall rfl same.1.1 on_ (by simp [Kv.onCore, Kv.core])

/-- It takes the other context of that core, and asks for the switch, where the item that runs there stands below it. -/
theorem preemption_eq {r : Item} (may : k.taskPreempts w.task = true) (runs : (k.core i).item (k.ctxOf i) = some r)
    (task : r.task ≠ 0) (below : w.task = 0 ∨ r.prio < w.prio) (other : (k.core i).item (1 - k.ctxOf i) = none)
    (on_ : k.ctxOff i (1 - k.ctxOf i) = false) :
    preemptionKv k = ((k.takeReady w).startItem i (1 - k.ctxOf i) w).onCore i (fun z => { z with swReq := true }) := by
  have cores := cores_single small mask serves
  have busy : k.coreIdle i = false := by
    have some_ : k.coreEmpty i = false := by
      by_contra h
      obtain ⟨zero, one⟩ : (k.core i).item0 = none ∧ (k.core i).item1 = none := by
        simpa [Kv.coreEmpty] using h
      rw [CoreSt.item, zero, one, ite_self] at runs
      exact absurd runs (by simp)
    rw [Kv.coreIdle, some_]
    rfl
  have task : (r.task != 0) = true := bne_iff_ne.mpr task
  have below : (w.task == 0 || decide (r.prio < w.prio)) = true := by simpa using below
  simp only [preemptionKv, first, List.find?_cons, cores, may, busy, runs, other, on_, task, below, List.all_cons, List.all_nil, List.any_cons,
    List.filter_cons, List.foldl_cons, Option.isNone_none, Bool.false_and, Bool.not_false, Bool.true_and, Bool.true_or, if_true,
    List.filter_nil, List.foldl_nil]

end

/-! ### T0's deadline (R348, R351, R352) -/

theorem t0Judged_cntDiscard (k : Kv) (n : Nat) : (k.cntDiscard n).dsp.t0Judged = k.dsp.t0Judged := by
  rw [Kv.cntDiscard]
  refine Kv.each_keeps (·.dsp.t0Judged) ?_ _ _
  exact fun _ _ => rfl

theorem armReferenceDeadline_eq {k : Kv} {n : Nat} (new : tickDone k.dsp.t0Judged n = false) (tick : n < 2 ^ 48) :
    let y := k.cntDiscard n
    let y := { y with dsp := { y.dsp with t0Judged := n + 1 } }
    armReferenceDeadlineKv n k = if tickDone y.dsp.t0End n then y
      else if y.mode = 0 ∧ tickDone y.dsp.t0Rel n = false then (y.wr Kv.DSP_STAT.T0CONS 0).blockRecords (tickPlus n y.lead)
      else y.t0Overrun n := by
  have marks : tickMark (k.cntDiscard n).dsp.t0Judged n = n + 1 := by rw [t0Judged_cntDiscard, tickMark_new new tick]
  simp only [armReferenceDeadlineKv, new, marks, Bool.false_eq_true, if_false]

theorem t0Kill_placed {k : Kv} {n p x : Nat} (runs : k.dsp.t0Run = some n) (judged : tickDone k.dsp.t0Judged (tickPlus n 1) = true)
    (placed : k.t0Place = some (p, x)) (free : k.coreHalted p = false) :
    t0KillKv n k = (((k.count Kv.DSP_T0STAT.KILL Kv.DSP_T0STAT.SAT).endItem p x true).nextItem p).t0Try := by
  simp only [t0KillKv, Kv.killT0, runs, judged, placed, free, and_self, if_true, Bool.false_eq_true, if_false]

theorem coreReset_free {k : Kv} {n : Nat} (zero : (k.core n).item0 = none) (one : (k.core n).item1 = none)
    (stall : (k.core n).stall = none) : coreResetKv n k = k.resetCore n :=
  if_pos (by rw [Kv.coreEmpty, zero, one, stall]; rfl)

/-- A stall item without a flow goes back as it is. -/
theorem withdraw_plain {k : Kv} {i : Nat} {w : Item} (stall : (k.core i).stall = some w) (flow : w.flow = none) :
    k.withdraw i = { k.onCore i (fun y => { y with stall := none }) with
      dsp := { (k.onCore i (fun y => { y with stall := none })).dsp with ready := k.dsp.ready ++ [w] } } := by
  simp only [Kv.withdraw, stall, flow]
  rfl

/-- Settles O48: each command's own equation, at the guards named. -/
theorem dispatchingItems : Obligations.Dispatching_items := by
  intro s c q e n mt live k i goes ahead asked fault item
  have small : i < 16 := q.isLt
  have goesBy {j : Instr} {f : Kv → Kv} {y : Kv} (named : exec j s = .next (s.onKv c f)) (does : f k = y) : goes j y :=
    exec_live live named does
  refine ⟨?_, ?_, ?_, ?_, ?_, ?_, ?_, ?_, ?_, ?_, ?_⟩
  · intro p listed
    have named : exec p.1 s = .next (s.onKv c (Kv.modeRequest p.2 mt.toNat)) := by
      revert p
      simp only [List.forall_mem_cons]
      exact ⟨rfl, rfl, rfl, List.forall_mem_nil _⟩
    have image : k.imgOk = true ↔ k.dsp.img.isSome = true ∧ k.rd Kv.SYS_STAT.PHASE = 7 := by simp [Kv.imgOk]
    refine ⟨fun past => goesBy named (modeRequest_past ?_),
      fun some_ near pends => goesBy named (modeRequest_pending ((later16_iff ..).mpr ⟨some_, near⟩) pends),
      fun some_ near none_ runs unfit => goesBy named ((modeRequest_first ((later16_iff ..).mpr ⟨some_, near⟩) none_).trans (if_pos ?_)),
      fun some_ near none_ fit => goesBy named ((modeRequest_first ((later16_iff ..).mpr ⟨some_, near⟩) none_).trans (if_neg ?_))⟩
    · rw [← Bool.not_eq_true, later16_iff]
      change ¬ (1 ≤ ahead ∧ ahead ≤ 32767)
      omega
    · refine ⟨runs, unfit.elim (fun none_ => .inl ?_) (·.imp_left fun other => ?_)⟩
      · rw [Kv.imgOk, none_]; rfl
      · rw [Kv.imgOk, Bool.and_eq_false_iff]; exact .inr (beq_false_of_ne other)
    · rw [← Bool.not_eq_true, image]
      rintro ⟨runs, h⟩
      obtain ⟨loaded, over_, free⟩ := fit.resolve_left runs
      rw [free] at h
      exact h.elim (fun h => h ⟨loaded, over_⟩) Bool.false_ne_true
  · exact fun asked_ => goesBy rfl (if_pos asked_)
  · intro closes closed runs new noneDue noneRuns noneHeld applied
    refine goesBy rfl ((t0Release_makes closes closed runs new noneDue noneRuns noneHeld applied).trans ?_)
    rw [tickMark_new new n.isLt]
    rfl
  · intro enabled mode
    have released := eventRelease_eq (n := n.toNat) enabled mode
    refine ⟨fun ⟨w, waits, task, first⟩ => goesBy rfl (released.trans (if_pos ?_)),
      fun clear => goesBy rfl (released.trans (if_neg ?_))⟩
    · exact List.any_eq_true.mpr ⟨w, waits, by simp [task, first]⟩
    · simpa using clear
  · intro w rest first mask serves empty y
    exact ⟨fun busy => goesBy rfl (stallFill_busy small first mask serves empty busy),
      fun idle on_ => goesBy rfl (stallFill_idle small first mask serves empty idle on_)⟩
  · intro w r rest first mask may serves runs task below other on_
    exact goesBy rfl (preemption_eq small first mask serves may runs task below other on_)
  · intro new y y'
    have judged := armReferenceDeadline_eq new n.isLt
    refine ⟨fun ended => goesBy rfl (judged.trans (if_pos ended)), fun late begun => ?_, fun late stop unreleased => ?_⟩
    · have live_ : ¬ (y'.mode = 0 ∧ tickDone y'.dsp.t0Rel n.toNat = false) := fun ⟨stop, unreleased⟩ =>
        begun.elim (· stop) (fun released => Bool.false_ne_true (unreleased.symm.trans released))
      refine goesBy rfl (judged.trans ((if_neg (by rw [late]; decide)).trans ((if_neg live_).trans ?_)))
      simp only [Kv.t0Overrun, Kv.when, beq_iff_eq]
      rfl
    · exact goesBy rfl (judged.trans ((if_neg (by rw [late]; decide)).trans (if_pos ⟨stop, unreleased⟩)))
  · intro p x runs judged placed free
    exact goesBy rfl (t0Kill_placed runs judged placed free)
  · intro zero one stall
    exact goesBy rfl (coreReset_free zero one stall)
  · intro busy
    refine goesBy rfl (if_neg ?_)
    rw [Kv.coreEmpty, ← Option.not_isSome, busy]
    exact Bool.false_ne_true
  · intro w stall flow
    exact goesBy rfl (withdraw_plain stall flow)
end Sys2Proof.Machine
end

section
/-! Memory errors, MEM_INIT and the check-value engines (R465 to R478). -/

namespace Sys2Proof.Machine

/-! ### Reads of words with symbols in error (R467, R468) -/

theorem single_symbol : ∀ d < 20, symbols (2 ^ d) = 1 ∧ firstSymbol (2 ^ d) = d := by decide

section
variable {k : Kv} {a e : Nat}

theorem memoryReadCorrected_bad (bad : k.bad a = true) : memoryReadCorrectedKv e a k = k := by
  simp only [memoryReadCorrectedKv, Kv.readCorrected, bad, if_true, Kv.when, ite_self]

theorem readCorrected_one {d : Nat} (readable : k.bad a = false) (real : d < 20) (one : k.sought a e = 2 ^ d) :
    k.readCorrected a e = (k.setErrs a 0).correctedAt a d := by
  obtain ⟨single, which⟩ := single_symbol d real
  simp only [Kv.readCorrected, readable, one, single, which, Bool.false_eq_true, if_false, if_true]

theorem readCorrected_none (few : symbols (k.sought a e) = 0 ∨ symbols (k.sought a e) = 2) : k.readCorrected a e = k := by
  rw [Kv.readCorrected, if_neg (show symbols (k.sought a e) ≠ 1 by omega), if_neg (show ¬ 3 ≤ symbols (k.sought a e) by omega)]
  exact ite_self _

theorem memoryReadCorrected_mapped (mapped : a < k.dramSize ∨ inSram a = true) : memoryReadCorrectedKv e a k = k.readCorrected a e := by
  have mapped : (k.inDram a || inSram a) = true := by simpa [Kv.inDram] using mapped
  rw [memoryReadCorrectedKv, mapped, Kv.when_true]

theorem memoryReadCorrected_none (few : symbols (k.sought a e) = 0 ∨ symbols (k.sought a e) = 2) : memoryReadCorrectedKv e a k = k := by
  simp only [memoryReadCorrectedKv, readCorrected_none few, Kv.when, ite_self]

theorem inDram_of_lt (h : a < k.dramSize) : k.inDram a = true := decide_eq_true h

theorem correctedAt_dram {d : Nat} (dram : a < k.dramSize) : k.correctedAt a d =
    ((((k.mark Kv.MEM_STAT.CORF).wr Kv.MEM_ELOG0.CADDR (memFaultAddr a)).wr Kv.MEM_ELOG2.LDEV d).raise
      Src.MEM_COR 0 (memFaultAddr a)).countDevice d := if_pos (inDram_of_lt dram)

theorem correctedAt_sram {d : Nat} (sram : ¬ a < k.dramSize) : k.correctedAt a d =
    (k.raise Src.SRAM_COR 0 (memFaultAddr a)).count Kv.MEM_ELOG2.SCOR Kv.MEM_ELOG2.SAT Src.SRAM_COR :=
  if_neg (by rw [Kv.inDram, decide_eq_true_eq]; exact sram)

/-- The symbols found stand in an uncorrectable word, which the chip's log names. -/
def Kv.lostAt (k : Kv) (a e : Nat) : Kv := (if k.bad a then k else k.setErrs a e).logUnc a

theorem memoryReadUncorrectable_none (readable : k.bad a = false) (few : symbols (k.sought a e) < 2) (m : Master) :
    memoryReadUncorrectableKv m e a k = k :=
  if_pos (by simp [readable, few])

theorem memoryReadUncorrectable_lost (mapped : a < k.dramSize ∨ (inSram a = true ∧ inRegs a = false))
    (lost : k.bad a = true ∨ 2 ≤ symbols (k.sought a e)) :
    memoryReadUncorrectableKv .other e a k = (k.lostAt a e).raiseUnc a 0 ∧
    memoryReadUncorrectableKv .host e a k = ((k.lostAt a e).send ⟨.pcie, 0, [1]⟩).raiseUnc a 0 ∧
    memoryReadUncorrectableKv .record e a k = (k.lostAt a e).raise Src.SRAM_UNC 0 (memFaultAddr a) ∧
    memoryReadUncorrectableKv .sfe e a k = k.lostAt a e ∧ memoryReadUncorrectableKv .crc e a k = k.lostAt a e := by
  have found : ¬ ((!(k.inDram a || (inSram a && !inRegs a)) || !(k.bad a || decide (2 ≤ symbols (k.sought a e)))) = true) := by
    have mapped : (k.inDram a || (inSram a && !inRegs a)) = true := by simpa [Kv.inDram] using mapped
    have lost : (k.bad a || decide (2 ≤ symbols (k.sought a e))) = true := by simpa using lost
    rw [mapped, lost]
    decide
  exact ⟨if_neg found, if_neg found, if_neg found, if_neg found, if_neg found⟩

end
/-! ### Partial stores and the scrub (R469, R472) -/

section
variable {k : Kv} {a : Nat}

theorem partialStoreMerge_eq {v n : Nat} (mapped : a < k.dramSize ∨ inSram a = true) (small : n < 8) (inside : a % 8 + n ≤ 8) :
    partialStoreMergeKv v n a k = if k.bad a then (k.logUnc a).raiseUnc a 16 else (k.wrLe a v n).setErrs a 0 := by
  have mapped : (k.inDram a || inSram a) = true := by simpa [Kv.inDram] using mapped
  have fits : decide (n < 8 ∧ a % 8 + n ≤ 8) = true := decide_eq_true ⟨small, inside⟩
  have part : decide (n < 8) = true := decide_eq_true small
  simp only [partialStoreMergeKv, mapped, fits, part, Bool.and_true, Kv.when_true, Kv.store, Kv.storeWord, Bool.true_and]

variable (dram : a < k.dramSize)
include dram

theorem patrolScrub_off {e : Nat} {det : Bool} (off : k.rd Kv.MEM_SCRUB.PER = 0) : patrolScrubReadKv e det a k = k := by
  simp only [patrolScrubReadKv, inDram_of_lt dram, off, if_true, bne_self_eq_false, Bool.not_false]

theorem patrolScrub_on {e : Nat} {det : Bool} (on_ : k.rd Kv.MEM_SCRUB.PER ≠ 0) : patrolScrubReadKv e det a k =
    if k.bad a then (k.logUnc a).raiseUnc a 0
    else if symbols (k.sought a e) ≤ 1 then k.readCorrected a e
    else if symbols (k.sought a e) = 2 ∨ det = true then ((k.setErrs a e).logUnc a).raiseUnc a 0
    else k.readCorrected a e := by
  simp only [patrolScrubReadKv, inDram_of_lt dram, bne_iff_ne.mpr on_, if_true, Bool.not_true, Bool.false_eq_true, if_false]

end

/-! ### The same in a module's SRAM -/

section
variable {x : Cell} {a : Nat} (sram : cellSram a = true) (runs : x.runs = true)
include sram runs

theorem memoryReadUncorrectableCell_lost {e : Nat} (lost : x.bad a = true ∨ 2 ≤ symbols e) :
    let y := if x.bad a then x else x.setErrs a e
    memoryReadUncorrectableCell e a x =
      if y.issues = true ∧ y.on Kc.CC_DSTAT.HALTED = false then y.memUnc y.core.pc.toNat else y := by
  have lost : (x.bad a || decide (2 ≤ symbols e)) = true := by simpa using lost
  simp only [memoryReadUncorrectableCell, sram, runs, lost, Bool.not_true, Bool.or_self, Bool.false_eq_true, if_false, Bool.and_eq_true,
    Bool.not_eq_true']

theorem readCorrectedCell_one {e : Nat} (readable : x.bad a = false) (one : symbols e = 1) {det : Bool} :
    memoryReadCorrectedCell e a x = (x.setErrs a 0).event Ev.MEMCOR ∧ patrolScrubReadCell e det a x = (x.setErrs a 0).event Ev.MEMCOR := by
  have corrects : x.readCorrected a e = (x.setErrs a 0).event Ev.MEMCOR := by
    simp only [Cell.readCorrected, readable, one, Bool.false_eq_true, if_false, if_true]
  simp only [memoryReadCorrectedCell, patrolScrubReadCell, sram, runs, readable, one, corrects, Bool.and_self, Bool.not_true,
    Bool.false_eq_true, if_false, if_true, le_refl, and_self]

theorem partialStoreMergeCell_eq {v n : Nat} (small : n < 8) (inside : a % 8 + n ≤ 8) :
    partialStoreMergeCell v n a x = if x.bad a then x.event Ev.MEMUNC else (x.wrLe a v n).setErrs a 0 := by
  have fits : decide (n < 8 ∧ a % 8 + n ≤ 8) = true := decide_eq_true ⟨small, inside⟩
  have part : decide (n < 8) = true := decide_eq_true small
  simp only [partialStoreMergeCell, sram, runs, fits, part, Cell.store, Bool.and_self, Bool.true_and, if_true]

end

/-! ### MEM_INIT (R465) -/

/-- An entry of a table under a key that a filter keeps reads as before. -/
theorem Tab.get_filter_kept {α : Type} (d : α) (q : Nat × α → Bool) (t : Tab α) {a : Nat} (h : ∀ v, q (a, v) = true) :
    Tab.get d a (t.filter q) = Tab.get d a t := by
  induction t with
  | nil => rfl
  | cons e rest ih =>
    obtain ⟨j, v⟩ := e
    rw [List.filter_cons]
    split
    · simp only [Tab.get, ih]
    · rename_i dropped
      have other : a ≠ j := by
        rintro rfl
        exact dropped (h v)
      simp only [Tab.get, other, if_false, ih]

theorem memInit_clears (k : Kv) : (memInitKv k).on Kv.MEM_STAT.INITB = true ∧ (memInitKv k).on Kv.MEM_STAT.READY = false ∧
    (∀ z < k.dramSize, (memInitKv k).rdByte z = 0) ∧ ∀ z, k.dramSize ≤ z → (memInitKv k).rdByte z = k.rdByte z := by
  refine ⟨?_, ?_, fun z inside => ?_, fun z outside => ?_⟩
  · change ((k.mark Kv.MEM_STAT.INITB).wr Kv.MEM_STAT.READY 0).on Kv.MEM_STAT.INITB = true
    rw [Kv.on_wr_ne _ _ (by decide), Kv.mark, Kv.on, Kv.rd_wr_same]
    rfl
  · change ((k.mark Kv.MEM_STAT.INITB).wr Kv.MEM_STAT.READY 0).on Kv.MEM_STAT.READY = false
    rw [Kv.on, Kv.rd_wr_same]
    rfl
  · exact Tab.get_filter_dropped 0 _ k.mem fun _ => decide_eq_false (Nat.not_le.mpr inside)
  · exact Tab.get_filter_kept 0 _ k.mem fun _ => decide_eq_true outside

/-! ### The check-value engines (R473 to R478) -/

section
variable {k : Kv} {u : Nat}

theorem crcStop_now (runs : k.rd Kv.CRCn_STAT.STATE u = 1) (words : k.rd Kv.CRCn_LEN.LEN u ≠ 0) :
    k.crcStop u 0 = (k.wr Kv.CRCn_CTRL.EN 0 u).wr Kv.CRCn_STAT.STATE 2 u := by
  have state : (k.wr Kv.CRCn_CTRL.EN 0 u).rd Kv.CRCn_STAT.STATE u = 1 := (k.rd_wr_ne 0 (key_ne (by decide))).trans runs
  have length : (k.wr Kv.CRCn_CTRL.EN 0 u).rd Kv.CRCn_LEN.LEN u ≠ 0 := by rw [k.rd_wr_ne 0 (key_ne (by decide))]; exact words
  simp only [Kv.crcStop, Nat.zero_min, Kv.crcAdvance, Kv.crcFinish, state, length, and_false, if_false, beq_self_eq_true, Kv.when_true]

theorem crcPreempt_now (runs : k.rd Kv.CRCn_STAT.STATE 0 = 1) (words : k.rd Kv.CRCn_LEN.LEN 0 ≠ 0) :
    crcPreemptKv 0 k = (k.wr Kv.CRCn_STAT.STATE 2).mark Kv.CRCn_STAT.PRE := by
  simp only [crcPreemptKv, Nat.zero_min, Kv.crcAdvance, Kv.crcFinish, runs, words, and_false, if_false, if_true, beq_self_eq_true, Kv.when_true]

theorem crcAdvance_last (runs : k.rd Kv.CRCn_STAT.STATE u = 1) (last : k.rd Kv.CRCn_LEN.LEN u = 1)
    (readable : k.crcWordOk u (k.rd Kv.CRCn_START.START u) = true) :
    let i := k.rd Kv.CRCn_START.START u
    Kv.crcAdvance u 1 k = ((k.wr Kv.CRCn_RUN.RUN (crcBytes 32 0x04C11DB7 (k.rd Kv.CRCn_RUN.RUN u) (k.crcWord u i)) u).wr
      Kv.CRCn_START.START (i + 1) u).wr Kv.CRCn_LEN.LEN 0 u := by
  simp only [Kv.crcAdvance, runs, last, ne_eq, not_true_eq_false, one_ne_zero, or_self, readable, Bool.not_true, Bool.false_eq_true,
    if_false, Nat.sub_self]

theorem crcScanDone_last (free : k.crcOwned u = false) (enabled : k.on Kv.CRCn_CTRL.EN u = true) (last : k.rd Kv.CRCn_LEN.LEN u = 1) :
    crcScanDoneKv u k = (Kv.crcAdvance u 1 k).crcFinish u := by
  simp only [crcScanDoneKv, free, enabled, last, Bool.not_false, Bool.and_self, Kv.when_true]

theorem crcScanDone_owned (owned : k.crcOwned u = true) : crcScanDoneKv u k = k := by
  simp only [crcScanDoneKv, owned, Bool.not_true, Bool.and_false, Kv.when_false]

theorem crcRepeat_owned (owned : k.crcOwned u = true) : crcRepeatKv u k = k :=
  if_neg fun ⟨_, _, _, free⟩ => Bool.false_ne_true (free.symm.trans owned)

section
variable (free : k.crcOwned u = false) {v : Nat}
include free

theorem crcGo_running (runs : k.rd Kv.CRCn_STAT.STATE u = 1) (clear : bit v 31 = false) :
    crcGoKv u v k = (((k.crcOn u).crcStop u 0).crcControl u v).regacc 17 (Kv.CRCn_CTRL.EN.addr u 0) := by
  simp only [crcGoKv, free, Kv.crcWrite, runs, clear, and_self, true_or, Bool.false_eq_true, if_false, if_true]

variable (still : k.rd Kv.CRCn_STAT.STATE u ≠ 1) (enabled : (k.crcControl u v).on Kv.CRCn_CTRL.EN u = true)
include still enabled

theorem crcGo_still : crcGoKv u v k =
    if k.rd Kv.CRCn_STAT.STATE u = 0 ∧ (k.crcControl u v).rd Kv.CRCn_LEN.LEN u = 0 then
      (k.crcControl u v).regacc 18 (Kv.CRCn_CTRL.EN.addr u 0)
    else Kv.crcStart { k.crcControl u v with
      crcFrom := Tab.set 0 u ((k.crcControl u v).rd Kv.CRCn_START.START u) k.crcFrom
      crcLen := Tab.set 0 u ((k.crcControl u v).rd Kv.CRCn_LEN.LEN u) k.crcLen } u := by
  simp only [crcGoKv, free, Kv.crcWrite, still, enabled, false_and, false_or, Bool.not_true, Bool.false_eq_true, if_false]
  rfl

end
end

/-- Settles O54: each command's own equation, at the guards named. -/
theorem memoryErrorsAndCheckEngines : Obligations.Memory_errors_and_check_engines := by
  intro s c addr e v len w n q a ca det live k x at_ u goes cell inDram found fixed corrected lost
  have goesBy {j : Instr} {f : Kv → Kv} {y : Kv} (named : exec j s = .next (s.onKv c f)) (does : f k = y) : goes j y :=
    exec_live live named does
  have cellBy {j : Instr} {f : Cell → Cell} {y : Cell} (named : exec j s = .next (s.onCell a f)) (does : f x = y) : cell j y :=
    exec_cell named does
  have here : (ca.setWidth 36).toNat = ca.toNat := BitVec.toNat_setWidth_of_le (by decide)
  have small : len.toNat < 8 := len.isLt
  refine ⟨fun bad => goesBy rfl (memoryReadCorrected_bad bad), fun readable => ⟨fun d real one => ⟨fun dram => goesBy rfl ?_,
      fun other sram => goesBy rfl ?_⟩, fun few => goesBy rfl ?_⟩, fun mapped unread => ?_,
    fun readable few m => goesBy rfl (memoryReadUncorrectable_none readable few m), fun sram runs => ⟨fun unread => ?_, ?_, fun inside => ?_⟩,
    fun mapped inside => ?_, fun dram off => goesBy rfl (patrolScrub_off dram off), fun dram on_ => ?_,
    ⟨memInitKv k, goesBy rfl rfl, memInit_clears k⟩, goesBy rfl rfl, goesBy rfl rfl,
    fun owned => ⟨goesBy rfl (if_pos owned), goesBy rfl (if_pos owned)⟩, fun free => ⟨fun still enabled => ⟨?_, ?_⟩, ?_, ?_⟩, ?_, ?_, ?_, ?_⟩
  · exact (memoryReadCorrected_mapped (.inl dram)).trans ((readCorrected_one readable real one).trans (correctedAt_dram dram))
  · exact (memoryReadCorrected_mapped (.inr sram)).trans ((readCorrected_one readable real one).trans (correctedAt_sram other))
  · exact memoryReadCorrected_none few
  · obtain ⟨other, host, record, sfe, crc⟩ := memoryReadUncorrectable_lost mapped unread
    exact ⟨goesBy rfl other, goesBy rfl host, goesBy rfl record, goesBy rfl sfe, goesBy rfl crc⟩
  · exact cellBy rfl (memoryReadUncorrectableCell_lost sram runs unread)
  · intro readable one
    obtain ⟨read, scrub⟩ := readCorrectedCell_one sram runs readable one (det := det)
    simp only [List.forall_mem_cons]
    exact ⟨cellBy rfl (here ▸ read), cellBy rfl (here ▸ scrub), List.forall_mem_nil _⟩
  · exact cellBy rfl (here ▸ partialStoreMergeCell_eq sram runs small inside)
  · have merged := partialStoreMerge_eq (v := v.toNat) mapped small inside
    exact ⟨fun readable => goesBy rfl (merged.trans (if_neg (by rw [readable]; decide))), fun bad => goesBy rfl (merged.trans (if_pos bad))⟩
  · have scrubbed := patrolScrub_on (e := e.toNat) (det := det) dram on_
    refine ⟨fun bad => goesBy rfl (scrubbed.trans (if_pos bad)), fun readable => ?_⟩
    rw [readable, if_neg Bool.false_ne_true] at scrubbed
    refine ⟨fun (clean : symbols (k.sought at_ e.toNat) = 0) => goesBy rfl ?_, fun d real one => goesBy rfl ?_,
      fun (many : symbols (k.sought at_ e.toNat) = 2 ∨ (3 ≤ symbols (k.sought at_ e.toNat) ∧ det = true)) => goesBy rfl ?_⟩
    · exact scrubbed.trans ((if_pos (by omega)).trans (readCorrected_none (.inl clean)))
    · have single : symbols (k.sought at_ e.toNat) ≤ 1 := by
        rw [show k.sought at_ e.toNat = 2 ^ d from one, (single_symbol d real).1]
      exact scrubbed.trans ((if_pos single).trans ((readCorrected_one readable real one).trans (correctedAt_dram dram)))
    · exact scrubbed.trans ((if_neg (by omega)).trans (if_pos (many.imp_right And.right)))
  · exact fun empty => goesBy rfl ((crcGo_still free still enabled).trans (if_pos empty))
  · exact fun words => goesBy rfl ((crcGo_still free still enabled).trans (if_neg fun h => words h.2))
  · exact fun runs clear => goesBy rfl (crcGo_running free runs clear)
  · rintro runs rfl words
    exact goesBy rfl ((if_neg (by rw [free]; decide)).trans (crcStop_now runs words))
  · intro free enabled runs last readable i y
    refine goesBy rfl ((crcScanDone_last free enabled last).trans ?_)
    rw [crcAdvance_last runs last readable]
  · exact fun free stopped repeats enabled => goesBy rfl (if_pos ⟨stopped, repeats, enabled, free⟩)
  · exact fun owned => ⟨goesBy rfl (crcScanDone_owned owned), goesBy rfl (crcRepeat_owned owned)⟩
  · rintro runs rfl words
    exact goesBy rfl (crcPreempt_now runs words)
end Sys2Proof.Machine
end

section
/-! Every command completes (00_scope): its effect replaces parts of the chip set, and the queue is none of them. -/

namespace Sys2Proof.Machine

/-- Whatever parts an effect replaces, the commands that wait stay. -/
theorem Effect.pending {l : List Site} {F : State → State} (e : Effect l F) (s : State) : (F s).pending = s.pending := by
  cases e with
  | @chip c _ hF =>
    obtain ⟨k, hk⟩ := hF s
    rw [hk, State.setChip_pending]
  | cell a g => exact State.setCell_pending ..
  | companion g => exact State.setKf_pending ..
  | @chips c _ hF =>
    obtain ⟨k, k', hk⟩ := hF s
    rw [hk, State.setChip_pending, State.setChip_pending]

/-- Settles O2: every command answers what its effect makes of the state. -/
theorem everyCommandCompletesAndLeavesTheQueue : Obligations.Every_command_completes_and_leaves_the_queue := by
  intro i s
  obtain ⟨F, hF, e⟩ := exec_effect i
  exact ⟨F s, hF s, e.pending s⟩

end Sys2Proof.Machine
end

section
/-! The trip chain of the KF-120 (R516, R521, R526 to R529): an evaluation judges every trip output, and what a command does after its
last evaluation touches nothing that one looks at. -/

namespace Sys2Proof.Machine

/-! ### The four trip outputs as bits -/

theorem bit_tripBits (p : Nat → Bool) {k : Nat} (h : k < 4) : bit (tripBits p) k = p k :=
  (bit_foldl_setBit p 4 k).trans (by simp [h])

/-- They fit the four bits of their fields. -/
theorem bit_tripBits_mod (p : Nat → Bool) {k : Nat} (h : k < 4) : bit (tripBits p % 2 ^ 4) k = p k := by
  rw [bit, Nat.testBit_mod_two_pow, decide_eq_true h, Bool.true_and]
  exact bit_tripBits p h

/-! ### What an evaluation looks at -/

/-- The registers from which the sources of a trip output are judged. -/
def tripSourceFlds : List Fld := [Kf.TRP_SRCk.SRC, Kf.TRP_SRCk.INMSK, Kf.TRP_STAT.STIN, Kf.FIN_VAL.VAL]

/-- Those that the trips' latches, senses and levels stand in beside. -/
def tripFlds : List Fld := tripSourceFlds ++ [Kf.TRP_STAT.LAT, Kf.TRP_CFG.POL, Kf.TRP_STAT.LVL]

/-- The registers that sources, counters, token and supply write. -/
def tripSideFlds : List Fld :=
  [Kf.SVL_SRC.SRC, Kf.FOUT_STAT.FCNT, Kf.FOUT_STAT.SAT, Kf.FOUT_STAT.FAULT, Kf.TOK_STAT.HELD, Kf.TOK_STAT.HOLDER, Kf.TOK_STAT.CSEQ,
   Kf.TOK_STAT.XPEND, Kf.TOK_STAT.HBA, Kf.TOK_STAT.HBB, Kf.TOK_XT.CTICK, Kf.TOK_CNT.GRANTS, Kf.TOK_CNT.SAT, Kf.SVL_ERR.SAT, Kf.SVL_ERR.EA,
   Kf.SVL_ERR.EB]

theorem trip_key_ne_side : ∀ F ∈ tripFlds, ∀ G ∈ tripSideFlds, ∀ k < 4, F.key k 0 ≠ G.key 0 0 := by decide

theorem trip_source_key_ne : ∀ F ∈ tripSourceFlds, ∀ G ∈ [Kf.SVL_SRC.SRC, Kf.TRP_STAT.LAT, Kf.TRP_STAT.ACT, Kf.TRP_STAT.LVL],
    ∀ k < 4, F.key k 0 ≠ G.key 0 0 := by decide

/-- The sources of a trip output are judged from their registers and from what silence, supply, temperature and clock show (R527). -/
theorem tripActive_congr {s t : Kf} (cmd : Bool) {k : Nat} (h : k < 4) (regs : ∀ F ∈ tripSourceFlds, ∀ i < 4, t.rd F i = s.rd F i)
    (sil : t.sil = s.sil) (supply : t.supply = s.supply) (temp : t.temp = s.temp) (osc : t.osc = s.osc) :
    t.tripActive cmd k = s.tripActive cmd k := by
  simp only [Kf.tripActive, Kf.on, regs Kf.TRP_SRCk.SRC (by simp [tripSourceFlds]) k h, regs Kf.TRP_SRCk.INMSK (by simp [tripSourceFlds]) k h,
    regs Kf.TRP_STAT.STIN (by simp [tripSourceFlds]) 0 (by decide), regs Kf.FIN_VAL.VAL (by simp [tripSourceFlds]) 0 (by decide), sil, supply,
    temp, osc]

/-- Every trip output whose enabled source is active is latched, and stands where latch and sense have it. -/
def Kf.TripsJudged (s : Kf) : Prop :=
  ∀ k, k < 4 → (s.tripActive false k = true → bit (s.rd Kf.TRP_STAT.LAT) k = true) ∧
    bit (s.rd Kf.TRP_STAT.LVL) k = ((bit (s.rd Kf.TRP_CFG.POL) k == bit (s.rd Kf.TRP_STAT.LAT) k) && !bit s.off (16 + k))

theorem Kf.tripsHeld_iff (s : Kf) : s.tripsHeld ↔ (s.inReset = false → s.TripsJudged) := Iff.rfl

theorem Kf.TripsJudged.held {s : Kf} (h : s.TripsJudged) : s.tripsHeld := fun _ => h

theorem tripsHeld_of_reset {s : Kf} (h : s.inReset = true) : s.tripsHeld := fun released => absurd (h.symm.trans released) (by decide)

/-! ### An evaluation (R527, R529) -/

/-- The latches that an evaluation leaves. -/
def Kf.newLatches (s : Kf) (cmd : Bool) : Nat := tripBits (fun k => bit (s.rd Kf.TRP_STAT.LAT) k || s.tripActive cmd k)

/-- A new latch is raised (R537). -/
def Kf.latchRaised (s : Kf) (cmd : Bool) : Kf := s.when (s.newLatches cmd != s.rd Kf.TRP_STAT.LAT) (fun s => s.raise 3)

section
variable (s : Kf) (cmd : Bool)

/-- An evaluation writes its latches, the sources that it found active, and the levels. -/
theorem tripEval_eq : ∃ act : Nat, s.tripEval cmd =
    (((s.latchRaised cmd).wr Kf.TRP_STAT.LAT (s.newLatches cmd)).wr Kf.TRP_STAT.ACT act).wr Kf.TRP_STAT.LVL (tripBits (fun k =>
      (bit ((((s.latchRaised cmd).wr Kf.TRP_STAT.LAT (s.newLatches cmd)).wr Kf.TRP_STAT.ACT act).rd Kf.TRP_CFG.POL) k ==
        bit (s.newLatches cmd) k) && !bit (s.latchRaised cmd).off (16 + k))) := ⟨_, rfl⟩

theorem latchRaised_eq : s.latchRaised cmd = s ∨ s.latchRaised cmd = s.raise 3 := by
  unfold Kf.latchRaised Kf.when
  split
  · exact .inr rfl
  · exact .inl rfl

theorem latchRaised_rd {F : Fld} {k : Nat} (h : F.key k 0 ≠ Kf.SVL_SRC.SRC.key 0 0) : (s.latchRaised cmd).rd F k = s.rd F k := by
  obtain e | e := latchRaised_eq s cmd <;> rw [e]
  exact Kf.rd_wr_ne _ _ h

theorem latchRaised_off : (s.latchRaised cmd).off = s.off := by obtain e | e := latchRaised_eq s cmd <;> rw [e]; rfl

theorem tripEval_source {F : Fld} (hF : F ∈ tripSourceFlds) {k : Nat} (h : k < 4) : (s.tripEval cmd).rd F k = s.rd F k := by
  have ne := fun G hG => trip_source_key_ne F hF G hG k h
  obtain ⟨act, e⟩ := tripEval_eq s cmd
  rw [e, Kf.rd_wr_ne _ _ (ne _ (by simp)), Kf.rd_wr_ne _ _ (ne _ (by simp)), Kf.rd_wr_ne _ _ (ne _ (by simp)),
    latchRaised_rd s cmd (ne _ (by simp))]

theorem tripEval_flags : (s.tripEval cmd).sil = s.sil ∧ (s.tripEval cmd).supply = s.supply ∧ (s.tripEval cmd).temp = s.temp ∧
    (s.tripEval cmd).osc = s.osc ∧ (s.tripEval cmd).off = s.off := by
  obtain ⟨act, e⟩ := tripEval_eq s cmd
  obtain r | r := latchRaised_eq s cmd <;> rw [e, r] <;> exact ⟨rfl, rfl, rfl, rfl, rfl⟩

theorem bit_newLatches {k : Nat} (h : k < 4) : bit (s.newLatches cmd) k = (bit (s.rd Kf.TRP_STAT.LAT) k || s.tripActive cmd k) :=
  bit_tripBits (fun k => bit (s.rd Kf.TRP_STAT.LAT) k || s.tripActive cmd k) h

/-- A latch stays, and one whose enabled source is active sets. -/
theorem tripEval_lat {k : Nat} (h : k < 4) :
    bit ((s.tripEval cmd).rd Kf.TRP_STAT.LAT) k = (bit (s.rd Kf.TRP_STAT.LAT) k || s.tripActive cmd k) := by
  obtain ⟨act, e⟩ := tripEval_eq s cmd
  rw [e, Kf.rd_wr_ne _ _ (by decide), Kf.rd_wr_ne _ _ (by decide), Kf.rd_wr_same]
  exact bit_tripBits_mod _ h

theorem tripEval_pol : (s.tripEval cmd).rd Kf.TRP_CFG.POL = s.rd Kf.TRP_CFG.POL := by
  obtain ⟨act, e⟩ := tripEval_eq s cmd
  rw [e, Kf.rd_wr_ne _ _ (by decide), Kf.rd_wr_ne _ _ (by decide), Kf.rd_wr_ne _ _ (by decide), latchRaised_rd s cmd (by decide)]

/-- A level follows latch and sense unless the output turned itself off (R540). -/
theorem tripEval_lvl {k : Nat} (h : k < 4) : bit ((s.tripEval cmd).rd Kf.TRP_STAT.LVL) k =
    ((bit (s.rd Kf.TRP_CFG.POL) k == (bit (s.rd Kf.TRP_STAT.LAT) k || s.tripActive cmd k)) && !bit s.off (16 + k)) := by
  obtain ⟨act, e⟩ := tripEval_eq s cmd
  rw [e, Kf.rd_wr_same, Kf.rd_wr_ne _ _ (by decide), Kf.rd_wr_ne _ _ (by decide), latchRaised_rd s cmd (by decide), latchRaised_off,
    ← bit_newLatches s cmd h]
  exact bit_tripBits_mod _ h

/-- After an evaluation every trip output is judged, also where a CMD with TRIP adds a source of its own. -/
theorem tripEval_judged : (s.tripEval cmd).TripsJudged := by
  intro k hk
  obtain ⟨sil, supply, temp, osc, off⟩ := tripEval_flags s cmd
  refine ⟨fun active => ?_, ?_⟩
  · rw [tripActive_congr false hk (fun F hF i hi => tripEval_source s cmd hF hi) sil supply temp osc] at active
    have more : s.tripActive cmd k = true := by
      cases cmd with
      | false => exact active
      | true =>
        simp only [Kf.tripActive, Bool.and_eq_true, Bool.or_eq_true, Bool.and_false, Bool.false_eq_true, false_or, Bool.and_true] at active ⊢
        obtain ⟨enabled, source⟩ := active
        exact ⟨enabled, by tauto⟩
    rw [tripEval_lat s cmd hk, more, Bool.or_true]
  · rw [tripEval_lvl s cmd hk, tripEval_lat s cmd hk, tripEval_pol, off]

end

/-! ### What a command does beside -/

/-- `t` shows the trip chain, and what it is judged from, as `s` does. -/
structure Kf.SameTrips (t s : Kf) : Prop where
  inReset : t.inReset = s.inReset
  regs : ∀ F ∈ tripFlds, ∀ k < 4, t.rd F k = s.rd F k
  sil : t.sil = s.sil
  supply : t.supply = s.supply
  temp : t.temp = s.temp
  osc : t.osc = s.osc
  off : ∀ k, bit t.off (16 + k) = bit s.off (16 + k)

namespace Kf.SameTrips

theorem refl (s : Kf) : SameTrips s s := ⟨rfl, fun _ _ _ _ => rfl, rfl, rfl, rfl, rfl, fun _ => rfl⟩

theorem trans {r s t : Kf} (a : SameTrips t s) (b : SameTrips s r) : SameTrips t r :=
  ⟨a.inReset.trans b.inReset, fun F h k hk => (a.regs F h k hk).trans (b.regs F h k hk), a.sil.trans b.sil, a.supply.trans b.supply,
    a.temp.trans b.temp, a.osc.trans b.osc, fun k => (a.off k).trans (b.off k)⟩

/-- A trip chain judged is so still where it is the same. -/
theorem tripsHeld {t s : Kf} (a : SameTrips t s) (w : s.tripsHeld) : t.tripsHeld := by
  intro released k hk
  obtain ⟨latched, level⟩ := w (a.inReset.symm.trans released) k hk
  have reg : ∀ F ∈ [Kf.TRP_STAT.LAT, Kf.TRP_CFG.POL, Kf.TRP_STAT.LVL], t.rd F = s.rd F := fun F hF =>
    a.regs F (List.mem_append_right _ hF) 0 (by decide)
  rw [tripActive_congr false hk (fun F hF => a.regs F (List.mem_append_left _ hF)) a.sil a.supply a.temp a.osc,
    reg Kf.TRP_STAT.LAT (by simp), reg Kf.TRP_STAT.LVL (by simp), reg Kf.TRP_CFG.POL (by simp), a.off k]
  exact ⟨latched, level⟩

theorem wr (s : Kf) {G : Fld} (v : Nat) (h : G ∈ tripSideFlds) : SameTrips (s.wr G v) s :=
  ⟨rfl, fun F hF k hk => s.rd_wr_ne v (trip_key_ne_side F hF G h k hk), rfl, rfl, rfl, rfl, fun _ => rfl⟩

theorem raise (s : Kf) (i : Nat) : SameTrips (s.raise i) s := wr s _ (by simp [tripSideFlds])

theorem when {s : Kf} {f : Kf → Kf} (h : SameTrips (f s) s) (b : Bool) : SameTrips (s.when b f) s := by
  cases b
  · exact refl s
  · exact h

theorem count (s : Kf) {F G : Fld} (src : Nat) (hF : F ∈ tripSideFlds) (hG : G ∈ tripSideFlds) : SameTrips (s.count F G src) s := by
  unfold Kf.count
  dsimp only
  split
  · exact refl s
  · exact (when ((raise _ _).trans (wr _ _ hG)) _).trans (wr _ _ hF)

theorem reply (s : Kf) (b : Bool) (type : Nat) (p : List Nat) : SameTrips (s.reply b type p) s := { refl s with }

theorem countGrant (s : Kf) : SameTrips s.countGrant s := (raise _ _).trans (count s _ (by simp [tripSideFlds]) (by simp [tripSideFlds]))

theorem setHolder (s : Kf) (b : Bool) (q : Nat) : SameTrips (s.setHolder b q) s := by
  have written : SameTrips (((((s.wr Kf.TOK_STAT.HELD 1).wr Kf.TOK_STAT.HOLDER (b2n b)).wr Kf.TOK_STAT.CSEQ q).wr Kf.TOK_STAT.XPEND 0).wr
      Kf.TOK_XT.CTICK 0) s :=
    (wr _ _ (by simp [tripSideFlds])).trans ((wr _ _ (by simp [tripSideFlds])).trans ((wr _ _ (by simp [tripSideFlds])).trans
      ((wr _ _ (by simp [tripSideFlds])).trans (wr _ _ (by simp [tripSideFlds])))))
  exact { written with }

/-- A grant under a sequence, counted and announced. -/
theorem grantUnder (s : Kf) (b : Bool) (q : Nat) : SameTrips ((s.countGrant.setHolder b q).sendGrant b q 0 false) s :=
  (reply _ _ _ _).trans ((setHolder _ b q).trans (countGrant s))

theorem grantNow (s : Kf) (b : Bool) : SameTrips (s.grantNow b) s := by
  unfold Kf.grantNow
  split
  · split
    · exact (reply _ _ _ _).trans (setHolder s b _)
    · exact grantUnder s b _
  · exact grantUnder s b _

theorem grantAt (s : Kf) (b : Bool) (c : Nat) : SameTrips (s.grantAt b c) s := by
  have written : SameTrips ((s.countGrant.wr Kf.TOK_STAT.XPEND 1).wr Kf.TOK_XT.CTICK c) s :=
    (wr _ _ (by simp [tripSideFlds])).trans ((wr _ _ (by simp [tripSideFlds])).trans (countGrant s))
  exact { written with }

theorem ite {s t u : Kf} (c : Prop) [Decidable c] (ht : SameTrips t s) (hu : SameTrips u s) : SameTrips (if c then t else u) s := by
  split
  · exact ht
  · exact hu

/-- The token moves, a request is refused or put off, or nothing happens (R372). -/
theorem tokenCases (s : Kf) (trig : Option Bool) : SameTrips (s.tokenCases trig) s := by
  have refused : ∀ t : Kf, SameTrips t s → SameTrips (t.raise 7) s := fun t h => (raise t 7).trans h
  unfold Kf.tokenCases
  refine ite _ (refl s) ?_
  dsimp only
  cases s.freshHb s.holderB with
  | none => exact ite _ (grantNow s _) (refl s)
  | some x =>
    refine ite _ (refl s) (ite _ (ite _ (grantNow s _) (ite _ (refused _ ?_) (refl s))) (ite _ (ite _ (grantAt s _ _) (ite _ (refused _ ?_)
      (refl s))) (refl s)))
    · exact { refl s with }
    · exact { refl s with }

end Kf.SameTrips

/-! ### Each command -/

theorem tripsHeld_tripEval (s : Kf) (cmd : Bool) : (s.tripEval cmd).tripsHeld := (tripEval_judged s cmd).held

theorem tripsHeld_settle (s : Kf) : s.settle.tripsHeld := tripsHeld_tripEval _ false

theorem tripsHeld_rdata {t : Kf} (h : t.tripsHeld) (b : Bool) (status num data tag : Nat) : (t.rdata b status num data tag).tripsHeld :=
  (Kf.SameTrips.reply t b 0x84 _).tripsHeld h

section
variable {s : Kf} (w : s.tripsHeld)
include w

theorem tripsHeld_fieldInputSampleKf (vs cs : List Nat) : (fieldInputSampleKf vs cs s).tripsHeld := by
  unfold fieldInputSampleKf
  split
  · exact w
  · exact tripsHeld_tripEval _ _

theorem tripsHeld_stinSampleKf (v : Nat) : (stinSampleKf v s).tripsHeld := by
  unfold stinSampleKf
  split
  · exact w
  · exact tripsHeld_tripEval _ _

theorem tripsHeld_tripSourceActiveKf : (tripSourceActiveKf s).tripsHeld := by
  unfold tripSourceActiveKf
  split
  · exact w
  · exact tripsHeld_tripEval _ _

/-- A trip output that turns itself off is judged anew; one of the other outputs is none of the trips' business (R521, R522). -/
theorem tripsHeld_outputSelfOffKf (i : Nat) : (outputSelfOffKf i s).tripsHeld := by
  unfold outputSelfOffKf
  split
  · exact w
  dsimp only
  split
  · next plain =>
    have off : Kf.SameTrips { s with off := setBit s.off i true } s :=
      ⟨rfl, fun _ _ _ _ => rfl, rfl, rfl, rfl, rfl, fun k => by
        rw [bit_setBit_true, decide_eq_false (by omega), Bool.false_or]⟩
    have counted := (Kf.SameTrips.count { s with off := setBit s.off i true } (F := Kf.FOUT_STAT.FCNT) (G := Kf.FOUT_STAT.SAT) 0
      (by simp [tripSideFlds]) (by simp [tripSideFlds])).trans off
    split
    · exact counted.tripsHeld w
    · exact (((Kf.SameTrips.raise _ _).trans (.wr _ _ (by simp [tripSideFlds]))).trans counted).tripsHeld w
  · exact tripsHeld_tripEval _ _

theorem tripsHeld_outputRestartKf (i : Nat) : (outputRestartKf i s).tripsHeld := by
  unfold outputRestartKf
  split
  · exact w
  · exact tripsHeld_tripEval _ _

theorem tripsHeld_kfHeartbeatReceivedKf (b : Bool) (x : Hb) : (kfHeartbeatReceivedKf b x s).tripsHeld := by
  unfold kfHeartbeatReceivedKf
  split
  · exact w
  · exact tripsHeld_tripEval _ _

theorem tripsHeld_heartbeatTimeoutKf (b : Bool) : (heartbeatTimeoutKf b s).tripsHeld := by
  rw [show heartbeatTimeoutKf b s = if s.inReset || !s.on (hbFld b) then s else (s.silenced b).tokenCases none from rfl]
  split
  · exact w
  · refine ((Kf.SameTrips.tokenCases _ _).trans ((Kf.SameTrips.raise _ _).trans (.wr s 0 ?_))).tripsHeld w
    cases b <;> simp [hbFld, tripSideFlds]

theorem tripsHeld_kfRestartGrantKf : (kfRestartGrantKf s).tripsHeld := by
  have under := fun b q => (Kf.SameTrips.grantUnder s b q).tripsHeld w
  have now := fun b => (Kf.SameTrips.grantNow s b).tripsHeld w
  unfold kfRestartGrantKf
  split
  · exact w
  dsimp only
  split
  · split
    · exact under _ _
    · split
      · exact under _ _
      · exact under _ _
  · exact under _ _
  · exact under _ _
  · split
    · exact now _
    · split
      · exact now _
      · exact w

theorem tripsHeld_kfCmdReceivedKf (b : Bool) (out : Nat) (ref resume safe trip tclr : Bool) :
    (kfCmdReceivedKf b out ref resume safe trip tclr s).tripsHeld := by
  unfold kfCmdReceivedKf
  split
  · exact w
  · exact tripsHeld_settle _

/-- A register message that is answered alone leaves the trips; one that is refused shows that; one that is taken settles them (R535). -/
theorem tripsHeld_kfRegReceivedKf (b : Bool) (op num data tag : Nat) : (kfRegReceivedKf b op num data tag s).tripsHeld := by
  have refused := (Kf.SameTrips.raise s 14).tripsHeld w
  unfold kfRegReceivedKf
  split
  · exact w
  dsimp only
  split
  · exact tripsHeld_rdata w _ _ _ _ _
  split
  · exact tripsHeld_rdata w _ _ _ _ _
  split
  · exact tripsHeld_rdata w _ _ _ _ _
  split
  · exact tripsHeld_rdata w _ _ _ _ _
  split
  · exact tripsHeld_rdata refused _ _ _ _ _
  split
  · exact tripsHeld_rdata refused _ _ _ _ _
  · exact tripsHeld_rdata (tripsHeld_settle _) _ _ _ _ _

theorem tripsHeld_discard (b : Bool) : (s.discard b).tripsHeld := by
  have counted : ∀ F ∈ tripSideFlds, Kf.SameTrips (s.count F Kf.SVL_ERR.SAT 9) s := fun F hF => .count s 9 hF (by simp [tripSideFlds])
  unfold Kf.discard
  split
  · exact w
  · refine ((Kf.SameTrips.when (.raise _ _) _).trans (counted _ ?_)).tripsHeld w
    cases b <;> simp [tripSideFlds]

theorem tripsHeld_silenceTimerExpiryKf : (silenceTimerExpiryKf s).tripsHeld := by
  unfold silenceTimerExpiryKf
  split
  · exact w
  · exact tripsHeld_settle _

theorem tripsHeld_kfSupplyWarningKf (vsup : Nat) : (kfSupplyWarningKf vsup s).tripsHeld := by
  unfold kfSupplyWarningKf
  split
  · exact w
  split
  · exact tripsHeld_of_reset rfl
  · exact tripsHeld_tripEval _ _

theorem tripsHeld_kfResetReleaseKf (vsup : Nat) : (kfResetReleaseKf vsup s).tripsHeld := by
  unfold kfResetReleaseKf
  split
  · exact tripsHeld_settle _
  · exact w

theorem tripsHeld_kfDieOverTemperatureKf (die : Nat) : (kfDieOverTemperatureKf die s).tripsHeld := by
  unfold kfDieOverTemperatureKf
  split
  · exact w
  · exact tripsHeld_tripEval _ _

theorem tripsHeld_kfRefclkFailKf : (kfRefclkFailKf s).tripsHeld := by
  unfold kfRefclkFailKf
  split
  · exact w
  · exact tripsHeld_tripEval _ _

end

/-! ### Each step -/

@[simp] theorem companion_notMem_part (p : Part) : Site.companion ∉ p.sites := by cases p <;> simp [Part.sites]
@[simp] theorem companion_notMem_core (r : CoreRef) : Site.companion ∉ r.sites := by cases r <;> simp [CoreRef.sites]
@[simp] theorem companion_notMem_hop (h : HopEnd) : Site.companion ∉ h.sites := by cases h <;> simp [HopEnd.sites]
@[simp] theorem companion_notMem_reg (r : RegBy) : Site.companion ∉ r.sites := by cases r <;> simp [RegBy.sites]
@[simp] theorem companion_notMem_read (r : ReadBy) : Site.companion ∉ r.sites := by cases r <;> simp [ReadBy.sites]
@[simp] theorem companion_notMem_mem (m : MemOf) : Site.companion ∉ m.sites := by cases m <;> simp [MemOf.sites]

/-- A command on the KF-120 that keeps its trips judged. -/
theorem tripsHeld_of_onKf {s t : State} {i : Instr} {g : Kf → Kf} (named : exec i s = .next (s.onKf g)) (goes : exec i s = .next t)
    (keeps : (g s.kfAt).tripsHeld) : t.kf.tripsHeld := by
  obtain rfl : s.onKf g = t := by simpa [named] using goes
  exact keeps

/-- Every command keeps the trips judged: the commands that reach the KF-120 each in their way, the others by leaving it alone. -/
theorem tripsHeld_of_exec {i : Instr} {s t : State} (w : s.kf.tripsHeld) (goes : exec i s = .next t) : t.kf.tripsHeld := by
  by_cases reached : Site.companion ∈ i.sites
  case neg =>
    obtain ⟨F, hF, e⟩ := exec_effect i
    obtain rfl : F s = t := by simpa [hF] using goes
    have same : (F s).kf = s.kf := by simpa [State.at] using e.frame s reached
    rwa [same]
  have w : s.kfAt.tripsHeld := w
  cases i with
  | kfHeartbeatReceived => exact tripsHeld_of_onKf rfl goes (tripsHeld_kfHeartbeatReceivedKf w _ _)
  | heartbeatTimeout => exact tripsHeld_of_onKf rfl goes (tripsHeld_heartbeatTimeoutKf w _)
  | kfRestartGrant => exact tripsHeld_of_onKf rfl goes (tripsHeld_kfRestartGrantKf w)
  | fieldInputSample => exact tripsHeld_of_onKf rfl goes (tripsHeld_fieldInputSampleKf w _ _)
  | stinSample => exact tripsHeld_of_onKf rfl goes (tripsHeld_stinSampleKf w _)
  | tripSourceActive => exact tripsHeld_of_onKf rfl goes (tripsHeld_tripSourceActiveKf w)
  | outputSelfOff => exact tripsHeld_of_onKf rfl goes (tripsHeld_outputSelfOffKf w _)
  | outputRestart => exact tripsHeld_of_onKf rfl goes (tripsHeld_outputRestartKf w _)
  | kfCmdReceived => exact tripsHeld_of_onKf rfl goes (tripsHeld_kfCmdReceivedKf w _ _ _ _ _ _ _)
  | kfRegReceived => exact tripsHeld_of_onKf rfl goes (tripsHeld_kfRegReceivedKf w _ _ _ _ _)
  | silenceTimerExpiry => exact tripsHeld_of_onKf rfl goes (tripsHeld_silenceTimerExpiryKf w)
  | kfSupplyReset => exact tripsHeld_of_onKf rfl goes (tripsHeld_of_reset rfl)
  | kfResetRelease => exact tripsHeld_of_onKf rfl goes (tripsHeld_kfResetReleaseKf w _)
  | kfRefclkFail => exact tripsHeld_of_onKf rfl goes (tripsHeld_kfRefclkFailKf w)
  | kfSupplyWarning => exact tripsHeld_of_onKf rfl goes (tripsHeld_kfSupplyWarningKf w _)
  | kfDieOverTemperature => exact tripsHeld_of_onKf rfl goes (tripsHeld_kfDieOverTemperatureKf w _)
  | svlMessageDiscard e =>
    cases e with
    | chip c => simp [Instr.sites, SvlEnd.sites] at reached
    | companion c => exact tripsHeld_of_onKf (g := fun k => k.discard c.isB) rfl goes (tripsHeld_discard w _)
  | _ => exact absurd reached (by simp [Instr.sites])

/-- Settles O58: the command in front keeps the trips judged, and an edge of REFCLK leaves the KF-120 alone. -/
theorem tripsStayLatched : Obligations.Trips_stay_latched := by
  intro s t w goes
  unfold step at goes
  split at goes
  · obtain rfl : s.refclk = t := by simpa using goes
    exact w
  · next i rest _ => exact tripsHeld_of_exec (s := { s with pending := rest }) w goes

end Sys2Proof.Machine
end

section
/-! The KF-120 between its inputs, its outputs and the chips (R516 to R537): what each command there comes to, beside the token's. -/

namespace Sys2Proof.Machine

/-! ### Inputs (R517, R518, R528) -/ 

/-- A Schmitt input at 11 V or above reads 1, whatever its type (R517). -/
theorem schmitt_high (was t3 : Bool) {v : Nat} (h : 110 ≤ v) : schmitt was v (if t3 then 65 else 90) (if t3 then 80 else 110) = true := by
  cases was <;> cases t3 <;> simp only [schmitt, Bool.false_eq_true, if_true, if_false] <;> exact decide_eq_true (by omega)

/-- An input that is not watched for wire break, where it reads 1: its counter goes up to its limit, and there the input is on (R518). -/
theorem sampleInput_high {s : Kf} {q v : Nat} (cur : Nat) (h : q < 32) (high : 110 ≤ v) (unwatched : bit (s.rd Kf.FIN_WBEN.WBEN) q = false) : 
    let lim := bits (s.rd Kf.FIN_FLTm.LIM (q / 4)) (8 * (q % 4)) 8
    let y := s.sampleInput q v cur
    bit (y.rd Kf.FIN_RAW.RAW) q = true ∧ Tab.get 0 q y.cnt = min lim (Tab.get 0 q s.cnt + 1) ∧
      (lim ≤ Tab.get 0 q s.cnt + 1 → bit (y.rd Kf.FIN_VAL.VAL) q = true) := by
  have fits : ∀ w : Nat, bit (setBit w q true % 2 ^ 32) q = true := fun w => by
    rw [bit, Nat.testBit_mod_two_pow, decide_eq_true h, Bool.true_and]
    exact (bit_setBit_true w q q).trans (by simp)
  intro lim y
  unfold y Kf.sampleInput
  extract_lets t3 raw s1 broken watch low run turn now s2 s3 s4 val wbv wired r s5
  have hraw : raw = true := schmitt_high _ t3 high
  have hwatch : watch = false := by rw [show watch = bit (s1.rd Kf.FIN_WBEN.WBEN) q from rfl, Kf.rd_wr_ne s _ (by decide), unwatched]
  have hnow : now = false := by rw [show now = (watch && (broken != turn)) from rfl, hwatch, Bool.false_and]
  have h4 : s4 = s3 := by rw [show s4 = s3.when (now && !broken) _ from rfl, hnow]; rfl
  have hr : r = integrate true val (Tab.get 0 q s.cnt) lim := by
    rw [show r = if now = true then _ else integrate raw val (Tab.get 0 q s4.cnt) lim from rfl, hnow, hraw, h4]
    rfl
  refine ⟨?_, ?_, fun full => ?_⟩
  · rw [Kf.rd_wr_ne _ _ (by decide), show s5.rd Kf.FIN_RAW.RAW = s4.rd Kf.FIN_RAW.RAW from rfl, h4, Kf.rd_wr_ne _ _ (by decide),
      show s2.rd Kf.FIN_RAW.RAW = s1.rd Kf.FIN_RAW.RAW from rfl, Kf.rd_wr_same, hraw]
    exact fits _
  · exact (Tab.get_set_same ..).trans (congrArg Prod.fst hr)
  · have on : r.2 = true := by
      rw [hr]
      exact if_pos (Nat.min_eq_left full)
    rw [Kf.rd_wr_same, on]
    exact fits _

/-- The station trip input falls below its threshold, and its counter has run down: it is off, and raised where it was on (R528). -/
theorem stinSampleKf_off {s : Kf} {v : Nat} (hr : s.inReset = false) (low : v < 90) (limit : s.rd Kf.TRP_CFG.STLIM ≠ 0) (ran : s.stCnt ≤ 1)
    (on : s.on Kf.TRP_STAT.STIN = true) :
    stinSampleKf v s = ((({ s with stRaw := false, stCnt := 0 } : Kf).wr Kf.TRP_STAT.STIN 0).raise 2).tripEval false := by
  have raw : schmitt s.stRaw v 90 110 = false := by
    cases s.stRaw with
    | false => exact decide_eq_false (by omega)
    | true => exact decide_eq_false (by omega)
  have counted : integrate false true s.stCnt (s.rd Kf.TRP_CFG.STLIM) = (0, false) := by
    have zero : min (s.rd Kf.TRP_CFG.STLIM) s.stCnt - 1 = 0 := by omega
    simp [integrate, zero, Ne.symm limit]
  unfold stinSampleKf
  rw [hr, if_neg Bool.false_ne_true, raw, on]
  simp only [counted]
  rfl

/-! ### Outputs that turn themselves off (R521, R522, R527) -/

/-- A saturating counter of the KF-120 writes itself, its SAT and the sources. -/
theorem Kf.rd_count_ne (s : Kf) {F G H : Fld} (src : Nat) (hG : F.key 0 0 ≠ G.key 0 0) (hH : F.key 0 0 ≠ H.key 0 0)
    (hs : F.key 0 0 ≠ Kf.SVL_SRC.SRC.key 0 0) : (s.count G H src).rd F = s.rd F := by
  unfold Kf.count
  dsimp only
  split
  · rfl
  · unfold Kf.when
    split
    · exact (Kf.rd_wr_ne _ _ hs).trans ((Kf.rd_wr_ne _ _ hH).trans (Kf.rd_wr_ne _ _ hG))
    · exact Kf.rd_wr_ne _ _ hG

section
variable {s : Kf} (hr : s.inReset = false)
include hr

theorem outputSelfOffKf_trip {q : Nat} (off : bit s.off (16 + q) = false) (on : bit (s.rd Kf.TRP_STAT.LVL) q = true) :
    outputSelfOffKf (16 + q) s = (((({ s with off := setBit s.off (16 + q) true } : Kf).wr Kf.TRP_STAT.TFLT
      (setBit (s.rd Kf.TRP_STAT.TFLT) q true)).raise 13).tripEval false) := by
  have q' : 16 + q - 16 = q := by omega
  have big : ¬ 16 + q < 16 := by omega
  have conducts : s.conducts (16 + q) = true := by simp [Kf.conducts, off, big, q', on]
  have acts : ¬ (s.inReset || !s.conducts (16 + q)) = true := by
    rw [hr, conducts]
    decide
  unfold outputSelfOffKf
  rw [if_neg acts]
  simp only [if_neg big, q']
  rfl

theorem outputSelfOffKf_out {i : Nat} (out : i < 16) (off : bit s.off i = false) (on : bit (s.rd Kf.FOUT_LVL.LVL) i = true)
    (whole : s.on Kf.FOUT_STAT.FAULT = false) :
    outputSelfOffKf i s =
      ((Kf.count { s with off := setBit s.off i true } Kf.FOUT_STAT.FCNT Kf.FOUT_STAT.SAT 0).wr Kf.FOUT_STAT.FAULT 1).raise 0 := by
  have conducts : s.conducts i = true := by simp [Kf.conducts, off, out, on]
  have still : (Kf.count { s with off := setBit s.off i true } Kf.FOUT_STAT.FCNT Kf.FOUT_STAT.SAT 0).on Kf.FOUT_STAT.FAULT = false :=
    (congrArg (· == 1) (Kf.rd_count_ne _ 0 (by decide) (by decide) (by decide))).trans whole
  have acts : ¬ (s.inReset || !s.conducts i) = true := by
    rw [hr, conducts]
    decide
  unfold outputSelfOffKf
  rw [if_neg acts]
  simp only [if_pos out]
  exact if_neg (ne_of_eq_of_ne still Bool.false_ne_true)

/-! ### CMD (R525, R529, R535) -/

theorem kfCmdReceivedKf_other {b : Bool} (other : s.isHolder b = false) (out : Nat) (ref resume safe trip tclr : Bool) :
    kfCmdReceivedKf b out ref resume safe trip tclr s = s := by
  unfold kfCmdReceivedKf
  rw [hr, other]
  rfl

end

/-- `t` stands as `s` where a CMD sets the outputs: SAFE or LIVE, the levels it brought, the silence timer. -/
structure Kf.SameOutputs (t s : Kf) : Prop where
  live : t.rd Kf.FOUT_STAT.LIVE = s.rd Kf.FOUT_STAT.LIVE
  cmdOut : t.cmdOut = s.cmdOut
  timer : t.timer = s.timer

namespace Kf.SameOutputs

theorem trans {r s t : Kf} (a : SameOutputs t s) (b : SameOutputs s r) : SameOutputs t r :=
  ⟨a.live.trans b.live, a.cmdOut.trans b.cmdOut, a.timer.trans b.timer⟩

theorem wr (s : Kf) {F : Fld} (v : Nat) (h : Kf.FOUT_STAT.LIVE.key 0 0 ≠ F.key 0 0) : SameOutputs (s.wr F v) s :=
  ⟨Kf.rd_wr_ne _ _ h, rfl, rfl⟩

theorem tripEval (s : Kf) (cmd : Bool) : SameOutputs (s.tripEval cmd) s := by
  have raised : SameOutputs (s.latchRaised cmd) s := by
    obtain e | e := latchRaised_eq s cmd <;> rw [e]
    · exact ⟨rfl, rfl, rfl⟩
    · exact wr s _ (by decide)
  obtain ⟨act, e⟩ := tripEval_eq s cmd
  rw [e]
  exact (wr _ _ (by decide)).trans ((wr _ _ (by decide)).trans ((wr _ _ (by decide)).trans raised))

theorem tripClear (s : Kf) (cmd : Bool) : SameOutputs (s.tripClear cmd) s := by
  unfold Kf.tripClear
  dsimp only
  split
  · exact wr s _ (by decide)
  · exact (tripEval _ _).trans (wr s _ (by decide))

theorem settle (s : Kf) : SameOutputs s.settle s := (tripEval _ _).trans (wr s _ (by decide))

end Kf.SameOutputs

/-- The levels that are brought up to date are those in force (R523). -/
theorem settle_levels (s : Kf) : s.settle.rd Kf.FOUT_LVL.LVL = s.outLevels % 2 ^ 16 := by
  obtain ⟨act, e⟩ := tripEval_eq (s.wr Kf.FOUT_LVL.LVL s.outLevels) false
  rw [Kf.settle, e, Kf.rd_wr_ne _ _ (by decide), Kf.rd_wr_ne _ _ (by decide), Kf.rd_wr_ne _ _ (by decide),
    latchRaised_rd _ _ (by decide), Kf.rd_wr_same]
  rfl

/-- They are brought up to date without a latch being lost. -/
theorem settle_lat {s : Kf} {k : Nat} (h : k < 4) (on : bit (s.rd Kf.TRP_STAT.LAT) k = true) :
    bit (s.settle.rd Kf.TRP_STAT.LAT) k = true := by
  rw [Kf.settle, tripEval_lat _ _ h, Kf.rd_wr_ne _ _ (by decide), on, Bool.true_or]

/-- SAFE is entered, if it was left. -/
theorem enterSafe_live (s : Kf) : s.enterSafe.live = false := by
  unfold Kf.enterSafe
  split
  · exact congrArg (· == 1) (Kf.rd_wr_same s Kf.FOUT_STAT.LIVE 0 0)
  · next off => exact Bool.eq_false_of_not_eq_true off

/-- What RESUME with REF, or SAFE without RESUME, makes of the outputs (R524, R525). -/
def Kf.commanded (s : Kf) (ref resume safe : Bool) : Kf :=
  if resume && ref then { s.wr Kf.FOUT_STAT.LIVE 1 with sil := false } else if !resume && safe then s.enterSafe else s

section
variable (s : Kf) (ref resume safe : Bool)

theorem commanded_levels : (s.commanded ref resume safe).cmdOut = s.cmdOut ∧ (s.commanded ref resume safe).timer = s.timer := by
  unfold Kf.commanded Kf.enterSafe
  split
  · exact ⟨rfl, rfl⟩
  · split
    · split <;> exact ⟨rfl, rfl⟩
    · exact ⟨rfl, rfl⟩

theorem commanded_source {F : Fld} {k : Nat} (h : F.key k 0 ≠ Kf.FOUT_STAT.LIVE.key 0 0) :
    (s.commanded ref resume safe).rd F k = s.rd F k := by
  unfold Kf.commanded Kf.enterSafe
  split
  · exact Kf.rd_wr_ne s 1 h
  · split
    · split
      · exact Kf.rd_wr_ne s 0 h
      · rfl
    · rfl

end

/-- The CMD of the holder is taken in this order (R535). -/
theorem kfCmdReceivedKf_holder {s : Kf} {b : Bool} (hr : s.inReset = false) (hh : s.isHolder b = true) (out : Nat)
    (ref resume safe trip tclr : Bool) : kfCmdReceivedKf b out ref resume safe trip tclr s =
      (let t := (({ s with timer := s.timer || ref, cmdOut := out } : Kf).commanded ref resume safe).tripEval trip
       if tclr then t.tripClear trip else t).settle := by
  unfold kfCmdReceivedKf
  rw [hr, hh]
  rfl

/-- What the CMD of the holder sets (R524, R525, R527). -/
theorem kfCmdReceivedKf_shows {s : Kf} {b : Bool} (hr : s.inReset = false) (hh : s.isHolder b = true) {out : Nat} (fits : out < 2 ^ 16)
    (ref resume safe trip tclr : Bool) :
    let y := kfCmdReceivedKf b out ref resume safe trip tclr s
    y.cmdOut = out ∧ y.timer = (s.timer || ref) ∧ (resume = true → ref = true → y.live = true ∧ y.rd Kf.FOUT_LVL.LVL = out) ∧
      (resume = false → safe = true → y.live = false) ∧
      (trip = true → tclr = false → ∀ q : Nat, q < 4 → bit (s.rd Kf.TRP_SRCk.SRC q) 0 = true → bit (s.rd Kf.TRP_SRCk.SRC q) 1 = true →
        bit (y.rd Kf.TRP_STAT.LAT) q = true) := by
  intro y
  rw [show y = _ from kfCmdReceivedKf_holder hr hh out ref resume safe trip tclr]
  extract_lets t
  generalize hw : (if tclr = true then t.tripClear trip else t) = w
  have hc := commanded_levels { s with timer := s.timer || ref, cmdOut := out } ref resume safe
  have wt : Kf.SameOutputs w t := by
    rw [← hw]
    split
    · exact .tripClear t trip
    · exact ⟨rfl, rfl, rfl⟩
  have wc := wt.trans (.tripEval _ trip)
  have yc := (Kf.SameOutputs.settle w).trans wc
  have liveOf : ∀ v : Kf, Kf.SameOutputs v (({ s with timer := s.timer || ref, cmdOut := out } : Kf).commanded ref resume safe) →
      v.live = (({ s with timer := s.timer || ref, cmdOut := out } : Kf).commanded ref resume safe).live := fun v h => congrArg (· == 1) h.live
  refine ⟨yc.cmdOut.trans hc.1, yc.timer.trans hc.2, ?_, ?_, ?_⟩
  · rintro rfl rfl
    have live : (({ s with timer := s.timer || true, cmdOut := out } : Kf).commanded true true safe).live = true :=
      congrArg (· == 1) (Kf.rd_wr_same s Kf.FOUT_STAT.LIVE 1 0)
    refine ⟨(liveOf _ yc).trans live, ?_⟩
    rw [settle_levels, Kf.outLevels, if_pos ((liveOf _ wc).trans live), wc.cmdOut.trans hc.1, Nat.mod_eq_of_lt fits]
  · rintro rfl rfl
    refine (liveOf _ yc).trans ?_
    simpa [Kf.commanded] using enterSafe_live { s with timer := s.timer || ref, cmdOut := out }
  · rintro rfl rfl q hq enabled byCmd
    have src : (({ s with timer := s.timer || ref, cmdOut := out } : Kf).commanded ref resume safe).rd Kf.TRP_SRCk.SRC q =
        s.rd Kf.TRP_SRCk.SRC q := commanded_source _ _ _ _ (by simp only [Fld.key, Fld.addr, Kf.TRP_SRCk.SRC, Kf.FOUT_STAT.LIVE]; omega)
    refine settle_lat hq ?_
    rw [← hw, if_neg Bool.false_ne_true]
    rw [show t = _ from rfl, tripEval_lat _ _ hq, Kf.tripActive, src, enabled, byCmd]
    simp

/-! ### REG (R8, R533, R535) -/

section
variable {s : Kf} (hr : s.inReset = false) {b : Bool} {op num : Nat} (data tag : Nat)
include hr

/-- A register that does not exist. -/
theorem kfRegReceivedKf_none (none_ : Kf.fieldsAt num = []) : kfRegReceivedKf b op num data tag s = s.rdata b 3 num 0 tag := by
  simp [kfRegReceivedKf, hr, none_]

variable (some_ : Kf.fieldsAt num ≠ [])
include some_

/-- A read is answered for either chip. -/
theorem kfRegReceivedKf_read : kfRegReceivedKf b 1 num data tag s = s.rdata b 0 num (s.readReg num) tag := by
  simp [kfRegReceivedKf, hr, some_]

/-- A write that is not the holder's. -/
theorem kfRegReceivedKf_foreign (other : s.isHolder b = false) : kfRegReceivedKf b 2 num data tag s = s.rdata b 1 num 0 tag := by
  simp [kfRegReceivedKf, hr, some_, other]

variable (hh : s.isHolder b = true)
include hh

/-- A write that would change an RWL field in LIVE. -/
theorem kfRegReceivedKf_locked (live : s.live = true)
    (changes : ∃ p ∈ Kf.fieldsAt num, p.1.acc = .rwl ∧ s.rd p.1 p.2 ≠ bits data p.1.lo p.1.w) :
    kfRegReceivedKf b 2 num data tag s = (s.raise 14).rdata b 2 num 0 tag := by
  have locked : (Kf.fieldsAt num).any (fun p => decide (p.1.acc = .rwl) && s.rd p.1 p.2 != bits data p.1.lo p.1.w) = true := by
    simpa only [List.any_eq_true, Bool.and_eq_true, decide_eq_true_eq, bne_iff_ne] using changes
  simp [kfRegReceivedKf, hr, some_, hh, live, locked]

/-- A write that changes none in LIVE, and brings no reserved value. -/
theorem kfRegReceivedKf_write
    (open_ : s.live = false ∨ ∀ p ∈ Kf.fieldsAt num, p.1.acc = .rwl → s.rd p.1 p.2 = bits data p.1.lo p.1.w)
    (fit : ∀ p ∈ Kf.fieldsAt num, p.1.acc = .rwl ∨ p.1.acc = .rw → p.1.ok (bits data p.1.lo p.1.w) = true) :
    kfRegReceivedKf b 2 num data tag s =
      ((((Kf.fieldsAt num).foldl (fun y p => y.writeField p data) s).settle).rdata b 0 num data tag) := by
  have unlocked : (s.live && (Kf.fieldsAt num).any (fun p => decide (p.1.acc = .rwl) && s.rd p.1 p.2 != bits data p.1.lo p.1.w)) = false := by
    obtain safe | same := open_
    · rw [safe, Bool.false_and]
    · rw [Bool.and_eq_false_iff]
      refine .inr (List.any_eq_false.mpr fun p hp changes => ?_)
      simp only [Bool.and_eq_true, decide_eq_true_eq, bne_iff_ne] at changes
      exact changes.2 (same p hp changes.1)
  have none_ : (Kf.fieldsAt num).any (fun p => decide (p.1.acc = .rwl ∨ p.1.acc = .rw) && !p.1.ok (bits data p.1.lo p.1.w)) = false := by
    refine List.any_eq_false.mpr fun p hp reserved => ?_
    simp only [Bool.and_eq_true, decide_eq_true_eq, Bool.not_eq_true'] at reserved
    exact absurd (fit p hp reserved.1) (by simp [reserved.2])
  unfold kfRegReceivedKf
  simp only [hr, hh, unlocked, none_, List.isEmpty_iff, some_, Bool.false_eq_true, Bool.not_true, if_false, ne_eq, not_true,
    show ¬ 2 = 1 by decide]

end

/-! ### Discarded messages, silence, clock, supply, temperature (R516, R525, R527, R532, R537) -/

/-- The field that counts the discarded messages of a chip (R541). -/
def errFld (b : Bool) : Fld := if b then Kf.SVL_ERR.EB else Kf.SVL_ERR.EA

theorem discard_counts {s : Kf} {b : Bool} (hr : s.inReset = false) (room : s.rd (errFld b) + 1 < (errFld b).max) :
    s.discard b = (s.wr (errFld b) (s.rd (errFld b) + 1)).raise 9 := by
  have counted : s.count (errFld b) Kf.SVL_ERR.SAT 9 = s.wr (errFld b) (s.rd (errFld b) + 1) := by
    have below : s.rd (errFld b) ≠ (errFld b).max := by omega
    have still : (s.rd (errFld b) + 1 == (errFld b).max) = false := beq_eq_false_iff_ne.mpr (by omega)
    simp only [Kf.count, if_neg below, still, Kf.when_false]
  have rises : decide (s.rd (errFld b) < (errFld b).max) = true := decide_eq_true (by omega)
  rw [show s.discard b = if s.inReset then s else (s.count (errFld b) Kf.SVL_ERR.SAT 9).when (decide (s.rd (errFld b) < (errFld b).max))
    (fun s => s.raise 9) from rfl, hr, if_neg Bool.false_ne_true, rises, Kf.when_true, counted]

theorem silenceTimerExpiryKf_runs {s : Kf} (hr : s.inReset = false) (runs : s.timer = true) :
    silenceTimerExpiryKf s = ({ (s.raise 5).enterSafe with sil := true, timer := false } : Kf).settle := by
  unfold silenceTimerExpiryKf
  rw [hr, runs]
  rfl

theorem kfSupplyWarningKf_low {s : Kf} {vsup : Nat} (hr : s.inReset = false) (low : vsup < 80) :
    kfSupplyWarningKf vsup s = { inReset := true } := by
  unfold kfSupplyWarningKf
  rw [hr, if_neg Bool.false_ne_true, if_pos low]
  rfl

theorem kfSupplyWarningKf_warns {s : Kf} {vsup : Nat} (hr : s.inReset = false) (calm : s.supply = false) (above : 80 ≤ vsup)
    (below : vsup < 96) : kfSupplyWarningKf vsup s =
      ({ (s.wr Kf.SVL_SUP.VSUP vsup).raise 10 with supply := true } : Kf).tripEval false := by
  have warn : decide ((80 ≤ vsup ∧ vsup < 96) ∨ (150 < vsup ∧ vsup ≤ 180)) = true := decide_eq_true (.inl ⟨above, below⟩)
  unfold kfSupplyWarningKf
  rw [hr, if_neg Bool.false_ne_true, if_neg (by omega)]
  simp only [warn, Kf.wr_supply, calm, Bool.not_false, Bool.and_self, Kf.when_true]

theorem kfSupplyWarningKf_calm {s : Kf} {vsup : Nat} (hr : s.inReset = false) (calm : s.supply = false) (above : 96 ≤ vsup)
    (below : vsup ≤ 150) : kfSupplyWarningKf vsup s = (s.wr Kf.SVL_SUP.VSUP vsup).tripEval false := by
  have warn : decide ((80 ≤ vsup ∧ vsup < 96) ∨ (150 < vsup ∧ vsup ≤ 180)) = false := decide_eq_false (by omega)
  have same : ({ s.wr Kf.SVL_SUP.VSUP vsup with supply := false } : Kf) = s.wr Kf.SVL_SUP.VSUP vsup := by
    rw [← calm]
    rfl
  unfold kfSupplyWarningKf
  rw [hr, if_neg Bool.false_ne_true, if_neg (by omega)]
  simp only [warn, Bool.false_and, Kf.when_false]
  rw [same]

theorem kfResetReleaseKf_released {s : Kf} {vsup : Nat} (hr : s.inReset = true) (above : 85 < vsup) :
    kfResetReleaseKf vsup s = (kfSupplyWarningKf vsup { s with inReset := false }).settle := by
  unfold kfResetReleaseKf
  rw [hr, decide_eq_true above]
  rfl

theorem kfDieOverTemperatureKf_hot {s : Kf} {die : Nat} (hr : s.inReset = false) (cool : s.temp = false) (hot : 180 < die) :
    kfDieOverTemperatureKf die s = ({ (s.wr Kf.SVL_SUP.DIE die).raise 11 with temp := true } : Kf).tripEval false := by
  unfold kfDieOverTemperatureKf
  rw [hr, if_neg Bool.false_ne_true]
  simp only [decide_eq_true hot, Kf.wr_temp, cool, Bool.not_false, Bool.and_self, Kf.when_true]

end Sys2Proof.Machine
end

section
/-! The chip's end of the supervisor link (R542), and the statement on the KF-120 and its link. -/

namespace Sys2Proof.Machine

/-! ### Requests of a chip (R533, R542) -/

section
variable {k : Kv} (op num : Nat)

/-- The request is on its way, with a tag of the engine's own. -/
theorem svlRequest_idle (idle : k.on Kv.SVL_REQ.BUSY = false) : k.svlRequest op num =
    { (({ k.wr Kv.SVL_REQ.NUM num with free := k.free + 1 } : Kv).mark Kv.SVL_REQ.BUSY).send ⟨.svlReg, 0, svlMessage 3
        ([op, num % 256] ++ beBytes 4 (if op = 2 then (k.wr Kv.SVL_REQ.NUM num).rd Kv.SVL_WD.D else 0) ++
          [Config.unstated k.free % 256, 0])⟩ with hst := { k.hst with regRead := op == 1 } } := by
  have free : ¬ (k.wr Kv.SVL_REQ.NUM num).on Kv.SVL_REQ.BUSY = true := by rw [Kv.on_wr_ne _ _ (by decide), idle]; decide
  unfold Kv.svlRequest
  simp only [if_neg free]
  rfl

theorem svlRequest_busy (busy : k.on Kv.SVL_REQ.BUSY = true) :
    k.svlRequest op num = (k.wr Kv.SVL_REQ.NUM num).raise Src.REGACC 18 Kv.SVL_REQ.OP.base := by
  unfold Kv.svlRequest
  exact if_pos ((Kv.on_wr_ne _ _ (by decide)).trans busy)

/-- What shows of a request on its way. -/
theorem svlRequest_shows (idle : k.on Kv.SVL_REQ.BUSY = false) (silent : k.out = []) (hn : num < 256) :
    let y := k.svlRequest op num
    y.on Kv.SVL_REQ.BUSY = true ∧ y.rd Kv.SVL_REQ.NUM = num ∧ y.hst.regRead = (op == 1) ∧ ∃ t : Nat, y.out =
      [⟨.svlReg, 0, svlMessage 3 ([op, num] ++ beBytes 4 (if op = 2 then k.rd Kv.SVL_WD.D else 0) ++ [t % 256, 0])⟩] := by
  intro y
  rw [show y = _ from svlRequest_idle op num idle]
  refine ⟨congrArg (· == 1) (Kv.rd_wr_same _ Kv.SVL_REQ.BUSY 1 0 0), ?_, rfl, Config.unstated k.free, ?_⟩
  · have apart : Kv.SVL_REQ.NUM.key 0 0 ≠ Kv.SVL_REQ.BUSY.key 0 0 := by decide
    exact (Kv.rd_wr_ne (k.wr Kv.SVL_REQ.NUM num) 1 apart).trans ((Kv.rd_wr_same k Kv.SVL_REQ.NUM num 0 0).trans (Nat.mod_eq_of_lt hn))
  · rw [Kv.rd_wr_ne _ _ (by decide), Nat.mod_eq_of_lt hn]
    exact congrArg (· ++ _) silent

end

/-- The reply to the request under way ends it; the data of a read that went well are kept. -/
theorem svlRdataReceivedKv_busy {k : Kv} (busy : k.on Kv.SVL_REQ.BUSY = true) (status data : Nat) :
    let y := svlRdataReceivedKv status data k
    y.on Kv.SVL_REQ.BUSY = false ∧ y.rd Kv.SVL_REQ.RSTAT = status % 2 ^ Kv.SVL_REQ.RSTAT.w ∧
      (k.hst.regRead = true → status = 0 → y.rd Kv.SVL_RD.D = data % 2 ^ 32) := by
  intro y
  have taken : y = ((k.svlHeard.wr Kv.SVL_REQ.BUSY 0).wr Kv.SVL_REQ.RSTAT status).when (k.hst.regRead && status % 8 == 0)
      (fun s => s.wr Kv.SVL_RD.D data) := if_pos (show k.svlHeard.on Kv.SVL_REQ.BUSY = true from busy)
  have kept : ∀ F : Fld, F.key 0 0 ≠ Kv.SVL_RD.D.key 0 0 →
      y.rd F = ((k.svlHeard.wr Kv.SVL_REQ.BUSY 0).wr Kv.SVL_REQ.RSTAT status).rd F := fun F h => by
    rw [taken, Kv.when]
    split
    · exact Kv.rd_wr_ne _ _ h
    · rfl
  refine ⟨congrArg (· == 1) ((kept _ (by decide)).trans ((Kv.rd_wr_ne _ _ (by decide)).trans (Kv.rd_wr_same _ Kv.SVL_REQ.BUSY 0 0 0))),
    (kept _ (by decide)).trans (Kv.rd_wr_same ..), fun read well => ?_⟩
  rw [taken, read, well]
  exact Kv.rd_wr_same _ Kv.SVL_RD.D data 0 0

theorem svlLinkLossKv_lost {k : Kv} (up : k.on Kv.SVL_STAT.UP = true) (now : tickIs k.svlLast k.tick = false)
    (before : tickIs k.svlLast (tickPrev k.tick) = false) : svlLinkLossKv k = (k.wr Kv.SVL_STAT.UP 0).raise Src.SVL_LINK 0 0 := by
  unfold svlLinkLossKv
  rw [up, now, before]
  rfl

/-! ### The statement -/

/-- Settles O57: each clause is what its operation comes to, at the KF-120 and on a chip that takes commands. -/
theorem companionInputsOutputsTripsAndSupervisorLink : Obligations.Companion_inputs_outputs_trips_and_supervisor_link := by
  intro s c vs cs v out i ref resume safe trip tclr op num tag vsup die status data f k b kf goes fs sampled
  have kfBy {j : Instr} {g : Kf → Kf} {y : Kf} (named : exec j s = .next (s.onKf g)) (does : g f = y) : kf j y := exec_kf named does
  refine ⟨fun (hr : f.inReset = false) => ⟨?inputs, ?samples, ?stin, ?source, ?tripOff, ?outOff, ?restart, ?foreignCmd, ?cmd, ?noReg, ?read, ?foreign,
    ?locked, ?write, ?discard, ?silence, ?refclk, ?supply, ?die⟩, kfBy rfl rfl, fun hr low => kfBy rfl (kfSupplyWarningKf_low hr low),
    ?release, fun live => ?chip⟩
  case inputs => exact kfBy rfl (if_neg (by rw [hr]; decide))
  case samples => exact fun q x cur hq high unwatched _ => sampleInput_high cur hq high unwatched
  case stin => exact fun low limit ran on => kfBy rfl (stinSampleKf_off hr low limit ran on)
  case source => exact kfBy rfl (if_neg (by rw [hr]; decide))
  case tripOff =>
    intro q hq hi off on
    refine kfBy rfl ?_
    rw [hi] at off ⊢
    exact outputSelfOffKf_trip hr off on
  case outOff => exact fun plain off on whole => kfBy rfl (outputSelfOffKf_out hr plain off on whole)
  case restart => exact kfBy rfl (if_neg (by rw [hr]; decide))
  case foreignCmd => exact fun other => kfBy rfl (kfCmdReceivedKf_other hr other ..)
  case cmd => exact fun hh => ⟨_, kfBy rfl rfl, kfCmdReceivedKf_shows hr hh out.isLt ref resume safe trip tclr⟩
  case noReg => exact fun none_ => kfBy rfl (kfRegReceivedKf_none hr _ _ none_)
  case read =>
    rintro some_ rfl
    exact kfBy rfl (kfRegReceivedKf_read hr _ _ some_)
  case foreign =>
    rintro some_ rfl other
    exact kfBy rfl (kfRegReceivedKf_foreign hr _ _ some_ other)
  case locked =>
    rintro rfl hh isLive changes
    have some_ : fs ≠ [] := fun none_ => by
      obtain ⟨p, hp, -⟩ := changes
      exact absurd hp (by rw [none_]; exact List.not_mem_nil)
    exact kfBy rfl (kfRegReceivedKf_locked hr _ _ some_ hh isLive changes)
  case write =>
    rintro some_ rfl hh open_ fit
    exact kfBy rfl (kfRegReceivedKf_write hr _ _ some_ hh open_ fit)
  case discard => exact fun room => kfBy (g := fun y => y.discard b) rfl (discard_counts hr room)
  case silence => exact fun runs => kfBy rfl (silenceTimerExpiryKf_runs hr runs)
  case refclk => exact kfBy rfl (if_neg (by rw [hr]; decide))
  case supply => exact fun calm above below => kfBy rfl (kfSupplyWarningKf_warns hr calm above below)
  case die => exact fun cool hot => kfBy rfl (kfDieOverTemperatureKf_hot hr cool hot)
  case release =>
    intro hr high y
    have released := kfResetReleaseKf_released hr high
    refine ⟨fun above below calm => kfBy rfl (released.trans (congrArg Kf.settle ?_)),
      fun below calm => kfBy rfl (released.trans (congrArg Kf.settle ?_))⟩
    · exact kfSupplyWarningKf_calm rfl calm above below
    · exact kfSupplyWarningKf_warns rfl calm (by omega) below
  case chip =>
    have goesBy {j : Instr} {g : Kv → Kv} {y : Kv} (named : exec j s = .next (s.onKv c g)) (does : g k = y) : goes j y :=
      exec_live live named does
    refine ⟨goesBy rfl rfl, fun idle => ?_, fun busy => ⟨goesBy rfl (svlRequest_busy 1 _ busy), ?_⟩, goesBy rfl rfl, goesBy rfl rfl, fun runs => ?_,
      fun held => goesBy rfl (if_pos held), fun up now before => goesBy rfl (svlLinkLossKv_lost up now before)⟩
    · obtain ⟨busyR, numR, readR, outR⟩ := svlRequest_shows (k := k) 1 num.toNat idle rfl num.isLt
      obtain ⟨busyW, -, readW, outW⟩ := svlRequest_shows (k := k) 2 num.toNat idle rfl num.isLt
      exact ⟨_, _, goesBy rfl rfl, goesBy rfl rfl, busyR, busyW, numR, readR, readW, outR, outW⟩
    · obtain ⟨ended, told, kept⟩ := svlRdataReceivedKv_busy busy status.toNat data.toNat
      refine ⟨_, goesBy rfl rfl, ended, told, ?_⟩
      rintro read rfl
      exact (kept read rfl).trans (Nat.mod_eq_of_lt data.isLt)
    · exact goesBy rfl (if_neg (by rw [runs]; decide))

end Sys2Proof.Machine
end

section
/-! The commit of an on-line change may lose the link as it asks for it: sending shows that an active lane is no longer UP, the link goes down, and
a loss of the link at level 4 fails the change itself (R78, R358, R396, R418). -/

namespace Sys2Proof.Machine

/-- A standby whose checked on-line change waits for COMMIT, on a link that runs over lane 0 alone, and that lane not UP; the loss of the link is a
fault of level 4 (R406: software may set any severity). -/
def failingCommit : State :=
  let k := (State.reset.kvAt .a).wr Kv.DSP_OLC.STATE 3
  { State.reset with a := ((k.wr Kv.CL_STAT.UP 1).wr Kv.CL_STAT.ACT 1).wr Kv.FLT_SEVn.SEV 4 Src.CL_DOWN }

/-- An image without content, for the operand of a statement that speaks of images beside. -/
def emptyImage : Image :=
  { raw := [], forKv := true, length := 0, sections := [], keyHash := 0, sig := false, svn := 0, ident := 0, version := 0, wp := 0, regs := [],
    code := [], data := [], entries := [], vars := [], arms := [], cells := [], cellProgs := [] }

theorem failingCommit_waits : (failingCommit.kvAt .a).duty = false ∧ (failingCommit.kvAt .a).rd Kv.DSP_OLC.STATE = 3 ∧
    (failingCommit.kvAt .a).dsp.olcReload = false := by decide +kernel

/-- COMMIT leaves it with the reload of the old image asked for. -/
theorem failingCommit_reloads : (olcCommitKv 0 (failingCommit.kvAt .a)).dsp.olcReload = true := by decide +kernel

/-- What the statement says of a COMMIT in CHECKED on the standby: no reload comes to be asked for. -/
theorem commit_keeps_reload (claim : Obligations.Forces_and_on_line_change) {s : State} {c : Chip} (live : s.live c) (im : Image)
    (standby : (s.kvAt c).duty = false) (checked : (s.kvAt c).rd Kv.DSP_OLC.STATE = 3) :
    (olcCommitKv 0 (s.kvAt c)).dsp.olcReload = (s.kvAt c).dsp.olcReload := by
  obtain ⟨-, -, -, -, -, -, -, -, commit, -⟩ := claim s c 0 0 im live
  have did : exec (.olcCommit c 0) s = .next (s.setChip c (olcCommitKv 0 (s.kvAt c))) := exec_live live rfl rfl
  have same := congrArg (·.chip c) (Host.Outcome.next.inj (did.symm.trans (commit standby checked)))
  simp only [State.setChip_chip] at same
  rw [same]

/-- Refutes O49: a COMMIT in CHECKED on the standby need not leave the dispatcher's state but for the tick of the change. On `failingCommit` the
link goes down as COMMITREQ is sent, CL_DOWN is raised at level 4, and the reload of the old image is noted. -/
theorem not_forcesAndOnLineChange : ¬ Obligations.Forces_and_on_line_change := by
  intro claim
  obtain ⟨standby, checked, unasked⟩ := failingCommit_waits
  have kept := commit_keeps_reload claim (s := failingCommit) (c := .a) rfl emptyImage standby checked
  rw [failingCommit_reloads, unasked] at kept
  exact absurd kept (by decide)

end Sys2Proof.Machine
end

section
/-! Castle messages that come in, the epochs of the ledger, the self-test and the health report (R339, R356, R375 to R394). -/

namespace Sys2Proof.Machine

/-! ### What the lanes do not change -/

@[simp] theorem Kv.goneBy_cas (k : Kv) : k.goneBy.cas = k.cas := k.goneBy_keeps (·.cas) fun _ _ => rfl
@[simp] theorem Kv.goneBy_served (k : Kv) : k.goneBy.served = k.served := k.goneBy_keeps (·.served) fun _ _ => rfl
@[simp] theorem Kv.goneBy_frameFor (k : Kv) (t : Nat) : k.goneBy.frameFor t = k.frameFor t := k.goneBy_keeps (·.frameFor t) fun _ _ => rfl
@[simp] theorem Kv.goneBy_tokenAt (k : Kv) (f : Nat) : k.goneBy.tokenAt f = k.tokenAt f := k.goneBy_keeps (·.tokenAt f) fun _ _ => rfl
@[simp] theorem Kv.goneBy_seqAt (k : Kv) (f : Nat) : k.goneBy.seqAt f = k.seqAt f := k.goneBy_keeps (·.seqAt f) fun _ _ => rfl
@[simp] theorem Kv.goneBy_epochSink (k : Kv) (n : Nat) : k.goneBy.epochSink n = k.epochSink n := k.goneBy_keeps (·.epochSink n) fun _ _ => rfl
@[simp] theorem Kv.goneBy_ldgSink (k : Kv) : k.goneBy.ldgSink = k.ldgSink := k.goneBy_keeps (·.ldgSink) fun _ _ => rfl
@[simp] theorem Kv.goneBy_cvuDone (k : Kv) (a n : Nat) : k.goneBy.cvuDone a n = k.cvuDone a n := k.goneBy_keeps (·.cvuDone a n) fun _ _ => rfl

/-! ### Messages -/

section
variable {k : Kv} {e : Envelope} (up : k.on Kv.CL_STAT.UP = true)
include up

/-- A message that fails its check is discarded and counted, whatever it says (R377). -/
theorem castleIn_failing (bad : e.ok = false) (f : Kv → Kv) : k.castleIn e f = k.goneBy.castleDiscard := by
  have up' : k.goneBy.on Kv.CL_STAT.UP = true := (k.goneBy_on _).trans up
  have e₁ : k.castleIn e f = if !k.goneBy.on Kv.CL_STAT.UP then k.goneBy else if !e.ok then k.goneBy.castleDiscard
    else f (k.goneBy.castleHeard e) := rfl
  rw [e₁, up', bad]
  rfl

variable (ok : e.ok = true) (plain : e.claim = false)
include ok plain

theorem stateMessageKv_plain {m : StateMsg} (whole : m.missed = none) :
    let y := { k.goneBy with cas := { k.goneBy.cas with other := some m, otherSeq := e.cseq.toNat, otherTick := k.tick + 1 } }
    stateMessageKv e m k = if m.claim && !k.duty then y.wr Kv.CL_CASST.CSEQ e.cseq.toNat else y := by
  intro y
  rw [stateMessageKv, castleIn_plain up ok plain, whole]
  have duty : y.duty = k.duty := k.goneBy_duty
  have e₁ : { k.goneBy with cas := { k.goneBy.cas with other := some m, otherSeq := e.cseq.toNat, otherTick := k.goneBy.tick + 1 } } = y := by
    rw [Kv.goneBy_tick]
  rw [← duty, ← e₁]
  rfl

theorem digestMessageKv_plain (t : Nat) (ds : List (BitVec 64)) :
    let kept := (k.served.zip ds).foldl (fun d p => Tab.set 0 (p.1 * 8 + t % 8) ((t + 1) * 2 ^ 64 + p.2.toNat) d) k.cas.digests
    digestMessageKv e t (ds.map BitVec.toNat) true k =
      ({ k.goneBy with cas := { k.goneBy.cas with digests := kept } } : Kv).endorse t := by
  intro kept
  have same : (k.goneBy.served.zip (ds.map BitVec.toNat)).foldl
      (fun d p => Tab.set 0 (p.1 * 8 + t % 8) ((t + 1) * 2 ^ 64 + p.2 % 2 ^ 64) d) k.goneBy.cas.digests = kept := by
    rw [Kv.goneBy_served, Kv.goneBy_cas, List.zip_map_right, List.foldl_map]
    simp only [Prod.map, id_eq, BitVec.toNat_mod_cancel, kept]
  rw [digestMessageKv, castleIn_plain up ok plain, ← same]
  rfl

theorem endorseMessageKv_plain {t mask seq : Nat} (small : seq < 65536) (other : k.tokenAt (k.frameFor t) = false)
    (same : seq = k.seqAt (k.frameFor t)) : endorseMessageKv e t mask seq true k = k.goneBy.settleEndorse t mask := by
  have taken : (true && !k.goneBy.tokenAt (k.goneBy.frameFor t) && seq % 65536 == k.goneBy.seqAt (k.goneBy.frameFor t)) = true := by
    simp [other, ← same, Nat.mod_eq_of_lt small]
  rw [endorseMessageKv, castleIn_plain up ok plain]
  exact if_pos taken

theorem evrelMessageKv_ahead (stby : k.duty = false) {b : Nat} (ahead : tickAhead k.tick b = true) (tasks : List (BitVec 5)) :
    evrelMessageKv e b (tasks.map BitVec.toNat) k =
      { k.goneBy with dsp := { k.goneBy.dsp with evrel := k.goneBy.dsp.evrel ++ tasks.map BitVec.toNat } } := by
  have same : (tasks.map BitVec.toNat).map (· % 32) = tasks.map BitVec.toNat := by
    rw [List.map_map]
    exact List.map_congr_left fun t _ => Nat.mod_eq_of_lt t.isLt
  rw [evrelMessageKv, castleIn_plain up ok plain]
  dsimp only
  rw [Kv.goneBy_duty, Kv.goneBy_tick, stby, ahead, same]
  rfl

theorem evrelMessageKv_now (stby : k.duty = false) {b : Nat} (now : tickAhead k.tick b = false) (tasks : List (BitVec 5)) :
    evrelMessageKv e b (tasks.map BitVec.toNat) k = tasks.foldl (fun y t => y.releaseTask (64 + t.toNat) b) k.goneBy := by
  rw [evrelMessageKv, castleIn_plain up ok plain]
  dsimp only
  rw [Kv.goneBy_duty, Kv.goneBy_tick, stby, now]
  simp only [Bool.false_eq_true, if_false, Kv.each, List.foldl_map]
  congr 1
  funext y t
  rw [show t.toNat % 32 = t.toNat from Nat.mod_eq_of_lt t.isLt]

theorem forceMessageKv_inTime (stby : k.duty = false) {x : FrcChange} (ahead : tickAhead k.tick x.tick = true) :
    forceMessageKv e x k =
      { k.goneBy with dsp := { k.goneBy.dsp with changes := k.goneBy.dsp.changes ++ [{ x with arrived := true }] } } := by
  rw [forceMessageKv, castleIn_plain up ok plain]
  refine if_pos ?_
  rw [Kv.forceInTime, Kv.goneBy_duty, Kv.goneBy_tick, stby, ahead]
  rfl

section
variable {n : Nat} (sink : k.epochSink n = true) (open_ : tickDone k.cas.epochDone n = false)
include sink open_

theorem ledgerMessageKv_open (l : List Entry) :
    ledgerMessageKv e n l k = { k.goneBy with cas := k.goneBy.cas.gather n l false } := by
  rw [ledgerMessageKv, castleIn_plain up ok plain]
  refine if_neg ?_
  rw [Kv.goneBy_epochSink, Kv.goneBy_cas, sink, open_]
  decide

/-- An epoch's end stages what came, which is applied where it is what the source made, else missed (R386, R389, R479). -/
theorem epochendMessageKv_open (count bytes crc : Nat) :
    let l := k.cas.entriesOf n
    let y := ({ k.goneBy with cas := k.goneBy.cas.gather n [] true } : Kv).stageEpoch n l
    epochendMessageKv e n count bytes crc k =
      if y.crcRes 3 = crc ∧ l.length = count ∧ (l.map (fun z => z.bytes.length)).sum = bytes then y.applyEpoch.t0Try
      else (y.missEpoch n).t0Try := by
  intro l y
  have going : ¬ (!k.goneBy.epochSink n || tickDone k.goneBy.cas.epochDone n) = true := by
    rw [Kv.goneBy_epochSink, Kv.goneBy_cas, sink, open_]
    decide
  have same : y = ({ k.goneBy with cas := k.goneBy.cas.gather n [] true } : Kv).stageEpoch n (k.goneBy.cas.entriesOf n) :=
    congrArg (fun c : CasSt => ({ k.goneBy with cas := k.goneBy.cas.gather n [] true } : Kv).stageEpoch n (c.entriesOf n))
      k.goneBy_cas.symm
  have size : entryBytes l = (l.map (fun z => z.bytes.length)).sum := by
    rw [entryBytes, List.sum_eq_foldl, List.foldl_map]
  rw [epochendMessageKv, castleIn_plain up ok plain]
  dsimp only
  rw [if_neg going, ← same, Kv.goneBy_cas, show k.cas.entriesOf n = l from rfl, size]
  simp only [Bool.and_eq_true, beq_iff_eq, and_assoc]

end

theorem sweepMessageKv_whole {a n : Nat} {l : List Byte} (sink : k.ldgSink = true) (early : k.cvuDone a ((n + 1) % 2 ^ 48) = false)
    (whole : l.length = 116) : sweepMessageKv e a n l k =
      Kv.forcedBytes 2 (recAddr a + 0x54) (l.drop 112) (Kv.forcedBytes 20 (recAddr a + 0x60) (l.take 112) k.goneBy) := by
  rw [sweepMessageKv, castleIn_plain up ok plain]
  refine if_neg ?_
  rw [Kv.goneBy_ldgSink, Kv.goneBy_cvuDone, tickPlus, sink, early, whole]
  decide

end

/-! ### The entries of an epoch -/

theorem gather_first {c : CasSt} {n : Nat} (new : ∀ z ∈ c.epochs, z.n ≠ n) (l : List Entry) :
    c.gather n l false = { c with epochs := c.epochs ++ [⟨n, l, false⟩] } := by
  have none_ : ¬ c.epochs.any (fun z => z.n == n) = true := by simpa using new
  exact if_neg none_

theorem gather_more {c : CasSt} {n : Nat} {had : List Entry} (only : c.epochs = [⟨n, had, false⟩]) (l : List Entry) (ended : Bool) :
    c.gather n l ended = { c with epochs := [⟨n, had ++ l, ended⟩] } := by
  simp [CasSt.gather, only]

theorem entriesOf_only {c : CasSt} {n : Nat} {here : List Entry} (only : c.epochs = [⟨n, here, false⟩]) : c.entriesOf n = here := by
  simp [CasSt.entriesOf, only]

/-- A chip shows nothing of a peer that is no source of the ledger (R388). -/
theorem mirrorLedger_sink (k : Kv) {src : Kv} (h : src.ldgSource = false) : k.mirrorLedger src = k := by
  rw [Kv.mirrorLedger, h, Bool.and_false]
  rfl

/-! ### The health report -/

/-- Raising a fault leaves the registers of the ledger, which lie below the collector's. -/
theorem ledger_untouched (F : Fld) (below : F.key 0 0 < 0xC200 * 32) : Untouched (fun t s => t.rd F = s.rd F) :=
  untouched_rd F 0 0 fun G hG a b => by
    have := raiseFlds_above G hG a b
    omega

/-- LDG_HLTH0 to LDG_HLTH3 as a report of these words fills them (R394). -/
def Kv.healthHeld (k : Kv) (w0 w1 w2 w3 : Word) : Kv :=
  ((((((((((k.wr Kv.LDG_HLTH0.PNUM (bits w0.toNat 16 16)).wr Kv.LDG_HLTH0.RDY (bits w0.toNat 8 8)).wr Kv.LDG_HLTH0.BFAIL (bits w0.toNat 7 1)).wr
    Kv.LDG_HLTH0.SAT (bits w0.toNat 0 1)).wr Kv.LDG_HLTH1.NRDY (bits w1.toNat 16 16)).wr Kv.LDG_HLTH1.UNT (bits w1.toNat 0 16)).wr
    Kv.LDG_HLTH2.PATH (bits w2.toNat 16 16)).wr Kv.LDG_HLTH2.UNEND (bits w2.toNat 0 16)).wr Kv.LDG_HLTH3.AMAX (bits w3.toNat 16 16)).wr
    Kv.LDG_HLTH3.LAGM (bits w3.toNat 8 8)).wr Kv.LDG_HLTH3.MISS (bits w3.toNat 0 8)

theorem holdHealth_eq (k : Kv) (w0 w1 w2 w3 : Word) : k.holdHealth w0 w1 w2 w3 =
    ((k.healthHeld w0 w1 w2 w3).raise Src.CL_HEALTH 0 0).when (bit w0.toNat 0)
      (fun s => s.raise Src.CL_HEALTH 1 Kv.LDG_HLTH0.SAT.base) := rfl

theorem holdHealth_pnum (k : Kv) (w0 w1 w2 w3 : Word) :
    (k.holdHealth w0 w1 w2 w3).rd Kv.LDG_HLTH0.PNUM = (k.healthHeld w0 w1 w2 w3).rd Kv.LDG_HLTH0.PNUM := by
  have u := ledger_untouched Kv.LDG_HLTH0.PNUM (by decide)
  rw [holdHealth_eq]
  exact u.tr (u.when _ _ _ (u.raise _ _ _ _)) (u.raise _ _ _ _)

/-- What a report's registers show of its words. -/
theorem healthHeld_shows (k : Kv) (w0 w1 w2 w3 : Word) :
    let y := k.healthHeld w0 w1 w2 w3
    y.rd Kv.LDG_HLTH0.PNUM = w0.toNat / 2 ^ 16 ∧ y.rd Kv.LDG_HLTH0.RDY = w0.toNat / 2 ^ 8 % 256 ∧
      y.rd Kv.LDG_HLTH1.NRDY = w1.toNat / 2 ^ 16 ∧ y.rd Kv.LDG_HLTH1.UNT = w1.toNat % 2 ^ 16 ∧
      y.rd Kv.LDG_HLTH2.PATH = w2.toNat / 2 ^ 16 ∧ y.rd Kv.LDG_HLTH2.UNEND = w2.toNat % 2 ^ 16 ∧
      y.rd Kv.LDG_HLTH3.AMAX = w3.toNat / 2 ^ 16 := by
  have high (w : Word) : bits w.toNat 16 16 % 2 ^ 16 = w.toNat / 2 ^ 16 :=
    (Nat.mod_mod _ _).trans (Nat.mod_eq_of_lt (by have := w.isLt; omega))
  have low (w : Word) : bits w.toNat 0 16 % 2 ^ 16 = w.toNat % 2 ^ 16 := by rw [bits, Nat.mod_mod, Nat.pow_zero, Nat.div_one]
  intro y
  refine ⟨?_, ?_, ?_, ?_, ?_, ?_, ?_⟩ <;> simp (disch := decide) only [y, Kv.healthHeld, Kv.rd_wr_ne] <;> refine (Kv.rd_wr_same ..).trans ?_
  · exact high w0
  · exact Nat.mod_mod _ _
  · exact high w1
  · exact low w1
  · exact high w2
  · exact low w2
  · exact high w3

/-- A report that met no limit is held, and raises its source once (R394). -/
theorem healthMessageKv_plain {k : Kv} {e : Envelope} (up : k.on Kv.CL_STAT.UP = true) (ok : e.ok = true) (plain : e.claim = false)
    (w0 w1 w2 w3 : Word) (calm : w0.getLsbD 0 = false) :
    healthMessageKv e w0 w1 w2 w3 k = (k.goneBy.healthHeld w0 w1 w2 w3).raise Src.CL_HEALTH 0 0 := by
  rw [healthMessageKv, castleIn_plain up ok plain, holdHealth_eq, show bit w0.toNat 0 = false from calm]
  rfl

/-- At the end of its period the standby holds its report, under the next number, and starts the next period (R394). -/
theorem healthReportKv_due {k : Kv} (stby : k.duty = false) (due : 100000000 / k.tickNs ≤ k.cas.period) :
    let y := healthReportKv k
    y.cas.period = 0 ∧ y.cas.nrdy = 0 ∧ y.cas.unt = 0 ∧ y.cas.pathN = 0 ∧ y.cas.unendN = 0 ∧ y.cas.amax = 0 ∧ y.cas.lagm = 0 ∧
      y.cas.missN = 0 ∧ y.cas.bfail = false ∧ y.rd Kv.LDG_HLTH0.PNUM = (k.rd Kv.LDG_HLTH0.PNUM + 1) % 65536 := by
  intro y
  have going : ¬ (k.duty || decide (k.cas.period < 100000000 / k.tickNs)) = true := by simp [stby, due]
  let w := healthWords (k.rd Kv.LDG_HLTH0.PNUM + 1) (k.rd Kv.CL_RDY.COND) k.cas
  let z := (k.castleSend 0x0B [w.1.toNat, w.2.1.toNat, w.2.2.1.toNat, w.2.2.2.toNat]).holdHealth w.1 w.2.1 w.2.2.1 w.2.2.2
  have reported : y = { z with cas := z.cas.newPeriod } := if_neg going
  have cond : k.rd Kv.CL_RDY.COND < 2 ^ 8 := Kv.rd_lt ..
  have number : w.1.toNat / 2 ^ 16 = (k.rd Kv.LDG_HLTH0.PNUM + 1) % 65536 := by
    have small (b : Bool) : b2n b ≤ 1 := by cases b <;> decide
    simp only [w, healthWords, BitVec.toNat_ofNat]
    have := small k.cas.bfail
    have sat (b : Bool) : ((k.rd Kv.LDG_HLTH0.PNUM + 1) % 65536 * 65536 + k.rd Kv.CL_RDY.COND * 256 + b2n k.cas.bfail * 128 + b2n b) % 2 ^ 32 /
        2 ^ 16 = (k.rd Kv.LDG_HLTH0.PNUM + 1) % 65536 := by
      have := small b
      omega
    exact sat _
  rw [reported]
  refine ⟨rfl, rfl, rfl, rfl, rfl, rfl, rfl, rfl, rfl, ?_⟩
  exact (holdHealth_pnum ..).trans ((healthHeld_shows ..).1.trans number)

/-! ### Forces, the self-test and the statement -/

/-- A FORCE taken in time on the standby is marked at its sender (R356). -/
theorem exec_forceMessage_inTime {s : State} {c : Chip} (live : s.live c) {e : Envelope} {x : FrcChange}
    (up : (s.kvAt c).on Kv.CL_STAT.UP = true) (ok : e.ok = true) (stby : (s.kvAt c).duty = false)
    (ahead : tickAhead (s.kvAt c).tick x.tick = true) {y : Kv} (hy : forceMessageKv e x (s.kvAt c) = y) :
    exec (.forceMessage c e x) s = .next ((s.setChip c y).setChip c.other ((s.chip c.other).forceMarked x)) := by
  have out : (s.chip c).boot.inReset = false := live
  have taken : ((s.kvAt c).on Kv.CL_STAT.UP && e.ok && !(s.chip c).boot.inReset && !(s.kvAt c).duty && (s.kvAt c).forceInTime x) = true := by
    rw [out, Kv.forceInTime, up, ok, stby, ahead]
    rfl
  have here : s.onKv c (forceMessageKv e x) = s.setChip c y := by rw [onKv_live live, hy]
  have there : (s.setChip c y).chip c.other = s.chip c.other := by cases c <;> rfl
  rw [← there, ← here]
  exact congrArg Host.Outcome.next (if_pos taken)

theorem selfTestStepKv_runs {k : Kv} (stby : k.duty = false) (en : k.on Kv.CL_BIST.EN = true)
    (free : k.bistFree ((k.rd Kv.CL_BIST.POS + 1) % 2848) = true) (logic sram arena : Bool) :
    let p := (k.rd Kv.CL_BIST.POS + 1) % 2848
    let y := k.wr Kv.CL_BIST.POS p
    let z := (y.mark Kv.CL_BIST.FAIL).raise Src.CL_BIST 0 p
    selfTestStepKv logic sram arena k =
      if (if p < 32 then logic else if p < 800 then sram else arena) then y else { z with cas := { z.cas with bfail := true } } := by
  intro p y z
  have going : ¬ (k.duty || !k.on Kv.CL_BIST.EN) = true := by rw [stby, en]; decide
  have here : k.bistFrom 800 ((k.rd Kv.CL_BIST.POS + 1) % bistLen) = p := if_pos free
  have cas : z.cas = y.cas := Kv.raise_cas ..
  rw [selfTestStepKv, if_neg going, here, cas]

/-- Settles O51: each message, and each step of the ledger and of the readiness, is what its operation comes to. -/
theorem castleMessagesAndTheLedger : Obligations.Castle_messages_and_the_ledger := by
  intro s c logic sram arena e m n ds mask seq l tasks x es a bytes count size crc w0 w1 w2 w3 live k h goes
  have goesBy {j : Instr} {f : Kv → Kv} {y : Kv} (named : exec j s = .next (s.onKv c f)) (does : f k = y) : goes j y :=
    exec_live live named does
  refine ⟨?failing, fun up ok plain => ⟨fun whole => goesBy rfl (stateMessageKv_plain up ok plain whole),
    goesBy rfl (digestMessageKv_plain up ok plain n.toNat ds),
    fun other same => goesBy rfl (endorseMessageKv_plain up ok plain seq.isLt other same),
    goesBy rfl (castleIn_plain up ok plain _), fun stby ahead => goesBy rfl (evrelMessageKv_ahead up ok plain stby ahead tasks),
    fun stby now => goesBy rfl (evrelMessageKv_now up ok plain stby now tasks),
    fun stby ahead => exec_forceMessage_inTime live up ok stby ahead (forceMessageKv_inTime up ok plain stby ahead), ?epoch,
    fun sink early whole => goesBy rfl (sweepMessageKv_whole up ok plain sink early whole), ?health⟩,
    fun sink open_ => goesBy rfl (if_pos (by rw [sink, open_]; rfl)), goesBy rfl rfl,
    fun stby en free => goesBy rfl (selfTestStepKv_runs stby en free logic sram arena), ?report⟩
  case failing =>
    intro up bad j hj
    have dropped (f : Kv → Kv) : k.castleIn e f = (h.count Kv.CL_MERR.ERR Kv.CL_MERR.SAT).raise Src.CL_MERR 0 0 := castleIn_failing up bad f
    simp only [List.mem_cons, List.not_mem_nil, or_false] at hj
    rcases hj with rfl | rfl | rfl | rfl | rfl | rfl | rfl | rfl <;> exact goesBy rfl (dropped _)
  case epoch =>
    intro sink open_
    have gathers := ledgerMessageKv_open up ok plain sink open_ es
    have ends := epochendMessageKv_open up ok plain sink open_ count.toNat size.toNat crc.toNat
    have epochs : k.goneBy.cas.epochs = k.cas.epochs := by rw [Kv.goneBy_cas]
    refine ⟨fun new => goesBy rfl ?_, fun had only => goesBy rfl ?_, fun here only => ?_⟩
    · rw [gathers, gather_first (by rwa [epochs])]
      rfl
    · rw [gathers, gather_more (epochs.trans only)]
      rfl
    · intro y agrees sink'
      rw [gather_more (epochs.trans only), entriesOf_only only, List.append_nil] at ends
      exact goesBy rfl ((mirrorLedger_sink _ sink').trans ends)
  case health => exact fun calm => ⟨_, goesBy rfl (healthMessageKv_plain up ok plain w0 w1 w2 w3 calm), healthHeld_shows ..⟩
  case report => exact fun stby due => ⟨_, goesBy rfl rfl, healthReportKv_due stby due⟩

end Sys2Proof.Machine
end

section
/-! What one occurrence at the fault collector leaves as it was, and what no later occurrence takes back (R414 to R427). -/

namespace Sys2Proof.Machine

/-! ### Fields that share no register bits -/

/-- The last address of a field's registers. -/
def Fld.last (F : Fld) : Nat := F.addr (F.c1 - 1) (F.c2 - 1)

/-- Two fields start at different bits of their registers, or lie in different registers throughout. -/
def Fld.apart (F G : Fld) : Bool :=
  decide (F.lo < 32 ∧ G.lo < 32 ∧ (F.lo ≠ G.lo ∨ F.last < G.base ∨ G.last < F.base))

theorem Fld.addr_range {F : Fld} {i j : Nat} (hi : i < F.c1) (hj : j < F.c2) : F.base ≤ F.addr i j ∧ F.addr i j ≤ F.last := by
  have h₁ : F.s1 * i ≤ F.s1 * (F.c1 - 1) := Nat.mul_le_mul_left _ (by omega)
  have h₂ : F.s2 * j ≤ F.s2 * (F.c2 - 1) := Nat.mul_le_mul_left _ (by omega)
  simp only [Fld.last, Fld.addr]
  omega

theorem Fld.key_ne_of_apart {F G : Fld} (h : F.apart G = true) {i j a b : Nat} (hi : i < F.c1) (hj : j < F.c2) (ha : a < G.c1)
    (hb : b < G.c2) : F.key i j ≠ G.key a b := by
  have hF := Fld.addr_range hi hj
  have hG := Fld.addr_range ha hb
  obtain ⟨hl, hm, differ⟩ := of_decide_eq_true h
  simp only [Fld.key]
  omega

/-! ### Frames of the collector's steps -/

/-- A relation of a chip to one that it came from, which the writes of some fields and the collector's other updates keep; what the
acquisition units do, and the cells to be parked, are left out. -/
structure Frame (L : List Fld) (R : Kv → Kv → Prop) : Prop where
  same : ∀ s, R s s
  tr : ∀ {r s t}, R r s → R s t → R r t
  wr : ∀ (s : Kv) {F : Fld} (v : Nat) {i j : Nat}, F ∈ L → i < F.c1 → j < F.c2 → R (s.wr F v i j) s
  send : ∀ (s : Kv) (o : Out), R (s.send o) s
  win : ∀ (s : Kv) (t : Tab Nat), R { s with winOpen := t } s
  log : ∀ (s : Kv) (n : Nat), R { s with logSeq := n } s
  stop : ∀ (s : Kv), R { s with stopNext := true, dsp := { s.dsp with modeReq := none } } s
  rel : ∀ (s : Kv) (l : List Nat), R { s with evRelease := l } s
  dirty : ∀ (s : Kv), R { s with olcDirty := true } s
  reload : ∀ (s : Kv), R { s with dsp := { s.dsp with olcReload := true } } s
  once : ∀ (s : Kv), R { s with svlSafe := false, svlTclr := false, svlResume := false } s

/-- A register that shares no bits with those fields reads the same. -/
theorem frame_rd {L : List Fld} {W : Fld} {i : Nat} (h : ∀ F ∈ L, W.apart F = true) (hi : i < W.c1) (hc : 0 < W.c2) :
    Frame L (fun t s => t.rd W i = s.rd W i) where
  same _ := rfl
  tr h₁ h₂ := h₁.trans h₂
  wr s F v _ _ hF ha hb := s.rd_wr_ne v (Fld.key_ne_of_apart (h F hF) hi hc ha hb)
  send _ _ := rfl
  win _ _ := rfl
  log _ _ := rfl
  stop _ := rfl
  rel _ _ := rfl
  dirty _ := rfl
  reload _ := rfl
  once _ := rfl

/-- The cells to be parked are no register. -/
theorem frame_ovrAt (L : List Fld) : Frame L (fun t s => t.ovrAt = s.ovrAt) where
  same _ := rfl
  tr h₁ h₂ := h₁.trans h₂
  wr _ _ _ _ _ _ _ _ := rfl
  send _ _ := rfl
  win _ _ := rfl
  log _ _ := rfl
  stop _ := rfl
  rel _ _ := rfl
  dirty _ := rfl
  reload _ := rfl
  once _ := rfl

/-- The fields that counting an occurrence, with its window, writes. -/
def countFlds : List Fld := [Kv.FLT_SSTn.OCC, Kv.FLT_SSTn.SAT, Kv.FLT_SSTn.WCNT, Kv.FLT_SSTn.LAST]

/-- The fields that a log entry writes. -/
def logFlds : List Fld := [Kv.FLT_LOGP.RP, Kv.FLT_LOGP.LOST, Kv.FLT_LOGP.SAT, Kv.FLT_LOGP.WP, Kv.FLT_LOGWk.W, Kv.FLT_STAT.LFULL]

/-- The fields that a fire of the acquisition units writes. -/
def fireFlds : List Fld :=
  [Kv.ACQn_STAT.STATE, Kv.ACQn_STAT.CAUSE, Kv.ACQn_STAT.REFIRE, Kv.ACQn_STAT.XLATE, Kv.ACQn_FTIK.F, Kv.ACQn_NPOST.NPOST]

/-- The fields of the first-fault latch. -/
def latchFlds : List Fld :=
  [Kv.FLT_FF0.VALID, Kv.FLT_FF0.SRC, Kv.FLT_FF0.KIND, Kv.FLT_FF0.SEV, Kv.FLT_FF1.ADDR, Kv.FLT_FF2.TICK, Kv.FLT_FF3.NS, Kv.FLT_FF0.OVF,
   Kv.FLT_FF0.TIE]

/-- The fields that the reactions write. -/
def reactFlds : List Fld := [Kv.FLT_STAT.CBLK, Kv.DSP_OLC.STATE, Kv.FLT_STAT.STOPR, Kv.DSP_STAT.PEND, Kv.FLT_STAT.TRIPR]

section
variable {L : List Fld} {R : Kv → Kv → Prop} (u : Frame L R)
include u

theorem Frame.mark (s : Kv) {F : Fld} {i j : Nat} (hF : F ∈ L) (hi : i < F.c1) (hj : j < F.c2) : R (s.mark F i j) s := u.wr s 1 hF hi hj

theorem Frame.when (s : Kv) (b : Bool) {f : Kv → Kv} (h : R (f s) s) : R (s.when b f) s := by
  cases b
  · exact u.same s
  · exact h

theorem Frame.each (s : Kv) (l : List Nat) {f : Kv → Nat → Kv} (h : ∀ s, ∀ n ∈ l, R (f s n) s) : R (s.each l f) s := by
  unfold Kv.each
  induction l generalizing s with
  | nil => exact u.same s
  | cons n l ih => exact u.tr (ih _ fun s n hn => h s n (List.mem_cons_of_mem _ hn)) (h s n List.mem_cons_self)

theorem Frame.bump (s : Kv) {F G : Fld} {i j : Nat} (hF : F ∈ L) (hG : G ∈ L) (hi : i < F.c1) (hj : j < F.c2) (gi : i < G.c1)
    (gj : j < G.c2) : R (s.bump F G i j).1 s := by
  unfold Kv.bump
  dsimp only
  split
  · exact u.same s
  · split
    · exact u.tr (u.mark _ hG gi gj) (u.wr _ _ hF hi hj)
    · exact u.wr _ _ hF hi hj

theorem Frame.counted (hL : countFlds ⊆ L) (s : Kv) {n : Nat} (hn : n < 128) : R ((s.fltCount n).1.fltWindow n) s := by
  have wr (s : Kv) (v : Nat) {F : Fld} (hF : F ∈ countFlds := by simp [countFlds]) (hc : F.c1 = 128 ∧ F.c2 = 1 := by decide) : R (s.wr F v n) s :=
    u.wr s v (hL hF) (by omega) (by omega)
  have count : R (s.fltCount n).1 s :=
    u.bump s (hL (by simp [countFlds])) (hL (by simp [countFlds])) hn Nat.one_pos hn Nat.one_pos
  have winEnd (s : Kv) : R (s.winEnd n 0) s := by
    unfold Kv.winEnd
    dsimp only
    split
    · exact u.same s
    · split
      · exact u.tr (u.win _ _) (wr _ _)
      · exact u.tr (u.win _ _) (u.tr (wr _ _) (wr _ _))
  refine u.tr ?_ count
  generalize (s.fltCount n).1 = s
  unfold Kv.fltWindow
  split
  · dsimp only
    refine u.tr (u.when _ _ (wr _ _)) (u.tr (wr _ _) ?_)
    split
    · exact winEnd s
    · exact u.tr (u.win _ _) (winEnd s)
  · exact u.same s

theorem Frame.fltLog (hL : logFlds ⊆ L) (s : Kv) (m : Msg) (v : Nat) (e f : Bool) : R (s.fltLog m v e f).1 s := by
  have single (s : Kv) (v : Nat) {F : Fld} (hF : F ∈ logFlds := by simp [logFlds]) (hc : F.c1 = 1 ∧ F.c2 = 1 := by decide) : R (s.wr F v) s :=
    u.wr s v (hL hF) (by omega) (by omega)
  have word (s : Kv) (v : Nat) {i : Nat} (hi : i < 1024) : R (s.wr Kv.FLT_LOGWk.W v i) s := u.wr s v (hL (by simp [logFlds])) hi Nat.one_pos
  have wp : s.rd Kv.FLT_LOGP.WP < 256 := Kv.rd_lt ..
  unfold Kv.fltLog
  split
  · dsimp only
    refine u.tr (u.log _ _) (u.tr (u.when _ _ (single _ _)) (u.tr (single _ _) ?_))
    refine u.tr (word _ _ (by omega)) (u.tr (word _ _ (by omega)) (u.tr (word _ _ (by omega)) (u.tr (word _ _ (by omega)) ?_)))
    split
    · exact u.tr (u.bump _ (hL (by simp [logFlds])) (hL (by simp [logFlds])) (by decide) (by decide) (by decide) (by decide))
        (single _ _)
    · exact u.same s
  · exact u.same s

theorem Frame.fltLatch (hL : latchFlds ⊆ L) (s : Kv) (m : Msg) (v : Nat) : R (s.fltLatch m v) s := by
  have wr (s : Kv) (v : Nat) {F : Fld} (hF : F ∈ latchFlds := by simp [latchFlds]) (hc : F.c1 = 1 ∧ F.c2 = 1 := by decide) : R (s.wr F v) s :=
    u.wr s v (hL hF) (by omega) (by omega)
  unfold Kv.fltLatch
  split
  · dsimp only
    exact u.tr (wr _ _) (u.tr (wr _ _) (u.tr (wr _ _)
      (u.tr (wr _ _) (u.tr (wr _ _) (u.tr (wr _ _)
        (wr _ _))))))
  · split
    · exact u.tr (u.when _ _ (wr _ _)) (wr _ _)
    · exact u.same s

theorem Frame.sendCmd (s : Kv) (b : Bool) : R (s.sendCmd b) s := by
  unfold Kv.sendCmd
  split
  · exact u.tr (u.once _) (u.send _ _)
  · exact u.same s

theorem Frame.msix (hL : Kv.PCI_PBAm.PEND ∈ L) (s : Kv) {v : Nat} (hv : v < 128) : R (s.msix v) s := by
  unfold Kv.msix
  split
  · exact u.wr s _ hL (show v / 32 < 4 by omega) Nat.one_pos
  · exact u.send s _

end

/-! ### Fires of the acquisition units -/

/-- Every fire keeps a relation that the fire of one unit, its late mark and the frame that carries it to the other chip keep. -/
theorem acqFire_keeps {R : Kv → Kv → Prop} (same : ∀ s, R s s) (tr : ∀ {r s t}, R r s → R s t → R r t)
    (unit : ∀ (s : Kv) {n : Nat} (f c : Nat), n < 4 → R (s.acqFireUnit n f c) s)
    (late : ∀ (s : Kv) {n : Nat}, n < 4 → R (s.mark Kv.ACQn_STAT.XLATE n) s) (told : ∀ (s : Kv) (t : Option Nat), R { s with bfireAt := t } s)
    (s : Kv) (src : Nat → Bool) (f c : Nat) : R (s.acqFire src f c) s := by
  have each (t : Kv) (l : List Nat) {g : Kv → Nat → Kv} (h : ∀ s, ∀ n ∈ l, R (g s n) s) : R (t.each l g) t := by
    unfold Kv.each
    induction l generalizing t with
    | nil => exact same t
    | cons n l ih => exact tr (ih _ fun s n hn => h s n (List.mem_cons_of_mem _ hn)) (h t n List.mem_cons_self)
  have member {n : Nat} {p : Nat → Bool} (hn : n ∈ s.acqMembers.filter p) : n < 4 :=
    List.mem_range.mp (List.mem_of_mem_filter (List.mem_of_mem_filter hn))
  have fired (t : Kv) (p : Nat → Bool) (d : Nat) : R (t.each (s.acqMembers.filter p) (fun s n => s.acqFireUnit n f d)) t :=
    each t _ fun s n hn => unit s f d (member hn)
  unfold Kv.acqFire
  dsimp only
  split
  · exact fired _ _ _
  · split
    · refine tr (told _ _) (tr (each _ _ fun s n hn => ?_) (tr (fired _ _ _) (fired _ _ _)))
      exact late s (member (List.mem_of_mem_filter hn))
    · exact tr (told _ _) (tr (fired _ _ _) (fired _ _ _))

/-- The fire of a unit keeps what the writes of its fields, of a byte and of its state keep. -/
theorem acqFireUnit_writes {R : Kv → Kv → Prop} {n : Nat} (hn : n < 4) (same : ∀ s, R s s) (tr : ∀ {r s t}, R r s → R s t → R r t)
    (wr : ∀ (s : Kv) {F : Fld} (v : Nat), F ∈ fireFlds → n < F.c1 → 0 < F.c2 → R (s.wr F v n) s)
    (byte : ∀ (s : Kv) (a : Nat) (v : Byte), R (s.wrByte a v) s) (acq : ∀ (s : Kv) (u : AcqUnit), R (s.setAcq n u) s) (s : Kv)
    (f c : Nat) : R (s.acqFireUnit n f c) s := by
  have wr (s : Kv) (v : Nat) {F : Fld} (hF : F ∈ fireFlds := by simp [fireFlds]) (hc : F.c1 = 4 ∧ F.c2 = 1 := by decide) :
      R (s.wr F v n) s := wr s v hF (by omega) (by omega)
  have head (s : Kv) (v w x : Nat) : R (((s.wr Kv.ACQn_STAT.STATE v n).wr Kv.ACQn_STAT.CAUSE w n).wr Kv.ACQn_FTIK.F x n) s :=
    tr (wr _ _) (tr (wr _ _) (wr _ _))
  unfold Kv.acqFireUnit
  dsimp only
  split
  · split
    · exact same s
    · split
      · exact tr (wr _ _) (tr (acq _ _) (tr (byte _ _ _) (head s _ _ _)))
      · exact tr (acq _ _) (head s _ _ _)
  · split
    · split
      · exact wr _ _
      · exact wr _ _
    · split
      · exact wr _ _
      · exact same s

/-- So every fire keeps it. -/
theorem acqFire_writes {R : Kv → Kv → Prop} (same : ∀ s, R s s) (tr : ∀ {r s t}, R r s → R s t → R r t)
    (wr : ∀ (s : Kv) {F : Fld} (v : Nat) {n : Nat}, F ∈ fireFlds → n < F.c1 → 0 < F.c2 → R (s.wr F v n) s)
    (byte : ∀ (s : Kv) (a : Nat) (v : Byte), R (s.wrByte a v) s) (acq : ∀ (s : Kv) (n : Nat) (u : AcqUnit), R (s.setAcq n u) s)
    (told : ∀ (s : Kv) (t : Option Nat), R { s with bfireAt := t } s) (s : Kv) (src : Nat → Bool) (f c : Nat) : R (s.acqFire src f c) s :=
  acqFire_keeps same tr
    (fun s n f c hn => acqFireUnit_writes hn same tr (fun s _ v hF hi hc => wr s v hF hi hc) byte (fun s u => acq s n u) s f c)
    (fun s n hn => wr s 1 (by simp [fireFlds]) hn Nat.one_pos) told s src f c

/-- A register that shares no bits with those fields reads the same after a fire. -/
theorem acqFire_rd {W : Fld} {i : Nat} (h : ∀ F ∈ fireFlds, W.apart F = true) (hi : i < W.c1) (hc : 0 < W.c2) (s : Kv) (src : Nat → Bool)
    (f c : Nat) : (s.acqFire src f c).rd W i = s.rd W i :=
  acqFire_writes (R := fun t s => t.rd W i = s.rd W i) (fun _ => rfl) (fun a b => a.trans b)
    (fun s _ v _ hF hn hj => s.rd_wr_ne v (Fld.key_ne_of_apart (h _ hF) hi hc hn hj)) (fun _ _ _ => rfl) (fun _ _ _ => rfl) (fun _ _ => rfl)
    s src f c

theorem acqFire_ovrAt (s : Kv) (src : Nat → Bool) (f c : Nat) : (s.acqFire src f c).ovrAt = s.ovrAt :=
  acqFire_writes (R := fun t s => t.ovrAt = s.ovrAt) (fun _ => rfl) (fun a b => a.trans b) (fun _ _ _ _ _ _ _ => rfl) (fun _ _ _ => rfl)
    (fun _ _ _ => rfl) (fun _ _ => rfl) s src f c

/-! ### An event bit, and what its rise sets off -/

/-- What the rise of an event bit sets off: its vector, its task and the acquisition units (R425 to R427, R444). -/
def Kv.eventTold (s : Kv) (n : Nat) : Kv :=
  let masked := bit (s.rd Kv.EVT_MSKm.MSK (n / 32)) (n % 32)
  let s := s.when (s.on Kv.EVT_RTn.MEN n && !masked) (fun s => s.msix (s.rd Kv.EVT_RTn.VEC n))
  let s := s.when (s.on Kv.EVT_RTn.EEN n) (fun s => { s with evRelease := s.evRelease ++ [n] })
  s.acqEventFire n s.tick

theorem fltEvent_eq (s : Kv) (n v : Nat) : s.fltEvent n v =
    if s.rd Kv.EVT_RTn.MINSEV n ≤ v && !s.evPend n then (s.setEvPend n true).eventTold n else s := rfl

theorem Frame.eventTold {L : List Fld} {R : Kv → Kv → Prop} (u : Frame L R) (hL : Kv.PCI_PBAm.PEND ∈ L)
    (fired : ∀ (s : Kv) (src : Nat → Bool) (f c : Nat), R (s.acqFire src f c) s) (s : Kv) (n : Nat) : R (s.eventTold n) s := by
  have vec (s : Kv) : s.rd Kv.EVT_RTn.VEC n < 128 := Kv.rd_lt ..
  unfold Kv.eventTold
  dsimp only
  exact u.tr (fired _ _ _ _) (u.tr (u.when _ _ (u.rel _ _)) (u.when _ _ (u.msix hL _ (vec _))))

/-! ### The reactions, one after the other (R418 to R422) -/

/-- The cell is blocked and waits to be parked. -/
def Kv.reactCell (s : Kv) (m : Msg) (n sev : Nat) : Kv :=
  let s := s.when (4 ≤ sev || (3 ≤ sev && addrIsCell m)) (fun s => s.mark Kv.FLT_STAT.CBLK)
  s.when (3 ≤ sev && addrIsCell m) (fun s => s.parkAt m.addr (tickPlus n (s.lead + 1)))

/-- An on-line change of a standby fails. -/
def Kv.reactOlc (s : Kv) : Kv :=
  s.when (s.olcFails (s.rd Kv.DSP_OLC.STATE)) (fun s => { s.wr Kv.DSP_OLC.STATE 5 with dsp := { s.dsp with olcReload := true } })

/-- The program stops with the next boundary. -/
def Kv.reactStop (s : Kv) : Kv :=
  { ((s.mark Kv.FLT_STAT.STOPR).wr Kv.DSP_STAT.PEND 0) with stopNext := true, dsp := { s.dsp with modeReq := none } }

/-- The duty trips its outputs. -/
def Kv.reactTrip (s : Kv) : Kv := (s.mark Kv.FLT_STAT.TRIPR).sendCmd true

theorem fltReact_eq (s : Kv) (m : Msg) (n sev : Nat) : s.fltReact m n sev =
    let t := (s.reactCell m n sev).when (4 ≤ sev) (fun s => s.reactOlc.reactStop)
    t.when (5 ≤ sev && t.duty) Kv.reactTrip := rfl

section
variable {L : List Fld} {R : Kv → Kv → Prop} (u : Frame L R)
include u

theorem Frame.reactCell (hL : Kv.FLT_STAT.CBLK ∈ L) (s : Kv) (m : Msg) (n sev : Nat)
    (park : addrIsCell m = true → ∀ (s : Kv) (t : Tab Nat), R { s with ovrAt := t } s) : R (s.reactCell m n sev) s := by
  have parks (s : Kv) (a t : Nat) (hm : addrIsCell m = true) : R (s.parkAt a t) s := by
    unfold Kv.parkAt
    dsimp only
    split
    · exact u.same s
    · exact park hm s _
  have blocked : R (s.when (4 ≤ sev || (3 ≤ sev && addrIsCell m)) (fun s => s.mark Kv.FLT_STAT.CBLK)) s :=
    u.when s _ (u.mark s hL Nat.one_pos Nat.one_pos)
  have parked (s : Kv) : R (s.when (3 ≤ sev && addrIsCell m) (fun s => s.parkAt m.addr (tickPlus n (s.lead + 1)))) s := by
    cases hm : addrIsCell m with
    | false =>
      rw [Bool.and_false]
      exact u.same s
    | true =>
      have h : R (s.parkAt m.addr (tickPlus n (s.lead + 1))) s := parks s _ _ hm
      exact u.when s _ h
  exact u.tr (parked _) blocked

theorem Frame.reactStop (hS : Kv.FLT_STAT.STOPR ∈ L) (hP : Kv.DSP_STAT.PEND ∈ L) (s : Kv) : R s.reactStop s :=
  u.tr (u.stop _) (u.tr (u.wr _ _ hP (by decide) (by decide)) (u.mark s hS (by decide) (by decide)))

theorem Frame.reactTrip (hT : Kv.FLT_STAT.TRIPR ∈ L) (s : Kv) : R s.reactTrip s :=
  u.tr (u.sendCmd _ _) (u.mark s hT (by decide) (by decide))

theorem Frame.reactOlc (hO : Kv.DSP_OLC.STATE ∈ L) (s : Kv) : R s.reactOlc s :=
  u.when _ _ (u.tr (u.reload _) (u.wr s _ hO (by decide) (by decide)))

theorem Frame.fltReact (hL : reactFlds ⊆ L) (s : Kv) (m : Msg) (n sev : Nat)
    (park : addrIsCell m = true → ∀ (s : Kv) (t : Tab Nat), R { s with ovrAt := t } s) : R (s.fltReact m n sev) s := by
  rw [fltReact_eq]
  refine u.tr (u.when _ _ (u.reactTrip (hL (by simp [reactFlds])) _)) (u.tr (u.when _ _ ?_) (u.reactCell (hL (by simp [reactFlds])) s m n sev park))
  exact u.tr (u.reactStop (hL (by simp [reactFlds])) (hL (by simp [reactFlds])) _) (u.reactOlc (hL (by simp [reactFlds])) _)

theorem Frame.fltEvent (hL : Kv.PCI_PBAm.PEND ∈ L) (hE : Kv.EVT_PENDm.PEND ∈ L)
    (fired : ∀ (s : Kv) (src : Nat → Bool) (f c : Nat), R (s.acqFire src f c) s) (s : Kv) {n : Nat} (hn : n < 128) (v : Nat) :
    R (s.fltEvent n v) s := by
  rw [fltEvent_eq]
  split
  · exact u.tr (u.eventTold hL fired _ n) (u.wr s _ hE (show n / 32 < 4 by omega) Nat.one_pos)
  · exact u.same s

end

end Sys2Proof.Machine
end

section
/-! What later occurrences at the fault collector take back: nothing of what a first one set (R414 to R425). -/

namespace Sys2Proof.Machine

/-- What stands until software clears it: a pending fault, the status bits, a stop that is asked for, a failed on-line change. -/
def stickies (n : Nat) : List (Fld × Nat × Nat) :=
  [(Kv.FLT_SSTn.PEND, n, 1), (Kv.FLT_STAT.CBLK, 0, 1), (Kv.FLT_STAT.STOPR, 0, 1), (Kv.FLT_STAT.TRIPR, 0, 1), (Kv.DSP_STAT.PEND, 0, 0),
   (Kv.DSP_OLC.STATE, 0, 5)]

/-- Its fields. -/
def stickyFlds : List Fld :=
  [Kv.FLT_SSTn.PEND, Kv.FLT_STAT.CBLK, Kv.FLT_STAT.STOPR, Kv.FLT_STAT.TRIPR, Kv.DSP_STAT.PEND, Kv.DSP_OLC.STATE]

theorem stickies_fields (n : Nat) : (stickies n).map Prod.fst = stickyFlds := rfl

/-- What the first-fault latch holds. -/
def heldFlds : List Fld := [Kv.FLT_FF0.SRC, Kv.FLT_FF0.KIND, Kv.FLT_FF0.SEV, Kv.FLT_FF1.ADDR]

/-- The fields that an occurrence may write in any state without taking anything back. -/
def quietFlds : List Fld := Kv.FLT_SSTn.CSEV :: Kv.FLT_FF0.OVF :: Kv.FLT_FF0.TIE :: Kv.PCI_PBAm.PEND :: (countFlds ++ logFlds ++ fireFlds)

/-- A chip that took further occurrences, as fault `n` and the event bits see it. -/
structure Later (n : Nat) (t s : Kv) : Prop where
  stuck : ∀ e ∈ stickies n, s.rd e.1 e.2.1 = e.2.2 → t.rd e.1 e.2.1 = e.2.2
  valid : s.rd Kv.FLT_FF0.VALID = 1 → t.rd Kv.FLT_FF0.VALID = 1
  held : s.rd Kv.FLT_FF0.VALID = 1 → ∀ F ∈ heldFlds, t.rd F = s.rd F
  event : s.evPend n = true → t.evPend n = true
  stop : s.stopNext = true → t.stopNext = true
  reload : s.dsp.olcReload = true → t.dsp.olcReload = true

namespace Later

variable {n : Nat} {s t : Kv}

theorem refl (s : Kv) : Later n s s := ⟨fun _ _ h => h, id, fun _ _ _ => rfl, id, id, id⟩

theorem trans {r : Kv} (a : Later n r s) (b : Later n s t) : Later n r t where
  stuck e he h := a.stuck e he (b.stuck e he h)
  valid h := a.valid (b.valid h)
  held v F hF := (a.held (b.valid v) F hF).trans (b.held v F hF)
  event h := a.event (b.event h)
  stop h := a.stop (b.stop h)
  reload h := a.reload (b.reload h)

/-- A change of nothing but what none of it depends on. -/
theorem of_same (regs : t.regs = s.regs) (stop : s.stopNext = true → t.stopNext = true)
    (reload : s.dsp.olcReload = true → t.dsp.olcReload = true) : Later n t s := by
  have rd (F : Fld) (i j : Nat) : t.rd F i j = s.rd F i j := congrArg (F.get i j) regs
  exact ⟨fun e _ h => (rd _ _ _).trans h, fun h => (rd _ _ _).trans h, fun _ F _ => rd F 0 0,
    fun h => (congrArg (bit · _) (rd _ _ _)).trans h, stop, reload⟩

/-! ### Writes -/

/-- The fields of the latch and the event bits share no bits with a field. -/
def Clear (F : Fld) : Prop :=
  Kv.FLT_FF0.VALID.apart F = true ∧ (∀ W ∈ heldFlds, W.apart F = true) ∧ Kv.EVT_PENDm.PEND.apart F = true

theorem quiet_parts : countFlds ⊆ quietFlds ∧ logFlds ⊆ quietFlds ∧ fireFlds ⊆ quietFlds := by
  refine ⟨fun F h => ?_, fun F h => ?_, fun F h => ?_⟩ <;> simp [quietFlds, h]

theorem heldFlds_one : ∀ W ∈ heldFlds, W.c1 = 1 ∧ W.c2 = 1 := by decide

variable (hn : n < 128)
include hn

theorem stickies_bounds : ∀ e ∈ stickies n, e.2.1 < e.1.c1 ∧ 0 < e.1.c2 ∧ e.2.2 < 2 ^ e.1.w := by
  simp [stickies, Kv.FLT_SSTn.PEND, Kv.FLT_STAT.CBLK, Kv.FLT_STAT.STOPR, Kv.FLT_STAT.TRIPR, Kv.DSP_STAT.PEND, Kv.DSP_OLC.STATE, hn]

theorem wr (s : Kv) {F : Fld} (v : Nat) {i j : Nat} (hi : i < F.c1) (hj : j < F.c2) (clear : Clear F)
    (stuck : ∀ e ∈ stickies n, s.rd e.1 e.2.1 = e.2.2 → (s.wr F v i j).rd e.1 e.2.1 = e.2.2) : Later n (s.wr F v i j) s := by
  obtain ⟨valid, held, event⟩ := clear
  have kept {W : Fld} {a : Nat} (h : W.apart F = true) (ha : a < W.c1) (hc : 0 < W.c2) : (s.wr F v i j).rd W a = s.rd W a :=
    s.rd_wr_ne v (Fld.key_ne_of_apart h ha hc hi hj)
  refine ⟨stuck, fun old => (kept valid Nat.one_pos Nat.one_pos).trans old, fun _ W hW => ?_, fun old => ?_, id, id⟩
  · obtain ⟨h₁, h₂⟩ := heldFlds_one W hW
    exact kept (held W hW) (by omega) (by omega)
  · exact (congrArg (bit · _) (kept event (show n / 32 < 4 by omega) Nat.one_pos)).trans old

/-- A write of a field that is none of them. -/
theorem wr_apart (s : Kv) {F : Fld} (v : Nat) {i j : Nat} (hi : i < F.c1) (hj : j < F.c2) (clear : Clear F)
    (h : ∀ e ∈ stickies n, e.1.apart F = true) : Later n (s.wr F v i j) s :=
  wr hn s v hi hj clear fun e he old => by
    obtain ⟨hb, hc, -⟩ := stickies_bounds hn e he
    exact (s.rd_wr_ne v (Fld.key_ne_of_apart (h e he) hb hc hi hj)).trans old

theorem stickies_key_inj : ∀ e ∈ stickies n, ∀ f ∈ stickies n, e.1.key e.2.1 0 = f.1.key f.2.1 0 → e = f := by
  have nodup : ((stickies n).map fun e => e.1.key e.2.1 0).Nodup := by
    simp [stickies, Fld.key, Fld.addr, Kv.FLT_SSTn.PEND, Kv.FLT_STAT.CBLK, Kv.FLT_STAT.STOPR, Kv.FLT_STAT.TRIPR, Kv.DSP_STAT.PEND,
      Kv.DSP_OLC.STATE]
    omega
  exact fun e he f hf => List.inj_on_of_nodup_map nodup he hf

/-- A write of the value that stands until software clears it. -/
theorem stick (s : Kv) {e : Fld × Nat × Nat} (he : e ∈ stickies n) (clear : Clear e.1) : Later n (s.wr e.1 e.2.2 e.2.1) s := by
  obtain ⟨hi, hj, hv⟩ := stickies_bounds hn e he
  refine wr hn s _ hi hj clear fun f hf old => ?_
  by_cases same : f.1.key f.2.1 0 = e.1.key e.2.1 0
  · rw [stickies_key_inj hn f hf e he same, Kv.rd_wr_same, Nat.mod_eq_of_lt hv]
  · exact (s.rd_wr_ne _ same).trans old

/-! ### The steps of an occurrence -/

omit hn in
theorem quiet_apart : ∀ F ∈ quietFlds, Clear F ∧ ∀ W ∈ stickyFlds, W.apart F = true := by
  unfold Clear
  decide +kernel

omit hn in
theorem sticky_clear : ∀ W ∈ stickyFlds, Clear W := by
  unfold Clear
  decide +kernel

omit hn in
theorem sticky_field {e : Fld × Nat × Nat} (he : e ∈ stickies n) : e.1 ∈ stickyFlds := by
  rw [← stickies_fields n]
  exact List.mem_map_of_mem he

theorem stick_of (s : Kv) {F : Fld} {i v : Nat} (he : (F, i, v) ∈ stickies n) : Later n (s.wr F v i) s :=
  stick hn s (e := (F, i, v)) he (sticky_clear F (sticky_field he))

theorem frame : Frame quietFlds (Later n) where
  same := refl
  tr := trans
  wr s F v _ _ hF hi hj := by
    obtain ⟨clear, h⟩ := quiet_apart F hF
    exact wr_apart hn s v hi hj clear fun e he => h e.1 (sticky_field he)
  send _ _ := of_same rfl id id
  win _ _ := of_same rfl id id
  log _ _ := of_same rfl id id
  stop _ := of_same rfl (fun _ => rfl) id
  rel _ _ := of_same rfl id id
  dirty _ := of_same rfl id id
  reload _ := of_same rfl id fun _ => rfl
  once _ := of_same rfl id id

theorem fired (s : Kv) (src : Nat → Bool) (f c : Nat) : Later n (s.acqFire src f c) s :=
  acqFire_writes refl trans (fun s _ v _ hF hi hj => (frame hn).wr s v (quiet_parts.2.2 hF) hi hj) (fun _ _ _ => of_same rfl id id)
    (fun _ _ _ => of_same rfl id id) (fun _ _ => of_same rfl id id) s src f c

theorem noted (s : Kv) {src : Nat} (hs : src < 128) (v : Nat) : Later n ((s.mark Kv.FLT_SSTn.PEND src).wr Kv.FLT_SSTn.CSEV v src) s := by
  refine trans ((frame hn).wr _ v (by simp [quietFlds]) hs Nat.one_pos) ?_
  have others : ∀ W ∈ stickyFlds.tail, W.apart Kv.FLT_SSTn.PEND = true := by decide
  by_cases same : src = n
  · rw [same]
    exact stick_of hn s (by simp [stickies])
  · refine wr hn s 1 hs Nat.one_pos (sticky_clear _ (by simp [stickyFlds])) fun e he old => (s.rd_wr_ne 1 fun eq => same ?_).trans old
    obtain ⟨hi, hc, -⟩ := stickies_bounds hn e he
    rcases List.mem_cons.mp he with rfl | other
    · simp only [Fld.key, Fld.addr, Kv.FLT_SSTn.PEND] at eq
      omega
    · exact absurd eq (Fld.key_ne_of_apart (others e.1 (List.mem_map_of_mem (f := Prod.fst) other : e.1 ∈ (stickies n).tail.map Prod.fst)) hi hc hs Nat.one_pos)

theorem latched (s : Kv) (m : Msg) (sev : Nat) : Later n (s.fltLatch m sev) s := by
  have u {W : Fld} (h : ∀ F ∈ latchFlds, W.apart F = true) {a : Nat} (ha : a < W.c1) (hc : 0 < W.c2) :
      (s.fltLatch m sev).rd W a = s.rd W a := (frame_rd h ha hc).fltLatch (List.Subset.refl _) s m sev
  have apart : ∀ W ∈ stickyFlds, ∀ F ∈ latchFlds, W.apart F = true := by decide +kernel
  have stuck : ∀ e ∈ stickies n, s.rd e.1 e.2.1 = e.2.2 → (s.fltLatch m sev).rd e.1 e.2.1 = e.2.2 := fun e he old => by
    obtain ⟨hi, hj, -⟩ := stickies_bounds hn e he
    exact (u (apart e.1 (sticky_field he)) hi hj).trans old
  have event : s.evPend n = true → (s.fltLatch m sev).evPend n = true := fun old =>
    (congrArg (bit · _) (u (by decide) (show n / 32 < 4 by omega) Nat.one_pos)).trans old
  by_cases first : s.fltFirst sev = true
  · have new : s.rd Kv.FLT_FF0.VALID ≠ 1 := by
      simp only [Kv.fltFirst, Bool.and_eq_true, Bool.not_eq_true', Kv.on, beq_eq_false_iff_ne] at first
      exact first.2
    exact ⟨stuck, fun old => absurd old new, fun old => absurd old new, event, fun old => (congrArg Kv.stopNext (if_pos first)).trans old,
      fun old => (congrArg (fun y : Kv => y.dsp.olcReload) (if_pos first)).trans old⟩
  · rw [Kv.fltLatch, if_neg first]
    split
    · have twice (s : Kv) : Later n (s.mark Kv.FLT_FF0.TIE) s := (frame hn).mark s (by simp [quietFlds]) Nat.one_pos Nat.one_pos
      exact trans ((frame hn).when _ _ (twice _)) ((frame hn).mark s (by simp [quietFlds]) Nat.one_pos Nat.one_pos)
    · exact refl s

omit hn in
theorem sticky_status {F : Fld} {v : Nat} (h : (F, 0, v) ∈ (stickies 0).tail) : (F, 0, v) ∈ stickies n := List.mem_cons_of_mem _ h

theorem reactCell (s : Kv) (m : Msg) (t sev : Nat) : Later n (s.reactCell m t sev) s := by
  have parks (s : Kv) (a d : Nat) : Later n (s.parkAt a d) s := by
    unfold Kv.parkAt
    dsimp only
    split
    · exact refl s
    · exact of_same rfl id id
  have blocked : Later n (s.when (4 ≤ sev || (3 ≤ sev && addrIsCell m)) (fun s => s.mark Kv.FLT_STAT.CBLK)) s :=
    (frame hn).when s _ (stick_of hn s (sticky_status (by simp [stickies])))
  have parked (s : Kv) : Later n (s.when (3 ≤ sev && addrIsCell m) (fun s => s.parkAt m.addr (tickPlus t (s.lead + 1)))) s :=
    (frame hn).when (f := fun s => s.parkAt m.addr (tickPlus t (s.lead + 1))) s _ (parks s _ _)
  exact trans (parked _) blocked

theorem reactOlc (s : Kv) : Later n s.reactOlc s :=
  (frame hn).when s _ (trans ((frame hn).reload _) (stick_of hn s (sticky_status (by simp [stickies]))))

theorem reactStop (s : Kv) : Later n s.reactStop s :=
  trans ((frame hn).stop _) (trans (stick_of hn _ (sticky_status (by simp [stickies]))) (stick_of hn s (sticky_status (by simp [stickies]))))

theorem reactTrip (s : Kv) : Later n s.reactTrip s := trans ((frame hn).sendCmd _ _) (stick_of hn s (sticky_status (by simp [stickies])))

theorem reacted (s : Kv) (m : Msg) (t sev : Nat) : Later n (s.fltReact m t sev) s := by
  rw [fltReact_eq]
  exact trans ((frame hn).when _ _ (reactTrip hn _))
    (trans ((frame hn).when _ _ (trans (reactStop hn _) (reactOlc hn _))) (reactCell hn s m t sev))

omit hn in
/-- An event bit that rises leaves the others (R425). -/
theorem evPend_setEvPend (s : Kv) (src : Nat) : (s.setEvPend src true).evPend n = (decide (n = src) || s.evPend n) := by
  by_cases word : n / 32 = src / 32
  · have low : setBit (s.rd Kv.EVT_PENDm.PEND (src / 32)) (src % 32) true % 2 ^ 32 = setBit (s.rd Kv.EVT_PENDm.PEND (src / 32)) (src % 32) true :=
      Nat.mod_eq_of_lt (putBits_lt _ (Kv.rd_lt ..) (by omega : src % 32 + 1 ≤ 32))
    rw [Kv.evPend, Kv.evPend, Kv.setEvPend, word, Kv.rd_wr_same]
    refine (congrArg (bit · _) low).trans ((bit_setBit_true ..).trans ?_)
    congr 2
    exact propext (by omega)
  · have apart : Kv.EVT_PENDm.PEND.key (n / 32) 0 ≠ Kv.EVT_PENDm.PEND.key (src / 32) 0 := by
      simp only [Fld.key, Fld.addr, Kv.EVT_PENDm.PEND]
      omega
    have other : decide (n = src) = false := decide_eq_false fun h => word (congrArg (· / 32) h)
    rw [other, Bool.false_or]
    exact congrArg (bit · _) (s.rd_wr_ne _ apart)

theorem eventSet (s : Kv) {src : Nat} (hs : src < 128) : Later n (s.setEvPend src true) s := by
  have apart : ∀ W ∈ Kv.FLT_FF0.VALID :: (stickyFlds ++ heldFlds), W.apart Kv.EVT_PENDm.PEND = true := by decide +kernel
  have kept {W : Fld} (hW : W ∈ Kv.FLT_FF0.VALID :: (stickyFlds ++ heldFlds)) {a : Nat} (ha : a < W.c1) (hc : 0 < W.c2) :
      (s.setEvPend src true).rd W a = s.rd W a :=
    s.rd_wr_ne _ (Fld.key_ne_of_apart (apart W hW) ha hc (show src / 32 < 4 by omega) Nat.one_pos)
  refine ⟨fun e he old => ?_, fun old => (kept List.mem_cons_self Nat.one_pos Nat.one_pos).trans old, fun _ F hF => ?_, fun old => ?_, id, id⟩
  · obtain ⟨hi, hc, -⟩ := stickies_bounds hn e he
    exact (kept (by simp [sticky_field he]) hi hc).trans old
  · obtain ⟨h₁, h₂⟩ := heldFlds_one F hF
    exact kept (by simp [hF]) (by omega) (by omega)
  · rw [evPend_setEvPend s src, old, Bool.or_true]

theorem evented (s : Kv) {src : Nat} (hs : src < 128) (v : Nat) : Later n (s.fltEvent src v) s := by
  rw [fltEvent_eq]
  split
  · exact trans ((frame hn).eventTold (by simp [quietFlds]) (fired hn) _ _) (eventSet hn s hs)
  · exact refl s

end Later

/-! ### One occurrence after another -/

/-- A fault that is not merged becomes pending, and dirties a standby's on-line change (R414, R358). -/
def Kv.noted (s : Kv) (m : Msg) (sev : Nat) : Kv :=
  let s := s.when (1 ≤ sev) (fun s =>
    (s.mark Kv.FLT_SSTn.PEND m.src).wr Kv.FLT_SSTn.CSEV (max (s.rd Kv.FLT_SSTn.CSEV m.src) sev) m.src)
  s.when (2 ≤ sev && programSource m.src) (fun s => { s with olcDirty := true })

theorem Frame.noted {L : List Fld} {R : Kv → Kv → Prop} (u : Frame L R) (s : Kv) (m : Msg) (sev : Nat)
    (pend : ∀ (s : Kv) (v : Nat), R ((s.mark Kv.FLT_SSTn.PEND m.src).wr Kv.FLT_SSTn.CSEV v m.src) s) : R (s.noted m sev) s := by
  have dirty (s : Kv) (b : Bool) : R (s.when b (fun s => { s with olcDirty := true })) s := u.when s b (u.dirty s)
  have pends (b : Bool) : R (s.when b (fun s =>
      (s.mark Kv.FLT_SSTn.PEND m.src).wr Kv.FLT_SSTn.CSEV (max (s.rd Kv.FLT_SSTn.CSEV m.src) sev) m.src)) s := u.when s b (pend s _)
  exact u.tr (dirty _ _) (pends _)

/-- A failed change is an occurrence of its own. -/
def Kv.olcTells (s : Kv) (sev : Nat) : List Msg :=
  if 4 ≤ sev ∧ s.olcFails (s.rd Kv.DSP_OLC.STATE) = true then [⟨Src.DSP_OLC, 0, 0⟩] else []

/-- One occurrence, by its steps (R414). -/
theorem accept_eq (s : Kv) (n : Nat) (m : Msg) : s.accept n m =
    let r := s.fltCount m.src
    let s := r.1.fltWindow m.src
    if s.fltMerged m.src then (s, r.2)
    else
      let sev := s.fltSev m.src
      let esc := s.fltRepeat m.src && decide (s.fltBase m.src < sev)
      let s := s.noted m sev
      let l := s.fltLog m sev esc (s.fltFirst sev)
      (((l.1.fltLatch m sev).fltReact m n sev).fltEvent m.src sev, r.2 ++ l.2 ++ s.olcTells sev) := rfl

/-- What an occurrence raises in turn is about no cell, and of one of the chip's own sources. -/
theorem accept_tells (s : Kv) (t : Nat) (m : Msg) : ∀ x ∈ (s.accept t m).2, addrIsCell x = false ∧ x.src < 128 := by
  have sat (a : Nat) : addrIsCell ⟨Src.SYS_SAT, 1, a⟩ = false ∧ Src.SYS_SAT < 128 := by simp [addrIsCell]
  have counts (s : Kv) : ∀ x ∈ (s.fltCount m.src).2, addrIsCell x = false ∧ x.src < 128 := by
    unfold Kv.fltCount
    dsimp only
    split
    · simpa using sat _
    · simp
  have logs (s : Kv) (v : Nat) (e f : Bool) : ∀ x ∈ (s.fltLog m v e f).2, addrIsCell x = false ∧ x.src < 128 := by
    unfold Kv.fltLog
    split
    · intro x hx
      rcases List.mem_append.mp hx with h | h <;> rw [List.mem_ite_nil_right, List.mem_singleton] at h <;> obtain ⟨-, rfl⟩ := h
      · decide
      · exact sat _
    · simp
  have olc (s : Kv) (v : Nat) : ∀ x ∈ s.olcTells v, addrIsCell x = false ∧ x.src < 128 := by
    unfold Kv.olcTells
    split
    · simpa using (by decide : addrIsCell ⟨Src.DSP_OLC, 0, 0⟩ = false ∧ Src.DSP_OLC < 128)
    · simp
  rw [accept_eq]
  dsimp only
  split
  · exact counts s
  · intro x hx
    simp only [List.mem_append, or_assoc] at hx
    rcases hx with h | h | h
    · exact counts s x h
    · exact logs _ _ _ _ x h
    · exact olc _ _ x h

/-- An occurrence takes nothing back. -/
theorem Later.accept {n : Nat} (hn : n < 128) (s : Kv) (t : Nat) {m : Msg} (hm : m.src < 128) : Later n (s.accept t m).1 s := by
  have u := Later.frame hn
  have counts : Later n ((s.fltCount m.src).1.fltWindow m.src) s := u.counted Later.quiet_parts.1 s hm
  have noted (s : Kv) (v : Nat) : Later n (s.noted m v) s := u.noted s m v fun s v => Later.noted hn s hm v
  rw [accept_eq]
  dsimp only
  split
  · exact counts
  · exact (Later.evented hn _ hm _).trans ((Later.reacted hn _ m _ _).trans ((Later.latched hn _ _ _).trans
      ((u.fltLog Later.quiet_parts.2.1 _ _ _ _ _).trans ((noted _ _).trans counts))))

/-- The fields that an occurrence writes, but for those of the acquisition units. -/
def occurFlds : List Fld :=
  Kv.FLT_SSTn.PEND :: Kv.FLT_SSTn.CSEV :: Kv.EVT_PENDm.PEND :: Kv.PCI_PBAm.PEND :: (countFlds ++ logFlds ++ latchFlds ++ reactFlds)

theorem occurFlds_parts : countFlds ⊆ occurFlds ∧ logFlds ⊆ occurFlds ∧ latchFlds ⊆ occurFlds ∧ reactFlds ⊆ occurFlds := by
  refine ⟨fun F h => ?_, fun F h => ?_, fun F h => ?_, fun F h => ?_⟩ <;> simp [occurFlds, h]

section
variable {R : Kv → Kv → Prop} (u : Frame occurFlds R) (fired : ∀ (s : Kv) (src : Nat → Bool) (f c : Nat), R (s.acqFire src f c) s)
include u fired

/-- An occurrence keeps what its writes and its fires keep. -/
theorem Frame.accept (s : Kv) (t : Nat) {m : Msg} (hm : m.src < 128)
    (park : addrIsCell m = true → ∀ (s : Kv) (t : Tab Nat), R { s with ovrAt := t } s) : R (s.accept t m).1 s := by
  obtain ⟨count, log, latch, react⟩ := occurFlds_parts
  have counts : R ((s.fltCount m.src).1.fltWindow m.src) s := u.counted count s hm
  have noted (s : Kv) (v : Nat) : R (s.noted m v) s := u.noted s m v fun s v =>
    u.tr (u.wr _ v (by simp [occurFlds]) hm Nat.one_pos) (u.wr s 1 (by simp [occurFlds]) hm Nat.one_pos)
  rw [accept_eq]
  dsimp only
  split
  · exact counts
  · exact u.tr (u.fltEvent (by simp [occurFlds]) (by simp [occurFlds]) fired _ hm _) (u.tr (u.fltReact react _ m _ _ park)
      (u.tr (u.fltLatch latch _ _ _) (u.tr (u.fltLog log _ _ _ _ _) (u.tr (noted _ _) counts))))

/-- So do several, with what they raise in turn. -/
theorem Frame.acceptAll (park : ∀ (s : Kv) (t : Tab Nat), R { s with ovrAt := t } s) (t fuel : Nat) (s : Kv) (l : List Msg)
    (h : ∀ x ∈ l, x.src < 128) : R (Kv.acceptAll t fuel s l) s := by
  induction fuel generalizing s l with
  | zero => exact u.same s
  | succ fuel ih =>
    cases l with
    | nil => exact u.same s
    | cons m rest =>
      have more : ∀ x ∈ rest ++ (s.accept t m).2, x.src < 128 := fun x hx =>
        (List.mem_append.mp hx).elim (fun hx => h x (List.mem_cons_of_mem _ hx)) (fun hx => (accept_tells s t m x hx).2)
      exact u.tr (ih _ _ more) (u.accept fired s t (h m List.mem_cons_self) fun _ => park)

theorem Frame.raise (park : ∀ (s : Kv) (t : Tab Nat), R { s with ovrAt := t } s) (s : Kv) {src : Nat} (hs : src < 128) (kind addr : Nat) :
    R (s.raise src kind addr) s := u.acceptAll fired park _ _ s _ fun x hx => by rwa [List.mem_singleton.mp hx]

end

/-- A register that no occurrence writes reads the same after a fault was raised. -/
theorem raise_rd {W : Fld} {i : Nat} (h : ∀ F ∈ occurFlds ++ fireFlds, W.apart F = true) (hi : i < W.c1) (hc : 0 < W.c2) (s : Kv) {src : Nat}
    (hs : src < 128) (kind addr : Nat) : (s.raise src kind addr).rd W i = s.rd W i :=
  (frame_rd (fun F hF => h F (List.mem_append_left _ hF)) hi hc).raise (acqFire_rd (fun F hF => h F (List.mem_append_right _ hF)) hi hc)
    (fun _ _ => rfl) s hs kind addr

/-- An occurrence about no cell parks none. -/
theorem accept_ovrAt (s : Kv) (t : Nat) {m : Msg} (hm : m.src < 128) (plain : addrIsCell m = false) : (s.accept t m).1.ovrAt = s.ovrAt :=
  (frame_ovrAt occurFlds).accept acqFire_ovrAt s t hm fun cell => absurd (plain.symm.trans cell) (by decide)

/-- Nor do several, with what they raise in turn. -/
theorem acceptAll_later {n : Nat} (hn : n < 128) (t fuel : Nat) (s : Kv) (l : List Msg) (h : ∀ x ∈ l, addrIsCell x = false ∧ x.src < 128) :
    Later n (Kv.acceptAll t fuel s l) s ∧ (Kv.acceptAll t fuel s l).ovrAt = s.ovrAt := by
  induction fuel generalizing s l with
  | zero => exact ⟨Later.refl s, rfl⟩
  | succ fuel ih =>
    cases l with
    | nil => exact ⟨Later.refl s, rfl⟩
    | cons m rest =>
      obtain ⟨plain, hm⟩ := h m List.mem_cons_self
      have more : ∀ x ∈ rest ++ (s.accept t m).2, addrIsCell x = false ∧ x.src < 128 := fun x hx =>
        (List.mem_append.mp hx).elim (fun hx => h x (List.mem_cons_of_mem _ hx)) (accept_tells s t m x)
      obtain ⟨later, parked⟩ := ih (s.accept t m).1 _ more
      exact ⟨later.trans (Later.accept hn s t hm), parked.trans (accept_ovrAt s t hm plain)⟩

end Sys2Proof.Machine
end

section
/-! A new fault at the collector, its window, its acknowledge, and the statement on the fault collector (R414 to R434). -/

namespace Sys2Proof.Machine

/-! ### A fault that is not pending, step by step -/

section
variable (k : Kv) (m : Msg) (sev : Nat)

/-- The fault is counted and pending. -/
def Kv.occurred : Kv := (k.wr Kv.FLT_SSTn.OCC (k.rd Kv.FLT_SSTn.OCC m.src + 1) m.src).noted m sev

/-- It is logged. -/
def Kv.logged : Kv := ((k.occurred m sev).fltLog m sev false ((k.occurred m sev).fltFirst sev)).1

/-- The first-fault latch has seen it. -/
def Kv.latched : Kv := (k.logged m sev).fltLatch m sev

/-- The chip has reacted to it. -/
def Kv.reacted : Kv := (k.latched m sev).fltReact m k.tick sev

/-- Its event bit has risen. -/
def Kv.told : Kv := (k.reacted m sev).fltEvent m.src sev

/-- What it raised in turn has been taken too. -/
def Kv.followed : Kv := Kv.acceptAll k.tick 15 (k.told m sev) ((k.occurred m sev).olcTells sev)

end

/-- An occurrence outside a window only counts first. -/
theorem counted_plain {k : Kv} {n : Nat} (hn : n < 128) (en : k.on Kv.FLT_WINn.EN n = false) (room : k.rd Kv.FLT_SSTn.OCC n + 1 < 65535) :
    let s := k.wr Kv.FLT_SSTn.OCC (k.rd Kv.FLT_SSTn.OCC n + 1) n
    k.fltCount n = (s, []) ∧ s.fltWindow n = s ∧ s.fltBase n = k.rd Kv.FLT_SEVn.SEV n := by
  intro s
  have other {F : Fld} (h : F.apart Kv.FLT_SSTn.OCC = true) (hc : F.c1 = 128) (h2 : F.c2 = 1) : s.rd F n = k.rd F n :=
    k.rd_wr_ne _ (Fld.key_ne_of_apart h (hc ▸ hn) (h2 ▸ Nat.one_pos) hn Nat.one_pos)
  have off : s.on Kv.FLT_WINn.EN n = false := (congrArg (· == 1) (other (by decide) rfl rfl)).trans en
  have max : Kv.FLT_SSTn.OCC.max = 65535 := rfl
  refine ⟨?_, by rw [Kv.fltWindow, off]; rfl, ?_⟩
  · rw [Kv.fltCount, Kv.bump, max]
    rw [if_neg (by omega), if_neg (by omega)]
    rfl
  · rw [Kv.fltBase, off, Bool.false_and, if_neg Bool.false_ne_true]
    exact other (by decide) rfl rfl

/-- What counting and noting a fault does not write. -/
theorem occurred_rd {k : Kv} {m : Msg} (hm : m.src < 128) (sev : Nat) {W : Fld} {i : Nat}
    (h : ∀ F ∈ [Kv.FLT_SSTn.OCC, Kv.FLT_SSTn.PEND, Kv.FLT_SSTn.CSEV], W.apart F = true) (hi : i < W.c1) (hc : 0 < W.c2) :
    (k.occurred m sev).rd W i = k.rd W i := by
  have u := frame_rd h hi hc
  have wr (s : Kv) (v : Nat) {F : Fld} (hF : F ∈ [Kv.FLT_SSTn.OCC, Kv.FLT_SSTn.PEND, Kv.FLT_SSTn.CSEV]) (h1 : F.c1 = 128) (h2 : F.c2 = 1) :
      (s.wr F v m.src).rd W i = s.rd W i := u.wr s v hF (h1 ▸ hm) (h2 ▸ Nat.one_pos)
  have pend (s : Kv) (v : Nat) : ((s.mark Kv.FLT_SSTn.PEND m.src).wr Kv.FLT_SSTn.CSEV v m.src).rd W i = s.rd W i :=
    (wr _ v (by simp) rfl rfl).trans (wr s 1 (by simp) rfl rfl)
  exact (u.noted _ m sev pend).trans (wr k _ (by simp) rfl rfl)

/-- A log with room raises nothing (R423). -/
theorem fltLog_room {s : Kv} (space : s.on Kv.FLT_STAT.LFULL = false) (m : Msg) (v : Nat) (e f : Bool) : (s.fltLog m v e f).2 = [] := by
  unfold Kv.fltLog
  split
  · dsimp only
    rw [space]
    rfl
  · rfl

/-- Where the fault is pending and merges, that is all (R415). -/
theorem raise_merged {k : Kv} {n kind addr : Nat} (hn : n < 128) (en : k.on Kv.FLT_WINn.EN n = false)
    (room : k.rd Kv.FLT_SSTn.OCC n + 1 < 65535) (pend : k.on Kv.FLT_SSTn.PEND n = true) (merge : k.on Kv.FLT_CFG.MERGE = true)
    (low : k.rd Kv.FLT_SEVn.SEV n ≤ k.rd Kv.FLT_SSTn.CSEV n) :
    k.raise n kind addr = k.wr Kv.FLT_SSTn.OCC (k.rd Kv.FLT_SSTn.OCC n + 1) n := by
  obtain ⟨count, window, base⟩ := counted_plain hn en room
  let s := k.wr Kv.FLT_SSTn.OCC (k.rd Kv.FLT_SSTn.OCC n + 1) n
  have other {F : Fld} (h : F.apart Kv.FLT_SSTn.OCC = true) {i : Nat} (hi : i < F.c1) (hc : 0 < F.c2) : s.rd F i = k.rd F i :=
    k.rd_wr_ne _ (Fld.key_ne_of_apart h hi hc hn Nat.one_pos)
  have merged : s.fltMerged n = true := by
    have pend' : s.on Kv.FLT_SSTn.PEND n = true := (congrArg (· == 1) (other (by decide) hn Nat.one_pos)).trans pend
    have merge' : s.on Kv.FLT_CFG.MERGE = true := (congrArg (· == 1) (other (by decide) Nat.one_pos Nat.one_pos)).trans merge
    rw [Kv.fltMerged, pend', merge', base, other (by decide) hn Nat.one_pos, decide_eq_true low]
    rfl
  have taken : k.accept k.tick ⟨n, kind, addr % 2 ^ 32⟩ = (s, []) := by
    rw [accept_eq]
    dsimp only
    rw [count]
    dsimp only
    rw [window, if_pos merged]
  rw [Kv.raise, Kv.acceptAll, taken]
  rfl

/-- Where it is not pending, it is new (R414). -/
theorem raise_new {k : Kv} {n kind addr : Nat} (hn : n < 128) (ha : addr < 2 ^ 32) (en : k.on Kv.FLT_WINn.EN n = false)
    (room : k.rd Kv.FLT_SSTn.OCC n + 1 < 65535) (new : k.on Kv.FLT_SSTn.PEND n = false) (space : k.on Kv.FLT_STAT.LFULL = false) :
    k.raise n kind addr = k.followed ⟨n, kind, addr⟩ (k.rd Kv.FLT_SEVn.SEV n) := by
  obtain ⟨count, window, base⟩ := counted_plain hn en room
  let m : Msg := ⟨n, kind, addr⟩
  let sev := k.rd Kv.FLT_SEVn.SEV n
  let s := k.wr Kv.FLT_SSTn.OCC (k.rd Kv.FLT_SSTn.OCC n + 1) n
  have pend : s.on Kv.FLT_SSTn.PEND n = false := (k.on_wr_ne _ (Fld.key_ne_of_apart (by decide) hn Nat.one_pos hn Nat.one_pos)).trans new
  have again : s.fltRepeat n = false := by rw [Kv.fltRepeat, pend]; rfl
  have once : s.fltSev n = sev := by rw [Kv.fltSev, again, base]; rfl
  have merged : ¬ s.fltMerged n = true := by rw [Kv.fltMerged, pend]; exact Bool.false_ne_true
  have quiet : ((k.occurred m sev).fltLog m sev false ((k.occurred m sev).fltFirst sev)).2 = [] :=
    fltLog_room ((congrArg (· == 1) (occurred_rd (m := m) hn sev (by decide) Nat.one_pos Nat.one_pos)).trans space) ..
  have taken : k.accept k.tick m = (k.told m sev, (k.occurred m sev).olcTells sev) := by
    rw [accept_eq]
    dsimp only
    rw [count]
    dsimp only
    rw [window, if_neg merged, once, again, Bool.false_and]
    exact congrArg (Prod.mk (k.told m sev)) (congrArg (· ++ (k.occurred m sev).olcTells sev) quiet)
  rw [Kv.raise, Nat.mod_eq_of_lt ha, Kv.acceptAll, taken]
  rfl

/-- The fields that an occurrence writes once it is pending. -/
def afterFlds : List Fld := Kv.EVT_PENDm.PEND :: Kv.PCI_PBAm.PEND :: (logFlds ++ latchFlds ++ reactFlds ++ fireFlds)

theorem afterFlds_parts : logFlds ⊆ afterFlds ∧ latchFlds ⊆ afterFlds ∧ reactFlds ⊆ afterFlds ∧ fireFlds ⊆ afterFlds := by
  refine ⟨fun F h => ?_, fun F h => ?_, fun F h => ?_, fun F h => ?_⟩ <;> simp [afterFlds, h]

section
variable {k : Kv} {m : Msg} {sev : Nat} (hm : m.src < 128)
include hm

/-! ### What does not change on the way -/

theorem told_rd {W : Fld} {i : Nat} (h : ∀ F ∈ afterFlds, W.apart F = true) (hi : i < W.c1) (hc : 0 < W.c2) :
    (k.told m sev).rd W i = (k.occurred m sev).rd W i := by
  have u := frame_rd h hi hc
  obtain ⟨log, latch, react, fire⟩ := afterFlds_parts
  exact (u.fltEvent (by simp [afterFlds]) (by simp [afterFlds]) (acqFire_rd (fun F hF => h F (fire hF)) hi hc) _ hm sev).trans ((u.fltReact react _ m _ sev fun _ _ _ => rfl).trans
    ((u.fltLatch latch _ m sev).trans (u.fltLog log _ m sev _ _)))

theorem latched_rd {W : Fld} {i : Nat} (h : ∀ F ∈ [Kv.FLT_SSTn.OCC, Kv.FLT_SSTn.PEND, Kv.FLT_SSTn.CSEV], W.apart F = true)
    (after : ∀ F ∈ logFlds ++ latchFlds, W.apart F = true) (hi : i < W.c1) (hc : 0 < W.c2) : (k.latched m sev).rd W i = k.rd W i := by
  have u := frame_rd after hi hc
  exact (u.fltLatch (List.subset_append_right ..) _ m sev).trans ((u.fltLog (List.subset_append_left ..) _ m sev _ _).trans
    (occurred_rd hm sev h hi hc))

omit hm in
theorem latched_ovrAt : (k.latched m sev).ovrAt = k.ovrAt := by
  have u := frame_ovrAt afterFlds
  obtain ⟨log, latch, -, -⟩ := afterFlds_parts
  exact (u.fltLatch latch _ m sev).trans ((u.fltLog log _ m sev _ _).trans (u.noted _ m sev fun _ _ => rfl))

/-- What follows takes nothing back, and parks no cell. -/
theorem followed_later : Later m.src (k.followed m sev) (k.told m sev) ∧ (k.followed m sev).ovrAt = (k.told m sev).ovrAt := by
  refine acceptAll_later hm _ _ _ _ fun x hx => ?_
  unfold Kv.olcTells at hx
  split at hx
  · rw [List.mem_singleton.mp hx]
    decide
  · exact absurd hx List.not_mem_nil

theorem followed_reacted : Later m.src (k.followed m sev) (k.reacted m sev) :=
  (followed_later hm).1.trans (Later.evented hm _ hm _)

theorem followed_latched : Later m.src (k.followed m sev) (k.latched m sev) := (followed_reacted hm).trans (Later.reacted hm _ _ _ _)

theorem followed_occurred : Later m.src (k.followed m sev) (k.occurred m sev) :=
  (followed_latched hm).trans ((Later.latched hm _ _ _).trans ((Later.frame hm).fltLog Later.quiet_parts.2.1 _ _ _ _ _))

/-! ### Counted and pending -/

/-- Where no on-line change fails, nothing is raised in turn. -/
theorem followed_calm (calm : sev < 4 ∨ k.olcFails (k.rd Kv.DSP_OLC.STATE) = false) : k.followed m sev = k.told m sev := by
  have duty : (k.occurred m sev).duty = k.duty := congrArg (· == 1) (occurred_rd hm sev (by decide) Nat.one_pos Nat.one_pos)
  have state : (k.occurred m sev).rd Kv.DSP_OLC.STATE = k.rd Kv.DSP_OLC.STATE := occurred_rd hm sev (by decide) Nat.one_pos Nat.one_pos
  have none_ : (k.occurred m sev).olcTells sev = [] := by
    refine if_neg ?_
    rw [state, Kv.olcFails, duty, ← Kv.olcFails]
    rintro ⟨h4, fails⟩
    rcases calm with low | holds
    · omega
    · exact absurd (holds.symm.trans fails) Bool.false_ne_true
  rw [Kv.followed, none_]
  rfl

theorem told_occ (room : k.rd Kv.FLT_SSTn.OCC m.src + 1 < 65535) :
    (k.told m sev).rd Kv.FLT_SSTn.OCC m.src = k.rd Kv.FLT_SSTn.OCC m.src + 1 := by
  have u : Frame [Kv.FLT_SSTn.PEND, Kv.FLT_SSTn.CSEV] _ := frame_rd (W := Kv.FLT_SSTn.OCC) (by decide) hm Nat.one_pos
  have noted : (k.occurred m sev).rd Kv.FLT_SSTn.OCC m.src = _ := u.noted _ m sev fun s v =>
    u.tr (u.wr _ v (by simp) hm Nat.one_pos) (u.wr s 1 (by simp) hm Nat.one_pos)
  rw [told_rd hm (by decide +kernel) hm Nat.one_pos, noted, Kv.rd_wr_same]
  exact Nat.mod_eq_of_lt (by simp only [Kv.FLT_SSTn.OCC] at room ⊢; omega)

theorem occurred_noted (real : 1 ≤ sev) (h8 : sev < 8) : (k.occurred m sev).rd Kv.FLT_SSTn.PEND m.src = 1 ∧
    (k.occurred m sev).rd Kv.FLT_SSTn.CSEV m.src = max (k.rd Kv.FLT_SSTn.CSEV m.src) sev := by
  let s := k.wr Kv.FLT_SSTn.OCC (k.rd Kv.FLT_SSTn.OCC m.src + 1) m.src
  have noted : (k.occurred m sev).regs =
      ((s.mark Kv.FLT_SSTn.PEND m.src).wr Kv.FLT_SSTn.CSEV (max (s.rd Kv.FLT_SSTn.CSEV m.src) sev) m.src).regs :=
    (Kv.when_keeps Kv.regs _ rfl _).trans (congrArg Kv.regs (by rw [decide_eq_true real]; rfl))
  have old : s.rd Kv.FLT_SSTn.CSEV m.src = k.rd Kv.FLT_SSTn.CSEV m.src :=
    k.rd_wr_ne _ (Fld.key_ne_of_apart (by decide) hm Nat.one_pos hm Nat.one_pos)
  have old8 : k.rd Kv.FLT_SSTn.CSEV m.src < 8 := Kv.rd_lt ..
  refine ⟨(congrArg (Kv.FLT_SSTn.PEND.get m.src 0) noted).trans ?_, (congrArg (Kv.FLT_SSTn.CSEV.get m.src 0) noted).trans ?_⟩
  · exact (Kv.rd_wr_ne _ _ (Fld.key_ne_of_apart (by decide) hm Nat.one_pos hm Nat.one_pos)).trans (s.rd_wr_same Kv.FLT_SSTn.PEND 1 m.src 0)
  · exact (Kv.rd_wr_same ..).trans ((Nat.mod_eq_of_lt (max_lt (old ▸ old8) h8)).trans (congrArg (max · sev) old))

/-! ### The reactions -/

/-- The chip when the reaction on a cell is over. -/
def Kv.blocked (k : Kv) (m : Msg) (sev : Nat) : Kv := (k.latched m sev).reactCell m k.tick sev

theorem blocked_rd {W : Fld} {i : Nat} (h : ∀ F ∈ [Kv.FLT_SSTn.OCC, Kv.FLT_SSTn.PEND, Kv.FLT_SSTn.CSEV], W.apart F = true)
    (after : ∀ F ∈ Kv.FLT_STAT.CBLK :: (logFlds ++ latchFlds), W.apart F = true) (hi : i < W.c1) (hc : 0 < W.c2) :
    (k.blocked m sev).rd W i = k.rd W i :=
  ((frame_rd after hi hc).reactCell List.mem_cons_self _ m _ sev fun _ _ _ => rfl).trans
    (latched_rd hm h (fun F hF => after F (List.mem_cons_of_mem _ hF)) hi hc)

theorem followed_blocked : Later m.src (k.followed m sev) (k.blocked m sev) := by
  have u := Later.frame hm
  refine (followed_reacted hm).trans ?_
  rw [Kv.reacted, fltReact_eq]
  exact (u.when _ _ (Later.reactTrip hm _)).trans (u.when _ _ ((Later.reactStop hm _).trans (Later.reactOlc hm _)))

omit hm in
theorem reacted_ovrAt : (k.reacted m sev).ovrAt = (k.blocked m sev).ovrAt := by
  have u := frame_ovrAt reactFlds
  rw [Kv.reacted, fltReact_eq]
  exact (u.when _ _ (u.reactTrip (by simp [reactFlds]) _)).trans
    (u.when _ _ ((u.reactStop (by simp [reactFlds]) (by simp [reactFlds]) _).trans (u.reactOlc (by simp [reactFlds]) _)))

omit hm in
theorem blocked_regs (h : (decide (4 ≤ sev) || (decide (3 ≤ sev) && addrIsCell m)) = true) :
    (k.blocked m sev).regs = ((k.latched m sev).mark Kv.FLT_STAT.CBLK).regs := by
  have parks (s : Kv) (a d : Nat) : (s.parkAt a d).regs = s.regs := by
    rw [Kv.parkAt]
    split <;> rfl
  rw [Kv.blocked, Kv.reactCell, h]
  exact Kv.when_keeps Kv.regs (f := fun s => s.parkAt m.addr (tickPlus k.tick (s.lead + 1))) _ (parks _ _ _) _

/-- So the chip blocks cells from then on. -/
theorem followed_cblk (h : (decide (4 ≤ sev) || (decide (3 ≤ sev) && addrIsCell m)) = true) : (k.followed m sev).on Kv.FLT_STAT.CBLK = true :=
  beq_iff_eq.mpr ((followed_blocked hm).stuck (Kv.FLT_STAT.CBLK, 0, 1) (by simp [stickies])
    ((congrArg (Kv.FLT_STAT.CBLK.get 0 0) (blocked_regs h)).trans (Kv.rd_wr_same _ Kv.FLT_STAT.CBLK 1 0 0)))

theorem reacted_cell (h3 : 3 ≤ sev) (cell : addrIsCell m = true) : (k.followed m sev).on Kv.FLT_STAT.CBLK = true ∧
    (Tab.get 0 m.addr k.ovrAt = 0 → Tab.get 0 m.addr (k.followed m sev).ovrAt = (k.tick + k.lead + 1) % 2 ^ 48 + 1) := by
  let s := (k.latched m sev).mark Kv.FLT_STAT.CBLK
  have ta : s.rd Kv.SP_LEAD.TA = k.rd Kv.SP_LEAD.TA :=
    (Kv.rd_wr_ne _ _ (by decide)).trans (latched_rd hm (by decide +kernel) (by decide +kernel) Nat.one_pos Nat.one_pos)
  have carry : s.rd Kv.SP_LEAD.CARRY = k.rd Kv.SP_LEAD.CARRY :=
    (Kv.rd_wr_ne _ _ (by decide)).trans (latched_rd hm (by decide +kernel) (by decide +kernel) Nat.one_pos Nat.one_pos)
  have lead : s.lead = k.lead := by rw [Kv.lead, Kv.lead, ta, carry]
  have parks : k.blocked m sev = s.parkAt m.addr (tickPlus k.tick (k.lead + 1)) := by
    rw [Kv.blocked, Kv.reactCell, cell, decide_eq_true h3, Bool.true_and, Bool.or_true, ← lead]
    rfl
  refine ⟨followed_cblk hm (by rw [decide_eq_true h3, cell, Bool.true_and, Bool.or_true]), ?_⟩
  intro free
  have free' : Tab.get 0 m.addr s.ovrAt = 0 := (congrArg (Tab.get 0 m.addr) latched_ovrAt).trans free
  have event : (k.told m sev).ovrAt = (k.reacted m sev).ovrAt := (frame_ovrAt afterFlds).fltEvent (by simp [afterFlds]) (by simp [afterFlds]) acqFire_ovrAt _ hm _
  rw [(followed_later hm).2, event, reacted_ovrAt, parks, Kv.parkAt, free', bne_self_eq_false, Bool.false_and, if_neg Bool.false_ne_true]
  exact (Tab.get_set_same ..).trans (congrArg (· % 2 ^ 48 + 1) (Nat.add_assoc ..).symm)

/-- The program of a chip that reacts at level 4 stops. -/
theorem followed_stopped (h4 : 4 ≤ sev) : Later m.src (k.followed m sev) (k.blocked m sev).reactOlc.reactStop := by
  refine (followed_reacted hm).trans ?_
  rw [Kv.reacted, fltReact_eq, decide_eq_true h4]
  exact (Later.frame hm).when _ _ (Later.reactTrip hm _)

theorem reacted_olc (h4 : 4 ≤ sev) (fails : k.olcFails (k.rd Kv.DSP_OLC.STATE) = true) :
    (k.followed m sev).rd Kv.DSP_OLC.STATE = 5 ∧ (k.followed m sev).dsp.olcReload = true := by
  have duty : (k.blocked m sev).duty = k.duty :=
    congrArg (· == 1) (blocked_rd hm (by decide +kernel) (by decide +kernel) Nat.one_pos Nat.one_pos)
  have state : (k.blocked m sev).rd Kv.DSP_OLC.STATE = k.rd Kv.DSP_OLC.STATE :=
    blocked_rd hm (by decide +kernel) (by decide +kernel) Nat.one_pos Nat.one_pos
  have fails' : (k.blocked m sev).olcFails ((k.blocked m sev).rd Kv.DSP_OLC.STATE) = true := by rwa [state, Kv.olcFails, duty]
  have failed : (k.blocked m sev).reactOlc =
      { (k.blocked m sev).wr Kv.DSP_OLC.STATE 5 with dsp := { (k.blocked m sev).dsp with olcReload := true } } := by
    rw [Kv.reactOlc, fails']
    rfl
  have later := (followed_stopped (k := k) hm h4).trans (Later.reactStop hm _)
  rw [failed] at later
  exact ⟨later.stuck (Kv.DSP_OLC.STATE, 0, 5) (by simp [stickies]) (Kv.rd_wr_same (k.blocked m sev) Kv.DSP_OLC.STATE 5 0 0), later.reload rfl⟩

theorem reacted_stop (h4 : 4 ≤ sev) : (k.followed m sev).on Kv.FLT_STAT.CBLK = true ∧ (k.followed m sev).on Kv.FLT_STAT.STOPR = true ∧
    (k.followed m sev).rd Kv.DSP_STAT.PEND = 0 ∧ (k.followed m sev).stopNext = true := by
  let s := (k.blocked m sev).reactOlc
  have later := followed_stopped (k := k) hm h4
  have status {F : Fld} {v : Nat} (h : (F, 0, v) ∈ (stickies 0).tail) (is : s.reactStop.rd F = v) : (k.followed m sev).rd F = v :=
    later.stuck (F, 0, v) (Later.sticky_status h) is
  refine ⟨followed_cblk hm (by rw [decide_eq_true h4, Bool.true_or]), beq_iff_eq.mpr (status (by simp [stickies]) ?_),
    status (by simp [stickies]) (Kv.rd_wr_same _ Kv.DSP_STAT.PEND 0 0 0), later.stop rfl⟩
  exact (Kv.rd_wr_ne (s.mark Kv.FLT_STAT.STOPR) (G := Kv.DSP_STAT.PEND) (p := 0) (q := 0) 0 (by decide)).trans
      (Kv.rd_wr_same s Kv.FLT_STAT.STOPR 1 0 0)

theorem reacted_trip (h5 : 5 ≤ sev) (duty : k.duty = true) : (k.followed m sev).on Kv.FLT_STAT.TRIPR = true := by
  let t := (k.blocked m sev).reactOlc.reactStop
  have u : Frame reactFlds _ := frame_rd (W := Kv.CL_CASST.TOKEN) (i := 0) (by decide) Nat.one_pos Nat.one_pos
  have duty' : t.duty = true := by
    refine (congrArg (· == 1) ?_).trans duty
    exact (u.reactStop (by simp [reactFlds]) (by simp [reactFlds]) _).trans ((u.reactOlc (by simp [reactFlds]) _).trans
      (blocked_rd hm (by decide +kernel) (by decide +kernel) Nat.one_pos Nat.one_pos))
  have trips : k.reacted m sev = t.reactTrip := by
    rw [Kv.reacted, fltReact_eq, decide_eq_true (by omega : 4 ≤ sev), decide_eq_true h5]
    dsimp only
    rw [Kv.when_true]
    rw [show ((k.latched m sev).reactCell m k.tick sev).reactOlc.reactStop = t from rfl, duty']
    rfl
  refine beq_iff_eq.mpr ((followed_reacted hm).stuck (Kv.FLT_STAT.TRIPR, 0, 1) (by simp [stickies]) ?_)
  have sent := (frame_rd (L := []) (W := Kv.FLT_STAT.TRIPR) (i := 0) (by simp) Nat.one_pos Nat.one_pos).sendCmd (t.mark Kv.FLT_STAT.TRIPR) true
  rw [trips]
  exact sent.trans (t.rd_wr_same Kv.FLT_STAT.TRIPR 1 0 0)

/-! ### The first-fault latch and the event bit -/

theorem latched_first (high : k.rd Kv.FLT_CFG.FFMIN ≤ sev) (free : k.on Kv.FLT_FF0.VALID = false) (hk : m.kind < 32) (h8 : sev < 8)
    (ha : m.addr < 2 ^ 32) : (k.followed m sev).on Kv.FLT_FF0.VALID = true ∧ (k.followed m sev).rd Kv.FLT_FF0.SRC = m.src ∧
      (k.followed m sev).rd Kv.FLT_FF0.KIND = m.kind ∧ (k.followed m sev).rd Kv.FLT_FF0.SEV = sev ∧
      (k.followed m sev).rd Kv.FLT_FF1.ADDR = m.addr := by
  have logged {W : Fld} (h : ∀ F ∈ [Kv.FLT_SSTn.OCC, Kv.FLT_SSTn.PEND, Kv.FLT_SSTn.CSEV], W.apart F = true)
      (after : ∀ F ∈ logFlds, W.apart F = true) (hi : 0 < W.c1) (hc : 0 < W.c2) : (k.logged m sev).rd W = k.rd W :=
    ((frame_rd after hi hc).fltLog (List.Subset.refl _) _ m sev _ _).trans (occurred_rd hm sev h hi hc)
  have first : (k.logged m sev).fltFirst sev = true := by
    have valid : (k.logged m sev).on Kv.FLT_FF0.VALID = false :=
      (congrArg (· == 1) (logged (by decide +kernel) (by decide +kernel) Nat.one_pos Nat.one_pos)).trans free
    rw [Kv.fltFirst, valid, logged (by decide +kernel) (by decide +kernel) Nat.one_pos Nat.one_pos, decide_eq_true high]
    rfl
  have later := followed_latched (k := k) (sev := sev) hm
  have now : (k.latched m sev).rd Kv.FLT_FF0.VALID = 1 ∧ (k.latched m sev).rd Kv.FLT_FF0.SRC = m.src ∧
      (k.latched m sev).rd Kv.FLT_FF0.KIND = m.kind ∧ (k.latched m sev).rd Kv.FLT_FF0.SEV = sev ∧
      (k.latched m sev).rd Kv.FLT_FF1.ADDR = m.addr := by
    rw [Kv.latched, Kv.fltLatch, if_pos first]
    dsimp only
    refine ⟨?_, ?_, ?_, ?_, ?_⟩ <;> simp (disch := decide) only [Kv.rd_wr_ne] <;> refine (Kv.rd_wr_same ..).trans ?_
    · rfl
    · exact Nat.mod_eq_of_lt hm
    · exact Nat.mod_eq_of_lt hk
    · exact Nat.mod_eq_of_lt h8
    · exact Nat.mod_eq_of_lt ha
  obtain ⟨valid, src, kind, sev', addr⟩ := now
  have held := later.held valid
  exact ⟨beq_iff_eq.mpr (later.valid valid), (held _ (by simp [heldFlds])).trans src, (held _ (by simp [heldFlds])).trans kind,
    (held _ (by simp [heldFlds])).trans sev', (held _ (by simp [heldFlds])).trans addr⟩

theorem told_event (high : k.rd Kv.EVT_RTn.MINSEV m.src ≤ sev) : (k.followed m sev).evPend m.src = true := by
  refine (followed_later hm).1.event ?_
  have u : Frame reactFlds _ := frame_rd (W := Kv.EVT_RTn.MINSEV) (i := m.src) (by decide +kernel) hm Nat.one_pos
  have same : (k.reacted m sev).rd Kv.EVT_RTn.MINSEV m.src = k.rd Kv.EVT_RTn.MINSEV m.src :=
    (u.fltReact (List.Subset.refl _) _ m _ sev fun _ _ _ => rfl).trans
      (latched_rd hm (by decide +kernel) (by decide +kernel) hm Nat.one_pos)
  rw [Kv.told, fltEvent_eq, same, decide_eq_true high, Bool.true_and]
  cases was : (k.reacted m sev).evPend m.src with
  | true =>
    rw [if_neg (by decide)]
    exact was
  | false =>
    rw [if_pos (by decide)]
    refine ((Later.frame hm).eventTold (by simp [quietFlds]) (Later.fired hm) _ _).event ?_
    rw [Later.evPend_setEvPend, decide_eq_true rfl, Bool.true_or]

end

/-! ### The window of a source -/

theorem faultWindowEndKv_within {k : Kv} {n : Nat} (within : k.upNs + 1001 < Tab.get 0 n k.winOpen + 1000000 * k.rd Kv.FLT_WINn.WLEN n) :
    faultWindowEndKv n k = k := if_pos (.inr within)

section
variable {k : Kv} {n : Nat} (open_ : Tab.get 0 n k.winOpen ≠ 0)
include open_

theorem faultWindowEndKv_again (over_ : Tab.get 0 n k.winOpen + 1000000 * k.rd Kv.FLT_WINn.WLEN n ≤ k.upNs + 1001)
    (again : k.on Kv.FLT_SSTn.LAST n = true ∧ k.rd Kv.FLT_WINn.THR n ≤ k.rd Kv.FLT_SSTn.WCNT n ∧
      k.upNs + 1001 < Tab.get 0 n k.winOpen + 2 * (1000000 * k.rd Kv.FLT_WINn.WLEN n)) : faultWindowEndKv n k =
      { (k.wr Kv.FLT_SSTn.WCNT 0 n) with
        winOpen := Tab.set 0 n (Tab.get 0 n k.winOpen + 1000000 * k.rd Kv.FLT_WINn.WLEN n) k.winOpen } := by
  obtain ⟨last, reached⟩ := again
  refine (if_neg (not_or.mpr ⟨open_, not_lt.mpr over_⟩)).trans (if_pos ?_)
  rw [last, Bool.true_and]
  exact decide_eq_true reached

theorem faultWindowEndKv_ends (over_ : Tab.get 0 n k.winOpen + 1000000 * k.rd Kv.FLT_WINn.WLEN n ≤ k.upNs + 1001)
    (ends : ¬ (k.on Kv.FLT_SSTn.LAST n = true ∧ k.rd Kv.FLT_WINn.THR n ≤ k.rd Kv.FLT_SSTn.WCNT n ∧
      k.upNs + 1001 < Tab.get 0 n k.winOpen + 2 * (1000000 * k.rd Kv.FLT_WINn.WLEN n))) : faultWindowEndKv n k =
      { ((k.wr Kv.FLT_SSTn.LAST 0 n).wr Kv.FLT_SSTn.WCNT 0 n) with winOpen := Tab.set 0 n 0 k.winOpen } := by
  refine (if_neg (not_or.mpr ⟨open_, not_lt.mpr over_⟩)).trans (if_neg fun again => ends ?_)
  obtain ⟨last, reached⟩ := Bool.and_eq_true_iff.mp again
  exact ⟨last, of_decide_eq_true reached⟩

end

theorem fltWinWriteKv_fit {k : Kv} {n v : Nat} (hl : Kv.FLT_WINn.WLEN.ok (bits v 16 16) = true) (ht : Kv.FLT_WINn.THR.ok (bits v 8 8) = true) :
    let y := ((k.wr Kv.FLT_WINn.WLEN (bits v 16 16) n).wr Kv.FLT_WINn.THR (bits v 8 8) n).wr Kv.FLT_WINn.EN v n
    fltWinWriteKv n v k = { (y.wr Kv.FLT_SSTn.LAST 0 n).wr Kv.FLT_SSTn.WCNT 0 n with winOpen := Tab.set 0 n 0 k.winOpen } := by
  intro y
  unfold fltWinWriteKv
  dsimp only
  rw [hl, ht]
  rfl

/-! ### The acknowledge -/

theorem fltAck_rd {F : Fld} (hF : F = Kv.FLT_SSTn.PEND ∨ F = Kv.FLT_SSTn.CSEV) (k : Kv) (n q : Nat) :
    (k.fltAck n).rd F q = if q = n then 0 else k.rd F q := by
  have keys {G H : Fld} {a b : Nat} (hG : G = Kv.FLT_SSTn.PEND ∨ G = Kv.FLT_SSTn.CSEV) (hH : H = Kv.FLT_SSTn.PEND ∨ H = Kv.FLT_SSTn.CSEV)
      (differ : a ≠ b ∨ G.lo ≠ H.lo) : G.key a 0 ≠ H.key b 0 := by
    rcases hG with rfl | rfl <;> rcases hH with rfl | rfl <;>
      simp only [Fld.key, Fld.addr, Kv.FLT_SSTn.PEND, Kv.FLT_SSTn.CSEV] at differ ⊢ <;> omega
  by_cases same : q = n
  · rw [if_pos same, same]
    rcases hF with rfl | rfl
    · exact (Kv.rd_wr_ne _ _ (keys (.inl rfl) (.inr rfl) (.inr (by decide)))).trans (k.rd_wr_same Kv.FLT_SSTn.PEND 0 n 0)
    · exact Kv.rd_wr_same _ Kv.FLT_SSTn.CSEV 0 n 0
  · rw [if_neg same]
    exact (Kv.rd_wr_ne _ _ (keys hF (.inr rfl) (.inl same))).trans (k.rd_wr_ne _ (keys hF (.inl rfl) (.inl same)))

theorem fltAcks_rd {F : Fld} (hF : F = Kv.FLT_SSTn.PEND ∨ F = Kv.FLT_SSTn.CSEV) (l : List Nat) (k : Kv) (q : Nat) :
    (k.each l Kv.fltAck).rd F q = if q ∈ l then 0 else k.rd F q := by
  induction l generalizing k with
  | nil => exact (if_neg List.not_mem_nil).symm
  | cons n l ih =>
    have step := ih (k.fltAck n)
    rw [fltAck_rd hF] at step
    refine step.trans ?_
    by_cases h : q ∈ l <;> by_cases same : q = n <;> simp [h, same]

/-- The acknowledged sources lose PEND and CSEV, the others keep them (R417). -/
theorem faultAcknowledgeKv_rd {F : Fld} (hF : F = Kv.FLT_SSTn.PEND ∨ F = Kv.FLT_SSTn.CSEV) (k : Kv) (m mask q : Nat) :
    (faultAcknowledgeKv m mask k).rd F q = if q / 32 = m ∧ mask.testBit (q % 32) = true then 0 else k.rd F q := by
  have listed : faultAcknowledgeKv m mask k = k.each (((List.range 32).filter (fun i => bit mask i)).map (32 * m + ·)) Kv.fltAck := by
    rw [Kv.each, List.foldl_map]
    rfl
  have mem : q ∈ ((List.range 32).filter (fun i => bit mask i)).map (32 * m + ·) ↔ q / 32 = m ∧ mask.testBit (q % 32) = true := by
    simp only [List.mem_map, List.mem_filter, List.mem_range, bit]
    constructor
    · rintro ⟨i, ⟨hi, on⟩, rfl⟩
      rw [show (32 * m + i) % 32 = i by omega]
      exact ⟨by omega, on⟩
    · rintro ⟨rfl, on⟩
      exact ⟨q % 32, ⟨by omega, on⟩, by omega⟩
  rw [listed, fltAcks_rd hF]
  exact if_congr mem rfl rfl

/-! ### The injection, the first-fault latch and the event mask -/

theorem fltInjGoKv_raises {k : Kv} {n kind : Nat} (hn : n < 128) (hk : kind < 32) (free : k.parked = true ∨ k.duty = false) :
    let y := (k.wr Kv.FLT_INJ.SRC n).wr Kv.FLT_INJ.KIND kind
    fltInjGoKv n kind k = y.raise n kind (y.rd Kv.FLT_INJA.ADDR) := by
  intro y
  have parked : y.parked = k.parked := congrArg (· == 1) ((Kv.rd_wr_ne _ _ (by decide)).trans (k.rd_wr_ne _ (by decide)))
  have duty : y.duty = k.duty := congrArg (· == 1) ((Kv.rd_wr_ne _ _ (by decide)).trans (k.rd_wr_ne _ (by decide)))
  have goes : (y.parked || !y.duty) = true := by
    rw [parked, duty]
    rcases free with h | h <;> rw [h]
    · rfl
    · exact Bool.or_true _
  refine (if_pos goes).trans ?_
  rw [Nat.mod_eq_of_lt hn, Nat.mod_eq_of_lt hk]

theorem fltInjGoKv_refused {k : Kv} (n kind : Nat) (runs : k.parked = false) (duty : k.duty = true) :
    fltInjGoKv n kind k = ((k.wr Kv.FLT_INJ.SRC n).wr Kv.FLT_INJ.KIND kind).raise Src.REGACC 17 Kv.FLT_INJ.GO.base := by
  let y := (k.wr Kv.FLT_INJ.SRC n).wr Kv.FLT_INJ.KIND kind
  have parked' : y.parked = false := (congrArg (· == 1) ((Kv.rd_wr_ne _ _ (by decide)).trans (k.rd_wr_ne _ (by decide)))).trans runs
  have duty' : y.duty = true := (congrArg (· == 1) ((Kv.rd_wr_ne _ _ (by decide)).trans (k.rd_wr_ne _ (by decide)))).trans duty
  refine if_neg (show ¬ (y.parked || !y.duty) = true from ?_)
  rw [parked', duty']
  decide

theorem firstFaultClearKv_shows (k : Kv) : let y := firstFaultClearKv k
    y.on Kv.FLT_FF0.VALID = false ∧ y.on Kv.FLT_FF0.OVF = false ∧ y.on Kv.FLT_FF0.TIE = false ∧
      y.rd Kv.FLT_FF0.SRC = 0 ∧ y.rd Kv.FLT_FF1.ADDR = 0 ∧ y.rd Kv.FLT_FF2.TICK = 0 ∧ y.rd Kv.FLT_FF3.NS = 0 := by
  simp (disch := decide) [firstFaultClearKv, Kv.on, Kv.rd_wr_ne]

/-- Software clears one mask bit that was set. -/
theorem unmasked_one {v i : Nat} (hi : i < 32) (on : v.testBit i = true) :
    (List.range 32).filter (fun j => bit v j && !bit (v - 2 ^ i) j) = [i] := by
  have cleared : setBit v i false = v - 2 ^ i := by
    have one : bits v i 1 = 1 := by
      rw [Nat.testBit_eq_decide_div_mod_eq] at on
      exact of_decide_eq_true on
    simp [setBit, putBits, one, b2n]
  have only : ∀ j, (bit v j && !bit (v - 2 ^ i) j) = decide (j = i) := fun j => by
    rw [← cleared, bit_setBit_false]
    by_cases same : j = i
    · simp [same, bit, on]
    · simp [same]
  simp only [only]
  rw [List.filter_eq, List.count_eq_one_of_mem List.nodup_range (List.mem_range.mpr hi)]
  rfl

theorem eventUnmaskKv_same (k : Kv) (m : Nat) : eventUnmaskKv m (k.rd Kv.EVT_MSKm.MSK m) k = k.wr Kv.EVT_MSKm.MSK (k.rd Kv.EVT_MSKm.MSK m) m := by
  unfold eventUnmaskKv
  simp only [Bool.and_not_self, List.filter_false]
  rfl

theorem eventUnmaskKv_one {k : Kv} {m i : Nat} (hm : m < 4) (hi : i < 32) (masked : (k.rd Kv.EVT_MSKm.MSK m).testBit i = true)
    (pend : k.evPend (32 * m + i) = true) (sends : k.on Kv.EVT_RTn.MEN (32 * m + i) = true) :
    eventUnmaskKv m (k.rd Kv.EVT_MSKm.MSK m - 2 ^ i) k =
      (k.wr Kv.EVT_MSKm.MSK (k.rd Kv.EVT_MSKm.MSK m - 2 ^ i) m).msix (k.rd Kv.EVT_RTn.VEC (32 * m + i)) := by
  let s := k.wr Kv.EVT_MSKm.MSK (k.rd Kv.EVT_MSKm.MSK m - 2 ^ i) m
  have rt {F : Fld} (h : F.apart Kv.EVT_MSKm.MSK = true) {q : Nat} (hq : q < F.c1) (hc : 0 < F.c2) : s.rd F q = k.rd F q :=
    k.rd_wr_ne _ (Fld.key_ne_of_apart h hq hc hm Nat.one_pos)
  have e : 32 * m + i < 128 := by omega
  have pend' : s.evPend (32 * m + i) = true :=
    (congrArg (bit · _) (rt (by decide) (show (32 * m + i) / 32 < 4 by omega) Nat.one_pos)).trans pend
  have sends' : s.on Kv.EVT_RTn.MEN (32 * m + i) = true := (congrArg (· == 1) (rt (by decide) e Nat.one_pos)).trans sends
  have vec : s.rd Kv.EVT_RTn.VEC (32 * m + i) = k.rd Kv.EVT_RTn.VEC (32 * m + i) := rt (by decide) e Nat.one_pos
  unfold eventUnmaskKv
  dsimp only
  rw [unmasked_one hi masked, Kv.each, List.foldl_cons, List.foldl_nil, pend', sends']
  exact congrArg s.msix vec

/-! ### The statement -/

/-- A fault that is not pending: counted, pending, reacted to, latched and told (R414 to R425). -/
theorem new_shows {k : Kv} {n kind addr sev : Nat} (hn : n < 128) (hk : kind < 32) (ha : addr < 2 ^ 32) (h8 : sev < 8)
    (room : k.rd Kv.FLT_SSTn.OCC n + 1 < 65535) :
    let y := k.followed ⟨n, kind, addr⟩ sev
    let calm := sev < 4 ∨ k.olcFails (k.rd Kv.DSP_OLC.STATE) = false
    (calm → y.rd Kv.FLT_SSTn.OCC n = k.rd Kv.FLT_SSTn.OCC n + 1) ∧
      (1 ≤ sev → y.on Kv.FLT_SSTn.PEND n = true) ∧ (1 ≤ sev → calm → y.rd Kv.FLT_SSTn.CSEV n = max (k.rd Kv.FLT_SSTn.CSEV n) sev) ∧
      (3 ≤ sev → addrIsCell ⟨n, kind, addr⟩ = true →
        addr < 8192 ∧ y.on Kv.FLT_STAT.CBLK = true ∧
        (Tab.get 0 addr k.ovrAt = 0 → Tab.get 0 addr y.ovrAt = (k.tick + k.lead + 1) % 2 ^ 48 + 1)) ∧
      (¬ calm → y.rd Kv.DSP_OLC.STATE = 5 ∧ y.dsp.olcReload = true) ∧
      (4 ≤ sev → y.on Kv.FLT_STAT.CBLK = true ∧ y.on Kv.FLT_STAT.STOPR = true ∧ y.rd Kv.DSP_STAT.PEND = 0 ∧ y.stopNext = true) ∧
      (5 ≤ sev → k.duty = true → y.on Kv.FLT_STAT.TRIPR = true) ∧
      (k.rd Kv.FLT_CFG.FFMIN ≤ sev → k.on Kv.FLT_FF0.VALID = false →
        y.on Kv.FLT_FF0.VALID = true ∧ y.rd Kv.FLT_FF0.SRC = n ∧ y.rd Kv.FLT_FF0.KIND = kind ∧
        y.rd Kv.FLT_FF0.SEV = sev ∧ y.rd Kv.FLT_FF1.ADDR = addr) ∧
      (k.rd Kv.EVT_RTn.MINSEV n ≤ sev → y.evPend n = true) := by
  intro y calm
  refine ⟨fun holds => ?_, fun real => ?_, fun real holds => ?_, fun h3 cell => ⟨?_, reacted_cell (k := k) (m := ⟨n, kind, addr⟩) hn h3 cell⟩,
    fun wild => ?_, reacted_stop (k := k) (m := ⟨n, kind, addr⟩) hn, reacted_trip (k := k) (m := ⟨n, kind, addr⟩) hn,
    fun high free => latched_first (k := k) (m := ⟨n, kind, addr⟩) hn high free hk h8 ha, told_event (k := k) (m := ⟨n, kind, addr⟩) hn⟩
  · exact (congrArg (Kv.rd · Kv.FLT_SSTn.OCC n) (followed_calm (m := ⟨n, kind, addr⟩) hn holds)).trans (told_occ (m := ⟨n, kind, addr⟩) hn room)
  · exact beq_iff_eq.mpr ((followed_occurred (k := k) (m := ⟨n, kind, addr⟩) hn).stuck (Kv.FLT_SSTn.PEND, n, 1) (by simp [stickies])
      (occurred_noted (m := ⟨n, kind, addr⟩) hn real h8).1)
  · exact (congrArg (Kv.rd · Kv.FLT_SSTn.CSEV n) (followed_calm (m := ⟨n, kind, addr⟩) hn holds)).trans
      ((told_rd (m := ⟨n, kind, addr⟩) hn (by decide +kernel) hn Nat.one_pos).trans (occurred_noted (m := ⟨n, kind, addr⟩) hn real h8).2)
  · exact of_decide_eq_true (Bool.and_eq_true_iff.mp cell).1
  · obtain ⟨high, fails⟩ := not_or.mp wild
    exact reacted_olc (k := k) (m := ⟨n, kind, addr⟩) hn (not_lt.mp high) (Bool.not_eq_false _ ▸ fails)

/-- Settles O52: each clause is what its operation comes to; what an occurrence raises in turn takes none of it back. -/
theorem faultCollectorAndEventCommands : Obligations.Fault_collector_and_event_commands := by
  intro s c src kind addr mask v m rp i live k n goes sev calm
  have goesBy {j : Instr} {f : Kv → Kv} {y : Kv} (named : exec j s = .next (s.onKv c f)) (does : f k = y) : goes j y :=
    exec_live live named does
  have hn : n < 128 := src.isLt
  refine ⟨fun en room => ⟨fun pend merge low => goesBy rfl (raise_merged hn en room pend merge low), fun new space => ?new⟩, ?window,
    ⟨_, goesBy rfl rfl, ?acked, ?others⟩, fun hl ht => goesBy rfl (fltWinWriteKv_fit hl ht),
    ⟨fun free => goesBy rfl (fltInjGoKv_raises hn kind.isLt free), fun runs duty => goesBy rfl (fltInjGoKv_refused n kind.toNat runs duty)⟩,
    ⟨_, goesBy rfl rfl, firstFaultClearKv_shows k⟩, goesBy rfl rfl, fun same => goesBy rfl ?same, fun hi masked less pend sends => goesBy rfl ?one⟩
  case new =>
    have h8 : sev < 8 := Kv.rd_lt ..
    exact ⟨_, goesBy rfl (raise_new hn addr.isLt en room new space), new_shows hn kind.isLt addr.isLt h8 room⟩
  case window =>
    intro o len now again started
    exact ⟨fun within => goesBy rfl (faultWindowEndKv_within within),
      fun over_ yes => goesBy rfl (faultWindowEndKv_again started over_ yes), fun over_ no => goesBy rfl (faultWindowEndKv_ends started over_ no)⟩
  case acked =>
    intro b hb on
    have here : (32 * m.toNat + b) / 32 = m.toNat ∧ mask.toNat.testBit ((32 * m.toNat + b) % 32) = true := by
      rw [show (32 * m.toNat + b) % 32 = b by omega]
      exact ⟨by omega, on⟩
    exact ⟨(faultAcknowledgeKv_rd (.inl rfl) ..).trans (if_pos here), (faultAcknowledgeKv_rd (.inr rfl) ..).trans (if_pos here)⟩
  case others =>
    intro q other
    have not_ : ¬ (q / 32 = m.toNat ∧ mask.toNat.testBit (q % 32) = true) := by
      rintro ⟨here, on⟩
      rcases other with there | off
      · exact there here
      · exact absurd (off.symm.trans on) Bool.false_ne_true
    exact ⟨(faultAcknowledgeKv_rd (.inl rfl) ..).trans (if_neg not_), (faultAcknowledgeKv_rd (.inr rfl) ..).trans (if_neg not_)⟩
  case same =>
    rw [same]
    exact eventUnmaskKv_same k m.toNat
  case one =>
    rw [less]
    exact eventUnmaskKv_one m.isLt hi masked pend sends

end Sys2Proof.Machine
end

section
/-! The row of an acquisition unit in POST: where it is put, and that a fault raised on the way does not move it (R437, R438, R447). -/

namespace Sys2Proof.Machine

/-! ### A unit in POST -/

/-- What a unit in POST goes by. -/
def postFlds : List Fld :=
  [Kv.ACQn_NPOST.NPOST, Kv.ACQn_ROWS.ROWS, Kv.ACQn_BASE.BASE, Kv.ACQn_STAT.C, Kv.ACQn_CFG.MACT]

/-- Unit `u`, where it was in POST, stands as it did. -/
def Posts (u : Nat) (t s : Kv) : Prop :=
  s.rd Kv.ACQn_STAT.STATE u = 2 → t.rd Kv.ACQn_STAT.STATE u = 2 ∧ t.acqU u = s.acqU u ∧ ∀ F ∈ postFlds, t.rd F u = s.rd F u

namespace Posts

variable {u : Nat} {s t : Kv}

theorem refl (s : Kv) : Posts u s s := fun st => ⟨st, rfl, fun _ _ => rfl⟩

theorem trans {r : Kv} (a : Posts u r s) (b : Posts u s t) : Posts u r t := fun st => by
  obtain ⟨st', acq, flds⟩ := b st
  obtain ⟨st'', acq', flds'⟩ := a st'
  exact ⟨st'', acq'.trans acq, fun F hF => (flds' F hF).trans (flds F hF)⟩

theorem of_same (regs : t.regs = s.regs) (acq : t.acq = s.acq) : Posts u t s := fun st =>
  ⟨(congrArg (Kv.ACQn_STAT.STATE.get u 0) regs).trans st, congrArg (Tab.get AcqUnit.reset u) acq, fun F _ => congrArg (F.get u 0) regs⟩

theorem wr (s : Kv) {F : Fld} (v : Nat) {i j : Nat} (h : ∀ W ∈ Kv.ACQn_STAT.STATE :: postFlds, W.key u 0 ≠ F.key i j) :
    Posts u (s.wr F v i j) s := fun st =>
  ⟨(s.rd_wr_ne v (h _ List.mem_cons_self)).trans st, rfl, fun _ hW => s.rd_wr_ne v (h _ (List.mem_cons_of_mem _ hW))⟩

variable (hu : u < 4)
include hu

theorem wr_apart (s : Kv) {F : Fld} (v : Nat) {i j : Nat} (h : ∀ W ∈ Kv.ACQn_STAT.STATE :: postFlds, W.apart F = true) (hi : i < F.c1)
    (hj : j < F.c2) : Posts u (s.wr F v i j) s := by
  have four : ∀ W ∈ Kv.ACQn_STAT.STATE :: postFlds, W.c1 = 4 ∧ W.c2 = 1 := by decide
  refine wr s v fun W hW => ?_
  obtain ⟨h1, h2⟩ := four W hW
  exact Fld.key_ne_of_apart (h W hW) (h1 ▸ hu) (h2 ▸ Nat.one_pos) hi hj

theorem frame : Frame (occurFlds ++ uncFlds) (Posts u) where
  same := refl
  tr := trans
  wr s F v _ _ hF hi hj := by
    have apart : ∀ F ∈ occurFlds ++ uncFlds, ∀ W ∈ Kv.ACQn_STAT.STATE :: postFlds, W.apart F = true := by decide +kernel
    exact wr_apart hu s v (apart F hF) hi hj
  send _ _ := of_same rfl rfl
  win _ _ := of_same rfl rfl
  log _ _ := of_same rfl rfl
  stop _ := of_same rfl rfl
  rel _ _ := of_same rfl rfl
  dirty _ := of_same rfl rfl
  reload _ := of_same rfl rfl
  once _ := of_same rfl rfl

omit hu in
/-- Registers of different units. -/
theorem unit_ne {W F : Fld} {n : Nat} (hW : W ∈ Kv.ACQn_STAT.STATE :: postFlds) (hF : F ∈ fireFlds) (differ : u ≠ n) : W.key u 0 ≠ F.key n 0 := by
  have block : ∀ W ∈ (Kv.ACQn_STAT.STATE :: postFlds) ++ fireFlds, W.s1 = 0x1000 ∧ 0x40000 ≤ W.base ∧ W.base < 0x41000 ∧ W.lo < 32 := by decide
  obtain ⟨s1, l1, h1, lo1⟩ := block W (List.mem_append_left _ hW)
  obtain ⟨s2, l2, h2, lo2⟩ := block F (List.mem_append_right _ hF)
  simp only [Fld.key, Fld.addr, s1, s2]
  omega

theorem fired (s : Kv) (src : Nat → Bool) (f c : Nat) : Posts u (s.acqFire src f c) s := by
  have own : ∀ F ∈ [Kv.ACQn_STAT.CAUSE, Kv.ACQn_STAT.REFIRE, Kv.ACQn_STAT.XLATE], ∀ W ∈ Kv.ACQn_STAT.STATE :: postFlds, W.apart F = true := by
    decide
  refine acqFire_keeps refl trans (fun s n f c hn => ?_) (fun s n hn => wr_apart hu s 1 (own _ (by simp)) hn Nat.one_pos)
    (fun _ _ => of_same rfl rfl) s src f c
  by_cases same : n = u
  · subst same
    intro st
    refine (?_ : Posts n (s.acqFireUnit n f c) s) st
    have here : s.acqFireUnit n f c = if s.rd Kv.ACQn_FTIK.F n = f % 2 ^ 32 then s.wr Kv.ACQn_STAT.CAUSE (min c (s.rd Kv.ACQn_STAT.CAUSE n)) n
        else s.mark Kv.ACQn_STAT.REFIRE n := by
      unfold Kv.acqFireUnit
      dsimp only
      rw [st]
      rfl
    rw [here]
    split
    · exact wr_apart hn s _ (own _ (by simp)) hn Nat.one_pos
    · exact wr_apart hn s 1 (own _ (by simp)) hn Nat.one_pos
  · have differ : u ≠ n := fun h => same h.symm
    refine acqFireUnit_writes hn refl trans (fun s F v hF _ _ => wr s v fun W hW => unit_ne hW hF differ) (fun _ _ _ => of_same rfl rfl)
      (fun s x => ?_) s f c
    exact fun st => ⟨st, Tab.get_set_ne _ _ _ differ, fun _ _ => rfl⟩

/-- A fault raised on the way, for a word that could not be read, moves nothing. -/
theorem reportUnc (s : Kv) (l : List Nat) : Posts u (s.reportUnc l) s := by
  have v := frame hu
  have occurs : Frame occurFlds (Posts u) := ⟨v.same, v.tr, fun s _ w _ _ hF => v.wr s w (List.mem_append_left _ hF), v.send, v.win, v.log, v.stop,
    v.rel, v.dirty, v.reload, v.once⟩
  refine v.each s l fun s w _ => ?_
  have logs : Posts u (s.logUnc w) s := by
    unfold Kv.logUnc
    split
    · have first : Posts u (s.when (!s.on Kv.MEM_STAT.UNCF) (fun s => s.wr Kv.MEM_ELOG1.UADDR (memFaultAddr w))) s :=
        v.when s _ (v.wr s _ (by simp [uncFlds]) Nat.one_pos Nat.one_pos)
      exact trans (v.mark _ (by simp [uncFlds]) Nat.one_pos Nat.one_pos) first
    · exact refl s
  refine trans (occurs.raise (fired hu) (fun _ _ => of_same rfl rfl) _ ?_ _ _) logs
  split <;> decide

end Posts

/-! ### Stores of a row -/

/-- What neither a byte nor a repair changes is as it was after words, zeros and repairs. -/
theorem wrLe_keeps {α : Type} {p : Kv → α} (byte : ∀ (s : Kv) (a : Nat) (v : Byte), p (s.wrByte a v) = p s) (s : Kv) (a v n : Nat) :
    p (s.wrLe a v n) = p s := by
  induction n generalizing s a v with
  | zero => rfl
  | succ n ih => exact (ih _ _ _).trans (byte s a _)

theorem zero_keeps {α : Type} {p : Kv → α} (byte : ∀ (s : Kv) (a : Nat) (v : Byte), p (s.wrByte a v) = p s) (s : Kv) (a n : Nat) :
    p (s.zero a n) = p s := by
  induction n generalizing s a with
  | zero => rfl
  | succ n ih => exact (ih _ _).trans (byte s a _)

/-- Values one after the other, as a row stores them. -/
def Kv.wrVals (s : Kv) (a : Nat) (vals : List Int) : Kv := (vals.foldl (fun (p : Kv × Nat) v => (p.1.wrLe p.2 (toBits 16 v) 2, p.2 + 2)) (s, a)).1

theorem wrVals_keeps {α : Type} {p : Kv → α} (byte : ∀ (s : Kv) (a : Nat) (v : Byte), p (s.wrByte a v) = p s) (s : Kv) (a : Nat)
    (vals : List Int) : p (s.wrVals a vals) = p s := by
  induction vals generalizing s a with
  | nil => rfl
  | cons v l ih => exact (ih (s.wrLe a (toBits 16 v) 2) (a + 2)).trans (wrLe_keeps byte s a _ 2)

/-- Bytes below the values are left alone. -/
theorem wrVals_rdByte (s : Kv) (a : Nat) (vals : List Int) {b : Nat} (h : b < a) : (s.wrVals a vals).rdByte b = s.rdByte b := by
  induction vals generalizing s a with
  | nil => rfl
  | cons v l ih => exact (ih (s.wrLe a (toBits 16 v) 2) (a + 2) (by omega)).trans (Kv.rdByte_wrLe_out s a _ 2 b (.inl h))

/-- A row is put into the slot at the write position, its tick number first, and the position moves on (R437). -/
theorem acqPut_shows (s : Kv) (n tick flags len : Nat) (vals : List Int) (keep : List (Option Int)) :
    let y := s.acqPut n tick flags len vals keep
    y.regs = s.regs ∧ (y.acqU n).wp = ((s.acqU n).wp + 1) % s.rd Kv.ACQn_ROWS.ROWS n ∧ (y.acqU n).fireWait = (s.acqU n).fireWait ∧
      y.rdLe (s.acqSlot n (s.acqU n).wp) 4 = tick % 2 ^ 32 := by
  intro y
  have run : y = s.acqPut n tick flags len vals keep := rfl
  unfold Kv.acqPut at run
  extract_lets u size rows a s1 s2 s3 s4 s5 row at run
  have stored {α : Type} {p : Kv → α} (byte : ∀ (s : Kv) (a : Nat) (v : Byte), p (s.wrByte a v) = p s)
      (repair : ∀ (s : Kv) (a m : Nat), p (s.setErrs a m) = p s) : p s5 = p s :=
    (Kv.each_keeps p (fun s i => repair s (a + 8 * i) 0) s4 (List.range (size / 8))).trans ((wrVals_keeps byte s3 (a + 16) vals).trans
      ((wrLe_keeps byte _ _ _ _).trans ((wrLe_keeps byte _ _ _ _).trans ((wrLe_keeps byte _ _ _ _).trans ((wrLe_keeps byte _ _ _ _).trans
        (zero_keeps byte s a size))))))
  have acq : y.acqU n = { u with wp := (u.wp + 1) % rows, rows := (row :: u.rows).take (rows - 1) } := by
    rw [run]
    exact Tab.get_set_same ..
  refine ⟨(congrArg Kv.regs run).trans (stored (p := Kv.regs) (fun _ _ _ => rfl) fun _ _ _ => rfl), congrArg AcqUnit.wp acq,
    (congrArg AcqUnit.fireWait acq :), ?_⟩
  have low (i : Nat) (hi : i < 4) : y.rdByte (a + i) = (s1.wrLe a tick 4).rdByte (a + i) := by
    have e5 : s5.rdByte (a + i) = s4.rdByte (a + i) := 
      Kv.each_keeps (fun s : Kv => s.rdByte (a + i)) (f := fun s i => s.setErrs (a + 8 * i) 0) (fun _ _ => rfl) s4 (List.range (size / 8))
    have e4 : s4.rdByte (a + i) = s3.rdByte (a + i) := wrVals_rdByte s3 (a + 16) vals (by omega)
    have e3 : s3.rdByte (a + i) = s2.rdByte (a + i) :=
      (Kv.rdByte_wrLe_out _ _ _ _ _ (.inl (by omega))).trans (Kv.rdByte_wrLe_out _ _ _ _ _ (.inl (by omega)))
    have e2 : s2.rdByte (a + i) = (s1.wrLe a tick 4).rdByte (a + i) := Kv.rdByte_wrLe_out _ _ _ _ _ (.inl (by omega))
    exact (congrArg (Kv.rdByte · (a + i)) run).trans (e5.trans (e4.trans (e3.trans e2)))
  exact (Kv.rdLe_congr _ _ _ _ low).trans (Kv.rdLe_wrLe_same _ _ _ _)

/-! ### What a row changes in the unit's own state -/

/-- The same registers and memory, with the unit at the same place of its record. -/
structure SamePlace (u : Nat) (t s : Kv) : Prop where
  regs : t.regs = s.regs
  mem : t.mem = s.mem
  wp : (t.acqU u).wp = (s.acqU u).wp
  gap : (t.acqU u).gap = (s.acqU u).gap
  wait : (t.acqU u).fireWait = (s.acqU u).fireWait

namespace SamePlace

variable {u : Nat} {s t : Kv}

theorem refl (s : Kv) : SamePlace u s s := ⟨rfl, rfl, rfl, rfl, rfl⟩

theorem trans {r : Kv} (a : SamePlace u r s) (b : SamePlace u s t) : SamePlace u r t :=
  ⟨a.regs.trans b.regs, a.mem.trans b.mem, a.wp.trans b.wp, a.gap.trans b.gap, a.wait.trans b.wait⟩

theorem rd (h : SamePlace u t s) (F : Fld) (i j : Nat) : t.rd F i j = s.rd F i j := congrArg (F.get i j) h.regs

theorem set (s : Kv) {x : AcqUnit} (wp : x.wp = (s.acqU u).wp) (gap : x.gap = (s.acqU u).gap) (wait : x.fireWait = (s.acqU u).fireWait) :
    SamePlace u (s.setAcq u x) s := by
  have now : (s.setAcq u x).acqU u = x := Tab.get_set_same ..
  exact ⟨rfl, rfl, (congrArg _ now).trans wp, (congrArg _ now).trans gap, (congrArg _ now).trans wait⟩

theorem measRow (s : Kv) (vals : List (Option Int)) : SamePlace u (s.acqMeasRow u vals) s := set s rfl rfl rfl

theorem measCatch (s : Kv) : SamePlace u (s.acqMeasCatch u) s := by
  have rows (l : List AcqRow) (s : Kv) : SamePlace u (l.foldl (fun s r => s.acqMeasRow u r.vals) s) s := by
    induction l generalizing s with
    | nil => exact refl s
    | cons r l ih => exact trans (ih _) (measRow s r.vals)
  unfold Kv.acqMeasCatch
  dsimp only
  split
  · exact rows _ s
  · exact refl s

theorem trigger (s : Kv) (sgn : Bool) (v : Option Int) : SamePlace u (s.acqTrigger u sgn v).1 s := set s rfl rfl rfl

end SamePlace

/-! ### The row of a unit in POST -/

theorem acqRowGatherKv_post {k : Kv} {u t : Nat} (hu : u < 4) (due : k.acqDue u t = true) (whole : (k.acqU u).gap = none)
    (st : k.rd Kv.ACQn_STAT.STATE u = 2) (placed : (k.acqU u).fireWait = none) (plain : k.rd Kv.ACQn_CFG.MACT u = 0) :
    let y := acqRowGatherKv u t k
    (y.acqU u).wp = ((k.acqU u).wp + 1) % k.rd Kv.ACQn_ROWS.ROWS u ∧
      y.rd Kv.ACQn_NPOST.NPOST u = (k.rd Kv.ACQn_NPOST.NPOST u + 1) % 2 ^ Kv.ACQn_NPOST.NPOST.w ∧
      y.rdLe (k.acqSlot u (k.acqU u).wp) 4 = t % 2 ^ 32 := by
  have going : ¬ (!k.acqDue u t) = true := by rw [due]; decide
  intro y
  have run : y = acqRowGatherKv u t k := rfl
  unfold acqRowGatherKv at run
  rw [if_neg going] at run
  extract_lets s1 chans deskew got s3 cfgf s4 vals isFire post slot s5 s6 s7 s8 tch tr armed un vio at run
  have m1 : SamePlace u s1 k := by
    have c := SamePlace.measCatch (u := u) k
    have no : ((k.acqMeasCatch u).acqU u).gap = none := c.gap.trans whole
    have e : s1 = k.acqMeasCatch u := by
      simp only [s1, Kv.acqGap, no]
    rw [e]
    exact c
  have p3 : Posts u s3 s1 := Posts.trans (Posts.reportUnc hu _ _) (Posts.of_same rfl rfl)
  have p4 : Posts u s4 s1 := by
    have cfg : ∀ W ∈ Kv.ACQn_STAT.STATE :: postFlds, W.apart Kv.ACQn_STAT.CFGF = true := by decide
    refine Posts.trans ?_ p3
    simp only [s4, Kv.when]
    split
    · exact Posts.wr_apart hu s3 1 cfg hu Nat.one_pos
    · exact Posts.refl s3
  obtain ⟨st4, acq4, flds4⟩ := p4 ((m1.rd ..).trans st)
  have flds {F : Fld} (hF : F ∈ postFlds) : s4.rd F u = k.rd F u := (flds4 F hF).trans (m1.rd ..)
  have wait4 : (s4.acqU u).fireWait = none := (congrArg AcqUnit.fireWait acq4).trans (m1.wait.trans placed)
  have wp4 : (s4.acqU u).wp = (k.acqU u).wp := (congrArg AcqUnit.wp acq4).trans m1.wp
  obtain ⟨regs5, wp5, wait5, tick5⟩ := acqPut_shows s4 u t (b2n isFire * 2 ^ 30 + (got.filter (·.2)).length) 0 (got.map (·.1))
    (if s4.on Kv.ACQn_CFG.MEAS u then vals else [])
  have noFire : isFire = false := by simp only [isFire, wait4]
  have posts : post = true := by simp only [post, st4, wait4]; rfl
  have e6 : s6 = s5 := by simp only [s6, noFire, Kv.when_false]
  have e7 : s7 = s5.wr Kv.ACQn_NPOST.NPOST (s5.rd Kv.ACQn_NPOST.NPOST u + 1) u := by simp only [s7, posts, Kv.when_true, e6]
  have m8 : SamePlace u s8 s7 := by
    simp only [s8, Kv.when]
    split
    · exact SamePlace.measRow s7 vals
    · exact SamePlace.refl s7
  have mt : SamePlace u tr.1 s7 := SamePlace.trans (SamePlace.trigger s8 _ _) m8
  have other {F : Fld} (h : F.apart Kv.ACQn_NPOST.NPOST = true) (h1 : F.c1 = 4) (h2 : F.c2 = 1) : s7.rd F u = s4.rd F u := by
    rw [e7]
    exact (s5.rd_wr_ne _ (Fld.key_ne_of_apart h (h1 ▸ hu) (h2 ▸ Nat.one_pos) hu Nat.one_pos)).trans (congrArg (F.get u 0) regs5)
  have mact : tr.1.rd Kv.ACQn_CFG.MACT u = 0 := (mt.rd ..).trans ((other (by decide) rfl rfl).trans ((flds (by simp [postFlds])).trans plain))
  have quiet : un = tr.1 := by simp only [un, Kv.acqMaskBad, mact, if_true]; rfl
  have passed : vio = (un, false) := by simp only [vio, Kv.acqViolation, quiet, mact, if_true]
  have rests : armed = false := by
    simp only [armed, m8.rd, other (show Kv.ACQn_STAT.STATE.apart Kv.ACQn_NPOST.NPOST = true by decide) rfl rfl, st4]
    rfl
  have last : y = tr.1 := by rw [run, passed, rests, quiet]; rfl
  rw [last]
  refine ⟨mt.wp.trans ?_, (mt.rd ..).trans ?_, ?_⟩
  · rw [e7]
    exact wp5.trans (by rw [wp4, flds (by simp [postFlds])])
  · rw [e7, Kv.rd_wr_same]
    exact congrArg (fun v => (v + 1) % 2 ^ Kv.ACQn_NPOST.NPOST.w)
      ((congrArg (Kv.ACQn_NPOST.NPOST.get u 0) regs5).trans (flds (by simp [postFlds])))
  · have slot4 : s4.acqSlot u (s4.acqU u).wp = k.acqSlot u (k.acqU u).wp := by
      rw [Kv.acqSlot, Kv.acqSlot, wp4, flds (by simp [postFlds]), flds (by simp [postFlds])]
    rw [slot4] at tick5
    refine (Kv.rdLe_congr _ _ _ _ fun i _ => congrArg (Tab.get 0 _) mt.mem).trans ?_
    rw [e7]
    exact (Kv.rdLe_wr ..).trans tick5

end Sys2Proof.Machine
end

section
/-! The commands of the acquisition units, and the statement on them (R437 to R450). -/

namespace Sys2Proof.Machine

/-! ### Arming by the host (R441, R442) -/

theorem acqU_setAcq_same (s : Kv) (n : Nat) (u : AcqUnit) : (s.setAcq n u).acqU n = u := Tab.get_set_same ..

theorem acqU_setAcq_ne (s : Kv) {q n : Nat} (u : AcqUnit) (h : q ≠ n) : (s.setAcq n u).acqU q = s.acqU q := Tab.get_set_ne _ _ _ h

/-- The arm tick of a unit after several were given one. -/
theorem armAt_each (a : Nat) (l : List Nat) (s : Kv) {q : Nat} (h : q ∈ l ∨ (s.acqU q).armAt = some a) :
    ((s.each l (fun s n => s.setAcq n { s.acqU n with armAt := some a })).acqU q).armAt = some a := by
  induction l generalizing s with
  | nil => exact h.resolve_left List.not_mem_nil
  | cons n l ih =>
    refine ih _ ?_
    by_cases same : q = n
    · rw [same]
      exact .inr (congrArg AcqUnit.armAt (acqU_setAcq_same ..))
    · rcases h with h | h
      · exact .inl ((List.mem_cons.mp h).resolve_left same)
      · exact .inr ((congrArg AcqUnit.armAt (acqU_setAcq_ne _ _ same)).trans h)

section
variable {k : Kv} {at_ : Nat} (hat : at_ < 65536) (cells : Bool)
include hat

/-- The chip with the fields of the request written (R8). -/
def Kv.armAsked (k : Kv) (at_ : Nat) (cells : Bool) : Kv := (k.wr Kv.ACQ_ARM.ATICK at_).wr Kv.ACQ_ARM.CELLARM (b2n cells)

omit hat in
theorem armAsked_rd {F : Fld} {i : Nat} (h : ∀ G ∈ [Kv.ACQ_ARM.ATICK, Kv.ACQ_ARM.CELLARM], F.key i 0 ≠ G.key 0 0) :
    (k.armAsked at_ cells).rd F i = k.rd F i :=
  (Kv.rd_wr_ne _ _ (h _ (by simp))).trans (k.rd_wr_ne _ (h _ (by simp)))

omit hat in
theorem armAsked_lead : (k.armAsked at_ cells).lead = k.lead := by
  rw [Kv.lead, Kv.lead, armAsked_rd cells (by decide), armAsked_rd cells (by decide)]

theorem acqArmGoKv_early (off : (at_ + 65536 - k.tick % 65536) % 65536 < k.lead + 2 ∨ 32767 < (at_ + 65536 - k.tick % 65536) % 65536) :
    acqArmGoKv at_ cells k = (k.armAsked at_ cells).raise Src.REGACC 19 Kv.ACQ_ARM.GO.base := by
  rw [← armAsked_lead (at_ := at_) cells] at off
  have hm : at_ % 65536 = at_ := Nat.mod_eq_of_lt hat
  refine if_pos ?_
  rw [hm]
  exact off

theorem acqArmGoKv_arms (low : k.lead + 2 ≤ (at_ + 65536 - k.tick % 65536) % 65536) (high : (at_ + 65536 - k.tick % 65536) % 65536 ≤ 32767)
    (master : k.on Kv.ACQn_CFG.EN (k.rd Kv.ACQ_CTRL.MSTR) = true)
    (rest : ∀ q ∈ k.acqMembers, k.rd Kv.ACQn_STAT.STATE q ≠ 1 ∧ k.rd Kv.ACQn_STAT.STATE q ≠ 2) :
    let y := acqArmGoKv at_ cells k
    y.rd Kv.ACQ_ARM.ATICK = at_ ∧
      (∀ q ∈ k.acqMembers, k.on Kv.ACQn_CFG.EN q = true → (y.acqU q).armAt = some (tickFrom k.tick at_)) ∧
      (cells = true → y.cellArm = some (tickFrom k.tick at_) ∧ y.rd Kv.ACQ_CTRL.NARM = 0) := by
  let s := k.armAsked at_ cells
  let t := tickFrom k.tick at_
  let z := s.each (k.acqMembers.filter (fun n => s.on Kv.ACQn_CFG.EN n)) (fun s n => s.setAcq n { s.acqU n with armAt := some t })
  have hm : at_ % 65536 = at_ := Nat.mod_eq_of_lt hat
  have unit {F : Fld} (h : F.lo < 32 ∧ F.lo ≠ 0 ∧ F.lo ≠ 30) (q : Nat) : s.rd F q = k.rd F q := by
    refine armAsked_rd cells fun G hG => ?_
    have low : G.lo = 0 ∨ G.lo = 30 := by
      rcases List.mem_pair.mp hG with rfl | rfl <;> decide
    simp only [Fld.key]
    omega
  have en (q : Nat) : s.on Kv.ACQn_CFG.EN q = k.on Kv.ACQn_CFG.EN q := congrArg (· == 1) (unit (by decide) q)
  have master' : s.on Kv.ACQn_CFG.EN (s.rd Kv.ACQ_CTRL.MSTR) = true := by rwa [armAsked_rd cells (by decide), en]
  have members : (k.acqMembers.any fun n => s.rd Kv.ACQn_STAT.STATE n == 1 || s.rd Kv.ACQn_STAT.STATE n == 2) = false := by
    refine List.any_eq_false.mpr fun q hq => ?_
    rw [unit (by decide) q]
    simpa using rest q hq
  intro y
  have armed : y = z.when cells (fun s => { (s.wr Kv.ACQ_CTRL.NARM 0) with cellArm := some t }) := by
    have inTime : ¬ ((at_ % 65536 + 65536 - k.tick % 65536) % 65536 < s.lead + 2 ∨ 32767 < (at_ % 65536 + 65536 - k.tick % 65536) % 65536) := by
      rw [hm, show s.lead = k.lead from armAsked_lead cells]
      omega
    have free : ¬ (!s.on Kv.ACQn_CFG.EN (s.rd Kv.ACQ_CTRL.MSTR) ||
        k.acqMembers.any fun n => s.rd Kv.ACQn_STAT.STATE n == 1 || s.rd Kv.ACQn_STAT.STATE n == 2) = true := by
      rw [master', members]
      decide
    exact (if_neg inTime).trans (if_neg free)
  have regs : z.regs = s.regs := Kv.each_keeps Kv.regs (f := fun s n => s.setAcq n { s.acqU n with armAt := some t }) (fun _ _ => rfl) s _
  have asked : s.rd Kv.ACQ_ARM.ATICK = at_ := by
    have apart : Kv.ACQ_ARM.ATICK.key 0 0 ≠ Kv.ACQ_ARM.CELLARM.key 0 0 := by decide
    exact (Kv.rd_wr_ne _ _ apart).trans ((Kv.rd_wr_same ..).trans hm)
  have atick : z.rd Kv.ACQ_ARM.ATICK = at_ := (congrArg (Kv.ACQ_ARM.ATICK.get 0 0) regs).trans asked
  have units (q : Nat) : y.acqU q = z.acqU q := by
    rw [armed]
    exact Kv.when_keeps (Kv.acqU · q) _ rfl _
  refine ⟨?_, fun q hq hen => ?_, fun yes => ?_⟩
  · have apart : Kv.ACQ_ARM.ATICK.key 0 0 ≠ Kv.ACQ_CTRL.NARM.key 0 0 := by decide
    rw [armed, ← atick]
    exact Kv.when_keeps (Kv.rd · Kv.ACQ_ARM.ATICK) (f := fun s => { (s.wr Kv.ACQ_CTRL.NARM 0) with cellArm := some t }) z
      (z.rd_wr_ne 0 apart) cells
  · rw [units]
    exact armAt_each t _ s (.inl (List.mem_filter.mpr ⟨hq, (en q).trans hen⟩))
  · rw [armed, yes]
    exact ⟨rfl, z.rd_wr_same Kv.ACQ_CTRL.NARM 0 0 0⟩

end

/-! ### A fire by the host (R444) -/

theorem tickAhead_asymm {a b : Nat} (h : tickAhead a b = true) : tickAhead b a = false := by
  obtain ⟨ahead, near⟩ := of_decide_eq_true h
  refine decide_eq_false fun back => ?_
  obtain ⟨ahead', near'⟩ := back
  rw [ticksTo] at ahead near ahead' near'
  omega

/-- The newest of ticks that none of them overtakes. -/
theorem foldl_tickMax {z : Nat} (l : List Nat) (a : Nat) (mem : z ∈ a :: l) (newest : ∀ w ∈ a :: l, w = z ∨ tickAhead w z = true) :
    l.foldl tickMax a = z := by
  induction l generalizing a with
  | nil => exact (List.mem_singleton.mp mem).symm
  | cons b l ih =>
    refine ih _ ?_ fun w hw => ?_
    · by_cases first : a = z
      · rcases newest b (by simp) with rfl | behind
        · simp [tickMax, first]
        · simp [tickMax, first, tickAhead_asymm behind]
      · have behind : tickAhead a z = true := (newest a List.mem_cons_self).resolve_left first
        rcases List.mem_cons.mp ((List.mem_cons.mp mem).resolve_left (Ne.symm first)) with rfl | later
        · simp [tickMax, behind]
        · exact List.mem_cons_of_mem _ later
    · rcases List.mem_cons.mp hw with rfl | hw
      · rw [tickMax]
        split
        · exact newest b (by simp)
        · exact newest a List.mem_cons_self
      · exact newest w (by simp [hw])

/-- A fire of the group for the newest row written. -/
theorem acqArmFireKv_newest {k : Kv} {z : Nat}
    (mem : z ∈ k.acqMembers.flatMap (fun q => ((k.acqU q).rows.filter (fun r => !r.gap)).map (·.tick)))
    (newest : ∀ w ∈ k.acqMembers.flatMap (fun q => ((k.acqU q).rows.filter (fun r => !r.gap)).map (·.tick)), w = z ∨ tickAhead w z = true) :
    acqArmFireKv k = k.acqFire (fun _ => true) z 0 := by
  unfold acqArmFireKv
  split
  case h_1 none_ => exact absurd mem (none_ ▸ List.not_mem_nil)
  case h_2 t l some_ =>
    rw [some_] at mem newest
    rw [foldl_tickMax l t mem newest]

theorem acqArmFireKv_none {k : Kv} (none_ : k.acqMembers.flatMap (fun q => ((k.acqU q).rows.filter (fun r => !r.gap)).map (·.tick)) = []) :
    acqArmFireKv k = k := by
  unfold acqArmFireKv
  rw [none_]

/-! ### The statement -/

/-- Settles O53: each clause is what its operation comes to; a row's place is that of `acqRowGatherKv_post`. -/
theorem acquisitionUnitCommands : Obligations.Acquisition_unit_commands := by
  intro s c at_ cells n v f p x h live k u t goes off st d ms
  have goesBy {j : Instr} {f : Kv → Kv} {y : Kv} (named : exec j s = .next (s.onKv c f)) (does : f k = y) : goes j y :=
    exec_live live named does
  refine ⟨fun off_ => goesBy rfl ?enable, ⟨fun rests => goesBy rfl ?idle, fun en runs => goesBy rfl ?running⟩,
    fun low high master rest => ⟨_, goesBy rfl rfl, acqArmGoKv_arms at_.isLt cells low high master rest⟩,
    fun early => goesBy rfl (acqArmGoKv_early at_.isLt cells early), ⟨fun z mem newest => goesBy rfl (acqArmFireKv_newest mem newest),
      fun none_ => goesBy rfl (acqArmFireKv_none none_)⟩,
    fun notDue => ⟨goesBy rfl (if_pos (by rw [notDue]; rfl)), goesBy rfl (if_pos (by rw [notDue]; rfl))⟩,
    fun due whole => ⟨fun st placed plain => ⟨_, goesBy rfl rfl, acqRowGatherKv_post n.isLt due whole st placed plain⟩, goesBy rfl ?missed⟩,
    fun g l due gap later => goesBy rfl ?wider, fun up fires valid => goesBy rfl (if_pos (by rw [up, fires, valid]; rfl)),
    fun up valid plain other => ⟨fun fire => goesBy rfl (if_pos (by rw [up, valid, plain, other, fire]; rfl)), fun arm cross free => goesBy rfl ?cross⟩,
    fun post placed full => goesBy rfl (if_pos ⟨post, by rw [placed]; rfl, full⟩)⟩
  case enable =>
    unfold acqEnableKv
    dsimp only
    rw [if_neg (by rw [off_]; decide)]
    rfl
  case idle =>
    have not_ : ¬ (k.on Kv.ACQn_CFG.EN u && (st == 1 || st == 2)) = true := by
      rcases rests with h | ⟨h1, h2⟩
      · rw [h]
        exact Bool.false_ne_true
      · simp [h1, h2]
    exact if_neg not_
  case running =>
    have runs' : (k.on Kv.ACQn_CFG.EN u && (st == 1 || st == 2)) = true := by
      rw [en, Bool.true_and]
      simpa using runs
    exact if_pos runs'
  case missed =>
    unfold acqRowMissedKv
    rw [if_neg (by rw [due]; decide)]
    dsimp only
    rw [whole]
  case wider =>
    unfold acqRowMissedKv
    rw [if_neg (by rw [due]; decide)]
    dsimp only
    rw [gap]
    dsimp only
    rw [tickPlus, later]
    rfl
  case cross =>
    refine if_pos ?_
    have all : (ms.all fun q => k.rd Kv.ACQn_STAT.STATE q == 0 || k.rd Kv.ACQn_STAT.STATE q == 3) = true :=
      List.all_eq_true.mpr fun q hq => by simpa using free q hq
    rw [up, valid, plain, other, arm, cross, all]
    rfl

end Sys2Proof.Machine
end

section
/-! Ethernet frames and network time, and the statement on them (R504 to R512). -/

namespace Sys2Proof.Machine

/-! ### Rings and buffers (R505) -/

section
variable {k : Kv} {a len : Nat} (hl : 0 < len) (off : Nat) (f g : Kv → Kv)

include hl in
theorem ethAccess_outside (outside : k.dramSize ≤ a + len - 1) : k.ethAccess a len off f g = g (k.raise Src.REGACC 18 off) :=
  if_pos ⟨hl.ne', decide_eq_false (not_lt.mpr outside)⟩

theorem ethAccess_readable (inside : a + len - 1 < k.dramSize) (sound : k.badWords a len = []) : k.ethAccess a len off f g = f k := by
  have inDram : ¬ (len ≠ 0 ∧ k.inDram (a + len - 1) = false) := fun h =>
    Bool.false_ne_true (h.2.symm.trans (decide_eq_true inside))
  exact (if_neg inDram).trans (if_pos (by rw [sound]; rfl))

end

/-! ### A frame comes in (R504, R505) -/

/-- The byte at a place of a frame, and its type. -/
def frameByte (frame : List Byte) (i : Nat) : Nat := ((frame[i]?).getD 0).toNat
def frameType (frame : List Byte) : Nat := frameByte frame 12 * 256 + frameByte frame 13

/-- The frame's destination is the port, everyone, or a group that the port takes. -/
def Kv.ethMine (k : Kv) (u : Nat) (frame : List Byte) : Prop :=
  ofBe ((List.range 6).map (frameByte frame)) = k.ethMac u ∨ ofBe ((List.range 6).map (frameByte frame)) = 2 ^ 48 - 1 ∨
    (bit (frameByte frame 0) 0 = true ∧ k.on Kv.ETHn_CFG.MCAST u = true)

theorem ethMine_iff (k : Kv) (u : Nat) (frame : List Byte) :
    (ofBe ((List.range 6).map (frameByte frame)) == k.ethMac u || ofBe ((List.range 6).map (frameByte frame)) == 2 ^ 48 - 1 ||
      (bit (frameByte frame 0) 0 && k.on Kv.ETHn_CFG.MCAST u)) = true ↔ k.ethMine u frame := by
  simp only [Kv.ethMine, Bool.or_eq_true, Bool.and_eq_true, beq_iff_eq, or_assoc]

section
variable {k : Kv} {u : Nat} {frame : List Byte} {fcs : Bool} (en : k.on Kv.ETHn_CFG.EN u = true)
include en

theorem eth_enabled : ¬ (!k.on Kv.ETHn_CFG.EN u) = true := by rw [en]; decide

theorem ethFrameReceivedKv_ptp (ptp : frameType frame = 0x88F7) : ethFrameReceivedKv u frame fcs k = k :=
  (if_neg (eth_enabled en)).trans (if_pos ptp)

variable (plain : frameType frame ≠ 0x88F7)
include plain

theorem ethFrameReceivedKv_dropped (bad : frame.length < 64 ∨ 1522 < frame.length ∨ fcs = false ∨ ¬ k.ethMine u frame) :
    ethFrameReceivedKv u frame fcs k = k.ethDrop u := by
  refine (if_neg (eth_enabled en)).trans ((if_neg plain).trans (if_neg ?_))
  rintro ⟨low, high, right, mine⟩
  rcases bad with h | h | h | h
  · omega
  · omega
  · exact absurd (h.symm.trans right) Bool.false_ne_true
  · exact h ((ethMine_iff k u frame).mp mine)

variable (low : 64 ≤ frame.length) (high : frame.length ≤ 1522) (right : fcs = true) (mine : k.ethMine u frame)
include low high right mine

theorem ethFrameReceivedKv_outside (outside : k.dramSize ≤ k.ethRxd u + 15) : ethFrameReceivedKv u frame fcs k =
    (k.raise Src.REGACC 18 (Kv.ETHn_RXB.BASE.addr u 0)).ethDrop u :=
  (if_neg (eth_enabled en)).trans ((if_neg plain).trans ((if_pos ⟨low, high, right, (ethMine_iff k u frame).mpr mine⟩).trans
    (ethAccess_outside (by decide) _ _ _ outside)))

variable (inside : k.ethRxd u + 15 < k.dramSize) (sound : k.badWords (k.ethRxd u) 16 = [])
include inside sound

theorem ethFrameReceivedKv_full (full : bit (k.rdLe (k.ethRxd u + 4) 4) 31 = false) : ethFrameReceivedKv u frame fcs k = k.ethDrop u := by
  refine (if_neg (eth_enabled en)).trans ((if_neg plain).trans ((if_pos ⟨low, high, right, (ethMine_iff k u frame).mpr mine⟩).trans
    ((ethAccess_readable _ _ _ inside sound).trans (if_pos ?_))))
  rw [full]
  rfl

theorem ethFrameReceivedKv_taken (own : bit (k.rdLe (k.ethRxd u + 4) 4) 31 = true) (fits : 8 * k.rdLe (k.ethRxd u) 4 + 1522 < k.dramSize) :
    let p := k.storeBytes (8 * k.rdLe (k.ethRxd u) 4) frame
    let y := (p.storeLe (k.ethRxd u + 12) ((16 * p.nowNs + 2 ^ 36 - p.rd Kv.ETHn_LAT.RXL u) / 16 % 2 ^ 32) 4).storeLe (k.ethRxd u + 4)
      frame.length 4
    let h := y.rd Kv.ETHn_HEAD.RXH u + 1
    ethFrameReceivedKv u frame fcs k = y.wr Kv.ETHn_HEAD.RXH (if y.rd Kv.ETHn_RSZ.RXN u ≤ h then 0 else h) u := by
  have owned : ¬ (!bit (k.rdLe (k.ethRxd u + 4) 4) 31) = true := by rw [own]; decide
  have reached : ¬ (!k.inDram (8 * k.rdLe (k.ethRxd u) 4 + frame.length - 1)) = true := by
    rw [Kv.inDram, decide_eq_true (by omega)]
    decide
  exact (if_neg (eth_enabled en)).trans ((if_neg plain).trans ((if_pos ⟨low, high, right, (ethMine_iff k u frame).mpr mine⟩).trans
    ((ethAccess_readable _ _ _ inside sound).trans ((if_neg owned).trans (if_neg reached)))))

end

/-! ### A frame goes out (R505, R506) -/

section
variable {k : Kv} {u : Nat}

theorem ethReady_idle (idle : ¬ (k.on Kv.ETHn_CFG.EN u = true ∧ k.on Kv.ETHn_CFG.LINK u = true)) (f : Kv → Kv) : k.ethReady u f = k :=
  if_neg fun h => idle (Bool.and_eq_true_iff.mp h)

variable (inside : k.ethTxd u + 15 < k.dramSize) (sound : k.badWords (k.ethTxd u) 16 = [])
include inside sound

theorem ethReady_empty (empty : bit (k.rdLe (k.ethTxd u + 4) 4) 31 = false) (f : Kv → Kv) : k.ethReady u f = k := by
  unfold Kv.ethReady
  split
  · rw [ethAccess_readable _ _ _ inside sound, empty]
    rfl
  · rfl

variable (serves : k.on Kv.ETHn_CFG.EN u = true ∧ k.on Kv.ETHn_CFG.LINK u = true) (own : bit (k.rdLe (k.ethTxd u + 4) 4) 31 = true)
include serves own

theorem ethReady_owned (f : Kv → Kv) : k.ethReady u f = f k := by
  rw [Kv.ethReady, serves.1, serves.2, Bool.and_true, if_pos rfl, ethAccess_readable _ _ _ inside sound, own]
  rfl

theorem ethTxDescriptorKv_now (now : bit (k.rdLe (k.ethTxd u + 4) 4) 30 = false) : ethTxDescriptorKv u k = k.ethSend u (k.txStamp u) :=
  (ethReady_owned inside sound serves own _).trans (if_neg (by rw [now]; decide))

theorem ethTxDescriptorKv_waits (timed : bit (k.rdLe (k.ethTxd u + 4) 4) 30 = true) (ahead : 0 < k.ethAhead u) : ethTxDescriptorKv u k = k :=
  (ethReady_owned inside sound serves own _).trans ((if_pos timed).trans (if_pos ahead))

theorem ethTxDescriptorKv_passed (timed : bit (k.rdLe (k.ethTxd u + 4) 4) 30 = true) (passed : k.ethAhead u ≤ 0) :
    ethTxDescriptorKv u k = k.ethPassed u (k.ethAhead u) :=
  (ethReady_owned inside sound serves own _).trans ((if_pos timed).trans (if_neg (not_lt.mpr passed)))

theorem ethTimedLaunchKv_passed (timed : bit (k.rdLe (k.ethTxd u + 4) 4) 30 = true) (passed : k.ethAhead u ≤ 0) :
    ethTimedLaunchKv u k = k.ethPassed u (k.ethAhead u) :=
  (ethReady_owned inside sound serves own _).trans ((if_pos timed).trans (if_neg (not_lt.mpr passed)))

/-- A timed frame leaves at LT, within 4 ns (R506). -/
theorem ethTimedLaunchKv_ahead (timed : bit (k.rdLe (k.ethTxd u + 4) 4) 30 = true) (ahead : 0 < k.ethAhead u) :
    ∃ err : Int, -4 ≤ err ∧ err ≤ 4 ∧
      ethTimedLaunchKv u k = Kv.ethSend { k with free := k.free + 1 } u (toBits 32 ((k.rdLe (k.ethTxd u + 8) 4 : Int) + err)) := by
  refine ⟨((Config.unstated k.free % 9 : Nat) : Int) - 4, by omega, by omega, ?_⟩
  rw [← Int.add_sub_assoc]
  exact (ethReady_owned inside sound serves own _).trans ((if_pos timed).trans (if_pos ahead))

end

/-! ### Network time (R508 to R512) -/

section
variable {k : Kv} {u : Nat} (en : k.on Kv.ETH_PTP.EN = true) (port : k.rd Kv.ETH_PTP.PORT = u)
include en port

theorem ptp_listens : ¬ (!k.ptpOn u || k.rd Kv.ETH_PTP.DOM != (BitVec.ofNat 8 (k.rd Kv.ETH_PTP.DOM)).toNat % 256) = true := by
  have dom : (BitVec.ofNat 8 (k.rd Kv.ETH_PTP.DOM)).toNat % 256 = k.rd Kv.ETH_PTP.DOM := by
    have small : k.rd Kv.ETH_PTP.DOM < 256 := Kv.rd_lt ..
    rw [BitVec.toNat_ofNat]
    omega
  rw [dom, Kv.ptpOn, en, port]
  simp

omit en port in
theorem ptpOffset_locked (slave : k.rd Kv.ETH_PTPST.PSTATE = 2) (held : k.on Kv.ETH_PTPST.FREE = false) (ofs : Word) :
    let y := (k.wr Kv.ETH_PTPOFS.OFS ofs.toNat).wr Kv.ETH_PTPST.BIG (if 1000000 < ofs.toInt.natAbs then 1 else 0)
    k.ptpOffset ofs = if y.servoRuns = true ∧ ofs.toInt.natAbs ≤ 1000000 then y.ptpSteer else y := by
  intro y
  have big : b2n (decide (1000000 < ofs.toInt.natAbs)) = if 1000000 < ofs.toInt.natAbs then 1 else 0 := by
    by_cases h : 1000000 < ofs.toInt.natAbs <;> simp [b2n, h]
  have free : y.on Kv.ETH_PTPST.FREE = false :=
    congrArg (· == 1) ((Kv.rd_wr_ne _ _ (by decide)).trans (k.rd_wr_ne _ (by decide))) |>.trans held
  have steers : (y.servoRuns && !decide (1000000 < ofs.toInt.natAbs)) = true ↔ y.servoRuns = true ∧ ofs.toInt.natAbs ≤ 1000000 := by simp
  unfold Kv.ptpOffset
  rw [if_neg (not_not.mpr slave)]
  dsimp only
  rw [big, show (k.wr Kv.ETH_PTPOFS.OFS ofs.toNat).wr Kv.ETH_PTPST.BIG (if 1000000 < ofs.toInt.natAbs then 1 else 0) = y from rfl, free,
    Kv.when_false]
  exact if_congr steers rfl rfl

end

/-! ### The statement -/

/-- Settles O56: each clause is what its operation comes to. -/
theorem ethernetAndNetworkTimeCommands : Obligations.Ethernet_and_network_time_commands := by
  intro s c n frame fcs up two ofs live k u goes b type dst mine rx readable serves owned timed passed
  have goesBy {j : Instr} {f : Kv → Kv} {y : Kv} (named : exec j s = .next (s.onKv c f)) (does : f k = y) : goes j y :=
    exec_live live named does
  refine ⟨fun en => ⟨fun ptp => goesBy rfl (ethFrameReceivedKv_ptp en ptp), fun plain bad => goesBy rfl (ethFrameReceivedKv_dropped en plain bad),
      fun plain low high right mine => ⟨fun outside => goesBy rfl (ethFrameReceivedKv_outside en plain low high right mine outside),
        fun reads full => goesBy rfl (ethFrameReceivedKv_full en plain low high right mine reads.1 reads.2 full),
        fun reads own fits => goesBy rfl (ethFrameReceivedKv_taken en plain low high right mine reads.1 reads.2 own fits)⟩⟩,
    ?idle, fun serves reads own => ⟨fun now => goesBy rfl (ethTxDescriptorKv_now reads.1 reads.2 serves own now), ?ahead,
      fun timed over_ => ⟨goesBy rfl (ethTxDescriptorKv_passed reads.1 reads.2 serves own timed over_),
        goesBy rfl (ethTimedLaunchKv_passed reads.1 reads.2 serves own timed over_)⟩⟩, goesBy rfl rfl,
    fun en => ⟨fun cap master fresh_ => goesBy rfl (if_pos (by rw [en, cap, master, fresh_]; rfl)), fun port => ⟨⟨_, goesBy rfl (if_neg (ptp_listens en port))⟩,
      goesBy rfl (if_neg (ptp_listens en port)), goesBy rfl (if_neg (ptp_listens en port)), fun slave held => ?sync⟩,
      fun slave => goesBy rfl (if_pos (by rw [en, slave]; rfl))⟩⟩
  case idle =>
    rintro (still | ⟨reads, empty⟩)
    · exact ⟨goesBy rfl (ethReady_idle still _), goesBy rfl (ethReady_idle still _)⟩
    · exact ⟨goesBy rfl (ethReady_empty reads.1 reads.2 empty _), goesBy rfl (ethReady_empty reads.1 reads.2 empty _)⟩
  case ahead =>
    intro isTimed ahead
    obtain ⟨err, low, high, launched⟩ := ethTimedLaunchKv_ahead reads.1 reads.2 serves own isTimed ahead
    exact ⟨goesBy rfl (ethTxDescriptorKv_waits reads.1 reads.2 serves own isTimed ahead), _, goesBy rfl launched, err, low, high, rfl⟩
  case sync =>
    intro y z
    have offset : k.ptpOffset ofs = z := ptpOffset_locked slave held ofs
    refine ⟨goesBy rfl ((if_neg (ptp_listens en port)).trans offset), goesBy rfl ((if_neg (ptp_listens en port)).trans ?_)⟩
    cases two
    · exact offset
    · rfl

end Sys2Proof.Machine
end

section
/-! Key store commands of a chip and of a module (R544 to R547). -/

namespace Sys2Proof.Machine

/-! ### When a command is permitted -/

section
variable {z : SecSt}

theorem progKey_empty {slot : Nat} (empty : z.prog.testBit slot = false) (hash : Nat) :
    z.progKey 0 slot hash = some { z with keys := Tab.set 0 slot hash z.keys, prog := setBit z.prog slot true } := if_pos ⟨rfl, empty⟩

/-- A slot that was set reads as programmed. -/
theorem testBit_setBit_true (v i : Nat) : (setBit v i true).testBit i = true :=
  (bit_setBit_true v i i).trans (by rw [decide_eq_true rfl, Bool.true_or])

theorem seal_open {imgs : List Nat} (held : z.anyImage imgs = true) : z.seal 0 imgs = some { z with sealNext := true } := if_pos ⟨rfl, held⟩

theorem seal_closed {st : Nat} (closed : st ≠ 0) (imgs : List Nat) : z.seal st imgs = none := if_neg fun h => closed h.1

theorem svup_parked {st : Nat} (may : st = 0 ∨ st = 2) (newer : z.svn ≤ z.imgSvn) : z.svup st true = some { z with svn := z.imgSvn } :=
  if_pos ⟨may, rfl, newer⟩

theorem svup_unparked (st : Nat) : z.svup st false = none := if_neg fun h => Bool.false_ne_true h.2.1

end

/-! ### What a permitted or refused command does (R547) -/

section
variable {k : Kv} {code : BitVec 16}

theorem secCmd_takes {t : SecSt} {f : Option SecSt} (may : f = some t) (sound : k.sec.fault = false) : k.secCmd 0x5E4C#16 f = { k with sec := t } := by
  rw [may]
  exact if_pos ⟨rfl, sound⟩

/-- Without its code, with no change permitted or with a fault in the key store the command is refused for security. -/
theorem secCmd_refuses {f : Option SecSt} (wrong : code ≠ 0x5E4C#16 ∨ f = none ∨ k.sec.fault = true) :
    k.secCmd code f = k.raise Src.REGACC 20 Kv.SEC_CTRL.CODE.base := by
  cases f with
  | none => rfl
  | some t =>
    refine if_neg fun ⟨right, sound⟩ => ?_
    rcases wrong with other | nothing | fault
    · exact other right
    · cases nothing
    · exact Bool.false_ne_true (sound.symm.trans fault)

theorem retireOk_parked (parked : k.parked = true) (mode : k.mode = 0) (standby : k.duty = false) (sound : k.sec.fault = false)
    (may : k.secState = 0 ∨ k.secState = 2) : k.retireOk 0x5E4C#16 = true := by
  rw [Kv.retireOk, parked, mode, standby, sound]
  rcases may with h | h <;> rw [h] <;> rfl

theorem retireKv_unparked (out : k.parked = false) : retireKv code k = k.raise Src.REGACC 20 Kv.SEC_CTRL.CODE.base :=
  if_neg (by rw [Kv.retireOk, out, Bool.and_false]; exact Bool.false_ne_true)

end

section
variable {x : Cell}

theorem Cell.secCmd_takes {t : SecSt} {f : Option SecSt} (running : x.runs = true) (may : f = some t) (sound : x.sec.fault = false) :
    x.secCmd 0x5E4C#16 f = { x with sec := t } := by
  rw [may]
  exact if_pos ⟨running, rfl, sound⟩

theorem svupCell_open (running : x.runs = true) (hopen : x.secState = 0) (sound : x.sec.fault = false) (parked : x.hmode = 0)
    (newer : x.sec.svn ≤ x.sec.imgSvn) :
    svupCell 0x5E4C#16 x = ({ x with sec := { x.sec with svn := x.sec.imgSvn } } : Cell).wr Kc.CC_SEC.SVN x.sec.imgSvn := by
  have may : x.sec.svup x.secState (x.hmode == 0) = some { x.sec with svn := x.sec.imgSvn } := by
    rw [hopen, parked]
    exact svup_parked (.inl rfl) newer
  exact congrArg (fun t : Cell => t.wr Kc.CC_SEC.SVN t.sec.svn) (Cell.secCmd_takes running may sound)

theorem retireCell_open (running : x.runs = true) (hopen : x.secState = 0) (sound : x.sec.fault = false) (parked : x.hmode = 0) :
    retireCell 0x5E4C#16 x = (({ x with sec := x.sec.retire [0, 1, 4] } : Cell).mark Kc.GRD_STAT.LOCK).mainReset 2 :=
  if_pos ⟨running, rfl, parked, by rw [hopen]; decide, sound, .inl (by rw [hopen]; decide)⟩

/-- The key slots of a module are 0, 1 and 4. -/
theorem cellSlot_of {slot : BitVec 3} (exists_ : slot = 0 ∨ slot = 1 ∨ slot = 4) : cellSlot slot.toNat = true := by
  rcases exists_ with rfl | rfl | rfl <;> rfl

/-- A module checks its other bank (R551). -/
theorem ccBootChkCell_runs (running : x.runs = true) (live : x.secState ≠ 3) (i : ImgChk) : ccBootChkCell i x =
    if x.sec.imagePasses x.secState [0, 1] i = true then x.wr Kc.CC_BOOT.CRES 2 else (x.wr Kc.CC_BOOT.CRES 3).event Ev.SEC :=
  if_neg fun h => h.elim (by rw [running]; decide) live

/-- The bank that a module may start from next: the one that runs, or the other once it is checked (R551). -/
theorem ccBootSelWriteCell_taken (running : x.runs = true) (live : x.secState ≠ 3) {v : Nat}
    (may : v % 2 = x.rd Kc.CC_BOOT.RUN ∨ x.rd Kc.CC_BOOT.CRES = 2) (other : v % 2 ≠ x.rd Kc.CC_BOOT.SEL) :
    ccBootSelWriteCell v x = x.wr Kc.CC_BOOT.SEL (v % 2) := by
  unfold ccBootSelWriteCell Cell.writeSel
  rw [if_pos running]
  simp only [if_neg other]
  rw [if_neg fun h => h.elim live fun unchecked => may.elim unchecked.1 unchecked.2]

theorem ccBootSelWriteCell_unchecked (running : x.runs = true) {v : Nat} (other : v % 2 ≠ x.rd Kc.CC_BOOT.RUN)
    (unchecked : x.rd Kc.CC_BOOT.CRES ≠ 2) : ccBootSelWriteCell v x = x := by
  unfold ccBootSelWriteCell Cell.writeSel
  rw [if_pos running]
  dsimp only
  split
  · rfl
  · rw [if_pos (.inr ⟨other, unchecked⟩)]

end

end Sys2Proof.Machine
end

section
/-! Debug sessions and halts of a chip and of a module (R552 to R557), and the statement on key stores and sessions. -/

namespace Sys2Proof.Machine

/-! ### Which path may ask (R554) -/

theorem SecSt.free_iff (z : SecSt) (path : Nat) :
    z.free path = true ↔ (z.holder = 0 ∨ z.holder = path) ∧ (z.verify = none ∨ z.verPath = path) := by
  simp only [SecSt.free, Bool.and_eq_true, Bool.or_eq_true, beq_iff_eq, Option.isNone_iff_eq_none]

theorem SecSt.not_free_eq_true {z : SecSt} {path : Nat}
    (other : ¬ ((z.holder = 0 ∨ z.holder = path) ∧ (z.verify = none ∨ z.verPath = path))) : (!z.free path) = true := by
  rw [Bool.not_eq_true', Bool.eq_false_iff]
  exact fun h => other ((z.free_iff path).mp h)

theorem SecSt.not_free_ne_true {z : SecSt} {path : Nat}
    (mine : (z.holder = 0 ∨ z.holder = path) ∧ (z.verify = none ∨ z.verPath = path)) : ¬ (!z.free path) = true := by
  rw [(z.free_iff path).mpr mine]
  decide

/-! ### A chip's challenge and VERIFY (R553) -/

section
variable {k : Kv} {path : Nat}

/-- Words written in a row of entries of one field read back, where the entries lie apart. -/
theorem Kv.each_wr_rd {W : Fld} (f : Nat → Nat) (apart : ∀ i j, i < W.c1 → j < W.c1 → i ≠ j → W.key i 0 ≠ W.key j 0) {n q : Nat}
    (hn : n ≤ W.c1) (hq : q < n) (s : Kv) : (s.each (List.range n) fun t i => t.wr W (f i) i).rd W q = f q % 2 ^ W.w := by
  induction n with
  | zero => exact absurd hq (Nat.not_lt_zero q)
  | succ n ih =>
    rw [Kv.each, List.range_succ, List.foldl_append]
    by_cases last : q = n
    · rw [last]
      exact Kv.rd_wr_same ..
    · exact (Kv.rd_wr_ne _ _ (apart q n (by omega) (by omega) last)).trans (ih (by omega) (by omega))

theorem debugChalKv_other (other : ¬ ((k.sec.holder = 0 ∨ k.sec.holder = path) ∧ (k.sec.verify = none ∨ k.sec.verPath = path))) :
    debugChalKv path k = k.wr Kv.DBG_STAT.RES 6 := if_pos (SecSt.not_free_eq_true other)

section
variable (mine : (k.sec.holder = 0 ∨ k.sec.holder = path) ∧ (k.sec.verify = none ∨ k.sec.verPath = path))
include mine

/-- A challenge shows twelve fresh words, and the part is the requester's. -/
theorem debugChalKv_shows : let y := debugChalKv path k
    y.sec.nonce = true ∧ y.sec.holder = path ∧ y.free = k.free + 12 ∧
      ∀ q : Nat, q < 12 → y.rd Kv.DBG_CHALk.N q = (Config.nonceWord (k.free + q)).toNat := by
  intro y
  have shown : y = { k.each (List.range 12) (fun t i => t.wr Kv.DBG_CHALk.N (Config.nonceWord (k.free + i)).toNat i) with
      free := k.free + 12, sec := k.sec.challenge path } := by
    have keptFree := k.each_keeps (fun t => t.free) (f := fun t i => t.wr Kv.DBG_CHALk.N (Config.nonceWord (k.free + i)).toNat i)
      (fun _ _ => rfl) (List.range 12)
    have keptSec := k.each_keeps (fun t => t.sec) (f := fun t i => t.wr Kv.DBG_CHALk.N (Config.nonceWord (k.free + i)).toNat i)
      (fun _ _ => rfl) (List.range 12)
    refine (if_neg (SecSt.not_free_ne_true mine)).trans ?_
    simp only [keptFree, keptSec]
  rw [shown]
  refine ⟨rfl, rfl, rfl, fun q hq => ?_⟩
  have apart : ∀ i j, i < Kv.DBG_CHALk.N.c1 → j < Kv.DBG_CHALk.N.c1 → i ≠ j → Kv.DBG_CHALk.N.key i 0 ≠ Kv.DBG_CHALk.N.key j 0 := by
    intro i j hi hj hij
    simp only [Fld.key, Fld.addr, Kv.DBG_CHALk.N] at hi hj ⊢
    omega
  exact (k.each_wr_rd (fun i => (Config.nonceWord (k.free + i)).toNat) apart (Nat.le_refl 12) hq).trans
    (Nat.mod_eq_of_lt (Config.nonceWord (k.free + q)).isLt)

section
variable (quiet : k.sec.verify = none) {level : BitVec 2} (known : level = 1 ∨ level = 2) (svc : Bool) (dslot : BitVec 1)
include quiet known

/-- The request as its fields hold it. -/
theorem debugVerifyKv_known : debugVerifyKv path level.toNat svc dslot.toNat k =
    let y := ((k.wr Kv.DBG_REQ.LEVEL level.toNat).wr Kv.DBG_REQ.SVC (if svc then 1 else 0)).wr Kv.DBG_REQ.DSLOT dslot.toNat
    if k.sec.lockout = true then y.wr Kv.DBG_STAT.RES 5
    else { y with sec := { k.sec with verPath := path, verify := some (level.toNat, svc, dslot.toNat) } } := by
  have okL : level.toNat = 1 ∨ level.toNat = 2 := by rcases known with rfl | rfl <;> decide
  have level' : (((k.wr Kv.DBG_REQ.LEVEL level.toNat).wr Kv.DBG_REQ.SVC (b2n svc)).wr Kv.DBG_REQ.DSLOT dslot.toNat).rd
      Kv.DBG_REQ.LEVEL = level.toNat := by
    rw [Kv.rd_wr_ne _ _ (by decide), Kv.rd_wr_ne _ _ (by decide), Kv.rd_wr_same]
    exact Nat.mod_eq_of_lt level.isLt
  have slot : dslot.toNat % 2 = dslot.toNat := Nat.mod_eq_of_lt dslot.isLt
  have runs : ¬ ((!k.sec.free path) = true ∨ k.sec.verify.isSome = true) := by
    rintro (h | h)
    · exact SecSt.not_free_ne_true mine h
    · rw [quiet] at h
      exact Bool.false_ne_true h
  unfold debugVerifyKv
  simp only [if_pos okL]
  refine (if_neg runs).trans ?_
  rw [level', slot]
  rfl

end

end

/-- A session as it is opened: its path holds the part. -/
def Kv.sessioned (k : Kv) (l st : Nat) (v : Bool) : Kv :=
  { ((((k.wr Kv.DBG_STAT.RES 0).wr Kv.DBG_STAT.LEVEL l).wr Kv.DBG_STAT.SVC (b2n v)).wr Kv.DBG_STAT.PATH k.sec.verPath).wr Kv.SEC_STAT.STATE st with
    sec := (k.sec.after true).granted }

theorem sessioned_shows (k : Kv) {l : Nat} (hl : l < 4) (st : Nat) (v : Bool) : let y := k.sessioned l st v
    y.rd Kv.DBG_STAT.RES = 0 ∧ y.rd Kv.DBG_STAT.LEVEL = l ∧ y.secState = st % 4 ∧ y.sec.fails = 0 ∧ y.sec.holder = k.sec.verPath := by
  intro y
  have reads (F : Fld) : y.rd F = (((((k.wr Kv.DBG_STAT.RES 0).wr Kv.DBG_STAT.LEVEL l).wr Kv.DBG_STAT.SVC (b2n v)).wr Kv.DBG_STAT.PATH
      k.sec.verPath).wr Kv.SEC_STAT.STATE st).rd F := rfl
  refine ⟨(reads _).trans ?_, (reads _).trans ?_, Kv.rd_wr_same _ Kv.SEC_STAT.STATE st 0 0, rfl, rfl⟩
  · simp (disch := decide) only [Kv.rd_wr_ne]
    exact Kv.rd_wr_same ..
  · simp (disch := decide) only [Kv.rd_wr_ne]
    exact (Kv.rd_wr_same ..).trans (Nat.mod_eq_of_lt hl)

theorem judge_lt (z : SecSt) (st slot : Nat) (hash : BitVec 384) (sig : Bool) : z.judge st slot hash sig < 8 := by
  unfold SecSt.judge
  split_ifs <;> decide

section
variable {l d : Nat} {v : Bool} (asked : k.sec.verify = some (l, v, d)) (hash : BitVec 384) (sig : Bool)
include asked

/-- A VERIFY that fails: its result, the failures counted, and the fault (R553). -/
theorem debugVerifyDoneKv_fails (fails : k.sec.judge k.secState (4 + d) hash sig ≠ 0) : debugVerifyDoneKv hash sig k =
    Kv.raise (Kv.count (({ k with sec := k.sec.after false } : Kv).wr Kv.DBG_STAT.RES (k.sec.judge k.secState (4 + d) hash sig))
      Kv.SEC_STAT.AFAIL Kv.SEC_STAT.SAT Src.SEC_AUTH) Src.SEC_AUTH 0 0 := by
  unfold debugVerifyDoneKv
  rw [asked]
  exact if_pos fails

/-- A VERIFY that passes opens the session that the tables permit. -/
theorem debugVerifyDoneKv_passes (passes : k.sec.judge k.secState (4 + d) hash sig = 0) : debugVerifyDoneKv hash sig k =
    if k.dbgPermits (judgedState k.secState v) l = true then (k.sessioned l (judgedState k.secState v) v).raise Src.DBG_SESS 0 0
    else ({ k with sec := k.sec.after true } : Kv).wr Kv.DBG_STAT.RES 4 := by
  unfold debugVerifyDoneKv
  rw [asked]
  exact if_neg (not_not_intro passes)

end

/-! ### The end of a chip's session (R555) -/

theorem debugCloseKv_other (other : ¬ ((k.sec.holder = 0 ∨ k.sec.holder = path) ∧ (k.sec.verify = none ∨ k.sec.verPath = path))) :
    debugCloseKv path k = k.wr Kv.DBG_STAT.RES 6 := if_pos (SecSt.not_free_eq_true other)

theorem debugCloseKv_open (mine : (k.sec.holder = 0 ∨ k.sec.holder = path) ∧ (k.sec.verify = none ∨ k.sec.verPath = path))
    (session : k.rd Kv.DBG_STAT.LEVEL ≠ 0) : debugCloseKv path k = k.endSession :=
  (if_neg (SecSt.not_free_ne_true mine)).trans (if_neg session)

/-- Cores resume, where no T0 waits to be ended on one of them. -/
theorem resume_of_not_killWait (calm : k.dsp.killWait = false) (mask : Nat) : k.resume mask = k.wr Kv.DBG_STAT.HALTED
    ((List.range 16).foldl (fun v n => if bit mask n then setBit v n false else v) (k.rd Kv.DBG_STAT.HALTED)) := by
  have still (b : Bool) : ¬ (k.dsp.killWait && b) = true := by rw [calm]; exact Bool.false_ne_true
  exact if_neg (still _)

/-- The bits of a number below `n` that a mask clears. -/
theorem bit_foldl_clear (mask n v j : Nat) :
    bit ((List.range n).foldl (fun v i => if bit mask i then setBit v i false else v) v) j = (!(decide (j < n) && bit mask j) && bit v j) := by
  induction n with
  | zero => simp
  | succ n ih =>
    rw [List.range_succ, List.foldl_append, List.foldl_cons, List.foldl_nil]
    cases hm : bit mask n with
    | false =>
      rw [if_neg Bool.false_ne_true, ih]
      by_cases last : j = n
      · rw [last, hm, Bool.and_false, Bool.and_false]
      · rw [show decide (j < n + 1) = decide (j < n) from decide_eq_decide.mpr (by omega)]
    | true =>
      rw [if_pos rfl, bit_setBit_false, ih]
      by_cases last : j = n
      · simp [last, hm]
      · rw [decide_eq_true last, Bool.true_and, show decide (j < n + 1) = decide (j < n) from decide_eq_decide.mpr (by omega)]

/-- A mask of all sixteen cores leaves none halted. -/
theorem foldl_clear_all {v : Nat} (hv : v < 2 ^ 16) :
    (List.range 16).foldl (fun v i => if bit 0xFFFF i then setBit v i false else v) v = 0 := by
  refine Nat.eq_of_testBit_eq fun j => (bit_foldl_clear 0xFFFF 16 v j).trans ?_
  rw [Nat.zero_testBit]
  by_cases hj : j < 16
  · have set : bit 0xFFFF j = true := by
      have all : ∀ i, i < 16 → bit 0xFFFF i = true := by decide
      exact all j hj
    rw [decide_eq_true hj, set]
    rfl
  · rw [bit, bit, Nat.testBit_lt_two_pow (x := v) (Nat.lt_of_lt_of_le hv (Nat.pow_le_pow_right (by decide) (by omega))), Bool.and_false]

theorem resume_all (calm : k.dsp.killWait = false) : k.resume 0xFFFF = k.wr Kv.DBG_STAT.HALTED 0 := by
  rw [resume_of_not_killWait calm, foldl_clear_all (k.rd_lt Kv.DBG_STAT.HALTED 0 0)]

/-- The chip with its session's fields cleared. -/
def Kv.unsessioned (k : Kv) : Kv :=
  (((k.wr Kv.DBG_STAT.HALTED 0).wr Kv.DBG_STAT.LEVEL 0).wr Kv.DBG_STAT.SVC 0).wr Kv.DBG_STAT.PATH 0

theorem unsessioned_secState (k : Kv) : k.unsessioned.secState = k.secState := by
  simp (disch := decide) only [Kv.unsessioned, Kv.secState, Kv.rd_wr_ne]

section
variable (calm : k.dsp.killWait = false)
include calm

theorem endSession_sec : k.endSession.sec = { k.sec with holder := 0, verify := none, nonce := false } := by
  have keptSec := k.unsessioned.when_keeps (fun s => s.sec) (f := fun s => s.wr Kv.SEC_STAT.STATE 1) rfl (k.unsessioned.secState == 2)
  unfold Kv.endSession
  rw [resume_all calm]
  exact congrArg (fun z : SecSt => { z with holder := 0, verify := none, nonce := false }) keptSec

theorem endSession_rd (F : Fld) :
    k.endSession.rd F = (k.unsessioned.when (k.secState == 2) (fun s => s.wr Kv.SEC_STAT.STATE 1)).rd F := by
  rw [← unsessioned_secState k]
  unfold Kv.endSession
  rw [resume_all calm]
  rfl

theorem endSession_rd_ne {F : Fld} (apart : F.key 0 0 ≠ Kv.SEC_STAT.STATE.key 0 0) : k.endSession.rd F = k.unsessioned.rd F :=
  (endSession_rd calm F).trans
    (k.unsessioned.when_keeps (fun s => s.rd F) (f := fun s => s.wr Kv.SEC_STAT.STATE 1) (Kv.rd_wr_ne _ _ apart) _)

/-- After the end no session, no halt, no request and no SERVICE is left. -/
theorem endSession_shows : let y := k.endSession
    y.rd Kv.DBG_STAT.LEVEL = 0 ∧ y.rd Kv.DBG_STAT.HALTED = 0 ∧ (y.sec.holder = 0 ∧ y.sec.verify = none ∧ y.sec.nonce = false) ∧
      y.secState = if k.secState = 2 then 1 else k.secState := by
  refine ⟨(endSession_rd_ne calm (by decide)).trans ?_, (endSession_rd_ne calm (by decide)).trans ?_, by rw [endSession_sec calm]; exact ⟨rfl, rfl, rfl⟩,
    (endSession_rd calm _).trans ?_⟩
  · simp (disch := decide) only [Kv.unsessioned, Kv.rd_wr_ne]
    exact Kv.rd_wr_same ..
  · simp (disch := decide) only [Kv.unsessioned, Kv.rd_wr_ne]
    exact Kv.rd_wr_same ..
  · by_cases service : k.secState = 2
    · rw [service]
      exact Kv.rd_wr_same _ Kv.SEC_STAT.STATE 1 0 0
    · rw [if_neg service, beq_eq_false_iff_ne.mpr service]
      exact unsessioned_secState k

end

/-! ### Cores of a chip (R556) -/

theorem coreCmd_other (other : ¬ ((k.sec.holder = 0 ∨ k.sec.holder = path) ∧ (k.sec.verify = none ∨ k.sec.verPath = path))) (mask : Nat)
    (f : Kv → Kv) : k.coreCmd path mask f = (k.wr Kv.DBG_CORE.CMASK mask).wr Kv.DBG_STAT.RES 6 := if_pos (SecSt.not_free_eq_true other)

section
variable (mine : (k.sec.holder = 0 ∨ k.sec.holder = path) ∧ (k.sec.verify = none ∨ k.sec.verPath = path)) (mask : Nat) (f : Kv → Kv)
include mine

theorem coreCmd_halting (halting : k.rd Kv.DBG_STAT.LEVEL = 2) : k.coreCmd path mask f = f (k.wr Kv.DBG_CORE.CMASK mask) :=
  (if_neg (SecSt.not_free_ne_true mine)).trans (if_neg (not_not_intro ((Kv.rd_wr_ne _ _ (by decide)).trans halting)))

theorem coreCmd_low (low : k.rd Kv.DBG_STAT.LEVEL ≠ 2) :
    k.coreCmd path mask f = (k.wr Kv.DBG_CORE.CMASK mask).raise Src.REGACC 20 Kv.DBG_CORE.CMD.base :=
  (if_neg (SecSt.not_free_ne_true mine)).trans (if_pos fun h => low ((Kv.rd_wr_ne _ _ (by decide)).symm.trans h))

end

end

/-! ### A module's requests (R553, R557) -/

section
variable {x : Cell} {path : Nat} (running : x.runs = true)
include running

theorem debugChalCell_other (other : ¬ ((x.sec.holder = 0 ∨ x.sec.holder = path) ∧ (x.sec.verify = none ∨ x.sec.verPath = path))) :
    debugChalCell path x = (x.wr Kc.CC_DSTAT.RES 6).event Ev.SEC :=
  (Cell.ite_not_runs_of_running running _).trans (if_pos (SecSt.not_free_eq_true other))

theorem debugCloseCell_other (other : ¬ ((x.sec.holder = 0 ∨ x.sec.holder = path) ∧ (x.sec.verify = none ∨ x.sec.verPath = path))) :
    debugCloseCell path x = (x.wr Kc.CC_DSTAT.RES 6).event Ev.SEC :=
  (Cell.ite_not_runs_of_running running _).trans (if_pos (SecSt.not_free_eq_true other))

theorem Cell.coreCmd_other (other : ¬ ((x.sec.holder = 0 ∨ x.sec.holder = path) ∧ (x.sec.verify = none ∨ x.sec.verPath = path)))
    (f : Cell → Cell) : x.coreCmd path f = (x.wr Kc.CC_DSTAT.RES 6).event Ev.SEC :=
  (Cell.ite_not_runs_of_running running _).trans (if_pos (SecSt.not_free_eq_true other))

variable (mine : (x.sec.holder = 0 ∨ x.sec.holder = path) ∧ (x.sec.verify = none ∨ x.sec.verPath = path))
include mine

theorem debugChalCell_shows : (debugChalCell path x).sec.nonce = true ∧ (debugChalCell path x).sec.holder = path := by
  rw [show debugChalCell path x = _ from (Cell.ite_not_runs_of_running running _).trans (if_neg (SecSt.not_free_ne_true mine))]
  exact ⟨rfl, rfl⟩

theorem Cell.coreCmd_halting (halting : x.rd Kc.CC_DSTAT.LEVEL = 2) (f : Cell → Cell) : x.coreCmd path f = f x :=
  (Cell.ite_not_runs_of_running running _).trans ((if_neg (SecSt.not_free_ne_true mine)).trans (if_neg (not_not_intro halting)))

theorem Cell.coreCmd_low (low : x.rd Kc.CC_DSTAT.LEVEL ≠ 2) (f : Cell → Cell) : x.coreCmd path f = x.event Ev.SEC :=
  (Cell.ite_not_runs_of_running running _).trans ((if_neg (SecSt.not_free_ne_true mine)).trans (if_pos low))

/-- Outside OPEN and RETIRED a module parks before it halts. -/
theorem cellHaltCell_parks (halting : x.rd Kc.CC_DSTAT.LEVEL = 2) (state : x.secState = 1 ∨ x.secState = 2) :
    cellHaltCell path x = { x with haltReq := true, haltPark := true } :=
  (Cell.coreCmd_halting running mine halting _).trans
    ((if_neg (by rcases state with h | h <;> simp [h])).trans (if_neg (by rcases state with h | h <;> simp [h])))

end

end Sys2Proof.Machine
end

section
/-! The statement on key stores, debug sessions and boot banks (R543 to R562). -/

namespace Sys2Proof.Machine

/-- Settles O59: each command comes to the clause that its state selects. -/
theorem keyStoreAndDebugSessions : Obligations.Key_store_and_debug_sessions := by
  intro s c a p slot code mask probe svc sig level dslot hash w i live k x path kv kc good refused mine mineX ended
  have kvBy {j : Instr} {g : Kv → Kv} {y : Kv} (named : exec j s = .next (s.onKv c g)) (does : g k = y) : kv j y := exec_live live named does
  have kcBy {j : Instr} {g : Cell → Cell} {y : Cell} (named : exec j s = .next (s.onCell a g)) (does : g x = y) : kc j y := exec_cell named does
  refine ⟨fun hslot => ?slots, fun hopen held sound => ?sealing, fun closed => ?sealed, fun may parked newer sound => ?svup, fun out => ?unparked,
    fun parked mode standby sound may => ?retire, fun running hopen sound => ?cell, fun other => ?others, fun mine => ?chal,
    fun mine quiet known => ?verify, fun l v d asked hl => ?done, fun mine session _ calm => ?close, kvBy rfl rfl, kcBy rfl rfl,
    fun none_ => kvBy rfl ?expiry, fun some_ => kcBy rfl ?cellExpiry, fun mine halting => ?halting, fun mine low => ?low,
    fun running other => ?cellOthers, fun running mine => ?cellMine, fun running alive => ?boot⟩
  case slots =>
    intro t r
    have exists_ : ¬ 6 ≤ slot.toNat := by omega
    have prog (code : BitVec 16) : keyProgKv slot.toNat code k = k.secCmd code t := if_neg exists_
    have revoke (code : BitVec 16) : keyRevokeKv slot.toNat code k = k.secCmd code r := if_neg exists_
    refine ⟨fun hopen empty sound => ?_, fun wrong => kvBy rfl ((prog _).trans (secCmd_refuses wrong)),
      fun y may sound => kvBy rfl ((revoke _).trans (secCmd_takes may sound)), fun none_ => kvBy rfl ((revoke _).trans (secCmd_refuses (.inr (.inl none_))))⟩
    have may : t = _ := (congrArg (fun z => k.sec.progKey z slot.toNat _) hopen).trans (progKey_empty empty _)
    exact ⟨_, may, testBit_setBit_true .., kvBy rfl ((prog _).trans (secCmd_takes may sound))⟩
  case sealing =>
    exact kvBy rfl (secCmd_takes ((congrArg (fun z => k.sec.seal z [0, 1, 2, 3]) hopen).trans (seal_open held)) sound)
  case sealed => exact kvBy rfl (secCmd_refuses (.inr (.inl (seal_closed closed _))))
  case svup =>
    exact kvBy rfl (secCmd_takes ((congrArg (k.sec.svup k.secState) parked).trans (svup_parked may newer)) sound)
  case unparked =>
    exact ⟨kvBy rfl (secCmd_refuses (.inr (.inl ((congrArg (k.sec.svup k.secState) out).trans (svup_unparked _))))), kvBy rfl (retireKv_unparked out)⟩
  case retire => exact kvBy rfl (if_pos (retireOk_parked parked mode standby sound may))
  case cell =>
    refine ⟨fun exists_ y may => ?_, fun exists_ y may => ?_, fun held => ?_, fun parked newer => kcBy rfl (svupCell_open running hopen sound parked newer),
      fun parked => kcBy rfl (retireCell_open running hopen sound parked)⟩
    · exact kcBy rfl ((if_pos (cellSlot_of exists_)).trans
        (Cell.secCmd_takes running ((congrArg (fun z => x.sec.progKey z slot.toNat x.keyData) hopen).trans may) sound))
    · exact kcBy rfl ((if_pos (cellSlot_of exists_)).trans
        (Cell.secCmd_takes running ((congrArg (fun z => x.sec.revoke z [0, 1] slot.toNat) hopen).trans may) sound))
    · exact kcBy rfl (Cell.secCmd_takes running ((congrArg (fun z => x.sec.seal z [0, 1]) hopen).trans (seal_open held)) sound)
  case others => exact ⟨kvBy rfl (debugChalKv_other other), kvBy rfl (debugCloseKv_other other), kvBy rfl (coreCmd_other other _ _)⟩
  case chal => exact ⟨_, kvBy rfl rfl, debugChalKv_shows mine⟩
  case verify =>
    intro y
    have does := debugVerifyKv_known mine quiet known svc dslot
    exact ⟨fun locked => kvBy rfl (does.trans (if_pos locked)), fun unlocked => kvBy rfl (does.trans (if_neg (by rw [unlocked]; decide)))⟩
  case done =>
    intro r st
    refine ⟨fun fails => ⟨({ k with sec := k.sec.after false } : Kv).wr Kv.DBG_STAT.RES r, kvBy rfl (debugVerifyDoneKv_fails asked hash sig fails),
      (Kv.rd_wr_same ..).trans (Nat.mod_eq_of_lt (judge_lt ..)), rfl, rfl, rfl, fun many => ?_⟩, fun passes barred => ?_, fun passes permits => ?_⟩
    · exact (congrArg (k.sec.lockout || ·) (decide_eq_true many)).trans (Bool.or_true _)
    · refine ⟨_, kvBy rfl ((debugVerifyDoneKv_passes asked hash sig passes).trans (if_neg (by rw [barred]; decide))), Kv.rd_wr_same .., rfl,
        Kv.rd_wr_ne _ _ (by decide)⟩
    · exact ⟨_, kvBy rfl ((debugVerifyDoneKv_passes asked hash sig passes).trans (if_pos permits)), sessioned_shows k hl _ _⟩
  case close =>
    exact ⟨_, kvBy rfl (debugCloseKv_open mine session), kvBy rfl (if_neg session), fun probed => kvBy rfl (if_pos probed), endSession_shows calm⟩
  case expiry => exact congrArg (fun h => { k with sec := { k.sec with nonce := false, holder := h } }) (if_pos none_)
  case cellExpiry => exact congrArg (fun h => { x with sec := { x.sec with nonce := false, holder := h } }) (if_neg some_)
  case halting =>
    intro y
    have same : y.rd Kv.DBG_STAT.HALTED = k.rd Kv.DBG_STAT.HALTED := Kv.rd_wr_ne _ _ (by decide)
    refine ⟨kvBy rfl (coreCmd_halting mine _ _ halting), fun calm => kvBy rfl ((coreCmd_halting mine _ _ halting).trans ?_),
      kvBy rfl (congrArg Kv.runSteps (coreCmd_halting mine _ _ halting))⟩
    rw [← same]
    exact resume_of_not_killWait (k := y) calm _
  case low =>
    intro y
    exact ⟨kvBy rfl (coreCmd_low mine _ _ low), kvBy rfl (coreCmd_low mine _ _ low), kvBy rfl (congrArg Kv.runSteps (coreCmd_low mine _ _ low))⟩
  case cellOthers =>
    intro y
    exact ⟨kcBy rfl (debugChalCell_other running other), kcBy rfl (debugCloseCell_other running other), kcBy rfl (Cell.coreCmd_other running other _)⟩
  case cellMine =>
    refine ⟨⟨_, kcBy rfl rfl, debugChalCell_shows running mine⟩, fun halting => ⟨fun state => kcBy rfl (cellHaltCell_parks running mine halting state),
      kcBy rfl (Cell.coreCmd_halting running mine halting _), kcBy rfl (congrArg Cell.runStep (Cell.coreCmd_halting running mine halting _))⟩,
      fun low _ => ⟨kcBy rfl (Cell.coreCmd_low running mine low _), kcBy rfl (Cell.coreCmd_low running mine low _)⟩⟩
  case boot =>
    exact ⟨kcBy rfl (ccBootChkCell_runs running alive i), fun may other => kcBy rfl (ccBootSelWriteCell_taken running alive may other),
      fun other unchecked => kcBy rfl (ccBootSelWriteCell_unchecked running other unchecked)⟩

end Sys2Proof.Machine
end

section
/-! Resets of a chip and of its SerDes regions (R569, R572, R586). -/

namespace Sys2Proof.Machine

/-! ### Power-on and the release from reset -/

theorem powerOnResetKv_shows (k : Kv) : let y := powerOnResetKv k
    y.boot.inReset = true ∧ y.tim.tick = 0 ∧ y.tim.ns = 0 ∧ y.tim.inc = 10 * 2 ^ 32 ∧ y.mem = [] ∧ y.rd Kv.SYS_RST.CAUSE = 0 ∧
      y.on Kv.FLT_FF0.VALID = false ∧ y.on Kv.TIM_STAT.ALIGNED = false ∧ y.roleB = k.roleB ∧ y.sec.keys = k.sec.keys ∧
      y.sec.prog = k.sec.prog ∧ y.sec.rev = k.sec.rev ∧ y.sec.svn = k.sec.svn := by
  intro y
  have others (F : Fld) (h : F.key 0 0 ≠ Kv.SYS_STAT.ROLEB.key 0 0) : y.rd F = F.get 0 0 [] := Fld.get_set_ne _ _ h
  have role : y.rd Kv.SYS_STAT.ROLEB = b2n k.roleB % 2 := Fld.get_set_same Kv.SYS_STAT.ROLEB 0 0 _ []
  refine ⟨rfl, rfl, rfl, rfl, rfl, others _ (by decide), ?_, ?_, ?_, rfl, rfl, rfl, rfl⟩
  · exact congrArg (· == 1) (others Kv.FLT_FF0.VALID (by decide))
  · exact congrArg (· == 1) (others Kv.TIM_STAT.ALIGNED (by decide))
  · refine (congrArg (· == 1) role).trans ?_
    cases k.roleB <;> rfl

/-- The release brings the chip up with the strap, the security state and a fault of the key store as found (R548, R570). -/
theorem resetReleaseKv_held {k : Kv} (held : k.boot.inReset = true) (bench kflt : Bool) :
    let y : Kv := ((({ k with boot := {}, sec := { k.sec with fault := kflt }, tim := k.tim.reload } : Kv).wr Kv.SEC_STAT.BENCH
      (if bench then 1 else 0)).wr Kv.SEC_STAT.STATE (if k.sec.retired then 3 else if k.sec.sealed || kflt then 1 else 0))
    let y := if k.boot.powerOn then y else y.raise Src.SYS_RST 0 0
    resetReleaseKv bench kflt k = if kflt then (y.mark Kv.SEC_STAT.KFLT).raise Src.SEC_KEY 0 0 else y := by
  unfold resetReleaseKv
  rw [held]
  cases k.boot.powerOn <;> rfl

/-! ### A chip reset -/

section
variable {k : Kv} {cause : Nat}

/-- What a chip reset leaves of a register beside the three it writes: the always-on ones as they were, any other at its reset value. -/
theorem chipReset_rd {F : Fld}
    (apart : F.key 0 0 ≠ Kv.SYS_RST.CAUSE.key 0 0 ∧ F.key 0 0 ≠ Kv.TIM_STAT.STBY.key 0 0 ∧ F.key 0 0 ≠ Kv.TIM_STAT.ALIGNED.key 0 0) :
    (k.chipReset cause).rd F = F.get 0 0 (k.regs.filter fun e => Kv.alwaysOn e.1) := by
  obtain ⟨hCause, hStby, hAligned⟩ := apart
  exact (Kv.rd_wr_ne _ _ hCause).trans ((Kv.rd_wr_ne _ _ hStby).trans (Kv.rd_wr_ne _ _ hAligned))

theorem chipReset_rd_kept {F : Fld}
    (apart : F.key 0 0 ≠ Kv.SYS_RST.CAUSE.key 0 0 ∧ F.key 0 0 ≠ Kv.TIM_STAT.STBY.key 0 0 ∧ F.key 0 0 ≠ Kv.TIM_STAT.ALIGNED.key 0 0)
    (on : Kv.alwaysOn (F.key 0 0) = true) : (k.chipReset cause).rd F = k.rd F := by
  rw [chipReset_rd apart, Fld.get, Tab.get_filter_kept 0 _ _ fun _ => on]
  rfl

theorem chipReset_rd_reset {F : Fld}
    (apart : F.key 0 0 ≠ Kv.SYS_RST.CAUSE.key 0 0 ∧ F.key 0 0 ≠ Kv.TIM_STAT.STBY.key 0 0 ∧ F.key 0 0 ≠ Kv.TIM_STAT.ALIGNED.key 0 0)
    (off : Kv.alwaysOn (F.key 0 0) = false) : (k.chipReset cause).rd F = F.get 0 0 [] := by
  rw [chipReset_rd apart, Fld.get, Tab.get_filter_dropped 0 _ _ fun _ => off]
  rfl

theorem chipReset_shows (k : Kv) (known : cause < 8) : let y := k.chipReset cause
    y.boot.inReset = true ∧ y.rd Kv.SYS_RST.CAUSE = cause ∧ y.tim.tick = k.tim.tick ∧ y.mem = [] ∧
      y.rd Kv.FLT_FF0.VALID = k.rd Kv.FLT_FF0.VALID ∧ y.roleB = k.roleB ∧ y.on Kv.TIM_STAT.ALIGNED = false ∧ y.on Kv.CL_STAT.UP = false := by
  intro y
  refine ⟨rfl, (Kv.rd_wr_same ..).trans (Nat.mod_eq_of_lt known), rfl, rfl, chipReset_rd_kept (by decide) (by decide),
    congrArg (· == 1) (chipReset_rd_kept (F := Kv.SYS_STAT.ROLEB) (by decide) (by decide)), ?_,
    congrArg (· == 1) (chipReset_rd_reset (F := Kv.CL_STAT.UP) (by decide) (by decide))⟩
  refine (Kv.on_wr_ne _ _ (by decide)).trans ((Kv.on_wr_ne _ _ (by decide)).trans ?_)
  exact congrArg (· == 1) (Kv.rd_wr_same _ Kv.TIM_STAT.ALIGNED 0 0 0)

end

theorem rstCode_wrong {code : BitVec 16} (wrong : code ≠ 0x7E57#16) : rstCode code = false := beq_eq_false_iff_ne.mpr wrong

/-! ### A SerDes reset (R616) -/

section
variable (k : Kv)

/-- A fold of writes to fields that lie apart from a register leaves that register. -/
theorem foldl_wr_rd {W : Fld} (hW : 0 < W.c1 ∧ 0 < W.c2) {l : List Fld} {p : Fld → Prop} [DecidablePred p] {i : Nat}
    (apart : ∀ F ∈ l, p F → W.apart F = true ∧ i < F.c1 ∧ 0 < F.c2) (s : Kv) :
    (l.foldl (fun s f => if p f then s.wr f (f.rst i) i else s) s).rd W = s.rd W := by
  induction l generalizing s with
  | nil => rfl
  | cons F l ih =>
    rw [List.foldl_cons, ih fun G hG => apart G (List.mem_cons_of_mem F hG)]
    split
    · rename_i taken
      obtain ⟨h, hi, hj⟩ := apart F List.mem_cons_self taken
      exact s.rd_wr_ne _ (Fld.key_ne_of_apart h hW.1 hW.2 hi hj)
    · rfl

/-- The castle link's state is no register of a string port, and of no single lane. -/
theorem up_apart_fldsSP : ∀ F ∈ Kv.fldsSP, F.c1 = 32 → Kv.CL_STAT.UP.apart F = true ∧ 0 < F.c2 := by decide +kernel

theorem up_apart_fldsCL : ∀ F ∈ Kv.fldsCL, F.c1 = 8 → Kv.CL_STAT.UP.apart F = true ∧ 0 < F.c2 := by decide +kernel

/-- What no step over the members of a list changes is as it was after all of them. -/
theorem Kv.each_keeps_of_mem {α : Type} (p : Kv → α) {f : Kv → Nat → Kv} {l : List Nat} (h : ∀ s, ∀ n ∈ l, p (f s n) = p s) (s : Kv) :
    p (s.each l f) = p s := by
  unfold Kv.each
  induction l generalizing s with
  | nil => rfl
  | cons n l ih => exact (ih (fun s m hm => h s m (List.mem_cons_of_mem n hm)) (f s n)).trans (h s n List.mem_cons_self)

/-- Port `i`, and lane `i`, as a SerDes reset leaves them. -/
def Kv.portReset (s : Kv) (i : Nat) : Kv :=
  (Kv.fldsSP.foldl (fun s f => if f.c1 = 32 ∧ f.key 0 0 ≠ Kv.SPn_PEAK.SAVED.key 0 0 then s.wr f (f.rst i) i else s) s).onSp i
    fun p => { hop := p.hop.saved }
def Kv.laneReset (s : Kv) (i : Nat) : Kv :=
  let s := Kv.fldsCL.foldl (fun s f => if f.c1 = 8 ∧ f.key 0 0 ≠ Kv.CLn_PEAK.SAVED.key 0 0 then s.wr f (f.rst i) i else s) s
  { s with cl := Tab.upd {} i Hop.saved s.cl }

theorem serdesReset_eq (ports lanes : List Nat) : k.serdesReset ports lanes = (k.each ports Kv.portReset).each lanes Kv.laneReset := rfl

theorem onSp_rd (s : Kv) (n : Nat) (f : SpPort → SpPort) (F : Fld) (i j : Nat) : (s.onSp n f).rd F i j = s.rd F i j := rfl

theorem portReset_up (s : Kv) {i : Nat} (hi : i < 32) : (s.portReset i).rd Kv.CL_STAT.UP = s.rd Kv.CL_STAT.UP := by
  unfold Kv.portReset
  rw [onSp_rd]
  refine foldl_wr_rd (by decide) (fun F hF taken => ?_) s
  obtain ⟨h, hc⟩ := up_apart_fldsSP F hF taken.1
  exact ⟨h, by rw [taken.1]; exact hi, hc⟩

theorem laneReset_up (s : Kv) {i : Nat} (hi : i < 8) : (s.laneReset i).rd Kv.CL_STAT.UP = s.rd Kv.CL_STAT.UP := by
  unfold Kv.laneReset
  generalize folded : Kv.fldsCL.foldl _ s = t
  refine Eq.trans (b := t.rd Kv.CL_STAT.UP) rfl ?_
  rw [← folded]
  refine foldl_wr_rd (by decide) (fun F hF taken => ?_) s
  obtain ⟨h, hc⟩ := up_apart_fldsCL F hF taken.1
  exact ⟨h, by rw [taken.1]; exact hi, hc⟩

theorem serdesReset_up {ports lanes : List Nat} (hp : ∀ i ∈ ports, i < 32) (hl : ∀ i ∈ lanes, i < 8) :
    (k.serdesReset ports lanes).on Kv.CL_STAT.UP = k.on Kv.CL_STAT.UP := by
  have lanesKeep := Kv.each_keeps_of_mem (fun s => s.rd Kv.CL_STAT.UP) (f := Kv.laneReset) fun s i hi => laneReset_up s (hl i hi)
  have portsKeep := Kv.each_keeps_of_mem (fun s => s.rd Kv.CL_STAT.UP) (f := Kv.portReset) fun s i hi => portReset_up s (hp i hi)
  rw [serdesReset_eq, Kv.on, Kv.on, lanesKeep, portsKeep]

/-- In PARKED and with the castle link down a SerDes reset is that of its ports and lanes alone. -/
theorem serdesAsk_parked {k : Kv} (parked : k.parked = true) (down : k.on Kv.CL_STAT.UP = false) {ports lanes : List Nat}
    (hp : ∀ i ∈ ports, i < 32) (hl : ∀ i ∈ lanes, i < 8) : k.serdesAsk 0x7E57#16 ports lanes = k.serdesReset ports lanes := by
  have still (b : Bool) : ((k.serdesReset ports lanes).on Kv.CL_STAT.UP && b) = false := by
    rw [serdesReset_up k hp hl, down, Bool.false_and]
  unfold Kv.serdesAsk
  rw [if_neg (by decide), parked, if_neg (by decide)]
  exact if_neg (by rw [still]; exact Bool.false_ne_true)

theorem serdesAsk_unparked {k : Kv} (out : k.parked = false) (ports lanes : List Nat) :
    k.serdesAsk 0x7E57#16 ports lanes = k.raise Src.REGACC 17 Kv.SYS_RST.SDE.base :=
  (if_neg (by decide)).trans (if_pos (by rw [out]; rfl))

theorem serdesAsk_wrong {k : Kv} {code : BitVec 16} (wrong : code ≠ 0x7E57#16) (ports lanes : List Nat) : k.serdesAsk code ports lanes = k :=
  if_pos (by rw [rstCode_wrong wrong]; rfl)

end

end Sys2Proof.Machine
end

section
/-! Start-up phases, SYS_BOOT and power states of a chip (R559, R573 to R583), and the statement on them and on resets. -/

namespace Sys2Proof.Machine

/-! ### A phase ends (R572 to R580) -/

section
variable {k : Kv} {mem : Bool} {im jm : Image} (running : k.boot.run = true) (parked : k.rd Kv.SYS_PWR.STATE = 1)
include running parked

theorem phase_runs : ¬ (!k.boot.run || k.rd Kv.SYS_PWR.STATE != 1) = true := by
  rw [running, parked]
  decide

theorem phaseCompleteKv_keys (phase : k.rd Kv.SYS_STAT.PHASE = 0) :
    phaseCompleteKv mem im jm k = if k.sec.fault = true then k.bootFail 0 [6] none else k.bootPass 0 := by
  refine (if_neg (phase_runs running parked)).trans ?_
  rw [phase]
  rfl

theorem phaseCompleteKv_memory (phase : k.rd Kv.SYS_STAT.PHASE = 1) : phaseCompleteKv mem im jm k =
    if mem = false then k.bootFail 1 [5] none else if k.on Kv.MEM_STAT.READY = true then k.bootPass 1 else k := by
  refine (if_neg (phase_runs running parked)).trans ?_
  rw [phase]
  cases mem <;> rfl

theorem phaseCompleteKv_image (phase : k.rd Kv.SYS_STAT.PHASE = 2) :
    phaseCompleteKv mem im jm k = if k.rd Kv.SYS_STAT.BOOTSRC = 2 then k.bootHost im else k.bootQspi im jm := by
  refine (if_neg (phase_runs running parked)).trans ?_
  rw [phase]
  rfl

theorem phaseCompleteKv_ports (phase : k.rd Kv.SYS_STAT.PHASE = 3)
    (up : ∀ q ∈ k.strings, k.rd Kv.SPn_STAT.LSTATE q = 4 ∧ k.on Kv.SPn_CTRL.NRZ q = false) : phaseCompleteKv mem im jm k = k.bootPass 3 := by
  have all_ : k.strings.all (fun n => k.rd Kv.SPn_STAT.LSTATE n == lUp || k.rd Kv.SPn_PWR.PSTATE n == 3) = true :=
    List.all_eq_true.mpr fun q hq => by
      rw [(up q hq).1]
      rfl
  have none_ : k.strings.find? k.portFails = none := List.find?_eq_none.mpr fun q hq => by
    rw [Kv.portFails, (up q hq).1, (up q hq).2]
    exact Bool.false_ne_true
  refine (if_neg (phase_runs running parked)).trans ?_
  rw [phase]
  refine (if_pos all_).trans ?_
  rw [none_]

theorem phaseCompleteKv_map (phase : k.rd Kv.SYS_STAT.PHASE = 4) (pass : ∀ q ∈ k.strings, k.mapPasses q = true) (found : k.boot.disc = true) :
    phaseCompleteKv mem im jm k = k.bootPass 4 := by
  have none_ : k.strings.find? (fun n => !k.mapPasses n || !k.boot.disc) = none := List.find?_eq_none.mpr fun q hq => by
    rw [pass q hq, found]
    decide
  refine (if_neg (phase_runs running parked)).trans ?_
  rw [phase]
  dsimp only
  rw [none_]
  rfl

theorem phaseCompleteKv_timing (phase : k.rd Kv.SYS_STAT.PHASE = 5) : phaseCompleteKv mem im jm k =
    if k.timingMeasured (fun n => (k.spP n).pMax) = true then k.bootPass 5 else k.bootFail 5 [2] none := by
  refine (if_neg (phase_runs running parked)).trans ?_
  rw [phase]
  rfl

theorem phaseCompleteKv_cells (phase : k.rd Kv.SYS_STAT.PHASE = 6) : phaseCompleteKv mem im jm k =
    let y := k.silentCells.foldl Kv.identityFails k
    if y.cellsPass = true then y.bootPass 6 else y.bootFail 6 [7] none := by
  refine (if_neg (phase_runs running parked)).trans ?_
  rw [phase]
  rfl

end

section
variable {k : Kv} (running : k.boot.run = true)
include running

theorem discoveryStableKv_stable (phase : k.rd Kv.SYS_STAT.PHASE = 4)
    (stable : ∀ q ∈ k.strings, (k.spP q).found ≠ 0 ∧ 64 ≤ (k.spP q).foundRun) :
    discoveryStableKv k = { k with boot := { k.boot with disc := true } } := by
  refine if_pos ?_
  rw [running, phase, List.all_eq_true.mpr fun q hq => ?_]
  · rfl
  · rw [decide_eq_true (stable q hq).2, Bool.and_true]
    exact bne_iff_ne.mpr (stable q hq).1

variable (phase : k.rd Kv.SYS_STAT.PHASE = 6) {img : Image} (loaded : k.dsp.img = some img) (a : Nat) (ident : Option Word)
include phase loaded

/-- A cell that has answered is noted, and overridden unless it runs the program that the image names for its class. -/
theorem cellIdentityCheckKv_noted : cellIdentityCheckKv a ident k =
    let y : Kv := { k with boot := { k.boot with idSeen := Tab.set 0 a 1 k.boot.idSeen } }
    if (ident.isSome && ident == img.cellId (ctlClass (k.ctl0 a))) = true then y else y.identityFails a := by
  unfold cellIdentityCheckKv
  rw [running, phase, loaded]
  rfl

theorem cellIdentityCheckKv_named (answered : ident ≠ none) (named : ident = img.cellId (ctlClass (k.ctl0 a))) :
    cellIdentityCheckKv a ident k = { k with boot := { k.boot with idSeen := Tab.set 0 a 1 k.boot.idSeen } } :=
  (cellIdentityCheckKv_noted running phase loaded a ident).trans
    (if_pos (Bool.and_eq_true_iff.mpr ⟨Option.isSome_iff_ne_none.mpr answered, beq_iff_eq.mpr named⟩))

theorem cellIdentityCheckKv_other (other : ident = none ∨ ident ≠ img.cellId (ctlClass (k.ctl0 a))) : cellIdentityCheckKv a ident k =
    ({ k with boot := { k.boot with idSeen := Tab.set 0 a 1 k.boot.idSeen } } : Kv).identityFails a := by
  refine (cellIdentityCheckKv_noted running phase loaded a ident).trans (if_neg fun h => ?_)
  obtain ⟨answered, named⟩ := Bool.and_eq_true_iff.mp h
  exact other.elim (Option.isSome_iff_ne_none.mp answered) fun differs => differs (beq_iff_eq.mp named)

end

/-! ### Probing (R574) -/

section
variable {k : Kv} {u : Nat} (mapped : k.mapped u = true) (late_ : 3 ≤ k.rd Kv.SYS_STAT.PHASE) (late : Bool)
include mapped late_

theorem probeStart_roleA (role : k.roleB = false) :
    probeStartRoleAKv u k = probeOffTimeEndKv u k ∧ probeStartRoleBKv u late k = k := by
  refine ⟨if_pos ?_, if_neg ?_⟩
  · rw [role, mapped, decide_eq_true late_]
    rfl
  · rw [role, Bool.false_and, Bool.false_and, Bool.false_and]
    exact Bool.false_ne_true

theorem probeStart_roleB (role : k.roleB = true) (heard : (k.spP u).farSeen = true ∨ late = true) :
    probeStartRoleBKv u late k = probeOffTimeEndKv u k ∧ probeStartRoleAKv u k = k := by
  refine ⟨if_pos ?_, if_neg ?_⟩
  · rw [role, mapped, decide_eq_true late_, Bool.or_eq_true_iff.mpr heard]
    rfl
  · rw [role, Bool.not_true, Bool.false_and, Bool.false_and]
    exact Bool.false_ne_true

end

/-! ### SYS_BOOT (R582) -/

section
variable {k : Kv}

theorem bootOpen_of (may : k.on Kv.SYS_STAT.HELD = true ∨ (k.parked = true ∧ k.mode = 0 ∧ k.duty = false)) : k.bootOpen = true := by
  rcases may with held | ⟨parked, stopped, standby⟩
  · rw [Kv.bootOpen, held, Bool.true_or]
  · rw [Kv.bootOpen, parked, stopped, standby]
    exact Bool.or_true _

theorem not_bootOpen_of_duty (released : k.on Kv.SYS_STAT.HELD = false) (duty : k.duty = true) : k.bootOpen = false := by
  rw [Kv.bootOpen, released, duty, Bool.not_true, Bool.and_false, Bool.or_false]

/-- The slot that SYS_BOOT names does not bear on whether it is open. -/
theorem bootOpen_wr_slot (v : Nat) : (k.wr Kv.SYS_BOOT.SLOT v).bootOpen = k.bootOpen := by
  have on_ (F : Fld) (h : F.key 0 0 ≠ Kv.SYS_BOOT.SLOT.key 0 0) : (k.wr Kv.SYS_BOOT.SLOT v).rd F = k.rd F := Kv.rd_wr_ne _ _ h
  simp only [Kv.bootOpen, Kv.parked, Kv.mode, Kv.duty, Kv.on, on_ Kv.SYS_STAT.HELD (by decide), on_ Kv.SYS_PWR.STATE (by decide),
    on_ Kv.DSP_STAT.MODE (by decide), on_ Kv.CL_CASST.TOKEN (by decide)]

theorem sysBootLoadKv_open (may : k.bootOpen = true) (slot : Bool) : let y := sysBootLoadKv slot k
    y.rd Kv.SYS_STAT.PHASE = 2 ∧ y.rd Kv.SYS_STAT.BOOTSRC = 2 ∧ y.boot.run = true ∧ y.rd Kv.SYS_BOOT.SLOT = if slot then 1 else 0 := by
  intro y
  have loads : y = ({ (k.wr Kv.SYS_BOOT.SLOT (b2n slot)).wr Kv.SYS_STAT.BOOTSRC 2 with boot := { k.boot with run := true } } : Kv).wr
      Kv.SYS_STAT.PHASE 2 := if_neg (by rw [bootOpen_wr_slot, may]; decide)
  have kept (F : Fld) (h : F.key 0 0 ≠ Kv.SYS_STAT.PHASE.key 0 0) : y.rd F =
      ((k.wr Kv.SYS_BOOT.SLOT (b2n slot)).wr Kv.SYS_STAT.BOOTSRC 2).rd F := by
    rw [loads]
    exact Kv.rd_wr_ne _ _ h
  refine ⟨by rw [loads]; exact Kv.rd_wr_same .., (kept _ (by decide)).trans (Kv.rd_wr_same _ Kv.SYS_STAT.BOOTSRC 2 0 0), by rw [loads]; rfl,
    (kept _ (by decide)).trans ((Kv.rd_wr_ne _ _ (by decide)).trans ((Kv.rd_wr_same ..).trans ?_))⟩
  cases slot <;> rfl

theorem sysBootLoadKv_closed (closed : k.bootOpen = false) (slot : Bool) : sysBootLoadKv slot k =
    (k.wr Kv.SYS_BOOT.SLOT (if slot then 1 else 0)).raise Src.REGACC 17 Kv.SYS_BOOT.CMD.base :=
  if_pos (by rw [bootOpen_wr_slot, closed]; rfl)

/-- The checks run again from PHASE 2, the first that failed. -/
theorem sysBootRechkKv_open (may : k.bootOpen = true) (idle : k.boot.run = false) (failed : k.boot.fail = 3) : let y := sysBootRechkKv k
    y.rd Kv.SYS_STAT.PHASE = 2 ∧ y.boot.run = true := by
  intro y
  have rechecks : y = ({ k with boot := { k.boot with run := true } } : Kv).wr Kv.SYS_STAT.PHASE 2 := by
    refine (if_neg (by rw [may]; decide)).trans ((if_neg (by rw [idle, failed]; decide)).trans ?_)
    simp only [failed]
    rfl
  rw [rechecks]
  exact ⟨Kv.rd_wr_same .., rfl⟩

theorem sysBootRechkKv_closed (closed : k.bootOpen = false) : sysBootRechkKv k = k.raise Src.REGACC 17 Kv.SYS_BOOT.CMD.base :=
  if_pos (by rw [closed]; rfl)

end

/-! ### Power states (R559) -/

section
variable {k : Kv}

theorem parked_iff (k : Kv) : k.parked = true ↔ k.rd Kv.SYS_PWR.STATE = 1 := beq_iff_eq

theorem powerRequestParkedKv_run (run : k.rd Kv.SYS_PWR.STATE = 0) : powerRequestParkedKv k = k.wr Kv.SYS_PWR.STATE 1 := by
  unfold powerRequestParkedKv
  rw [run]
  rfl

theorem powerRequestStandbyKv_run (run : k.rd Kv.SYS_PWR.STATE = 0) :
    powerRequestStandbyKv k = k.raise Src.REGACC 17 Kv.SYS_PWR.REQ.base := by
  have out : k.parked = false := by rw [Kv.parked, run]; rfl
  exact (if_neg (by rw [run]; decide)).trans (if_pos (by rw [out]; rfl))

theorem powerRequestStandbyKv_parked (parked : k.parked = true) (stopped : k.mode = 0) (standby : k.duty = false)
    (closed : k.rd Kv.DBG_STAT.LEVEL = 0) : powerRequestStandbyKv k = (k.darken).wr Kv.SYS_PWR.STATE 2 :=
  (if_neg (by rw [(parked_iff k).mp parked]; decide)).trans (if_neg (by rw [parked, stopped, standby, closed]; decide))

/-- Out of STANDBY the time base has to align again. -/
theorem powerRequestParkedKv_standby (dark : k.rd Kv.SYS_PWR.STATE = 2) : let y := powerRequestParkedKv k
    y.rd Kv.SYS_PWR.STATE = 1 ∧ y.on Kv.TIM_STAT.ALIGNED = false ∧ y.tim.alignRun = 0 := by
  intro y
  let t : Kv := { (k.wr Kv.SYS_PWR.STATE 1).wr Kv.TIM_STAT.ALIGNED 0 with tim := { k.tim with alignRun := 0 } }
  have starts : y = (t.each (List.range 32) fun s n => s.onSp n fun p => { p with txOut := s.on Kv.SPn_CTRL.TXEN n }).each (List.range 32)
      fun s n => s.when (s.on Kv.SPn_PWR.EN n && !s.on Kv.SPn_PWR.GIVEUP n) fun s => s.wr Kv.SPn_PWR.PSTATE 1 n := by
    simp only [y, powerRequestParkedKv, dark]
    rfl
  have kept (F : Fld) (h : F.apart Kv.SPn_PWR.PSTATE = true) (hc : 0 < F.c1 ∧ 0 < F.c2) : y.rd F = t.rd F := by
    have powered := Kv.each_keeps_of_mem (fun s => s.rd F)
      (f := fun s n => s.when (s.on Kv.SPn_PWR.EN n && !s.on Kv.SPn_PWR.GIVEUP n) fun s => s.wr Kv.SPn_PWR.PSTATE 1 n) (l := List.range 32)
      fun s n hn => Kv.when_keeps (fun s => s.rd F) (f := fun s => s.wr Kv.SPn_PWR.PSTATE 1 n) s
        (s.rd_wr_ne 1 (Fld.key_ne_of_apart h hc.1 hc.2 (List.mem_range.mp hn) Nat.one_pos)) _
    have lit := t.each_keeps (fun s => s.rd F) (f := fun s n => s.onSp n fun p => { p with txOut := s.on Kv.SPn_CTRL.TXEN n })
      (fun _ _ => rfl) (List.range 32)
    rw [starts, powered, lit]
  refine ⟨(kept _ (by decide) (by decide)).trans
    ((Kv.rd_wr_ne (k.wr Kv.SYS_PWR.STATE 1) (F := Kv.SYS_PWR.STATE) (G := Kv.TIM_STAT.ALIGNED) 0 (i := 0) (j := 0) (p := 0) (q := 0) (by decide)).trans
      (Kv.rd_wr_same _ Kv.SYS_PWR.STATE 1 0 0)),
    congrArg (· == 1) ((kept _ (by decide) (by decide)).trans (Kv.rd_wr_same _ Kv.TIM_STAT.ALIGNED 0 0 0)), ?_⟩
  have powered := Kv.each_keeps (fun s => s.tim)
    (f := fun s n => s.when (s.on Kv.SPn_PWR.EN n && !s.on Kv.SPn_PWR.GIVEUP n) fun s => s.wr Kv.SPn_PWR.PSTATE 1 n)
    fun s n => Kv.when_keeps (fun s => s.tim) (f := fun s => s.wr Kv.SPn_PWR.PSTATE 1 n) s rfl _
  have lit := t.each_keeps (fun s => s.tim) (f := fun s n => s.onSp n fun p => { p with txOut := s.on Kv.SPn_CTRL.TXEN n })
    (fun _ _ => rfl) (List.range 32)
  rw [starts, powered, lit]

variable (parked : k.parked = true)
include parked

theorem powerRequestRunKv_refused (bad : k.on Kv.SYS_STAT.HELD = true ∨ k.boot.run = true ∨ k.secState = 3) :
    powerRequestRunKv k = k.raise Src.REGACC 17 Kv.SYS_PWR.REQ.base := by
  refine (if_neg (by rw [(parked_iff k).mp parked]; decide)).trans (if_pos ?_)
  rcases bad with h | h | h <;> simp [h]

theorem powerRequestRunKv_taken (released : k.on Kv.SYS_STAT.HELD = false) (idle : k.boot.run = false) (live : k.secState ≠ 3)
    (resumed : k.secState = 2 → k.rd Kv.DBG_STAT.HALTED = 0)
    (ports : ∀ q : Nat, q < 32 → k.on Kv.SPn_CTRL.EN q = true → k.on Kv.SPn_CTRL.TEST q = false ∧ k.on Kv.SPn_CTRL.NRZ q = false)
    (up : ∀ q ∈ k.strings, k.portFails q = false) (set_ : k.timingSet = true)
    (measured : k.timingMeasured (fun q => k.rd Kv.SPn_PDLY.P q) = true) : powerRequestRunKv k = k.wr Kv.SYS_PWR.STATE 0 := by
  have enabled : ∀ q ∈ (List.range 32).filter (fun n => k.on Kv.SPn_CTRL.EN n), k.on Kv.SPn_CTRL.TEST q = false ∧ k.on Kv.SPn_CTRL.NRZ q = false :=
    fun q hq => by
      obtain ⟨hr, he⟩ := List.mem_filter.mp hq
      exact ports q (List.mem_range.mp hr) he
  have untested : ((List.range 32).filter (fun n => k.on Kv.SPn_CTRL.EN n)).any (fun n => k.on Kv.SPn_CTRL.TEST n) = false :=
    List.any_eq_false.mpr fun q hq => by rw [(enabled q hq).1]; decide
  have halts : (k.secState == 2 && k.rd Kv.DBG_STAT.HALTED != 0) = false := by
    by_cases service : k.secState = 2
    · rw [resumed service]
      exact Bool.and_false _
    · rw [beq_eq_false_iff_ne.mpr service, Bool.false_and]
  have fast : ((List.range 32).filter (fun n => k.on Kv.SPn_CTRL.EN n)).filter (fun n => k.on Kv.SPn_CTRL.NRZ n) = [] :=
    List.filter_eq_nil_iff.mpr fun q hq => by rw [(enabled q hq).2]; decide
  have sound : k.strings.find? k.portFails = none := List.find?_eq_none.mpr fun q hq => by rw [up q hq]; decide
  unfold powerRequestRunKv
  rw [if_neg (by rw [(parked_iff k).mp parked]; decide)]
  simp only [parked, released, idle, beq_eq_false_iff_ne.mpr live, untested, halts, fast, sound, set_, measured, Bool.not_true, Bool.or_self,
    Bool.false_eq_true, if_false, List.head?_nil, Option.or_none, Option.isSome_none, Kv.when_false]

end

end Sys2Proof.Machine
end

section
/-! The statement on resets, start-up phases and power states (R559, R567 to R587, R605). -/

namespace Sys2Proof.Machine

/-- Settles O60: each command comes to the clause that its state selects. -/
theorem resetsStartUpPhasesAndPowerStates : Obligations.Resets_start_up_phases_and_power_states := by
  intro s c code n late slot mem bench kflt a ident im jm k u goes
  refine ⟨⟨_, exec_always rfl rfl, powerOnResetKv_shows k⟩, fun held => exec_always rfl (resetReleaseKv_held held bench kflt), fun live => ?_⟩
  have goesBy {j : Instr} {f : Kv → Kv} {y : Kv} (named : exec j s = .next (s.onKv c f)) (does : f k = y) : goes j y := exec_live live named does
  have west : ∀ i ∈ List.range 16, i < 32 := by decide
  have east : ∀ i ∈ (List.range 16).map (· + 16), i < 32 := by decide
  intro phase reset end_ refused
  refine ⟨⟨_, goesBy rfl rfl, chipReset_shows k (by decide)⟩, ⟨_, goesBy rfl rfl, chipReset_shows k (by decide)⟩,
    ⟨_, goesBy rfl rfl, chipReset_shows k (by decide)⟩, fun wrong => ?wrong, fun parked down => ?serdes, fun out => ?unparked, goesBy rfl rfl,
    fun running parked => ?phases, fun mapped started => ?probe, fun may => ?boot, fun released duty => ?closed, fun run => ?run,
    fun parked stopped standby closed => goesBy rfl (powerRequestStandbyKv_parked parked stopped standby closed),
    fun dark => ⟨_, goesBy rfl rfl, powerRequestParkedKv_standby dark⟩, fun parked => ⟨fun bad => goesBy rfl (powerRequestRunKv_refused parked bad),
    fun released idle alive resumed ports up set_ measured =>
      goesBy rfl (powerRequestRunKv_taken parked released idle alive resumed ports up set_ measured)⟩⟩
  case wrong =>
    exact ⟨goesBy rfl (if_neg (by rw [rstCode_wrong wrong]; exact Bool.false_ne_true)), goesBy rfl (serdesAsk_wrong wrong ..),
      goesBy rfl (serdesAsk_wrong wrong ..)⟩
  case serdes =>
    exact ⟨goesBy rfl (serdesAsk_parked parked down west (by decide)), goesBy rfl (serdesAsk_parked parked down east (by decide))⟩
  case unparked => exact ⟨goesBy rfl (serdesAsk_unparked out ..), goesBy rfl (serdesAsk_unparked out ..)⟩
  case phases =>
    refine ⟨fun at0 => goesBy rfl (phaseCompleteKv_keys running parked at0), fun at1 => ⟨fun untrained => goesBy rfl ?_, fun trained ready => goesBy rfl ?_⟩,
      fun at2 own => goesBy rfl ((phaseCompleteKv_image running parked at2).trans (if_neg own)),
      fun at2 host => goesBy rfl ((phaseCompleteKv_image running parked at2).trans (if_pos host)),
      fun at3 up => goesBy rfl (phaseCompleteKv_ports running parked at3 up),
      fun at4 pass found => goesBy rfl (phaseCompleteKv_map running parked at4 pass found),
      fun at5 => goesBy rfl (phaseCompleteKv_timing running parked at5), fun at6 => goesBy rfl (phaseCompleteKv_cells running parked at6),
      fun at4 stable => goesBy rfl (discoveryStableKv_stable running at4 stable),
      fun img at6 loaded => ⟨fun answered named => goesBy rfl (cellIdentityCheckKv_named running at6 loaded _ _ answered named),
        fun other => goesBy rfl (cellIdentityCheckKv_other running at6 loaded _ _ other)⟩⟩
    · exact (phaseCompleteKv_memory running parked at1).trans (if_pos untrained)
    · exact (phaseCompleteKv_memory running parked at1).trans ((if_neg (by rw [trained]; decide)).trans (if_pos ready))
  case probe =>
    refine ⟨fun role => ?_, fun role heard => ?_⟩
    · obtain ⟨starts, waits⟩ := probeStart_roleA mapped started late role
      exact ⟨goesBy rfl starts, goesBy rfl waits⟩
    · obtain ⟨starts, waits⟩ := probeStart_roleB mapped started late role heard
      exact ⟨goesBy rfl starts, goesBy rfl waits⟩
  case boot =>
    exact ⟨⟨_, goesBy rfl rfl, sysBootLoadKv_open (bootOpen_of may) slot⟩,
      fun idle failed => ⟨_, goesBy rfl rfl, sysBootRechkKv_open (bootOpen_of may) idle failed⟩⟩
  case closed =>
    have closed := not_bootOpen_of_duty released duty
    exact ⟨goesBy rfl (sysBootLoadKv_closed closed slot), goesBy rfl (sysBootRechkKv_closed closed)⟩
  case run => exact ⟨goesBy rfl (powerRequestParkedKv_run run), goesBy rfl (if_pos run), goesBy rfl (powerRequestStandbyKv_run run)⟩

end Sys2Proof.Machine
end
